-- ==== Sys2Proof/Word.lean ====
section
/-!
DEFINITION. The word and byte types of the block: 32-bit registers and bus words (R222), 8-bit memory bytes, and the tenant
identity of two bits (R17, Table 0.3).
-/

namespace Sys2Proof

/-- A register, bus or memory word. -/
abbrev Word := BitVec 32

/-- A byte of memory. -/
abbrev Byte := BitVec 8

/-- A tenant identity, T0 to T3 (Table 0.3, TID). -/
abbrev Tid := Fin 4

end Sys2Proof
end

