-- ==== Sys2Proof/Syntax.lean ====
section
/-!
DEFINITION. The commands of the block, one constructor of `Instr` for each row of spec/opcode_table.json, and the types of their
operands. A command carries what the outside supplies: who accesses which register with which data, or what happened on a
supply, a clock, a pad, a bus or in the air.
-/

namespace Sys2Proof

/-- The supply sources of Table 3.1. -/
inductive Source where
  | vbat | viso | vstore
  deriving DecidableEq, Repr

/-- The output rails of Table 3.2. -/
inductive Rail where
  | v5 | v33
  deriving DecidableEq, Repr

/-- The clock islands of Table 1.1. -/
inductive Island where
  | ao | keeper | core | control | can | radio | time
  deriving DecidableEq, Repr

/-- The memories that are initialised after losing power (Table 4.5, Table 5.6). -/
inductive MemBlock where
  | keeper
  | bank (n : Fin 8)
  | tcm (n : Fin 3)
  | desc
  | canMsg (x : Fin 2)
  | radioBuf
  | radioTab
  | ctrl
  deriving DecidableEq, Repr

/-- Who issues a bus transaction: the masters of Table 6.6. -/
inductive Master where
  | hart (n : Fin 4)
  | dma (n : Fin 16)
  | crc
  | aes
  | queueManager
  | can (x : Fin 2)
  | link
  | ctrl
  | debug (n : Fin 4)
  | boot
  deriving DecidableEq, Repr

/-- The width of a bus access. -/
inductive Width where
  | byte | half | word
  deriving DecidableEq, Repr

/-- A disturbance that the outside puts on one bus transaction: bytes whose parity fails at a bridge (R22, R24) and an
uncorrectable error that the accessed word is found to hold (R233 step 6). -/
structure Upset where
  /-- address bytes whose parity fails -/
  addr   : BitVec 4
  /-- data bytes whose parity fails -/
  data   : BitVec 4
  /-- the TID byte fails -/
  tid    : Bool
  /-- tag bytes that fail -/
  tag    : BitVec 2
  /-- the TID as received, where its byte fails -/
  badTid : Tid
  /-- the word has an uncorrectable error; in an instruction cache, one of parity -/
  ecc    : Bool
  /-- the address as received, where an address byte fails -/
  badAddr : Word
  /-- the word has a single-bit error -/
  single : Bool
  deriving DecidableEq, Repr

/-- An undisturbed transaction. -/
def Upset.none : Upset := ⟨0, 0, false, 0, 0, false, 0, false⟩

/-- The disturbance of the transaction with this number among those a command makes. -/
structure Disturb where
  at_   : Nat
  upset : Upset
  deriving DecidableEq, Repr

/-- What the storage gauge has counted since the last command that told it: net charge and gross charge in 10 µC, seconds
(R114, R117). -/
structure GaugeCount where
  net   : Int
  gross : Nat
  secs  : Nat
  deriving DecidableEq, Repr

/-- The atomic memory operations of RV32A. -/
inductive AmoOp where
  | swap | add | xor | and | or | min | max | minu | maxu
  deriving DecidableEq, Repr

/-- What happens to the I2C unit as an addressed target (R386): a byte passes on the bus, firmware reads DATA or writes it. -/
inductive TargetStep where
  | byte | read | write
  deriving DecidableEq, Repr

/-- The access that a trigger matched on (Table 8.13). -/
inductive TrigKind where
  | execute | load | store
  deriving DecidableEq, Repr

/-- A CAN frame as a receiver or a wake-up decoder sees it, valid under ISO 11898-1: identifier in the layout of word 0
(Table 11.4), flags, data length code, data bytes, and how many nanoseconds ago its SOF edge was. -/
structure CanFrame where
  id   : BitVec 29
  xtd  : Bool
  rtr  : Bool
  fdf  : Bool
  brs  : Bool
  esi  : Bool
  dlc  : BitVec 4
  data : List Byte
  age  : Nat
  deriving DecidableEq, Repr

/-- What a controller meets of another node's frame: its SOF edge; the whole frame; the frame up to its validation, its storage (R449) still to
end; the end of that storage. -/
inductive CanSeen where
  | start
  | frame (f : CanFrame)
  | valid (f : CanFrame)
  | stored
  deriving DecidableEq, Repr

/-- What moves the error counters beside frames and errors of the controller's own: an error met as a receiver; a dominant bit after the own error
flag, or an error while sending a flag, as a receiver; the same as a transmitter. -/
inductive CanErr where
  | receiver | receiverFlag | transmitterFlag
  deriving DecidableEq, Repr

/-- The voltages at the inputs of ADC-B, in µV: AIN6 to AIN11, and VBAT, VSTORE, VHARV and VISO before their dividers (Table 16.4). -/
structure AdcbInputs where
  ain    : List Int
  vbat   : Int
  vstore : Int
  vharv  : Int
  viso   : Int
  deriving DecidableEq, Repr

/-- The commands. The docstring of each constructor names its row of the table and the rule it rests on. They stand in the table's order,
those with operands before those without: Lean compiles no constructor with operands beyond the 245th. -/
inductive Instr where
  /-- REGISTER_WRITE (R9) -/
  | registerWrite (m : Master) (a : Word) (v : Word)
  /-- SOURCE_VALID (R88) -/
  | sourceValid (src : Source)
  /-- SOURCE_INVALID (R88) -/
  | sourceInvalid (src : Source)
  /-- MAINS_PRESENT_CHANGE (R100) -/
  | mainsPresentChange (present : Bool)
  /-- BROWN_OUT (R109) -/
  | brownOut (retained : Bool)
  /-- VIO_PRESENT (R81) -/
  | vioPresent (levels : BitVec 48)
  /-- TRNG_STARTUP_TESTS (R295) -/
  | trngStartupTests (pass : Bool)
  /-- MEMORY_INIT (R148) -/
  | memoryInit (b : MemBlock)
  /-- BOOT_SEQUENCER_CHECK (R200) -/
  | bootSequencerCheck (d : Disturb)
  /-- BOOT_COPY_DONE (R200) -/
  | bootCopyDone (d : Disturb)
  /-- SWRESET_SYS (R176) -/
  | swresetSys (m : Master) (v : Word)
  /-- SWRESET_TENANT (R176) -/
  | swresetTenant (m : Master) (v : Word)
  /-- TEN_RST_DONE (R206) -/
  | tenRstDone (n : Tid)
  /-- FUSE_PROGRAM (R194) -/
  | fuseProgram (m : Master) (v : Word)
  /-- FUSE_PROGRAM_DONE (R194) -/
  | fuseProgramDone (weak : Word)
  /-- FUSE_VERIFY (R194) -/
  | fuseVerify (m : Master) (v : Word)
  /-- RSTC_HART_RUN_WRITE (R203) -/
  | rstcHartRunWrite (m : Master) (v : Word)
  /-- LF_CAL_WINDOW_END (R162) -/
  | lfCalWindowEnd (edge : Fin 65536)
  /-- OP_CMD_WRITE (R142) -/
  | opCmdWrite (m : Master) (v : Word)
  /-- PWR_ISLAND_CLEAR (R145) -/
  | pwrIslandClear (m : Master) (v : Word)
  /-- PWR_ISLAND_SET (R145) -/
  | pwrIslandSet (m : Master) (v : Word)
  /-- ISLAND_RELEASE (R145) -/
  | islandRelease (i : Island)
  /-- MODE_REQ_WRITE (R153) -/
  | modeReqWrite (m : Master) (v : Word)
  /-- WAKE_DETECT (R157) -/
  | wakeDetect (src : Fin 7)
  /-- MPPT_SETTLE_END (R104) -/
  | mpptSettleEnd (mv : Fin 8192)
  /-- COLD_START (R106) -/
  | coldStart (on : Bool)
  /-- SUPPLY_PGOOD_WRITE (R111) -/
  | supplyPgoodWrite (m : Master) (v : Word)
  /-- GAUGE_SAMPLE_DUE (R115) -/
  | gaugeSampleDue (c : GaugeCount)
  /-- REST_TAKEN (R116) -/
  | restTaken (mv : Fin 8192) (c : GaugeCount)
  /-- UNC_OVER (R118) -/
  | uncOver (c : GaugeCount)
  /-- GAUGE_CHARGE_READ (R119) -/
  | gaugeChargeRead (m : Master) (c : GaugeCount)
  /-- RAIL_FAULT (R121) -/
  | railFault (r : Rail)
  /-- RAIL_RETRY (R121) -/
  | railRetry (r : Rail) (overloaded : Bool)
  /-- TEN_OWN_DATA_WRITE (R231) -/
  | tenOwnDataWrite (m : Master) (v : Word)
  /-- OWNER_CHANGE_IDLE_POINT (R29) -/
  | ownerChangeIdlePoint (table : Fin 13) (entry : Fin 256)
  /-- PAGE_LOCK_WRITE (R228) -/
  | pageLockWrite (m : Master) (page : Fin 36)
  /-- QUOTA_WRITE (R30) -/
  | quotaWrite (m : Master) (pair : Fin 2) (v : Word)
  /-- HART_LOAD (R241) -/
  | hartLoad (h : Fin 4) (rd : Fin 64) (a : Word) (w : Width) (signed : Bool) (u : Upset)
  /-- HART_FETCH (R235) -/
  | hartFetch (h : Fin 4) (a : Word) (u : Upset)
  /-- HART_STORE_LOCAL (R238) -/
  | hartStoreLocal (h : Fin 4) (a : Word) (w : Width) (v : Word) (u : Upset)
  /-- POSTED_STORE (R238) -/
  | postedStore (h : Fin 4) (a : Word) (w : Width) (v : Word)
  /-- POSTED_STORE_DONE (R241) -/
  | postedStoreDone (h : Fin 4) (i : Island) (left : Nat) (u : Upset)
  /-- FAULTN_FENCE_READ (R244) -/
  | faultnFenceRead (m : Master) (n : Tid)
  /-- FENCE_RETURN (R244) -/
  | fenceReturn (n : Tid)
  /-- FAULTN_REC3_READ (R247) -/
  | faultnRec3Read (m : Master) (n : Tid)
  /-- WDT_SERVICE_WRITE (R252) -/
  | wdtServiceWrite (m : Master) (n : Tid) (v : Word) (us : Nat)
  /-- WDT_WARN (R253) -/
  | wdtWarn (n : Tid)
  /-- WATCHDOG_EXPIRY (R252) -/
  | watchdogExpiry (n : Tid)
  /-- WDT_LOCK_WRITE (R254) -/
  | wdtLockWrite (m : Master) (n : Tid)
  /-- FLASH_CMD_PROGRAM (R265) -/
  | flashCmdProgram (m : Master) (n : Tid) (v : Word)
  /-- FLASH_CMD_ERASE (R265) -/
  | flashCmdErase (m : Master) (n : Tid) (v : Word)
  /-- FLASH_CMD_GEN_BUMP (R285) -/
  | flashCmdGenBump (m : Master) (n : Tid) (v : Word)
  /-- FLASH_PULSE_END (R265) -/
  | flashPulseEnd (ok : Bool)
  /-- ERASE_SEGMENT_END (R270) -/
  | eraseSegmentEnd (ok : Bool)
  /-- FLASH_READ_DURING_ERASE (R270) -/
  | flashReadDuringErase (data : Bool)
  /-- SCRUB_PASS (R275) -/
  | scrubPass (single : List (Fin 262144)) (double : List (Fin 262144))
  /-- CRC_DATA_WRITE (R293) -/
  | crcDataWrite (m : Master) (w : Width) (v : Word)
  /-- CRC_RESTART (R293) -/
  | crcRestart (m : Master) (init : Bool) (v : Word)
  /-- TRNG_DATA_READ (R296) -/
  | trngDataRead (m : Master)
  /-- WFI (R316) -/
  | wfi (h : Fin 4)
  /-- LR (R313) -/
  | lr (h : Fin 4) (rd : Fin 32) (a : Word) (u : Upset)
  /-- SC (R313) -/
  | sc (h : Fin 4) (rd : Fin 32) (a : Word) (v : Word) (cycles : Nat) (u : Upset)
  /-- AMO (R313) -/
  | amo (h : Fin 4) (op : AmoOp) (rd : Fin 32) (a : Word) (v : Word) (u : Upset)
  /-- FENCE_I (R312) -/
  | fenceI (h : Fin 4)
  /-- ILLEGAL_INSTRUCTION (R308) -/
  | illegalInstruction (h : Fin 4) (insn : Word)
  /-- SYS_MTIME_LO_READ (R317) -/
  | sysMtimeLoRead (m : Master)
  /-- MTIMECMP_REACHED (R318) -/
  | mtimecmpReached (n : Tid)
  /-- IRQN_MSIP_WRITE (R319) -/
  | irqnMsipWrite (m : Master) (n : Tid) (v : Word)
  /-- IRQN_CLAIM_READ (R322) -/
  | irqnClaimRead (m : Master) (n : Tid)
  /-- IRQN_CLAIM_WRITE (R323) -/
  | irqnClaimWrite (m : Master) (n : Tid) (v : Word)
  /-- QMGR_ALLOC_READ (R328) -/
  | qmgrAllocRead (m : Master)
  /-- QPUSH_WRITE (R330) -/
  | qpushWrite (m : Master) (q : Fin 64) (v : Word)
  /-- QMGR_FREE_WRITE (R339) -/
  | qmgrFreeWrite (m : Master) (v : Word)
  /-- QMGR_CANCEL_WRITE (R338) -/
  | qmgrCancelWrite (m : Master) (v : Word) (d : Disturb)
  /-- QUEUE_START (R333) -/
  | queueStart (k : Fin 8)
  /-- CONSUMER_TAKE (R331) -/
  | consumerTake (c : Fin 64) (bad : Option (Fin 8))
  /-- DESCRIPTOR_COMPLETE (R334) -/
  | descriptorComplete (c : Fin 64)
  /-- DEADLINE_MISSED (R337) -/
  | deadlineMissed (slot : Fin 2048)
  /-- COPY (R340) -/
  | copy (ch : Fin 16) (n : Nat) (d : Disturb)
  /-- FILL (R340) -/
  | fill (ch : Fin 16) (n : Nat) (d : Disturb)
  /-- CRC (R341) -/
  | crc (d : Disturb)
  /-- ECB_ENC (R342) -/
  | ecbEnc (n : Nat) (d : Disturb)
  /-- ECB_DEC (R342) -/
  | ecbDec (n : Nat) (d : Disturb)
  /-- CTR (R342) -/
  | ctr (n : Nat) (d : Disturb)
  /-- CCM_ENC (R342) -/
  | ccmEnc (n : Nat) (d : Disturb)
  /-- CCM_DEC (R343) -/
  | ccmDec (n : Nat) (d : Disturb)
  /-- CMAC (R342) -/
  | cmac (n : Nat) (d : Disturb)
  /-- ACCESS_REGISTER (R344) -/
  | accessRegister (h : Fin 4) (write : Bool) (regno : Fin 65536) (postexec : Bool) (d : Disturb)
  /-- ACCESS_MEMORY (R345) -/
  | accessMemory (h : Fin 4) (write : Bool) (w : Width) (postIncrement : Bool) (u : Upset)
  /-- PROGRAM_BUFFER_EXEC (R345) -/
  | programBufferExec (h : Fin 4) (d : Disturb)
  /-- SYSTEM_BUS_ACCESS (R346) -/
  | systemBusAccess (h : Fin 4) (write : Bool) (a : Word) (w : Width) (v : Word) (u : Upset)
  /-- HALTREQ (R348) -/
  | haltreq (h : Fin 4)
  /-- RESUMEREQ (R347) -/
  | resumereq (h : Fin 4)
  /-- NDMRESET (R347) -/
  | ndmreset (on : Bool)
  /-- HARTRESET (R347) -/
  | hartreset (h : Fin 4) (on : Bool)
  /-- SETRESETHALTREQ (R347) -/
  | setresethaltreq (h : Fin 4)
  /-- CLRRESETHALTREQ (R347) -/
  | clrresethaltreq (h : Fin 4)
  /-- TRIGGER_MATCH (R344) -/
  | triggerMatch (h : Fin 4) (i : Fin 4) (k : TrigKind) (a : Word) (v : Word)
  /-- EXTEST (R80) -/
  | extest (shift : Option (BitVec 153))
  /-- SAMPLE_PRELOAD (R76) -/
  | samplePreload (shift : Option (BitVec 153))
  /-- DMI (R344) -/
  | dmi (scan : Option (BitVec 41))
  /-- PORT_CFG_WRITE (R373) -/
  | portCfgWrite (m : Master) (i : Fin 48) (v : Word)
  /-- PORT_SET (R375) -/
  | portSet (m : Master) (bank : Fin 2) (v : Word)
  /-- PORT_CLR (R375) -/
  | portClr (m : Master) (bank : Fin 2) (v : Word)
  /-- PAD_FILTER_ACCEPT (R377) -/
  | padFilterAccept (i : Fin 48) (level : Bool)
  /-- EVENT_SOURCE_FIRE (R360) -/
  | eventSourceFire (src : Fin 128)
  /-- SWTRIG (R362) -/
  | swtrig (m : Master) (v : Word)
  /-- EVF_CH_WRITE (R390) -/
  | evfChWrite (m : Master) (c : Fin 64) (v : Word)
  /-- EVF_CH_LOCK (R363) -/
  | evfChLock (m : Master) (c : Fin 64)
  /-- EVF_SINK_WRITE (R364) -/
  | evfSinkWrite (m : Master) (k : Fin 64) (v : Word)
  /-- CAN_TX_TRIGGER_OBJ_WRITE (R368) -/
  | canTxTriggerObjWrite (m : Master) (k : Fin 3) (v : Word)
  /-- SINK_PENDING_ACT (R370) -/
  | sinkPendingAct (k : Fin 64)
  /-- EVOUT_PULSE_END (R376) -/
  | evoutPulseEnd (k : Fin 8)
  /-- SPI_DATA_WRITE (R381) -/
  | spiDataWrite (m : Master) (n : Fin 2) (v : Word)
  /-- SPI_FRAME_END (R382) -/
  | spiFrameEnd (n : Fin 2) (rx : Option Word)
  /-- SPI_DATA_READ (R381) -/
  | spiDataRead (m : Master) (n : Fin 2)
  /-- UART_DATA_WRITE (R383) -/
  | uartDataWrite (m : Master) (n : Fin 2) (v : Word)
  /-- UART_CHAR_SENT (R383) -/
  | uartCharSent (n : Fin 2)
  /-- UART_CHAR_RECEIVED (R383) -/
  | uartCharReceived (n : Fin 2) (ch : BitVec 9) (parityError : Bool) (framingError : Bool)
  /-- UART_DATA_READ (R383) -/
  | uartDataRead (m : Master) (n : Fin 2)
  /-- SEND (R384) -/
  | send (m : Master) (n : Fin 2) (v : Word)
  /-- UART_BREAK_SENT (R384) -/
  | uartBreakSent (n : Fin 2)
  /-- BREAK (R384) -/
  | uartBreak (n : Fin 2)
  /-- START_WRITE (R385) -/
  | startWrite (m : Master) (addr : BitVec 8)
  /-- START_READ (R385) -/
  | startRead (m : Master) (addr : BitVec 8)
  /-- I2C_WRITE (R385) -/
  | i2cWrite (m : Master) (b : Byte)
  /-- READ_ACK (R385) -/
  | readAck (m : Master)
  /-- READ_NACK (R385) -/
  | readNack (m : Master)
  /-- I2C_STOP (R385) -/
  | i2cStop (m : Master)
  /-- I2C_CMD_DONE (R385) -/
  | i2cCmdDone (nack : Bool) (data : Byte)
  /-- TGT_ADDR (R386) -/
  | tgtAddr (addr : BitVec 7) (read : Bool)
  /-- I2C_TARGET_DATA_ACCESS (R386) -/
  | i2cTargetDataAccess (m : Master) (k : TargetStep) (v : Word)
  /-- STUCK (R387) -/
  | stuck (sdaLow : Bool)
  /-- ARB_LOST (R388) -/
  | arbLost (addr : BitVec 7) (read : Bool)
  /-- SET (R401) -/
  | ntuSet (m : Master)
  /-- ACCEPT_NEXT (R410) -/
  | acceptNext (m : Master)
  /-- SERVO_EN_WRITE (R412) -/
  | servoEnWrite (m : Master) (v : Word)
  /-- SERVO_SAMPLE (R410) -/
  | servoSample (src : Fin 4) (diff : Int) (ident : BitVec 16)
  /-- NTU_TIME_SEC_LO_READ (R400) -/
  | ntuTimeSecLoRead (m : Master)
  /-- ARM (R403) -/
  | ntuArm (m : Master) (c : Fin 16) (v : Word)
  /-- NTU_COMPARE_TARGET_WRITE (R405) -/
  | ntuCompareTargetWrite (m : Master) (c : Fin 16) (r : Fin 3) (v : Word)
  /-- RELATIVE_COMPARE_FIRE (R403) -/
  | relativeCompareFire (c : Fin 16)
  /-- ABSOLUTE_COMPARE_FIRE (R405) -/
  | absoluteCompareFire (c : Fin 16)
  /-- NTU_CAPTURE (R407) -/
  | ntuCapture (c : Fin 16) (rising : Bool)
  /-- NTU_CAPTURE_C_READ (R408) -/
  | ntuCaptureCRead (m : Master) (c : Fin 16)
  /-- NTU_CH_MODE_WRITE (R428) -/
  | ntuChModeWrite (m : Master) (c : Fin 16) (v : Word)
  /-- SYNC_PAIRED (R418) -/
  | syncPaired (x : Fin 2)
  /-- SYNC_UNPAIRED_DISCARD (R418) -/
  | syncUnpairedDiscard (x : Fin 2)
  /-- CAN_MODE_WRITE (R434) -/
  | canModeWrite (m : Master) (x : Fin 2) (v : Word)
  /-- CAN_STOP_TAKES_EFFECT (R435) -/
  | canStopTakesEffect (x : Fin 2)
  /-- CAN_BUS_JOIN (R434) -/
  | canBusJoin (x : Fin 2)
  /-- CAN_FRAME_RECEIVED (R449) -/
  | canFrameReceived (x : Fin 2) (k : CanSeen)
  /-- CAN_OBJ_WORD0_READ (R451) -/
  | canObjWord0Read (m : Master) (x : Fin 2) (o : Fin 128) (u : Upset)
  /-- CAN_OBJ_WORD19_READ (R452) -/
  | canObjWord19Read (m : Master) (x : Fin 2) (o : Fin 128) (u : Upset)
  /-- CANX_LOCK_ABANDON (R457) -/
  | canLockAbandon (m : Master) (x : Fin 2) (v : Word)
  /-- LOCK_DEADLINE (R456) -/
  | lockDeadline (x : Fin 2) (o : Fin 128)
  /-- CAN_OBJ_WORD1_WRITE (R442) -/
  | canObjWord1Write (m : Master) (x : Fin 2) (o : Fin 128) (v : Word)
  /-- CANX_TXREQ (R458) -/
  | canTxreq (m : Master) (x : Fin 2) (v : Word)
  /-- CAN_TX_PICK (R461) -/
  | canTxPick (x : Fin 2) (u : Upset)
  /-- CAN_ARBITRATION_LOST (R462) -/
  | canArbitrationLost (x : Fin 2)
  /-- CAN_TX_ERROR (R462) -/
  | canTxError (x : Fin 2) (counted : Bool)
  /-- SENT (R458) -/
  | canSent (x : Fin 2) (age : Nat)
  /-- TX_DEADLINE (R463) -/
  | txDeadline (x : Fin 2) (o : Fin 128)
  /-- CANX_TXCANCEL (R469) -/
  | canTxcancel (m : Master) (x : Fin 2) (v : Word)
  /-- CAN_CANCEL_SAMPLED (R471) -/
  | canCancelSampled (x : Fin 2) (o : Fin 128) (committed : Bool)
  /-- ERR_PASSIVE (R473) -/
  | errPassive (x : Fin 2) (e : CanErr)
  /-- BUS_OFF (R473) -/
  | busOff (x : Fin 2)
  /-- RECOVER (R474) -/
  | recover (m : Master) (x : Fin 2)
  /-- BOFF_DELAY_EXPIRY (R474) -/
  | boffDelayExpiry (x : Fin 2)
  /-- BUS_OFF_RECOVERED (R474) -/
  | busOffRecovered (x : Fin 2)
  /-- CAN_QTX_TAKE (R466) -/
  | canQtxTake (x : Fin 2) (k : Fin 8) (bad : Option (Fin 8)) (d : Disturb)
  /-- CAN_TX (R466) -/
  | canTx (x : Fin 2) (k : Fin 8) (d : Disturb)
  /-- CANX_MODE_NORMAL (R500) -/
  | canxModeNormal (m : Master)
  /-- CANX_MODE_LISTEN (R500) -/
  | canxModeListen (m : Master)
  /-- CANX_MODE_STANDBY (R500) -/
  | canxModeStandby (m : Master)
  /-- CANX_MODE_SLEEP (R506) -/
  | canxModeSleep (m : Master)
  /-- WUF (R510) -/
  | wuf (f : CanFrame)
  /-- FRAME_ERR (R511) -/
  | frameErr (fd : Bool)
  /-- PAD_WAKE (R512) -/
  | padWake (level : Bool)
  /-- PHY_TX_START (R544) -/
  | phyTxStart (d : Disturb)
  /-- PHY_TX_END (R544) -/
  | phyTxEnd (d : Disturb)
  /-- OFDM_SYNC_ACCEPTED (R533) -/
  | ofdmSyncAccepted (pattern : BitVec 48) (halfDbm : Int) (snr : List Int)
  /-- OFDM_HEADER_RECEIVED (R535) -/
  | ofdmHeaderReceived (soft : List Int) (d : Disturb)
  /-- OFDM_PPDU_DECODED (R579, R580) -/
  | ofdmPpduDecoded (soft : List Int) (hit : Option (Fin 1024 × Byte))
  /-- ROBUST_SYNC_ACCEPTED (R549) -/
  | robustSyncAccepted (sync : Word) (halfDbm : Int)
  /-- ROBUST_FRAME_RECEIVED (R549) -/
  | robustFrameReceived (air : List Bool)
  /-- CAL_NOW (R552) -/
  | calNow (m : Master)
  /-- PLL_UNLOCK (R554) -/
  | pllUnlock (d : Disturb)
  /-- SLOT_PREPARATION (R593) -/
  | slotPreparation (d : Disturb)
  /-- SLOT_START (R588) -/
  | slotStart (d : Disturb)
  /-- BEACON_RX (R599) -/
  | beaconRx (d : Disturb)
  /-- SCAN_BEACON_ADOPT (R600) -/
  | scanBeaconAdopt (d : Disturb)
  /-- LINK_FRAME_RECEIVED (R610) -/
  | linkFrameReceived (d : Disturb)
  /-- ACK_RECEIVED (R613) -/
  | ackReceived (d : Disturb)
  /-- ACK_TIMEOUT (R613) -/
  | ackTimeout (d : Disturb)
  /-- LINK_TX (R615) -/
  | linkTx (d : Disturb)
  /-- SOUND_REQ_RECEIVED (R622) -/
  | soundReqReceived (d : Disturb)
  /-- SOUND_RESP_RECEIVED (R622) -/
  | soundRespReceived (d : Disturb)
  /-- SLOT_LATE (R616) -/
  | slotLate (slot : Fin 2048) (d : Disturb)
  /-- LINK_DEADLINE_STOP (R617) -/
  | linkDeadlineStop (slot : Fin 2048) (d : Disturb)
  /-- LSEC_LOAD (R634) -/
  | lsecLoad (m : Master)
  /-- LSEC_CLEAR (R634) -/
  | lsecClear (m : Master)
  /-- LSEC_TXSEQ_WRITE (R608) -/
  | lsecTxseqWrite (m : Master) (v : Word)
  /-- LINK_ASN_LO_READ (R588) -/
  | linkAsnLoRead (m : Master)
  /-- LOOP_EN_WRITE (R644) -/
  | loopEnWrite (m : Master) (n : Fin 16) (v : Word)
  /-- LOOP_DISABLE (R645) -/
  | loopDisable (m : Master) (n : Fin 16) (v : Word)
  /-- LOOP_RANGE_WRITE (R643) -/
  | loopRangeWrite (m : Master) (n : Fin 16) (v : Word)
  /-- LOOP_TRIGGER (R646) -/
  | loopTrigger (n : Fin 16)
  /-- LOOP_STAGE_END (R647) -/
  | loopStageEnd (u : Upset)
  /-- LOOP_COMMIT (R649) -/
  | loopCommit (n : Fin 16)
  /-- LOOP_DEADLINE_MISS (R650) -/
  | loopDeadlineMiss (n : Fin 16)
  /-- ADCA_START (R654) -/
  | adcaStart (by_ : Option Master)
  /-- ADCA_CONVERSION_DONE (R654) -/
  | adcaConversionDone (ain : List Int)
  /-- ADCB_START (R657) -/
  | adcbStart (by_ : Option Master)
  /-- ADCB_CONVERSION_DONE (R656) -/
  | adcbConversionDone (v : AdcbInputs)
  /-- PWM_PERIOD_START (R659) -/
  | pwmPeriodStart (k : Fin 6)
  /-- PWM_PERIOD_CENTRE (R659) -/
  | pwmPeriodCentre (k : Fin 6)
  /-- PWM_RUN_WRITE (R662) -/
  | pwmRunWrite (m : Master) (k : Fin 6) (v : Word)
  /-- CLR (R668) -/
  | pwmClr (m : Master) (k : Fin 6)
  /-- PWM_FORCE_SAFE (R667) -/
  | pwmForceSafe (k : Fin 6)
  /-- TOOTH_EN_WRITE (R682) -/
  | toothEnWrite (m : Master) (c : Fin 4) (v : Word)
  /-- TOOTH_EDGE (R683) -/
  | toothEdge (c : Fin 4) (rising : Bool) (age : Nat)
  /-- MISSED (R686) -/
  | missed (c : Fin 4)
  /-- SCHEDULE_ARM (R690) -/
  | scheduleArm (m : Master) (c : Fin 4) (j : Fin 8) (v : Word)
  /-- SCHEDULE_FIRE (R691) -/
  | scheduleFire (c : Fin 4) (j : Fin 8)
  /-- STORAGE_CURRENT_BAND_CHANGE (R116) -/
  | storageCurrentBandChange (inside : Bool) (c : GaugeCount)
  /-- THERM_HOT_CLEAR (R165) -/
  | thermHotClear (below125 : Bool)
  /-- SRC_CHANGE (R89) -/
  | srcChange
  /-- MAINS_FAULT_LATCH (R99) -/
  | mainsFaultLatch
  /-- MAINS_LATCH_CLEAR (R99) -/
  | mainsLatchClear
  /-- POR (R199) -/
  | por
  /-- POR_RELEASE (R199) -/
  | porRelease
  /-- FUSE_LOAD (R62) -/
  | fuseLoad
  /-- SUPPLY_TREE_UP (R198) -/
  | supplyTreeUp
  /-- OUTPUT_RAILS_UP (R198) -/
  | outputRailsUp
  /-- VIO_ABSENT (R81) -/
  | vioAbsent
  /-- XO40_STABLE (R136) -/
  | xo40Stable
  /-- PLL_LOCK (R136) -/
  | pllLock
  /-- START_UP_READINESS (R198) -/
  | startUpReadiness
  /-- RESET_N_LOW (R181) -/
  | resetNLow
  /-- RESET_STRETCH_EXPIRY (R182) -/
  | resetStretchExpiry
  /-- RESET_N_HIGH_RELEASE (R183) -/
  | resetNHighRelease
  /-- SYSTEM_RESET (R178) -/
  | systemReset
  /-- THERMAL_SHUTDOWN (R176) -/
  | thermalShutdown
  /-- THERMAL_SHUTDOWN_END (R176) -/
  | thermalShutdownEnd
  /-- THERM_WARN (R165) -/
  | thermWarn
  /-- XO40_LOSS (R138) -/
  | xo40Loss
  /-- XO40_START_TIMEOUT (R172) -/
  | xo40StartTimeout
  /-- XO32_LOSS (R140) -/
  | xo32Loss
  /-- XO32_LOSS_IN_CALM (R174) -/
  | xo32LossInCalm
  /-- XO32_RETURN (R140) -/
  | xo32Return
  /-- SLEW_SETTLED (R142) -/
  | slewSettled
  /-- OP_CLOCK_RAISE (R142) -/
  | opClockRaise
  /-- POSTING_DRAIN_DONE (R154) -/
  | postingDrainDone
  /-- CALM_REACHED (R156) -/
  | calmReached
  /-- LULL_RESUME (R159) -/
  | lullResume
  /-- HART_M_WARM_START (R151) -/
  | hartMWarmStart
  /-- WAKE_DONE (R158) -/
  | wakeDone
  /-- MPPT_DUE (R104) -/
  | mpptDue
  /-- CHG_LIMIT_HIT (R107) -/
  | chgLimitHit
  /-- CHARGE_RESTART (R107) -/
  | chargeRestart
  /-- PGOOD_RISE (R110) -/
  | pgoodRise
  /-- PGOOD_FALL (R110) -/
  | pgoodFall
  /-- REST_TIME_EXPIRY (R116) -/
  | restTimeExpiry
  /-- FLASH_OP_START (R268) -/
  | flashOpStart
  /-- ERASE_RESUME (R270) -/
  | eraseResume
  /-- SCRUB_DUE (R275) -/
  | scrubDue
  /-- SCRUB_STEAL (R275) -/
  | scrubSteal
  /-- HEALTH_FAIL (R297) -/
  | healthFail
  /-- TRNG_VALID_RETURN (R297) -/
  | trngValidReturn
  /-- TAP_RESET (R79) -/
  | tapReset
  /-- IDCODE (R76) -/
  | idcode
  /-- CLAMP (R80) -/
  | clamp
  /-- HIGHZ (R80) -/
  | highz
  /-- DTMCS (R344) -/
  | dtmcs
  /-- BYPASS (R76) -/
  | bypass
  /-- TGT_STOP (R386) -/
  | tgtStop
  /-- PPS_EDGE (R414) -/
  | ppsEdge
  /-- NTU_PPS_OUT (R420) -/
  | ntuPpsOut
  /-- PPS_OUT_END (R420) -/
  | ppsOutEnd
  /-- SLEEP_ENTRY (R508) -/
  | sleepEntry
  /-- FS_TIMER_EXPIRY (R507) -/
  | fsTimerExpiry
  /-- TXD_TIMEOUT (R502) -/
  | txdTimeout
  /-- WUP (R509) -/
  | wup
  /-- DECODER_SILENCE (R510) -/
  | decoderSilence
  /-- VBAT_RETENTION_LOSS (R505) -/
  | vbatRetentionLoss
  /-- RX_WINDOW_OPEN (R635) -/
  | rxWindowOpen
  /-- RX_WINDOW_CLOSE (R635) -/
  | rxWindowClose
  /-- RF_CAL_DUE (R552) -/
  | rfCalDue
  /-- RF_CAL_TAKEOVER (R621) -/
  | rfCalTakeover
  /-- CAL_DONE (R552) -/
  | calDone
  /-- BEACON_MISSED (R599) -/
  | beaconMissed
  /-- ACK_SEND (R612) -/
  | ackSend
  /-- LINK_RX (R615) -/
  | linkRx
  /-- SOUND_TX (R622) -/
  | soundTx
  /-- SOUND_RX (R622) -/
  | soundRx
  /-- SLOT_TIMER (R624) -/
  | slotTimer
  /-- ADCA_DONE (R654) -/
  | adcaDone
  /-- ADCB_DONE (R657) -/
  | adcbDone
  /-- ADCB_DISPLACED (R658) -/
  | adcbDisplaced
  /-- PWM_FAULT (R666) -/
  | pwmFault
  /-- COARSE_MODE_SWITCH (R163) -/
  | coarseModeSwitch
  /-- MODE_CHANGED (R500) -/
  | modeChanged
  /-- VBAT_PART_POWER_UP (R497) -/
  | vbatPartPowerUp
  /-- PWM_FAULT_N_RELEASE (R668) -/
  | pwmFaultNRelease
  deriving DecidableEq, Repr

end Sys2Proof
end

