-- ==== Sys2Proof/Decode.lean ====
section
/-!
DEFINITION. Reading a command from a word of the opcode table. The block has no instruction words, and no row of
spec/opcode_table.json gives bits: a command comes as a constructor with its operands.
-/

namespace Sys2Proof

/-- The command that a word spells by the table's bits: none, because no row has any. -/
def decodeTableWord (_nbits _w : Nat) : Option Instr := none

end Sys2Proof
end

