-- ==== Sys2Proof/Config.lean ====
section
/-!
DEFINITION. What the spec leaves open, as constants with no body: nothing in Lean can evaluate them or prove a value of them.
Each is applied to `State.fresh`, a counter that every use advances, so two uses are not known to agree.
-/

namespace Sys2Proof.Config

/-- The 128-bit value of the key draw with this number (R279, R298): a TRNG output. Assumption log 1, DESIGN CHOICE: free. Safe. -/
opaque keyDraw : Nat → BitVec 128

/-- The 32 bits of the TRNG read with this number (R296). Assumption log 1, DESIGN CHOICE: free. Safe. -/
opaque randomWord : Nat → BitVec 32

/-- Word `k` of the device secret, which is programmed before the part ships (R189). Assumption log 7, DESIGN CHOICE: free. Safe. -/
opaque secretWord : Nat → BitVec 32

/-- Which of the free slots QMGR_ALLOC returns (R328: "not defined"): an index into the list of free slots.
Assumption log 2, DESIGN CHOICE: free. Safe. -/
opaque slotChoice : Nat → Nat

/-- A value the spec does not state, of any width (cut to the width it is used at). Assumption log 3, DESIGN CHOICE: free. Safe. -/
opaque unstated : Nat → Nat

/-- The outcome of a choice the spec does not state. Assumption log 3, DESIGN CHOICE: free. Safe. -/
opaque unstatedChoice : Nat → Bool

/-- The bit that a soft value with no information counts as in a hard decision (R579). Assumption log 15, DESIGN CHOICE: free. Safe. -/
opaque softTie : Bool

/-- Is three quarters of this magnitude, where it is no whole number, rounded up (R579: "message widths are its own")? Assumption log 15,
DESIGN CHOICE: free. Safe. -/
opaque softRoundsUp : Nat → Bool

/-- The drive strength of the pad of index `i` under EXTEST and CLAMP, which no cell sets (R77, R80). Assumption log 20, DESIGN CHOICE: free. Safe. -/
opaque testDrive : Nat → Nat

end Sys2Proof.Config
end

