-- ==== Sys2Proof/Machine/Bits.lean ====
section
/-!
DEFINITION. Bit fields, byte order, signed reading and the sparse tables that State is built from: lists of (key, value)
pairs with keys strictly rising.
-/

namespace Sys2Proof.Machine

/-- Bits `lsb + w - 1 : lsb` of `v`. -/
def bits (v lsb w : Nat) : Nat := v / 2 ^ lsb % 2 ^ w

/-- Bit `i` of `v`. -/
def bit (v i : Nat) : Bool := bits v i 1 == 1

/-- A value with bits `lsb + w - 1 : lsb` replaced by `n`. -/
def setBits (v lsb w n : Nat) : Nat := v - bits v lsb w * 2 ^ lsb + n % 2 ^ w * 2 ^ lsb

/-- 1 for true, as a register bit reads. -/
def ofBool (b : Bool) : Nat := if b then 1 else 0

/-- `v` read as a two's-complement number of `w` bits. -/
def toSigned (w v : Nat) : Int := if v % 2 ^ w < 2 ^ (w - 1) then (v % 2 ^ w : Nat) else (v % 2 ^ w : Nat) - (2 ^ w : Nat)

/-- The two's-complement encoding of `x` in `w` bits, wrapped. -/
def ofSigned (w : Nat) (x : Int) : Nat := (x % ((2 : Int) ^ w)).toNat

/-- `x` held between `lo` and `hi`. -/
def clampInt (lo hi x : Int) : Int := if x < lo then lo else if hi < x then hi else x

/-- R42: the difference `now - target` modulo 2^32 as a signed value. -/
def tickDiff (now target : Nat) : Int := toSigned 32 (now % 2 ^ 32 + 2 ^ 32 - target % 2 ^ 32)

/-- R42: the target is reached when the difference is 0 or more. -/
def tickReached (now target : Nat) : Bool := decide (0 ≤ tickDiff now target)

/-- R42: the target is passed when the difference is greater than 0. -/
def tickPassed (now target : Nat) : Bool := decide (0 < tickDiff now target)

/-- The bytes of a number, least significant first. -/
def bytesLE : Nat → Nat → List Nat
  | 0, _ => []
  | n + 1, v => v % 256 :: bytesLE n (v / 256)

/-- The number with these bytes, least significant first. -/
def ofBytesLE : List Nat → Nat
  | [] => 0
  | b :: bs => b % 256 + 256 * ofBytesLE bs

/-- The bytes of a number, most significant first. -/
def bytesBE (n v : Nat) : List Nat := (bytesLE n v).reverse

/-- The number with these bytes, most significant first. -/
def ofBytesBE (l : List Nat) : Nat := ofBytesLE l.reverse

/-- Bytewise exclusive or, as long as the shorter list. -/
def xorBytes (a b : List Nat) : List Nat := List.zipWith (fun x y => x ^^^ y) a b

/-- The list cut or padded with 0 to `n` bytes. -/
def padTo (n : Nat) (l : List Nat) : List Nat := l.take n ++ List.replicate (n - l.length) 0

/-- The `n` low bits of `v` in reverse order. -/
def reflect : Nat → Nat → Nat
  | 0, _ => 0
  | n + 1, v => (v % 2) * 2 ^ n + reflect n (v / 2)

/-- The bits of a number, most significant first. -/
def bitsBE : Nat → Nat → List Bool
  | 0, _ => []
  | n + 1, v => bit v n :: bitsBE n v

/-- The number with these bits, most significant first. -/
def ofBitsBE (l : List Bool) : Nat := l.foldl (fun a b => 2 * a + ofBool b) 0

/-- The number of bits that are 1 among the `n` low bits of `v`. -/
def popCount : Nat → Nat → Nat
  | 0, _ => 0
  | n + 1, v => v % 2 + popCount n (v / 2)

/-- Entry `i` of a list of numbers, 0 beyond its end. -/
def nth (l : List Nat) (i : Nat) : Nat := l.getD i 0

/-! ### Sparse tables -/

/-- A sparse table: pairs of key and value, keys strictly rising. -/
abbrev Table (β : Type) := List (Nat × β)

/-- The value at a key, if it is listed. -/
def Table.find {β : Type} : Table β → Nat → Option β
  | [], _ => none
  | (k, v) :: t, a => if k = a then some v else Table.find t a

/-- The value at a key, `d` where it is not listed. -/
def Table.get {β : Type} (d : β) (t : Table β) (a : Nat) : β := (Table.find t a).getD d

/-- The table with `v` at key `a`, in order. -/
def Table.insert {β : Type} : Table β → Nat → β → Table β
  | [], a, v => [(a, v)]
  | (k, w) :: t, a, v =>
    if a < k then (a, v) :: (k, w) :: t
    else if a = k then (a, v) :: t
    else (k, w) :: Table.insert t a v

/-- The table with key `a` not listed. -/
def Table.erase {β : Type} : Table β → Nat → Table β
  | [], _ => []
  | (k, w) :: t, a => if k = a then Table.erase t a else (k, w) :: Table.erase t a

/-- The table after writing `v` at `a`, where an unlisted key reads as `d`: writing `d` removes the entry. -/
def Table.set {β : Type} [DecidableEq β] (d : β) (t : Table β) (a : Nat) (v : β) : Table β :=
  if v = d then Table.erase t a else Table.insert t a v

/-- Keys strictly rising. -/
def Table.sorted {β : Type} : Table β → Bool
  | [] => true
  | [_] => true
  | (k, _) :: (k', v) :: t => decide (k < k') && Table.sorted ((k', v) :: t)

/-- The canonical form: keys strictly rising and no entry that equals what an unlisted key reads as. -/
def Table.wf {β : Type} [DecidableEq β] (d : β) (t : Table β) : Bool :=
  Table.sorted t && t.all (fun e => decide (e.2 ≠ d))

/-! ### Sets of numbers, as lists without repeats -/

/-- The set with `a` in it. -/
def addTo (l : List Nat) (a : Nat) : List Nat := if l.contains a then l else l ++ [a]

/-- The set without `a`. -/
def dropFrom (l : List Nat) (a : Nat) : List Nat := l.filter (fun x => x != a)

end Sys2Proof.Machine
end

