-- ==== Sys2Proof/Machine/Float.lean ====
section
/-!
DEFINITION. IEEE 754-2008 single precision as the F extension of the H harts computes it (R315): all five rounding modes, subnormal operands
and results, and the exception flags. NaN results, the results and flags of conversions out of range, and the detection of tininess after
rounding are those of the RISC-V F extension that R307 names (assumption log 23).
-/

namespace Sys2Proof.Machine

/-! ### Flags and results -/

/-- Bits of fflags: inexact, underflow, overflow, division by zero, invalid. -/
def flagNX : Nat := 1
def flagUF : Nat := 2
def flagOF : Nat := 4
def flagDZ : Nat := 8
def flagNV : Nat := 16

/-- The bits of a result, with the flags that its operation raises. -/
structure FpOut where
  val   : Nat
  flags : Nat
  deriving DecidableEq, Repr

/-- The quiet NaN of every operation that returns one. -/
def canonicalNan : Nat := 0x7FC00000

/-! ### Operands -/

/-- Sign, exponent field and fraction of a single. -/
def fpSign (x : Nat) : Bool := bit x 31
def fpExp (x : Nat) : Nat := bits x 23 8
def fpFrac (x : Nat) : Nat := bits x 0 23

/-- Classes of a single. -/
def fpNan (x : Nat) : Bool := fpExp x == 255 && fpFrac x != 0
def fpSnan (x : Nat) : Bool := fpNan x && !bit x 22
def fpInf (x : Nat) : Bool := fpExp x == 255 && fpFrac x == 0
def fpZero (x : Nat) : Bool := fpExp x == 0 && fpFrac x == 0

/-- The value of a finite single is its significand times 2 to this power. -/
def fpSig (x : Nat) : Nat := if fpExp x = 0 then fpFrac x else 2 ^ 23 + fpFrac x
def fpPow (x : Nat) : Int := if fpExp x = 0 then -149 else (fpExp x : Int) - 150

/-- Infinity and zero of a sign. -/
def fpInfOf (neg : Bool) : Nat := ofBool neg * 2 ^ 31 + 0x7F800000
def fpZeroOf (neg : Bool) : Nat := ofBool neg * 2 ^ 31

/-! ### Rounding (R315) -/

/-- Rounding modes by code: to nearest with ties to even, towards zero, down, up, to nearest with ties away from zero. Does a magnitude with
quotient `q`, remainder `r` of a divisor `d` round up? -/
def roundsUp (rm : Nat) (neg : Bool) (q r d : Nat) : Bool :=
  match rm with
  | 0 => decide (d < 2 * r) || (2 * r == d && q % 2 == 1)
  | 2 => neg && r != 0
  | 3 => !neg && r != 0
  | 4 => decide (d ≤ 2 * r) && r != 0
  | _ => false

/-- `m` × 2^`e` as a multiple of 2^`l`, rounded. -/
def roundAt (rm : Nat) (neg : Bool) (m : Nat) (e l : Int) : Nat :=
  if l ≤ e then m * 2 ^ (e - l).toNat
  else
    let d := 2 ^ (l - e).toNat
    m / d + ofBool (roundsUp rm neg (m / d) (m % d) d)

/-- Is `m` × 2^`e` a multiple of 2^`l`? -/
def exactAt (m : Nat) (e l : Int) : Bool := decide (l ≤ e) || m % 2 ^ (l - e).toNat == 0

/-- What an overflow gives: infinity, or the largest finite number where the mode rounds towards zero there. -/
def overflowed (rm : Nat) (neg : Bool) : Nat :=
  if rm = 1 || (rm = 2 && !neg) || (rm = 3 && neg) then fpInfOf neg - 1 else fpInfOf neg

/-- The number with sign `neg` and magnitude `m` × 2^`e`, rounded to single precision. -/
def fpRound (rm : Nat) (neg : Bool) (m : Nat) (e : Int) : FpOut :=
  if m = 0 then ⟨fpZeroOf neg, 0⟩
  else
    let free : Int := e + Nat.log2 m - 23
    let l := max free (-149)
    let q := roundAt rm neg m e l
    let exact := exactAt m e l
    let q' := if q = 2 ^ 24 then 2 ^ 23 else q
    let l' := if q = 2 ^ 24 then l + 1 else l
    if 2 ^ 23 ≤ q' && 104 < l' then ⟨overflowed rm neg, flagOF + flagNX⟩
    else
      let tiny := decide (free + ofBool (roundAt rm neg m e free == 2 ^ 24) < -149)
      let v := fpZeroOf neg + (if q' < 2 ^ 23 then q' else (l' + 150).toNat * 2 ^ 23 + (q' - 2 ^ 23))
      ⟨v, if exact then 0 else flagNX + (if tiny then flagUF else 0)⟩

/-- The number with this exact value, a sum of multiples of 2^`e`; `negZero` is the sign of an exact zero. -/
def fpRoundInt (rm : Nat) (x e : Int) (negZero : Bool) : FpOut :=
  if x = 0 then ⟨fpZeroOf negZero, 0⟩ else fpRound rm (decide (x < 0)) x.natAbs e

/-- A NaN result of these operands: invalid where one of them signals. -/
def nanOf (xs : List Nat) : FpOut := ⟨canonicalNan, if xs.any fpSnan then flagNV else 0⟩

/-- The result of an invalid operation. -/
def fpInvalid : FpOut := ⟨canonicalNan, flagNV⟩

/-! ### Operations -/

/-- The signed significand of a finite single. -/
def fpInt (x : Nat) : Int := if fpSign x then -(fpSig x : Int) else fpSig x

/-- The other sign. -/
def fpNeg (x : Nat) : Nat := x ^^^ 2 ^ 31

/-- `x` + `y`, where `x` and `y` are multiples of 2^`ex` and 2^`ey`. -/
def sumExact (x ex y ey : Int) : Int × Int :=
  let e := min ex ey
  (x * 2 ^ (ex - e).toNat + y * 2 ^ (ey - e).toNat, e)

/-- FADD.S. An exact zero of operands with different signs is negative only where the mode rounds down. -/
def fpAdd (rm a b : Nat) : FpOut :=
  if fpNan a || fpNan b then nanOf [a, b]
  else if fpInf a then (if fpInf b && fpSign a != fpSign b then fpInvalid else ⟨a, 0⟩)
  else if fpInf b then ⟨b, 0⟩
  else
    let s := sumExact (fpInt a) (fpPow a) (fpInt b) (fpPow b)
    fpRoundInt rm s.1 s.2 (if fpSign a == fpSign b then fpSign a else rm == 2)

/-- FMUL.S. -/
def fpMul (rm a b : Nat) : FpOut :=
  let neg := fpSign a != fpSign b
  if fpNan a || fpNan b then nanOf [a, b]
  else if (fpInf a && fpZero b) || (fpZero a && fpInf b) then fpInvalid
  else if fpInf a || fpInf b then ⟨fpInfOf neg, 0⟩
  else fpRound rm neg (fpSig a * fpSig b) (fpPow a + fpPow b)

/-- FMADD.S: `a` × `b` + `c`, rounded once. -/
def fpFma (rm a b c : Nat) : FpOut :=
  let neg := fpSign a != fpSign b
  if (fpInf a && fpZero b) || (fpZero a && fpInf b) then fpInvalid
  else if fpNan a || fpNan b || fpNan c then nanOf [a, b, c]
  else if fpInf a || fpInf b then (if fpInf c && fpSign c != neg then fpInvalid else ⟨fpInfOf neg, 0⟩)
  else if fpInf c then ⟨c, 0⟩
  else
    let s := sumExact (fpInt a * fpInt b) (fpPow a + fpPow b) (fpInt c) (fpPow c)
    fpRoundInt rm s.1 s.2 (if neg == fpSign c then neg else rm == 2)

/-- FDIV.S. The quotient is taken to 60 bits below the first, its remainder kept as one bit more. -/
def fpDiv (rm a b : Nat) : FpOut :=
  let neg := fpSign a != fpSign b
  if fpNan a || fpNan b then nanOf [a, b]
  else if (fpInf a && fpInf b) || (fpZero a && fpZero b) then fpInvalid
  else if fpInf a then ⟨fpInfOf neg, 0⟩
  else if fpInf b then ⟨fpZeroOf neg, 0⟩
  else if fpZero b then ⟨fpInfOf neg, flagDZ⟩
  else
    let n := fpSig a * 2 ^ 60
    fpRound rm neg (2 * (n / fpSig b) + ofBool (n % fpSig b != 0)) (fpPow a - fpPow b - 61)

/-- The integer square root of `x`, from bit `k` downwards, above the root `r` found so far. -/
def sqrtBits : Nat → Nat → Nat → Nat
  | 0, _, r => r
  | k + 1, x, r => sqrtBits k x (if (r + 2 ^ k) * (r + 2 ^ k) ≤ x then r + 2 ^ k else r)

/-- FSQRT.S. -/
def fpSqrt (rm a : Nat) : FpOut :=
  if fpNan a then nanOf [a]
  else if fpZero a then ⟨a, 0⟩
  else if fpSign a then fpInvalid
  else if fpInf a then ⟨a, 0⟩
  else
    let odd := fpPow a % 2 != 0
    let x := fpSig a * (if odd then 2 else 1) * 2 ^ 60
    let r := sqrtBits 44 x 0
    fpRound rm false (2 * r + ofBool (r * r != x)) ((fpPow a - (if odd then 1 else 0)) / 2 - 31)

/-- Is `a` less than `b`, neither being a NaN? Zeros of both signs are equal. -/
def fpLess (a b : Nat) : Bool :=
  if fpZero a && fpZero b then false
  else if fpSign a != fpSign b then fpSign a
  else if fpSign a then decide (b % 2 ^ 31 < a % 2 ^ 31) else decide (a % 2 ^ 31 < b % 2 ^ 31)

/-- FMIN.S and FMAX.S: a NaN gives way to a number, and zero of negative sign is the smaller. -/
def fpMinMax (most : Bool) (a b : Nat) : FpOut :=
  let flags := if fpSnan a || fpSnan b then flagNV else 0
  if fpNan a then ⟨if fpNan b then canonicalNan else b, flags⟩
  else if fpNan b then ⟨a, flags⟩
  else
    let less := fpLess a b || (fpZero a && fpZero b && fpSign a)
    ⟨if less != most then a else b, flags⟩

/-- FEQ.S, FLT.S and FLE.S. -/
def fpEq (a b : Nat) : FpOut :=
  if fpNan a || fpNan b then ⟨0, (nanOf [a, b]).flags⟩ else ⟨ofBool (a == b || (fpZero a && fpZero b)), 0⟩
def fpLt (a b : Nat) : FpOut := if fpNan a || fpNan b then ⟨0, flagNV⟩ else ⟨ofBool (fpLess a b), 0⟩
def fpLe (a b : Nat) : FpOut := if fpNan a || fpNan b then ⟨0, flagNV⟩ else ⟨ofBool (!fpLess b a), 0⟩

/-- FCLASS.S. -/
def fpClass (a : Nat) : Nat :=
  if fpNan a then (if fpSnan a then 2 ^ 8 else 2 ^ 9)
  else if fpInf a then (if fpSign a then 2 ^ 0 else 2 ^ 7)
  else if fpZero a then (if fpSign a then 2 ^ 3 else 2 ^ 4)
  else if fpExp a = 0 then (if fpSign a then 2 ^ 2 else 2 ^ 5)
  else if fpSign a then 2 ^ 1 else 2 ^ 6

/-- FSGNJ.S, FSGNJN.S, FSGNJX.S by their funct3. -/
def fpSgnj (k a b : Nat) : Nat :=
  let s := match k with
    | 0 => fpSign b
    | 1 => !fpSign b
    | _ => fpSign a != fpSign b
  a % 2 ^ 31 + ofBool s * 2 ^ 31

/-- FCVT.W.S and FCVT.WU.S: out of range and NaN give the nearest end of the range, NaN the upper one. -/
def fpToInt (rm : Nat) (signed : Bool) (a : Nat) : FpOut :=
  let hi : Int := if signed then 2 ^ 31 - 1 else 2 ^ 32 - 1
  let lo : Int := if signed then -(2 ^ 31) else 0
  if fpNan a then ⟨ofSigned 32 hi, flagNV⟩
  else if fpInf a then ⟨ofSigned 32 (if fpSign a then lo else hi), flagNV⟩
  else
    let q := roundAt rm (fpSign a) (fpSig a) (fpPow a) 0
    let v : Int := if fpSign a then -(q : Int) else q
    if hi < v then ⟨ofSigned 32 hi, flagNV⟩
    else if v < lo then ⟨ofSigned 32 lo, flagNV⟩
    else ⟨ofSigned 32 v, if exactAt (fpSig a) (fpPow a) 0 then 0 else flagNX⟩

/-- FCVT.S.W and FCVT.S.WU. -/
def fpOfInt (rm : Nat) (signed : Bool) (a : Nat) : FpOut := fpRoundInt rm (if signed then toSigned 32 a else a) 0 false

end Sys2Proof.Machine
end

