-- ==== Sys2Proof/Machine/Insn.lean ====
section
/-!
DEFINITION. The instructions of the harts (R307, Table 8.1): RV32IMC with Zicsr and Zifencei, and on the H harts also A, F, Zba, Zbb and Zbs.
Their encodings and what each computes on its operands are those of the RISC-V specifications that Table 0.1 and R307 name (assumption
log 23).
-/

namespace Sys2Proof.Machine

/-- What an integer computation does with its operands. -/
inductive AluOp where
  | add | sub | sll | slt | sltu | xor | srl | sra | or | and
  | mul | mulh | mulhsu | mulhu | div | divu | rem | remu
  | sh1add | sh2add | sh3add
  | andn | orn | xnor | clz | ctz | cpop | min | minu | max | maxu | sextB | sextH | zextH | rol | ror | orcB | rev8
  | bclr | bext | binv | bset
  deriving DecidableEq, Repr

/-- What an F instruction computes. -/
inductive FpOp where
  | add | sub | mul | div | sqrt
  | sgnj (k : Nat)
  | min | max
  | toInt (signed : Bool)
  | ofInt (signed : Bool)
  | moveToX | moveToF | classify | eq | lt | le
  /-- fused multiply and add; the product, the addend negated -/
  | fma (negMul negAdd : Bool)
  deriving DecidableEq, Repr

/-- A decoded instruction: register numbers, immediates as they are added. -/
inductive Insn where
  | setImm (rd : Nat) (imm : Word)
  | pcImm (rd : Nat) (imm : Word)
  | jump (rd : Nat) (off : Word)
  | jumpReg (rd rs1 : Nat) (off : Word)
  | branch (cond rs1 rs2 : Nat) (off : Word)
  | alu (op : AluOp) (rd rs1 rs2 : Nat)
  | aluImm (op : AluOp) (rd rs1 : Nat) (imm : Word)
  | load (w : Width) (signed : Bool) (rd rs1 : Nat) (off : Word)
  | store (w : Width) (rs1 rs2 : Nat) (off : Word)
  | loadF (rd rs1 : Nat) (off : Word)
  | storeF (rs1 rs2 : Nat) (off : Word)
  | lr (rd rs1 : Nat)
  | sc (rd rs1 rs2 : Nat)
  | amo (op : AmoOp) (rd rs1 rs2 : Nat)
  | fence | fenceI | ecall | ebreak | mret | wfi
  | csr (kind rd src num : Nat)
  | fp (op : FpOp) (rd rs1 rs2 rs3 rm : Nat)
  | illegal
  deriving DecidableEq, Repr

/-! ### Decoding of 32-bit instructions -/

/-- A number of `w` bits as a sign-extended word. -/
def immOf (w v : Nat) : Word := BitVec.ofInt 32 (toSigned w v)

/-- Immediates of the formats I, S, B, U and J. -/
def immI (w : Nat) : Word := immOf 12 (bits w 20 12)
def immS (w : Nat) : Word := immOf 12 (bits w 7 5 + bits w 25 7 * 2 ^ 5)
def immB (w : Nat) : Word := immOf 13 (bits w 8 4 * 2 + bits w 25 6 * 2 ^ 5 + bits w 7 1 * 2 ^ 11 + bits w 31 1 * 2 ^ 12)
def immU (w : Nat) : Word := BitVec.ofNat 32 (bits w 12 20 * 2 ^ 12)
def immJ (w : Nat) : Word := immOf 21 (bits w 21 10 * 2 + bits w 20 1 * 2 ^ 11 + bits w 12 8 * 2 ^ 12 + bits w 31 1 * 2 ^ 20)

/-- Fields of a 32-bit instruction. -/
def rdOf (w : Nat) : Nat := bits w 7 5
def rs1Of (w : Nat) : Nat := bits w 15 5
def rs2Of (w : Nat) : Nat := bits w 20 5
def funct3 (w : Nat) : Nat := bits w 12 3
def funct7 (w : Nat) : Nat := bits w 25 7

/-- OP: the computation by funct7 and funct3; `zero` tells that the rs2 field is 0. -/
def opOf (f7 f3 : Nat) (zero : Bool) : Option AluOp :=
  match f7, f3 with
  | 0x00, 0 => some .add | 0x00, 1 => some .sll | 0x00, 2 => some .slt | 0x00, 3 => some .sltu
  | 0x00, 4 => some .xor | 0x00, 5 => some .srl | 0x00, 6 => some .or | 0x00, 7 => some .and
  | 0x20, 0 => some .sub | 0x20, 5 => some .sra | 0x20, 4 => some .xnor | 0x20, 6 => some .orn | 0x20, 7 => some .andn
  | 0x01, 0 => some .mul | 0x01, 1 => some .mulh | 0x01, 2 => some .mulhsu | 0x01, 3 => some .mulhu
  | 0x01, 4 => some .div | 0x01, 5 => some .divu | 0x01, 6 => some .rem | 0x01, 7 => some .remu
  | 0x10, 2 => some .sh1add | 0x10, 4 => some .sh2add | 0x10, 6 => some .sh3add
  | 0x05, 4 => some .min | 0x05, 5 => some .minu | 0x05, 6 => some .max | 0x05, 7 => some .maxu
  | 0x04, 4 => if zero then some .zextH else none
  | 0x30, 1 => some .rol | 0x30, 5 => some .ror
  | 0x24, 1 => some .bclr | 0x24, 5 => some .bext | 0x34, 1 => some .binv | 0x14, 1 => some .bset
  | _, _ => none

/-- OP-IMM with funct3 1 or 5: the computation by funct7 and the rs2 field, which is the shift amount where one is taken. -/
def shiftOf (f7 f3 k : Nat) : Option AluOp :=
  match f7, f3 with
  | 0x00, 1 => some .sll | 0x00, 5 => some .srl | 0x20, 5 => some .sra
  | 0x30, 1 => match k with
    | 0 => some .clz | 1 => some .ctz | 2 => some .cpop | 4 => some .sextB | 5 => some .sextH
    | _ => none
  | 0x30, 5 => some .ror
  | 0x24, 1 => some .bclr | 0x24, 5 => some .bext | 0x34, 1 => some .binv | 0x14, 1 => some .bset
  | 0x14, 5 => if k = 7 then some .orcB else none
  | 0x34, 5 => if k = 24 then some .rev8 else none
  | _, _ => none

/-- OP-IMM. -/
def decodeOpImm (w : Nat) : Insn :=
  let rd := rdOf w
  let rs1 := rs1Of w
  match funct3 w with
  | 0 => .aluImm .add rd rs1 (immI w)
  | 2 => .aluImm .slt rd rs1 (immI w)
  | 3 => .aluImm .sltu rd rs1 (immI w)
  | 4 => .aluImm .xor rd rs1 (immI w)
  | 6 => .aluImm .or rd rs1 (immI w)
  | 7 => .aluImm .and rd rs1 (immI w)
  | f3 => match shiftOf (funct7 w) f3 (rs2Of w) with
    | some op => .aluImm op rd rs1 (BitVec.ofNat 32 (rs2Of w))
    | none => .illegal

/-- Loads and stores by funct3. -/
def decodeLoad (w : Nat) : Insn :=
  match funct3 w with
  | 0 => .load .byte true (rdOf w) (rs1Of w) (immI w)
  | 1 => .load .half true (rdOf w) (rs1Of w) (immI w)
  | 2 => .load .word false (rdOf w) (rs1Of w) (immI w)
  | 4 => .load .byte false (rdOf w) (rs1Of w) (immI w)
  | 5 => .load .half false (rdOf w) (rs1Of w) (immI w)
  | _ => .illegal
def decodeStore (w : Nat) : Insn :=
  match funct3 w with
  | 0 => .store .byte (rs1Of w) (rs2Of w) (immS w)
  | 1 => .store .half (rs1Of w) (rs2Of w) (immS w)
  | 2 => .store .word (rs1Of w) (rs2Of w) (immS w)
  | _ => .illegal

/-- AMO. -/
def decodeAmo (w : Nat) : Insn :=
  let rd := rdOf w
  let rs1 := rs1Of w
  let rs2 := rs2Of w
  if funct3 w ≠ 2 then .illegal
  else match bits w 27 5 with
    | 0x02 => if rs2 = 0 then .lr rd rs1 else .illegal
    | 0x03 => .sc rd rs1 rs2
    | 0x01 => .amo .swap rd rs1 rs2
    | 0x00 => .amo .add rd rs1 rs2
    | 0x04 => .amo .xor rd rs1 rs2
    | 0x0C => .amo .and rd rs1 rs2
    | 0x08 => .amo .or rd rs1 rs2
    | 0x10 => .amo .min rd rs1 rs2
    | 0x14 => .amo .max rd rs1 rs2
    | 0x18 => .amo .minu rd rs1 rs2
    | 0x1C => .amo .maxu rd rs1 rs2
    | _ => .illegal

/-- SYSTEM. -/
def decodeSystem (w : Nat) : Insn :=
  match funct3 w with
  | 0 => if w = 0x00000073 then .ecall else if w = 0x00100073 then .ebreak else if w = 0x30200073 then .mret
    else if w = 0x10500073 then .wfi else .illegal
  | 4 => .illegal
  | k => .csr k (rdOf w) (rs1Of w) (bits w 20 12)

/-- OP-FP: the operation by funct7, funct3 and the rs2 field. -/
def fpOpOf (f7 f3 k : Nat) : Option FpOp :=
  match f7 with
  | 0x00 => some .add
  | 0x04 => some .sub
  | 0x08 => some .mul
  | 0x0C => some .div
  | 0x2C => if k = 0 then some .sqrt else none
  | 0x10 => if f3 ≤ 2 then some (.sgnj f3) else none
  | 0x14 => if f3 = 0 then some .min else if f3 = 1 then some .max else none
  | 0x60 => if k = 0 then some (.toInt true) else if k = 1 then some (.toInt false) else none
  | 0x68 => if k = 0 then some (.ofInt true) else if k = 1 then some (.ofInt false) else none
  | 0x70 => if k = 0 && f3 = 0 then some .moveToX else if k = 0 && f3 = 1 then some .classify else none
  | 0x78 => if k = 0 && f3 = 0 then some .moveToF else none
  | 0x50 => if f3 = 2 then some .eq else if f3 = 1 then some .lt else if f3 = 0 then some .le else none
  | _ => none

/-- Does the operation round, so that its funct3 is a rounding mode? -/
def FpOp.rounds : FpOp → Bool
  | .add => true | .sub => true | .mul => true | .div => true | .sqrt => true | .toInt _ => true | .ofInt _ => true | .fma _ _ => true
  | _ => false

/-- A fused multiply and add. -/
def decodeFma (negMul negAdd : Bool) (w : Nat) : Insn :=
  if bits w 25 2 = 0 then .fp (.fma negMul negAdd) (rdOf w) (rs1Of w) (rs2Of w) (bits w 27 5) (funct3 w) else .illegal

/-- A 32-bit instruction. -/
def decode32 (w : Nat) : Insn :=
  match bits w 0 7 with
  | 0x37 => .setImm (rdOf w) (immU w)
  | 0x17 => .pcImm (rdOf w) (immU w)
  | 0x6F => .jump (rdOf w) (immJ w)
  | 0x67 => if funct3 w = 0 then .jumpReg (rdOf w) (rs1Of w) (immI w) else .illegal
  | 0x63 => if funct3 w = 2 || funct3 w = 3 then .illegal else .branch (funct3 w) (rs1Of w) (rs2Of w) (immB w)
  | 0x03 => decodeLoad w
  | 0x23 => decodeStore w
  | 0x13 => decodeOpImm w
  | 0x33 => match opOf (funct7 w) (funct3 w) (rs2Of w == 0) with
    | some op => .alu op (rdOf w) (rs1Of w) (rs2Of w)
    | none => .illegal
  | 0x0F => if funct3 w = 0 then .fence else if funct3 w = 1 then .fenceI else .illegal
  | 0x73 => decodeSystem w
  | 0x2F => decodeAmo w
  | 0x07 => if funct3 w = 2 then .loadF (rdOf w) (rs1Of w) (immI w) else .illegal
  | 0x27 => if funct3 w = 2 then .storeF (rs1Of w) (rs2Of w) (immS w) else .illegal
  | 0x43 => decodeFma false false w
  | 0x47 => decodeFma false true w
  | 0x4B => decodeFma true false w
  | 0x4F => decodeFma true true w
  | 0x53 => match fpOpOf (funct7 w) (funct3 w) (rs2Of w) with
    | some op => .fp op (rdOf w) (rs1Of w) (rs2Of w) 0 (funct3 w)
    | none => .illegal
  | _ => .illegal

/-! ### Decoding of compressed instructions -/

/-- Offsets and immediates of the compressed formats. -/
def offCw (w : Nat) : Word := BitVec.ofNat 32 (bits w 6 1 * 2 ^ 2 + bits w 10 3 * 2 ^ 3 + bits w 5 1 * 2 ^ 6)
def offLwsp (w : Nat) : Word := BitVec.ofNat 32 (bits w 4 3 * 2 ^ 2 + bits w 12 1 * 2 ^ 5 + bits w 2 2 * 2 ^ 6)
def offSwsp (w : Nat) : Word := BitVec.ofNat 32 (bits w 9 4 * 2 ^ 2 + bits w 7 2 * 2 ^ 6)
def immCi (w : Nat) : Word := immOf 6 (bits w 2 5 + bits w 12 1 * 2 ^ 5)
def immCj (w : Nat) : Word :=
  immOf 12 (bits w 3 3 * 2 + bits w 11 1 * 2 ^ 4 + bits w 2 1 * 2 ^ 5 + bits w 7 1 * 2 ^ 6 + bits w 6 1 * 2 ^ 7 + bits w 9 2 * 2 ^ 8 +
    bits w 8 1 * 2 ^ 10 + bits w 12 1 * 2 ^ 11)
def immCb (w : Nat) : Word :=
  immOf 9 (bits w 3 2 * 2 + bits w 10 2 * 2 ^ 3 + bits w 2 1 * 2 ^ 5 + bits w 5 2 * 2 ^ 6 + bits w 12 1 * 2 ^ 8)
def imm4spn (w : Nat) : Nat := bits w 6 1 * 2 ^ 2 + bits w 5 1 * 2 ^ 3 + bits w 11 2 * 2 ^ 4 + bits w 7 4 * 2 ^ 6
def imm16sp (w : Nat) : Word :=
  immOf 10 (bits w 6 1 * 2 ^ 4 + bits w 2 1 * 2 ^ 5 + bits w 5 1 * 2 ^ 6 + bits w 3 2 * 2 ^ 7 + bits w 12 1 * 2 ^ 9)

/-- The three-bit register fields name x8 to x15. -/
def cReg (w l : Nat) : Nat := 8 + bits w l 3

/-- Quadrant 0. -/
def decodeQ0 (w : Nat) : Insn :=
  match bits w 13 3 with
  | 0 => if imm4spn w = 0 then .illegal else .aluImm .add (cReg w 2) 2 (BitVec.ofNat 32 (imm4spn w))
  | 2 => .load .word false (cReg w 2) (cReg w 7) (offCw w)
  | 3 => .loadF (cReg w 2) (cReg w 7) (offCw w)
  | 6 => .store .word (cReg w 7) (cReg w 2) (offCw w)
  | 7 => .storeF (cReg w 7) (cReg w 2) (offCw w)
  | _ => .illegal

/-- The register computations of quadrant 1. -/
def decodeCa (w : Nat) : Insn :=
  let rd := cReg w 7
  let sh : Word := BitVec.ofNat 32 (bits w 2 5)
  match bits w 10 2 with
  | 0 => if bit w 12 then .illegal else .aluImm .srl rd rd sh
  | 1 => if bit w 12 then .illegal else .aluImm .sra rd rd sh
  | 2 => .aluImm .and rd rd (immCi w)
  | _ =>
    if bit w 12 then .illegal
    else match bits w 5 2 with
      | 0 => .alu .sub rd rd (cReg w 2)
      | 1 => .alu .xor rd rd (cReg w 2)
      | 2 => .alu .or rd rd (cReg w 2)
      | _ => .alu .and rd rd (cReg w 2)

/-- Quadrant 1. -/
def decodeQ1 (w : Nat) : Insn :=
  let rd := bits w 7 5
  match bits w 13 3 with
  | 0 => .aluImm .add rd rd (immCi w)
  | 1 => .jump 1 (immCj w)
  | 2 => .aluImm .add rd 0 (immCi w)
  | 3 => if bits w 2 5 = 0 && !bit w 12 then .illegal
    else if rd = 2 then .aluImm .add 2 2 (imm16sp w)
    else .setImm rd (immCi w <<< 12)
  | 4 => decodeCa w
  | 5 => .jump 0 (immCj w)
  | 6 => .branch 0 (cReg w 7) 0 (immCb w)
  | _ => .branch 1 (cReg w 7) 0 (immCb w)

/-- Quadrant 2. -/
def decodeQ2 (w : Nat) : Insn :=
  let rd := bits w 7 5
  let rs2 := bits w 2 5
  match bits w 13 3 with
  | 0 => if bit w 12 then .illegal else .aluImm .sll rd rd (BitVec.ofNat 32 rs2)
  | 2 => if rd = 0 then .illegal else .load .word false rd 2 (offLwsp w)
  | 3 => .loadF rd 2 (offLwsp w)
  | 4 =>
    if !bit w 12 then
      if rs2 ≠ 0 then .alu .add rd 0 rs2 else if rd = 0 then .illegal else .jumpReg 0 rd 0
    else if rs2 ≠ 0 then .alu .add rd rd rs2
    else if rd = 0 then .ebreak else .jumpReg 1 rd 0
  | 6 => .store .word 2 rs2 (offSwsp w)
  | 7 => .storeF 2 rs2 (offSwsp w)
  | _ => .illegal

/-- An instruction by its first two bits. -/
def decodeInsn (w : Nat) : Insn :=
  match w % 4 with
  | 0 => decodeQ0 (w % 2 ^ 16)
  | 1 => decodeQ1 (w % 2 ^ 16)
  | 2 => decodeQ2 (w % 2 ^ 16)
  | _ => decode32 w

/-- The bytes of an instruction. -/
def insnLength (w : Nat) : Nat := if w % 4 = 3 then 4 else 2

/-! ### Computations -/

/-- Is the computation of Zba, Zbb or Zbs, which hart M does not have? -/
def AluOp.bitManip : AluOp → Bool
  | .add => false | .sub => false | .sll => false | .slt => false | .sltu => false | .xor => false | .srl => false | .sra => false
  | .or => false | .and => false | .mul => false | .mulh => false | .mulhsu => false | .mulhu => false | .div => false | .divu => false
  | .rem => false | .remu => false
  | _ => true

/-- Leading and trailing zeros. -/
def leadingZeros (a : Word) : Nat := if a.toNat = 0 then 32 else 31 - Nat.log2 a.toNat
def trailingZeros (a : Word) : Nat := ((List.range 32).find? (fun i => bit a.toNat i)).getD 32

/-- The result of a computation on two operands. -/
def aluResult (op : AluOp) (a b : Word) : Word :=
  let k := b.toNat % 32
  match op with
  | .add => a + b
  | .sub => a - b
  | .sll => a <<< k
  | .slt => BitVec.ofNat 32 (ofBool (a.slt b))
  | .sltu => BitVec.ofNat 32 (ofBool (a.ult b))
  | .xor => a ^^^ b
  | .srl => a >>> k
  | .sra => a.sshiftRight k
  | .or => a ||| b
  | .and => a &&& b
  | .mul => a * b
  | .mulh => BitVec.ofInt 32 (Int.fdiv (a.toInt * b.toInt) (2 ^ 32))
  | .mulhsu => BitVec.ofInt 32 (Int.fdiv (a.toInt * b.toNat) (2 ^ 32))
  | .mulhu => BitVec.ofNat 32 (a.toNat * b.toNat / 2 ^ 32)
  | .div => if b = 0 then 0xFFFFFFFF else a.sdiv b
  | .divu => if b = 0 then 0xFFFFFFFF else a / b
  | .rem => if b = 0 then a else a.srem b
  | .remu => if b = 0 then a else a % b
  | .sh1add => b + (a <<< 1)
  | .sh2add => b + (a <<< 2)
  | .sh3add => b + (a <<< 3)
  | .andn => a &&& ~~~b
  | .orn => a ||| ~~~b
  | .xnor => ~~~(a ^^^ b)
  | .clz => BitVec.ofNat 32 (leadingZeros a)
  | .ctz => BitVec.ofNat 32 (trailingZeros a)
  | .cpop => BitVec.ofNat 32 (popCount 32 a.toNat)
  | .min => if a.slt b then a else b
  | .minu => if a.ult b then a else b
  | .max => if a.slt b then b else a
  | .maxu => if a.ult b then b else a
  | .sextB => immOf 8 (a.toNat % 2 ^ 8)
  | .sextH => immOf 16 (a.toNat % 2 ^ 16)
  | .zextH => BitVec.ofNat 32 (a.toNat % 2 ^ 16)
  | .rol => a.rotateLeft k
  | .ror => a.rotateRight k
  | .orcB => BitVec.ofNat 32 (ofBytesLE ((bytesLE 4 a.toNat).map (fun x => if x = 0 then 0 else 255)))
  | .rev8 => BitVec.ofNat 32 (ofBytesBE (bytesLE 4 a.toNat))
  | .bclr => a &&& ~~~((1 : Word) <<< k)
  | .bext => (a >>> k) &&& 1
  | .binv => a ^^^ ((1 : Word) <<< k)
  | .bset => a ||| ((1 : Word) <<< k)

/-- Is the branch with this funct3 taken? -/
def branchTaken (cond : Nat) (a b : Word) : Bool :=
  match cond with
  | 0 => a == b
  | 1 => a != b
  | 4 => a.slt b
  | 5 => !a.slt b
  | 6 => a.ult b
  | _ => !a.ult b

/-- What an F operation gives on the f registers `a`, `b`, `c` and the x register `x`. -/
def fpResult (op : FpOp) (rm a b c x : Nat) : FpOut :=
  match op with
  | .add => fpAdd rm a b
  | .sub => fpAdd rm a (fpNeg b)
  | .mul => fpMul rm a b
  | .div => fpDiv rm a b
  | .sqrt => fpSqrt rm a
  | .sgnj k => ⟨fpSgnj k a b, 0⟩
  | .min => fpMinMax false a b
  | .max => fpMinMax true a b
  | .toInt signed => fpToInt rm signed a
  | .ofInt signed => fpOfInt rm signed x
  | .moveToX => ⟨a, 0⟩
  | .moveToF => ⟨x, 0⟩
  | .classify => ⟨fpClass a, 0⟩
  | .eq => fpEq a b
  | .lt => fpLt a b
  | .le => fpLe a b
  | .fma negMul negAdd => fpFma rm (if negMul then fpNeg a else a) b (if negAdd then fpNeg c else c)

/-- Does the operation write an x register? -/
def FpOp.toX : FpOp → Bool
  | .toInt _ => true | .moveToX => true | .classify => true | .eq => true | .lt => true | .le => true
  | _ => false

end Sys2Proof.Machine
end

