-- ==== Sys2Proof/Machine/Crypto.lean ====
section
/-!
DEFINITION. The block cipher and the checks of the block as pure functions over lists of bytes: AES-128 and AES-256 (FIPS 197,
Table 0.1), ECB, CTR (SP 800-38A), CMAC (SP 800-38B), CCM with a 13-byte nonce (SP 800-38C), and the CRC register (R292).
-/

namespace Sys2Proof.Machine

/-! ### AES (FIPS 197) -/

/-- The S-box, entry `b` at bits [8b+7:8b]. -/
def aesSboxTable : Nat :=
  0x16bb54b00f2d99416842e6bf0d89a18cdf2855cee9871e9b948ed9691198f8e19e1dc186b95735610ef6034866b53e708a8bbd4b1f74dde8c6b4a61c2e2578ba08ae7a65eaf4566ca94ed58d6d37c8e779e4959162acd3c25c2406490a3a32e0db0b5ede14b8ee4688902a22dc4f816073195d643d7ea7c41744975fec130ccdd2f3ff1021dab6bcf5389d928f40a351a89f3c507f02f94585334d43fbaaefd0cf584c4a39becb6a5bb1fc20ed00d153842fe329b3d63b52a05a6e1b1a2c830975b227ebe28012079a059618c323c7041531d871f1e5a534ccf73f362693fdb7c072a49cafa2d4adf04759fa7dc982ca76abd7fe2b670130c56f6bf27b777c63

/-- The inverse S-box, entry `b` at bits [8b+7:8b]. -/
def aesInvSboxTable : Nat :=
  0x7d0c2155631469e126d677ba7e042b17619953833cbbebc8b0f52aae4d3be0a0ef9cc9939f7ae52d0d4ab519a97f51605fec8027591012b131c7078833a8dd1ff45acd78fec0db9a2079d2c64b3e56fc1bbe18aa0e62b76f89c5291d711af1476edf751ce837f9e28535ade72274ac9673e6b4f0cecff297eadc674f4111913a6b8a130103bdafc1020f3fca8f1e2cd00645b3b80558e4f70ad3bc8c00abd890849d8da75746155edab9edfd5048706c92b6655dcc5ca4d41698688664f6f87225d18b6d49a25b76b224d92866a12e084ec3fa420b954cee3d23c2a632947b54cbe9dec444438e3487ff2f9b8239e37cfbd7f3819ea340bf38a53630d56a0952

/-- S-box of one byte. -/
def aesSub (b : Nat) : Nat := bits aesSboxTable (8 * (b % 256)) 8

/-- Inverse S-box of one byte. -/
def aesInvSub (b : Nat) : Nat := bits aesInvSboxTable (8 * (b % 256)) 8

/-- Multiplication by x in GF(2^8). -/
def aesXtime (b : Nat) : Nat := if b < 128 then 2 * b else (2 * b % 256) ^^^ 0x1b

/-- Multiplication in GF(2^8) by a constant below 16. -/
def aesMul (c b : Nat) : Nat :=
  let b2 := aesXtime b
  let b4 := aesXtime b2
  let b8 := aesXtime b4
  (if bit c 0 then b else 0) ^^^ (if bit c 1 then b2 else 0) ^^^ (if bit c 2 then b4 else 0) ^^^ (if bit c 3 then b8 else 0)

/-- S-box of each byte of a 32-bit word. -/
def aesSubWord (w : Nat) : Nat := ofBytesBE ((bytesBE 4 w).map aesSub)

/-- Round constant `i`, from 1. -/
def aesRcon : Nat → Nat
  | 0 => 0x8d
  | 1 => 1
  | n + 1 => aesXtime (aesRcon n)

/-- Key expansion: `fuel` further words after those in `acc` (newest first), `i` the index of the next. -/
def aesExpandGo (nk : Nat) : Nat → Nat → List Nat → List Nat
  | 0, _, acc => acc
  | fuel + 1, i, acc =>
    let t := nth acc 0
    let t' :=
      if i % nk = 0 then aesSubWord ((t * 256 + t / 2 ^ 24) % 2 ^ 32) ^^^ (aesRcon (i / nk) * 2 ^ 24)
      else if nk = 8 && i % 8 = 4 then aesSubWord t
      else t
    aesExpandGo nk fuel (i + 1) ((nth acc (nk - 1) ^^^ t') :: acc)

/-- The round keys, 16 bytes each, for a key of 16 bytes (AES-128) or 32 bytes (AES-256). -/
def aesRoundKeys (key : List Nat) : List (List Nat) :=
  let nk := if key.length ≤ 16 then 4 else 8
  let first := (List.range nk).map (fun i => ofBytesBE (padTo 4 (key.drop (4 * i))))
  let words := (aesExpandGo nk (4 * (nk + 7) - nk) nk first.reverse).reverse
  (List.range (nk + 7)).map (fun r => ((words.drop (4 * r)).take 4).flatMap (bytesBE 4))

/-- ShiftRows on 16 bytes, column by column. -/
def aesShiftRows (s : List Nat) : List Nat := (List.range 16).map (fun i => nth s ((i + 4 * (i % 4)) % 16))

/-- The inverse of ShiftRows. -/
def aesInvShiftRows (s : List Nat) : List Nat := (List.range 16).map (fun i => nth s ((i + 12 * (i % 4)) % 16))

/-- One column mixed by the circulant matrix with first row `a b c d`. -/
def aesMixBy (a b c d : Nat) (s : List Nat) : List Nat :=
  (List.range 16).map (fun i =>
    let col := i / 4 * 4
    let r := i % 4
    let e := fun k => nth s (col + (r + k) % 4)
    aesMul a (e 0) ^^^ aesMul b (e 1) ^^^ aesMul c (e 2) ^^^ aesMul d (e 3))

/-- AES encryption of one block under expanded keys. -/
def aesEncWith (rk : List (List Nat)) (blk : List Nat) : List Nat :=
  let n := rk.length - 1
  let s0 := xorBytes (padTo 16 blk) (rk.getD 0 [])
  let mid := (List.range (n - 1)).foldl
    (fun s r => xorBytes (aesMixBy 2 3 1 1 (aesShiftRows (s.map aesSub))) (rk.getD (r + 1) [])) s0
  xorBytes (aesShiftRows (mid.map aesSub)) (rk.getD n [])

/-- AES decryption of one block under expanded keys. -/
def aesDecWith (rk : List (List Nat)) (blk : List Nat) : List Nat :=
  let n := rk.length - 1
  let s0 := xorBytes (padTo 16 blk) (rk.getD n [])
  let mid := (List.range (n - 1)).foldl
    (fun s r => aesMixBy 14 11 13 9 (xorBytes ((aesInvShiftRows s).map aesInvSub) (rk.getD (n - 1 - r) []))) s0
  xorBytes ((aesInvShiftRows mid).map aesInvSub) (rk.getD 0 [])

/-- AES encryption of one 16-byte block. -/
def aesEnc (key blk : List Nat) : List Nat := aesEncWith (aesRoundKeys key) blk

/-- AES decryption of one 16-byte block. -/
def aesDec (key blk : List Nat) : List Nat := aesDecWith (aesRoundKeys key) blk

/-- The list in blocks of 16 bytes, the last one short. -/
def blocks16 (l : List Nat) : List (List Nat) :=
  (List.range ((l.length + 15) / 16)).map (fun i => (l.drop (16 * i)).take 16)

/-- ECB over whole blocks (SP 800-38A). -/
def aesEcb (dec : Bool) (key data : List Nat) : List Nat :=
  let rk := aesRoundKeys key
  (blocks16 data).flatMap (if dec then aesDecWith rk else aesEncWith rk)

/-- A counter block advanced by `k`: the rightmost 32 bits, big-endian, modulo 2^32 (Table 8.7, CTR). -/
def ctrBlock (iv : List Nat) (k : Nat) : List Nat :=
  (padTo 16 iv).take 12 ++ bytesBE 4 ((ofBytesBE ((padTo 16 iv).drop 12) + k) % 2 ^ 32)

/-- CTR mode from the initial counter block `iv`. -/
def aesCtr (key iv data : List Nat) : List Nat :=
  let rk := aesRoundKeys key
  let ks := (List.range ((data.length + 15) / 16)).flatMap (fun k => aesEncWith rk (ctrBlock iv k))
  xorBytes data ks

/-- CBC-MAC over whole blocks, from a zero block. -/
def cbcMac (rk : List (List Nat)) (bs : List (List Nat)) : List Nat :=
  bs.foldl (fun x b => aesEncWith rk (xorBytes x (padTo 16 b))) (List.replicate 16 0)

/-- A 16-byte block doubled in GF(2^128), for the CMAC subkeys. -/
def cmacDouble (b : List Nat) : List Nat :=
  let v := ofBytesBE b
  let d := (2 * v) % 2 ^ 128
  bytesBE 16 (if v < 2 ^ 127 then d else d ^^^ 0x87)

/-- CMAC (SP 800-38B): the 16-byte tag of a message. -/
def aesCmac (key data : List Nat) : List Nat :=
  let rk := aesRoundKeys key
  let k1 := cmacDouble (aesEncWith rk (List.replicate 16 0))
  let k2 := cmacDouble k1
  let n := (data.length + 15) / 16
  let head := (blocks16 data).take (n - 1)
  let last := data.drop (16 * (n - 1))
  let lastBlock := if last.length = 16 then xorBytes last k1 else xorBytes (padTo 16 (last ++ [0x80])) k2
  cbcMac rk (head ++ [lastBlock])

/-- The encoding of the length of the associated data (SP 800-38C, A.2.2). -/
def ccmAadLen (n : Nat) : List Nat :=
  if n = 0 then [] else if n < 0xFF00 then bytesBE 2 n else [0xFF, 0xFE] ++ bytesBE 4 n

/-- The bytes padded with zeros to whole blocks. -/
def padBlock (l : List Nat) : List Nat := l ++ List.replicate ((16 - l.length % 16) % 16) 0

/-- CCM (SP 800-38C) with a 13-byte nonce: the tag of `t` bytes over nonce, associated data and plaintext. -/
def ccmTag (key nonce aad plain : List Nat) (t : Nat) : List Nat :=
  let rk := aesRoundKeys key
  let flags := (if aad.isEmpty then 0 else 64) + 8 * ((t - 2) / 2) + 1
  let b0 := flags :: (padTo 13 nonce ++ bytesBE 2 plain.length)
  let m := cbcMac rk (blocks16 (b0 ++ (if aad.isEmpty then [] else padBlock (ccmAadLen aad.length ++ aad)) ++ padBlock plain))
  let s0 := aesEncWith rk (1 :: (padTo 13 nonce ++ [0, 0]))
  (xorBytes m s0).take t

/-- CCM: the counter pass, which turns plaintext into ciphertext and back. -/
def ccmCrypt (key nonce data : List Nat) : List Nat :=
  let rk := aesRoundKeys key
  let ks := (List.range ((data.length + 15) / 16)).flatMap
    (fun k => aesEncWith rk (1 :: (padTo 13 nonce ++ bytesBE 2 (k + 1))))
  xorBytes data ks

/-! ### CRC (R292, Table 7.7) -/

/-- The parameters of one CRC algorithm. -/
structure CrcAlg where
  width  : Nat
  poly   : Nat
  init   : Nat
  refIn  : Bool
  refOut : Bool
  xorOut : Nat
  deriving DecidableEq, Repr

/-- One bit shifted through a CRC register of `w` bits, most significant bit first. -/
def crcShift (w poly r : Nat) (b : Bool) : Nat :=
  let top := bit r (w - 1) != b
  let r' := (2 * r) % 2 ^ w
  if top then r' ^^^ (poly % 2 ^ w) else r'

/-- One byte added to the running value of a CRC. -/
def crcByte (a : CrcAlg) (r b : Nat) : Nat :=
  (bitsBE 8 (if a.refIn then reflect 8 b else b)).foldl (crcShift a.width a.poly) r

/-- Bytes added to the running value. -/
def crcBytes (a : CrcAlg) (r : Nat) (data : List Nat) : Nat := data.foldl (crcByte a) r

/-- The result after reflection and final XOR, right-aligned (Table 7.12, RESULT). -/
def crcFinish (a : CrcAlg) (r : Nat) : Nat :=
  ((if a.refOut then reflect a.width r else r) ^^^ a.xorOut) % 2 ^ a.width

/-- The CRC of a message from the initial value. -/
def crcOf (a : CrcAlg) (data : List Nat) : Nat := crcFinish a (crcBytes a (a.init % 2 ^ a.width) data)

/-- CRC-32 (IEEE 802.3), mode 0 of Table 7.7. -/
def crc32Alg : CrcAlg := ⟨32, 0x04C11DB7, 0xFFFFFFFF, true, true, 0xFFFFFFFF⟩
/-- CRC-16-CCITT, mode 1. -/
def crc16Alg : CrcAlg := ⟨16, 0x1021, 0xFFFF, false, false, 0⟩
/-- CRC-8 (SAE J1850), mode 2. -/
def crc8Alg : CrcAlg := ⟨8, 0x1D, 0xFF, false, false, 0xFF⟩

/-- The algorithm of CRC_MODE `m` (Table 7.7), with the programmable parameters; modes 6 and 7 are reserved. -/
def crcAlgOf (m poly init xorOut : Nat) (refIn refOut : Bool) : CrcAlg :=
  match m with
  | 0 => crc32Alg
  | 1 => crc16Alg
  | 2 => crc8Alg
  | 3 => ⟨8, poly % 2 ^ 8, init % 2 ^ 8, refIn, refOut, xorOut % 2 ^ 8⟩
  | 4 => ⟨16, poly % 2 ^ 16, init % 2 ^ 16, refIn, refOut, xorOut % 2 ^ 16⟩
  | _ => ⟨32, poly, init, refIn, refOut, xorOut⟩

end Sys2Proof.Machine
end

