-- ==== Sys2Proof/Machine/Fields.lean ====
section
/-!
DEFINITION. The register fields of the 36 peripheral pages, one constant (or one indexed family of constants) for each
field of the register tables of spec/: its page and offset, least significant bit, width, access code (R9, Table 0.2), reset value,
which reset returns it to that value, and the encodings the spec does not reserve (R12). `fieldsAt` gives the fields of the
word at an address; an address with none is one "that no chapter defines" (R222).
-/

namespace Sys2Proof.Machine

/-- The access codes of Table 0.2 (R9). -/
inductive Acc where
  | rw | ro | w1c | w1s | wo | rwl | rs
  deriving DecidableEq, Repr

/-- What returns a field to its reset value: every system-level reset (`sys`); POR and brown-out only (`kept`, "kept;
POR and brown-out"); POR only (`por`); a fuse load (`fuse`); the loss of VBAT retention (`vbat`, R497); nothing, the field
follows a supply, a clock or a pad (`live`); nothing at all (`never`). -/
inductive Keep where
  | sys | kept | por | fuse | vbat | live | never
  deriving DecidableEq, Repr

/-- One field of a register: where it stands, how it is accessed, what it holds after reset, which values it takes. -/
structure Fld where
  /-- page of the register -/
  page  : Nat
  /-- byte offset of the register within its page -/
  off   : Nat
  /-- least significant bit within the register -/
  lsb   : Nat
  /-- number of bits -/
  width : Nat
  /-- access code -/
  acc   : Acc
  /-- value of the Reset column -/
  reset : Nat
  /-- which reset applies -/
  keep  : Keep
  /-- ranges of the encodings that are not reserved; empty: every value -/
  legal : List (Nat × Nat)
  deriving DecidableEq, Repr

/-- The key of a field in the field file: unique, because no register has two fields at one bit; its low six bits name the page. -/
def Fld.key (f : Fld) : Nat := (f.off * 32 + f.lsb) * 64 + f.page % 64

/-- R12: is `v` an encoding of the field that is not reserved? -/
def Fld.legalValue (f : Fld) (v : Nat) : Bool :=
  f.legal.isEmpty || f.legal.any (fun r => r.1 ≤ v && v ≤ r.2)

/-- The address of offset `off` of page `p` (R222). -/
def pageAddr (p off : Nat) : Nat := 0x40000000 + 0x1000 * p + off

/-- The field of an indexed family whose register stands at offset `off`, one register every `stride` bytes. -/
def strideAt (base stride first count off : Nat) (f : Nat → Fld) : List Fld :=
  if base ≤ off && (off - base) % stride == 0 && (off - base) / stride < count then [f (first + (off - base) / stride)] else []

/-- The fields of an indexed family that share the word at offset `off`, `per` of them in each word. -/
def packedAt (base per first count off : Nat) (f : Nat → Fld) : List Fld :=
  if base ≤ off && (off - base) % 4 == 0 then
    ((List.range per).filter (fun j => (off - base) / 4 * per + j < count)).map (fun j => f (first + ((off - base) / 4 * per + j)))
  else []

/-- Common page header (Table 6.15), page `p`: PAGE_OWN.ATTR; fixed at 1 on SYS. -/
def HDR.ATTR (p : Nat) : Fld := ⟨p, 4, 4, 1, if p = 0 then .ro else .rwl, if p = 0 then 1 else 0, .sys, []⟩
/-- Common page header (Table 6.15), page `p`: PAGE_OWN.LOCK. -/
def HDR.LOCK (p : Nat) : Fld := ⟨p, 4, 5, 1, .w1s, 0, .sys, []⟩
/-- Common page header: PAGE_ID and the ownership bits of PAGE_OWN, which the read computes (Table 6.15). -/
def HDR.PAGE_ID (p : Nat) : Fld := ⟨p, 0, 0, 24, .ro, 0, .sys, []⟩

/-! ### SUPPLY page: Tables 3.8 to 3.20, R134 of spec/03_power_entry.md -/

def SUPPLY.SRC_CHANGE : Fld := ⟨3, 0x8, 0, 1, .w1c, 0, .sys, []⟩
def SUPPLY.PGOOD_RISE : Fld := ⟨3, 0x8, 1, 1, .w1c, 0, .sys, []⟩
def SUPPLY.PGOOD_FALL : Fld := ⟨3, 0x8, 2, 1, .w1c, 0, .sys, []⟩
def SUPPLY.MAINS_CHANGE : Fld := ⟨3, 0x8, 3, 1, .w1c, 0, .sys, []⟩
def SUPPLY.CHG_LIMIT_HIT : Fld := ⟨3, 0x8, 4, 1, .w1c, 0, .sys, []⟩
def SUPPLY.REST_TAKEN : Fld := ⟨3, 0x8, 5, 1, .w1c, 0, .sys, []⟩
def SUPPLY.UNC_OVER : Fld := ⟨3, 0x8, 6, 1, .w1c, 0, .sys, []⟩
def SUPPLY.RAIL_FAULT : Fld := ⟨3, 0x8, 7, 1, .w1c, 0, .sys, []⟩
def SUPPLY.PGOOD_REJECT : Fld := ⟨3, 0x8, 8, 1, .w1c, 0, .sys, []⟩
def SUPPLY.EVT_EN : Fld := ⟨3, 0xC, 0, 9, .rw, 0, .sys, []⟩
def SUPPLY.ACTIVE_SRC : Fld := ⟨3, 0x10, 0, 2, .ro, 0, .live, []⟩
def SUPPLY.VBAT_VALID : Fld := ⟨3, 0x10, 2, 1, .ro, 0, .live, []⟩
def SUPPLY.VISO_VALID : Fld := ⟨3, 0x10, 3, 1, .ro, 0, .live, []⟩
def SUPPLY.VSTORE_VALID : Fld := ⟨3, 0x10, 4, 1, .ro, 0, .live, []⟩
def SUPPLY.PGOOD : Fld := ⟨3, 0x10, 5, 1, .ro, 0, .live, []⟩
def SUPPLY.MAINS_PRESENT : Fld := ⟨3, 0x10, 6, 1, .ro, 0, .live, []⟩
def SUPPLY.MAINS_FAULT : Fld := ⟨3, 0x10, 7, 1, .ro, 0, .live, []⟩
def SUPPLY.HARV_RUN : Fld := ⟨3, 0x10, 8, 1, .ro, 0, .live, []⟩
def SUPPLY.AT_LIMIT : Fld := ⟨3, 0x10, 9, 1, .ro, 0, .live, []⟩
def SUPPLY.V5_FAULT : Fld := ⟨3, 0x10, 10, 1, .ro, 0, .sys, []⟩
def SUPPLY.V33_FAULT : Fld := ⟨3, 0x10, 11, 1, .ro, 0, .sys, []⟩
def SUPPLY.REF_VALID : Fld := ⟨3, 0x10, 12, 1, .ro, 0, .kept, []⟩
def SUPPLY.ON_CODE : Fld := ⟨3, 0x14, 0, 6, .rw, 24, .sys, []⟩
def SUPPLY.OFF_CODE : Fld := ⟨3, 0x14, 8, 6, .rw, 14, .sys, []⟩
def SUPPLY.V5_EN : Fld := ⟨3, 0x18, 0, 1, .rw, 1, .sys, []⟩
def SUPPLY.V33_EN : Fld := ⟨3, 0x18, 1, 1, .rw, 1, .sys, []⟩
def SUPPLY.V5_CALM : Fld := ⟨3, 0x18, 4, 1, .rw, 0, .sys, []⟩
def SUPPLY.V33_CALM : Fld := ⟨3, 0x18, 5, 1, .rw, 1, .sys, []⟩
def SUPPLY.HARV_EN : Fld := ⟨3, 0x1C, 0, 1, .rw, 1, .sys, []⟩
def SUPPLY.HARV_HOLD : Fld := ⟨3, 0x1C, 1, 1, .rw, 0, .sys, []⟩
def SUPPLY.MPPT_K : Fld := ⟨3, 0x1C, 8, 6, .rw, 49, .sys, [(32, 61)]⟩
def SUPPLY.MPPT_PERIOD : Fld := ⟨3, 0x1C, 16, 8, .rw, 16, .sys, [(1, 128)]⟩
def SUPPLY.MPPT_SETTLE : Fld := ⟨3, 0x1C, 24, 7, .rw, 16, .sys, [(2, 64)]⟩
def SUPPLY.CHG_LIMIT : Fld := ⟨3, 0x20, 0, 6, .rw, 0, .sys, [(0, 50)]⟩
def SUPPLY.GAUGE_EN : Fld := ⟨3, 0x24, 0, 1, .rw, 1, .kept, []⟩
def SUPPLY.REST_TIME : Fld := ⟨3, 0x24, 8, 6, .rw, 10, .kept, [(1, 60)]⟩
def SUPPLY.REST_CURRENT : Fld := ⟨3, 0x24, 16, 8, .rw, 20, .kept, [(1, 255)]⟩
def SUPPLY.V_PERIOD : Fld := ⟨3, 0x24, 24, 8, .rw, 10, .kept, [(1, 255)]⟩
def SUPPLY.CAPACITY : Fld := ⟨3, 0x28, 0, 32, .rw, 0, .kept, []⟩
def SUPPLY.UNC_LIMIT : Fld := ⟨3, 0x2C, 0, 10, .rw, 100, .kept, [(0, 1000)]⟩
def SUPPLY.UNC_REF : Fld := ⟨3, 0x2C, 16, 10, .rw, 20, .kept, [(0, 1000)]⟩
def SUPPLY.CHARGE : Fld := ⟨3, 0x30, 0, 32, .rs, 0, .kept, []⟩
def SUPPLY.VSTORE_MV : Fld := ⟨3, 0x34, 0, 13, .ro, 0, .kept, []⟩
def SUPPLY.REF_MV : Fld := ⟨3, 0x34, 16, 13, .ro, 0, .kept, []⟩
def SUPPLY.AGE : Fld := ⟨3, 0x38, 0, 32, .ro, 0, .kept, []⟩
def SUPPLY.UNC : Fld := ⟨3, 0x3C, 0, 10, .ro, 1000, .kept, []⟩

/-- The fields of the SUPPLY page at offset `off`. -/
def SUPPLY.fieldsAt (off : Nat) : List Fld :=
  ([SUPPLY.SRC_CHANGE, SUPPLY.PGOOD_RISE, SUPPLY.PGOOD_FALL, SUPPLY.MAINS_CHANGE, SUPPLY.CHG_LIMIT_HIT, SUPPLY.REST_TAKEN, SUPPLY.UNC_OVER, SUPPLY.RAIL_FAULT, SUPPLY.PGOOD_REJECT, SUPPLY.EVT_EN, SUPPLY.ACTIVE_SRC, SUPPLY.VBAT_VALID, SUPPLY.VISO_VALID, SUPPLY.VSTORE_VALID, SUPPLY.PGOOD, SUPPLY.MAINS_PRESENT, SUPPLY.MAINS_FAULT, SUPPLY.HARV_RUN, SUPPLY.AT_LIMIT, SUPPLY.V5_FAULT, SUPPLY.V33_FAULT, SUPPLY.REF_VALID, SUPPLY.ON_CODE, SUPPLY.OFF_CODE, SUPPLY.V5_EN, SUPPLY.V33_EN, SUPPLY.V5_CALM, SUPPLY.V33_CALM, SUPPLY.HARV_EN, SUPPLY.HARV_HOLD, SUPPLY.MPPT_K, SUPPLY.MPPT_PERIOD, SUPPLY.MPPT_SETTLE, SUPPLY.CHG_LIMIT, SUPPLY.GAUGE_EN, SUPPLY.REST_TIME, SUPPLY.REST_CURRENT, SUPPLY.V_PERIOD, SUPPLY.CAPACITY, SUPPLY.UNC_LIMIT, SUPPLY.UNC_REF, SUPPLY.CHARGE, SUPPLY.VSTORE_MV, SUPPLY.REF_MV, SUPPLY.AGE, SUPPLY.UNC].filter (fun f => f.off == off))

/-! ### PWR page: Tables 4.13 to 4.21 of spec/04_islands_modes_voltage.md -/

def PWR.OP_DONE : Fld := ⟨2, 0x8, 0, 1, .w1c, 0, .sys, []⟩
def PWR.WAKE_DONE : Fld := ⟨2, 0x8, 1, 1, .w1c, 0, .sys, []⟩
def PWR.ENTRY_REFUSED : Fld := ⟨2, 0x8, 2, 1, .w1c, 0, .sys, []⟩
def PWR.THERM_WARN : Fld := ⟨2, 0x8, 3, 1, .w1c, 0, .sys, []⟩
def PWR.VOLT_RETARGETED : Fld := ⟨2, 0x8, 4, 1, .w1c, 0, .sys, []⟩
def PWR.EVT_EN : Fld := ⟨2, 0xC, 0, 5, .rw, 0, .sys, []⟩
def PWR.MODE_REQ : Fld := ⟨2, 0x10, 0, 3, .rw, 0, .sys, [(0, 3)]⟩
def PWR.MODE : Fld := ⟨2, 0x10, 4, 3, .ro, 0, .sys, []⟩
def PWR.ARMED : Fld := ⟨2, 0x10, 8, 1, .ro, 0, .sys, []⟩
def PWR.OP_CMD : Fld := ⟨2, 0x14, 0, 2, .rw, 0, .sys, []⟩
def PWR.OP_NOW : Fld := ⟨2, 0x14, 4, 2, .ro, 0, .sys, []⟩
def PWR.SLEWING : Fld := ⟨2, 0x14, 8, 1, .ro, 0, .sys, []⟩
def PWR.SLEW : Fld := ⟨2, 0x18, 0, 4, .rw, 4, .sys, [(1, 8)]⟩
def PWR.CTRL_ON : Fld := ⟨2, 0x1C, 0, 1, .rw, 1, .sys, []⟩
def PWR.CAN_ON : Fld := ⟨2, 0x1C, 1, 1, .rw, 1, .sys, []⟩
def PWR.RADIO_ON : Fld := ⟨2, 0x1C, 2, 1, .rw, 1, .sys, []⟩
def PWR.BANK_RET : Fld := ⟨2, 0x20, 0, 8, .rw, 0, .sys, []⟩
def PWR.RET_DESC : Fld := ⟨2, 0x20, 8, 1, .rw, 0, .sys, []⟩
def PWR.RET_CAN : Fld := ⟨2, 0x20, 9, 1, .rw, 0, .sys, []⟩
def PWR.RET_RADIO : Fld := ⟨2, 0x20, 10, 1, .rw, 0, .sys, []⟩
def PWR.RET_CTRL : Fld := ⟨2, 0x20, 11, 1, .rw, 0, .sys, []⟩
def PWR.WAKE_EN : Fld := ⟨2, 0x24, 0, 7, .rw, 0, .sys, []⟩
def PWR.WAKE_CAUSE : Fld := ⟨2, 0x28, 0, 7, .w1c, 0, .sys, []⟩
def PWR.WARM_EN : Fld := ⟨2, 0x2C, 0, 1, .rw, 0, .sys, []⟩
def PWR.WARM_VECTOR : Fld := ⟨2, 0x2C, 2, 30, .rw, 0x4000000, .sys, []⟩
def PWR.REFUSE_REASON : Fld := ⟨2, 0x30, 0, 4, .ro, 0, .sys, []⟩
def PWR.THERM_HOT : Fld := ⟨2, 0x30, 4, 1, .ro, 0, .sys, []⟩

/-- The fields of the PWR page at offset `off`. -/
def PWR.fieldsAt (off : Nat) : List Fld :=
  ([PWR.OP_DONE, PWR.WAKE_DONE, PWR.ENTRY_REFUSED, PWR.THERM_WARN, PWR.VOLT_RETARGETED, PWR.EVT_EN, PWR.MODE_REQ, PWR.MODE, PWR.ARMED, PWR.OP_CMD, PWR.OP_NOW, PWR.SLEWING, PWR.SLEW, PWR.CTRL_ON, PWR.CAN_ON, PWR.RADIO_ON, PWR.BANK_RET, PWR.RET_DESC, PWR.RET_CAN, PWR.RET_RADIO, PWR.RET_CTRL, PWR.WAKE_EN, PWR.WAKE_CAUSE, PWR.WARM_EN, PWR.WARM_VECTOR, PWR.REFUSE_REASON, PWR.THERM_HOT].filter (fun f => f.off == off))

/-! ### CLK page: Table 4.22 of spec/04_islands_modes_voltage.md -/

def CLK.CLK_LOSS : Fld := ⟨4, 0x8, 0, 1, .w1c, 0, .sys, []⟩
def CLK.EVT_EN : Fld := ⟨4, 0xC, 0, 1, .rw, 0, .sys, []⟩
def CLK.XO40_OK : Fld := ⟨4, 0x10, 0, 1, .ro, 0, .live, []⟩
def CLK.XO32_OK : Fld := ⟨4, 0x10, 1, 1, .ro, 0, .live, []⟩
def CLK.PLL_CORE_LOCK : Fld := ⟨4, 0x10, 2, 1, .ro, 0, .live, []⟩
def CLK.PLL_PERIPH_LOCK : Fld := ⟨4, 0x10, 3, 1, .ro, 0, .live, []⟩
def CLK.KEEP_ON_RC : Fld := ⟨4, 0x10, 4, 1, .ro, 0, .live, []⟩
def CLK.LF_CAL_VALID : Fld := ⟨4, 0x10, 5, 1, .ro, 0, .sys, []⟩
def CLK.AO_ON_RC : Fld := ⟨4, 0x10, 6, 1, .ro, 0, .sys, []⟩
def CLK.LF_ADDEND : Fld := ⟨4, 0x14, 0, 32, .ro, 0x77359400, .sys, []⟩

/-- The fields of the CLK page at offset `off`. -/
def CLK.fieldsAt (off : Nat) : List Fld :=
  ([CLK.CLK_LOSS, CLK.EVT_EN, CLK.XO40_OK, CLK.XO32_OK, CLK.PLL_CORE_LOCK, CLK.PLL_PERIPH_LOCK, CLK.KEEP_ON_RC, CLK.LF_CAL_VALID, CLK.AO_ON_RC, CLK.LF_ADDEND].filter (fun f => f.off == off))

/-! ### RSTC page: Tables 5.12 and 5.13 of spec/05_reset_fuses_boot.md -/

def RSTC.TEN_RST_DONE : Fld := ⟨1, 0x8, 0, 1, .w1c, 0, .sys, []⟩
def RSTC.FUSE_DONE : Fld := ⟨1, 0x8, 1, 1, .w1c, 0, .sys, []⟩
def RSTC.RELEASE_REFUSED : Fld := ⟨1, 0x8, 2, 1, .w1c, 0, .sys, []⟩
def RSTC.EVT_EN : Fld := ⟨1, 0xC, 0, 3, .rw, 0, .sys, []⟩
def RSTC.CAUSE_POR : Fld := ⟨1, 0x10, 0, 1, .w1c, 0, .por, []⟩
def RSTC.CAUSE_BROWNOUT : Fld := ⟨1, 0x10, 1, 1, .w1c, 0, .por, []⟩
def RSTC.CAUSE_PIN : Fld := ⟨1, 0x10, 2, 1, .w1c, 0, .por, []⟩
def RSTC.CAUSE_WDT0 : Fld := ⟨1, 0x10, 3, 1, .w1c, 0, .por, []⟩
def RSTC.CAUSE_SOFT : Fld := ⟨1, 0x10, 4, 1, .w1c, 0, .por, []⟩
def RSTC.CAUSE_DEBUG : Fld := ⟨1, 0x10, 5, 1, .w1c, 0, .por, []⟩
def RSTC.CAUSE_THERMAL : Fld := ⟨1, 0x10, 6, 1, .w1c, 0, .por, []⟩
def RSTC.CAUSE_OFF_EXIT : Fld := ⟨1, 0x10, 7, 1, .w1c, 0, .por, []⟩
def RSTC.CAUSE_FAILSAFE : Fld := ⟨1, 0x10, 8, 1, .w1c, 0, .por, []⟩
def RSTC.TEN_CAUSE_WDT (n : Nat) : Fld := ⟨1, 0x14, (4*n), 1, .w1c, 0, .sys, []⟩
def RSTC.TEN_CAUSE_SOFT (n : Nat) : Fld := ⟨1, 0x14, (4*n+1), 1, .w1c, 0, .sys, []⟩
def RSTC.TEN_CAUSE_DEBUG (n : Nat) : Fld := ⟨1, 0x14, (4*n+2), 1, .w1c, 0, .sys, []⟩
def RSTC.BOOT_FAIL : Fld := ⟨1, 0x18, 0, 1, .ro, 0, .sys, []⟩
def RSTC.BOOT_ERR : Fld := ⟨1, 0x18, 1, 3, .ro, 0, .sys, []⟩
def RSTC.FACTORY_CRC_BAD : Fld := ⟨1, 0x18, 4, 1, .ro, 0, .fuse, []⟩
def RSTC.QUOTA_FUSE_BAD : Fld := ⟨1, 0x18, 5, 1, .ro, 0, .fuse, []⟩
def RSTC.FLASH_ABANDONED : Fld := ⟨1, 0x18, 6, 1, .w1c, 0, .por, []⟩
def RSTC.QUIESCE_BUSY : Fld := ⟨1, 0x18, 8, 3, .ro, 0, .sys, []⟩
def RSTC.RELEASE_REASON : Fld := ⟨1, 0x18, 12, 3, .ro, 0, .sys, []⟩
def RSTC.STRETCH : Fld := ⟨1, 0x18, 16, 2, .ro, 0, .fuse, []⟩
def RSTC.CANA_LISTEN : Fld := ⟨1, 0x18, 18, 1, .ro, 0, .fuse, []⟩
def RSTC.SWRESET_SYS : Fld := ⟨1, 0x1C, 0, 1, .wo, 0, .sys, []⟩
def RSTC.SWRESET_TEN : Fld := ⟨1, 0x1C, 1, 3, .wo, 0, .sys, []⟩
def RSTC.SWRESET_KEY : Fld := ⟨1, 0x1C, 16, 16, .wo, 0, .sys, []⟩
def RSTC.RUN : Fld := ⟨1, 0x20, 1, 3, .w1s, 0, .sys, []⟩
def RSTC.VECTOR (n : Nat) : Fld := ⟨1, 0x24+4*(n-1), 1, 31, .rw, 0, .sys, []⟩
def RSTC.EPOCH (n : Nat) : Fld := ⟨1, 0x30+4*(n/2), (16*(n%2)), 16, .ro, 0, .por, []⟩
def RSTC.WORD : Fld := ⟨1, 0x38, 0, 6, .rw, 0, .sys, []⟩
def RSTC.CMD : Fld := ⟨1, 0x38, 8, 2, .wo, 0, .sys, []⟩
def RSTC.FUSE_BUSY : Fld := ⟨1, 0x38, 16, 1, .ro, 0, .sys, []⟩
def RSTC.FUSE_RESULT : Fld := ⟨1, 0x38, 17, 3, .ro, 0, .sys, []⟩
def RSTC.FUSE_DATA : Fld := ⟨1, 0x3C, 0, 32, .rw, 0, .sys, []⟩

/-- The fields of the RSTC page at offset `off`. -/
def RSTC.fieldsAt (off : Nat) : List Fld :=
  ([RSTC.TEN_RST_DONE, RSTC.FUSE_DONE, RSTC.RELEASE_REFUSED, RSTC.EVT_EN, RSTC.CAUSE_POR, RSTC.CAUSE_BROWNOUT, RSTC.CAUSE_PIN, RSTC.CAUSE_WDT0, RSTC.CAUSE_SOFT, RSTC.CAUSE_DEBUG, RSTC.CAUSE_THERMAL, RSTC.CAUSE_OFF_EXIT, RSTC.CAUSE_FAILSAFE, RSTC.BOOT_FAIL, RSTC.BOOT_ERR, RSTC.FACTORY_CRC_BAD, RSTC.QUOTA_FUSE_BAD, RSTC.FLASH_ABANDONED, RSTC.QUIESCE_BUSY, RSTC.RELEASE_REASON, RSTC.STRETCH, RSTC.CANA_LISTEN, RSTC.SWRESET_SYS, RSTC.SWRESET_TEN, RSTC.SWRESET_KEY, RSTC.RUN, RSTC.WORD, RSTC.CMD, RSTC.FUSE_BUSY, RSTC.FUSE_RESULT, RSTC.FUSE_DATA].filter (fun f => f.off == off)) ++
  (packedAt 0x14 4 0 4 off RSTC.TEN_CAUSE_WDT).drop 1 ++
  (packedAt 0x14 4 0 4 off RSTC.TEN_CAUSE_SOFT).drop 1 ++
  (packedAt 0x14 4 0 4 off RSTC.TEN_CAUSE_DEBUG).drop 1 ++
  strideAt 0x24 4 1 3 off RSTC.VECTOR ++
  packedAt 0x30 2 0 4 off RSTC.EPOCH

/-! ### TEN page: Table 6.12 of spec/06_tenants_pages_faults.md -/

def TEN.OWN_REJECT : Fld := ⟨5, 0x8, 0, 1, .w1c, 0, .sys, []⟩
def TEN.EVT_EN : Fld := ⟨5, 0xC, 0, 1, .rw, 0, .sys, []⟩
def TEN.EN : Fld := ⟨5, 0x10, 0, 4, .ro, 0, .fuse, []⟩
def TEN.AUTORESTART : Fld := ⟨5, 0x14, 1, 3, .rw, 0, .sys, []⟩
def TEN.GROUP : Fld := ⟨5, 0x18, 0, 4, .rw, 0, .sys, []⟩
def TEN.TABLE : Fld := ⟨5, 0x18, 8, 4, .rw, 0, .sys, []⟩
def TEN.OWNER : Fld := ⟨5, 0x1C, 0, 32, .rw, 0, .sys, []⟩
def TEN.PEND : Fld := ⟨5, 0x20, 0, 16, .ro, 0, .sys, []⟩

/-- The fields of the TEN page at offset `off`. -/
def TEN.fieldsAt (off : Nat) : List Fld :=
  ([TEN.OWN_REJECT, TEN.EVT_EN, TEN.EN, TEN.AUTORESTART, TEN.GROUP, TEN.TABLE, TEN.OWNER, TEN.PEND].filter (fun f => f.off == off))

/-! ### FAULT page: Table 6.13 of spec/06_tenants_pages_faults.md -/

def FAULT.POSTED_ERR (x : Nat) : Fld := ⟨6 + x % 4, 0x8, 0, 1, .w1c, 0, .sys, []⟩
def FAULT.EVT_EN (x : Nat) : Fld := ⟨6 + x % 4, 0xC, 0, 1, .rw, 0, .sys, []⟩
def FAULT.REC0 (x : Nat) : Fld := ⟨6 + x % 4, 0x10, 0, 32, .ro, 0, .sys, []⟩
def FAULT.REC1 (x : Nat) : Fld := ⟨6 + x % 4, 0x14, 0, 32, .ro, 0, .sys, []⟩
def FAULT.REC2 (x : Nat) : Fld := ⟨6 + x % 4, 0x18, 0, 32, .ro, 0, .sys, []⟩
def FAULT.REC3 (x : Nat) : Fld := ⟨6 + x % 4, 0x1C, 0, 32, .rs, 0, .sys, []⟩
def FAULT.COUNT (x : Nat) : Fld := ⟨6 + x % 4, 0x20, 0, 5, .ro, 0, .sys, []⟩
def FAULT.OVERFLOW (x : Nat) : Fld := ⟨6 + x % 4, 0x20, 8, 1, .w1c, 0, .sys, []⟩
def FAULT.HELD (x : Nat) : Fld := ⟨6 + x % 4, 0x20, 9, 1, .ro, 0, .sys, []⟩
def FAULT.STOP_ON_POST (x : Nat) : Fld := ⟨6 + x % 4, 0x24, 0, 1, .rw, 0, .sys, []⟩
def FAULT.LAST_TAG (x : Nat) : Fld := ⟨6 + x % 4, 0x28, 0, 12, .ro, 0, .sys, []⟩
def FAULT.FENCE_TAG (x : Nat) : Fld := ⟨6 + x % 4, 0x2C, 0, 12, .rs, 0, .sys, []⟩
def FAULT.FENCE_HELD (x : Nat) : Fld := ⟨6 + x % 4, 0x2C, 30, 1, .rs, 0, .sys, []⟩
def FAULT.FENCE_FAILED (x : Nat) : Fld := ⟨6 + x % 4, 0x2C, 31, 1, .rs, 0, .sys, []⟩

/-- The fields of the FAULT page at offset `off`. -/
def FAULT.fieldsAt (x : Nat) (off : Nat) : List Fld :=
  ([FAULT.POSTED_ERR x, FAULT.EVT_EN x, FAULT.REC0 x, FAULT.REC1 x, FAULT.REC2 x, FAULT.REC3 x, FAULT.COUNT x, FAULT.OVERFLOW x, FAULT.HELD x, FAULT.STOP_ON_POST x, FAULT.LAST_TAG x, FAULT.FENCE_TAG x, FAULT.FENCE_HELD x, FAULT.FENCE_FAILED x].filter (fun f => f.off == off))

/-! ### WDT page: Table 6.14 of spec/06_tenants_pages_faults.md -/

def WDT.WARN : Fld := ⟨0x23, 0x8, 0, 4, .w1c, 0, .sys, []⟩
def WDT.EVT_EN : Fld := ⟨0x23, 0xC, 0, 4, .rw, 0, .sys, []⟩
def WDT.EN (n : Nat) : Fld := ⟨0x23, 0x10+0x20*n, 0, 1, .rwl, (if n = 0 then 1 else 0), .sys, []⟩
def WDT.LOCK (n : Nat) : Fld := ⟨0x23, 0x10+0x20*n, 1, 1, .w1s, 0, .sys, []⟩
def WDT.RUNNING (n : Nat) : Fld := ⟨0x23, 0x10+0x20*n, 8, 1, .ro, 0, .sys, []⟩
def WDT.TIMEOUT (n : Nat) : Fld := ⟨0x23, 0x14+0x20*n, 0, 24, .rwl, 1000000, .sys, [(1, 16777215)]⟩
def WDT.OPEN (n : Nat) : Fld := ⟨0x23, 0x18+0x20*n, 0, 24, .rwl, 0, .sys, []⟩
def WDT.LEAD (n : Nat) : Fld := ⟨0x23, 0x1C+0x20*n, 0, 24, .rwl, (if n = 0 then 100000 else 0), .sys, []⟩
def WDT.SERVICE (n : Nat) : Fld := ⟨0x23, 0x20+0x20*n, 0, 32, .wo, 0, .sys, []⟩

/-- The fields of the WDT page at offset `off`. -/
def WDT.fieldsAt (off : Nat) : List Fld :=
  ([WDT.WARN, WDT.EVT_EN].filter (fun f => f.off == off)) ++
  strideAt 0x10 32 0 4 off WDT.EN ++
  strideAt 0x10 32 0 4 off WDT.LOCK ++
  strideAt 0x10 32 0 4 off WDT.RUNNING ++
  strideAt 0x14 32 0 4 off WDT.TIMEOUT ++
  strideAt 0x18 32 0 4 off WDT.OPEN ++
  strideAt 0x1c 32 0 4 off WDT.LEAD ++
  strideAt 0x20 32 0 4 off WDT.SERVICE

/-! ### SYS page: Tables 6.16 and 8.15 of spec/06_tenants_pages_faults.md -/

def SYS.EVT : Fld := ⟨0, 0x8, 0, 0, .w1c, 0, .sys, []⟩
def SYS.EVT_EN : Fld := ⟨0, 0xC, 0, 0, .rw, 0, .sys, []⟩
def SYS.WHOAMI_TID : Fld := ⟨0, 0x10, 0, 2, .ro, 0, .sys, []⟩
def SYS.WHOAMI_MASTER : Fld := ⟨0, 0x10, 8, 8, .ro, 0, .sys, []⟩
def SYS.MTIME_LO : Fld := ⟨0, 0x18, 0, 32, .rw, 0, .por, []⟩
def SYS.MTIME_HI : Fld := ⟨0, 0x1C, 0, 32, .rw, 0, .por, []⟩

/-- The fields of the SYS page at offset `off`. -/
def SYS.fieldsAt (off : Nat) : List Fld :=
  ([SYS.EVT, SYS.EVT_EN, SYS.WHOAMI_TID, SYS.WHOAMI_MASTER, SYS.MTIME_LO, SYS.MTIME_HI].filter (fun f => f.off == off))

/-! ### FLASHC page: Table 7.10 of spec/07_memory_cipher_integrity.md -/

def FLASHC.DONE : Fld := ⟨0x1C, 0x8, 0, 4, .w1c, 0, .sys, []⟩
def FLASHC.EVT_EN : Fld := ⟨0x1C, 0xC, 0, 4, .rw, 0, .sys, []⟩
def FLASHC.CODE_BUSY : Fld := ⟨0x1C, 0x10, 0, 1, .ro, 0, .sys, []⟩
def FLASHC.DATA_BUSY : Fld := ⟨0x1C, 0x10, 1, 1, .ro, 0, .sys, []⟩
def FLASHC.SUSPENDED : Fld := ⟨0x1C, 0x10, 2, 1, .ro, 0, .sys, []⟩
def FLASHC.COMMITTED : Fld := ⟨0x1C, 0x10, 3, 1, .ro, 0, .sys, []⟩
def FLASHC.GEN (g : Nat) : Fld := ⟨0x1C, 0x14+4*(g/4), (8*(g%4)), 8, .ro, 0, .never, []⟩
def FLASHC.ADDR (n : Nat) : Fld := ⟨0x1C, 0x30+0x10*n, 0, 24, .rw, 0, .sys, []⟩
def FLASHC.OP (n : Nat) : Fld := ⟨0x1C, 0x30+0x10*n, 24, 4, .rw, 0, .sys, [(0, 3)]⟩
def FLASHC.DATA (n : Nat) : Fld := ⟨0x1C, 0x34+0x10*n, 0, 32, .wo, 0, .sys, []⟩
def FLASHC.STATE (n : Nat) : Fld := ⟨0x1C, 0x38+0x10*n, 0, 4, .ro, 0, .sys, []⟩
def FLASHC.STAGED (n : Nat) : Fld := ⟨0x1C, 0x38+0x10*n, 4, 3, .ro, 0, .sys, []⟩

/-- The fields of the FLASHC page at offset `off`. -/
def FLASHC.fieldsAt (off : Nat) : List Fld :=
  ([FLASHC.DONE, FLASHC.EVT_EN, FLASHC.CODE_BUSY, FLASHC.DATA_BUSY, FLASHC.SUSPENDED, FLASHC.COMMITTED].filter (fun f => f.off == off)) ++
  packedAt 0x14 4 0 16 off FLASHC.GEN ++
  strideAt 0x30 16 0 4 off FLASHC.ADDR ++
  strideAt 0x30 16 0 4 off FLASHC.OP ++
  strideAt 0x34 16 0 4 off FLASHC.DATA ++
  strideAt 0x38 16 0 4 off FLASHC.STATE ++
  strideAt 0x38 16 0 4 off FLASHC.STAGED

/-! ### MEMC page: Table 7.11 of spec/07_memory_cipher_integrity.md -/

def MEMC.SCRUB_PASS : Fld := ⟨0x1D, 0x8, 0, 1, .w1c, 0, .sys, []⟩
def MEMC.SCRUB_STEAL : Fld := ⟨0x1D, 0x8, 1, 1, .w1c, 0, .sys, []⟩
def MEMC.KEYS_DEGRADED : Fld := ⟨0x1D, 0x8, 2, 1, .w1c, 0, .sys, []⟩
def MEMC.EVT_EN : Fld := ⟨0x1D, 0xC, 0, 3, .rw, 0, .sys, []⟩
def MEMC.SCRUB_EN : Fld := ⟨0x1D, 0x10, 0, 1, .rw, 1, .sys, []⟩
def MEMC.INTERVAL : Fld := ⟨0x1D, 0x10, 8, 8, .rw, 16, .sys, [(1, 255)]⟩
def MEMC.RUNNING : Fld := ⟨0x1D, 0x10, 16, 1, .ro, 0, .sys, []⟩
def MEMC.STEALING : Fld := ⟨0x1D, 0x10, 17, 1, .ro, 0, .sys, []⟩
def MEMC.DEGRADED : Fld := ⟨0x1D, 0x14, 0, 1, .ro, 0, .sys, []⟩

/-- The fields of the MEMC page at offset `off`. -/
def MEMC.fieldsAt (off : Nat) : List Fld :=
  ([MEMC.SCRUB_PASS, MEMC.SCRUB_STEAL, MEMC.KEYS_DEGRADED, MEMC.EVT_EN, MEMC.SCRUB_EN, MEMC.INTERVAL, MEMC.RUNNING, MEMC.STEALING, MEMC.DEGRADED].filter (fun f => f.off == off))

/-! ### CRC page: Table 7.12 of spec/07_memory_cipher_integrity.md -/

def CRC.EVT : Fld := ⟨0x1E, 0x8, 0, 0, .w1c, 0, .sys, []⟩
def CRC.EVT_EN : Fld := ⟨0x1E, 0xC, 0, 0, .rw, 0, .sys, []⟩
def CRC.MODE : Fld := ⟨0x1E, 0x10, 0, 3, .rw, 0, .sys, [(0, 5)]⟩
def CRC.REFIN : Fld := ⟨0x1E, 0x10, 4, 1, .rw, 0, .sys, []⟩
def CRC.REFOUT : Fld := ⟨0x1E, 0x10, 5, 1, .rw, 0, .sys, []⟩
def CRC.POLY : Fld := ⟨0x1E, 0x14, 0, 32, .rw, 0, .sys, []⟩
def CRC.INIT : Fld := ⟨0x1E, 0x18, 0, 32, .rw, 0, .sys, []⟩
def CRC.XOROUT : Fld := ⟨0x1E, 0x1C, 0, 32, .rw, 0, .sys, []⟩
def CRC.DATA : Fld := ⟨0x1E, 0x20, 0, 32, .wo, 0, .sys, []⟩
def CRC.RESULT : Fld := ⟨0x1E, 0x24, 0, 32, .ro, 0xFFFFFFFF, .sys, []⟩

/-- The fields of the CRC page at offset `off`. -/
def CRC.fieldsAt (off : Nat) : List Fld :=
  ([CRC.EVT, CRC.EVT_EN, CRC.MODE, CRC.REFIN, CRC.REFOUT, CRC.POLY, CRC.INIT, CRC.XOROUT, CRC.DATA, CRC.RESULT].filter (fun f => f.off == off))

/-! ### TRNG page: Table 7.13 of spec/07_memory_cipher_integrity.md -/

def TRNG.HEALTH_FAIL : Fld := ⟨0x20, 0x8, 0, 1, .w1c, 0, .sys, []⟩
def TRNG.EVT_EN : Fld := ⟨0x20, 0xC, 0, 1, .rw, 0, .sys, []⟩
def TRNG.VALID : Fld := ⟨0x20, 0x10, 0, 1, .ro, 0, .sys, []⟩
def TRNG.HEALTH_OK : Fld := ⟨0x20, 0x10, 1, 1, .ro, 0, .sys, []⟩
def TRNG.DATA : Fld := ⟨0x20, 0x14, 0, 32, .rs, 0, .sys, []⟩

/-- The fields of the TRNG page at offset `off`. -/
def TRNG.fieldsAt (off : Nat) : List Fld :=
  ([TRNG.HEALTH_FAIL, TRNG.EVT_EN, TRNG.VALID, TRNG.HEALTH_OK, TRNG.DATA].filter (fun f => f.off == off))

/-! ### IRQ page: Table 8.14 of spec/08_harts_interrupts_queues.md -/

def IRQ.EVT (x : Nat) : Fld := ⟨0xA + x % 4, 0x8, 0, 0, .w1c, 0, .sys, []⟩
def IRQ.EVT_EN (x : Nat) : Fld := ⟨0xA + x % 4, 0xC, 0, 0, .rw, 0, .sys, []⟩
def IRQ.PRIO (x : Nat) (i : Nat) : Fld := ⟨0xA + x % 4, 0x10+4*(i/8), (4*(i%8)), 4, .rw, 0, .sys, []⟩
def IRQ.PEND (x : Nat) (i : Nat) : Fld := ⟨0xA + x % 4, 0x50+4*(i/32), (i%32), 1, .ro, 0, .sys, []⟩
def IRQ.THRESHOLD (x : Nat) : Fld := ⟨0xA + x % 4, 0x60, 0, 4, .rw, 0, .sys, []⟩
def IRQ.CLAIM_ID (x : Nat) : Fld := ⟨0xA + x % 4, 0x64, 0, 7, .rs, 0, .sys, []⟩
def IRQ.CLAIM_VALID (x : Nat) : Fld := ⟨0xA + x % 4, 0x64, 31, 1, .ro, 0, .sys, []⟩
def IRQ.MSIP (x : Nat) : Fld := ⟨0xA + x % 4, 0x68, 0, 1, .rw, 0, .sys, []⟩
def IRQ.MTIMECMP_LO (x : Nat) : Fld := ⟨0xA + x % 4, 0x70, 0, 32, .rw, 0xFFFFFFFF, .sys, []⟩
def IRQ.MTIMECMP_HI (x : Nat) : Fld := ⟨0xA + x % 4, 0x74, 0, 32, .rw, 0xFFFFFFFF, .sys, []⟩

/-- The fields of the IRQ page at offset `off`. -/
def IRQ.fieldsAt (x : Nat) (off : Nat) : List Fld :=
  ([IRQ.EVT x, IRQ.EVT_EN x, IRQ.THRESHOLD x, IRQ.CLAIM_ID x, IRQ.CLAIM_VALID x, IRQ.MSIP x, IRQ.MTIMECMP_LO x, IRQ.MTIMECMP_HI x].filter (fun f => f.off == off)) ++
  packedAt 0x10 8 0 128 off (IRQ.PRIO x) ++
  packedAt 0x50 32 0 128 off (IRQ.PEND x)

/-! ### QMGR page: Table 8.16 of spec/08_harts_interrupts_queues.md -/

def QMGR.LINE : Fld := ⟨0xE, 0x8, 0, 8, .w1c, 0, .sys, []⟩
def QMGR.QDEADLINE : Fld := ⟨0xE, 0x8, 8, 4, .w1c, 0, .sys, []⟩
def QMGR.QERROR : Fld := ⟨0xE, 0x8, 12, 4, .w1c, 0, .sys, []⟩
def QMGR.EVT_EN : Fld := ⟨0xE, 0xC, 0, 16, .rw, 0, .sys, []⟩
def QMGR.QUOTA (n : Nat) : Fld := ⟨0xE, 0x10+4*(n/2), (16*(n%2)), 12, .rw, 0, .fuse, []⟩
def QMGR.USE_INFLIGHT : Fld := ⟨0xE, 0x18, 0, 12, .ro, 0, .sys, []⟩
def QMGR.USE_QUOTA : Fld := ⟨0xE, 0x18, 16, 12, .ro, 0, .sys, []⟩
def QMGR.ALLOC_SLOT : Fld := ⟨0xE, 0x1C, 0, 11, .rs, 0, .sys, []⟩
def QMGR.ALLOC_STATUS : Fld := ⟨0xE, 0x1C, 16, 4, .rs, 0, .sys, []⟩
def QMGR.ALLOC_OK : Fld := ⟨0xE, 0x1C, 31, 1, .rs, 0, .sys, []⟩
def QMGR.FREE : Fld := ⟨0xE, 0x20, 0, 11, .wo, 0, .sys, []⟩
def QMGR.CANCEL : Fld := ⟨0xE, 0x24, 0, 11, .wo, 0, .sys, []⟩
def QMGR.RING_BASE (n : Nat) : Fld := ⟨0xE, 0x30+0x10*n, 3, 29, .rw, 0, .sys, []⟩
def QMGR.RING_SIZE (n : Nat) : Fld := ⟨0xE, 0x34+0x10*n, 0, 13, .rw, 0, .sys, [(0, 0), (8, 8), (16, 16), (32, 32), (64, 64), (128, 128), (256, 256), (512, 512), (1024, 1024), (2048, 2048), (4096, 4096)]⟩
def QMGR.RING_OVF (n : Nat) : Fld := ⟨0xE, 0x34+0x10*n, 31, 1, .w1c, 0, .sys, []⟩
def QMGR.RING_HEAD (n : Nat) : Fld := ⟨0xE, 0x38+0x10*n, 0, 12, .ro, 0, .sys, []⟩
def QMGR.RING_TAIL (n : Nat) : Fld := ⟨0xE, 0x3C+0x10*n, 0, 12, .rw, 0, .sys, []⟩
def QMGR.Q_EN (q : Nat) : Fld := ⟨0xE, 0x100+8*q, 0, 1, .rw, 0, .sys, []⟩
def QMGR.Q_GATED (q : Nat) : Fld := ⟨0xE, 0x100+8*q, 1, 1, .rw, 0, .sys, []⟩
def QMGR.Q_START (q : Nat) : Fld := ⟨0xE, 0x100+8*q, 2, 3, .rw, 0, .sys, []⟩
def QMGR.Q_LINE (q : Nat) : Fld := ⟨0xE, 0x100+8*q, 5, 3, .rw, 0, .sys, []⟩
def QMGR.Q_LINE_EN (q : Nat) : Fld := ⟨0xE, 0x100+8*q, 8, 1, .rw, 0, .sys, []⟩
def QMGR.Q_CONSUMER (q : Nat) : Fld := ⟨0xE, 0x100+8*q, 10, 6, .rw, 0, .sys, [(0, 0x11), (0x20, 0x31)]⟩
def QMGR.Q_HEAD_SLOT (q : Nat) : Fld := ⟨0xE, 0x100+8*q, 16, 11, .ro, 0, .sys, []⟩
def QMGR.Q_EMPTY (q : Nat) : Fld := ⟨0xE, 0x100+8*q, 31, 1, .ro, 1, .sys, []⟩
def QMGR.Q_PUSH (q : Nat) : Fld := ⟨0xE, 0x104+8*q, 0, 11, .wo, 0, .sys, []⟩

/-- The fields of the QMGR page at offset `off`. -/
def QMGR.fieldsAt (off : Nat) : List Fld :=
  ([QMGR.LINE, QMGR.QDEADLINE, QMGR.QERROR, QMGR.EVT_EN, QMGR.USE_INFLIGHT, QMGR.USE_QUOTA, QMGR.ALLOC_SLOT, QMGR.ALLOC_STATUS, QMGR.ALLOC_OK, QMGR.FREE, QMGR.CANCEL].filter (fun f => f.off == off)) ++
  packedAt 0x10 2 0 4 off QMGR.QUOTA ++
  strideAt 0x30 16 0 4 off QMGR.RING_BASE ++
  strideAt 0x34 16 0 4 off QMGR.RING_SIZE ++
  strideAt 0x34 16 0 4 off QMGR.RING_OVF ++
  strideAt 0x38 16 0 4 off QMGR.RING_HEAD ++
  strideAt 0x3c 16 0 4 off QMGR.RING_TAIL ++
  strideAt 0x100 8 0 64 off QMGR.Q_EN ++
  strideAt 0x100 8 0 64 off QMGR.Q_GATED ++
  strideAt 0x100 8 0 64 off QMGR.Q_START ++
  strideAt 0x100 8 0 64 off QMGR.Q_LINE ++
  strideAt 0x100 8 0 64 off QMGR.Q_LINE_EN ++
  strideAt 0x100 8 0 64 off QMGR.Q_CONSUMER ++
  strideAt 0x100 8 0 64 off QMGR.Q_HEAD_SLOT ++
  strideAt 0x100 8 0 64 off QMGR.Q_EMPTY ++
  strideAt 0x104 8 0 64 off QMGR.Q_PUSH

/-! ### DMA page: Table 8.17 of spec/08_harts_interrupts_queues.md -/

def DMA.EVT : Fld := ⟨0xF, 0x8, 0, 0, .w1c, 0, .sys, []⟩
def DMA.EVT_EN : Fld := ⟨0xF, 0xC, 0, 0, .rw, 0, .sys, []⟩
def DMA.EN (n : Nat) : Fld := ⟨0xF, 0x10+8*n, 0, 1, .rw, 0, .sys, []⟩
def DMA.ACTIVE (n : Nat) : Fld := ⟨0xF, 0x14+8*n, 0, 1, .ro, 0, .sys, []⟩
def DMA.SLOT (n : Nat) : Fld := ⟨0xF, 0x14+8*n, 16, 11, .ro, 0, .sys, []⟩

/-- The fields of the DMA page at offset `off`. -/
def DMA.fieldsAt (off : Nat) : List Fld :=
  ([DMA.EVT, DMA.EVT_EN].filter (fun f => f.off == off)) ++
  strideAt 0x10 8 0 16 off DMA.EN ++
  strideAt 0x14 8 0 16 off DMA.ACTIVE ++
  strideAt 0x14 8 0 16 off DMA.SLOT

/-! ### AES page: Table 8.18 of spec/08_harts_interrupts_queues.md -/

def AES.EVT : Fld := ⟨0x1F, 0x8, 0, 0, .w1c, 0, .sys, []⟩
def AES.EVT_EN : Fld := ⟨0x1F, 0xC, 0, 0, .rw, 0, .sys, []⟩
def AES.BUSY : Fld := ⟨0x1F, 0x10, 0, 1, .ro, 0, .sys, []⟩
def AES.QUEUE : Fld := ⟨0x1F, 0x10, 8, 6, .ro, 0, .sys, []⟩

/-- The fields of the AES page at offset `off`. -/
def AES.fieldsAt (off : Nat) : List Fld :=
  ([AES.EVT, AES.EVT_EN, AES.BUSY, AES.QUEUE].filter (fun f => f.off == off))

/-! ### EVF page: Table 9.4 of spec/09_event_fabric_ports.md -/

def EVF.ISINK : Fld := ⟨0x10, 0x8, 0, 4, .w1c, 0, .sys, []⟩
def EVF.EVT_EN : Fld := ⟨0x10, 0xC, 0, 4, .rw, 0, .sys, []⟩
def EVF.SWTRIG : Fld := ⟨0x10, 0x10, 0, 6, .wo, 0, .sys, []⟩
def EVF.SRC (c : Nat) : Fld := ⟨0x10, 0x100+4*c, 0, 7, .rwl, 0, .sys, []⟩
def EVF.EDGE (c : Nat) : Fld := ⟨0x10, 0x100+4*c, 8, 2, .rwl, 1, .sys, []⟩
def EVF.ATTR (c : Nat) : Fld := ⟨0x10, 0x100+4*c, 12, 1, .rwl, 0, .sys, []⟩
def EVF.EN (c : Nat) : Fld := ⟨0x10, 0x100+4*c, 16, 1, .rwl, 0, .sys, []⟩
def EVF.LOCK (c : Nat) : Fld := ⟨0x10, 0x100+4*c, 17, 1, .w1s, 0, .sys, []⟩
def EVF.FIRED (c : Nat) : Fld := ⟨0x10, 0x100+4*c, 24, 1, .w1c, 0, .sys, []⟩
def EVF.BLOCKED (c : Nat) : Fld := ⟨0x10, 0x100+4*c, 25, 1, .w1c, 0, .sys, []⟩
def EVF.DROPPED (c : Nat) : Fld := ⟨0x10, 0x100+4*c, 26, 1, .w1c, 0, .sys, []⟩
def EVF.S_CHANNEL (k : Nat) : Fld := ⟨0x10, 0x200+4*k, 0, 6, .rw, 0, .sys, []⟩
def EVF.S_EN (k : Nat) : Fld := ⟨0x10, 0x200+4*k, 8, 1, .rw, 0, .sys, []⟩
def EVF.S_PEND (k : Nat) : Fld := ⟨0x10, 0x200+4*k, 9, 1, .ro, 0, .sys, []⟩
def EVF.S_OUTMODE (k : Nat) : Fld := ⟨0x10, 0x200+4*k, 10, 2, .rw, 0, .sys, [(0, 2)]⟩
def EVF.S_OBJ (k : Nat) : Fld := ⟨0x10, 0x200+4*k, 16, 7, .rw, 0, .sys, []⟩

/-- The fields of the EVF page at offset `off`. -/
def EVF.fieldsAt (off : Nat) : List Fld :=
  ([EVF.ISINK, EVF.EVT_EN, EVF.SWTRIG].filter (fun f => f.off == off)) ++
  strideAt 0x100 4 0 64 off EVF.SRC ++
  strideAt 0x100 4 0 64 off EVF.EDGE ++
  strideAt 0x100 4 0 64 off EVF.ATTR ++
  strideAt 0x100 4 0 64 off EVF.EN ++
  strideAt 0x100 4 0 64 off EVF.LOCK ++
  strideAt 0x100 4 0 64 off EVF.FIRED ++
  strideAt 0x100 4 0 64 off EVF.BLOCKED ++
  strideAt 0x100 4 0 64 off EVF.DROPPED ++
  strideAt 0x200 4 0 64 off EVF.S_CHANNEL ++
  strideAt 0x200 4 0 64 off EVF.S_EN ++
  strideAt 0x200 4 0 64 off EVF.S_PEND ++
  strideAt 0x200 4 0 64 off EVF.S_OUTMODE ++
  strideAt 0x200 4 0 64 off EVF.S_OBJ

/-! ### PORT page: Table 9.5 of spec/09_event_fabric_ports.md -/

def PORT.PAD : Fld := ⟨0x21, 0x8, 0, 1, .w1c, 0, .sys, []⟩
def PORT.EVT_EN : Fld := ⟨0x21, 0xC, 0, 1, .rw, 0, .sys, []⟩
def PORT.IN (i : Nat) : Fld := ⟨0x21, 0x10+4*(i/32), (i%32), 1, .ro, 0, .live, []⟩
def PORT.OUT (i : Nat) : Fld := ⟨0x21, 0x18+4*(i/32), (i%32), 1, .rw, 0, .sys, []⟩
def PORT.SET (i : Nat) : Fld := ⟨0x21, 0x20+4*(i/32), (i%32), 1, .wo, 0, .sys, []⟩
def PORT.CLR (i : Nat) : Fld := ⟨0x21, 0x28+4*(i/32), (i%32), 1, .wo, 0, .sys, []⟩
def PORT.OE (i : Nat) : Fld := ⟨0x21, 0x30+4*(i/32), (i%32), 1, .rw, 0, .sys, []⟩
def PORT.IRQ_FLAG (i : Nat) : Fld := ⟨0x21, 0x38+4*(i/32), (i%32), 1, .w1c, 0, .sys, []⟩
def PORT.FUNC (i : Nat) : Fld := ⟨0x21, 0x100+4*i, 0, 2, .rw, 0, .sys, []⟩
def PORT.PULL (i : Nat) : Fld := ⟨0x21, 0x100+4*i, 2, 2, .rw, 0, .sys, [(0, 2)]⟩
def PORT.DRIVE (i : Nat) : Fld := ⟨0x21, 0x100+4*i, 4, 2, .rw, 1, .sys, [(0, 2)]⟩
def PORT.OD (i : Nat) : Fld := ⟨0x21, 0x100+4*i, 6, 1, .rw, 0, .sys, []⟩
def PORT.IRQ (i : Nat) : Fld := ⟨0x21, 0x100+4*i, 8, 3, .rw, 0, .sys, [(0, 5)]⟩
def PORT.FILTER (i : Nat) : Fld := ⟨0x21, 0x100+4*i, 12, 4, .rw, 0, .sys, []⟩
def PORT.OUT_SEL (i : Nat) : Fld := ⟨0x21, 0x100+4*i, 16, 4, .rw, 0, .sys, [(0, 8)]⟩
def PORT.CFGD (i : Nat) : Fld := ⟨0x21, 0x100+4*i, 31, 1, .ro, 0, .sys, []⟩

/-- The fields of the PORT page at offset `off`. -/
def PORT.fieldsAt (off : Nat) : List Fld :=
  ([PORT.PAD, PORT.EVT_EN].filter (fun f => f.off == off)) ++
  packedAt 0x10 32 0 48 off PORT.IN ++
  packedAt 0x18 32 0 48 off PORT.OUT ++
  packedAt 0x20 32 0 48 off PORT.SET ++
  packedAt 0x28 32 0 48 off PORT.CLR ++
  packedAt 0x30 32 0 48 off PORT.OE ++
  packedAt 0x38 32 0 48 off PORT.IRQ_FLAG ++
  strideAt 0x100 4 0 48 off PORT.FUNC ++
  strideAt 0x100 4 0 48 off PORT.PULL ++
  strideAt 0x100 4 0 48 off PORT.DRIVE ++
  strideAt 0x100 4 0 48 off PORT.OD ++
  strideAt 0x100 4 0 48 off PORT.IRQ ++
  strideAt 0x100 4 0 48 off PORT.FILTER ++
  strideAt 0x100 4 0 48 off PORT.OUT_SEL ++
  strideAt 0x100 4 0 48 off PORT.CFGD

/-! ### SER page: Tables 9.6 and 9.7 of spec/09_event_fabric_ports.md -/

def SER.SPI_TX_WM_EVT (n : Nat) : Fld := ⟨0x22, 0x8, (4*n), 1, .w1c, 0, .sys, []⟩
def SER.SPI_RX_WM_EVT (n : Nat) : Fld := ⟨0x22, 0x8, (4*n+1), 1, .w1c, 0, .sys, []⟩
def SER.SPI_DONE_EVT (n : Nat) : Fld := ⟨0x22, 0x8, (4*n+2), 1, .w1c, 0, .sys, []⟩
def SER.SPI_ERR_EVT (n : Nat) : Fld := ⟨0x22, 0x8, (4*n+3), 1, .w1c, 0, .sys, []⟩
def SER.UART_TX_WM_EVT (n : Nat) : Fld := ⟨0x22, 0x8, (8+6*n), 1, .w1c, 0, .sys, []⟩
def SER.UART_RX_WM_EVT (n : Nat) : Fld := ⟨0x22, 0x8, (9+6*n), 1, .w1c, 0, .sys, []⟩
def SER.UART_TX_DONE_EVT (n : Nat) : Fld := ⟨0x22, 0x8, (10+6*n), 1, .w1c, 0, .sys, []⟩
def SER.UART_BREAK_EVT (n : Nat) : Fld := ⟨0x22, 0x8, (11+6*n), 1, .w1c, 0, .sys, []⟩
def SER.UART_RX_ERR_EVT (n : Nat) : Fld := ⟨0x22, 0x8, (12+6*n), 1, .w1c, 0, .sys, []⟩
def SER.UART_OVF_EVT (n : Nat) : Fld := ⟨0x22, 0x8, (13+6*n), 1, .w1c, 0, .sys, []⟩
def SER.I2C_DONE_EVT : Fld := ⟨0x22, 0x8, 20, 1, .w1c, 0, .sys, []⟩
def SER.I2C_NACK_EVT : Fld := ⟨0x22, 0x8, 21, 1, .w1c, 0, .sys, []⟩
def SER.I2C_ARB_LOST_EVT : Fld := ⟨0x22, 0x8, 22, 1, .w1c, 0, .sys, []⟩
def SER.I2C_TGT_ADDR_EVT : Fld := ⟨0x22, 0x8, 23, 1, .w1c, 0, .sys, []⟩
def SER.I2C_TGT_STOP_EVT : Fld := ⟨0x22, 0x8, 24, 1, .w1c, 0, .sys, []⟩
def SER.I2C_STUCK_EVT : Fld := ⟨0x22, 0x8, 25, 1, .w1c, 0, .sys, []⟩
def SER.EVT_EN : Fld := ⟨0x22, 0xC, 0, 26, .rw, 0, .sys, []⟩
def SER.SPI_EN (n : Nat) : Fld := ⟨0x22, 0x10+0x20*n, 0, 1, .rw, 0, .sys, []⟩
def SER.SPI_TARGET (n : Nat) : Fld := ⟨0x22, 0x10+0x20*n, 1, 1, .rw, 0, .sys, []⟩
def SER.SPI_CPOL (n : Nat) : Fld := ⟨0x22, 0x10+0x20*n, 2, 1, .rw, 0, .sys, []⟩
def SER.SPI_CPHA (n : Nat) : Fld := ⟨0x22, 0x10+0x20*n, 3, 1, .rw, 0, .sys, []⟩
def SER.SPI_LSB_FIRST (n : Nat) : Fld := ⟨0x22, 0x10+0x20*n, 4, 1, .rw, 0, .sys, []⟩
def SER.SPI_FRAME (n : Nat) : Fld := ⟨0x22, 0x10+0x20*n, 8, 5, .rw, 7, .sys, [(3, 31)]⟩
def SER.SPI_DIV (n : Nat) : Fld := ⟨0x22, 0x10+0x20*n, 16, 8, .rw, 3, .sys, [(1, 255)]⟩
def SER.SPI_TX_WM (n : Nat) : Fld := ⟨0x22, 0x14+0x20*n, 0, 4, .rw, 2, .sys, [(0, 8)]⟩
def SER.SPI_RX_WM (n : Nat) : Fld := ⟨0x22, 0x14+0x20*n, 8, 4, .rw, 6, .sys, [(0, 8)]⟩
def SER.SPI_TX_LEVEL (n : Nat) : Fld := ⟨0x22, 0x18+0x20*n, 0, 4, .ro, 0, .sys, []⟩
def SER.SPI_RX_LEVEL (n : Nat) : Fld := ⟨0x22, 0x18+0x20*n, 8, 4, .ro, 0, .sys, []⟩
def SER.SPI_BUSY (n : Nat) : Fld := ⟨0x22, 0x18+0x20*n, 16, 1, .ro, 0, .sys, []⟩
def SER.SPI_TX_OVF (n : Nat) : Fld := ⟨0x22, 0x18+0x20*n, 24, 1, .w1c, 0, .sys, []⟩
def SER.SPI_RX_OVF (n : Nat) : Fld := ⟨0x22, 0x18+0x20*n, 25, 1, .w1c, 0, .sys, []⟩
def SER.SPI_TX_UNDER (n : Nat) : Fld := ⟨0x22, 0x18+0x20*n, 26, 1, .w1c, 0, .sys, []⟩
def SER.SPI_DATA (n : Nat) : Fld := ⟨0x22, 0x1C+0x20*n, 0, 32, .rs, 0, .sys, []⟩
def SER.UART_EN (n : Nat) : Fld := ⟨0x22, 0x50+0x20*n, 0, 1, .rw, 0, .sys, []⟩
def SER.UART_TX_EN (n : Nat) : Fld := ⟨0x22, 0x50+0x20*n, 1, 1, .rw, 0, .sys, []⟩
def SER.UART_RX_EN (n : Nat) : Fld := ⟨0x22, 0x50+0x20*n, 2, 1, .rw, 0, .sys, []⟩
def SER.UART_DATA_BITS (n : Nat) : Fld := ⟨0x22, 0x50+0x20*n, 4, 3, .rw, 3, .sys, [(0, 4)]⟩
def SER.UART_PARITY (n : Nat) : Fld := ⟨0x22, 0x50+0x20*n, 8, 2, .rw, 0, .sys, [(0, 2)]⟩
def SER.UART_STOP2 (n : Nat) : Fld := ⟨0x22, 0x50+0x20*n, 10, 1, .rw, 0, .sys, []⟩
def SER.UART_TX_WM (n : Nat) : Fld := ⟨0x22, 0x50+0x20*n, 16, 4, .rw, 2, .sys, [(0, 8)]⟩
def SER.UART_RX_WM (n : Nat) : Fld := ⟨0x22, 0x50+0x20*n, 20, 4, .rw, 6, .sys, [(0, 8)]⟩
def SER.UART_DIV (n : Nat) : Fld := ⟨0x22, 0x54+0x20*n, 0, 20, .rw, 13889, .sys, [(534, 1048575)]⟩
def SER.UART_TX_LEVEL (n : Nat) : Fld := ⟨0x22, 0x58+0x20*n, 0, 4, .ro, 0, .sys, []⟩
def SER.UART_RX_LEVEL (n : Nat) : Fld := ⟨0x22, 0x58+0x20*n, 8, 4, .ro, 0, .sys, []⟩
def SER.UART_TX_IDLE (n : Nat) : Fld := ⟨0x22, 0x58+0x20*n, 16, 1, .ro, 1, .sys, []⟩
def SER.UART_DATA (n : Nat) : Fld := ⟨0x22, 0x5C+0x20*n, 0, 9, .rs, 0, .sys, []⟩
def SER.UART_PE (n : Nat) : Fld := ⟨0x22, 0x5C+0x20*n, 9, 1, .ro, 0, .sys, []⟩
def SER.UART_FE (n : Nat) : Fld := ⟨0x22, 0x5C+0x20*n, 10, 1, .ro, 0, .sys, []⟩
def SER.UART_VALID (n : Nat) : Fld := ⟨0x22, 0x5C+0x20*n, 31, 1, .ro, 0, .sys, []⟩
def SER.UART_BRK_LEN (n : Nat) : Fld := ⟨0x22, 0x60+0x20*n, 0, 5, .rw, 13, .sys, [(10, 31)]⟩
def SER.UART_BRK_DELIM (n : Nat) : Fld := ⟨0x22, 0x60+0x20*n, 8, 2, .rw, 0, .sys, []⟩
def SER.UART_SEND (n : Nat) : Fld := ⟨0x22, 0x60+0x20*n, 16, 1, .w1s, 0, .sys, []⟩
def SER.I2C_EN : Fld := ⟨0x22, 0x90, 0, 1, .rw, 0, .sys, []⟩
def SER.I2C_TGT_EN : Fld := ⟨0x22, 0x90, 1, 1, .rw, 0, .sys, []⟩
def SER.I2C_SPEED : Fld := ⟨0x22, 0x90, 2, 2, .rw, 1, .sys, [(0, 2)]⟩
def SER.I2C_OWN_ADDR : Fld := ⟨0x22, 0x90, 8, 7, .rw, 0, .sys, []⟩
def SER.I2C_OP : Fld := ⟨0x22, 0x94, 0, 3, .wo, 0, .sys, [(0, 6)]⟩
def SER.I2C_ARG : Fld := ⟨0x22, 0x94, 8, 8, .wo, 0, .sys, []⟩
def SER.I2C_BUSY : Fld := ⟨0x22, 0x98, 0, 1, .ro, 0, .sys, []⟩
def SER.I2C_BUS_HELD : Fld := ⟨0x22, 0x98, 1, 1, .ro, 0, .sys, []⟩
def SER.I2C_TGT_RW : Fld := ⟨0x22, 0x98, 2, 1, .ro, 0, .sys, []⟩
def SER.I2C_DATA : Fld := ⟨0x22, 0x9C, 0, 8, .rs, 0, .sys, []⟩

/-- The fields of the SER page at offset `off`. -/
def SER.fieldsAt (off : Nat) : List Fld :=
  ([SER.I2C_DONE_EVT, SER.I2C_NACK_EVT, SER.I2C_ARB_LOST_EVT, SER.I2C_TGT_ADDR_EVT, SER.I2C_TGT_STOP_EVT, SER.I2C_STUCK_EVT, SER.EVT_EN, SER.I2C_EN, SER.I2C_TGT_EN, SER.I2C_SPEED, SER.I2C_OWN_ADDR, SER.I2C_OP, SER.I2C_ARG, SER.I2C_BUSY, SER.I2C_BUS_HELD, SER.I2C_TGT_RW, SER.I2C_DATA].filter (fun f => f.off == off)) ++
  packedAt 0x8 2 0 2 off SER.SPI_TX_WM_EVT ++
  packedAt 0x8 2 0 2 off SER.SPI_RX_WM_EVT ++
  packedAt 0x8 2 0 2 off SER.SPI_DONE_EVT ++
  packedAt 0x8 2 0 2 off SER.SPI_ERR_EVT ++
  packedAt 0x8 2 0 2 off SER.UART_TX_WM_EVT ++
  packedAt 0x8 2 0 2 off SER.UART_RX_WM_EVT ++
  packedAt 0x8 2 0 2 off SER.UART_TX_DONE_EVT ++
  packedAt 0x8 2 0 2 off SER.UART_BREAK_EVT ++
  packedAt 0x8 2 0 2 off SER.UART_RX_ERR_EVT ++
  packedAt 0x8 2 0 2 off SER.UART_OVF_EVT ++
  strideAt 0x10 32 0 2 off SER.SPI_EN ++
  strideAt 0x10 32 0 2 off SER.SPI_TARGET ++
  strideAt 0x10 32 0 2 off SER.SPI_CPOL ++
  strideAt 0x10 32 0 2 off SER.SPI_CPHA ++
  strideAt 0x10 32 0 2 off SER.SPI_LSB_FIRST ++
  strideAt 0x10 32 0 2 off SER.SPI_FRAME ++
  strideAt 0x10 32 0 2 off SER.SPI_DIV ++
  strideAt 0x14 32 0 2 off SER.SPI_TX_WM ++
  strideAt 0x14 32 0 2 off SER.SPI_RX_WM ++
  strideAt 0x18 32 0 2 off SER.SPI_TX_LEVEL ++
  strideAt 0x18 32 0 2 off SER.SPI_RX_LEVEL ++
  strideAt 0x18 32 0 2 off SER.SPI_BUSY ++
  strideAt 0x18 32 0 2 off SER.SPI_TX_OVF ++
  strideAt 0x18 32 0 2 off SER.SPI_RX_OVF ++
  strideAt 0x18 32 0 2 off SER.SPI_TX_UNDER ++
  strideAt 0x1c 32 0 2 off SER.SPI_DATA ++
  strideAt 0x50 32 0 2 off SER.UART_EN ++
  strideAt 0x50 32 0 2 off SER.UART_TX_EN ++
  strideAt 0x50 32 0 2 off SER.UART_RX_EN ++
  strideAt 0x50 32 0 2 off SER.UART_DATA_BITS ++
  strideAt 0x50 32 0 2 off SER.UART_PARITY ++
  strideAt 0x50 32 0 2 off SER.UART_STOP2 ++
  strideAt 0x50 32 0 2 off SER.UART_TX_WM ++
  strideAt 0x50 32 0 2 off SER.UART_RX_WM ++
  strideAt 0x54 32 0 2 off SER.UART_DIV ++
  strideAt 0x58 32 0 2 off SER.UART_TX_LEVEL ++
  strideAt 0x58 32 0 2 off SER.UART_RX_LEVEL ++
  strideAt 0x58 32 0 2 off SER.UART_TX_IDLE ++
  strideAt 0x5c 32 0 2 off SER.UART_DATA ++
  strideAt 0x5c 32 0 2 off SER.UART_PE ++
  strideAt 0x5c 32 0 2 off SER.UART_FE ++
  strideAt 0x5c 32 0 2 off SER.UART_VALID ++
  strideAt 0x60 32 0 2 off SER.UART_BRK_LEN ++
  strideAt 0x60 32 0 2 off SER.UART_BRK_DELIM ++
  strideAt 0x60 32 0 2 off SER.UART_SEND

/-! ### NTU page: Tables 10.6 and 10.7 of spec/10_network_time.md -/

def NTU.CMP_LINE : Fld := ⟨0x11, 0x8, 0, 2, .w1c, 0, .sys, []⟩
def NTU.CAPTURE : Fld := ⟨0x11, 0x8, 2, 1, .w1c, 0, .sys, []⟩
def NTU.STEP_REFUSED : Fld := ⟨0x11, 0x8, 3, 1, .w1c, 0, .sys, []⟩
def NTU.MASTER_CHANGED : Fld := ⟨0x11, 0x8, 4, 1, .w1c, 0, .sys, []⟩
def NTU.STEP_TAKEN : Fld := ⟨0x11, 0x8, 5, 1, .w1c, 0, .sys, []⟩
def NTU.SAMPLE : Fld := ⟨0x11, 0x8, 6, 1, .w1c, 0, .sys, []⟩
def NTU.EVT_EN : Fld := ⟨0x11, 0xC, 0, 7, .rw, 0, .sys, []⟩
def NTU.SERVO_EN : Fld := ⟨0x11, 0x10, 0, 1, .rw, 0, .sys, []⟩
def NTU.SRC : Fld := ⟨0x11, 0x10, 1, 2, .rw, 0, .sys, []⟩
def NTU.KP : Fld := ⟨0x11, 0x10, 8, 4, .rw, 11, .sys, []⟩
def NTU.KI : Fld := ⟨0x11, 0x10, 12, 4, .rw, 14, .sys, []⟩
def NTU.STEP_LIMIT : Fld := ⟨0x11, 0x14, 0, 14, .rw, 100, .sys, [(1, 10000)]⟩
def NTU.ACCEPT_NEXT : Fld := ⟨0x11, 0x18, 0, 1, .w1s, 0, .sys, []⟩
def NTU.SET : Fld := ⟨0x11, 0x18, 1, 1, .w1s, 0, .sys, []⟩
def NTU.ADJ : Fld := ⟨0x11, 0x1C, 0, 32, .rw, 0, .sys, [(0, 8589934), (4286377362, 4294967295)]⟩
def NTU.TIME_COARSE : Fld := ⟨0x11, 0x20, 0, 1, .ro, 0, .sys, []⟩
def NTU.COARSE_NOW : Fld := ⟨0x11, 0x20, 1, 1, .ro, 0, .sys, []⟩
def NTU.MASTER_ID : Fld := ⟨0x11, 0x20, 16, 16, .ro, 0, .sys, []⟩
def NTU.REFUSED_SEC : Fld := ⟨0x11, 0x24, 0, 32, .ro, 0, .sys, []⟩
def NTU.REFUSED_NS : Fld := ⟨0x11, 0x28, 0, 30, .ro, 0, .sys, []⟩
def NTU.REFUSED_SRC : Fld := ⟨0x11, 0x28, 30, 2, .ro, 0, .sys, []⟩
def NTU.DELAY (d : Nat) : Fld := ⟨0x11, 0x2C+4*(d/2), (16*(d%2)), 16, .rw, 0, .sys, []⟩
def NTU.FU_WINDOW : Fld := ⟨0x11, 0x34, 0, 8, .rw, 50, .sys, [(1, 255)]⟩
def NTU.REQ_SYNCED : Fld := ⟨0x11, 0x34, 8, 1, .rw, 0, .sys, []⟩
def NTU.PPS_EN : Fld := ⟨0x11, 0x38, 0, 1, .rw, 0, .sys, []⟩
def NTU.PPS_WIDTH : Fld := ⟨0x11, 0x38, 8, 8, .rw, 100, .sys, [(1, 255)]⟩
def NTU.TIME_SEC_LO : Fld := ⟨0x11, 0x40, 0, 32, .rs, 0, .por, []⟩
def NTU.TIME_SEC_HI : Fld := ⟨0x11, 0x44, 0, 16, .ro, 0, .por, []⟩
def NTU.TIME_NS : Fld := ⟨0x11, 0x48, 0, 30, .ro, 0, .por, []⟩
def NTU.TIME_FRAC : Fld := ⟨0x11, 0x4C, 0, 16, .ro, 0, .por, []⟩
def NTU.TICK32 : Fld := ⟨0x11, 0x50, 0, 32, .ro, 0, .por, []⟩
def NTU.TICK32_L : Fld := ⟨0x11, 0x54, 0, 32, .ro, 0, .por, []⟩
def NTU.SET_SEC_LO : Fld := ⟨0x11, 0x60, 0, 32, .rw, 0, .sys, []⟩
def NTU.SET_SEC_HI : Fld := ⟨0x11, 0x64, 0, 16, .rw, 0, .sys, []⟩
def NTU.SET_NS : Fld := ⟨0x11, 0x68, 0, 30, .rw, 0, .sys, [(0, 999999999)]⟩
def NTU.CH_MODE (c : Nat) : Fld := ⟨0x11, 0x100+0x10*c, 0, 2, .rw, 0, .sys, []⟩
def NTU.CH_ARM (c : Nat) : Fld := ⟨0x11, 0x100+0x10*c, 2, 1, .w1s, 0, .sys, []⟩
def NTU.CH_AHEAD (c : Nat) : Fld := ⟨0x11, 0x100+0x10*c, 3, 1, .rw, 0, .sys, []⟩
def NTU.CH_LINE_EN (c : Nat) : Fld := ⟨0x11, 0x100+0x10*c, 4, 1, .rw, 0, .sys, []⟩
def NTU.CH_LINE (c : Nat) : Fld := ⟨0x11, 0x100+0x10*c, 5, 1, .rw, 0, .sys, []⟩
def NTU.CH_WAKE (c : Nat) : Fld := ⟨0x11, 0x100+0x10*c, 6, 1, .rw, 0, .sys, []⟩
def NTU.CH_CAPSEL (c : Nat) : Fld := ⟨0x11, 0x100+0x10*c, 8, 3, .rw, 0, .sys, [(0, 4)]⟩
def NTU.CH_PEDGE (c : Nat) : Fld := ⟨0x11, 0x100+0x10*c, 11, 1, .rw, 0, .sys, []⟩
def NTU.CH_ARMED (c : Nat) : Fld := ⟨0x11, 0x100+0x10*c, 16, 1, .ro, 0, .sys, []⟩
def NTU.CH_FIRED (c : Nat) : Fld := ⟨0x11, 0x100+0x10*c, 24, 1, .w1c, 0, .sys, []⟩
def NTU.CH_CAPTURED (c : Nat) : Fld := ⟨0x11, 0x100+0x10*c, 25, 1, .ro, 0, .sys, []⟩
def NTU.CH_OVR (c : Nat) : Fld := ⟨0x11, 0x100+0x10*c, 26, 1, .w1c, 0, .sys, []⟩
def NTU.CH_A (c : Nat) : Fld := ⟨0x11, 0x104+0x10*c, 0, 32, .rw, 0, .sys, []⟩
def NTU.CH_B (c : Nat) : Fld := ⟨0x11, 0x108+0x10*c, 0, 32, .rw, 0, .sys, []⟩
def NTU.CH_C (c : Nat) : Fld := ⟨0x11, 0x10C+0x10*c, 0, 32, .rw, 0, .sys, [(0, 0x7FFFFFFF)]⟩

/-- The fields of the NTU page at offset `off`. -/
def NTU.fieldsAt (off : Nat) : List Fld :=
  ([NTU.CMP_LINE, NTU.CAPTURE, NTU.STEP_REFUSED, NTU.MASTER_CHANGED, NTU.STEP_TAKEN, NTU.SAMPLE, NTU.EVT_EN, NTU.SERVO_EN, NTU.SRC, NTU.KP, NTU.KI, NTU.STEP_LIMIT, NTU.ACCEPT_NEXT, NTU.SET, NTU.ADJ, NTU.TIME_COARSE, NTU.COARSE_NOW, NTU.MASTER_ID, NTU.REFUSED_SEC, NTU.REFUSED_NS, NTU.REFUSED_SRC, NTU.FU_WINDOW, NTU.REQ_SYNCED, NTU.PPS_EN, NTU.PPS_WIDTH, NTU.TIME_SEC_LO, NTU.TIME_SEC_HI, NTU.TIME_NS, NTU.TIME_FRAC, NTU.TICK32, NTU.TICK32_L, NTU.SET_SEC_LO, NTU.SET_SEC_HI, NTU.SET_NS].filter (fun f => f.off == off)) ++
  packedAt 0x2c 2 0 4 off NTU.DELAY ++
  strideAt 0x100 16 0 16 off NTU.CH_MODE ++
  strideAt 0x100 16 0 16 off NTU.CH_ARM ++
  strideAt 0x100 16 0 16 off NTU.CH_AHEAD ++
  strideAt 0x100 16 0 16 off NTU.CH_LINE_EN ++
  strideAt 0x100 16 0 16 off NTU.CH_LINE ++
  strideAt 0x100 16 0 16 off NTU.CH_WAKE ++
  strideAt 0x100 16 0 16 off NTU.CH_CAPSEL ++
  strideAt 0x100 16 0 16 off NTU.CH_PEDGE ++
  strideAt 0x100 16 0 16 off NTU.CH_ARMED ++
  strideAt 0x100 16 0 16 off NTU.CH_FIRED ++
  strideAt 0x100 16 0 16 off NTU.CH_CAPTURED ++
  strideAt 0x100 16 0 16 off NTU.CH_OVR ++
  strideAt 0x104 16 0 16 off NTU.CH_A ++
  strideAt 0x108 16 0 16 off NTU.CH_B ++
  strideAt 0x10c 16 0 16 off NTU.CH_C

/-! ### CAN page: Table 11.11 of spec/11_can_controllers.md -/

def CAN.LINE (x : Nat) : Fld := ⟨0x12 + x % 2, 0x8, 0, 8, .w1c, 0, .sys, []⟩
def CAN.ERR_PASSIVE (x : Nat) : Fld := ⟨0x12 + x % 2, 0x8, 8, 1, .w1c, 0, .sys, []⟩
def CAN.BUS_OFF_EVT (x : Nat) : Fld := ⟨0x12 + x % 2, 0x8, 9, 1, .w1c, 0, .sys, []⟩
def CAN.BUS_OFF_RECOVERED (x : Nat) : Fld := ⟨0x12 + x % 2, 0x8, 10, 1, .w1c, 0, .sys, []⟩
def CAN.TX_DEADLINE (x : Nat) : Fld := ⟨0x12 + x % 2, 0x8, 11, 1, .w1c, 0, .sys, []⟩
def CAN.LOCK_DEADLINE (x : Nat) : Fld := ⟨0x12 + x % 2, 0x8, 12, 1, .w1c, 0, .sys, []⟩
def CAN.OVERRUN (x : Nat) : Fld := ⟨0x12 + x % 2, 0x8, 13, 1, .w1c, 0, .sys, []⟩
def CAN.SYNC_PAIRED (x : Nat) : Fld := ⟨0x12 + x % 2, 0x8, 14, 1, .w1c, 0, .sys, []⟩
def CAN.SLEEP_CMD (x : Nat) : Fld := ⟨0x12 + x % 2, 0x8, 15, 1, .w1c, 0, .sys, []⟩
def CAN.CFG_REJECT (x : Nat) : Fld := ⟨0x12 + x % 2, 0x8, 16, 1, .w1c, 0, .sys, []⟩
def CAN.EVT_EN (x : Nat) : Fld := ⟨0x12 + x % 2, 0xC, 0, 17, .rw, 0, .sys, []⟩
def CAN.MODE (x : Nat) : Fld := ⟨0x12 + x % 2, 0x10, 0, 3, .rw, 0, .sys, [(0, 4)]⟩
def CAN.FD_EN (x : Nat) : Fld := ⟨0x12 + x % 2, 0x10, 4, 1, .rw, 1, .sys, []⟩
def CAN.BOFF_MODE (x : Nat) : Fld := ⟨0x12 + x % 2, 0x10, 8, 2, .rw, 0, .sys, [(0, 2)]⟩
def CAN.BOFF_DELAY (x : Nat) : Fld := ⟨0x12 + x % 2, 0x10, 16, 10, .rw, 100, .sys, [(1, 1000)]⟩
def CAN.RECOVER (x : Nat) : Fld := ⟨0x12 + x % 2, 0x14, 0, 1, .w1s, 0, .sys, []⟩
def CAN.NBRP (x : Nat) : Fld := ⟨0x12 + x % 2, 0x18, 0, 8, .rw, 0, .sys, []⟩
def CAN.NTSEG1 (x : Nat) : Fld := ⟨0x12 + x % 2, 0x18, 8, 8, .rw, 126, .sys, [(1, 255)]⟩
def CAN.NTSEG2 (x : Nat) : Fld := ⟨0x12 + x % 2, 0x18, 16, 7, .rw, 31, .sys, []⟩
def CAN.NSJW (x : Nat) : Fld := ⟨0x12 + x % 2, 0x18, 24, 7, .rw, 31, .sys, []⟩
def CAN.DBRP (x : Nat) : Fld := ⟨0x12 + x % 2, 0x1C, 0, 5, .rw, 0, .sys, []⟩
def CAN.DTSEG1 (x : Nat) : Fld := ⟨0x12 + x % 2, 0x1C, 8, 5, .rw, 28, .sys, []⟩
def CAN.DTSEG2 (x : Nat) : Fld := ⟨0x12 + x % 2, 0x1C, 16, 4, .rw, 9, .sys, []⟩
def CAN.DSJW (x : Nat) : Fld := ⟨0x12 + x % 2, 0x1C, 20, 4, .rw, 9, .sys, []⟩
def CAN.TDC_EN (x : Nat) : Fld := ⟨0x12 + x % 2, 0x1C, 24, 1, .rw, 0, .sys, []⟩
def CAN.TDCO (x : Nat) : Fld := ⟨0x12 + x % 2, 0x1C, 25, 7, .rw, 0, .sys, []⟩
def CAN.TEC (x : Nat) : Fld := ⟨0x12 + x % 2, 0x20, 0, 8, .ro, 0, .sys, []⟩
def CAN.REC (x : Nat) : Fld := ⟨0x12 + x % 2, 0x20, 8, 8, .ro, 0, .sys, []⟩
def CAN.PASSIVE (x : Nat) : Fld := ⟨0x12 + x % 2, 0x20, 16, 1, .ro, 0, .sys, []⟩
def CAN.BUS_OFF (x : Nat) : Fld := ⟨0x12 + x % 2, 0x20, 17, 1, .ro, 0, .sys, []⟩
def CAN.ACT (x : Nat) : Fld := ⟨0x12 + x % 2, 0x24, 0, 3, .ro, 0, .sys, []⟩
def CAN.TRX_LISTEN (x : Nat) : Fld := ⟨0x12 + x % 2, 0x24, 8, 1, .ro, 0, .sys, []⟩
def CAN.LOCK_LIMIT (x : Nat) : Fld := ⟨0x12 + x % 2, 0x28, 0, 10, .rw, 200, .sys, [(1, 1000)]⟩
def CAN.SM_ID (x : Nat) (k : Nat) : Fld := ⟨0x12 + x % 2, 0x30+4*k, 0, 29, .rw, 0, .sys, []⟩
def CAN.SM_XTD (x : Nat) (k : Nat) : Fld := ⟨0x12 + x % 2, 0x30+4*k, 29, 1, .rw, 0, .sys, []⟩
def CAN.SM_EN (x : Nat) (k : Nat) : Fld := ⟨0x12 + x % 2, 0x30+4*k, 31, 1, .rw, 0, .sys, []⟩
def CAN.SLP_ID (x : Nat) : Fld := ⟨0x12 + x % 2, 0x38, 0, 29, .rw, 0, .sys, []⟩
def CAN.SLP_XTD (x : Nat) : Fld := ⟨0x12 + x % 2, 0x38, 29, 1, .rw, 0, .sys, []⟩
def CAN.SLP_EN (x : Nat) : Fld := ⟨0x12 + x % 2, 0x38, 31, 1, .rw, 0, .sys, []⟩
def CAN.SLP_IDMASK (x : Nat) : Fld := ⟨0x12 + x % 2, 0x3C, 0, 30, .rw, 0, .sys, []⟩
def CAN.SLP_DATA (x : Nat) (k : Nat) : Fld := ⟨0x12 + x % 2, 0x40+4*k, 0, 32, .rw, 0, .sys, []⟩
def CAN.SLP_DMASK (x : Nat) (k : Nat) : Fld := ⟨0x12 + x % 2, 0x48+4*k, 0, 32, .rw, 0, .sys, []⟩
def CAN.TXREQ_OBJ (x : Nat) : Fld := ⟨0x12 + x % 2, 0x50, 0, 7, .wo, 0, .sys, []⟩
def CAN.TXCANCEL_OBJ (x : Nat) : Fld := ⟨0x12 + x % 2, 0x54, 0, 7, .wo, 0, .sys, []⟩
def CAN.LOCK_ABANDON_OBJ (x : Nat) : Fld := ⟨0x12 + x % 2, 0x58, 0, 7, .wo, 0, .sys, []⟩
def CAN.OBJ_LOCK_COUNT (x : Nat) : Fld := ⟨0x12 + x % 2, 0x5C, 0, 8, .ro, 0, .sys, []⟩
def CAN.OBJ_LOCK_LOWEST (x : Nat) : Fld := ⟨0x12 + x % 2, 0x5C, 16, 7, .ro, 0, .sys, []⟩
def CAN.OBJ_LOCK_ANY (x : Nat) : Fld := ⟨0x12 + x % 2, 0x5C, 31, 1, .ro, 0, .sys, []⟩

/-- The fields of the CAN page at offset `off`. -/
def CAN.fieldsAt (x : Nat) (off : Nat) : List Fld :=
  ([CAN.LINE x, CAN.ERR_PASSIVE x, CAN.BUS_OFF_EVT x, CAN.BUS_OFF_RECOVERED x, CAN.TX_DEADLINE x, CAN.LOCK_DEADLINE x, CAN.OVERRUN x, CAN.SYNC_PAIRED x, CAN.SLEEP_CMD x, CAN.CFG_REJECT x, CAN.EVT_EN x, CAN.MODE x, CAN.FD_EN x, CAN.BOFF_MODE x, CAN.BOFF_DELAY x, CAN.RECOVER x, CAN.NBRP x, CAN.NTSEG1 x, CAN.NTSEG2 x, CAN.NSJW x, CAN.DBRP x, CAN.DTSEG1 x, CAN.DTSEG2 x, CAN.DSJW x, CAN.TDC_EN x, CAN.TDCO x, CAN.TEC x, CAN.REC x, CAN.PASSIVE x, CAN.BUS_OFF x, CAN.ACT x, CAN.TRX_LISTEN x, CAN.LOCK_LIMIT x, CAN.SLP_ID x, CAN.SLP_XTD x, CAN.SLP_EN x, CAN.SLP_IDMASK x, CAN.TXREQ_OBJ x, CAN.TXCANCEL_OBJ x, CAN.LOCK_ABANDON_OBJ x, CAN.OBJ_LOCK_COUNT x, CAN.OBJ_LOCK_LOWEST x, CAN.OBJ_LOCK_ANY x].filter (fun f => f.off == off)) ++
  strideAt 0x30 4 0 2 off (CAN.SM_ID x) ++
  strideAt 0x30 4 0 2 off (CAN.SM_XTD x) ++
  strideAt 0x30 4 0 2 off (CAN.SM_EN x) ++
  strideAt 0x40 4 0 2 off (CAN.SLP_DATA x) ++
  strideAt 0x48 4 0 2 off (CAN.SLP_DMASK x)

/-! ### CANX page: Table 12.6 of spec/12_can_transceiver_sleep.md -/

def CANX.FS_TIMER_STARTED : Fld := ⟨0x14, 0x8, 0, 1, .w1c, 0, .sys, []⟩
def CANX.WAKE_DETECTED : Fld := ⟨0x14, 0x8, 1, 1, .w1c, 0, .sys, []⟩
def CANX.TXD_TIMEOUT : Fld := ⟨0x14, 0x8, 2, 1, .w1c, 0, .sys, []⟩
def CANX.MODE_CHANGED : Fld := ⟨0x14, 0x8, 3, 1, .w1c, 0, .sys, []⟩
def CANX.SLEEP_REFUSED : Fld := ⟨0x14, 0x8, 4, 1, .w1c, 0, .sys, []⟩
def CANX.EVT_EN : Fld := ⟨0x14, 0xC, 0, 5, .rw, 0, .sys, []⟩
def CANX.MODE : Fld := ⟨0x14, 0x10, 0, 2, .rw, 0, .fuse, []⟩
def CANX.MODE_NOW : Fld := ⟨0x14, 0x10, 4, 2, .ro, 0, .fuse, []⟩
def CANX.SLEEP_PEND : Fld := ⟨0x14, 0x10, 8, 1, .ro, 0, .sys, []⟩
def CANX.FS_TIMEOUT : Fld := ⟨0x14, 0x14, 0, 8, .rw, 50, .vbat, [(5, 200)]⟩
def CANX.FS_RUN : Fld := ⟨0x14, 0x14, 16, 1, .ro, 0, .vbat, []⟩
def CANX.WUP_EN : Fld := ⟨0x14, 0x18, 0, 1, .rw, 1, .vbat, []⟩
def CANX.WUF_EN : Fld := ⟨0x14, 0x18, 1, 1, .rw, 0, .vbat, []⟩
def CANX.PAD_EN : Fld := ⟨0x14, 0x18, 2, 1, .rw, 1, .vbat, []⟩
def CANX.PAD_EDGE : Fld := ⟨0x14, 0x18, 3, 2, .rw, 3, .vbat, [(1, 3)]⟩
def CANX.PAD_PULL : Fld := ⟨0x14, 0x18, 5, 1, .rw, 0, .vbat, []⟩
def CANX.FD_PASSIVE : Fld := ⟨0x14, 0x18, 6, 1, .rw, 1, .vbat, []⟩
def CANX.WUF_RATE : Fld := ⟨0x14, 0x18, 8, 2, .rw, 2, .vbat, []⟩
def CANX.WUF_ID : Fld := ⟨0x14, 0x1C, 0, 29, .rw, 0, .vbat, []⟩
def CANX.WUF_XTD : Fld := ⟨0x14, 0x1C, 29, 1, .rw, 0, .vbat, []⟩
def CANX.WUF_IDMASK : Fld := ⟨0x14, 0x20, 0, 30, .rw, 0, .vbat, []⟩
def CANX.WUF_DMASK (k : Nat) : Fld := ⟨0x14, 0x24+4*k, 0, 32, .rw, 0, .vbat, []⟩
def CANX.WUF_DLC : Fld := ⟨0x14, 0x2C, 0, 4, .rw, 0, .vbat, [(0, 8)]⟩
def CANX.DATA_CHK : Fld := ⟨0x14, 0x2C, 4, 1, .rw, 0, .vbat, []⟩
def CANX.FEC_LIMIT : Fld := ⟨0x14, 0x2C, 8, 5, .rw, 31, .vbat, []⟩
def CANX.WAKE_WUP : Fld := ⟨0x14, 0x30, 0, 1, .w1c, 0, .vbat, []⟩
def CANX.WAKE_WUF : Fld := ⟨0x14, 0x30, 1, 1, .w1c, 0, .vbat, []⟩
def CANX.WAKE_PAD : Fld := ⟨0x14, 0x30, 2, 1, .w1c, 0, .vbat, []⟩
def CANX.WAKE_FRAME_ERR : Fld := ⟨0x14, 0x30, 3, 1, .w1c, 0, .vbat, []⟩
def CANX.WAKE_VBAT_RET : Fld := ⟨0x14, 0x30, 4, 1, .w1c, 1, .vbat, []⟩
def CANX.FS_EXPIRED : Fld := ⟨0x14, 0x30, 5, 1, .w1c, 0, .vbat, []⟩
def CANX.CANB_STB : Fld := ⟨0x14, 0x34, 0, 1, .rw, 1, .sys, []⟩
def CANX.VBAT_OK : Fld := ⟨0x14, 0x38, 0, 1, .ro, 0, .live, []⟩
def CANX.TXD_OFF : Fld := ⟨0x14, 0x38, 1, 1, .ro, 0, .sys, []⟩

/-- The fields of the CANX page at offset `off`. -/
def CANX.fieldsAt (off : Nat) : List Fld :=
  ([CANX.FS_TIMER_STARTED, CANX.WAKE_DETECTED, CANX.TXD_TIMEOUT, CANX.MODE_CHANGED, CANX.SLEEP_REFUSED, CANX.EVT_EN, CANX.MODE, CANX.MODE_NOW, CANX.SLEEP_PEND, CANX.FS_TIMEOUT, CANX.FS_RUN, CANX.WUP_EN, CANX.WUF_EN, CANX.PAD_EN, CANX.PAD_EDGE, CANX.PAD_PULL, CANX.FD_PASSIVE, CANX.WUF_RATE, CANX.WUF_ID, CANX.WUF_XTD, CANX.WUF_IDMASK, CANX.WUF_DLC, CANX.DATA_CHK, CANX.FEC_LIMIT, CANX.WAKE_WUP, CANX.WAKE_WUF, CANX.WAKE_PAD, CANX.WAKE_FRAME_ERR, CANX.WAKE_VBAT_RET, CANX.FS_EXPIRED, CANX.CANB_STB, CANX.VBAT_OK, CANX.TXD_OFF].filter (fun f => f.off == off)) ++
  strideAt 0x24 4 0 2 off CANX.WUF_DMASK

/-! ### RFPHY page: Table 13.7 of spec/13_radio_phy.md -/

def RFPHY.CAL_DONE : Fld := ⟨0x15, 0x8, 0, 1, .w1c, 0, .sys, []⟩
def RFPHY.CAL_DISPLACED : Fld := ⟨0x15, 0x8, 1, 1, .w1c, 0, .sys, []⟩
def RFPHY.PLL_UNLOCK : Fld := ⟨0x15, 0x8, 2, 1, .w1c, 0, .sys, []⟩
def RFPHY.EVT_EN : Fld := ⟨0x15, 0xC, 0, 3, .rw, 0, .sys, []⟩
def RFPHY.CHMASK : Fld := ⟨0x15, 0x10, 0, 19, .rw, 0x7FFFF, .sys, []⟩
def RFPHY.PWR : Fld := ⟨0x15, 0x14, 0, 5, .rw, 20, .sys, [(0, 30)]⟩
def RFPHY.RAMP_T : Fld := ⟨0x15, 0x14, 8, 3, .rw, 1, .sys, []⟩
def RFPHY.RAMP0 : Fld := ⟨0x15, 0x18, 0, 32, .rw, 0x804F250A, .sys, []⟩
def RFPHY.RAMP1 : Fld := ⟨0x15, 0x1C, 0, 32, .rw, 0xFFF5DAB0, .sys, []⟩
def RFPHY.SYNC_LO : Fld := ⟨0x15, 0x20, 0, 32, .rw, 0, .sys, []⟩
def RFPHY.SYNC_HI : Fld := ⟨0x15, 0x24, 0, 16, .rw, 0, .sys, []⟩
def RFPHY.RSYNC : Fld := ⟨0x15, 0x28, 0, 32, .rw, 0x9E5A3C71, .sys, []⟩
def RFPHY.SYNC_ERR : Fld := ⟨0x15, 0x2C, 0, 3, .rw, 3, .sys, []⟩
def RFPHY.RSYNC_ERR : Fld := ⟨0x15, 0x2C, 4, 2, .rw, 1, .sys, []⟩
def RFPHY.FREQ_TRACK : Fld := ⟨0x15, 0x2C, 8, 1, .rw, 0, .sys, []⟩
def RFPHY.TH (t : Nat) : Fld := ⟨0x15, 0x30, (8*t), 8, .rw, ([8, 14, 26, 38].getD t 0), .sys, []⟩
def RFPHY.CAL_INTERVAL : Fld := ⟨0x15, 0x34, 0, 8, .rw, 60, .sys, [(1, 255)]⟩
def RFPHY.CAL_NOW : Fld := ⟨0x15, 0x34, 8, 1, .w1s, 0, .sys, []⟩
def RFPHY.CAL_VALID : Fld := ⟨0x15, 0x34, 16, 1, .ro, 0, .sys, []⟩
def RFPHY.CAL_DUE : Fld := ⟨0x15, 0x34, 17, 1, .ro, 0, .sys, []⟩
def RFPHY.STATE : Fld := ⟨0x15, 0x38, 0, 3, .ro, 0, .sys, []⟩
def RFPHY.CHAN : Fld := ⟨0x15, 0x38, 8, 5, .ro, 0, .sys, []⟩
def RFPHY.PLL_LOCK : Fld := ⟨0x15, 0x38, 16, 1, .ro, 0, .sys, []⟩
def RFPHY.RSSI : Fld := ⟨0x15, 0x3C, 0, 8, .ro, 0, .sys, []⟩
def RFPHY.RSSI_MODE : Fld := ⟨0x15, 0x3C, 8, 1, .ro, 0, .sys, []⟩
def RFPHY.RSSI_VALID : Fld := ⟨0x15, 0x3C, 15, 1, .ro, 0, .sys, []⟩

/-- The fields of the RFPHY page at offset `off`. -/
def RFPHY.fieldsAt (off : Nat) : List Fld :=
  ([RFPHY.CAL_DONE, RFPHY.CAL_DISPLACED, RFPHY.PLL_UNLOCK, RFPHY.EVT_EN, RFPHY.CHMASK, RFPHY.PWR, RFPHY.RAMP_T, RFPHY.RAMP0, RFPHY.RAMP1, RFPHY.SYNC_LO, RFPHY.SYNC_HI, RFPHY.RSYNC, RFPHY.SYNC_ERR, RFPHY.RSYNC_ERR, RFPHY.FREQ_TRACK, RFPHY.CAL_INTERVAL, RFPHY.CAL_NOW, RFPHY.CAL_VALID, RFPHY.CAL_DUE, RFPHY.STATE, RFPHY.CHAN, RFPHY.PLL_LOCK, RFPHY.RSSI, RFPHY.RSSI_MODE, RFPHY.RSSI_VALID].filter (fun f => f.off == off)) ++
  packedAt 0x30 4 0 4 off RFPHY.TH

/-! ### LINK page: Table 15.12 of spec/15_link_controller.md -/

def LINK.SLOT_LATE_EVT : Fld := ⟨0x16, 0x8, 0, 1, .w1c, 0, .sys, []⟩
def LINK.BEACON_RX_EVT : Fld := ⟨0x16, 0x8, 1, 1, .w1c, 0, .sys, []⟩
def LINK.BEACON_MISSED_EVT : Fld := ⟨0x16, 0x8, 2, 1, .w1c, 0, .sys, []⟩
def LINK.JOIN_RX : Fld := ⟨0x16, 0x8, 3, 1, .w1c, 0, .sys, []⟩
def LINK.LOW_ENERGY : Fld := ⟨0x16, 0x8, 4, 1, .w1c, 0, .sys, []⟩
def LINK.SOUNDING_DONE : Fld := ⟨0x16, 0x8, 5, 1, .w1c, 0, .sys, []⟩
def LINK.CYCLE_START : Fld := ⟨0x16, 0x8, 6, 1, .w1c, 0, .sys, []⟩
def LINK.SLOT_TIMER_EVT : Fld := ⟨0x16, 0x8, 7, 1, .w1c, 0, .sys, []⟩
def LINK.REKEY_DUE : Fld := ⟨0x16, 0x8, 8, 1, .w1c, 0, .sys, []⟩
def LINK.LINE : Fld := ⟨0x16, 0x8, 9, 4, .w1c, 0, .sys, []⟩
def LINK.EVT_EN : Fld := ⟨0x16, 0xC, 0, 13, .rw, 0, .sys, []⟩
def LINK.RUN : Fld := ⟨0x16, 0x10, 0, 1, .rw, 0, .sys, []⟩
def LINK.ROLE : Fld := ⟨0x16, 0x10, 1, 1, .rw, 0, .sys, []⟩
def LINK.SCAN : Fld := ⟨0x16, 0x10, 2, 1, .rw, 0, .sys, []⟩
def LINK.ADOPT : Fld := ⟨0x16, 0x10, 3, 1, .rw, 0, .sys, []⟩
def LINK.JOIN_ACCEPT : Fld := ⟨0x16, 0x10, 4, 1, .rw, 0, .sys, []⟩
def LINK.SLOT_LEN : Fld := ⟨0x16, 0x10, 8, 6, .rw, 10, .sys, [(4, 40)]⟩
def LINK.HOP_LEN : Fld := ⟨0x16, 0x10, 16, 5, .rw, 19, .sys, [(1, 19)]⟩
def LINK.SCAN_CH : Fld := ⟨0x16, 0x10, 24, 5, .rw, 0, .sys, [(0, 18)]⟩
def LINK.TX_OFFSET : Fld := ⟨0x16, 0x14, 0, 8, .rw, 50, .sys, [(25, 250)]⟩
def LINK.RX_GUARD : Fld := ⟨0x16, 0x14, 8, 8, .rw, 50, .sys, []⟩
def LINK.CAL_LIMIT : Fld := ⟨0x16, 0x14, 16, 7, .rw, 8, .sys, [(1, 64)]⟩
def LINK.BFLAGS : Fld := ⟨0x16, 0x14, 24, 8, .rw, 0, .sys, []⟩
def LINK.WAKE_LEAD : Fld := ⟨0x16, 0x18, 0, 16, .rw, 2000, .sys, [(100, 65535)]⟩
def LINK.SHORT : Fld := ⟨0x16, 0x1C, 0, 16, .rw, 0xFFFE, .sys, []⟩
def LINK.LONG_LO : Fld := ⟨0x16, 0x20, 0, 32, .rw, 0, .sys, []⟩
def LINK.LONG_HI : Fld := ⟨0x16, 0x24, 0, 32, .rw, 0, .sys, []⟩
def LINK.EPOCH_SEC_LO : Fld := ⟨0x16, 0x28, 0, 32, .rw, 0, .sys, []⟩
def LINK.EPOCH_SEC_HI : Fld := ⟨0x16, 0x2C, 0, 16, .rw, 0, .sys, []⟩
def LINK.EPOCH_NS : Fld := ⟨0x16, 0x30, 0, 30, .rw, 0, .sys, [(0, 999999999)]⟩
def LINK.ASN_LO : Fld := ⟨0x16, 0x34, 0, 32, .rs, 0, .sys, []⟩
def LINK.ASN_HI : Fld := ⟨0x16, 0x38, 0, 8, .ro, 0, .sys, []⟩
def LINK.HOP (i : Nat) : Fld := ⟨0x16, 0x40+4*(i/6), (5*(i%6)), 5, .rw, i, .sys, [(0, 18)]⟩
def LINK.STATE : Fld := ⟨0x16, 0x50, 0, 2, .ro, 0, .sys, []⟩
def LINK.CH_MASKED : Fld := ⟨0x16, 0x50, 2, 1, .w1c, 0, .sys, []⟩
def LINK.SCHED_DIFF : Fld := ⟨0x16, 0x50, 3, 1, .w1c, 0, .sys, []⟩
def LINK.SLOT : Fld := ⟨0x16, 0x50, 8, 8, .ro, 0, .sys, []⟩
def LINK.NBR_EN (e : Nat) : Fld := ⟨0x16, 0x54+4*(e/32), (e%32), 1, .rw, 0, .sys, []⟩

/-- The fields of the LINK page at offset `off`. -/
def LINK.fieldsAt (off : Nat) : List Fld :=
  ([LINK.SLOT_LATE_EVT, LINK.BEACON_RX_EVT, LINK.BEACON_MISSED_EVT, LINK.JOIN_RX, LINK.LOW_ENERGY, LINK.SOUNDING_DONE, LINK.CYCLE_START, LINK.SLOT_TIMER_EVT, LINK.REKEY_DUE, LINK.LINE, LINK.EVT_EN, LINK.RUN, LINK.ROLE, LINK.SCAN, LINK.ADOPT, LINK.JOIN_ACCEPT, LINK.SLOT_LEN, LINK.HOP_LEN, LINK.SCAN_CH, LINK.TX_OFFSET, LINK.RX_GUARD, LINK.CAL_LIMIT, LINK.BFLAGS, LINK.WAKE_LEAD, LINK.SHORT, LINK.LONG_LO, LINK.LONG_HI, LINK.EPOCH_SEC_LO, LINK.EPOCH_SEC_HI, LINK.EPOCH_NS, LINK.ASN_LO, LINK.ASN_HI, LINK.STATE, LINK.CH_MASKED, LINK.SCHED_DIFF, LINK.SLOT].filter (fun f => f.off == off)) ++
  packedAt 0x40 6 0 19 off LINK.HOP ++
  packedAt 0x54 32 0 64 off LINK.NBR_EN

/-! ### LSEC page: Table 15.13 of spec/15_link_controller.md -/

def LSEC.EVT : Fld := ⟨0x17, 0x8, 0, 0, .w1c, 0, .sys, []⟩
def LSEC.EVT_EN : Fld := ⟨0x17, 0xC, 0, 0, .rw, 0, .sys, []⟩
def LSEC.KEY_SEL : Fld := ⟨0x17, 0x10, 0, 4, .rw, 0, .sys, []⟩
def LSEC.KEY_DATA (k : Nat) : Fld := ⟨0x17, 0x14+4*k, 0, 32, .wo, 0, .sys, []⟩
def LSEC.LOAD : Fld := ⟨0x17, 0x24, 0, 1, .w1s, 0, .sys, []⟩
def LSEC.CLEAR : Fld := ⟨0x17, 0x24, 1, 1, .w1s, 0, .sys, []⟩
def LSEC.KEY_VALID : Fld := ⟨0x17, 0x28, 0, 16, .ro, 0, .sys, []⟩
def LSEC.TXSEQ : Fld := ⟨0x17, 0x2C, 0, 32, .rw, 1, .sys, []⟩
def LSEC.REKEY_AT : Fld := ⟨0x17, 0x30, 0, 32, .rw, 0xF0000000, .sys, []⟩
def LSEC.BCAST_KEY : Fld := ⟨0x17, 0x34, 0, 4, .rw, 0, .sys, []⟩

/-- The fields of the LSEC page at offset `off`. -/
def LSEC.fieldsAt (off : Nat) : List Fld :=
  ([LSEC.EVT, LSEC.EVT_EN, LSEC.KEY_SEL, LSEC.LOAD, LSEC.CLEAR, LSEC.KEY_VALID, LSEC.TXSEQ, LSEC.REKEY_AT, LSEC.BCAST_KEY].filter (fun f => f.off == off)) ++
  strideAt 0x14 4 0 4 off LSEC.KEY_DATA

/-! ### CTRL page: Table 16.6 of spec/16_control_engine_adc_pwm.md -/

def CTRL.LINE : Fld := ⟨0x18, 0x8, 0, 4, .w1c, 0, .sys, []⟩
def CTRL.DEADLINE_MISS : Fld := ⟨0x18, 0x8, 4, 1, .w1c, 0, .sys, []⟩
def CTRL.WRAP : Fld := ⟨0x18, 0x8, 5, 1, .w1c, 0, .sys, []⟩
def CTRL.EVT_EN : Fld := ⟨0x18, 0xC, 0, 6, .rw, 0, .sys, []⟩
def CTRL.EN (n : Nat) : Fld := ⟨0x18, 0x100+0x10*n, 0, 1, .rw, 0, .sys, []⟩
def CTRL.FIRST (n : Nat) : Fld := ⟨0x18, 0x100+0x10*n, 8, 6, .rw, 0, .sys, []⟩
def CTRL.COUNT (n : Nat) : Fld := ⟨0x18, 0x100+0x10*n, 16, 4, .rw, 0, .sys, [(0, 8)]⟩
def CTRL.OUT_EN (n : Nat) : Fld := ⟨0x18, 0x100+0x10*n, 20, 1, .rw, 0, .sys, []⟩
def CTRL.OUT_PAIR (n : Nat) : Fld := ⟨0x18, 0x100+0x10*n, 21, 3, .rw, 0, .sys, [(0, 5)]⟩
def CTRL.LINE_EN (n : Nat) : Fld := ⟨0x18, 0x100+0x10*n, 24, 1, .rw, 0, .sys, []⟩
def CTRL.LINE_SEL (n : Nat) : Fld := ⟨0x18, 0x100+0x10*n, 25, 2, .rw, 0, .sys, []⟩
def CTRL.ON_COMMIT (n : Nat) : Fld := ⟨0x18, 0x100+0x10*n, 28, 1, .rw, 0, .sys, []⟩
def CTRL.ON_MISS (n : Nat) : Fld := ⟨0x18, 0x100+0x10*n, 29, 1, .rw, 0, .sys, []⟩
def CTRL.ON_WRAP (n : Nat) : Fld := ⟨0x18, 0x100+0x10*n, 30, 1, .rw, 0, .sys, []⟩
def CTRL.DEADLINE (n : Nat) : Fld := ⟨0x18, 0x104+0x10*n, 0, 16, .rw, 65535, .sys, [(1, 65535)]⟩
def CTRL.LWRAP (n : Nat) : Fld := ⟨0x18, 0x108+0x10*n, 0, 8, .w1c, 0, .sys, []⟩
def CTRL.MISS (n : Nat) : Fld := ⟨0x18, 0x108+0x10*n, 8, 1, .w1c, 0, .sys, []⟩
def CTRL.TRIG_LOST (n : Nat) : Fld := ⟨0x18, 0x108+0x10*n, 9, 1, .w1c, 0, .sys, []⟩
def CTRL.CFG_REJ (n : Nat) : Fld := ⟨0x18, 0x108+0x10*n, 10, 1, .w1c, 0, .sys, []⟩
def CTRL.BIND_DENIED (n : Nat) : Fld := ⟨0x18, 0x108+0x10*n, 11, 1, .w1c, 0, .sys, []⟩
def CTRL.RUNNING (n : Nat) : Fld := ⟨0x18, 0x108+0x10*n, 16, 1, .ro, 0, .sys, []⟩
def CTRL.HELD (n : Nat) : Fld := ⟨0x18, 0x108+0x10*n, 17, 1, .ro, 0, .sys, []⟩

/-- The fields of the CTRL page at offset `off`. -/
def CTRL.fieldsAt (off : Nat) : List Fld :=
  ([CTRL.LINE, CTRL.DEADLINE_MISS, CTRL.WRAP, CTRL.EVT_EN].filter (fun f => f.off == off)) ++
  strideAt 0x100 16 0 16 off CTRL.EN ++
  strideAt 0x100 16 0 16 off CTRL.FIRST ++
  strideAt 0x100 16 0 16 off CTRL.COUNT ++
  strideAt 0x100 16 0 16 off CTRL.OUT_EN ++
  strideAt 0x100 16 0 16 off CTRL.OUT_PAIR ++
  strideAt 0x100 16 0 16 off CTRL.LINE_EN ++
  strideAt 0x100 16 0 16 off CTRL.LINE_SEL ++
  strideAt 0x100 16 0 16 off CTRL.ON_COMMIT ++
  strideAt 0x100 16 0 16 off CTRL.ON_MISS ++
  strideAt 0x100 16 0 16 off CTRL.ON_WRAP ++
  strideAt 0x104 16 0 16 off CTRL.DEADLINE ++
  strideAt 0x108 16 0 16 off CTRL.LWRAP ++
  strideAt 0x108 16 0 16 off CTRL.MISS ++
  strideAt 0x108 16 0 16 off CTRL.TRIG_LOST ++
  strideAt 0x108 16 0 16 off CTRL.CFG_REJ ++
  strideAt 0x108 16 0 16 off CTRL.BIND_DENIED ++
  strideAt 0x108 16 0 16 off CTRL.RUNNING ++
  strideAt 0x108 16 0 16 off CTRL.HELD

/-! ### ADC page: Table 16.7 of spec/16_control_engine_adc_pwm.md -/

def ADC.ADCA_DONE : Fld := ⟨0x19, 0x8, 0, 1, .w1c, 0, .sys, []⟩
def ADC.ADCA_OVERRUN : Fld := ⟨0x19, 0x8, 1, 1, .w1c, 0, .sys, []⟩
def ADC.ADCB_DONE : Fld := ⟨0x19, 0x8, 2, 1, .w1c, 0, .sys, []⟩
def ADC.ADCB_DISPLACED : Fld := ⟨0x19, 0x8, 3, 1, .w1c, 0, .sys, []⟩
def ADC.EVT_EN : Fld := ⟨0x19, 0xC, 0, 4, .rw, 0, .sys, []⟩
def ADC.A_LEN : Fld := ⟨0x19, 0x10, 0, 3, .rw, 0, .sys, []⟩
def ADC.A_START : Fld := ⟨0x19, 0x10, 8, 1, .w1s, 0, .sys, []⟩
def ADC.A_BUSY : Fld := ⟨0x19, 0x10, 16, 1, .ro, 0, .sys, []⟩
def ADC.A_ENTRY (k : Nat) : Fld := ⟨0x19, 0x14, (4*k), 4, .rw, 0, .sys, [(0, 5)]⟩
def ADC.A_RES (k : Nat) : Fld := ⟨0x19, 0x20+4*k, 0, 12, .ro, 0, .sys, []⟩
def ADC.B_LEN : Fld := ⟨0x19, 0x40, 0, 3, .rw, 0, .sys, []⟩
def ADC.B_START : Fld := ⟨0x19, 0x40, 8, 1, .w1s, 0, .sys, []⟩
def ADC.LIMIT : Fld := ⟨0x19, 0x40, 16, 8, .rw, 20, .sys, [(1, 255)]⟩
def ADC.B_ENTRY (k : Nat) : Fld := ⟨0x19, 0x44, (4*k), 4, .rw, 0, .sys, [(0, 5), (8, 12)]⟩
def ADC.LAST : Fld := ⟨0x19, 0x48, 0, 4, .ro, 0, .sys, []⟩
def ADC.B_BUSY : Fld := ⟨0x19, 0x48, 8, 1, .ro, 0, .sys, []⟩
def ADC.TRIG_LOST : Fld := ⟨0x19, 0x48, 9, 1, .w1c, 0, .sys, []⟩
def ADC.BG_DUE : Fld := ⟨0x19, 0x48, 10, 1, .ro, 0, .sys, []⟩
def ADC.BG_ACTIVE : Fld := ⟨0x19, 0x48, 11, 1, .ro, 0, .sys, []⟩
def ADC.B_RES (k : Nat) : Fld := ⟨0x19, 0x60+4*k, 0, 12, .ro, 0, .sys, []⟩

/-- The fields of the ADC page at offset `off`. -/
def ADC.fieldsAt (off : Nat) : List Fld :=
  ([ADC.ADCA_DONE, ADC.ADCA_OVERRUN, ADC.ADCB_DONE, ADC.ADCB_DISPLACED, ADC.EVT_EN, ADC.A_LEN, ADC.A_START, ADC.A_BUSY, ADC.B_LEN, ADC.B_START, ADC.LIMIT, ADC.LAST, ADC.B_BUSY, ADC.TRIG_LOST, ADC.BG_DUE, ADC.BG_ACTIVE].filter (fun f => f.off == off)) ++
  packedAt 0x14 8 0 8 off ADC.A_ENTRY ++
  strideAt 0x20 4 0 8 off ADC.A_RES ++
  packedAt 0x44 8 0 8 off ADC.B_ENTRY ++
  strideAt 0x60 4 0 8 off ADC.B_RES

/-! ### PWM page: Table 16.8 of spec/16_control_engine_adc_pwm.md -/

def PWM.PERIOD : Fld := ⟨0x1A, 0x8, 0, 6, .w1c, 0, .sys, []⟩
def PWM.PWM_FAULT : Fld := ⟨0x1A, 0x8, 8, 1, .w1c, 0, .sys, []⟩
def PWM.EVT_EN : Fld := ⟨0x1A, 0xC, 0, 6, .rw, 0, .sys, []⟩
def PWM.EVT_EN_FAULT : Fld := ⟨0x1A, 0xC, 8, 1, .rw, 0, .sys, []⟩
def PWM.FAULT_IN : Fld := ⟨0x1A, 0x10, 0, 1, .ro, 0, .live, []⟩
def PWM.RUN (k : Nat) : Fld := ⟨0x1A, 0x100+0x20*k, 0, 1, .rw, 0, .sys, []⟩
def PWM.ALIGN (k : Nat) : Fld := ⟨0x1A, 0x100+0x20*k, 1, 1, .rw, 0, .sys, []⟩
def PWM.MODE (k : Nat) : Fld := ⟨0x1A, 0x100+0x20*k, 2, 1, .rw, 0, .sys, []⟩
def PWM.CLR (k : Nat) : Fld := ⟨0x1A, 0x100+0x20*k, 3, 1, .w1s, 0, .sys, []⟩
def PWM.DT (k : Nat) : Fld := ⟨0x1A, 0x100+0x20*k, 16, 10, .rw, 0, .sys, []⟩
def PWM.PER (k : Nat) : Fld := ⟨0x1A, 0x104+0x20*k, 0, 16, .rw, 10000, .sys, [(2, 65535)]⟩
def PWM.CMP (k : Nat) : Fld := ⟨0x1A, 0x108+0x20*k, 0, 16, .rw, 0, .sys, []⟩
def PWM.SAFE (k : Nat) : Fld := ⟨0x1A, 0x10C+0x20*k, 0, 1, .ro, 1, .sys, []⟩
def PWM.LATCHED (k : Nat) : Fld := ⟨0x1A, 0x10C+0x20*k, 1, 1, .ro, 0, .sys, []⟩
def PWM.CLAMPED (k : Nat) : Fld := ⟨0x1A, 0x10C+0x20*k, 2, 1, .w1c, 0, .sys, []⟩
def PWM.BOUND (k : Nat) : Fld := ⟨0x1A, 0x10C+0x20*k, 3, 1, .ro, 0, .sys, []⟩
def PWM.CNT (k : Nat) : Fld := ⟨0x1A, 0x10C+0x20*k, 16, 16, .ro, 0, .sys, []⟩

/-- The fields of the PWM page at offset `off`. -/
def PWM.fieldsAt (off : Nat) : List Fld :=
  ([PWM.PERIOD, PWM.PWM_FAULT, PWM.EVT_EN, PWM.EVT_EN_FAULT, PWM.FAULT_IN].filter (fun f => f.off == off)) ++
  strideAt 0x100 32 0 6 off PWM.RUN ++
  strideAt 0x100 32 0 6 off PWM.ALIGN ++
  strideAt 0x100 32 0 6 off PWM.MODE ++
  strideAt 0x100 32 0 6 off PWM.CLR ++
  strideAt 0x100 32 0 6 off PWM.DT ++
  strideAt 0x104 32 0 6 off PWM.PER ++
  strideAt 0x108 32 0 6 off PWM.CMP ++
  strideAt 0x10c 32 0 6 off PWM.SAFE ++
  strideAt 0x10c 32 0 6 off PWM.LATCHED ++
  strideAt 0x10c 32 0 6 off PWM.CLAMPED ++
  strideAt 0x10c 32 0 6 off PWM.BOUND ++
  strideAt 0x10c 32 0 6 off PWM.CNT

/-! ### TOOTH page: Table 17.5 of spec/17_tooth_tracker.md -/

def TOOTH.FIRE : Fld := ⟨0x1B, 0x8, 0, 4, .w1c, 0, .sys, []⟩
def TOOTH.MISSED_EVT : Fld := ⟨0x1B, 0x8, 4, 1, .w1c, 0, .sys, []⟩
def TOOTH.NOISE_EVT : Fld := ⟨0x1B, 0x8, 5, 1, .w1c, 0, .sys, []⟩
def TOOTH.RESYNC_EVT : Fld := ⟨0x1B, 0x8, 6, 1, .w1c, 0, .sys, []⟩
def TOOTH.STOPPED_EVT : Fld := ⟨0x1B, 0x8, 7, 1, .w1c, 0, .sys, []⟩
def TOOTH.EVT_EN : Fld := ⟨0x1B, 0xC, 0, 8, .rw, 0, .sys, []⟩
def TOOTH.TIME : Fld := ⟨0x1B, 0x10, 0, 32, .ro, 0, .sys, []⟩
def TOOTH.EN (c : Nat) : Fld := ⟨0x1B, 0x100+0x80*c, 0, 1, .rw, 0, .sys, []⟩
def TOOTH.EDGE (c : Nat) : Fld := ⟨0x1B, 0x100+0x80*c, 1, 2, .rw, 1, .sys, [(1, 3)]⟩
def TOOTH.DIR (c : Nat) : Fld := ⟨0x1B, 0x100+0x80*c, 3, 1, .rw, 0, .sys, []⟩
def TOOTH.W (c : Nat) : Fld := ⟨0x1B, 0x100+0x80*c, 4, 2, .rw, 1, .sys, [(0, 2)]⟩
def TOOTH.FILT (c : Nat) : Fld := ⟨0x1B, 0x100+0x80*c, 8, 8, .rw, 0, .sys, []⟩
def TOOTH.ACC_LO (c : Nat) : Fld := ⟨0x1B, 0x100+0x80*c, 16, 4, .rw, 8, .sys, [(4, 12)]⟩
def TOOTH.MISS (c : Nat) : Fld := ⟨0x1B, 0x100+0x80*c, 20, 5, .rw, 12, .sys, [(10, 20)]⟩
def TOOTH.MAXSYN (c : Nat) : Fld := ⟨0x1B, 0x100+0x80*c, 25, 3, .rw, 3, .sys, [(1, 7)]⟩
def TOOTH.STATE (c : Nat) : Fld := ⟨0x1B, 0x104+0x80*c, 0, 2, .ro, 0, .sys, []⟩
def TOOTH.SYN_RUN (c : Nat) : Fld := ⟨0x1B, 0x104+0x80*c, 4, 3, .ro, 0, .sys, []⟩
def TOOTH.LAST_SYN (c : Nat) : Fld := ⟨0x1B, 0x104+0x80*c, 7, 1, .ro, 0, .sys, []⟩
def TOOTH.MISSED (c : Nat) : Fld := ⟨0x1B, 0x104+0x80*c, 8, 1, .w1c, 0, .sys, []⟩
def TOOTH.NOISE (c : Nat) : Fld := ⟨0x1B, 0x104+0x80*c, 9, 1, .w1c, 0, .sys, []⟩
def TOOTH.RESYNC (c : Nat) : Fld := ⟨0x1B, 0x104+0x80*c, 10, 1, .w1c, 0, .sys, []⟩
def TOOTH.STOPPED (c : Nat) : Fld := ⟨0x1B, 0x104+0x80*c, 11, 1, .w1c, 0, .sys, []⟩
def TOOTH.FRAC (c : Nat) : Fld := ⟨0x1B, 0x108+0x80*c, 0, 16, .ro, 0, .sys, []⟩
def TOOTH.COUNT (c : Nat) : Fld := ⟨0x1B, 0x108+0x80*c, 16, 16, .rw, 0, .sys, []⟩
def TOOTH.PRED (c : Nat) : Fld := ⟨0x1B, 0x10C+0x80*c, 0, 32, .rw, 0, .sys, []⟩
def TOOTH.LAST_EDGE (c : Nat) : Fld := ⟨0x1B, 0x110+0x80*c, 0, 32, .ro, 0, .sys, []⟩
def TOOTH.LAST_INTERVAL (c : Nat) : Fld := ⟨0x1B, 0x114+0x80*c, 0, 32, .ro, 0, .sys, []⟩
def TOOTH.RESYNC_ERR (c : Nat) : Fld := ⟨0x1B, 0x118+0x80*c, 0, 32, .ro, 0, .sys, []⟩
def TOOTH.TARGET (c j : Nat) : Fld := ⟨0x1B, 0x140+8*j+0x80*c, 0, 32, .rw, 0, .sys, []⟩
def TOOTH.S_ARM (c j : Nat) : Fld := ⟨0x1B, 0x144+8*j+0x80*c, 0, 1, .w1s, 0, .sys, []⟩
def TOOTH.S_MODE (c j : Nat) : Fld := ⟨0x1B, 0x144+8*j+0x80*c, 1, 1, .rw, 0, .sys, []⟩
def TOOTH.S_ARMED (c j : Nat) : Fld := ⟨0x1B, 0x144+8*j+0x80*c, 8, 1, .ro, 0, .sys, []⟩
def TOOTH.S_FIRED (c j : Nat) : Fld := ⟨0x1B, 0x144+8*j+0x80*c, 9, 1, .w1c, 0, .sys, []⟩
def TOOTH.S_EST (c j : Nat) : Fld := ⟨0x1B, 0x144+8*j+0x80*c, 10, 1, .ro, 0, .sys, []⟩
def TOOTH.S_STEP (c j : Nat) : Fld := ⟨0x1B, 0x144+8*j+0x80*c, 16, 16, .rw, 0, .sys, [(0, 32767)]⟩

/-- The fields of the TOOTH page at offset `off`. -/
def TOOTH.fieldsAt (off : Nat) : List Fld :=
  ([TOOTH.FIRE, TOOTH.MISSED_EVT, TOOTH.NOISE_EVT, TOOTH.RESYNC_EVT, TOOTH.STOPPED_EVT, TOOTH.EVT_EN, TOOTH.TIME].filter (fun f => f.off == off)) ++
  strideAt 0x100 128 0 4 off TOOTH.EN ++
  strideAt 0x100 128 0 4 off TOOTH.EDGE ++
  strideAt 0x100 128 0 4 off TOOTH.DIR ++
  strideAt 0x100 128 0 4 off TOOTH.W ++
  strideAt 0x100 128 0 4 off TOOTH.FILT ++
  strideAt 0x100 128 0 4 off TOOTH.ACC_LO ++
  strideAt 0x100 128 0 4 off TOOTH.MISS ++
  strideAt 0x100 128 0 4 off TOOTH.MAXSYN ++
  strideAt 0x104 128 0 4 off TOOTH.STATE ++
  strideAt 0x104 128 0 4 off TOOTH.SYN_RUN ++
  strideAt 0x104 128 0 4 off TOOTH.LAST_SYN ++
  strideAt 0x104 128 0 4 off TOOTH.MISSED ++
  strideAt 0x104 128 0 4 off TOOTH.NOISE ++
  strideAt 0x104 128 0 4 off TOOTH.RESYNC ++
  strideAt 0x104 128 0 4 off TOOTH.STOPPED ++
  strideAt 0x108 128 0 4 off TOOTH.FRAC ++
  strideAt 0x108 128 0 4 off TOOTH.COUNT ++
  strideAt 0x10c 128 0 4 off TOOTH.PRED ++
  strideAt 0x110 128 0 4 off TOOTH.LAST_EDGE ++
  strideAt 0x114 128 0 4 off TOOTH.LAST_INTERVAL ++
  strideAt 0x118 128 0 4 off TOOTH.RESYNC_ERR ++
  (List.range 4).flatMap (fun c => strideAt (0x140 + 128 * c) 8 0 8 off (TOOTH.TARGET c)) ++
  (List.range 4).flatMap (fun c => strideAt (0x144 + 128 * c) 8 0 8 off (TOOTH.S_ARM c)) ++
  (List.range 4).flatMap (fun c => strideAt (0x144 + 128 * c) 8 0 8 off (TOOTH.S_MODE c)) ++
  (List.range 4).flatMap (fun c => strideAt (0x144 + 128 * c) 8 0 8 off (TOOTH.S_ARMED c)) ++
  (List.range 4).flatMap (fun c => strideAt (0x144 + 128 * c) 8 0 8 off (TOOTH.S_FIRED c)) ++
  (List.range 4).flatMap (fun c => strideAt (0x144 + 128 * c) 8 0 8 off (TOOTH.S_EST c)) ++
  (List.range 4).flatMap (fun c => strideAt (0x144 + 128 * c) 8 0 8 off (TOOTH.S_STEP c))

/-- The fields of the word at offset `off` of page `p`, the common header included (R224, Table 6.15). -/
def pageFieldsAt (p off : Nat) : List Fld :=
  if off == 0 then [HDR.PAGE_ID p] else if off == 4 then [HDR.ATTR p, HDR.LOCK p] else
  match p with
  | 0x0 => SYS.fieldsAt off
  | 0x1 => RSTC.fieldsAt off
  | 0x2 => PWR.fieldsAt off
  | 0x3 => SUPPLY.fieldsAt off
  | 0x4 => CLK.fieldsAt off
  | 0x5 => TEN.fieldsAt off
  | 0x6 => FAULT.fieldsAt 0 off
  | 0x7 => FAULT.fieldsAt 1 off
  | 0x8 => FAULT.fieldsAt 2 off
  | 0x9 => FAULT.fieldsAt 3 off
  | 0xa => IRQ.fieldsAt 0 off
  | 0xb => IRQ.fieldsAt 1 off
  | 0xc => IRQ.fieldsAt 2 off
  | 0xd => IRQ.fieldsAt 3 off
  | 0xe => QMGR.fieldsAt off
  | 0xf => DMA.fieldsAt off
  | 0x10 => EVF.fieldsAt off
  | 0x11 => NTU.fieldsAt off
  | 0x12 => CAN.fieldsAt 0 off
  | 0x13 => CAN.fieldsAt 1 off
  | 0x14 => CANX.fieldsAt off
  | 0x15 => RFPHY.fieldsAt off
  | 0x16 => LINK.fieldsAt off
  | 0x17 => LSEC.fieldsAt off
  | 0x18 => CTRL.fieldsAt off
  | 0x19 => ADC.fieldsAt off
  | 0x1a => PWM.fieldsAt off
  | 0x1b => TOOTH.fieldsAt off
  | 0x1c => FLASHC.fieldsAt off
  | 0x1d => MEMC.fieldsAt off
  | 0x1e => CRC.fieldsAt off
  | 0x1f => AES.fieldsAt off
  | 0x20 => TRNG.fieldsAt off
  | 0x21 => PORT.fieldsAt off
  | 0x22 => SER.fieldsAt off
  | 0x23 => WDT.fieldsAt off
  | _ => []

/-- The fields of the register word at byte address `a` (R222); none outside the 36 pages and where no chapter defines
a register. -/
def fieldsAt (a : Nat) : List Fld :=
  if 0x40000000 ≤ a && a < 0x40024000 && a % 4 == 0 then pageFieldsAt ((a - 0x40000000) / 0x1000) (a % 0x1000) else []

/-- The field whose key is `k`. -/
def fieldOfKey (k : Nat) : Option Fld := (pageFieldsAt (k % 64) (k / 2048)).find? (fun f => f.key == k)

end Sys2Proof.Machine
end

