-- ==== Sys2Proof/Machine/State.lean ====
section
/-!
DEFINITION. The state of the block as plain data: the register fields of all pages in one sparse table, and beside it what the
spec gives the machine without a register of its own: power, clocks and modes, resets, ownership, memories and keys, harts,
queues, the fabric's signals, serial buffers, network time, the CAN controllers, the radio, the control engine and the tooth
tracker. `State.reset` is the machine at the release of its islands after power-on.
-/

namespace Sys2Proof.Machine

/-- Nothing of this block stops the machine: every failure the spec describes is an effect (R234: "No failure produces a bus
error response"). No meaning raises it; it is kept so that the outcome has its type. Safe. -/
inductive Fault where
  /-- never raised -/
  | none
  deriving DecidableEq, Repr

/-- Why a command has no effect given. -/
inductive Refusal where
  /-- raised by the dispatcher for a row that has no meaning yet. Safe. -/
  | notModelled (mnemonic : String)
  deriving DecidableEq, Repr

/-- The power modes (Table 4.3), OFF included (R93). -/
inductive Mode where
  | gale | breeze | lull | calm | off
  deriving DecidableEq, Repr

/-- How far an entry to or an exit from LULL or CALM has come (R153 to R161). -/
inductive Phase where
  /-- no change in progress -/
  | steady
  /-- an entry has begun: the harts have stopped issuing and the posting buffers drain -/
  | draining
  /-- an entry to CALM runs (Table 4.7) -/
  | entering
  /-- a wake has been accepted and the exit runs, up to WAKE_DONE -/
  | leaving
  deriving DecidableEq, Repr

/-- What an island is doing (R21, R25, R138, R145, R148, R161). -/
inductive IslandState where
  /-- no power -/
  | off
  /-- powered or being powered, not yet released -/
  | powering
  /-- released and clocked -/
  | running
  /-- powered, its clock stopped, all state kept -/
  | stopped
  /-- its PLL clock is lost: it behaves as powered down (R138) -/
  | lost
  deriving DecidableEq, Repr

/-- The system-level reset sources (Table 5.1). -/
inductive ResetSource where
  | brownOut (retained : Bool) | pin | watchdog | software | debug | thermal
  deriving DecidableEq, Repr

/-- Selector, harvester, gauge and rails beyond the SUPPLY page (R88 to R133). -/
structure Supply where
  /-- the PGOOD comparator on VSTORE (R110) -/
  comp        : Bool
  /-- V5OUT and V33OUT have come up in this start (Table 5.6) -/
  railsUp     : Bool
  /-- an open-circuit measurement is due (R104) -/
  mpptDue     : Bool
  /-- the harvester input is disconnected for it -/
  inputOpen   : Bool
  /-- the voltage the boost regulates to, in mV: k × Voc of the last measurement -/
  mpptMv      : Nat
  /-- k × Voc was below 0.20 V -/
  mpptLow     : Bool
  /-- the cold-start charger runs (R106) -/
  coldStart   : Bool
  /-- a gauge sample is due (R115, R116) -/
  sampleDue   : Bool
  /-- its conversion runs on while a tenant sequence waits for ADC-B (R37, R658) -/
  gaugeConv   : Bool
  /-- latest sample, reference, seconds and gross charge since it in 10 µC, as they stand unlatched (R116, R117, R119) -/
  vstoreMv    : Nat
  refMv       : Nat
  age         : Nat
  gross       : Nat
  /-- the storage current is within the rest band, and has been for REST_TIME (R116) -/
  inBand      : Bool
  restElapsed : Bool
  /-- GAUGE_UNC was above UNC_LIMIT when last judged; UNC_OVER was raised and no reference has cured it (R118) -/
  uncOver     : Bool
  uncRaised   : Bool
  deriving DecidableEq, Repr

/-- Clocks, core voltage and power modes beyond the PWR and CLK pages (R135 to R174). -/
structure Power where
  /-- the mode the device is in; the mode it returns to is PWR_MODE.MODE -/
  mode       : Mode
  phase      : Phase
  /-- the armed request, LULL or CALM -/
  target     : Mode
  islands    : Vector IslandState 7
  /-- core voltage in mV when it last settled, and where it goes -/
  coreMv     : Nat
  slewTo     : Nat
  /-- OP_CMD was written in BREEZE (R144) -/
  opStored   : Bool
  /-- XO40 has been started; it was lost (R138) -/
  xo40On     : Bool
  xo40Lost   : Bool
  /-- the NTU counts XO32 edges (R163) -/
  coarse     : Bool
  /-- ns since the entry to CALM began (Table 4.7), and since the last XO32 edge of an entry in coarse mode -/
  entryNs    : Nat
  edgeNs     : Nat
  /-- start of the XO32 calibration window in 2^-32 ns of network time; after a step, its first edge is still to come (R162) -/
  lfStart    : Option Nat
  lfBad      : Bool
  /-- the junction has been below 125 °C since THERM_WARN (R165) -/
  warnArmed  : Bool
  /-- a wake came at or after the third step of an entry to CALM (R171) -/
  wakePend   : Bool
  /-- memories that lost power and wait for their initialisation (R148) -/
  needInit   : List MemBlock
  /-- hart M is to start after CALM (R151) -/
  warmDue    : Bool
  /-- CALM has been left and WAKE_DONE is still to come: the watchdogs wait for it (R152) -/
  fromCalm   : Bool
  deriving DecidableEq, Repr

/-- Reset, start-up, fuse and boot state beyond the RSTC page (R176 to R218). -/
structure Reset where
  /-- a source is valid while none was, or OFF is being left: POR is to start (Table 5.1) -/
  porDue       : Bool
  /-- POR is in force and not yet released (R199) -/
  porHeld      : Bool
  /-- a brown-out holds: no source is valid; the always-on supply stayed above its retention level -/
  brownHeld    : Bool
  retained     : Bool
  /-- the internal reset is in force -/
  inReset      : Bool
  /-- stages of Table 5.6 that this start has reached -/
  fuseLoaded   : Bool
  treeUp       : Bool
  keysDrawn    : Bool
  ready        : Bool
  /-- RESET_N: the device drives it low, the stretch has elapsed, the pad has been high for 10 µs since (R182, R183) -/
  driven       : Bool
  stretchOver  : Bool
  highSeen     : Bool
  /-- system-level resets asked for and not yet taken (R184, R197) -/
  asked        : List ResetSource
  /-- causes that hold the reset: thermal shutdown, dmcontrol (Table 5.1) -/
  thermalHold  : Bool
  debugHold    : Bool
  /-- the boot sequencer's check is to run; it copies; where hart M then starts -/
  bootPending  : Bool
  copying      : Bool
  entryPc      : Word
  /-- tenants whose forced quiesce runs (R206) -/
  quiescing    : List Nat
  /-- the POR due or in force is an exit from OFF (R199) -/
  offExit      : Bool
  /-- the fuse array and its shadow -/
  fuses        : Vector Word 64
  shadow       : Vector Word 64
  /-- a PROGRAM that runs: word and bits (R194) -/
  fuseOp       : Option (Nat × Word)
  deriving DecidableEq, Repr

/-- One fault record (Table 6.5), and whether HELD waits for its being read (R243). -/
structure Rec where
  w0 : Nat
  w1 : Nat
  w2 : Nat
  w3 : Nat
  held : Bool
  deriving DecidableEq, Repr

/-- What the spec keeps for one tenant's posted stores, beyond the FAULTn page (R239 to R244). -/
structure Post where
  fifo       : List Rec
  /-- HELD waits for a record that was dropped -/
  lostHeld   : Bool
  /-- a posted store failed since the previous fence read -/
  failed     : Bool
  deriving DecidableEq, Repr

/-- One posted store in a hart's buffer (R238). -/
structure Posted where
  addr   : Nat
  width  : Width
  data   : Word
  tag    : Nat
  island : Island
  /-- stays in the buffer while HELD is 1 -/
  held   : Bool
  /-- the hart's latest fence read came after it and did not wait for it (R244) -/
  fenced : Bool
  deriving DecidableEq, Repr

/-- A watchdog's window (R251, R252). -/
structure Wdt where
  /-- µs from the window's beginning at which the first half of a service was written -/
  half : Option Nat
  deriving DecidableEq, Repr

/-- A hart (R307 to R316, R344 to R348). Its instructions come as commands. -/
structure Hart where
  x        : Vector Word 32
  f        : Vector Word 32
  pc       : Word
  /-- the word last fetched -/
  ir       : Word
  /-- CSRs by number; an unlisted one holds 0 -/
  csr      : Table Word
  user     : Bool
  /-- out of reset -/
  running  : Bool
  halted   : Bool
  wfi      : Bool
  resv     : Option Nat
  posts    : List Posted
  /-- a fence read waits (R244); for a load, its register, byte lane, bytes and sign extension -/
  fencing  : Bool
  fenceTo  : Option (Nat × Nat × Nat × Bool)
  haltReset : Bool
  haltWait : Bool
  /-- dmcontrol.hartreset is 1 for it -/
  inReset  : Bool
  /-- tdata1 and tdata2 of its triggers -/
  trig     : Vector (Word × Word) 4
  deriving DecidableEq, Repr

/-- The memories (Table 7.1) and what the flash controller and scrubber hold beyond their pages. -/
structure Mem where
  /-- ciphertext of the volatile memories, by bus address; unlisted bytes hold 0 -/
  ram        : List Host.Cell
  /-- contents of the flash arrays; unlisted bytes hold 0xFF -/
  flash      : List Host.Cell
  /-- 128-bit flash words that are not erased, by address -/
  programmed : Table Unit
  /-- flash words left partly programmed, by address (R272) -/
  broken     : Table Unit
  /-- words with an uncorrectable error, and words with a single-bit error, by address (R264) -/
  ecc        : Table Unit
  single     : Table Unit
  keys       : Vector (BitVec 128) 5
  /-- the draw that fills a key next -/
  draws      : Nat
  /-- flash commands waiting, slot numbers, oldest first -/
  flashQueue : List Nat
  /-- slot, segment or pulse, suspensions of the segment -/
  flashOp    : Option (Nat × Nat × Nat)
  /-- words staged in each command slot, and those that its issued command took -/
  staged     : Vector (List Word) 4
  latched    : Vector (List Word) 4
  /-- a brown-out has taken hold during that operation: its reset takes effect at the end of the pulse or segment (R185) -/
  flashCut   : Bool
  scrubDue   : Bool
  /-- words of main SRAM that the pass has read (R276) -/
  scrubPos   : Nat
  crcReg     : Nat
  /-- a start-up or continuous test of the TRNG is failing (R297, R298) -/
  trngFail   : Bool
  /-- lines in the harts' instruction caches, by line number (R312) -/
  cache      : Vector (Table (List Word)) 4
  deriving DecidableEq, Repr

/-- The canonical form of the two memories: addresses strictly rising, and no byte listed that an unlisted address reads as. -/
def Memory.wf (m : Mem) : Bool := Table.wf (0 : BitVec 8) m.ram && Table.wf (0xFF : BitVec 8) m.flash

/-- A descriptor slot that is not free (R327, R330). -/
structure Slot where
  owner  : Nat
  /-- 1 ALLOCATED, 2 QUEUED, 3 ACTIVE -/
  state  : Nat
  /-- status of the last completion of a self-linked descriptor -/
  status : Nat
  queue  : Nat
  cancel : Bool
  /-- the queue manager has written word 1 since the descriptor memory was last initialised (R148, R150) -/
  shown  : Bool
  deriving DecidableEq, Repr

/-- What an AES operation has computed and is to write: output, tag, the tag's address. -/
structure AesRun where
  out   : List Nat
  tag   : List Nat
  tagAt : Nat
  deriving DecidableEq, Repr

/-- The descriptor a consumer serves. -/
structure Active where
  slot   : Nat
  queue  : Nat
  owner  : Nat
  /-- units of a DMA operation, or writes of an AES operation, carried out so far (R337, R338) -/
  done   : Nat
  /-- the result of an AES operation that has done its reading -/
  run    : Option AesRun
  /-- the outcome the operation has come to -/
  status : Option Nat
  deriving DecidableEq, Repr

/-- The queue manager beyond its page. -/
structure Queues where
  slots  : Table Slot
  /-- queued slots of each queue, head first -/
  queues : Table (List Nat)
  /-- queues that hold a pending start (R333) -/
  starts : Table Unit
  /-- active descriptor of each consumer -/
  active : Table Active
  /-- slots whose last descriptor completed DISPLACED and has not been served since, with its tenant (R40) -/
  displaced : Table Nat
  deriving DecidableEq, Repr

/-- The debug module (Table 8.13) and the TAP (Tables 2.8 and 2.9). -/
structure Debug where
  hartsel  : Nat
  /-- dmcontrol.dmactive; what resumeack and havereset say of each hart -/
  active   : Bool
  resumed  : Vector Bool 4
  wasReset : Vector Bool 4
  sbAddr   : Word
  sbData   : Word
  sbError  : Nat
  /-- sbaccess, sbautoincrement, sbreadonaddr, sbreadondata -/
  sbSize   : Nat
  sbInc    : Bool
  sbOnAddr : Bool
  sbOnData : Bool
  data0    : Word
  data1    : Word
  cmdErr   : Nat
  progbuf  : Vector Word 8
  ndmreset : Bool
  tapIr    : Nat
  /-- what the DMI register captures: the answer to the access last scanned in -/
  dmi      : Nat
  /-- the boundary-scan register, which the pads follow under a test instruction (R80) -/
  bsr      : BitVec 153
  /-- what the data register last scanned has shifted out, its first bit least significant -/
  tapOut   : Nat
  deriving DecidableEq, Repr

/-- The event fabric and the pads. -/
structure Fabric where
  /-- signals of the 64 channels -/
  signal   : Table Bool
  /-- outputs of EVOUT 0 to 7 -/
  evout    : Table Bool
  pulses   : Table Unit
  vio      : Bool
  /-- fuse state of the pads taken -/
  padFuse  : Vector Nat 48
  /-- pads held in CALM -/
  held     : Bool
  /-- what each pad drives when held: output enable, level, pull -/
  heldPad  : Table Nat
  /-- levels accepted, as the fabric and IRQ see them, by index -/
  accepted : Table Bool
  wakeLevel : Bool
  deriving DecidableEq, Repr

/-- One serial unit's buffers. -/
structure Serial where
  spiTx  : Vector (List Nat) 2
  spiRx  : Vector (List Nat) 2
  uartTx : Vector (List Nat) 2
  uartRx : Vector (List Nat) 2
  /-- character on the line -/
  uartNow : Vector (Option Nat) 2
  spiNow : Vector (Option Nat) 2
  brk    : Vector Bool 2
  i2cOp  : Option (Nat × Nat)
  tgtHeld : Bool
  /-- addressed as a target, until the stop (R386); the bus was stuck in that transfer (R387) -/
  tgtOn  : Bool
  tgtStuck : Bool
  /-- the byte that a target read sends (R386) -/
  tgtByte : Nat
  /-- VIO became absent: a character then under way may still end (R81) -/
  uartCut : Vector Bool 2
  deriving DecidableEq, Repr

/-- A time as the tenants' latches hold it (R400). -/
structure TimeLatch where
  hi     : Nat
  ns     : Nat
  frac   : Nat
  tick32 : Nat
  deriving DecidableEq, Repr

/-- A SYNC frame received and not yet paired (R418): network time of its SOF in ns, sequence number, master. -/
structure SyncSample where
  sof    : Nat
  seq    : Nat
  master : Nat
  deriving DecidableEq, Repr

/-- A FOLLOW-UP that matches the pending SYNC and waits for the pairing: master time in ns, SYNCED flag. -/
structure FollowUp where
  time   : Int
  synced : Bool
  deriving DecidableEq, Repr

/-- Network time beyond the NTU page (R397 to R420). -/
structure Ntu where
  sec     : Nat
  ns      : Nat
  /-- fraction of a nanosecond in 2^-32 -/
  frac    : Nat
  /-- the servo's integrator -/
  integ   : Int
  /-- the adjustment the servo uses -/
  adj     : Int
  latch   : Vector TimeLatch 4
  mtime   : Nat
  /-- ns of mtime's present microsecond, and what CALM has left over in 2^-16 ns (R137) -/
  mtimeNs : Nat
  mtimeRest : Nat
  /-- XO32 periods spent in the present CALM -/
  calmPeriods : Nat
  mlatch  : Vector Nat 4
  lastMaster : Option Nat
  /-- SEC[47:32] of the absolute targets -/
  targetHi : Table Nat
  /-- channels whose target is that of an arming with AHEAD, which a later arming reuses (R405) -/
  ahead   : Table Unit
  /-- network time in ns at the last judgement point of absolute compares, and channels whose A or B was written since (R405) -/
  judged  : Nat
  unjudged : Table Unit
  sync    : Vector (Option SyncSample) 2
  fu      : Vector (Option FollowUp) 2
  /-- NS wrapped in the last counting step, or a step since has crossed a whole second (R420) -/
  wrapped : Bool
  ppsOut  : Bool
  deriving DecidableEq, Repr

/-- A received CAN frame as it is stored: words 0 and 3, the DLC, BRS and ESI bits of word 1, the sixteen data words. -/
structure CanStore where
  word0 : Nat
  low   : Nat
  time  : Nat
  data  : List Nat
  deriving DecidableEq, Repr

/-- The frame a controller is transmitting. -/
structure CanSend where
  obj    : Nat
  word0  : Nat
  low    : Nat
  data   : List Nat
  /-- a cancel was sampled at or after the commit point (R471) -/
  late   : Bool
  /-- its owner was reset: word 1 returns to its reset value at the end of the frame (R215, R443) -/
  orphan : Bool
  deriving DecidableEq, Repr

/-- A CAN controller beyond its page (R433 to R480). -/
structure CanCtl where
  /-- word 1 of the objects, in plaintext (R441) -/
  word1    : Table Nat
  /-- tenant that holds an object's lock -/
  lock     : Table Nat
  reported : Table Unit
  shadow   : Table CanStore
  replaced : Table Unit
  /-- next slot of a FIFO group, by head -/
  next     : Table Nat
  send     : Option CanSend
  /-- STOPPED waits for the end of the frame in progress (R435) -/
  stopping : Bool
  /-- the mode that the controller acts in while STOPPED waits (R435) -/
  acting   : Nat
  cancels  : Table Unit
  /-- the frame whose storage has not ended, with its object (R449, R451, R488) -/
  storing  : Option (Nat × CanStore)
  /-- bus-off when it stopped (R434) -/
  wasOff   : Bool
  deriving DecidableEq, Repr

/-- The CAN-A transceiver beyond the CANX page (R495 to R514). -/
structure Trx where
  /-- the VBAT part has kept its supply since its fields took their values (R497) -/
  vbatPart : Bool
  /-- the wake-up frame decoder is active; its frame error counter; the settings it uses, by offset (R510, R511) -/
  decoding : Bool
  fec      : Nat
  inUse    : Table Nat
  /-- the fail-safe timer has expired and SLEEP has not been entered yet (R507) -/
  expired  : Bool
  /-- the present OFF was entered by the fail-safe timer; the VBAT part has been powered since the entry (R199, R514) -/
  byTimer  : Bool
  keptOff  : Bool
  deriving DecidableEq, Repr

/-- What a frame in the air, or in a radio buffer, holds: mode, LINK field, map and rate of an OFDM header, payload bytes. -/
structure AirFrame where
  robust  : Bool
  link    : Nat
  map     : Nat
  rate    : Nat
  payload : List Nat
  deriving DecidableEq, Repr

/-- What the PHY does now. -/
inductive PhyOp where
  | idle
  /-- a transmission is set for the slot -/
  | txReady
  /-- its ramp-up has begun -/
  | txAir
  /-- a window is set -/
  | rxReady
  /-- the window is open -/
  | rxOpen
  /-- a SYNC or sync word has been accepted -/
  | rxSync
  /-- an OFDM header has been accepted -/
  | rxHeader
  | cal
  deriving DecidableEq, Repr

/-- A received frame that the PHY has passed on, with its RSSI, the network time of its sync instant in ns and its channel. -/
structure RxFrame where
  frame : AirFrame
  rssi  : Nat
  sync  : Nat
  chan  : Nat
  deriving DecidableEq, Repr

/-- The radio PHY beyond its page (R526 to R560). -/
structure Phy where
  op      : PhyOp
  chan    : Nat
  robust  : Bool
  pwr     : Nat
  /-- pattern and sync word of the operation (R561) -/
  pattern : Nat
  rsync   : Nat
  /-- correction held for the operation (R527) -/
  track   : Int
  /-- the frame being sent, or the header and LINK field accepted -/
  frame   : Option AirFrame
  /-- map codes the PPDU uses (R542) -/
  codes   : List Nat
  /-- header of the last OFDM PPDU, and the whitened or scrambled bits of the last transmission as they leave -/
  header  : Nat
  airBits : List Bool
  /-- what the data sub-carriers of each payload symbol of the last OFDM transmission carry: I, Q and the square of 1/N (R574, R575) -/
  airPoints : List (List (Int × Int × Nat))
  sync    : Nat
  /-- map that a sounding window writes (R543) -/
  target  : Option Nat
  /-- network time in ns at which a calibration fell due that has not been completed, and at which the last one ended; CAL_NOW asked for the one
  due (R37, R552) -/
  calSince : Option Nat
  lastCal : Nat
  calAsked : Bool
  deriving DecidableEq, Repr

/-- What the link controller has selected for a slot (Table 15.2). -/
inductive LinkOp where
  | calibration
  | beacon
  /-- the SOUND_RESP owed by this SOUND_RX descriptor -/
  | soundResp (slot : Nat)
  | transmit (slot : Nat)
  /-- a receive window, of this SOUND_RX descriptor or of LINK_RX descriptors -/
  | window (sounding : Option Nat)
  deriving DecidableEq, Repr

/-- A frame in a radio buffer (R596): the buffer, the tenant for whom it is held, and the bytes after the LINK field. -/
structure BufRef where
  buf    : Nat
  tenant : Nat
  len    : Nat
  deriving DecidableEq, Repr

/-- A slot's operation: ASN, slot-table entry, what was selected, and what the PHY is to do. -/
structure Prep where
  asn    : Nat
  entry  : Nat
  op     : LinkOp
  chan   : Nat
  robust : Bool
  pwr    : Nat
  frame  : Option AirFrame
  target : Option Nat
  /-- the buffer of a beacon or a SOUND_REQ (R596) -/
  buf    : Option BufRef
  deriving DecidableEq, Repr

/-- The settings of the schedule in force (R634): EPOCH in ns, the codes of SLOT_LEN and TX_OFFSET, HOP_LEN and the HOP entries. -/
structure Sched where
  epoch   : Nat
  slotLen : Nat
  txOff   : Nat
  hopLen  : Nat
  hops    : List Nat
  deriving DecidableEq, Repr

/-- A sounding in progress at the responder, by SOUND_RX descriptor: soundings left, running minimum, and whether the SOUND_RESP
is owed, with the attempts made, SEQ and payload of its frame. -/
structure Sounding where
  left   : Nat
  codes  : List Nat
  owed   : Bool
  tries  : Nat
  seq    : Option Nat
  /-- the SOUND_RESP, once prepared -/
  held   : Option BufRef
  /-- eligible SHARED slots to let pass before its next attempt (R613) -/
  skip   : Nat
  deriving DecidableEq, Repr

/-- What the controller remembers of an active transmit descriptor. -/
structure LinkJob where
  attempts : Nat
  seq      : Option Nat
  /-- the frame, once prepared -/
  held     : Option BufRef
  /-- bits of control block word 2 gathered so far -/
  flags    : Nat
  /-- eligible SHARED slots to let pass -/
  skip     : Nat
  /-- SOUND_REQs sent by a SOUND_TX -/
  sent     : Nat
  /-- word 0 of the control block as last prepared -/
  block    : Nat
  deriving DecidableEq, Repr

/-- The link controller beyond its pages (R588 to R635). -/
structure Link where
  /-- ASN of the slot prepared last, and of the slot begun last -/
  prepared : Option Nat
  begun    : Option Nat
  /-- the operation prepared for the next slot, and the one in progress -/
  next     : Option Prep
  cur      : Option Prep
  rx       : Option RxFrame
  /-- receive descriptor that takes the frame being received -/
  taker    : Option Nat
  /-- the acknowledgement owed, as a frame, with its power -/
  ackOwed  : Option (AirFrame × Nat)
  /-- a transmission waits for its acknowledgement -/
  ackWait  : Bool
  jobs     : Table LinkJob
  soundings : Table Sounding
  keys     : Table (BitVec 128)
  stage    : Vector Word 4
  /-- a BEACON slot is served and its beacon has not come -/
  beaconDue : Bool
  /-- ASN for which the slot timer acted last -/
  timerDone : Option Nat
  sched    : Option Sched
  /-- the buffer of the frame being received, and that of an acknowledgement of its own (R596) -/
  rxHeld   : Option BufRef
  own      : Option BufRef
  /-- the time has stepped in the slot in progress, which keeps its operation to the end (R590) -/
  kept     : Bool
  deriving DecidableEq, Repr

/-- A control-loop sample in progress (R646 to R649). -/
structure Sample where
  /-- outputs and states of the positions that have run -/
  outs  : List Int
  s0    : List Int
  s1    : List Int
  /-- the stage that runs: output, states, and whether a reduction changed a value; its operands were read at its start -/
  run   : Option (Int × Int × Int × Bool)
  deriving DecidableEq, Repr

/-- The control engine, ADCs and PWM counters beyond their pages. -/
structure Control where
  samples : Table Sample
  /-- loop whose stage runs -/
  stage   : Option Nat
  /-- entry that converts next -/
  adcA    : Option Nat
  adcB    : Option Nat
  /-- PER, CMP, DT in force, by pair -/
  per     : Table Nat
  cmp     : Table Nat
  dt      : Table Nat
  /-- pairs counting down in centre alignment -/
  down    : Table Unit
  /-- counts for which the high-side signal of a pair has had its level (R660) -/
  side    : Table Nat
  /-- committed outputs that are written in the next cycle, by pair: the loop and the compare value (R649) -/
  out     : Table (Nat × Int)
  deriving DecidableEq, Repr

/-- A tooth channel beyond its registers (R682 to R692). -/
structure Tooth where
  /-- time of the last tooth -/
  last     : Nat
  /-- time of the last real edge -/
  real     : Nat
  /-- an accepted tooth in this stay of ACQUIRE -/
  seen     : Bool
  /-- COUNT at the last real tooth -/
  realCount : Nat
  /-- schedules for which a synthetic tooth was inserted since arming or firing -/
  est      : Table Unit
  /-- exact schedules whose moved target is reached and awaits the next cycle (R691) -/
  due      : Table Unit
  deriving DecidableEq, Repr

/-- Everything the spec gives the block, and the queue of commands that wait, first in, first out. -/
structure State where
  pending  : List Instr
  /-- register fields by `Fld.key`; an unlisted field holds its reset value -/
  fields   : Table Nat
  /-- the model's own counter of free values (assumption log 3) -/
  fresh    : Nat
  /-- value the last read returned, with its master -/
  answer   : Word
  supply   : Supply
  power    : Power
  rst      : Reset
  /-- ownership as last accepted, by 256 × table + entry; an unlisted entry holds its owner after reset -/
  owners   : Table Nat
  /-- owner still in force where a change waits for its idle point -/
  waiting  : Table Nat
  /-- sources in service, by 128 × tenant + source -/
  service  : Table Unit
  post     : Vector Post 4
  wdt      : Vector Wdt 4
  harts    : Vector Hart 4
  mem      : Mem
  q        : Queues
  dbg      : Debug
  fab      : Fabric
  ser      : Serial
  ntu      : Ntu
  can      : Vector CanCtl 2
  trx      : Trx
  phy      : Phy
  link     : Link
  ctl      : Control
  tooth    : Vector Tooth 4
  toothTime : Nat
  deriving DecidableEq, Repr

/-! ### Blank values: each block as a power-on reset leaves it -/

/-- A hart in reset. -/
def noHart : Hart :=
  ⟨Vector.replicate 32 0, Vector.replicate 32 0, 0, 0, [], false, false, false, false, none, [], false, none, false, false, false,
    Vector.replicate 4 (0, 0)⟩

/-- No descriptor anywhere. -/
def noQueues : Queues := ⟨[], [], [], [], []⟩

/-- A fault FIFO that is empty. -/
def noPost : Post := ⟨[], false, false⟩

/-- Serial buffers that are empty. -/
def noSerial : Serial :=
  ⟨Vector.replicate 2 [], Vector.replicate 2 [], Vector.replicate 2 [], Vector.replicate 2 [], Vector.replicate 2 none,
    Vector.replicate 2 none, Vector.replicate 2 false, none, false, false, false, 0, Vector.replicate 2 false⟩

/-- A latch that has not been read since reset. -/
def noLatch : TimeLatch := ⟨0, 0, 0, 0⟩

/-- The NTU at time zero. -/
def noNtu : Ntu :=
  ⟨0, 0, 0, 0, 0, Vector.replicate 4 noLatch, 0, 0, 0, 0, Vector.replicate 4 0, none, [], [], 0, [],
    Vector.replicate 2 none, Vector.replicate 2 none, false, false⟩

/-- A controller with every object free. -/
def noCan : CanCtl := ⟨[], [], [], [], [], [], none, false, 0, [], none, false⟩

/-- The PHY before its first calibration. -/
def noPhy : Phy := ⟨.idle, 0, false, 0, 0, 0, 0, none, [], 0, [], [], 0, none, none, 0, false⟩

/-- A link controller that serves nothing and holds no key. -/
def noStage : Vector Word 4 := Vector.replicate 4 0
def noLink : Link := ⟨none, none, none, none, none, none, none, false, [], [], [], noStage, false, none, none, none, none, false⟩

/-- A control engine, ADCs and PWM pairs at rest. -/
def noControl : Control := ⟨[], none, none, none, [], [], [], [], [], []⟩

/-- A tooth channel at rest. -/
def noTooth : Tooth := ⟨0, 0, false, 0, [], []⟩

/-- A debug module after POR. -/
def noDebug : Debug :=
  ⟨0, false, Vector.replicate 4 false, Vector.replicate 4 false, 0, 0, 0, 2, false, false, false, 0, 0, 0, Vector.replicate 8 0, false, 1, 0,
    0, 0⟩

/-- The supply blocks without a source. -/
def noSupply : Supply := ⟨false, false, false, false, 0, false, false, false, false, 0, 0, 0, 0, false, false, false, false⟩

/-- The volatile part of the memories after power-on: `f`, `p`, `b`, `e` and `g` are the flash contents, its programmed and broken
words and its words with uncorrectable and with single-bit errors; `k` and `d` are the keys in force and the draws made. -/
def blankMem (f : List Host.Cell) (p b e g : Table Unit) (k : Vector (BitVec 128) 5) (d : Nat) : Mem :=
  ⟨[], f, p, b, e, g, k, d, [], none, Vector.replicate 4 [], Vector.replicate 4 [], false, false, 0, 0xFFFFFFFF, false,
    Vector.replicate 4 []⟩

/-! ### The state after reset -/

/-- The fuse array of a part that only the factory has programmed (R189, R192, assumption log 7): a TD480-M of silicon B and module
revision B1, FACTORY_CRC over words 0 to 6, the device secret, FACTORY_LOCK and SECRET_LOCK. -/
def factoryFuses : Vector Word 64 :=
  Vector.ofFn (fun w : Fin 64 =>
    if w.val = 0 then 0x01424201
    else if w.val = 7 then 0x2BFC
    else if 48 ≤ w.val && w.val < 56 then Config.secretWord (w.val - 48)
    else if w.val = 63 then 0x11
    else 0)

/-- Fields that hold another value than that of their Reset column at the release from a POR on VBAT. -/
def resetFields : Table Nat :=
  [(SUPPLY.ACTIVE_SRC, 1), (SUPPLY.VBAT_VALID, 1), (SUPPLY.PGOOD, 1), (CLK.XO40_OK, 1), (CLK.PLL_CORE_LOCK, 1),
    (CLK.PLL_PERIPH_LOCK, 1), (RSTC.CAUSE_POR, 1), (QMGR.QUOTA 0, 512), (QMGR.QUOTA 1, 512), (QMGR.QUOTA 2, 512),
    (QMGR.QUOTA 3, 512), (TEN.EN, 0xF), (CANX.VBAT_OK, 1)].foldl (fun t e => Table.set e.1.reset t e.1.key e.2) []

/-- Table 5.6, steps 6 and 7, after a POR with VBAT as the source: the islands are released, the NTU counts from zero, the boot
sequencer's check is next (assumption logs 7 and 8). -/
def State.reset : State where
  pending := []
  fields := resetFields
  fresh := 0
  answer := 0
  supply := { noSupply with railsUp := true }
  power := ⟨.gale, .steady, .lull, Vector.replicate 7 .running, 700, 700, false, true, false, false, 0, 0, none, false, true, false, [],
    false, false⟩
  rst := ⟨false, false, false, false, false, true, true, true, true, false, true, true, [], false, false, true, false, 0, [], false,
    factoryFuses, factoryFuses, none⟩
  owners := []
  waiting := []
  service := []
  post := Vector.replicate 4 noPost
  wdt := Vector.replicate 4 ⟨none⟩
  harts := Vector.replicate 4 noHart
  mem := blankMem [] [] [] [] [] #v[Config.keyDraw 0, Config.keyDraw 1, Config.keyDraw 2, Config.keyDraw 3, Config.keyDraw 4] 5
  q := noQueues
  dbg := noDebug
  fab := ⟨[], [], [], true, Vector.replicate 48 0, false, [], [(40, true)], false⟩
  ser := noSerial
  ntu := noNtu
  can := Vector.replicate 2 noCan
  trx := ⟨true, false, 0, [], false, false, false⟩
  phy := { noPhy with calSince := some 0 }
  link := noLink
  ctl := noControl
  tooth := Vector.replicate 4 noTooth
  toothTime := 0

end Sys2Proof.Machine
end

