-- ==== Sys2Proof/Machine/Ops.lean ====
section
/-!
DEFINITION. The named operations over State that every block shares: register fields, events, time, masters and tenants,
fault records, ownership, islands, free values, and the memories with their owner cipher.
-/

namespace Sys2Proof.Machine

/-! ### Vectors by number -/

/-- Element `i`, or `d` beyond the end. -/
def vget {α : Type} {n : Nat} (v : Vector α n) (i : Nat) (d : α) : α := v[i]?.getD d

/-- The vector with element `i` changed by `f`; unchanged beyond the end. -/
def vmod {α : Type} {n : Nat} (v : Vector α n) (i : Nat) (f : α → α) : Vector α n :=
  if h : i < n then v.set i (f v[i]) else v

/-- The vector with `x` as element `i`. -/
def vput {α : Type} {n : Nat} (v : Vector α n) (i : Nat) (x : α) : Vector α n := vmod v i (fun _ => x)

/-! ### Register fields -/

/-- The value a field holds: never more than its width admits. -/
def State.get (s : State) (f : Fld) : Nat := (Table.find s.fields f.key).getD f.reset % 2 ^ f.width

/-- Is a one-bit field 1? -/
def State.on (s : State) (f : Fld) : Bool := s.get f != 0

/-- The state with field `f` holding `v`, cut to the field's width; a field at its reset value is not listed. -/
def State.put (s : State) (f : Fld) (v : Nat) : State :=
  { s with fields := Table.set f.reset s.fields f.key (v % 2 ^ f.width) }

/-- The state with a truth value in a one-bit field. -/
def State.putB (s : State) (f : Fld) (b : Bool) : State := s.put f (ofBool b)

/-- The state with bit `i` of a field set: how an event bit of a page is raised. -/
def State.raise (s : State) (f : Fld) (i : Nat := 0) : State := s.put f (s.get f ||| 2 ^ i)

/-- The state with bit `i` of a field clear. -/
def State.clear (s : State) (f : Fld) (i : Nat := 0) : State :=
  if bit (s.get f) i then s.put f (s.get f - 2 ^ i) else s

/-- A state update under a condition. -/
def State.when (s : State) (c : Bool) (f : State → State) : State := if c then f s else s

/-- The value the command's reader gets (assumption log 4). -/
def State.reply (s : State) (v : Nat) : State := { s with answer := BitVec.ofNat 32 v }

/-! ### Free values (assumption logs 2 and 3) -/

/-- A value the spec does not state, of `w` bits, and the state with the counter advanced. -/
def State.free (s : State) (w : Nat) : Nat × State := (Config.unstated s.fresh % 2 ^ w, { s with fresh := s.fresh + 1 })

/-- The outcome of a choice the spec does not state. -/
def State.freeBool (s : State) : Bool × State := (Config.unstatedChoice s.fresh, { s with fresh := s.fresh + 1 })

/-! ### Network time -/

/-- Nanoseconds in a second. -/
def nsPerSec : Nat := 1000000000

/-- Whole nanoseconds of network time. -/
def State.now (s : State) : Nat := s.ntu.sec * nsPerSec + s.ntu.ns

/-- R397: TICK32 is the time in nanoseconds modulo 2^32. -/
def State.tick32 (s : State) : Nat := s.now % 2 ^ 32

/-! ### Masters, tenants and owners -/

/-- Table 6.6: the code of a master. -/
def masterCode : Master → Nat
  | .hart n => n
  | .dma n => 0x10 + n
  | .crc => 0x20
  | .aes => 0x21
  | .queueManager => 0x22
  | .can x => 0x30 + x
  | .link => 0x40
  | .ctrl => 0x50
  | .debug n => 0x60 + n
  | .boot => 0x70

/-- Numbers of the ownership tables (Table 6.4). -/
def tblPage : Nat := 0
def tblCan (x : Nat) : Nat := 1 + x
def tblDma : Nat := 3
def tblEvent : Nat := 4
def tblSource : Nat := 5
def tblLoop : Nat := 6
def tblPair : Nat := 7
def tblQueue : Nat := 8
def tblNbr : Nat := 9
def tblNtu : Nat := 10
def tblRegion : Nat := 11
def tblGranule : Nat := 12

/-- Table 6.4: the number of entries of a table. -/
def tableSize (t : Nat) : Nat := nth [36, 128, 128, 16, 64, 128, 16, 6, 64, 64, 16, 16, 240] t

/-- Table 6.2: the owner of a fixed page. -/
def fixedOwner (p : Nat) : Option Nat :=
  if p ≤ 5 then some 0 else if p ≤ 9 then some (p - 6) else if p ≤ 0xD then some (p - 0xA)
  else if p = 0xE || p = 0x11 || p = 0x1D || p = 0x23 then some 0 else none

/-- The owner an entry has after a system-level reset (R230). -/
def firstOwner (t e : Nat) : Nat := if t = 0 then (fixedOwner e).getD 0 else 0

/-- The owner last accepted for an entry, as TEN_OWN_DATA reads it. -/
def State.accepted (s : State) (t e : Nat) : Nat := (Table.find s.owners (256 * t + e)).getD (firstOwner t e)

/-- The owner in force: the old one while a change waits for its idle point (R29, R52). -/
def State.owner (s : State) (t e : Nat) : Nat := (Table.find s.waiting (256 * t + e)).getD (s.accepted t e)

/-- The page-level owner of a page: that of Table 6.2 where it is fixed (R222), else its entry. -/
def State.pageOwner (s : State) (p : Nat) : Nat := (fixedOwner p).getD (s.owner tblPage p)

/-- The owner of an interrupt source. -/
def State.srcOwner (s : State) (i : Nat) : Nat := s.owner tblSource i

/-- The descriptor a consumer serves. -/
def State.activeAt (s : State) (c : Nat) : Option Active := Table.find s.q.active c

/-- R33, Table 1.4: the TID a master carries on an access that a command spells. A CAN or link controller, the queue manager
and the control engine make no such access of their own; they are given T0 (assumption log 6). -/
def State.tidOf (s : State) : Master → Nat
  | .hart n => n
  | .debug n => n
  | .dma n => s.owner tblDma n
  | .crc => ((s.activeAt 0x10).map (·.owner)).getD 0
  | .aes => ((s.activeAt 0x11).map (·.owner)).getD 0
  | _ => 0

/-! ### Islands -/

/-- The number of an island: bit and DETAIL order of Table 6.9, 0 for the always-on island. -/
def islandNo : Island → Nat
  | .ao => 0 | .keeper => 1 | .core => 2 | .control => 3 | .can => 4 | .radio => 5 | .time => 6

/-- What an island is doing. -/
def State.island (s : State) (i : Island) : IslandState := vget s.power.islands (islandNo i) .off

/-- Released and clocked. -/
def State.up (s : State) (i : Island) : Bool := s.island i == .running

/-- Powered and not without its clock for good: released or stopped, or being initialised. -/
def State.powered (s : State) (i : Island) : Bool := s.island i != .off && s.island i != .lost

/-- The state with an island in another state. -/
def State.setIsland (s : State) (i : Island) (v : IslandState) : State :=
  { s with power := { s.power with islands := vput s.power.islands (islandNo i) v } }

/-- The island of a master. -/
def masterIsland : Master → Island
  | .hart n => if n.val = 0 then .keeper else .core
  | .dma _ => .core
  | .crc => .core
  | .aes => .core
  | .queueManager => .core
  | .can _ => .can
  | .link => .radio
  | .ctrl => .control
  | .debug _ => .ao
  | .boot => .keeper

/-- Table 6.2: the island of a page. -/
def pageIsland (p : Nat) : Island :=
  if p = 0 then .keeper
  else if p = 0xE || p = 0xF || p = 0x1C || p = 0x1E || p = 0x1F || p = 0x20 || p = 0x22 then .core
  else if p = 0x12 || p = 0x13 then .can
  else if p = 0x15 || p = 0x16 || p = 0x17 then .radio
  else if p = 0x18 || p = 0x1A || p = 0x1B then .control
  else .ao

/-! ### Fault records (R246 to R250) -/

/-- Cause codes of Table 6.9. -/
def causeDenied : Nat := 0x01
def causeUnmapped : Nat := 0x02
def causeLocked : Nat := 0x03
def causeIslandDown : Nat := 0x04
def causeParity : Nat := 0x05
def causeEcc : Nat := 0x06
def causeDeadline : Nat := 0x10
def causeWatchdog : Nat := 0x11
def causeFailsafe : Nat := 0x12
def causeReplay : Nat := 0x13

/-- Word 0 of a record (Table 6.5). -/
def recWord0 (cause detail subject : Nat) (posted : Bool) : Nat :=
  cause % 256 + detail % 256 * 2 ^ 8 + ofBool posted * 2 ^ 16 + subject % 4 * 2 ^ 24

/-- Word 2 of a record (Table 6.5). -/
def recWord2 (master laneExt tag : Nat) : Nat := master % 256 + laneExt % 8 * 2 ^ 8 + tag % 4096 * 2 ^ 16

/-- R246, R248: a record enters the FIFO of tenant `t`, or is dropped and OVERFLOW sets when it holds 16. -/
def State.record (s : State) (t : Nat) (r : Rec) : State :=
  let p := vget s.post t noPost
  if p.fifo.length < 16 then { s with post := vmod s.post t (fun p => { p with fifo := p.fifo ++ [r] }) }
  else ({ s with post := vmod s.post t (fun p => { p with lostHeld := p.lostHeld || r.held }) }).raise (FAULT.OVERFLOW t)

/-- A record with POSTED at 0, stamped with TICK32. -/
def State.fault (s : State) (t cause detail subject word1 master : Nat) : State :=
  s.record t ⟨recWord0 cause detail subject false, word1 % 2 ^ 32, recWord2 master 0 0, s.tick32, false⟩

/-- A DEADLINE_MISS record for tenant `t` (R41, Table 6.9). -/
def State.missRecord (s : State) (t detail word1 master : Nat) : State := s.fault t causeDeadline detail t word1 master

/-! ### The memories and the owner cipher (R277 to R284) -/

/-- The bus address of a stored byte: the three data TCMs are held 64 KiB apart and share one address range (R221). -/
def busAddr (p : Nat) : Nat := if 0x28000000 ≤ p && p < 0x28040000 then 0x28000000 + p % 0x10000 else p

/-- The memory code of a stored byte, as DETAIL of ECC_UNCORRECTABLE (Table 6.9). -/
def memCode (p : Nat) : Nat :=
  if p < 0x800000 then 10 else if p < 0x10000000 then 11 else if p < 0x20000000 then 2 else if p < 0x28000000 then 1
  else if p < 0x30000000 then 3 else if p < 0x31000000 then 4 else if p < 0x31010000 then 5 else if p < 0x32000000 then 6
  else if p < 0x32100000 then 7 else if p < 0x33000000 then 8 else 9

/-- Is the byte in the shared region, which has a key of its own (R280, R282)? -/
def inShared (p : Nat) : Bool := 0x200F0000 ≤ p && p < 0x20100000

/-- The bytes of a key, first byte first. -/
def keyBytes (k : BitVec 128) : List Nat := bytesLE 16 k.toNat

/-- R277, Table 7.3: the keystream of the 16-byte line that holds `p`, under the key of tenant `tid`. -/
def State.keystream (s : State) (tid p : Nat) : List Nat :=
  let k := if inShared p then 4 else tid
  let epoch := if inShared p then 0 else s.get (RSTC.EPOCH tid)
  aesEnc (keyBytes (vget s.mem.keys k 0))
    (bytesLE 4 (busAddr p / 16 * 16) ++ bytesLE 2 epoch ++ [memCode p, k] ++ List.replicate 8 0)

/-- One stored byte of a volatile memory. -/
def State.ramByte (s : State) (p : Nat) : Nat := ((Table.find s.mem.ram p).getD (0 : BitVec 8)).toNat

/-- The state with one stored byte of a volatile memory. -/
def State.setRam (s : State) (p v : Nat) : State :=
  { s with mem := { s.mem with ram := Table.set (0 : BitVec 8) s.mem.ram p (BitVec.ofNat 8 v) } }

/-- One stored byte of the flash arrays. -/
def State.flashByte (s : State) (p : Nat) : Nat := ((Table.find s.mem.flash p).getD (0xFF : BitVec 8)).toNat

/-- The state with one stored byte of the flash arrays. -/
def State.setFlash (s : State) (p v : Nat) : State :=
  { s with mem := { s.mem with flash := Table.set (0xFF : BitVec 8) s.mem.flash p (BitVec.ofNat 8 v) } }

/-- The number of bytes of an access. -/
def widthBytes : Width → Nat
  | .byte => 1 | .half => 2 | .word => 4

/-- The plaintext that tenant `tid` reads at the `n` bytes from `p`, all in one 16-byte line. -/
def State.ramRead (s : State) (tid p n : Nat) : Nat :=
  let ks := s.keystream tid p
  ofBytesLE ((List.range n).map (fun i => s.ramByte (p + i) ^^^ nth ks ((p + i) % 16)))

/-- The state after tenant `tid` writes the `n` bytes of `v` from `p`, all in one 16-byte line. -/
def State.ramWrite (s : State) (tid p n v : Nat) : State :=
  let ks := s.keystream tid p
  (List.range n).foldl (fun st i => st.setRam (p + i) (bits v (8 * i) 8 ^^^ nth ks ((p + i) % 16))) s

/-- A word read from a volatile memory. -/
def State.word (s : State) (tid p : Nat) : Nat := s.ramRead tid (p / 4 * 4) 4

/-- A word written to a volatile memory. A whole word carries fresh check bits (R264). -/
def State.setWord (s : State) (tid p v : Nat) : State :=
  let s' := s.ramWrite tid (p / 4 * 4) 4 v
  { s' with mem := { s'.mem with ecc := Table.erase s'.mem.ecc (p / 4 * 4), single := Table.erase s'.mem.single (p / 4 * 4) } }

/-- Words read from a volatile memory, from `p` on. -/
def State.words (s : State) (tid p n : Nat) : List Nat := (List.range n).map (fun i => s.word tid (p + 4 * i))

/-- Words written to a volatile memory, from `p` on. -/
def State.setWords (s : State) (tid p : Nat) (vs : List Nat) : State :=
  (vs.zipIdx).foldl (fun st e => st.setWord tid (p + 4 * e.2) e.1) s

/-- Does the word at `p` (or the 128-bit flash word) have an uncorrectable error? -/
def State.eccBad (s : State) (p : Nat) : Bool := (Table.find s.mem.ecc p).isSome

/-- The state with the word at `p` known to have an uncorrectable error. -/
def State.setEcc (s : State) (p : Nat) : State := { s with mem := { s.mem with ecc := Table.insert s.mem.ecc p () } }

/-- R264: the state with the word at `p` holding a single-bit error, which stays until the word is written. -/
def State.setSingle (s : State) (p : Nat) : State := { s with mem := { s.mem with single := Table.insert s.mem.single p () } }

/-- Is the 128-bit flash word at `p` erased (R266)? -/
def State.erased (s : State) (p : Nat) : Bool := (Table.find s.mem.programmed (p / 16 * 16)).isNone

/-- R189, R283: the device secret, 256 bits from fuse bit 1,536. -/
def State.deviceSecret (s : State) : List Nat :=
  (List.range 8).flatMap (fun i => bytesLE 4 (vget s.rst.shadow (48 + i) 0).toNat)

/-- R283, Table 7.4: the key of data-flash region `r`. -/
def State.regionKey (s : State) (r : Nat) : List Nat :=
  aesEnc s.deviceSecret ([0x44, r, s.owner tblRegion r, s.get (FLASHC.GEN r)] ++ List.replicate 12 0)

/-- R284: the keystream of a data-flash word. -/
def State.flashStream (s : State) (p : Nat) : List Nat :=
  aesEnc (s.regionKey ((p - 0x800000) / 0x4000)) (bytesLE 4 (p / 16 * 16) ++ List.replicate 12 0)

/-- The 16 plaintext bytes of the flash word that holds `p` (R266, R284). -/
def State.flashWord (s : State) (p : Nat) : List Nat :=
  let base := p / 16 * 16
  if s.erased base then List.replicate 16 0xFF
  else
    let raw := (List.range 16).map (fun i => s.flashByte (base + i))
    if base < 0x800000 then raw else xorBytes raw (s.flashStream base)

/-- The state with a flash word programmed with these plaintext bytes (R284, R306). -/
def State.programFlash (s : State) (p : Nat) (data : List Nat) : State :=
  let base := p / 16 * 16
  let raw := if base < 0x800000 then data else xorBytes data (s.flashStream base)
  let s' := (raw.zipIdx).foldl (fun st e => st.setFlash (base + e.2) e.1) s
  { s' with mem := { s'.mem with programmed := Table.insert s'.mem.programmed base () } }

/-- The state with the flash words of `n` 16-byte units from `p` erased. -/
def State.eraseFlash (s : State) (p n : Nat) : State :=
  { s with mem := { s.mem with
      flash := s.mem.flash.filter (fun e => e.1 < p || p + 16 * n ≤ e.1)
      programmed := s.mem.programmed.filter (fun e => e.1 < p || p + 16 * n ≤ e.1)
      broken := s.mem.broken.filter (fun e => e.1 < p || p + 16 * n ≤ e.1)
      ecc := s.mem.ecc.filter (fun e => e.1 < p || p + 16 * n ≤ e.1)
      single := s.mem.single.filter (fun e => e.1 < p || p + 16 * n ≤ e.1) } }

/-- The key with this number drawn anew from the TRNG (R279, R298). -/
def State.drawKey (s : State) (k : Nat) : State :=
  { s with mem := { s.mem with keys := vput s.mem.keys k (Config.keyDraw s.mem.draws), draws := s.mem.draws + 1 } }

/-- R234, Table 6.9: the record of an uncorrectable error that `master` met at `p` with the TID of `t`. -/
def State.eccRecord (s : State) (t p master : Nat) : State := s.fault t causeEcc (memCode p) t (busAddr p) master

/-! ### Tenants' posted stores -/

/-- What is kept for a tenant's posted stores. -/
def State.postOf (s : State) (t : Nat) : Post := vget s.post t noPost

/-- Hart `n`. -/
def State.hart (s : State) (n : Nat) : Hart := vget s.harts n noHart

/-- The state with hart `n` changed. -/
def State.modHart (s : State) (n : Nat) (f : Hart → Hart) : State := { s with harts := vmod s.harts n f }

/-- A register of a hart; x0 reads 0. -/
def Hart.reg (h : Hart) (r : Nat) : Word := if r = 0 then 0 else vget h.x r 0

/-- The hart with a register written; x0 stays 0. -/
def Hart.setReg (h : Hart) (r : Nat) (v : Word) : Hart := if r = 0 then h else { h with x := vput h.x r v }

/-- R313: a write by a master other than the hart that holds it ends a reservation. -/
def State.loseReservations (s : State) (m : Master) (p : Nat) : State :=
  { s with harts := Vector.ofFn (fun i : Fin 4 =>
      let h := s.harts[i]
      if h.resv == some (p / 4 * 4) && m != .hart i then { h with resv := none } else h) }

/-! ### Halting and resuming (R201, R347, R348) -/

/-- The island of a hart. -/
def hartIsland (n : Nat) : Island := if n = 0 then .keeper else .core


def csrDcsr : Nat := 0x7B0
def csrDpc : Nat := 0x7B1

/-- A stored CSR. -/
def Hart.csrAt (h : Hart) (r : Nat) : Nat := ((Table.find h.csr r).getD (0 : BitVec 32)).toNat

/-- The hart with a stored CSR. -/
def Hart.setCsr (h : Hart) (r v : Nat) : Hart := { h with csr := Table.set (0 : BitVec 32) h.csr r (BitVec.ofNat 32 v) }

/-- The hart enters debug mode for a cause of dcsr; a halt request that waited has been met. -/
def Hart.halt (h : Hart) (cause : Nat) : Hart :=
  let h := (h.setCsr csrDpc h.pc.toNat).setCsr csrDcsr (setBits (setBits (h.csrAt csrDcsr) 6 3 cause) 0 2 (if h.user then 0 else 3))
  { h with halted := true, wfi := false, user := false, haltWait := false }

/-- Hart `n` leaves debug mode. Hart M has machine mode only (Table 8.1). -/
def Hart.resume (h : Hart) (n : Nat) : Hart :=
  { h with halted := false, pc := BitVec.ofNat 32 (h.csrAt csrDpc), user := n != 0 && bits (h.csrAt csrDcsr) 0 2 == 0 }

/-- The hart with a halt request that waited met, now that it can execute. -/
def Hart.metHalt (h : Hart) : Hart := if h.running && h.haltWait && !h.halted then h.halt 3 else h

end Sys2Proof.Machine
end

