-- ==== Sys2Proof/Machine/Flags.lean ====
section
/-!
DEFINITION. Event flags and interrupts: the event and enable registers of the pages, who owns each of their bits (R226), the
128 interrupt sources (Table 8.4), and the tenants' interrupt views (R320 to R323).
-/

namespace Sys2Proof.Machine

/-- The fields of a register word, put together as they are stored. -/
def State.fieldWord (s : State) (a : Nat) : Nat := (fieldsAt a).foldl (fun v f => v + s.get f * 2 ^ f.lsb) 0

/-- PAGE_EVT of a page. -/
def State.evtWord (s : State) (p : Nat) : Nat := s.fieldWord (pageAddr p 8)

/-- PAGE_EVT_EN of a page. -/
def State.enWord (s : State) (p : Nat) : Nat := s.fieldWord (pageAddr p 0xC)

/-- R226 and the block chapters: may tenant `t` see and write bit `i` of PAGE_EVT and PAGE_EVT_EN of page `p`? -/
def State.evtMay (s : State) (p i t : Nat) : Bool :=
  if 6 ≤ p && p ≤ 9 then t == p - 6
  else match p with
  | 0x23 => t == i || t == 0
  | 0x1C => t == i
  | 0xE => if i < 8 then t == s.srcOwner (32 + i) else t == i % 4
  | 0x10 => t == s.srcOwner (48 + i)
  | 0x11 => if i < 3 then t == s.srcOwner (52 + i) else t == 0
  | 0x12 => if i < 8 then t == s.srcOwner (56 + i) else t == s.pageOwner p
  | 0x13 => if i < 4 then t == s.srcOwner (72 + i) else t == s.pageOwner p
  | 0x16 => if 9 ≤ i then t == s.srcOwner (91 + i) else t == s.pageOwner p
  | 0x18 => if i < 4 then t == s.srcOwner (104 + i) else t == s.pageOwner p
  | 0x1A => if i < 6 then t == s.owner tblPair i else t == s.pageOwner p
  | _ => t == s.pageOwner p

/-- The bits of a 32-bit word that satisfy a test. -/
def maskOf (may : Nat → Bool) : Nat := (List.range 32).foldl (fun v i => if may i then v + 2 ^ i else v) 0

/-- The bits of PAGE_EVT of page `p` that tenant `t` owns. -/
def State.evtMask (s : State) (p t : Nat) : Nat := maskOf (fun i => s.evtMay p i t)

/-- Table 8.4: the page of a source and the bits of its PAGE_EVT that raise it. -/
def sourceBits (i : Nat) : Nat × List Nat :=
  if i < 4 then (2, [i]) else if i = 4 then (4, [0]) else if i < 8 then (1, [i - 5]) else if i < 16 then (3, [i - 8])
  else if i < 20 then (6 + (i - 16), [0]) else if i < 24 then (0x23, [i - 20]) else if i < 28 then (0x1C, [i - 24])
  else if i < 31 then (0x1D, [i - 28]) else if i = 31 then (0x20, [0]) else if i < 48 then (0xE, [i - 32])
  else if i < 52 then (0x10, [i - 48]) else if i < 55 then (0x11, [i - 52]) else if i = 55 then (0x11, [3, 4])
  else if i < 72 then (0x12, [i - 56]) else if i < 76 then (0x13, [i - 72]) else if i < 84 then (0x13, [i - 68])
  else if i < 87 then (0x14, [i - 84]) else if i = 87 then (0x14, [3, 4]) else if i < 91 then (0x15, [i - 88])
  else if i < 104 then (0x16, [i - 91]) else if i < 110 then (0x18, [i - 104]) else if i < 114 then (0x19, [i - 110])
  else if i = 114 then (0x1A, [8]) else if i = 115 then (0x1A, [0, 1, 2, 3, 4, 5]) else if i < 124 then (0x1B, [i - 116])
  else if i = 124 then (0x21, [0]) else if i = 125 then (0x22, List.range 8)
  else if i = 126 then (0x22, (List.range 12).map (· + 8)) else (0x22, (List.range 6).map (· + 20))

/-- R321: a source is asserted while an event bit and its enable are both 1. -/
def State.asserted (s : State) (i : Nat) : Bool :=
  let b := sourceBits i
  b.2.any (fun j => bit (s.evtWord b.1) j && bit (s.enWord b.1) j)

/-- In service in the view of tenant `t`. -/
def State.inService (s : State) (t i : Nat) : Bool := (Table.find s.service (128 * t + i)).isSome

/-- R321: pending in the view of tenant `t`. -/
def State.isPending (s : State) (t i : Nat) : Bool := s.srcOwner i == t && s.asserted i && !s.inService t i

/-- The priority of a source in a view; 0 in every view but its owner's (R320). -/
def State.prio (s : State) (t i : Nat) : Nat := if s.srcOwner i = t then s.get (IRQ.PRIO t i) else 0

/-- The more urgent of two sources: higher priority, then lower number (R322). -/
def moreUrgent (s : State) (t : Nat) (best : Option Nat) (i : Nat) : Option Nat :=
  if s.isPending t i && s.get (IRQ.THRESHOLD t) < s.prio t i then
    match best with
    | none => some i
    | some b => if s.prio t b < s.prio t i then some i else best
  else best

/-- R322: the source a claim of tenant `t` would take. -/
def State.claimable (s : State) (t : Nat) : Option Nat := (List.range 128).foldl (moreUrgent s t) none

/-- R321: mip.MEIP of the hart of tenant `t`. -/
def State.meip (s : State) (t : Nat) : Bool := (s.claimable t).isSome

/-- R318: mip.MTIP of the hart of tenant `t`. -/
def State.mtip (s : State) (t : Nat) : Bool :=
  decide (s.get (IRQ.MTIMECMP_HI t) * 2 ^ 32 + s.get (IRQ.MTIMECMP_LO t) ≤ s.ntu.mtime)

/-- R319: mip.MSIP of the hart of tenant `t`. -/
def State.msip (s : State) (t : Nat) : Bool := s.on (IRQ.MSIP t)

/-- mip as the hart of tenant `t` reads it: MSI at bit 3, MTI at bit 7, MEI at bit 11. -/
def State.mip (s : State) (t : Nat) : Nat :=
  ofBool (s.msip t) * 2 ^ 3 + ofBool (s.mtip t) * 2 ^ 7 + ofBool (s.meip t) * 2 ^ 11

/-- R324: during an exit from LULL or CALM no pending source is served: it is from WAKE_DONE on. After an XO40 loss, which ends no exit, the
handler of R139 is served all the same. -/
def State.serviceHeld (s : State) : Bool := s.power.phase == .leaving && !s.power.xo40Lost

/-- R322, R324: tenant `t` claims; the source goes into service and its number and VALID are the answer. During an exit from LULL or CALM
nothing is claimed. -/
def State.claim (s : State) (t : Nat) : State × Nat :=
  if s.serviceHeld then (s, 0) else
  match s.claimable t with
  | some i => ({ s with service := Table.insert s.service (128 * t + i) () }, i + 2 ^ 31)
  | none => (s, 0)

/-- R323: tenant `t` completes source `i`; any other number is ignored. -/
def State.endService (s : State) (t i : Nat) : State :=
  { s with service := Table.erase s.service (128 * t + i) }

end Sys2Proof.Machine
end

