-- ==== Sys2Proof/Machine/Queue.lean ====
section
/-!
DEFINITION. The queue manager (R327 to R339): descriptor slots and their words, allocation, push, take, completion with its
ring entry and re-link, deadlines and cancels. Every consumer completes its descriptors through `State.complete`.
-/

namespace Sys2Proof.Machine

/-- Completion statuses (Table 8.9). -/
def stDone : Nat := 0x1
def stDeadline : Nat := 0x2
def stDisplaced : Nat := 0x3
def stAborted : Nat := 0x4
def stDenied : Nat := 0x5
def stEcc : Nat := 0x6
def stLowEnergy : Nat := 0x7
def stCancelled : Nat := 0x8
def stQuota : Nat := 0x9
def stSlotLate : Nat := 0xA
def stAuth : Nat := 0xB
def stBad : Nat := 0xC

/-- R327: the address of a descriptor slot. -/
def slotAddr (slot : Nat) : Nat := 0x30000000 + 32 * slot

/-- A slot that is not free. -/
def State.slotAt (s : State) (slot : Nat) : Option Slot := Table.find s.q.slots slot

/-- The state with a slot changed or freed. -/
def State.setSlot (s : State) (slot : Nat) (d : Option Slot) : State :=
  { s with q := { s.q with slots := match d with
    | some d => Table.insert s.q.slots slot d
    | none => Table.erase s.q.slots slot } }

/-- Word `w` of a descriptor, in its owner's plaintext; 0 where it has an uncorrectable error (R234). -/
def State.descWord (s : State) (slot w : Nat) : Nat :=
  match s.slotAt slot with
  | some d => if s.eccBad (slotAddr slot + 4 * w) then 0 else s.word d.owner (slotAddr slot + 4 * w)
  | none => 0

/-- The first of these words of a descriptor that has an uncorrectable error. -/
def State.descBad (s : State) (slot : Nat) (ws : List Nat) : Option Nat :=
  ws.find? (fun w => (s.slotAt slot).isSome && s.eccBad (slotAddr slot + 4 * w))

/-- R234: `master` has read these words of a descriptor for its owner; the first that has an uncorrectable error is recorded. -/
def State.descRead (s : State) (slot : Nat) (ws : List Nat) (master : Nat) : State :=
  match s.descBad slot ws, s.slotAt slot with
  | some w, some d => s.eccRecord d.owner (slotAddr slot + 4 * w) master
  | _, _ => s

/-- Queued slots of queue `n`, head first. -/
def State.queueAt (s : State) (n : Nat) : List Nat := (Table.find s.q.queues n).getD []

/-- The state with the contents of queue `n`. -/
def State.setQueue (s : State) (n : Nat) (l : List Nat) : State :=
  { s with q := { s.q with queues := Table.set [] s.q.queues n l } }

/-- The state with the active descriptor of consumer `c`. -/
def State.setActive (s : State) (c : Nat) (a : Option Active) : State :=
  { s with q := { s.q with active := match a with
    | some a => Table.insert s.q.active c a
    | none => Table.erase s.q.active c } }

/-- R34, R328: the slots that count against the quota of tenant `t`. -/
def State.inFlight (s : State) (t : Nat) : Nat := (s.q.slots.filter (fun e => e.2.owner == t)).length

/-- How the queue manager's write of a word into main SRAM is judged (R233): mapped, and of the tenant. -/
def State.sramFailure (s : State) (t p : Nat) : Option (Nat × Nat) :=
  if p < 0x20000000 || 0x20100000 ≤ p then some (causeUnmapped, 0)
  else if p < 0x200F0000 && s.owner tblGranule ((p - 0x20000000) / 4096) != t then some (causeDenied, 2)
  else none

/-- One word of a ring entry written with the tenant's TID. -/
def State.ringWord (s : State) (t p v : Nat) : State :=
  match s.sramFailure t p with
  | some (c, d) => s.fault t c d t p 0x22
  | none => (s.setWord t p v).loseReservations .queueManager p

/-- R336: a ring entry for tenant `t`; a full ring drops it, with OVF and QERROR. -/
def State.ringEntry (s : State) (t wordA wordB : Nat) : State :=
  let size := s.get (QMGR.RING_SIZE t)
  let head := s.get (QMGR.RING_HEAD t)
  let tail := s.get (QMGR.RING_TAIL t)
  if size = 0 then s
  else if (head + 1) % size = tail % size then (s.raise (QMGR.RING_OVF t)).raise QMGR.QERROR t
  else
    let p := s.get (QMGR.RING_BASE t) * 8 + 8 * head
    ((s.ringWord t p wordA).ringWord t (p + 4) wordB).put (QMGR.RING_HEAD t) ((head + 1) % size)

/-- Word A of a ring entry (Table 8.8). -/
def ringWordA (status slot queue : Nat) (linkFail : Bool) : Nat :=
  status % 16 + ofBool linkFail * 2 ^ 4 + queue % 64 * 2 ^ 8 + slot % 2048 * 2 ^ 16 + 2 ^ 31

/-- May slot NEXT be queued by a re-link of `slot` (R334)? -/
def State.nextReady (s : State) (owner slot next : Nat) : Bool :=
  next == slot || match s.slotAt next with
    | some e => e.owner == owner && e.state == 1
    | none => false

/-- R334, R335: the ring entry, the line and QERROR of a completion; none of them for ABORTED_BY_RESET (R355). -/
def State.report (s : State) (slot status : Nat) (d : Slot) (linkFail : Bool) : State :=
  if status = stAborted then s else
  let s := s.descRead slot [4, 7] 0x22
  let tag := s.descWord slot 7
  let notify := bit (s.descWord slot 4) 16
  let s := s.when (notify || status != stDone) (fun s => s.ringEntry d.owner (ringWordA status slot d.queue linkFail) tag)
  let s := s.when (s.on (QMGR.Q_LINE_EN d.queue)) (fun s => s.raise QMGR.LINE (s.get (QMGR.Q_LINE d.queue)))
  s.when (status != stDone && status != stDeadline) (fun s => s.raise QMGR.QERROR d.owner)

/-- The slot is in no queue and at no consumer. -/
def State.unhook (s : State) (slot : Nat) (d : Slot) : State :=
  let s := s.setQueue d.queue ((s.queueAt d.queue).filter (· != slot))
  { s with q := { s.q with active := s.q.active.filter (fun e => e.2.slot != slot) } }

/-- R40: the slot's operation has completed with this status: one that was displaced is remembered by its slot and tenant until it is served
again (assumption log 22). -/
def State.markDisplaced (s : State) (slot status t : Nat) : State :=
  { s with q := { s.q with displaced := if status = stDisplaced then Table.insert s.q.displaced slot t else Table.erase s.q.displaced slot } }

/-- A completion that frees the slot. -/
def State.completeFree (s : State) (slot status : Nat) : State :=
  match s.slotAt slot with
  | none => s
  | some d => (((s.report slot status d false).unhook slot d).setSlot slot none).markDisplaced slot status d.owner

/-- R337, R40: the record and QDEADLINE of a missed descriptor deadline; the reason is DISPLACED for one that waits again after a
displacement. -/
def State.missDescriptor (s : State) (slot : Nat) : State :=
  match s.slotAt slot with
  | none => s
  | some d =>
    let detail := if d.state = 2 && Table.find s.q.displaced slot == some d.owner then 0x82 else 2
    (s.missRecord d.owner detail (slotAddr slot) 0x22).raise QMGR.QDEADLINE d.owner

/-- R42, R337: has the deadline of a descriptor been passed? -/
def State.deadlinePassed (s : State) (slot : Nat) : Bool :=
  let d := s.descWord slot 5
  d != 0 && tickPassed s.tick32 d

/-- R337: a descriptor whose deadline has passed completes DEADLINE_MISSED. -/
def State.completeMissed (s : State) (slot : Nat) : State := (s.missDescriptor slot).completeFree slot stDeadline

/-- R330, R337: the slot joins the end of a queue; it completes at once when its deadline has already passed. -/
def State.enqueue (s : State) (slot queue status : Nat) : State :=
  match s.slotAt slot with
  | none => s
  | some d =>
    let s := s.setSlot slot (some { d with state := 2, status := status, queue := queue, cancel := false, shown := true })
    let s := (s.setQueue queue (s.queueAt queue ++ [slot])).descRead slot [5] 0x22
    s.when (s.deadlinePassed slot) (fun s => s.completeMissed slot)

/-- R334: a descriptor completes with a status: ring entry, line, then it is freed or re-linked. -/
def State.complete (s : State) (slot status : Nat) : State :=
  match s.slotAt slot with
  | none => s
  | some d =>
    let s := s.descRead slot [6] 0x22
    let w6 := s.descWord slot 6
    let next := bits w6 0 11
    if bit w6 31 && status == stDone && !d.cancel then
      let ready := s.nextReady d.owner slot next
      let s := (s.report slot status d (!ready)).unhook slot d
      let s := s.setSlot slot (some { d with state := 1, status := 0, cancel := false, shown := true })
      s.when ready (fun s => s.enqueue next d.queue (if next == slot then status else 0))
    else s.completeFree slot status

/-- R328: the slots that no tenant has allocated. -/
def State.freeSlots (s : State) : List Nat := (List.range 2048).filter (fun k => (s.slotAt k).isNone)

/-- R328: allocate a slot to tenant `t`; which one is a free value (assumption log 2). The second value is what the read of
QMGR_ALLOC returns. -/
def State.alloc (s : State) (t : Nat) : State × Nat :=
  let free := s.freeSlots
  if s.get (QMGR.QUOTA t) ≤ s.inFlight t || free.isEmpty then (s.raise QMGR.QERROR t, stQuota * 2 ^ 16)
  else
    let slot := nth free (Config.slotChoice s.fresh % free.length)
    (({ s with fresh := s.fresh + 1 } : State).setSlot slot (some ⟨t, 1, 0, 0, false, true⟩), slot + 2 ^ 31)

/-- R330: tenant `t` pushes a slot; false when the push is refused. -/
def State.push (s : State) (t queue slot : Nat) : State × Bool :=
  match s.slotAt slot with
  | some d => if s.owner tblQueue queue == t && d.owner == t && d.state == 1 then (s.enqueue slot queue 0, true) else (s, false)
  | none => (s, false)

/-- R339: tenant `t` frees a slot it holds ALLOCATED. -/
def State.freeSlot (s : State) (t slot : Nat) : State :=
  match s.slotAt slot with
  | some d => if d.owner == t && d.state == 1 then s.setSlot slot none else s
  | none => s

/-- The consumers whose descriptors a cancel stops at a word boundary: DMA channels, CRC and AES engines (R338). -/
def stopsAtWord (c : Nat) : Bool := c ≤ 0x11

/-- The consumer that serves a slot. -/
def State.consumerOf (s : State) (slot : Nat) : Option Nat := (s.q.active.find? (fun e => e.2.slot == slot)).map (·.1)

/-- R331, Table 8.17: is queue `n` one that consumer `c` may serve now: enabled, bound to it, with agreeing owners, at an enabled channel? -/
def State.serves (s : State) (c n : Nat) : Bool :=
  s.on (QMGR.Q_EN n) && s.get (QMGR.Q_CONSUMER n) == c &&
    (if c < 0x10 then s.on (DMA.EN c) && s.owner tblDma c == s.owner tblQueue n
     else if 0x20 ≤ c && c < 0x30 then s.owner (tblCan ((c - 0x20) / 8)) (120 + c % 8) == s.owner tblQueue n
     else true)

/-- R333: may queue `n` release a descriptor? -/
def State.released (s : State) (n : Nat) : Bool := !s.on (QMGR.Q_GATED n) || (Table.find s.q.starts n).isSome

/-- R331: the queue that consumer `c` takes from: the lowest-numbered non-empty one bound to it. -/
def State.nextQueue (s : State) (c : Nat) : Option Nat :=
  (List.range 64).find? (fun n => s.serves c n && s.released n && !(s.queueAt n).isEmpty)

/-- The head descriptor of queue `n` becomes active at consumer `c`; a gated queue uses up its start. -/
def State.takeFrom (s : State) (c n : Nat) : State :=
  match s.queueAt n with
  | [] => s
  | slot :: rest =>
    match s.slotAt slot with
    | none => s
    | some d =>
      let s := (s.setQueue n rest).setSlot slot (some { d with state := 3, shown := true })
      let s := (s.setActive c (some ⟨slot, n, d.owner, 0, none, none⟩)).markDisplaced slot stDone d.owner
      if s.on (QMGR.Q_GATED n) then { s with q := { s.q with starts := Table.erase s.q.starts n } } else s

/-- The opcodes of a consumer (Tables 8.7, 11.8, 15.8). -/
def opcodesOf (c : Nat) : List Nat :=
  if c < 0x10 then [0x01, 0x02] else if c = 0x10 then [0x10] else if c = 0x11 then [0x20, 0x21, 0x22, 0x23, 0x24, 0x25]
  else if 0x20 ≤ c && c < 0x30 then [0x30] else if c = 0x30 then [0x40, 0x42] else if c = 0x31 then [0x41, 0x43] else []

/-- Alignment and width rules of the opcode (R340 to R342, R466, R615). LENGTH 0 is accepted for CTR, CCM and CMAC and for no other opcode of these engines
(assumption log 22, DESIGN CHOICE). -/
def alignedFor (op src dest w4 : Nat) : Bool :=
  let len := bits w4 0 16
  let unit := 2 ^ bits w4 19 2
  match op with
  | 0x01 => bits w4 19 2 != 3 && src % unit == 0 && dest % unit == 0 && len % unit == 0 && len != 0
  | 0x02 => bits w4 19 2 != 3 && dest % unit == 0 && len % unit == 0 && len != 0
  | 0x10 => bits w4 22 3 ≤ 5 && len != 0
  | 0x20 => src % 16 == 0 && len % 16 == 0 && len != 0
  | 0x21 => src % 16 == 0 && len % 16 == 0 && len != 0
  | 0x22 => src % 16 == 0
  | 0x23 => src % 16 == 0
  | 0x24 => src % 16 == 0
  | 0x25 => src % 16 == 0
  | 0x30 => src % 4 == 0
  | 0x40 => src % 4 == 0 && dest % 16 == 0 && bits w4 17 8 == 0
  | 0x41 => dest % 16 == 0 && 16 ≤ len && bits w4 17 8 == 0
  | 0x42 => bits src 0 5 != 0 && !bit w4 31 && bits w4 17 8 == 0
  | 0x43 => bits src 0 5 != 0 && bits src 16 2 ≤ 2 && !bit w4 31 && bits w4 17 8 == 0
  | _ => false

/-- R330: is the descriptor valid for consumer `c`? -/
def State.descValid (s : State) (slot c : Nat) : Bool :=
  let w0 := s.descWord slot 0
  bits w0 8 6 == c && (opcodesOf c).contains (bits w0 0 8) &&
    alignedFor (bits w0 0 8) (s.descWord slot 2) (s.descWord slot 3) (s.descWord slot 4)

/-- The state with the outcome of the operation noted on the consumer's active descriptor. -/
def State.outcome (s : State) (c status : Nat) : State :=
  match s.activeAt c with
  | some a => s.setActive c (some { a with status := some status })
  | none => s

/-- R333: queue-start sink `k` fires: every queue gated on it whose owner owns the sink gets a start, one deep. -/
def State.queueStart (s : State) (k : Nat) : State :=
  (List.range 64).foldl (fun st n =>
    if st.on (QMGR.Q_GATED n) && st.get (QMGR.Q_START n) == k && st.owner tblQueue n == k / 2 then
      { st with q := { st.q with starts := Table.insert st.q.starts n () } } else st) s

/-- R352, R337: what a cancel comes to: DEADLINE_MISSED when the deadline had already passed, else CANCELLED. -/
def State.completeCancelled (s : State) (slot : Nat) : State :=
  if s.deadlinePassed slot then s.completeMissed slot else s.completeFree slot stCancelled

/-- The state with the cancel of a slot noted (R334, R338). -/
def State.noteCancel (s : State) (slot : Nat) : State :=
  match s.slotAt slot with
  | some d => s.setSlot slot (some { d with cancel := true })
  | none => s

end Sys2Proof.Machine
end

