-- ==== Sys2Proof/Machine/Engine.lean ====
section
/-!
DEFINITION. The arithmetic of the control engine: operands, alignment, reductions and the five stage types (R636 to R641,
R644). A stage is computed from what it reads when it starts.
-/

namespace Sys2Proof.Machine

/-- R641: reduction to `w` bits of two's complement, and whether it changed the value. -/
def reduce (w : Nat) (x : Int) : Int × Bool :=
  let r := toSigned w (ofSigned w x)
  (r, r != x)

/-- R641: mul(K, x) = floor(K × x / 2^16). -/
def mulK (k x : Int) : Int := Int.fdiv (k * x) 65536

/-- R640: an operand of mantissa `m` and exponent `e` aligned to exponent `E`; a left shift is reduced to 18 bits. -/
def alignTo (m e E : Int) : Int × Bool :=
  if E ≤ e then reduce 18 (m * 2 ^ (e - E).toNat) else (Int.fdiv m (2 ^ (E - e).toNat), false)

/-- Address of word `w` of stage slot `k` (R636). -/
def stageWord (k w : Nat) : Nat := 0x33000000 + 128 * k + 4 * w

/-- The loop whose range includes slot `k` (R637, R643). -/
def State.loopOfSlot (s : State) (k : Nat) : Option Nat :=
  (List.range 16).find? (fun n => s.get (CTRL.FIRST n) ≤ k && k < s.get (CTRL.FIRST n) + s.get (CTRL.COUNT n))

/-- R637: the tenant a stage slot belongs to. -/
def State.slotOwner (s : State) (k : Nat) : Nat :=
  match s.loopOfSlot k with
  | some n => s.owner tblLoop n
  | none => s.pageOwner 0x18

/-- A stage's configuration word as the engine reads it. -/
def State.stageCfg (s : State) (n k w : Nat) : Nat := s.word (s.owner tblLoop n) (stageWord k w)

/-- EXP of a stage slot, signed. -/
def State.stageExp (s : State) (n k : Nat) : Int := toSigned 6 (bits (s.stageCfg n k 16) 8 6)

/-- Table 16.2: the operand with code `c` as position `p` of loop `n` reads it: mantissa, exponent, and whether R676 denied
it. `outs` are the outputs of this sample so far. -/
def State.operand (s : State) (n p c : Nat) (outs : List Int) : Int × Int × Bool :=
  let first := s.get (CTRL.FIRST n)
  let mant (w : Nat) : Int := toSigned 18 (bits w 0 18)
  if 0x08 ≤ c && c ≤ 0x0F then
    let q := c - 8
    let e := s.stageExp n (first + q)
    match outs[q]? with
    | some y => (if q < p then y else mant (s.stageCfg n (first + q) 28), e, false)
    | none => (mant (s.stageCfg n (first + q) 28), e, false)
  else if 0x10 ≤ c && c ≤ 0x1F then
    let w := s.stageCfg n (first + p) (c - 0x10)
    (mant w, toSigned 6 (bits w 24 6), false)
  else if 0x20 ≤ c && c ≤ 0x27 then
    if s.owner tblLoop n == s.pageOwner 0x19 then (s.get (ADC.A_RES (c - 0x20)), 0, false) else (0, 0, true)
  else if 0x30 ≤ c && c ≤ 0x3F then
    let l := c - 0x30
    let k := s.get (CTRL.FIRST l) + s.get (CTRL.COUNT l) - 1
    let w := s.stageCfg n k 28
    (mant w, s.stageExp n k, false)
  else (0, 0, false)

/-- What a stage comes to: output, new states, whether a reduction changed a value, whether an operand was denied. -/
structure StageOut where
  y      : Int
  s0     : Int
  s1     : Int
  wrap   : Bool
  denied : Bool
  deriving DecidableEq, Repr

/-- SUM: the sign of an operand; the reserved code 0b11 is given by the caller. -/
def sumSign (code : Nat) : Int := if code = 0 then 1 else if code = 1 then -1 else 0

/-- Table 16.3: GAIN. -/
def stageGain (k0 ofs a b : Int) : StageOut :=
  let d := reduce 18 (a - b)
  let m := reduce 18 (mulK k0 d.1)
  let y := reduce 18 (m.1 + ofs)
  ⟨y.1, 0, 0, d.2 || m.2 || y.2, false⟩

/-- Table 16.3: SUM. -/
def stageSum (sa sb sc a b c : Int) : StageOut :=
  let y := reduce 18 (sa * a + sb * b + sc * c)
  ⟨y.1, 0, 0, y.2, false⟩

/-- Table 16.3: LPF. -/
def stageLpf (k0 a s0 : Int) : StageOut :=
  let d := reduce 18 (a - s0)
  let m := reduce 18 (mulK k0 d.1)
  let y := reduce 18 (s0 + m.1)
  ⟨y.1, y.1, 0, d.2 || m.2 || y.2, false⟩

/-- Table 16.3: BIQUAD, transposed direct form II. -/
def stageBiquad (b0 b1 b2 a1 a2 a s0 s1 : Int) : StageOut :=
  let m0 := reduce 18 (mulK b0 a)
  let y := reduce 18 (m0.1 + s0)
  let m1 := reduce 18 (mulK b1 a)
  let m2 := reduce 18 (mulK a1 y.1)
  let d1 := reduce 18 (m1.1 - m2.1)
  let n0 := reduce 18 (d1.1 + s1)
  let m3 := reduce 18 (mulK b2 a)
  let m4 := reduce 18 (mulK a2 y.1)
  let n1 := reduce 18 (m3.1 - m4.1)
  ⟨y.1, n0.1, n1.1, m0.2 || y.2 || m1.2 || m2.2 || d1.2 || n0.2 || m3.2 || m4.2 || n1.2, false⟩

/-- Table 16.3: PID, with the derivative on the measurement when `dmeas`. -/
def stagePid (kp ki kd : Int) (dmeas : Bool) (a b s0 s1 : Int) : StageOut :=
  let e := reduce 18 (a - b)
  let p := reduce 18 (mulK kp e.1)
  let i := reduce 24 (s0 + Int.fdiv (ki * e.1) 1024)
  let dd := reduce 18 (if dmeas then s1 - b else e.1 - s1)
  let d := reduce 18 (mulK kd dd.1)
  let y := reduce 18 (p.1 + Int.fdiv i.1 64 + d.1)
  ⟨y.1, i.1, if dmeas then b else e.1, e.2 || p.2 || i.2 || dd.2 || d.2 || y.2, false⟩

/-- R640, R641: the stage at position `p` of loop `n`, from what the engine reads now. -/
def State.computeStage (s : State) (n p : Nat) (outs : List Int) : StageOut :=
  let k := s.get (CTRL.FIRST n) + p
  let cfg := s.stageCfg n k 16
  let cfg2 := s.stageCfg n k 17
  let E := s.stageExp n k
  let op (c : Nat) : Int × Bool × Bool :=
    let o := s.operand n p c outs
    let m := alignTo o.1 o.2.1 E
    (m.1, m.2, o.2.2)
  let a := op (bits cfg 16 8)
  let b := op (bits cfg 24 8)
  let c := op (bits cfg2 0 8)
  let coef (i : Nat) : Int := toSigned 18 (bits (s.stageCfg n k (18 + i)) 0 18)
  let ofs : Int := toSigned 18 (bits (s.stageCfg n k 23) 0 18)
  let st (i w : Nat) : Int := toSigned w (bits (s.stageCfg n k (24 + i)) 0 w)
  let add (o : StageOut) (xs : List (Int × Bool × Bool)) : StageOut :=
    { o with wrap := o.wrap || xs.any (·.2.1), denied := xs.any (·.2.2) }
  match bits cfg 0 3 with
  | 1 => add (stageGain (coef 0) ofs a.1 b.1) [a, b]
  | 2 =>
    let sign (code : Nat) : Int := if code = 3 then toSigned 18 (Config.unstated s.fresh) else sumSign code
    add (stageSum (sign (bits cfg2 8 2)) (sign (bits cfg2 10 2)) (sign (bits cfg2 12 2)) a.1 b.1 c.1) [a, b, c]
  | 3 => add (stageLpf (coef 0) a.1 (st 0 18)) [a]
  | 4 => add (stageBiquad (coef 0) (coef 1) (coef 2) (coef 3) (coef 4) a.1 (st 0 18) (st 1 18)) [a]
  | 5 => add (stagePid (coef 0) (coef 1) (coef 2) (bit cfg2 16) a.1 b.1 (st 0 24) (st 1 18)) [a, b]
  | _ => ⟨0, 0, 0, false, false⟩

/-- The operand codes a stage type uses. -/
def usedOperands (cfg cfg2 : Nat) : List Nat :=
  match bits cfg 0 3 with
  | 1 => [bits cfg 16 8, bits cfg 24 8]
  | 2 => [bits cfg 16 8, bits cfg 24 8, bits cfg2 0 8]
  | 3 => [bits cfg 16 8]
  | 4 => [bits cfg 16 8]
  | 5 => [bits cfg 16 8, bits cfg 24 8]
  | _ => []

/-- R644: may operand code `c` be used by loop `n` of `count` positions? -/
def State.operandOk (s : State) (n count c : Nat) : Bool :=
  c == 0 || (0x08 ≤ c && c ≤ 0x0F && c - 8 < count) || (0x10 ≤ c && c ≤ 0x1F) ||
    (0x20 ≤ c && c ≤ 0x27 && s.owner tblLoop n == s.pageOwner 0x19) ||
    (0x30 ≤ c && c ≤ 0x3F && s.owner tblLoop n == s.owner tblLoop (c - 0x30))

/-- R644: do the stages and bindings of loop `n` pass the checks? -/
def State.loopOk (s : State) (n : Nat) : Bool :=
  let first := s.get (CTRL.FIRST n)
  let count := s.get (CTRL.COUNT n)
  1 ≤ count && count ≤ 8 &&
    (List.range count).all (fun p =>
      let cfg := s.stageCfg n (first + p) 16
      let cfg2 := s.stageCfg n (first + p) 17
      1 ≤ bits cfg 0 3 && bits cfg 0 3 ≤ 5 && (usedOperands cfg cfg2).all (fun c => s.operandOk n count c)) &&
    (!s.on (CTRL.OUT_EN n) || s.owner tblPair (s.get (CTRL.OUT_PAIR n)) == s.owner tblLoop n)

end Sys2Proof.Machine
end

