-- ==== Sys2Proof/Machine/Sinks.lean ====
section
/-!
DEFINITION. What the trigger sinks of the event fabric do in their blocks (Table 9.2): queue starts, control-loop samples, ADC
sequences, PWM force-safe, NTU captures, CAN transmit requests and the wake from LULL and CALM.
-/

namespace Sys2Proof.Machine

/-! ### Control loops (R646 to R652) -/

/-- The sample of loop `n`, if one is in progress. -/
def State.sampleAt (s : State) (n : Nat) : Option Sample := Table.find s.ctl.samples n

/-- The state with the sample of loop `n`; RUNNING follows it. -/
def State.setSample (s : State) (n : Nat) (x : Option Sample) : State :=
  ({ s with ctl := { s.ctl with samples := match x with
    | some v => Table.insert s.ctl.samples n v
    | none => Table.erase s.ctl.samples n } }).putB (CTRL.RUNNING n) x.isSome

/-- R649 to R652: the loop's line, when it has one and the event is selected. -/
def State.loopLine (s : State) (n : Nat) (sel : Fld) : State :=
  s.when (s.on (CTRL.LINE_EN n) && s.on sel) (fun s => s.raise CTRL.LINE (s.get (CTRL.LINE_SEL n)))

/-- R650: the report of a missed loop deadline: record, MISS, the page's bit and the line. -/
def State.loopMiss (s : State) (n : Nat) : State :=
  (((s.missRecord (s.owner tblLoop n) 1 n 0x50).raise (CTRL.MISS n)).raise CTRL.DEADLINE_MISS).loopLine n (CTRL.ON_MISS n)

/-- R640, R647: the next stage of loop `n` starts; its operands are read now. An ADC-A operand that R676 denies sets
BIND_DENIED. -/
def State.startStage (s : State) (n : Nat) : State :=
  match s.sampleAt n with
  | none => s
  | some x =>
    if s.get (CTRL.COUNT n) ≤ x.outs.length then s else
    let o := s.computeStage n x.outs.length x.outs
    let s := s.setSample n (some { x with run := some (o.y, o.s0, o.s1, o.wrap) })
    let s := { s with ctl := { s.ctl with stage := some n }, fresh := s.fresh + 1 }
    s.when o.denied (fun s => s.raise (CTRL.BIND_DENIED n))

/-- R647: at a stage boundary the engine starts the next stage of the lowest-numbered loop with a sample. -/
def State.engineNext (s : State) : State :=
  if s.ctl.stage.isSome || !s.up .control then s
  else match s.ctl.samples with
    | (n, _) :: _ => s.startStage n
    | [] => s

/-- A sample of loop `n` begins (R646); the engine takes it at once when it is at a stage boundary. -/
def State.beginSample (s : State) (n : Nat) : State :=
  let s := s.setSample n (some ⟨[], [], [], none⟩)
  s.engineNext

/-- R646, R648: the trigger of loop `n` fires: a sample starts, or is held one deep, or is lost and reported. -/
def State.loopTrigger (s : State) (n : Nat) : State :=
  if !s.on (CTRL.EN n) then s
  else if (s.sampleAt n).isNone then s.beginSample n
  else if !s.on (CTRL.HELD n) then s.raise (CTRL.HELD n)
  else (s.raise (CTRL.TRIG_LOST n)).loopMiss n

/-- The sample of loop `n` is over; a held trigger starts its sample (R648). -/
def State.endSample (s : State) (n : Nat) : State :=
  let s := s.setSample n none
  let s := s.when (s.ctl.stage == some n) (fun s => { s with ctl := { s.ctl with stage := none } })
  if s.on (CTRL.HELD n) then (s.clear (CTRL.HELD n)).setSample n (some ⟨[], [], [], none⟩) else s

/-- A sample of loop `n` is abandoned, and the engine goes on with the next stage. -/
def State.abandonSample (s : State) (n : Nat) : State :=
  (s.endSample n).engineNext

/-! ### PWM safe states (R665 to R668) -/

/-- R667: pair `k` is latched and its pads go to their safe states. -/
def State.forceSafe (s : State) (k : Nat) : State := (s.raise (PWM.LATCHED k)).raise (PWM.SAFE k)

/-- R659, R662: is the counter of pair `k` running? -/
def State.pairRuns (s : State) (k : Nat) : Bool := s.on (PWM.RUN k) && s.up .control

/-! ### ADC starts (R654, R655, R657, R658) -/

/-- A start reaches ADC-A. -/
def State.adcaStart (s : State) : State :=
  if !s.powered .control then s
  else if s.on ADC.A_BUSY then s.raise ADC.ADCA_OVERRUN
  else ({ s with ctl := { s.ctl with adcA := some 0 } }).raise ADC.A_BUSY

/-- A start reaches ADC-B; during a takeover its sequence ends DISPLACED at once. An open-circuit measurement in its settle time
gives way and stays due (R105), a gauge sample that converts goes first (R37). -/
def State.adcbStart (s : State) : State :=
  if s.on ADC.B_BUSY then s.raise ADC.TRIG_LOST
  else if s.on ADC.BG_ACTIVE then (s.put ADC.LAST 3).raise ADC.ADCB_DISPLACED
  else ({ s with
    ctl := { s.ctl with adcB := some 0 }
    supply := { s.supply with inputOpen := false, gaugeConv := s.supply.sampleDue && !s.supply.inputOpen } }).raise ADC.B_BUSY

/-! ### NTU captures (R407) -/

/-- A capture of channel `c` takes the present time. -/
def State.capture (s : State) (c : Nat) : State :=
  if s.get (NTU.CH_MODE c) ≠ 3 then s
  else
    let s := s.when (s.on (NTU.CH_CAPTURED c)) (fun s => s.raise (NTU.CH_OVR c))
    let s := ((s.put (NTU.CH_A c) s.tick32).put (NTU.CH_B c) s.ntu.sec).put (NTU.CH_C c) s.ntu.ns
    let s := s.raise (NTU.CH_CAPTURED c)
    s.when (s.on (NTU.CH_LINE_EN c)) (fun s => s.raise NTU.CAPTURE)

/-! ### CAN transmit requests (R440, R458) -/

/-- Controller `x` beyond its page. -/
def State.canCtl (s : State) (x : Nat) : CanCtl := vget s.can x noCan

/-- The state with controller `x` changed. -/
def State.modCan (s : State) (x : Nat) (f : CanCtl → CanCtl) : State := { s with can := vmod s.can x f }

/-- R440: the address of word `w` of object `o`. -/
def canWord (x o w : Nat) : Nat := 0x31000000 + 0x10000 * x + 80 * o + 4 * w

/-- The owner of an object. -/
def State.objOwner (s : State) (x o : Nat) : Nat := s.owner (tblCan x) o

/-- Word 1 of an object (R441). -/
def State.word1 (s : State) (x o : Nat) : Nat := (Table.find (s.canCtl x).word1 o).getD 0

/-- The state with word 1 of an object. -/
def State.setWord1 (s : State) (x o v : Nat) : State :=
  s.modCan x (fun c => { c with word1 := Table.set 0 c.word1 o (v % 2 ^ 32) })

/-- TYPE of an object: 0 OFF, 1 RX, 2 FIFO, 3 TX, 4 QTX. -/
def State.objType (s : State) (x o : Nat) : Nat := bits (s.word1 x o) 8 3

/-- STATE of a transmit object (Table 11.7). -/
def State.objState (s : State) (x o : Nat) : Nat := bits (s.word1 x o) 24 4

/-- The state with STATE of an object. -/
def State.setObjState (s : State) (x o n : Nat) : State := s.setWord1 x o (setBits (s.word1 x o) 24 4 n)

/-- PENDING or ACTIVE. -/
def State.objBusy (s : State) (x o : Nat) : Bool := s.objState x o == 1 || s.objState x o == 2

/-- R458: transmission of an object is requested. -/
def State.canRequest (s : State) (x o : Nat) : State :=
  if s.objType x o == 3 && !s.objBusy x o then s.setObjState x o 1 else s

/-! ### Wakes (R157, R158, R171) -/

/-- R171: has step 3 of Table 4.7 started, 35 µs after the entry? -/
def State.entryFixed (s : State) : Bool := decide (35000 ≤ s.power.entryNs)

/-- R171: the entry to CALM is ended: the clocks restart, hart M goes on after its wfi, WAKE_DONE is raised. A hart that the debug module asked
to halt meanwhile halts before it executes anything (R348). -/
def State.abortEntry (s : State) : State :=
  let s := { s with
    power := { s.power with
      phase := .steady
      islands := s.power.islands.map (fun i => if i == IslandState.stopped then IslandState.running else i)
      mode := if s.get PWR.MODE == 1 then .breeze else .gale }
    fab := { s.fab with held := false } }
  let s := (s.put CLK.PLL_PERIPH_LOCK 1).putB CLK.PLL_CORE_LOCK (s.get PWR.MODE == 0)
  let s := s.modHart 0 (fun h => { h with wfi := false })
  { s with harts := Vector.ofFn (fun n : Fin 4 => s.harts[n].metHalt) }.raise PWR.WAKE_DONE

/-- R160: the exit begins; from CALM the supplies rise, XO40 starts, and mtime is advanced by the time spent there (R137). -/
def State.beginExit (s : State) : State :=
  if s.power.mode == .calm then
    let total := s.ntu.mtimeRest + s.ntu.calmPeriods * s.get CLK.LF_ADDEND
    { s.put CLK.KEEP_ON_RC 1 with
      power := { s.power with
        phase := .leaving
        xo40On := true
        wakePend := false
        coreMv := 700
        slewTo := 700
        islands := #v[.running, .powering, .powering, if s.on PWR.CTRL_ON then .powering else .off,
          if s.on PWR.CAN_ON then .powering else .off, if s.on PWR.RADIO_ON then .powering else .off, .powering] }
      ntu := { s.ntu with
        mtime := (s.ntu.mtime + total / (1000 * 2 ^ 16)) % 2 ^ 64
        mtimeRest := total % (1000 * 2 ^ 16)
        calmPeriods := 0 } }
  else
    { (s.put PWR.SLEWING (ofBool (s.on PWR.SLEWING || s.power.coreMv != 700))) with
      power := { s.power with phase := .leaving, wakePend := false, slewTo := 700 } }

/-- Wake source `k` of Table 4.8 is asserted. Between the start of an entry and WAKE_DONE an enabled source sets its cause bit;
before the third step of the entry to CALM it ends the entry, later the entry finishes first; in LULL and CALM the exit starts. -/
def State.wake (s : State) (k : Nat) : State :=
  let asleep := s.power.mode == .lull || s.power.mode == .calm || s.power.phase != .steady
  if !(asleep && bit (s.get PWR.WAKE_EN) k) then s
  else
    let s := s.raise PWR.WAKE_CAUSE k
    match s.power.phase with
    | .draining => s
    | .entering => if s.entryFixed then { s with power := { s.power with wakePend := true } } else s.abortEntry
    | .steady => s.beginExit
    | .leaving => s

end Sys2Proof.Machine
end

