-- ==== Sys2Proof/Machine/Coding.lean ====
section
/-!
DEFINITION. Coding and bit mapping of the Uasal radio (chapter 14), and the fixed parts of its signals (R531, R535, R536): PN9,
CRCs, the LDPC encoder, the coded stream, the interleaver, constellations, OFDM headers and robust frames.
-/

namespace Sys2Proof.Machine

/-! ### PN9 (R571, R572) -/

/-- One step of the PN9 generator: its output bit and its next register. -/
def pn9Step (r : Nat) : Bool × Nat :=
  let c := bit r 8 != bit r 4
  (c, (2 * r + ofBool c) % 512)

/-- `n` output bits of the generator from a register. -/
def pn9 : Nat → Nat → List Bool
  | 0, _ => []
  | n + 1, r => (pn9Step r).1 :: pn9 n (pn9Step r).2

/-- Table 14.6: the seeds. -/
def seedTraining : Nat := 0x1FF
def seedPayload (ch : Nat) : Nat := 0x081 ||| (ch * 2)
def seedRobust (ch : Nat) : Nat := 0x101 ||| (ch * 2)

/-- Bits XORed with the generator's sequence. -/
def whiten (seed : Nat) (l : List Bool) : List Bool := List.zipWith (fun a b => a != b) l (pn9 l.length seed)

/-! ### CRCs (Table 14.8) -/

/-- The CRC-32 of the PSDU (engine mode 0). -/
def crc32 (data : List Nat) : Nat :=
  let a : CrcAlg := ⟨32, 0x04C11DB7, 0xFFFFFFFF, true, true, 0xFFFFFFFF⟩
  crcFinish a (crcBytes a a.init data)

/-- The CRC-16 of a header over its bits h_0 to h_47. -/
def headerCrc (h : Nat) : Nat := ((List.range 48).map (fun i => bit h i)).foldl (crcShift 16 0x1021) 0xFFFF

/-- The CRC-24 of a robust frame over its length byte and payload bytes. -/
def crc24 (data : List Nat) : Nat := (data.flatMap (bitsBE 8)).foldl (crcShift 24 0x864CFB) 0xB704CE

/-! ### OFDM header (R534, R535) -/

/-- R534: a header: VERSION 0, MAP, RATE, LENGTH, LINK and the CRC, h_(48+i) being bit 15 − i of it. -/
def makeHeader (map rate length link : Nat) : Nat :=
  let h := map % 32 * 2 ^ 2 + rate % 4 * 2 ^ 7 + length % 2048 * 2 ^ 9 + link % 2 ^ 28 * 2 ^ 20
  h + reflect 16 (headerCrc h) * 2 ^ 48

/-- R534, R578: does the CRC of a received header pass? -/
def headerOk (h : Nat) : Bool := reflect 16 (headerCrc h) == bits h 48 16

/-- R535: header symbol and data sub-carriers of header bit `b`. -/
def headerPlace (b : Nat) : Nat × List Nat := (b / 16, [b % 16, b % 16 + 16, b % 16 + 32])

/-- R535: the values on the data sub-carriers of the four header symbols. -/
def headerValues (h : Nat) : List Int := (List.range 192).map (fun i => if bit h (16 * (i / 48) + i % 16) then -1 else 1)

/-- R535: the header that a receiver decides on: the sum of the three soft values of each bit. Which bit a sum of 0 counts as is not stated
(assumption log 15). -/
def headerOfSoft (soft : List Int) : Nat :=
  (List.range 64).foldl (fun h b =>
    let v : Int := ((headerPlace b).2.map (fun d => soft.getD (48 * (headerPlace b).1 + d) 0)).sum
    h + ofBool (decide (v < 0) || (v == 0 && Config.softTie)) * 2 ^ b) 0

/-- Table 13.1: the sub-carrier of data sub-carrier `d`. -/
def carrierOf (d : Nat) : Int :=
  if d < 5 then Int.ofNat d - 26 else if d < 18 then Int.ofNat d - 25 else if d < 24 then Int.ofNat d - 24
  else if d < 30 then Int.ofNat d - 23 else if d < 43 then Int.ofNat d - 22 else Int.ofNat d - 21

/-- R536: the pilot at sub-carrier `k` of symbol `n`, counted from SYNC. -/
def pilot (k : Int) (n : Nat) : Int :=
  let p : Int := if (pn9 (n + 1) seedTraining).getD n false then -1 else 1
  if k = 21 then -p else if k = -21 || k = -7 || k = 7 then p else 0

/-- R531: signs of the STF on the sub-carriers ±4 to ±24, and of the LTF on the used sub-carriers, in ascending order. -/
def stfSigns : List Int := (pn9 12 seedTraining).map (fun c => if c then -1 else 1)
def ltfSigns : List Int := ((pn9 68 seedTraining).drop 16).map (fun c => if c then -1 else 1)

/-! ### The LDPC code (R566 to R569) -/

/-- Table 14.1: information columns and middle row of a rate. -/
def ldpcCols (rate : Nat) : Nat := nth [12, 16, 18, 20] rate
def ldpcMiddle (rate : Nat) : Nat := nth [6, 4, 3, 2] rate

/-- K of a rate. -/
def ldpcK (rate : Nat) : Nat := 32 * ldpcCols rate

/-- Table 14.2: rate 1/2. -/
def ldpcHalf : List (List (Nat × Nat)) :=
  [[(0, 17), (4, 3), (9, 26)], [(1, 5), (6, 21), (10, 12)], [(2, 29), (5, 8), (11, 1)], [(3, 14), (7, 30), (8, 6)],
   [(0, 9), (5, 23), (10, 27)], [(1, 19), (7, 2), (11, 15)], [(2, 11), (4, 25), (8, 18)], [(3, 0), (6, 13), (9, 7)],
   [(0, 22), (6, 4), (11, 28)], [(1, 31), (4, 16), (8, 10)], [(2, 3), (7, 24), (9, 20)], [(3, 26), (5, 12), (10, 5)]]

/-- Table 14.3: rate 2/3. -/
def ldpcTwoThirds : List (List (Nat × Nat)) :=
  [[(0, 3), (3, 17), (6, 8), (9, 25), (12, 30), (15, 11)], [(1, 22), (4, 6), (7, 29), (10, 14), (13, 1), (14, 19)],
   [(2, 9), (5, 27), (8, 4), (11, 16), (12, 21), (15, 2)], [(0, 13), (3, 31), (7, 10), (10, 5), (11, 24), (14, 7)],
   [(1, 26), (4, 15), (6, 20), (9, 12), (13, 28), (15, 0)], [(2, 18), (5, 3), (8, 23), (10, 30), (12, 9), (14, 26)],
   [(0, 6), (4, 11), (5, 16), (8, 1), (11, 29), (13, 14)], [(1, 8), (2, 24), (3, 2), (6, 27), (7, 13), (9, 31)]]

/-- Table 14.4: rate 3/4. -/
def ldpcThreeQuarters : List (List (Nat × Nat)) :=
  [[(0, 12), (2, 25), (4, 7), (6, 30), (8, 1), (10, 18), (12, 9), (14, 22), (16, 4)],
   [(1, 27), (3, 10), (5, 19), (7, 3), (9, 28), (11, 13), (13, 6), (15, 31), (17, 15)],
   [(0, 20), (1, 8), (4, 29), (5, 2), (8, 16), (9, 11), (12, 26), (13, 23), (17, 5)],
   [(2, 14), (3, 21), (6, 0), (7, 17), (10, 24), (11, 7), (14, 3), (15, 12), (16, 28)],
   [(0, 31), (3, 5), (4, 13), (7, 26), (8, 20), (11, 1), (12, 16), (15, 8), (16, 19)],
   [(1, 2), (2, 18), (5, 24), (6, 11), (9, 6), (10, 29), (13, 14), (14, 27), (17, 10)]]

/-- Table 14.5: rate 5/6. -/
def ldpcFiveSixths : List (List (Nat × Nat)) :=
  [[(1, 4), (2, 19), (3, 27), (5, 10), (6, 1), (7, 23), (9, 16), (10, 30), (11, 8), (13, 21), (14, 13), (15, 2), (17, 29),
    (18, 6), (19, 17)],
   [(0, 25), (2, 7), (3, 14), (4, 31), (6, 18), (7, 3), (8, 11), (10, 26), (11, 20), (12, 5), (14, 28), (15, 9), (16, 22),
    (18, 15), (19, 0)],
   [(0, 2), (1, 28), (3, 9), (4, 20), (5, 13), (7, 31), (8, 6), (9, 24), (11, 17), (12, 11), (13, 3), (15, 26), (16, 8),
    (17, 19), (19, 30)],
   [(0, 16), (1, 11), (2, 30), (4, 5), (5, 22), (6, 27), (8, 19), (9, 1), (10, 12), (12, 29), (13, 8), (14, 20), (16, 3),
    (17, 14), (18, 25)]]

/-- R568: the information entries of a rate, row by row, each column and shift. -/
def ldpcRows (rate : Nat) : List (List (Nat × Nat)) :=
  match rate with
  | 0 => ldpcHalf
  | 1 => ldpcTwoThirds
  | 2 => ldpcThreeQuarters
  | _ => ldpcFiveSixths

/-- R566: P^s x, for a block of 32 bits: bit t is bit (t + s) mod 32 of `x`. -/
def shiftBlock (s x : Nat) : Nat := (x / 2 ^ s + x * 2 ^ (32 - s)) % 2 ^ 32

/-- R569 step 1: λ of a row. -/
def ldpcLambda (info : List Nat) (row : List (Nat × Nat)) : Nat := row.foldl (fun a e => a ^^^ shiftBlock e.2 (nth info e.1)) 0

/-- R569 step 4: the parity blocks after p_1, from the λ of rows 1 on; `m` is the row, `p` is p_m. -/
def ldpcChain (mid p0 : Nat) : Nat → Nat → List Nat → List Nat
  | _, _, [] => []
  | _, _, [_] => []
  | m, p, l :: ls =>
    let q := l ^^^ p ^^^ (if m = mid then p0 else 0)
    q :: ldpcChain mid p0 (m + 1) q ls

/-- R569: the parity blocks of information blocks of 32 bits. -/
def ldpcParity (rate : Nat) (info : List Nat) : List Nat :=
  let lam := (ldpcRows rate).map (ldpcLambda info)
  let p0 := lam.foldl (fun a b => a ^^^ b) 0
  let p1 := nth lam 0 ^^^ shiftBlock 1 p0
  p0 :: p1 :: ldpcChain (ldpcMiddle rate) p0 1 p1 (lam.drop 1)

/-! ### The coded stream (R564, R565, R570) -/

/-- The bits of bytes, each least significant first. -/
def bitsOfBytes (l : List Nat) : List Bool := l.flatMap (fun b => (List.range 8).map (fun j => bit b j))

/-- The number with these bits, least significant first. -/
def ofBitsLE : List Bool → Nat
  | [] => 0
  | b :: bs => ofBool b + 2 * ofBitsLE bs

/-- R564: the PSDU of a payload. -/
def psduOf (payload : List Nat) : List Nat := payload ++ bytesLE 4 (crc32 payload)

/-- R570: N_P of a last block of `k` information bits. -/
def parityBits (rate k : Nat) : Nat :=
  min (768 - ldpcK rate) (max 64 ((k * (768 - ldpcK rate) + ldpcK rate - 1) / ldpcK rate))

/-- R565: the number of codewords for `n` information bits. -/
def codewords (rate n : Nat) : Nat := (n + ldpcK rate - 1) / ldpcK rate

/-- R570: N_CB for a payload of `len` bytes; 0 for none. -/
def codedBits (rate len : Nat) : Nat :=
  if len = 0 then 0
  else
    let n := 8 * (len + 4)
    let w := codewords rate n
    let kLast := n - (w - 1) * ldpcK rate
    (w - 1) * 768 + kLast + parityBits rate kLast

/-- R569, R570: one block as it is sent; `k` information bits are present. -/
def codeBlock (rate : Nat) (info : List Bool) : List Bool :=
  let k := info.length
  let blocks := (List.range (ldpcCols rate)).map (fun j => ofBitsLE ((info.drop (32 * j)).take 32))
  let parity := (ldpcParity rate blocks).flatMap (fun p => (List.range 32).map (fun t => bit p t))
  info ++ parity.take (parityBits rate k)

/-- R565, R570: the coded stream of a payload. -/
def codedStream (rate : Nat) (payload : List Nat) : List Bool :=
  let u := bitsOfBytes (psduOf payload)
  (List.range (codewords rate u.length)).flatMap (fun j => codeBlock rate ((u.drop (j * ldpcK rate)).take (ldpcK rate)))

/-! ### Maps, interleaver and constellations (R540, R574, R575) -/

/-- R540: the bits that a code carries. -/
def codeBits (c : Nat) : Nat := nth [0, 1, 2, 4, 6] c

/-- N_BPS of a map. -/
def mapBits (codes : List Nat) : Nat := (codes.map codeBits).sum

/-- Does the map hold a reserved code? -/
def mapReserved (codes : List Nat) : Bool := codes.any (fun c => decide (4 < c))

/-- R537: N_SYM. -/
def symbolsFor (rate len nbps : Nat) : Nat := (codedBits rate len + nbps - 1) / nbps

/-- R574: the positions of one symbol in the order in which its bits are dealt: data sub-carrier and label bit. -/
def dealOrder (codes : List Nat) : List (Nat × Nat) :=
  (List.range 6).flatMap (fun q => ((List.range 48).filter (fun d => decide (q < codeBits (nth codes d)))).map (fun d => (d, q)))

/-- The bits of a payload as they are dealt, pad included: coded, continued with zeros to whole symbols, and scrambled. -/
def payloadBits (rate ch : Nat) (codes : List Nat) (payload : List Nat) : List Bool :=
  if payload.isEmpty then []
  else
    let nbps := mapBits codes
    let n := symbolsFor rate payload.length nbps * nbps
    let coded := codedStream rate payload
    whiten (seedPayload ch) (coded ++ List.replicate (n - coded.length) false)

/-- The label of data sub-carrier `d` of payload symbol `sym`, bit b_0 first. -/
def labelAt (codes : List Nat) (stream : List Bool) (sym d : Nat) : List Bool :=
  let order := dealOrder codes
  ((order.zipIdx).filter (fun e => e.1.1 == d)).map (fun e => stream.getD (sym * mapBits codes + e.2) false)

/-- Table 14.7: I, Q and the square of 1/N of a label under a code. -/
def constellation (code : Nat) (label : List Bool) : Int × Int × Nat :=
  let s (i : Nat) : Int := if label.getD i false then -1 else 1
  match code with
  | 1 => (s 0, 0, 1)
  | 2 => (s 0, s 1, 2)
  | 3 => (s 0 * (2 + s 1), s 2 * (2 + s 3), 10)
  | 4 => (s 0 * (4 + s 1 * (2 + s 2)), s 3 * (4 + s 4 * (2 + s 5)), 42)
  | _ => (0, 0, 1)

/-- R574, R575, R584: what the 48 data sub-carriers of each payload symbol carry, for bits dealt out under a map. -/
def symbolPoints (codes : List Nat) (stream : List Bool) : List (List (Int × Int × Nat)) :=
  (List.range (stream.length / mapBits codes)).map (fun n =>
    (List.range 48).map (fun d => constellation (nth codes d) (labelAt codes stream n d)))

/-! ### Robust frames (R548, R549) -/

/-- The bits of a robust frame after its sync word, in transmission order, before whitening: length and payload least
significant bit first, the CRC-24 most significant bit first. -/
def robustPlain (payload : List Nat) : List Bool :=
  let head := payload.length :: payload
  bitsOfBytes head ++ bitsBE 24 (crc24 head)

/-- The same bits as they leave on channel `ch`. -/
def robustBits (ch : Nat) (payload : List Nat) : List Bool := whiten (seedRobust ch) (robustPlain payload)

/-- The bytes of a list of bits, each least significant bit first. -/
def bytesOfBits (n : Nat) (l : List Bool) : List Nat := (List.range n).map (fun i => ofBitsLE ((l.drop (8 * i)).take 8))

/-- R549, R578: the payload of a robust frame received as these bits, `none` where it is dropped. -/
def robustDecode (ch : Nat) (air : List Bool) : Option (List Nat) :=
  let plain := whiten (seedRobust ch) air
  let len := ofBitsLE (plain.take 8)
  if 127 < len || plain.length != 32 + 8 * len then none
  else
    let head := bytesOfBits (len + 1) plain
    if ofBitsBE (plain.drop (8 * (len + 1))) == crc24 head then some (head.drop 1) else none

/-- R530, R548: the time on air in ns, ramps left out. -/
def airTime (robust : Bool) (rate nbps len : Nat) : Nat :=
  if robust then (96 + 8 * len) * 2000 else 172000 + 20000 * (if len = 0 then 0 else symbolsFor rate len nbps)

end Sys2Proof.Machine
end

