-- ==== Sys2Proof/Machine/Fabric.lean ====
section
/-!
DEFINITION. The event fabric (R358 to R372): owners and checks at both ends of a channel, the delivery of an event to its sinks,
the pending latches, EVOUT outputs, and the sources' pulses and levels. An event acts on its sinks within the command that
causes it. Before it, the lines that P pads carry (R70, R86).
-/

namespace Sys2Proof.Machine

/-! ### Lines on P pads (R70, R86, Table 2.7) -/

/-- A line of a unit that a P pad can carry. -/
inductive PadLine where
  | sck (n : Nat) | mosi (n : Nat) | miso (n : Nat) | cs (n : Nat)
  | uartTx (n : Nat) | uartRx (n : Nat)
  | scl | sda
  | ppsOut
  | cap (c : Nat)
  deriving DecidableEq, Repr

/-- Table 2.7: functions 1 to 3 of P0 to P15. -/
def padTable : List (List (Option PadLine)) :=
  [[some (.sck 0), some (.uartTx 0), some .ppsOut], [some (.mosi 0), some (.uartRx 0), some (.cap 0)],
    [some (.miso 0), some .scl, some (.cap 1)], [some (.cs 0), some .sda, none], [some (.sck 1), some (.uartTx 1), none],
    [some (.mosi 1), some (.uartRx 1), none], [some (.miso 1), none, some (.cap 2)], [some (.cs 1), none, some (.cap 3)],
    [some (.uartTx 0), some .scl, some .ppsOut], [some (.uartRx 0), some .sda, some (.cap 0)], [some (.uartTx 1), some (.sck 1), none],
    [some (.uartRx 1), some (.mosi 1), none], [some .scl, some (.miso 1), some (.cap 1)], [some .sda, some (.cs 1), none],
    [none, none, some (.cap 2)], [none, none, some (.cap 3)]]

/-- The line that the pad of index `i` carries with FUNC `f`; none with GPIO, and none at a pad that is no P pad. -/
def padLine (i f : Nat) : Option PadLine := if f = 0 then none else (padTable.getD i []).getD (f - 1) none

/-- The values of FUNC that select a function of the pad of index `i` (Table 2.7, R374). -/
def padFuncs (i : Nat) : List Nat := if 28 ≤ i then [0, 1] else 0 :: [1, 2, 3].filter (fun f => (padLine i f).isSome)

/-- The line that a pad carries. -/
def State.lineOf (s : State) (i : Nat) : Option PadLine := padLine i (s.get (PORT.FUNC i))

/-- R86: the pad a line takes its input from: the lowest-numbered of those that carry it. -/
def State.padOf (s : State) (l : PadLine) : Option Nat := (List.range 16).find? (fun i => s.lineOf i == some l)

/-- Is the line on a pad? -/
def State.carried (s : State) (l : PadLine) : Bool := (s.padOf l).isSome

/-- The level accepted from a pad. -/
def State.padLevel (s : State) (i : Nat) : Bool := (Table.find s.fab.accepted i).getD false

/-- The level at the input of a line, as its function sees it (R395). -/
def State.lineIn (s : State) (l : PadLine) : Bool := ((s.padOf l).map s.padLevel).getD false

/-! ### Owners and islands -/

/-- Table 9.1: the owner of a source. -/
def State.sourceOwner (s : State) (src : Nat) : Nat :=
  if src ≤ 0x1C then s.pageOwner 0x21 else if src = 0x1D then s.pageOwner 0x14 else if src = 0x1E then s.pageOwner 0x1A
  else if src < 0x30 then s.owner tblNtu (src - 0x20) else if src < 0x38 then s.srcOwner (56 + (src - 0x30))
  else if src < 0x3C then s.srcOwner (72 + (src - 0x38)) else if src = 0x3C then s.pageOwner 0x12
  else if src < 0x48 then s.owner tblPair (src - 0x40) else if src < 0x50 then s.owner tblPair (src - 0x48)
  else if src < 0x60 then s.pageOwner 0x19 else if src < 0x70 then s.owner tblLoop (src - 0x60)
  else if src < 0x78 then s.pageOwner 0x1B else s.pageOwner 0x16

/-- Table 9.1: the codes that name a source. -/
def isSource (src : Nat) : Bool :=
  (1 ≤ src && src ≤ 0x1E) || (0x20 ≤ src && src ≤ 0x3C) || (0x40 ≤ src && src ≤ 0x45) || (0x48 ≤ src && src ≤ 0x4D) ||
    src == 0x50 || src == 0x51 || (0x60 ≤ src && src ≤ 0x73) || (0x78 ≤ src && src ≤ 0x7A)

/-- Table 9.1, R372: does the source act in CALM? -/
def sourceInCalm (src : Nat) : Bool := src ≤ 0x1E || (0x20 ≤ src && src ≤ 0x2F)

/-- Table 9.2: the owner of a sink. -/
def State.sinkOwner (s : State) (k : Nat) : Nat :=
  if k < 8 then k / 2 else if k < 0x18 then s.owner tblLoop (k - 8) else if k < 0x1A then s.pageOwner 0x19
  else if k < 0x20 then s.owner tblPair (k - 0x1A) else if k < 0x30 then s.owner tblNtu (k - 0x20)
  else if k < 0x38 then s.pageOwner 0x21 else if k < 0x3C then s.srcOwner (48 + (k - 0x38)) else if k = 0x3C then 0
  else if k < 0x3F then s.objOwner 0 (s.get (EVF.S_OBJ k)) else s.objOwner 1 (s.get (EVF.S_OBJ k))

/-- The island a sink acts in (R370, R371). -/
def sinkIsland (k : Nat) : Island :=
  if k < 8 then .core else if k < 0x19 then .control else if k = 0x19 then .ao else if k < 0x20 then .control
  else if k < 0x3D then .ao else .can

/-- Table 9.2, R371: does the sink act in CALM? -/
def sinkInCalm (k : Nat) : Bool := (0x20 ≤ k && k < 0x30) || (0x38 ≤ k && k ≤ 0x3C)

/-- R360: the owner check at a channel's end: the channel is OPEN or the end's owner is the channel's. -/
def State.endOk (s : State) (c owner : Nat) : Bool := s.on (EVF.ATTR c) || owner == s.owner tblEvent c

/-- The output of EVOUT `k`. -/
def State.evout (s : State) (k : Nat) : Bool := (Table.find s.fab.evout k).getD false

/-- The state with the output of EVOUT `k`. -/
def State.setEvout (s : State) (k : Nat) (b : Bool) : State :=
  { s with fab := { s.fab with evout := Table.set false s.fab.evout k b } }

/-- R375: what a pad as GPIO puts out: its OUT bit, or an EVOUT. -/
def State.gpioOut (s : State) (i : Nat) : Bool := if s.get (PORT.OUT_SEL i) = 0 then s.on (PORT.OUT i) else s.evout (s.get (PORT.OUT_SEL i) - 1)

/-- The signal of a LEVEL channel. -/
def State.signal (s : State) (c : Nat) : Bool := (Table.find s.fab.signal c).getD false

/-- The state with a channel's signal. -/
def State.setSignal (s : State) (c : Nat) (b : Bool) : State :=
  { s with fab := { s.fab with signal := Table.set false s.fab.signal c b } }

/-- R376: a rising transition at EVOUT `k`. A pulse ends with EVOUT_PULSE_END; in LEVEL the output follows the signal of the channel it listens
to, which is high after the transition unless that was a pulse. -/
def State.evoutRise (s : State) (k : Nat) : State :=
  match s.get (EVF.S_OUTMODE (0x30 + k)) with
  | 0 => { s.setEvout k true with fab := { (s.setEvout k true).fab with pulses := Table.insert s.fab.pulses k () } }
  | 1 => s.setEvout k (!s.evout k)
  | _ => s.setEvout k (s.signal (s.get (EVF.S_CHANNEL (0x30 + k))))

/-- The action of sink `k` on one rising transition (R359, Table 9.2). -/
def State.sinkAct (s : State) (k : Nat) : State :=
  if k < 8 then s.queueStart k
  else if k < 0x18 then s.loopTrigger (k - 8)
  else if k = 0x18 then s.adcaStart
  else if k = 0x19 then s.adcbStart
  else if k < 0x20 then s.forceSafe (k - 0x1A)
  else if k < 0x30 then s.when (s.get (NTU.CH_CAPSEL (k - 0x20)) == 0) (fun s => s.capture (k - 0x20))
  else if k < 0x38 then s.evoutRise (k - 0x30)
  else if k < 0x3C then s.raise EVF.ISINK (k - 0x38)
  else if k = 0x3C then s.wake 0
  else if k < 0x3F then s.canRequest 0 (s.get (EVF.S_OBJ k))
  else s.canRequest 1 (s.get (EVF.S_OBJ k))

/-- R370, R371, R393: an event that has reached sink `k` on channel `c` acts, is latched, or is lost with DROPPED: while an earlier event is still
in the latch, and in an island that has no power or is not released yet. -/
def State.sinkTake (s : State) (c k : Nat) : State :=
  if s.power.mode == .calm && !sinkInCalm k then s.raise (EVF.DROPPED c)
  else match s.island (sinkIsland k) with
    | .running => if s.on (EVF.S_PEND k) then s.raise (EVF.DROPPED c) else s.sinkAct k
    | .stopped => if s.on (EVF.S_PEND k) then s.raise (EVF.DROPPED c) else s.raise (EVF.S_PEND k)
    | _ => s.raise (EVF.DROPPED c)

/-- R360: the event on channel `c` meets sink `k`. -/
def State.deliver (c : Nat) (s : State) (k : Nat) : State :=
  if s.on (EVF.S_EN k) && s.get (EVF.S_CHANNEL k) == c then
    if s.endOk c (s.sinkOwner k) then s.sinkTake c k else s.raise (EVF.BLOCKED c)
  else s

/-- A rising transition has passed the source end of channel `c`: FIRED sets and every listening sink has it (R361). -/
def State.channelRise (s : State) (c : Nat) : State :=
  (List.range 64).foldl (State.deliver c) (s.raise (EVF.FIRED c))

/-- A LEVEL channel's signal falls: EVOUTs in LEVEL that listen to it follow, but not in CALM (R379). -/
def State.channelFall (s : State) (c : Nat) : State :=
  if s.power.mode == .calm then s
  else (List.range 8).foldl (fun st k =>
    if st.on (EVF.S_EN (0x30 + k)) && st.get (EVF.S_CHANNEL (0x30 + k)) == c && st.get (EVF.S_OUTMODE (0x30 + k)) == 2
        && st.endOk c (st.sinkOwner (0x30 + k))
    then st.setEvout k false else st) s

/-- R358: a LEVEL channel takes a new signal. -/
def State.channelLevel (s : State) (c : Nat) (b : Bool) : State :=
  if s.signal c == b then s
  else if b then (s.setSignal c true).channelRise c
  else (s.setSignal c false).channelFall c

/-- R360: an event of source `src` meets the source end of channel `c`: it passes, or BLOCKED sets. -/
def State.sourceEnd (s : State) (src : Nat) (act : State → Nat → State) (c : Nat) : State :=
  if s.on (EVF.EN c) && s.get (EVF.SRC c) == src then
    if s.endOk c (s.sourceOwner src) then act s c else s.raise (EVF.BLOCKED c)
  else s

/-- One event of a source that delivers pulses (R358, R372). -/
def State.fire (s : State) (src : Nat) : State :=
  if s.power.mode == .off || (s.power.mode == .calm && !sourceInCalm src) then s
  else (List.range 64).foldl (fun s c => s.sourceEnd src (fun st c => st.channelRise c) c) s

/-- R358, R360: a transition of pad source `src` at channel `c`. One that EDGE does not select is no event of the channel; the fall of a LEVEL
channel's signal ends what has passed before. -/
def State.padTransition (src : Nat) (level : Bool) (s : State) (c : Nat) : State :=
  let pulse (s : State) : State := s.sourceEnd src (fun st c => st.channelRise c) c
  match s.get (EVF.EDGE c) with
  | 0 =>
    if level then s.sourceEnd src (fun st c => st.channelLevel c true) c
    else s.when (s.on (EVF.EN c) && s.get (EVF.SRC c) == src) (fun s => s.channelLevel c false)
  | 1 => s.when level pulse
  | 2 => s.when (!level) pulse
  | _ => pulse s

/-- R358: a pad source (P pads, WAKE, PWM_FAULT_N) takes a new filtered level. -/
def State.padEvent (s : State) (src : Nat) (level : Bool) : State := (List.range 64).foldl (State.padTransition src level) s

/-- The filtered level of a pad source. -/
def State.sourceLevel (s : State) (src : Nat) : Bool :=
  if 1 ≤ src && src ≤ 0x1C then s.padLevel (src - 1)
  else if src = 0x1D then s.fab.wakeLevel
  else if src = 0x1E then s.padLevel 40
  else false

/-- The signal a LEVEL channel should carry under its present configuration and owners (R358). -/
def State.levelOf (s : State) (c : Nat) : Bool :=
  s.on (EVF.EN c) && s.get (EVF.EDGE c) == 0 && s.sourceLevel (s.get (EVF.SRC c)) &&
    s.endOk c (s.sourceOwner (s.get (EVF.SRC c)))

/-- R358: after a configuration write the channel's signal rises or falls to what it now carries. -/
def State.reshape (s : State) (c : Nat) : State := s.channelLevel c (s.levelOf c)

/-- R362: SWTRIG puts one pulse on channel `c` as an event of the channel's owner. -/
def State.swtrig (s : State) (c : Nat) : State := s.when (s.on (EVF.EN c)) (fun s => s.channelRise c)

/-- R391: a source or a channel has changed owner: a LEVEL channel carries what its source end admits under the owners now in force. -/
def State.reshapeAll (s : State) : State := (List.range 64).foldl State.reshape s

/-- R370, R393: a pending latch acts once its island runs. -/
def State.pendingAct (s : State) (k : Nat) : State :=
  if s.on (EVF.S_PEND k) && s.up (sinkIsland k) then (s.clear (EVF.S_PEND k)).sinkAct k else s

/-- R371: the pending latches of an island that loses power are emptied, and DROPPED sets. -/
def State.dropLatches (s : State) (i : Island) : State :=
  (List.range 64).foldl (fun st k =>
    if st.on (EVF.S_PEND k) && sinkIsland k == i then (st.clear (EVF.S_PEND k)).raise (EVF.DROPPED (st.get (EVF.S_CHANNEL k)))
    else st) s

/-! ### Inputs of the pads (R71, R81, R377, R378) -/

/-- Table 9.1: the fabric source of the pad of index `i`: P pads and PWM_FAULT_N. -/
def sourceOfPad (i : Nat) : Option Nat := if i < 28 then some (i + 1) else if i = 40 then some 0x1E else none

/-- R378: a pad's interrupt flag sets, and PAGE_EVT bit 0 with it. -/
def State.padFlag (s : State) (i : Nat) : State := (s.put (PORT.IRQ_FLAG i) 1).raise PORT.PAD

/-- R378: a level condition sets the flag again while the level holds. -/
def State.judgePads (s : State) : State :=
  (List.range 48).foldl (fun st i =>
    let want := (st.get (PORT.IRQ i) == 4 && st.padLevel i) || (st.get (PORT.IRQ i) == 5 && !st.padLevel i)
    st.when (want && !st.on (PORT.IRQ_FLAG i)) (fun st => st.padFlag i)) s

/-- R358, R377, R378: a pad's new level is accepted; the pads that are fabric sources deliver it there. -/
def State.padAccept (s : State) (i : Nat) (b : Bool) : State :=
  if !s.fab.vio || s.power.mode == .off || s.padLevel i == b then s
  else
    let s := { s with fab := { s.fab with accepted := Table.set false s.fab.accepted i b } }
    let m := s.get (PORT.IRQ i)
    let edge := (m == 1 && b) || (m == 2 && !b) || m == 3
    let s := (s.when edge (fun s => s.padFlag i)).judgePads
    match sourceOfPad i with
    | some src => s.padEvent src b
    | none => s

end Sys2Proof.Machine
end

