-- ==== Sys2Proof/Machine/Ntu.lean ====
section
/-!
DEFINITION. Network time (R397 to R430): the tick in fine, LULL and coarse counting, steps, the servo, compares and captures, the
pairing of SYNC and FOLLOW-UP, and the PPS output.
-/

namespace Sys2Proof.Machine

/-! ### Counting -/

/-- The instants of network time before the 48-bit seconds wrap. -/
def timeRange : Nat := 2 ^ 48 * nsPerSec

/-- The written NTU_ADJ as a signed value. -/
def State.writtenAdj (s : State) : Int := toSigned 32 (s.get NTU.ADJ)

/-- R412: the adjustment in use: the servo's while it is enabled, else the written one. -/
def State.adjInUse (s : State) : Int := if s.on NTU.SERVO_EN then s.ntu.adj else s.writtenAdj

/-- R398, R163: what one step of the counter adds, in 2^-32 ns. -/
def State.addend (s : State) : Int :=
  if s.power.coarse then s.get CLK.LF_ADDEND * 2 ^ 16
  else if s.power.mode == .lull then 25 * 2 ^ 32 + Int.fdiv (5 * s.adjInUse) 2
  else 10 * 2 ^ 32 + s.adjInUse

/-- The time is `t` ns and `frac` 2^-32 ns. NS has crossed a multiple of 1,000 where the quotient has changed: a judgement point of the absolute
compares (R405). `wrapped` tells whether NS has wrapped to 0 with this change, or before it where nothing was counted since (R420). -/
def State.timeIs (s : State) (t frac : Nat) (before : Bool) : State :=
  let crossed := t / 1000 != s.now / 1000
  { s with ntu := { s.ntu with
      sec := t / nsPerSec
      ns := t % nsPerSec
      frac := frac
      judged := if crossed then t else s.ntu.judged
      unjudged := if crossed then [] else s.ntu.unjudged
      wrapped := before || (t / nsPerSec != s.ntu.sec) } }

/-- R398: the time after one counting step; NS carries into SEC. -/
def State.countTime (s : State) : State :=
  let total : Int := Int.ofNat (s.now * 2 ^ 32 + s.ntu.frac) + s.addend
  s.timeIs ((total.toNat / 2 ^ 32) % timeRange) (total.toNat % 2 ^ 32) false

/-- R137: mtime after `n` ns of XO40 time. -/
def State.countMtime (s : State) (n : Nat) : State :=
  let t := s.ntu.mtimeNs + n
  { s with ntu := { s.ntu with mtime := (s.ntu.mtime + t / 1000) % 2 ^ 64, mtimeNs := t % 1000 } }

/-! ### Steps (R401, R411, R162) -/

/-- The time moves to another value; the XO32 calibration window is discarded and a new one awaits its first edge (R162), and the link
controller prepares and begins the slots that the stepped time gives (R590, R627). The new time is a judgement point of the absolute compares,
wherever it lies (R423). -/
def State.stepTo (s : State) (t : Int) : State :=
  let t := (t % (timeRange : Nat)).toNat
  let s := s.timeIs t s.ntu.frac s.ntu.wrapped
  { s with
    ntu := { s.ntu with judged := t, unjudged := [] }
    power := { s.power with lfBad := true, lfStart := s.power.lfStart.map (fun _ => t * 2 ^ 32 + s.ntu.frac) }
    link := { s.link with prepared := none, begun := none, timerDone := none, kept := s.link.cur.isSome } }

/-- R401: SET takes the staged time as a step, with FRAC at 0. -/
def State.setTime (s : State) : State :=
  let t := (s.get NTU.SET_SEC_HI * 2 ^ 32 + s.get NTU.SET_SEC_LO) * nsPerSec + s.get NTU.SET_NS
  (({ s with ntu := { s.ntu with frac := 0 } }).stepTo (Int.ofNat t)).raise NTU.STEP_TAKEN

/-! ### The servo (R409 to R415) -/

/-- The limit of INT and ADJ: ±200 ppm. -/
def adjLimit : Int := 8589934

/-- R413: the master identity of a sample; a change sets MASTER_CHANGED and MASTER_ID. -/
def State.noteMaster (s : State) (ident : Nat) : State :=
  let changed := match s.ntu.lastMaster with
    | some m => m != ident
    | none => false
  let s := s.when changed (fun s => (s.raise NTU.MASTER_CHANGED).put NTU.MASTER_ID ident)
  { s with ntu := { s.ntu with lastMaster := some ident } }

/-- Table 10.2: the servo's decision on an offset `o` of source `src`. -/
def State.servoJudge (s : State) (src : Nat) (o : Int) : State :=
  if s.on NTU.ACCEPT_NEXT then
    (((s.stepTo (Int.ofNat s.now + o)).clear NTU.ACCEPT_NEXT).raise NTU.STEP_TAKEN).clear NTU.TIME_COARSE
  else if (s.get NTU.STEP_LIMIT * 1000 : Nat) < o.natAbs then
    let s := (s.put NTU.REFUSED_SEC (ofSigned 32 (Int.fdiv o nsPerSec))).put NTU.REFUSED_NS (Int.fmod o nsPerSec).toNat
    (s.put NTU.REFUSED_SRC src).raise NTU.STEP_REFUSED
  else if s.power.coarse then s
  else
    let p := Int.fdiv (o * 65536) (2 ^ s.get NTU.KP)
    let i := clampInt (-adjLimit) adjLimit (s.ntu.integ + Int.fdiv (o * 65536) (2 ^ s.get NTU.KI))
    let s := { s with ntu := { s.ntu with integ := i, adj := clampInt (-adjLimit) adjLimit (p + i) } }
    (s.raise NTU.SAMPLE).clear NTU.TIME_COARSE

/-- R409: a sample of source `src`: `diff` is master time minus local time at the timestamp point. Samples of other sources do
not reach the servo; in LULL only PPS does (R146). -/
def State.servoSample (s : State) (src : Nat) (diff : Int) (ident : Nat) : State :=
  if s.on NTU.SERVO_EN && s.get NTU.SRC == src && (s.power.mode != .lull || src == 3) then
    (s.noteMaster ident).servoJudge src (diff + toSigned 16 (s.get (NTU.DELAY src)))
  else s

/-- R414: the whole second nearest the local time, minus the local time. At exactly half a second the spec names neither
(assumption log 3). -/
def State.ppsOffset (s : State) : Int × State :=
  if s.ntu.ns * 2 < nsPerSec then (-(s.ntu.ns : Int), s)
  else if nsPerSec < s.ntu.ns * 2 then ((nsPerSec : Int) - s.ntu.ns, s)
  else
    let b := s.freeBool
    (if b.1 then (nsPerSec : Int) - s.ntu.ns else -(s.ntu.ns : Int), b.2)

/-- R412, R413: a write of NTU_SERVO has happened; `was` is SERVO_EN before it. -/
def State.servoWritten (s : State) (was : Bool) : State :=
  let s := { s with ntu := { s.ntu with lastMaster := none } }
  let s := s.when (!was && s.on NTU.SERVO_EN) (fun s =>
    { s with ntu := { s.ntu with integ := s.writtenAdj, adj := s.writtenAdj } })
  s.when (!s.on NTU.SERVO_EN) (fun s => s.clear NTU.ACCEPT_NEXT)

/-! ### Compares (R402 to R406) -/

/-- Does time `t` (ns) lie at or after an absolute target? -/
def reachedAbs (t hi b a : Nat) : Bool :=
  let sec := hi * 2 ^ 32 + b
  sec < t / nsPerSec || (sec == t / nsPerSec && a ≤ t % nsPerSec)

/-- SEC[47:32] of the absolute target of channel `c`. -/
def State.targetHi (s : State) (c : Nat) : Nat := (Table.find s.ntu.targetHi c).getD 0

/-- R406: what a firing compare does. -/
def State.compareEvent (s : State) (c : Nat) : State :=
  let s := s.raise (NTU.CH_FIRED c)
  let s := s.when (s.on (NTU.CH_LINE_EN c)) (fun s => s.raise NTU.CMP_LINE (s.get (NTU.CH_LINE c)))
  let s := s.when (s.on (NTU.CH_WAKE c)) (fun s => s.wake 3)
  s.fire (0x20 + c)

/-- R404: a relative compare fires once: it advances by PERIOD, or is disarmed. -/
def State.fireOnce (s : State) (c : Nat) : State :=
  let period := s.get (NTU.CH_C c)
  let s := if period = 0 then s.clear (NTU.CH_ARMED c) else s.put (NTU.CH_A c) (s.get (NTU.CH_A c) + period)
  s.compareEvent c

/-- R404: a relative compare fires, and again at once as often as the advanced A has already been passed. -/
def State.fireRelative (s : State) (c : Nat) : State :=
  let period := s.get (NTU.CH_C c)
  let late := (s.tick32 + 2 ^ 32 - s.get (NTU.CH_A c)) % 2 ^ 32
  (List.range (if period = 0 then 1 else late / period + 1)).foldl (fun st _ => st.fireOnce c) s

/-- R405: an absolute compare fires and is disarmed. -/
def State.fireAbsolute (s : State) (c : Nat) : State := (s.clear (NTU.CH_ARMED c)).compareEvent c

/-- R403: a relative compare whose target is reached fires. -/
def State.judgeRelative (s : State) (c : Nat) : State :=
  if s.get (NTU.CH_MODE c) == 1 && s.on (NTU.CH_ARMED c) && tickReached s.tick32 (s.get (NTU.CH_A c)) then s.fireRelative c else s

/-- R405: an absolute compare whose target lies at or before `t` fires. -/
def State.judgeAbsolute (s : State) (c t : Nat) : State :=
  if s.get (NTU.CH_MODE c) == 2 && s.on (NTU.CH_ARMED c)
      && reachedAbs t (s.targetHi c) (s.get (NTU.CH_B c)) (s.get (NTU.CH_A c))
  then s.fireAbsolute c else s

/-- R405: an absolute compare is judged at the last judgement point, the first tick after NS has crossed a multiple of 1,000; one whose target was
written since awaits the next. -/
def State.judgeTick (s : State) (c : Nat) : State :=
  if (Table.find s.ntu.unjudged c).isSome then s else s.judgeAbsolute c s.ntu.judged

/-- R405: AHEAD adds the time at arming, in whole seconds and nanoseconds, to the offset in B and A. -/
def State.aheadTarget (s : State) (c : Nat) : State :=
  let t := (s.now + s.get (NTU.CH_B c) * nsPerSec + s.get (NTU.CH_A c)) % timeRange
  let s := (s.put (NTU.CH_A c) (t % nsPerSec)).put (NTU.CH_B c) (t / nsPerSec)
  { s with ntu := { s.ntu with
    targetHi := Table.set 0 s.ntu.targetHi c (t / nsPerSec / 2 ^ 32)
    ahead := Table.insert s.ntu.ahead c () } }

/-- R405: without AHEAD, the target of an arming with it is reused; else SEC[47:32] is taken at arming. -/
def State.plainTarget (s : State) (c : Nat) : State :=
  if (Table.find s.ntu.ahead c).isSome then s
  else { s with ntu := { s.ntu with targetHi := Table.set 0 s.ntu.targetHi c (s.ntu.sec / 2 ^ 32) } }

/-- R403, R405: ARM arms a compare; one already reached fires at once. -/
def State.armCompare (s : State) (c : Nat) : State :=
  match s.get (NTU.CH_MODE c) with
  | 1 => (s.raise (NTU.CH_ARMED c)).judgeRelative c
  | 2 =>
    let s := if s.on (NTU.CH_AHEAD c) then s.aheadTarget c else s.plainTarget c
    (s.raise (NTU.CH_ARMED c)).judgeAbsolute c s.now
  | _ => s

/-- R405: A or B of channel `c` has been written: no arming with AHEAD gave this target, and while armed it is judged from the next judgement
point on. -/
def State.targetWritten (s : State) (c : Nat) : State :=
  { s with ntu := { s.ntu with
    ahead := Table.erase s.ntu.ahead c
    unjudged := if s.on (NTU.CH_ARMED c) then Table.insert s.ntu.unjudged c () else s.ntu.unjudged } }

/-- No target of an arming with AHEAD is left. -/
def State.forgetTarget (s : State) (c : Nat) : State := { s with ntu := { s.ntu with ahead := Table.erase s.ntu.ahead c } }

/-- R428: an unread capture is discarded: A, B and C read 0. -/
def State.discardCapture (s : State) (c : Nat) : State :=
  if s.on (NTU.CH_CAPTURED c) then
    (((s.clear (NTU.CH_CAPTURED c)).put (NTU.CH_A c) 0).put (NTU.CH_B c) 0).put (NTU.CH_C c) 0
  else s

/-- R428: MODE of channel `c` has changed: the compare is disarmed, an unread capture discarded. -/
def State.modeChanged (s : State) (c : Nat) : State := ((s.forgetTarget c).clear (NTU.CH_ARMED c)).discardCapture c

/-- R428: channel `c` changes owner. -/
def State.channelReset (s : State) (c : Nat) : State :=
  let s := ((s.forgetTarget c).clear (NTU.CH_ARMED c)).clear (NTU.CH_CAPTURED c)
  (((s.clear (NTU.CH_OVR c)).put (NTU.CH_A c) 0).put (NTU.CH_B c) 0).put (NTU.CH_C c) 0

/-! ### SYNC and FOLLOW-UP (R416 to R419) -/

/-- R418: SYNC frame received on controller `x`: it is the most recent one. -/
def State.syncSeen (s : State) (x sof seq master : Nat) : State :=
  { s with ntu := { s.ntu with sync := vput s.ntu.sync x (some ⟨sof, seq, master⟩), fu := vput s.ntu.fu x none } }

/-- R418: the master time in ns nearest the local time `t` that has the low 32 bits `lo` of its seconds and `ns`, which a classical FOLLOW-UP
carries; of two that are equally near `late` chooses. -/
def nearestTime (t lo ns : Nat) (late : Bool) : Nat :=
  let base := (t / nsPerSec / 2 ^ 32 * 2 ^ 32 + lo) * nsPerSec + ns
  let wrap := 2 ^ 32 * nsPerSec
  let up := base + wrap
  if base ≤ t then
    if timeRange ≤ up then base else if up - t < t - base || (up - t == t - base && late) then up else base
  else if base < wrap then base
  else if t - (base - wrap) < base - t || (t - (base - wrap) == base - t && !late) then base - wrap
  else base

/-- R416, R418: FOLLOW-UP received on controller `x`, with its payload bytes: kept for the pairing when it matches the pending
SYNC within FU_WINDOW, else discarded. -/
def State.followUpSeen (s : State) (x : Nat) (fd : Bool) (b : List Nat) : State :=
  match vget s.ntu.sync x none with
  | none => s
  | some y =>
    let be (from_ n : Nat) : Nat := ofBytesBE ((b.drop from_).take n)
    let seqOk := if fd then nth b 10 == y.seq else bits (be 4 4) 30 2 == y.seq % 4
    let inTime := decide (s.now ≤ y.sof + s.get NTU.FU_WINDOW * 1000000)
    let c := s.freeBool
    let time : Int := if fd then be 0 6 * nsPerSec + bits (be 6 4) 0 30 else nearestTime y.sof (be 0 4) (bits (be 4 4) 0 30) c.1
    let s := if fd then s else c.2
    if seqOk && inTime then
      { s with ntu := { s.ntu with fu := vput s.ntu.fu x (some ⟨time, !fd || bit (nth b 11) 0⟩) } }
    else s

/-- R418, R419, R478: the pair of controller `x` goes to the servo. -/
def State.pairSync (s : State) (x : Nat) : State :=
  match vget s.ntu.sync x none, vget s.ntu.fu x none with
  | some y, some f =>
    let s := { s with ntu := { s.ntu with sync := vput s.ntu.sync x none, fu := vput s.ntu.fu x none } }
    let s := s.raise (CAN.SYNC_PAIRED x)
    if s.on NTU.REQ_SYNCED && !f.synced then s else s.servoSample x (f.time - y.sof) y.master
  | _, _ => s

/-- R418: a SYNC whose window has passed is discarded. -/
def State.dropSync (s : State) (x : Nat) : State :=
  match vget s.ntu.sync x none with
  | some y =>
    if y.sof + s.get NTU.FU_WINDOW * 1000000 < s.now && (vget s.ntu.fu x none).isNone then
      { s with ntu := { s.ntu with sync := vput s.ntu.sync x none } }
    else s
  | none => s

/-! ### Captures from pads and radios, PPS (R407, R414, R420) -/

/-- R407, Table 10.1: an edge at the input that CAPSEL of channel `c` selects; a pad channel takes the edge PEDGE selects, while a pad carries
NTU_CAPc. -/
def State.captureEdge (s : State) (c : Nat) (rising : Bool) : State :=
  match s.get (NTU.CH_CAPSEL c) with
  | 0 => s.when rising (fun s => s.capture c)
  | 1 => s.when (s.carried (.cap c) && rising != s.on (NTU.CH_PEDGE c)) (fun s => s.capture c)
  | 2 => s.capture c
  | 3 => s.capture c
  | 4 => s.capture c
  | _ => s

/-- R477, R598: input `sel` of Table 10.1 gives its instant to every capture channel that selects it. -/
def State.captureInput (s : State) (sel : Nat) : State :=
  (List.range 16).foldl (fun st c => st.when (st.get (NTU.CH_CAPSEL c) == sel) (fun st => st.capture c)) s

/-- R407: a capture with the time of `age` ns ago: the state's time is moved back for the capture alone. -/
def State.captureInputAt (s : State) (sel age : Nat) : State :=
  let t := s.now - age
  let s' := ({ s with ntu := { s.ntu with sec := t / nsPerSec, ns := t % nsPerSec } }).captureInput sel
  { s' with ntu := { s'.ntu with sec := s.ntu.sec, ns := s.ntu.ns } }

/-- R414, R86: a rising edge of the PPS input: of NTU_CAP0, which P1 or P9 carries, the lower where both do. -/
def State.ppsEdge (s : State) : State :=
  if s.carried (.cap 0) then
    let o := s.ppsOffset
    o.2.servoSample 3 o.1 0
  else s

/-- R420: NTU_PPS_OUT goes high as NS wraps. -/
def State.ppsRise (s : State) : State :=
  let s' := { s with ntu := { s.ntu with wrapped := false } }
  if s.ntu.wrapped && s.on NTU.PPS_EN && s.carried .ppsOut then
    { s' with ntu := { s'.ntu with ppsOut := true } }
  else s'

/-! ### Latches (R400, R317) -/

/-- R400: tenant `t` reads NTU_TIME_SEC_LO: the other time registers are latched for it. -/
def State.latchTime (s : State) (t : Nat) : State :=
  { s with ntu := { s.ntu with
      latch := vput s.ntu.latch t ⟨s.ntu.sec / 2 ^ 32, s.ntu.ns, s.ntu.frac / 2 ^ 16, s.tick32⟩ } }

end Sys2Proof.Machine
end

