-- ==== Sys2Proof/Machine/Phy.lean ====
section
/-!
DEFINITION. The radio PHY (chapter 13): maps in memory, the start and end of operations, RSSI, sounding targets, the receiver's checks
and calibration, and what reads and writes of the RFPHY page do beyond their fields.
-/

namespace Sys2Proof.Machine

/-- The state with the PHY changed. -/
def State.modPhy (s : State) (f : Phy → Phy) : State := { s with phy := f s.phy }

/-- The owner of the LINK page, with whose TID the PHY and the controller reach slot table and maps (R33, R543). -/
def State.linkTid (s : State) : Nat := s.pageOwner 0x16

/-! ### Maps (R541 to R543) -/

/-- The address of map `m`. -/
def mapAddr (m : Nat) : Nat := 0x32120000 + 32 * m

/-- R234: has word `w` of map `m` an uncorrectable error? -/
def State.mapWordBad (s : State) (m w : Nat) : Bool := s.eccBad (mapAddr m + 4 * w)

/-- R234: the records of the words of map `m` that cannot be read. -/
def State.noteMap (s : State) (m : Nat) : State :=
  (List.range 5).foldl (fun st w => st.when (s.mapWordBad m w) (fun st => st.eccRecord st.linkTid (mapAddr m + 4 * w) 0x40)) s

/-- R234, R541: the 48 codes of map `m`; a word that cannot be read gives 0. -/
def State.mapCodes (s : State) (m : Nat) : List Nat :=
  let ws := (List.range 5).map (fun w => if s.mapWordBad m w then 0 else s.word s.linkTid (mapAddr m + 4 * w))
  (List.range 48).map (fun d => bits (nth ws (d / 10)) (3 * (d % 10)) 3)

/-- The five words of a map with these codes; the reserved bits are 0. -/
def mapWords (codes : List Nat) : List Nat :=
  (List.range 5).map (fun w => (List.range (if w < 4 then 10 else 8)).foldl (fun v i => v + nth codes (10 * w + i) % 8 * 2 ^ (3 * i)) 0)

/-- Map `m` written with the TID of the LINK page owner. -/
def State.setMap (s : State) (m : Nat) (codes : List Nat) : State := s.setWords s.linkTid (mapAddr m) (mapWords codes)

/-- R543: the highest code whose threshold a ratio in 0.5 dB reaches. -/
def State.loadCode (s : State) (ratio : Int) : Nat :=
  (List.range 4).foldl (fun c t => if Int.ofNat (s.get (RFPHY.TH t)) ≤ ratio then t + 1 else c) 0

/-! ### Operations (R526, R527, R544 to R549, R561) -/

/-- Does the PHY send or receive now? -/
def State.phyBusy (s : State) : Bool :=
  s.phy.op == .txAir || s.phy.op == .rxSync || s.phy.op == .rxHeader || s.phy.op == .cal

/-- R526: may channel `k` be used? -/
def State.chanOk (s : State) (k : Nat) : Bool := bit (s.get RFPHY.CHMASK) k

/-- An operation is set on a channel: pattern, sync word and frequency correction are taken for its length (R527, R561). -/
def State.phySet (s : State) (op : PhyOp) (chan : Nat) (robust : Bool) (pwr : Nat) (frame : Option AirFrame) (target : Option Nat) : State :=
  ((s.modPhy (fun p => { p with
    op := op
    chan := chan
    robust := robust
    pwr := if robust then min pwr 30 else min pwr 26
    pattern := s.get RFPHY.SYNC_LO + s.get RFPHY.SYNC_HI * 2 ^ 32
    rsync := s.get RFPHY.RSYNC
    track := if s.on RFPHY.FREQ_TRACK then s.ntu.integ else 0
    frame := frame
    target := target })).put RFPHY.CHAN chan).put RFPHY.PLL_LOCK 1

/-- The PHY is free again. -/
def State.phyIdle (s : State) : State := s.modPhy (fun p => { p with op := .idle, target := none })

/-- The payload of a robust frame: the LINK field in four bytes, then the frame's payload (R601). -/
def robustPayload (f : AirFrame) : List Nat := bytesLE 4 (f.link % 2 ^ 28) ++ f.payload

/-- R542, R544: the ramp-up begins; an OFDM PPDU takes its map now. -/
def State.phyStart (s : State) : State :=
  match s.phy.frame with
  | none => s
  | some f =>
    if f.robust then s.modPhy (fun p => { p with op := .txAir, airBits := robustBits p.chan (robustPayload f), airPoints := [] })
    else
      let codes := s.mapCodes f.map
      let air := payloadBits f.rate s.phy.chan codes f.payload
      (s.when (!f.payload.isEmpty) (fun s => s.noteMap f.map)).modPhy (fun p => { p with
        op := .txAir
        codes := codes
        header := makeHeader f.map f.rate f.payload.length f.link
        airBits := air
        airPoints := symbolPoints codes air })

/-- R538: may an OFDM PPDU with a payload of `len` bytes under a map be sent? Under a map that holds a reserved code it may not (assumption log 15,
DESIGN CHOICE). -/
def ofdmFits (codes : List Nat) (rate len : Nat) : Bool :=
  decide (len ≤ 1024) && (len == 0 || (decide (1 ≤ mapBits codes) && !mapReserved codes && decide (symbolsFor rate len (mapBits codes) ≤ 191)))

/-! ### Reception (R533, R535, R539, R543, R549, R550) -/

/-- R550: RSSI is latched; `halfDbm` is the input power in 0.5 dB steps. -/
def State.latchRssi (s : State) (halfDbm : Int) : State :=
  ((s.put RFPHY.RSSI (clampInt 0 255 (halfDbm + 256)).toNat).putB RFPHY.RSSI_MODE s.phy.robust).put RFPHY.RSSI_VALID 1

/-- R533, R543, R550: an OFDM SYNC symbol is met. A target map is rewritten; the PPDU itself keeps the codes that it held (R557). -/
def State.ofdmSync (s : State) (pattern : Nat) (halfDbm : Int) (snr : List Int) : State :=
  if s.phy.op == .rxOpen && !s.phy.robust && decide (popCount 48 (pattern ^^^ s.phy.pattern) ≤ s.get RFPHY.SYNC_ERR) then
    let s := (s.latchRssi halfDbm).modPhy (fun p => { p with op := .rxSync, sync := s.now })
    match s.phy.target with
    | some m => (s.modPhy (fun p => { p with codes := if (List.range 5).any (s.mapWordBad m) then [] else s.mapCodes m })).setMap m
        ((List.range 48).map (fun d => s.loadCode (snr.getD d 0)))
    | none => s
  else s

/-- R549, R550: a robust sync word is met. -/
def State.robustSync (s : State) (word : Nat) (halfDbm : Int) : State :=
  if s.phy.op == .rxOpen && s.phy.robust && decide (popCount 32 (word ^^^ s.phy.rsync) ≤ s.get RFPHY.RSYNC_ERR) then
    (s.latchRssi halfDbm).modPhy (fun p => { p with op := .rxSync, sync := s.now })
  else s

/-- R551: after a drop the receiver searches again for the rest of the window. -/
def State.phyDrop (s : State) : State := s.modPhy (fun p => { p with op := .rxOpen, frame := none })

/-- R542, R557: the codes of map `m` for the PPDU whose header names it. -/
def State.ppduCodes (s : State) (m : Nat) : List Nat := if s.phy.target = some m then s.phy.codes else s.mapCodes m

/-- R534, R535, R539: do the header and its map let the PPDU be received? -/
def ofdmHeaderOk (h : Nat) (codes : List Nat) : Bool :=
  headerOk h && bits h 0 2 == 0 && decide (bits h 9 11 ≤ 1024) && decide (1 ≤ mapBits codes) && !mapReserved codes &&
    decide (symbolsFor (bits h 7 2) (bits h 9 11) (mapBits codes) ≤ 191)

/-- The frame that a header announces. -/
def headerFrame (h : Nat) : AirFrame := ⟨false, bits h 20 28, bits h 2 5, bits h 7 2, []⟩

/-- What is passed on of a received frame. -/
def State.rxFrame (s : State) (f : AirFrame) : RxFrame := ⟨f, s.get RFPHY.RSSI, s.phy.sync, s.phy.chan⟩

/-! ### Calibration (R552, R553, R621) -/

/-- R552: a calibration falls due, unless one is due already. -/
def State.calDue (s : State) : State :=
  if s.phy.calSince.isSome then s else s.modPhy (fun p => { p with calSince := some s.now })

/-- R552: CAL_INTERVAL has passed since the last calibration. -/
def State.calInterval (s : State) : State :=
  if s.on RFPHY.CAL_VALID && decide (s.phy.lastCal + s.get RFPHY.CAL_INTERVAL * nsPerSec ≤ s.now) then s.calDue else s

/-- R37: is a calibration due and deferred? Its deferral goes on until it completes. -/
def State.calWaits (s : State) : Bool := s.phy.calSince.isSome && s.phy.op != .cal

/-- R552, R621: has the deferral of the due calibration gone beyond CAL_LIMIT? -/
def State.calLate (s : State) : Bool :=
  match s.phy.calSince with
  | some t => s.phy.op != .cal && (s.phy.calAsked || decide (t + s.get LINK.CAL_LIMIT * nsPerSec < s.now))
  | none => false

/-- A due calibration starts; it relocks the PLL as every operation does (R554). -/
def State.calStart (s : State) : State :=
  ((s.modPhy (fun p => { p with op := .cal })).put RFPHY.CAL_NOW 0).put RFPHY.PLL_LOCK 1

/-- R552, R553, R37: the calibration ends, and with it its deferral. One that CAL_NOW asked for meanwhile is due. -/
def State.calEnd (s : State) : State :=
  if s.phy.op == .cal then
    let again := s.on RFPHY.CAL_NOW
    (((s.modPhy (fun p => { p with
      op := .idle
      lastCal := s.now
      calSince := if again then some s.now else none
      calAsked := again })).put RFPHY.CAL_VALID 1)).raise RFPHY.CAL_DONE
  else s

/-- R552: the first release of the radio island after POR or a system reset makes a calibration due. -/
def State.radioReleased (s : State) : State :=
  (if s.on RFPHY.CAL_VALID then s else s.calDue).put RFPHY.RSSI_VALID 0

/-! ### The RFPHY page -/

/-- What a write of the word at `off` does beyond its fields. -/
def State.phyWrote (s : State) (off : Nat) : State :=
  if off = 0x34 && s.on RFPHY.CAL_NOW && s.phy.op != .cal then (s.calDue).modPhy (fun p => { p with calAsked := true }) else s

/-- Table 13.7: STATE. -/
def State.phyState (s : State) : Nat :=
  if !s.powered .radio then 0
  else match s.phy.op with
    | .idle => 1 | .txReady => 2 | .rxReady => 2 | .rxOpen => 3 | .rxSync => 3 | .rxHeader => 3 | .txAir => 4 | .cal => 5

/-- Bits of the word at `off` that its read computes. -/
def State.phyRead (s : State) (off : Nat) : Nat :=
  if off = 0x34 then ofBool s.calWaits * 2 ^ 17 else if off = 0x38 then s.phyState else 0

end Sys2Proof.Machine
end

