-- ==== Sys2Proof/Machine/Link.lean ====
section
/-!
DEFINITION. What the link controller (chapter 15) holds in its pages and tables: the schedule and the absolute slot number, the slot table,
the neighbour table, the key store and sequence numbers, and what reads and writes of the LINK and LSEC pages do beyond their fields.
The operations of a slot are in LinkRun.lean.
-/

namespace Sys2Proof.Machine

/-- The state with the link controller changed. -/
def State.modLink (s : State) (f : Link → Link) : State := { s with link := f s.link }

/-! ### The schedule (R588 to R590, R634) -/

/-- The settings as the registers hold them. -/
def State.ownSched (s : State) : Sched :=
  ⟨(s.get LINK.EPOCH_SEC_HI * 2 ^ 32 + s.get LINK.EPOCH_SEC_LO) * nsPerSec + s.get LINK.EPOCH_NS, s.get LINK.SLOT_LEN,
    s.get LINK.TX_OFFSET, s.get LINK.HOP_LEN, (List.range 19).map (fun i => s.get (LINK.HOP i))⟩

/-- The settings in force: those of the last preparation point while the schedule runs. -/
def State.schedule (s : State) : Sched := s.link.sched.getD s.ownSched

/-- R588: the length of a slot in ns. -/
def Sched.slotNs (c : Sched) : Nat := 250000 * c.slotLen

/-- R588: the ASN of network time `t`. -/
def Sched.asn (c : Sched) (t : Nat) : Nat := (Int.fdiv (Int.ofNat t - Int.ofNat c.epoch) (Int.ofNat c.slotNs) % (2 : Int) ^ 40).toNat

/-- R588: the start of slot `n` in ns of network time. -/
def Sched.start (c : Sched) (n : Nat) : Nat := c.epoch + n * c.slotNs

/-- R592, R614: the time of the first sample of a frame in slot `n`. -/
def Sched.firstSample (c : Sched) (n : Nat) : Nat := c.start n + 4000 * c.txOff

/-- R589: the channel of slot `n` with channel offset `off`. -/
def Sched.channel (c : Sched) (n off : Nat) : Nat := nth c.hops ((n + off) % c.hopLen)

/-- R588: the schedule runs. -/
def State.linkRuns (s : State) : Bool := s.on LINK.RUN && !s.on LINK.SCAN && s.up .radio

/-- R600: the controller scans. -/
def State.linkScans (s : State) : Bool := s.on LINK.SCAN && !s.on LINK.ROLE && s.up .radio

/-- Table 15.12: STATE. -/
def State.linkState (s : State) : Nat :=
  if s.linkScans then 2 else if !s.linkRuns then 0 else if s.now < s.schedule.epoch then 1 else 3

/-! ### Slot table (R591, Table 15.1) -/

/-- The address of a slot-table entry. -/
def slotEntryAddr (i : Nat) : Nat := 0x32110000 + 4 * i

/-- TYPE, ROBUST, NBR, CHOFF and WAKE of a slot-table entry. -/
def entryType (e : Nat) : Nat := bits e 0 3
def entryRobust (e : Nat) : Bool := bit e 3
def entryNbr (e : Nat) : Nat := bits e 4 6
def entryChoff (e : Nat) : Nat := bits e 10 5
def entryWake (e : Nat) : Bool := bit e 15

/-- R591: the entry of slot index `i`; one with an uncorrectable error is OFF, with a record to the LINK page owner. -/
def State.slotEntry (s : State) (i : Nat) : State × Nat :=
  if s.eccBad (slotEntryAddr i) then (s.eccRecord s.linkTid (slotEntryAddr i) 0x40, 0)
  else (s, s.word s.linkTid (slotEntryAddr i))

/-! ### Neighbour table (R604, R605, Table 15.6) -/

/-- The address of word `w` of neighbour entry `e`. -/
def nbrAddr (e w : Nat) : Nat := 0x32100000 + 32 * e + 4 * w

/-- Word `w` of entry `e`, with its owner's TID. -/
def State.nbr (s : State) (e w : Nat) : Nat := s.word (s.owner tblNbr e) (nbrAddr e w)

/-- The state with word `w` of entry `e` written. -/
def State.setNbr (s : State) (e w v : Nat) : State := s.setWord (s.owner tblNbr e) (nbrAddr e w) v

/-- Fields of an entry. -/
def State.nbrShort (s : State) (e : Nat) : Nat := bits (s.nbr e 0) 0 16
def State.nbrSecReq (s : State) (e : Nat) : Bool := bit (s.nbr e 0) 16
def State.nbrOfdm (s : State) (e : Nat) : Bool := bit (s.nbr e 0) 17
def State.nbrRate (s : State) (e : Nat) : Nat := bits (s.nbr e 0) 22 2
def State.nbrMap (s : State) (e : Nat) : Nat := bits (s.nbr e 0) 24 5
def State.nbrKey (s : State) (e : Nat) : Nat := bits (s.nbr e 4) 0 4

/-- Table 15.6: TXPWR, where 31 stands for RFPHY PWR. -/
def State.nbrPwr (s : State) (e : Nat) : Nat := if bits (s.nbr e 4) 8 5 = 31 then s.get RFPHY.PWR else bits (s.nbr e 4) 8 5

/-- Has one of the words 0 to 5 of an entry an uncorrectable error? -/
def State.nbrBad (s : State) (e : Nat) : Bool := (List.range 6).any (fun w => s.eccBad (nbrAddr e w))

/-- R234: the record of an entry's uncorrectable error, with the address of the first word that has one, to the entry's owner. -/
def State.nbrRecord (s : State) (e : Nat) : State :=
  match (List.range 6).find? (fun w => s.eccBad (nbrAddr e w)) with
  | some w => s.eccRecord (s.owner tblNbr e) (nbrAddr e w) 0x40
  | none => s

/-- R234: word `w` of entry `e` is read and written back changed; one that cannot be read is recorded and stays as it is. -/
def State.nbrChange (s : State) (e w : Nat) (f : Nat → Nat) : State :=
  if s.eccBad (nbrAddr e w) then s.eccRecord (s.owner tblNbr e) (nbrAddr e w) 0x40 else s.setNbr e w (f (s.nbr e w))

/-- R604: is entry `e` in use? -/
def State.nbrInUse (s : State) (e : Nat) : Bool := s.on (LINK.NBR_EN e)

/-- Bits of FLAGS (Table 15.6). -/
def flagReplay : Nat := 0
def flagAuth : Nat := 1
def flagUnsec : Nat := 2
def flagNoack : Nat := 3
def flagDup : Nat := 4
def flagSound : Nat := 5

/-- R605: the controller sets a FLAGS bit of entry `e`, and the neighbour line's event when the entry has one. -/
def State.nbrFlag (s : State) (e i : Nat) : State :=
  let s := s.nbrChange e 5 (fun v => v ||| 2 ^ i)
  if s.eccBad (nbrAddr e 0) then s.eccRecord (s.owner tblNbr e) (nbrAddr e 0) 0x40
  else s.when (bit (s.nbr e 0) 18) (fun s => s.raise LINK.LINE (bits (s.nbr e 0) 19 2))

/-- R610: RSSI and RSSI_VALID of entry `e`. -/
def State.nbrRssi (s : State) (e rssi : Nat) : State := s.nbrChange e 4 (fun v => setBits v 16 9 (rssi % 256 + 256))

/-- R603: the entry in use whose SHORT is `short`; the lowest-numbered where several are. -/
def State.findSender (s : State) (short : Nat) : Option Nat :=
  (List.range 64).find? (fun e => s.on (LINK.NBR_EN e) && !s.nbrBad e && s.nbrShort e == short)

/-! ### Keys and sequence numbers (R606 to R608) -/

/-- The bytes of key slot `k`, when its VALID bit is 1. -/
def State.linkKey (s : State) (k : Nat) : Option (List Nat) :=
  if bit (s.get LSEC.KEY_VALID) k then (Table.find s.link.keys k).map keyBytes else none

/-- R607: REKEY_DUE when TXSEQ, `old` before, reaches REKEY_AT, the 0 after its last value included. -/
def State.judgeRekey (s : State) (old : Nat) : State :=
  let at_ := s.get LSEC.REKEY_AT
  let new := s.get LSEC.TXSEQ
  s.when ((decide (old < at_) && decide (at_ ≤ new)) || (new == at_ && new != old)) (fun s => s.raise LINK.REKEY_DUE)

/-- R607: the SEQ of a frame's first preparation, and TXSEQ advanced; 0xFFFFFFFF is followed by 0. -/
def State.takeSeq (s : State) : Nat × State :=
  let q := s.get LSEC.TXSEQ
  (q, (s.put LSEC.TXSEQ (q + 1)).judgeRekey q)

/-- LOAD: the staged key goes into slot KEY_SEL. -/
def State.loadKey (s : State) : State :=
  let k := s.get LSEC.KEY_SEL
  let key : BitVec 128 := BitVec.ofNat 128 (ofBytesLE (s.link.stage.toList.flatMap (fun w => bytesLE 4 w.toNat)))
  (s.modLink (fun l => { l with keys := Table.insert l.keys k key, stage := noStage })).raise LSEC.KEY_VALID k

/-- CLEAR: slot KEY_SEL holds no key. -/
def State.clearKey (s : State) : State :=
  let k := s.get LSEC.KEY_SEL
  (s.modLink (fun l => { l with keys := Table.erase l.keys k })).clear LSEC.KEY_VALID k

/-- The key store is lost (R608, R634). -/
def State.dropLinkKeys (s : State) : State := (s.modLink (fun l => { l with keys := [] })).put LSEC.KEY_VALID 0

/-- What a write of the word at `off` of the LSEC page does beyond its fields: `v` is the data, `mask` its byte lanes as bits. -/
def State.lsecWrote (s : State) (off v mask : Nat) (old : State) : State :=
  if 0x14 ≤ off && off ≤ 0x20 then
    s.modLink (fun l => { l with stage := vmod l.stage ((off - 0x14) / 4) (fun w =>
      BitVec.ofNat 32 ((w.toNat &&& (mask ^^^ 0xFFFFFFFF)) ||| (v &&& mask))) })
  else if off = 0x24 then
    let load := s.on LSEC.LOAD
    let clr := s.on LSEC.CLEAR
    let s := (s.put LSEC.LOAD 0).put LSEC.CLEAR 0
    if load && clr then
      let c := s.freeBool
      if c.1 then c.2.loadKey.clearKey else c.2.clearKey.loadKey
    else if load then s.loadKey
    else if clr then s.clearKey
    else s
  else if off = 0x2C then
    let before := old.get LSEC.TXSEQ
    if s.get LSEC.TXSEQ < before && s.get LSEC.KEY_VALID != 0 then s.put LSEC.TXSEQ before else s.judgeRekey before
  else s

/-! ### Starting and stopping (R588, R629) -/

/-- The schedule starts with the settings as they stand. -/
def State.linkStart (s : State) : State :=
  s.modLink (fun l => { l with sched := some s.ownSched, prepared := none, begun := none, next := none })

/-- The schedule or the scan ends: no further slot is served; a PPDU on air or being received goes on. -/
def State.linkStop (s : State) : State :=
  let s := s.modLink (fun l => { l with sched := none, prepared := none, begun := none, next := none, beaconDue := false })
  if s.phyBusy || s.link.ackOwed.isSome || s.link.ackWait then s else (s.modLink (fun l => { l with cur := none })).phyIdle

/-- After a write or an adoption the controller follows RUN, SCAN and ROLE. -/
def State.linkFollow (s old : State) : State :=
  let s := s.when ((old.linkRuns && !s.linkRuns) || (old.linkScans && !s.linkScans)) State.linkStop
  s.when (s.linkRuns && !old.linkRuns) State.linkStart

/-- R604: entry `e` goes out of use. -/
def State.nbrOut (s : State) (e : Nat) : State := s.put (LINK.NBR_EN e) 0

/-- What a write of the word at `off` of the LINK page does beyond its fields. -/
def State.linkWrote (s : State) (off : Nat) (old : State) : State :=
  if off = 0x10 then s.linkFollow old
  else if off = 0x54 || off = 0x58 then
    (List.range 32).foldl (fun st i =>
      let e := 8 * (off - 0x54) + i
      if st.on (LINK.NBR_EN e) && !old.on (LINK.NBR_EN e) then st.nbrChange e 4 (fun v => setBits v 24 1 0) else st) s
  else s

/-- Bits of the word at `off` of the LINK page that its read computes. -/
def State.linkRead (s : State) (off : Nat) : Nat :=
  let n := s.schedule.asn s.now
  if off = 0x34 then n % 2 ^ 32 else if off = 0x50 then s.linkState + n % 256 * 2 ^ 8 else 0

/-- R588: the read of ASN_LO latches ASN_HI. -/
def State.latchAsn (s : State) : State := s.put LINK.ASN_HI (s.schedule.asn s.now / 2 ^ 32)

/-- R634: the radio island is released: a schedule that RUN asks for goes on with the settings as they stand. -/
def State.linkReleased (s : State) : State := s.when s.linkRuns State.linkStart

/-- R629: the LINK page owner is quiesced or changed: RUN clears. -/
def State.linkQuiesce (s : State) : State := (s.put LINK.RUN 0).linkStop

end Sys2Proof.Machine
end

