-- ==== Sys2Proof/Machine/Supply.lean ====
section
/-!
DEFINITION. Power entry (chapter 3): source selection, mains, PGOOD, the harvester's measurement, the storage gauge and the output
rails, and what a write or read of the SUPPLY page does beyond its fields.
-/

namespace Sys2Proof.Machine

/-! ### Sources (R88 to R93, R102) -/

/-- The validity bit of a source. -/
def srcField : Source → Fld
  | .vbat => SUPPLY.VBAT_VALID | .viso => SUPPLY.VISO_VALID | .vstore => SUPPLY.VSTORE_VALID

/-- Table 3.9: the code of a source. -/
def srcCode : Source → Nat
  | .vbat => 1 | .viso => 2 | .vstore => 3

/-- R88: the code of the highest-priority valid source, 0 while none is. -/
def State.bestSource (s : State) : Nat :=
  if s.on SUPPLY.VBAT_VALID then 1 else if s.on SUPPLY.VISO_VALID then 2 else if s.on SUPPLY.VSTORE_VALID then 3 else 0

/-- Fuse word 0, VARIANT: is this a TD480-M? -/
def State.isM (s : State) : Bool := bits (vget s.rst.fuses 0 0).toNat 0 2 == 1

/-- Is the always-on island out of its power-on resets, and not in OFF? -/
def State.alive (s : State) : Bool := s.power.mode != .off && !s.rst.porDue && !s.rst.porHeld && !s.rst.brownHeld

/-- R93: OFF is left; the exit is a POR. -/
def State.exitOff (s : State) : State :=
  if s.rst.porDue then s else { s with rst := { s.rst with porDue := true, offExit := true } }

/-- R514: VBAT returns in OFF. If the VBAT part lost power meanwhile, the start does not count as an exit from OFF. -/
def State.vbatReturn (s : State) : State :=
  if s.rst.porDue then s else { s with rst := { s.rst with porDue := true, offExit := s.trx.keptOff } }

/-! ### PGOOD (R110 to R113) -/

/-- R110: the PGOOD signal as it follows from the active source and the comparator. -/
def State.pgoodNow (s : State) : Bool := s.get SUPPLY.ACTIVE_SRC != 3 || s.supply.comp

/-- R113: PGOOD takes its present value; a change raises its event, and a rise is a wake source. -/
def State.judgePgood (s : State) : State :=
  if s.pgoodNow && !s.on SUPPLY.PGOOD then ((s.put SUPPLY.PGOOD 1).raise SUPPLY.PGOOD_RISE).wake 5
  else if !s.pgoodNow && s.on SUPPLY.PGOOD then (s.put SUPPLY.PGOOD 0).raise SUPPLY.PGOOD_FALL
  else s

/-- PGOOD as the source chosen at power-up makes it; that raises no event (as R90 says of the source itself). -/
def State.suppliedPgood (s : State) : State := s.putB SUPPLY.PGOOD s.pgoodNow

/-- The comparator on VSTORE takes a new state. -/
def State.setComp (s : State) (b : Bool) : State := ({ s with supply := { s.supply with comp := b } }).judgePgood

/-- R89, R90: the selector moves to the best valid source. -/
def State.changeSource (s : State) : State :=
  if s.bestSource == 0 || s.bestSource == s.get SUPPLY.ACTIVE_SRC || !s.alive then s
  else ((s.put SUPPLY.ACTIVE_SRC s.bestSource).raise SUPPLY.SRC_CHANGE).judgePgood

/-! ### Harvester (R103 to R107, R131, R132) -/

/-- R132: does the boost work, and are measurements due? -/
def State.harvOn (s : State) : Bool := s.on SUPPLY.HARV_EN && !s.on SUPPLY.HARV_HOLD

/-- SUPPLY_STATUS.HARV_RUN: the boost runs. -/
def State.harvRun (s : State) : Bool :=
  s.harvOn && !s.on SUPPLY.AT_LIMIT && !s.supply.inputOpen && !s.supply.mpptLow && s.bestSource != 0 && s.power.mode != .off

/-- Is background work of ADC-B due (R658)? -/
def State.bgDue (s : State) : Bool := s.supply.mpptDue || s.supply.sampleDue

/-- R105: an open-circuit measurement that is due starts while no tenant sequence holds ADC-B, within a takeover too (R49): the input is
disconnected. -/
def State.tryMppt (s : State) : State :=
  if s.supply.mpptDue && !s.supply.inputOpen && !s.on ADC.B_BUSY then { s with supply := { s.supply with inputOpen := true } } else s

/-- Background work of ADC-B has ended or been given up: a takeover ends when nothing more is due; else the next work begins (R49, R105). -/
def State.bgStep (s : State) : State := if s.bgDue then s.tryMppt else s.put ADC.BG_ACTIVE 0

/-- R104: the measured open-circuit voltage, in mV, sets the voltage that the boost regulates to. It stands until the next measurement; a
write of MPPT_K in between changes nothing (assumption log 31, DESIGN CHOICE). -/
def State.takeVoc (s : State) (mv : Nat) : State :=
  let r := mv * s.get SUPPLY.MPPT_K / 64
  { s with supply := { s.supply with mpptDue := false, inputOpen := false, mpptMv := r, mpptLow := decide (mv * s.get SUPPLY.MPPT_K < 200 * 64) } }

/-- R105: a measurement in its settle time is abandoned; it stays due. -/
def State.dropMppt (s : State) : State := { s with supply := { s.supply with inputOpen := false } }

/-! ### Storage gauge (R114 to R120) -/

/-- R117: GAUGE_UNC as it stands. -/
def State.uncNow (s : State) : Nat :=
  let cap := s.get SUPPLY.CAPACITY
  if !s.on SUPPLY.REF_VALID || cap == 0 then 1000
  else min 1000 ((s.get SUPPLY.UNC_REF * 7200 * cap + s.supply.age * cap + 36000 * s.supply.gross) / (7200 * cap))

/-- R118: UNC_OVER when the uncertainty has become greater than its limit. -/
def State.judgeUnc (s : State) : State :=
  let above := decide (s.get SUPPLY.UNC_LIMIT < s.uncNow)
  let fire := above && !s.supply.uncOver && !s.supply.uncRaised && s.on SUPPLY.REF_VALID
  let s := { s with supply := { s.supply with uncOver := above, uncRaised := s.supply.uncRaised || fire } }
  s.when fire (fun s => s.raise SUPPLY.UNC_OVER)

/-- R114, R117: what the gauge has counted since it was last told. Charge counts while the gauge is enabled, the seconds since a
reference also while it is not; nothing counts through a power-on or brown-out reset (R120). GAUGE_CHARGE wraps at 32 bits, and without a
reference the seconds stand while the gauge is off (assumption log 31, DESIGN CHOICE). -/
def State.gaugeCount (s : State) (c : GaugeCount) : State :=
  if !s.alive then s
  else
    let en := s.on SUPPLY.GAUGE_EN
    let s := s.when en (fun s => s.put SUPPLY.CHARGE (ofSigned 32 (toSigned 32 (s.get SUPPLY.CHARGE) + c.net)))
    { s with supply := { s.supply with
      age := if en || s.on SUPPLY.REF_VALID then s.supply.age + c.secs else s.supply.age
      gross := if en then s.supply.gross + c.gross else s.supply.gross } }

/-- R116: the gauge takes a reference. -/
def State.takeReference (s : State) (mv : Nat) : State :=
  let s := (s.put SUPPLY.CHARGE 0).put SUPPLY.REF_VALID 1
  let s := { s with supply := { s.supply with
    vstoreMv := mv
    refMv := mv
    age := 0
    gross := 0
    sampleDue := false
    gaugeConv := false
    restElapsed := false } }
  let above := decide (s.get SUPPLY.UNC_LIMIT < s.uncNow)
  let s := { s with supply := { s.supply with uncOver := above, uncRaised := s.supply.uncRaised && above } }
  s.raise SUPPLY.REST_TAKEN

/-- R115, R116: the gauge sample that is due completes, in mV: it is the reference where the current has rested for REST_TIME and still
does, else the latest sample. -/
def State.gaugeSampled (s : State) (mv : Nat) : State :=
  (if s.on SUPPLY.GAUGE_EN && s.supply.inBand && s.supply.restElapsed then s.takeReference mv
   else { s with supply := { s.supply with sampleDue := false, gaugeConv := false, vstoreMv := mv } }).bgStep

/-- Does a gauge sample convert now: it is due, ADC-B is free or was as the conversion began (R37), and no open-circuit measurement is under way
(R49)? -/
def State.gaugeFree (s : State) : Bool := s.supply.sampleDue && !s.supply.inputOpen && (!s.on ADC.B_BUSY || s.supply.gaugeConv)

/-- R119: a read of GAUGE_CHARGE latches the gauge set. -/
def State.latchGauge (s : State) : State :=
  (((s.put SUPPLY.VSTORE_MV s.supply.vstoreMv).put SUPPLY.REF_MV s.supply.refMv).put SUPPLY.AGE s.supply.age).put SUPPLY.UNC s.uncNow

/-! ### Output rails (R121) -/

/-- The enable of a rail. -/
def railEn : Rail → Fld
  | .v5 => SUPPLY.V5_EN | .v33 => SUPPLY.V33_EN

/-- The CALM enable of a rail. -/
def railCalm : Rail → Fld
  | .v5 => SUPPLY.V5_CALM | .v33 => SUPPLY.V33_CALM

/-- The fault flag of a rail. -/
def railFlag : Rail → Fld
  | .v5 => SUPPLY.V5_FAULT | .v33 => SUPPLY.V33_FAULT

/-- Table 3.2: is the rail on? -/
def State.railOn (s : State) (r : Rail) : Bool :=
  s.supply.railsUp && s.on (railEn r) && s.power.mode != .off && (s.power.mode != .calm || s.on (railCalm r))

/-- R121: a rail that is off is in no current limit. -/
def State.judgeRails (s : State) : State :=
  let s := s.when (!s.railOn .v5) (fun s => s.put SUPPLY.V5_FAULT 0)
  s.when (!s.railOn .v33) (fun s => s.put SUPPLY.V33_FAULT 0)

/-! ### The SUPPLY page -/

/-- R111, R130: may the threshold pair stand? -/
def State.pgoodPairOk (s : State) : Bool :=
  decide (s.get SUPPLY.OFF_CODE + 4 ≤ s.get SUPPLY.ON_CODE) && decide (s.get SUPPLY.ON_CODE ≤ 60) && decide (s.get SUPPLY.OFF_CODE ≤ 60)

/-- What a write of the word at `off` does beyond its fields; `old` is the state before it. A gauge sample that is due when the gauge is
disabled stays due (assumption log 31, DESIGN CHOICE). -/
def State.supplyWrote (s : State) (off : Nat) (old : State) : State :=
  if off = 0x14 then
    if s.pgoodPairOk then s
    else ((s.put SUPPLY.ON_CODE (old.get SUPPLY.ON_CODE)).put SUPPLY.OFF_CODE (old.get SUPPLY.OFF_CODE)).raise SUPPLY.PGOOD_REJECT
  else if off = 0x18 then s.judgeRails
  else if off = 0x1C then
    if s.harvOn then s else { s with supply := { s.supply with mpptDue := false, inputOpen := false } }.bgStep
  else if off = 0x24 then
    s.when (s.on SUPPLY.GAUGE_EN && !old.on SUPPLY.GAUGE_EN && !s.on SUPPLY.REF_VALID)
      (fun s => { s with supply := { s.supply with age := 0 } })
  else if off = 0x28 || off = 0x2C then s.judgeUnc
  else s

/-- Bits of the word at `off` that its read computes. -/
def State.supplyRead (s : State) (off : Nat) : Nat := if off = 0x10 then ofBool s.harvRun * 2 ^ 8 else 0

end Sys2Proof.Machine
end

