-- ==== Sys2Proof/Machine/Trx.lean ====
section
/-!
DEFINITION. The CAN-A transceiver (chapter 12): its mode, the fail-safe timer, wake detection and the decoder of wake-up frames, and
what a write of the CANX page does beyond its fields.
-/

namespace Sys2Proof.Machine

/-- R496: VBAT_OK, which is the validity of VBAT under Table 3.1. -/
def State.vbatOk (s : State) : Bool := s.on SUPPLY.VBAT_VALID

/-- R498: is the transceiver in STANDBY or SLEEP? -/
def State.trxLow (s : State) : Bool := 2 ≤ s.get CANX.MODE_NOW

/-- R489, R501: TRX_LISTEN of CAN-A. -/
def State.trxListen (s : State) : Bool := s.get CANX.MODE_NOW != 0

/-- R499, R502, R503, R507: may the CAN-A driver drive the bus? -/
def State.driverOn (s : State) : Bool :=
  s.get CANX.MODE_NOW == 0 && !s.on CANX.TXD_OFF && !s.rst.inReset && !s.trx.expired

/-- The bias of CANH and CANL (R495, R498). -/
inductive BusBias where
  | half
  | autonomous
  deriving DecidableEq, Repr

/-- R495, R498: the bus is biased to 2.5 V in NORMAL and LISTEN; in STANDBY and SLEEP the transceiver biases it autonomously, as ISO 11898-2
says. -/
def State.busBias (s : State) : BusBias := if s.get CANX.MODE_NOW ≤ 1 then .half else .autonomous

/-- R496, R508, R514: INH is driven high. -/
def State.inhHigh (s : State) : Bool := s.vbatOk && (s.power.mode != .off || s.rst.porDue || s.rst.porHeld)

/-- R498, R501: the mode that the transceiver moves to. A pending SLEEP is entered by the step of its own. -/
def State.trxTarget (s : State) : Nat :=
  let m := s.get CANX.MODE
  if m == 3 then s.get CANX.MODE_NOW
  else if m < 2 && s.island .can != .running && s.island .can != .stopped then 2
  else m

/-- R510, R511: the decoder stops and its counter starts anew. -/
def State.decoderOff (s : State) : State := { s with trx := { s.trx with decoding := false, fec := 0, inUse := [] } }

/-- R502: the driver turns on again at the first recessive transmit bit of CAN-A. -/
def State.txdRecessive (s : State) (x : Nat) : State := s.when (x == 0) (fun s => s.put CANX.TXD_OFF 0)

/-- R500, R511: the transition under way completes. The decoder works in STANDBY and SLEEP only, and starts anew in them. -/
def State.trxMove (s : State) : State :=
  let t := s.trxTarget
  if t == s.get CANX.MODE_NOW || 3 ≤ s.get CANX.MODE_NOW then s
  else
    let s := (s.put CANX.MODE_NOW t).raise CANX.MODE_CHANGED
    s.decoderOff.when (t != 0) (fun s => s.put CANX.TXD_OFF 0)

/-- R504: the fail-safe timer starts unless it runs; unpowered, the VBAT part starts nothing. -/
def State.fsStart (s : State) : State :=
  if s.on CANX.FS_RUN || !s.trx.vbatPart then s else (s.put CANX.FS_RUN 1).raise CANX.FS_TIMER_STARTED

/-- R506: what a write of MODE does, `old` being the value before. -/
def State.trxModeWritten (s : State) (old : Nat) : State :=
  if s.get CANX.MODE == 3 then
    let s := s.fsStart
    if s.vbatOk then s.put CANX.SLEEP_PEND 1 else (s.put CANX.MODE old).raise CANX.SLEEP_REFUSED
  else s.put CANX.SLEEP_PEND 0

/-- R513, R514: a wake sets its bit and WAKE_DETECTED; it is a wake source in LULL and CALM, and it ends OFF. -/
def State.trxWake (s : State) (bitFld : Fld) (src : Nat) : State :=
  let s := { s with trx := { s.trx with fec := 0 } }
  if s.power.mode == .off then (s.raise bitFld).exitOff
  else ((s.raise bitFld).raise CANX.WAKE_DETECTED).wake src

/-- The offsets of the decoder's registers: WAKE_CFG, WUF_ID, IDMASK, DMASK0, DMASK1 and WUF_CTL. -/
def decoderOffsets : List Nat := [0x18, 0x1C, 0x20, 0x24, 0x28, 0x2C]

/-- R509, R510: a wake-up pattern wakes, or starts the decoder with the settings as they stand. -/
def State.wakePattern (s : State) : State :=
  if !(s.trxLow && s.vbatOk) then s
  else if s.on CANX.WUF_EN then
    if s.trx.decoding then s
    else { s with trx := { s.trx with
      decoding := true
      inUse := decoderOffsets.map (fun o => (o, s.fieldWord (pageAddr 0x14 o))) } }
  else if s.on CANX.WUP_EN then s.trxWake CANX.WAKE_WUP 2
  else s

/-- The decoder setting at offset `o` that is in use (Table 12.6, the note on writes to an active decoder). -/
def State.decoderWord (s : State) (o : Nat) : Nat := (Table.find s.trx.inUse o).getD (s.fieldWord (pageAddr 0x14 o))

/-- The data length of a DLC. -/
def dlcLength (fdf : Bool) (dlc : Nat) : Nat := if dlc ≤ 8 then dlc else if fdf then nth [12, 16, 20, 24, 32, 48, 64] (dlc - 9) else 8

/-- The identifier and flags of a frame in the layout of word 0 (Table 11.4). -/
def frameWord0 (f : CanFrame) : Nat :=
  (if f.xtd then f.id.toNat else f.id.toNat / 2 ^ 18 * 2 ^ 18) + ofBool f.xtd * 2 ^ 29 + ofBool f.rtr * 2 ^ 30 + ofBool f.fdf * 2 ^ 31

/-- The bytes of a frame, as many as its DLC says; a remote frame has none. -/
def frameData (f : CanFrame) : List Nat :=
  if f.rtr then [] else padTo (dlcLength f.fdf f.dlc.toNat) (f.data.map (·.toNat))

/-- Does a value agree with another in the bits of a mask? -/
def agree (mask a b : Nat) : Bool := (a ^^^ b) &&& mask == 0

/-- R510: does the decoder take the frame for a wake-up frame? -/
def State.isWuf (s : State) (f : CanFrame) : Bool :=
  let ctl := s.decoderWord 0x2C
  let masks := bytesLE 4 (s.decoderWord 0x24) ++ bytesLE 4 (s.decoderWord 0x28)
  let data := frameData f
  !f.fdf && !f.rtr && agree (s.decoderWord 0x20) (frameWord0 f) (s.decoderWord 0x1C) &&
    (!bit ctl 4 || (f.dlc.toNat == bits ctl 0 4 &&
      (f.dlc.toNat == 0 || (List.zipWith (fun a b => a &&& b) data masks).any (· != 0))))

/-- R511: a frame error; beyond FEC_LIMIT the decoder wakes. -/
def State.decoderError (s : State) : State :=
  let n := s.trx.fec + 1
  if bits (s.decoderWord 0x2C) 8 5 < n then s.trxWake CANX.WAKE_FRAME_ERR 2
  else { s with trx := { s.trx with fec := n } }

/-- R510, R511: the decoder meets a frame. -/
def State.decoderFrame (s : State) (f : CanFrame) : State :=
  if !(s.trxLow && s.vbatOk && s.trx.decoding) then s
  else if f.fdf then (if bit (s.decoderWord 0x18) 6 then s else s.decoderError)
  else if s.isWuf f then s.trxWake CANX.WAKE_WUF 2
  else { s with trx := { s.trx with fec := s.trx.fec - 1 } }

/-- R511: the decoder meets a frame with an error. -/
def State.decoderBadFrame (s : State) (fd : Bool) : State :=
  if !(s.trxLow && s.vbatOk && s.trx.decoding) || (fd && bit (s.decoderWord 0x18) 6) then s else s.decoderError

/-- R512: the filtered WAKE level changes. While VBAT_OK is 0 the level follows all the same, and no wake is detected (R496). -/
def State.wakePad (s : State) (level : Bool) : State :=
  if s.fab.wakeLevel == level then s
  else
    let s := { s with fab := { s.fab with wakeLevel := level } }
    let s := s.when (s.power.mode != .off) (fun s => s.padEvent 0x1D level)
    s.when (s.vbatOk && s.on CANX.PAD_EN && bit (s.get CANX.PAD_EDGE) (if level then 0 else 1)) (fun s => s.trxWake CANX.WAKE_PAD 1)

/-- The fields that the VBAT part holds, with the words they stand in. -/
def vbatFields : List Fld :=
  (([0x14, 0x18, 0x1C, 0x20, 0x24, 0x28, 0x2C, 0x30] : List Nat).flatMap CANX.fieldsAt).filter (fun f => f.keep == .vbat)

/-- R497: the VBAT part starts: its fields take their stated values. -/
def State.vbatStart (s : State) : State :=
  if s.trx.vbatPart then s
  else
    let s := vbatFields.foldl (fun st f => st.put f f.reset) s
    { s with trx := { s.trx with vbatPart := true, decoding := false, fec := 0, inUse := [] } }

/-- R496, R505, R514, R522: VBAT falls below 3.0 V: the timer stops, and what the VBAT part held is lost. -/
def State.vbatLost (s : State) : State :=
  ((s.put CANX.FS_RUN 0).put CANX.FS_EXPIRED 0).decoderOff |>
    fun s => { s with trx := { s.trx with vbatPart := false, expired := false, byTimer := false, keptOff := false } }

/-- R507: the fail-safe timer expires. -/
def State.fsExpire (s : State) : State :=
  if s.on CANX.FS_RUN then { (s.put CANX.FS_EXPIRED 1) with trx := { s.trx with expired := true } } else s

end Sys2Proof.Machine
end

