-- ==== Sys2Proof/Machine/Can.lean ====
section
/-!
DEFINITION. The CAN controllers (chapter 11): modes and bit timing, object events, filtering, storage, the read lock, transmission, cancels,
error confinement, the matchers, and what reads and writes of the pages and objects do.
-/

namespace Sys2Proof.Machine

/-- The master code of controller `x`. -/
def canMaster (x : Nat) : Nat := 0x30 + x

/-! ### Modes and bit timing (R433 to R438) -/

/-- Table 11.2, nominal rows. -/
def State.nominalOk (s : State) (x : Nat) : Bool :=
  let tq := 3 + s.get (CAN.NTSEG1 x) + s.get (CAN.NTSEG2 x)
  let cycles := (s.get (CAN.NBRP x) + 1) * tq
  decide (1 ≤ s.get (CAN.NTSEG1 x)) && decide (s.get (CAN.NSJW x) ≤ s.get (CAN.NTSEG2 x)) && decide (8 ≤ tq) && decide (tq ≤ 385) &&
    decide (80 ≤ cycles) && decide (cycles ≤ 8000)

/-- Table 11.2, data rows: at least the nominal rate; at most 5 Mbit/s on CAN-A and 8 Mbit/s on CAN-B. -/
def State.dataOk (s : State) (x : Nat) : Bool :=
  let tq := 3 + s.get (CAN.DTSEG1 x) + s.get (CAN.DTSEG2 x)
  let cycles := (s.get (CAN.DBRP x) + 1) * tq
  decide (s.get (CAN.DSJW x) ≤ s.get (CAN.DTSEG2 x)) && decide (5 ≤ tq) && decide (tq ≤ 49) &&
    decide (cycles ≤ (s.get (CAN.NBRP x) + 1) * (3 + s.get (CAN.NTSEG1 x) + s.get (CAN.NTSEG2 x))) &&
    decide ((if x = 0 then 16 else 10) ≤ cycles)

/-- R434: does the configuration pass the check? -/
def State.timingOk (s : State) (x : Nat) : Bool := s.nominalOk x && (!s.on (CAN.FD_EN x) || s.dataOk x)

/-- R433, R435: the mode of a controller; while STOPPED waits for the end of a frame it is the one from before. -/
def State.ownMode (s : State) (x : Nat) : Nat := if (s.canCtl x).stopping then (s.canCtl x).acting else s.get (CAN.MODE x)

/-- R433, R489, R501: the mode a controller acts in: CAN-A in LISTEN whatever MODE holds while the transceiver is not in NORMAL. One that MODE
keeps STOPPED has not joined the bus (ACT, R434), so there is nothing that it receives. -/
def State.canMode (s : State) (x : Nat) : Nat := if x = 0 && s.trxListen then 2 else s.ownMode x

/-- Does the controller follow the bus without a frame of its own on it (ACT IDLE or RECEIVING)? -/
def State.canQuiet (s : State) (x : Nat) : Bool := s.get (CAN.ACT x) == 2 || s.get (CAN.ACT x) == 3

/-- Is the controller on the bus: clocked, integrated and not bus-off? -/
def State.canOnBus (s : State) (x : Nat) : Bool := s.up .can && (s.canQuiet x || s.get (CAN.ACT x) == 4)

/-- R433, R436, R437, R502: can the transmit signal of CAN-A be dominant: in a frame, in a mode that drives the bus? -/
def State.canSpeaks (s : State) : Bool :=
  s.up .can && (s.canMode 0 == 1 || s.canMode 0 == 4) && (s.get (CAN.ACT 0) == 3 || s.get (CAN.ACT 0) == 4)

/-- Is the controller in its stopped state (R145, R433)? -/
def State.canStopped (s : State) (x : Nat) : Bool := s.get (CAN.ACT x) == 0

/-- R435: STOPPED takes effect. -/
def State.canStop (s : State) (x : Nat) : State :=
  let s := s.modCan x (fun c => { c with stopping := false, wasOff := s.on (CAN.BUS_OFF x) })
  (s.put (CAN.ACT x) 0).txdRecessive x

/-- R473: error passive while a counter is 128 or more; each change sets ERR_PASSIVE. -/
def State.judgePassive (s : State) (x : Nat) : State :=
  let p := decide (128 ≤ s.get (CAN.TEC x)) || decide (128 ≤ s.get (CAN.REC x))
  if p == s.on (CAN.PASSIVE x) then s else (s.putB (CAN.PASSIVE x) p).raise (CAN.ERR_PASSIVE x)

/-- R435: is a frame, an error frame or an overload frame in progress on the bus of controller `x`? While ACT is
IDLE, no command tells of an error or overload frame, nor of a frame that is met whole, so that it is a free value (assumption log 13), except
where the controller sees no bus (R437, R501). -/
def State.busBusy (s : State) (x : Nat) : Bool × State :=
  if s.get (CAN.ACT x) == 3 || s.get (CAN.ACT x) == 4 then (true, s)
  else if s.canMode x == 3 || (x = 0 && s.trxLow) then (false, s)
  else s.freeBool

/-- R435: STOPPED is written; `old` is the mode before it. -/
def State.canStopAsked (s : State) (x old : Nat) : State :=
  let s := s.modCan x (fun c => { c with stopping := true, acting := old })
  let v := s.busBusy x
  if v.1 then v.2 else v.2.canStop x

/-- R434, R435: what a write of MODE does; `old` is the value before. -/
def State.canModeWritten (s : State) (x old : Nat) : State :=
  let m := s.get (CAN.MODE x)
  if old == 0 && m != 0 then
    if !s.timingOk x then (s.put (CAN.MODE x) 0).raise (CAN.CFG_REJECT x)
    else
      let off := if s.canStopped x then (s.canCtl x).wasOff else s.on (CAN.BUS_OFF x)
      let s := s.when (!off) (fun s => ((s.put (CAN.TEC x) 0).put (CAN.REC x) 0).judgePassive x)
      let s := s.when (s.canStopped x) (fun s => s.put (CAN.ACT x) (if off then 6 else 1))
      s.modCan x (fun c => { c with stopping := false })
  else if old != 0 && m == 0 then
    if (s.canCtl x).stopping then s else s.canStopAsked x old
  else s

/-! ### Events and errors (R473, R481) -/

/-- R481: the event of an object: its line, when it has one that its owner owns, and the line's fabric source. -/
def State.objEvent (s : State) (x o : Nat) : State :=
  let w := s.word1 x o
  let line := bits w 12 3
  let src := if x = 0 then 56 + line else 72 + line
  if bit w 11 && s.srcOwner src == s.objOwner x o then (s.raise (CAN.LINE x) line).fire ((if x = 0 then 0x30 else 0x38) + line)
  else s

/-- The state with bits of word 1 replaced. -/
def State.setW1 (s : State) (x o lsb w n : Nat) : State := s.setWord1 x o (setBits (s.word1 x o) lsb w n)

/-- ISO 11898-1: a valid received frame lowers REC: by 1, or from above 127 to a value from 119 to 127 (a free value). -/
def State.recDown (s : State) (x : Nat) : State :=
  let r := s.get (CAN.REC x)
  if 127 < r then
    let v := s.free 8
    (v.2.put (CAN.REC x) (119 + v.1 % 9)).judgePassive x
  else (s.put (CAN.REC x) (r - 1)).judgePassive x

/-! ### Terminal states (R458, R463, R467, Table 11.8) -/

/-- The consumer of queue-fed object `o` of controller `x`, if it is one. -/
def qtxConsumer (x o : Nat) : Option Nat := if 120 ≤ o then some (0x20 + 8 * x + (o - 120)) else none

/-- The descriptor that object `o` serves. -/
def State.qtxSlot (s : State) (x o : Nat) : Option Nat :=
  if s.objType x o == 4 then ((qtxConsumer x o).bind s.activeAt).map (·.slot) else none

/-- Table 11.8: the status of a descriptor whose object ends in state `n`. -/
def qtxStatus (n : Nat) : Nat :=
  if n = 3 || n = 4 then stDone else if n = 5 || n = 6 then stCancelled else if n = 9 then stBad else stEcc

/-- An object enters a terminal state: its line event, and the completion of its descriptor. -/
def State.objEnd (s : State) (x o n : Nat) : State :=
  let slot := s.qtxSlot x o
  let s := (s.setObjState x o n).objEvent x o
  match slot with
  | some k => if n = 7 then s.completeMissed k else s.complete k (qtxStatus n)
  | none => s

/-- R463, R468: an object whose latest start has passed is withdrawn. -/
def State.objWithdraw (s : State) (x o : Nat) : State :=
  if s.objType x o == 4 then s.objEnd x o 7
  else ((s.missRecord (s.objOwner x o) 3 (canWord x o 0) (canMaster x)).raise (CAN.TX_DEADLINE x)).objEnd x o 7

/-- Word `w` of an object in its owner's plaintext. -/
def State.objWord (s : State) (x o w : Nat) : Nat := s.word (s.objOwner x o) (canWord x o w)

/-- R463: has the latest start of a PENDING object passed? -/
def State.startPassed (s : State) (x o : Nat) : Bool :=
  s.objState x o == 1 && s.objWord x o 3 != 0 && tickPassed s.tick32 (s.objWord x o 3)

/-- R463: the latest starts of all PENDING objects are judged. -/
def State.judgeStarts (s : State) (x : Nat) : State :=
  (List.range 128).foldl (fun st o => st.when (st.startPassed x o) (fun st => st.objWithdraw x o)) s

/-! ### Reception (R445 to R455) -/

/-- Is a read of word `w` of an object by the controller spoilt by an uncorrectable error? -/
def State.objEccBad (s : State) (x o w : Nat) : Bool := s.eccBad (canWord x o w)

/-- R445, R446: does head `o` take a frame with this word 0? A head whose filter cannot be read takes none. -/
def State.headTakes (s : State) (x o w0 : Nat) : Bool :=
  s.objType x o == 1 && !s.objEccBad x o 0 && !s.objEccBad x o 2 && agree (s.objWord x o 2) (s.objWord x o 0) w0

/-- R446: the first matching head among these objects; a filter with an uncorrectable error is recorded and passed over. -/
def State.scanHeads (x w0 : Nat) : State → List Nat → State × Option Nat
  | s, [] => (s, none)
  | s, o :: os =>
    if s.objType x o == 1 && (s.objEccBad x o 0 || s.objEccBad x o 2) then
      State.scanHeads x w0
        (s.eccRecord (s.objOwner x o) (canWord x o (if s.objEccBad x o 0 then 0 else 2)) (canMaster x)) os
    else if s.headTakes x o w0 then (s, some o)
    else State.scanHeads x w0 s os

/-- R449: a frame is stored in an object; word 1 takes DLC, BRS and ESI, and NEW sets. -/
def State.objStore (s : State) (x o : Nat) (f : CanStore) : State :=
  let t := s.objOwner x o
  let s := ((s.setWord t (canWord x o 0) f.word0).setWord t (canWord x o 3) f.time).setWords t (canWord x o 4) f.data
  (((s.setW1 x o 0 5 f.low).setW1 x o 5 1 (bits f.low 5 1)).setW1 x o 31 1 1).objEvent x o

/-- R447: the number of objects after head `o` that join its group. -/
def State.groupTail (s : State) (x o : Nat) : Nat → Nat → Nat
  | 0, _ => 0
  | n + 1, i => if s.objType x i == 2 && s.objOwner x i == s.objOwner x o then 1 + s.groupTail x o n (i + 1) else 0

/-- R449: the storage of a frame in an object begins. -/
def State.objStoring (s : State) (x o : Nat) (f : CanStore) : State := s.modCan x (fun c => { c with storing := some (o, f) })

/-- R449, R488: a storage that has begun ends: under the key of the object's owner as it is now, and with a line event only where word 1, which
a quiesce may have reset meanwhile, gives one. -/
def State.storeEnd (s : State) (x : Nat) : State :=
  match (s.canCtl x).storing with
  | some (o, f) => (s.modCan x (fun c => { c with storing := none })).objStore x o f
  | none => s

/-- R449: an object takes a frame, whose storage ends at once or goes on. -/
def State.objTake (s : State) (x o : Nat) (f : CanStore) (whole : Bool) : State := if whole then s.objStore x o f else s.objStoring x o f

/-- R448: a frame for the group of head `o`. -/
def State.groupTake (s : State) (x o : Nat) (f : CanStore) (whole : Bool) : State :=
  let size := 1 + s.groupTail x o (bits (s.word1 x o) 16 7) (o + 1)
  let k := (Table.find (s.canCtl x).next o).getD 0
  let k := if k < size then k else 0
  let w := s.word1 x (o + k)
  if bit w 31 || bit w 29 then ((s.setW1 x (o + k) 28 1 1).setW1 x o 28 1 1).raise (CAN.OVERRUN x)
  else
    let s := s.modCan x (fun c => { c with next := Table.set 0 c.next o ((k + 1) % size) })
    s.objTake x (o + k) f whole

/-- R450, R453: a frame for a plain RX object: the shadow while it is locked, else the object. -/
def State.plainTake (s : State) (x o : Nat) (f : CanStore) (whole : Bool) : State :=
  let w := s.word1 x o
  if bit w 29 then
    let again := bit w 30
    let s := s.modCan x (fun c => { c with
      shadow := Table.insert c.shadow o f
      replaced := if again then Table.insert c.replaced o () else c.replaced })
    if again then (s.setW1 x o 28 1 1).raise (CAN.OVERRUN x) else s.setW1 x o 30 1 1
  else
    let s := s.when (bit w 31) (fun s => (s.setW1 x o 28 1 1).raise (CAN.OVERRUN x))
    s.objTake x o f whole

/-- R446: a frame goes to the first matching head. -/
def State.canFilter (s : State) (x : Nat) (f : CanStore) (whole : Bool) : State :=
  match State.scanHeads x f.word0 s (List.range 128) with
  | (s, some o) => if bits (s.word1 x o) 16 7 == 0 then s.plainTake x o f whole else s.groupTake x o f whole
  | (s, none) => s

/-- Does the identifier of word 0 equal that of matcher `k` (0 SYNC, 1 FOLLOW-UP)? -/
def State.matchId (s : State) (x k w0 : Nat) : Bool :=
  s.get (CAN.SM_ID x k) == bits w0 0 29 && s.get (CAN.SM_XTD x k) == bits w0 29 1

/-- R479: is a received frame a sleep command? -/
def State.isSleepCmd (s : State) (x w0 : Nat) (data : List Nat) : Bool :=
  let want := bytesLE 4 (s.get (CAN.SLP_DATA x 0)) ++ bytesLE 4 (s.get (CAN.SLP_DATA x 1))
  let mask := bytesLE 4 (s.get (CAN.SLP_DMASK x 0)) ++ bytesLE 4 (s.get (CAN.SLP_DMASK x 1))
  s.on (CAN.SLP_EN x) && agree (s.get (CAN.SLP_IDMASK x)) (bits w0 0 30) (s.get (CAN.SLP_ID x) + s.get (CAN.SLP_XTD x) * 2 ^ 29) &&
    (List.range 8).all (fun j => nth mask j == 0 || (j < data.length && agree (nth mask j) (nth data j) (nth want j)))

/-- R480: a sleep command. -/
def State.sleepCommand (s : State) (x : Nat) : State :=
  let s := s.raise (CAN.SLEEP_CMD x)
  if x = 0 then (s.fire 0x3C).fsStart else s

/-- R449, R476, R479: a valid frame with this word 0, DLC, BRS and ESI, data bytes and age of its SOF edge in ns is received; `whole` tells that its
storage ends with it. -/
def State.canReceive (s : State) (x w0 dlc : Nat) (low : Nat) (data : List Nat) (age : Nat) (whole : Bool) : State :=
  let sof := s.now - age
  let fdf := bit w0 31
  let s := s.canFilter x ⟨w0, low, sof % 2 ^ 32, (List.range 16).map (fun i => ofBytesLE ((padTo 64 data).drop (4 * i) |>.take 4))⟩ whole
  let s := s.when (s.on (CAN.SM_EN x 0) && s.matchId x 0 w0 && 2 ≤ dlc && 2 ≤ data.length)
    (fun s => s.syncSeen x sof (nth data 0) (nth data 1))
  let s := s.when (s.on (CAN.SM_EN x 1) && s.matchId x 1 w0 && !data.isEmpty && dlc == (if fdf then 9 else 8))
    (fun s => s.followUpSeen x fdf data)
  s.when (s.isSleepCmd x w0 data) (fun s => s.sleepCommand x)

/-- DLC, BRS and ESI as word 1 takes them. -/
def frameLow (f : CanFrame) : Nat := f.dlc.toNat + ofBool (f.brs && f.fdf) * 2 ^ 4 + ofBool (f.esi && f.fdf) * 2 ^ 5

/-- R81, R434, R437, R501: does controller `x` meet the frames of other nodes? -/
def State.canHears (s : State) (x : Nat) : Bool :=
  s.up .can && s.canQuiet x && s.canMode x != 0 && s.canMode x != 3 && !(x = 0 && s.trxLow) && !(x = 1 && !s.fab.vio)

/-- R81, R436, R437, R449: a frame of another node becomes valid on the bus of controller `x`; `whole` tells that its storage ends with it. An
earlier one is stored by then. -/
def State.canFrame (s : State) (x : Nat) (f : CanFrame) (whole : Bool) : State :=
  if !s.canHears x || (f.fdf && !s.on (CAN.FD_EN x)) then s
  else
    let s := (((s.storeEnd x).put (CAN.ACT x) 2).txdRecessive x).canReceive x (frameWord0 f) f.dlc.toNat (frameLow f) (frameData f) f.age whole
    s.when (s.canMode x != 2) (fun s => s.recDown x)

/-- R449, R494: controller `x` meets another node's frame, or ends the storage of one. -/
def State.canSeen (s : State) (x : Nat) (k : CanSeen) : State :=
  match k with
  | .start => s.when (s.canHears x) (fun s => s.put (CAN.ACT x) 3)
  | .frame f => s.canFrame x f true
  | .valid f => s.canFrame x f false
  | .stored => s.when (s.up .can) (fun s => s.storeEnd x)

/-! ### The read lock (R451 to R457) -/

/-- R451: the owner has read word 0. -/
def State.objLock (s : State) (x o : Nat) : State :=
  if (s.objType x o == 1 || s.objType x o == 2) && !bit (s.word1 x o) 29 then
    (s.setW1 x o 29 1 1).modCan x (fun c => { c with lock := Table.insert c.lock o (s.objOwner x o), reported := Table.erase c.reported o })
  else s

/-- R454: the lock is released; a frame in the shadow moves into the object. -/
def State.objRelease (s : State) (x o : Nat) : State :=
  if !bit (s.word1 x o) 29 then s
  else
    let again := (Table.find (s.canCtl x).replaced o).isSome
    let held := if bit (s.word1 x o) 30 then Table.find (s.canCtl x).shadow o else none
    let s := s.setWord1 x o (bits (s.word1 x o) 0 28)
    let s := s.modCan x (fun c => { c with
      lock := Table.erase c.lock o
      reported := Table.erase c.reported o
      shadow := Table.erase c.shadow o
      replaced := Table.erase c.replaced o })
    match held with
    | some f => (s.when again (fun s => s.setW1 x o 28 1 1)).objStore x o f
    | none => s

/-- R456: the lock of an object has been held for longer than LOCK_LIMIT. -/
def State.lockLate (s : State) (x o : Nat) : State :=
  match Table.find (s.canCtl x).lock o, Table.find (s.canCtl x).reported o with
  | some t, none =>
    ((s.missRecord t 5 (canWord x o 0) (canMaster x)).raise (CAN.LOCK_DEADLINE x)).modCan x
      (fun c => { c with reported := Table.insert c.reported o () })
  | _, _ => s

/-! ### Word 1 (R442, R443, R459) -/

/-- R443: word 1 returns to its reset value; lock, shadow, rotation and requests go with it. -/
def State.objReset (s : State) (x o : Nat) : State :=
  (s.setWord1 x o 0).modCan x (fun c => { c with
    lock := Table.erase c.lock o
    reported := Table.erase c.reported o
    shadow := Table.erase c.shadow o
    replaced := Table.erase c.replaced o
    next := Table.erase c.next o
    cancels := Table.erase c.cancels o })

/-- R442, R325: the value word 1 takes from a write of `v`, apart from TYPE. -/
def State.word1Fields (s : State) (x o old v : Nat) : Nat :=
  let w := setBits (setBits (setBits old 0 4 v) 4 1 (bits v 4 1)) 6 1 (bits v 6 1)
  let w := if bits v 16 7 ≤ 127 - o then setBits w 16 7 (bits v 16 7) else w
  let line := if x = 1 && 4 ≤ bits v 12 3 then bits old 12 3 else bits v 12 3
  if s.srcOwner (if x = 0 then 56 + line else 72 + line) != s.objOwner x o then w else setBits (setBits w 12 3 line) 11 1 (bits v 11 1)

/-- R442, R459: word 1 of an object is written; the second value says whether the write is a LOCKED fault with DETAIL 1. -/
def State.writeWord1 (s : State) (x o v : Nat) : State × Bool :=
  let old := s.word1 x o
  let ty := bits old 8 3
  if (ty == 3 || ty == 4) && s.objBusy x o then (s, true)
  else
    let newTy := if bits v 8 3 ≤ 4 then bits v 8 3 else ty
    let w := s.word1Fields x o old v
    if newTy == ty then (s.setWord1 x o w, false)
    else if bit old 29 then (s.setWord1 x o w, true)
    else ((s.objReset x o).setWord1 x o (setBits (bits w 0 24) 8 3 newTy), false)

/-! ### Transmission (R458 to R464, R469 to R472) -/

/-- The order of arbitration: the smaller key wins. -/
def arbKey (w0 : Nat) : Nat :=
  let rtr := if bit w0 31 then 0 else bits w0 30 1
  let id := bits w0 18 11 * 2 ^ 21
  if bit w0 29 then id + 2 ^ 20 + 2 ^ 19 + bits w0 0 18 * 2 + rtr else id + rtr * 2 ^ 20

/-- R461: the PENDING object that would win, the lower number on a tie. -/
def State.bestPending (s : State) (x : Nat) : Option Nat :=
  (List.range 128).foldl (fun best o =>
    if s.objState x o == 1 then
      match best with
      | some b => if arbKey (s.objWord x o 0) < arbKey (s.objWord x b 0) then some o else best
      | none => some o
    else best) none

/-- The words that the controller reads at an attempt: 0, 3 and those of the data. -/
def State.attemptWords (s : State) (x o : Nat) : List Nat :=
  let w0 := s.objWord x o 0
  let len := if bit w0 30 then 0 else dlcLength (bit w0 31) (bits (s.word1 x o) 0 4)
  [0, 3] ++ (List.range ((len + 3) / 4)).map (· + 4)

/-- R460: may the format be sent? -/
def State.sendable (s : State) (x o : Nat) : Bool :=
  let w0 := s.objWord x o 0
  !(bit w0 31 && !s.on (CAN.FD_EN x)) && !(bit w0 31 && bit w0 30) && !(!bit w0 31 && 8 < bits (s.word1 x o) 0 4)

/-- R460: an attempt of object `o` begins, or ends it at once. -/
def State.beginFrame (s : State) (x o : Nat) : State :=
  match (s.attemptWords x o).find? (fun w => s.objEccBad x o w) with
  | some w => (s.eccRecord (s.objOwner x o) (canWord x o w) (canMaster x)).objEnd x o 10
  | none =>
    if !s.sendable x o then s.objEnd x o 9
    else
      let w0 := s.objWord x o 0
      let w1 := s.word1 x o
      let len := if bit w0 30 then 0 else dlcLength (bit w0 31) (bits w1 0 4)
      let data := ((List.range 16).flatMap (fun i => bytesLE 4 (s.objWord x o (4 + i)))).take len
      let low := bits w1 0 4 + (if bit w0 31 then bits w1 4 1 * 2 ^ 4 + ofBool (s.on (CAN.PASSIVE x)) * 2 ^ 5 else 0)
      let s := (s.setObjState x o 2).put (CAN.ACT x) 4
      s.modCan x (fun c => { c with send := some ⟨o, w0, low, data, false, false⟩ })

/-- R461: the controller picks its next frame. -/
def State.canPick (s : State) (x : Nat) (ecc : Bool) : State :=
  if !s.up .can then s
  else
    let s := (s.when (s.canQuiet x) (fun s => s.put (CAN.ACT x) 2)).judgeStarts x
    if s.get (CAN.ACT x) != 2 || s.get (CAN.MODE x) == 0 || s.canMode x == 2 then s
    else match s.bestPending x with
      | none => s
      | some o =>
        let s := s.txdRecessive x
        (s.when ecc (fun s => s.setEcc (canWord x o 0))).beginFrame x o

/-- The frame on the bus is over for its object, which ends in state `n`, or PENDING. -/
def State.frameOver (s : State) (x : Nat) (f : CanSend) (n : Nat) : State :=
  let s := ((s.modCan x (fun c => { c with send := none })).put (CAN.ACT x) 2).txdRecessive x
  let s := if n = 1 then s.setObjState x f.obj 1 else s.objEnd x f.obj n
  s.when f.orphan (fun s => s.objReset x f.obj)

/-- R462, R471, R475: what an object comes to when its attempt fails. -/
def State.failState (s : State) (x : Nat) (f : CanSend) : Nat :=
  if f.late then 6 else if s.objType x f.obj == 3 && bit (s.word1 x f.obj) 6 then 8 else if f.orphan then 5 else 1

/-- R436, R489: in LISTEN the controller drives no bus: a frame of its own goes no further. Its object is PENDING again, or ends as a late cancel
makes it (R471). Behind a transceiver in STANDBY, CAN-A sees an idle bus (R501), and a frame that it met is over for it. -/
def State.canSilence (s : State) (x : Nat) : State :=
  match (s.canCtl x).send with
  | some f => if s.canMode x == 2 then s.frameOver x f (if f.late then 6 else 1) else s
  | none => s.when (x = 0 && s.trxLow && s.get (CAN.ACT 0) == 3) (fun s => s.put (CAN.ACT 0) 2)

/-- R502, R507: is the driver of CAN-A off under a frame that needs it? -/
def State.undriven (s : State) (x : Nat) : Bool := x = 0 && s.canMode 0 != 3 && !s.driverOn

/-- R462: arbitration is lost, and the frame of another node goes on. -/
def State.arbLost (s : State) (x : Nat) : State :=
  match (s.canCtl x).send with
  | some f => (s.frameOver x f (s.failState x f)).put (CAN.ACT x) 3
  | none => s

/-- R473 to R475: the controller goes bus-off. -/
def State.enterBusOff (s : State) (x : Nat) : State :=
  if s.get (CAN.ACT x) == 0 || s.on (CAN.BUS_OFF x) || s.canMode x == 2 then s
  else
    let s := (s.arbLost x).txdRecessive x
    let s := (((s.put (CAN.TEC x) 255).put (CAN.BUS_OFF x) 1).raise (CAN.BUS_OFF_EVT x)).judgePassive x
    s.put (CAN.ACT x) (if s.get (CAN.BOFF_MODE x) == 0 then 6 else 5)

/-- R462, R473: an error in the frame that the controller transmits; `counted` tells whether ISO 11898-1 adds 8 to TEC. -/
def State.txError (s : State) (x : Nat) (counted : Bool) : State :=
  match (s.canCtl x).send with
  | none => s
  | some f =>
    if s.canMode x == 2 then s.canSilence x else
    let tec := s.get (CAN.TEC x) + (if counted then 8 else 0)
    if 255 < tec then s.enterBusOff x
    else ((s.put (CAN.TEC x) tec).frameOver x f (s.failState x f)).judgePassive x

/-- R473: the counters move as ISO 11898-1 says of an error that the controller does not meet in a frame of its own (assumption log 32,
PRESUMED). In LISTEN they do not change (R436). -/
def State.canCount (s : State) (x : Nat) (e : CanErr) : State :=
  if !s.canOnBus x || s.canMode x == 2 then s
  else match e with
    | .receiver => (s.put (CAN.REC x) (min 255 (s.get (CAN.REC x) + 1))).judgePassive x
    | .receiverFlag => (s.put (CAN.REC x) (min 255 (s.get (CAN.REC x) + 8))).judgePassive x
    | .transmitterFlag =>
      if 255 < s.get (CAN.TEC x) + 8 then s.enterBusOff x else (s.put (CAN.TEC x) (s.get (CAN.TEC x) + 8)).judgePassive x

/-- R437, R458, R467, R477: the frame is valid for the transmitter. With the driver of CAN-A off it cannot be: it ends in an error (R507). -/
def State.frameSent (s : State) (x age : Nat) : State :=
  match (s.canCtl x).send with
  | none => s
  | some f =>
    if s.canMode x == 2 then s.canSilence x
    else if s.undriven x then s.txError x true else
    let s := (s.put (CAN.TEC x) (s.get (CAN.TEC x) - 1)).judgePassive x
    let s := s.when (s.matchId x 0 f.word0) (fun s => s.captureInputAt (2 + x) age)
    let s := s.when (s.canMode x == 3 || s.canMode x == 4) (fun s => s.canReceive x f.word0 (bits f.low 0 4) f.low f.data age true)
    s.frameOver x f (if f.late then 4 else 3)

/-- R469: a cancel is requested, which acts by the object's state when it is sampled (R471); a descriptor that is served will not be re-linked
(R467). -/
def State.cancelObj (s : State) (x o : Nat) : State :=
  let s := match s.qtxSlot x o with
    | some k => s.noteCancel k
    | none => s
  s.modCan x (fun c => { c with cancels := Table.insert c.cancels o () })

/-- R471, R472, R482, R483: a requested cancel is sampled. A controller that withdraws its frame counts as a receiver. -/
def State.sampleCancel (s : State) (x o : Nat) (committed : Bool) : State :=
  if (Table.find (s.canCtl x).cancels o).isNone then s
  else
    let s := s.modCan x (fun c => { c with cancels := Table.erase c.cancels o })
    if s.startPassed x o then s.objWithdraw x o
    else if s.objState x o == 1 then s.objEnd x o 5
    else match (s.canCtl x).send with
      | some f =>
        if f.obj != o then s
        else if committed then s.modCan x (fun c => { c with send := some { f with late := true } })
        else (s.frameOver x f 5).put (CAN.ACT x) 3
      | none => s

/-! ### Recovery (R434, R474) -/

/-- The recovery sequence starts. -/
def State.startRecovery (s : State) (x : Nat) : State := s.when (s.get (CAN.ACT x) == 5) (fun s => s.put (CAN.ACT x) 6)

/-- R474: the recovery sequence ends. -/
def State.endRecovery (s : State) (x : Nat) : State :=
  if s.get (CAN.ACT x) == 6 then
    let s := ((s.put (CAN.TEC x) 0).put (CAN.REC x) 0).judgePassive x
    ((s.put (CAN.BUS_OFF x) 0).put (CAN.ACT x) 2).raise (CAN.BUS_OFF_RECOVERED x)
  else s

/-! ### Tenants, islands (R178, R206, R215, R443) -/

/-- R206, R215: the objects of a reset tenant; one with a frame on the bus follows at the frame's end. -/
def State.canQuiesce (s : State) (t : Nat) : State :=
  [0, 1].foldl (fun s x =>
    (List.range 128).foldl (fun st o =>
      if st.objOwner x o != t then st
      else match (st.canCtl x).send with
        | some f =>
          if f.obj == o then st.modCan x (fun c => { c with send := some { f with orphan := true } }) else st.objReset x o
        | none => st.objReset x o) s) s

/-- R443: every object of controller `x` is free again. -/
def State.canForget (s : State) (x : Nat) : State :=
  s.modCan x (fun c => { noCan with wasOff := c.wasOff })

/-! ### The CANA and CANB pages -/

/-- The objects that tenant `t` holds locked (R494). -/
def State.locksOf (s : State) (x t : Nat) : List Nat :=
  (List.range 128).filter (fun o => Table.find (s.canCtl x).lock o == some t)

/-- Bits of the word at `off` that its read computes for tenant `t`. -/
def State.canRead (s : State) (x off t : Nat) : Nat :=
  if off = 0x24 then ofBool (x = 0 && s.trxListen) * 2 ^ 8
  else if off = 0x5C then
    let l := s.locksOf x t
    l.length + l.headD 0 * 2 ^ 16 + ofBool (!l.isEmpty) * 2 ^ 31
  else 0

/-- R494: a tenant-indexed command of tenant `t` for object `o`. -/
def State.canCommand (s : State) (x off o : Nat) : State :=
  if off = 0x50 then s.canRequest x o
  else if off = 0x54 then s.cancelObj x o
  else s.objRelease x o

/-- What a write of the word at `off` does beyond its fields; `old` is the state before it. -/
def State.canWrote (s : State) (x off : Nat) (old : State) : State :=
  if off = 0x10 then
    let s := s.when (!old.canStopped x) (fun s => s.put (CAN.FD_EN x) (old.get (CAN.FD_EN x)))
    (s.canModeWritten x (old.get (CAN.MODE x))).canSilence x
  else if off = 0x14 then
    let asked := s.on (CAN.RECOVER x)
    let s := s.put (CAN.RECOVER x) 0
    s.when (asked && s.get (CAN.BOFF_MODE x) == 1) (fun s => s.startRecovery x)
  else if (off = 0x18 || off = 0x1C) && !old.canStopped x then ({ s with fields := old.fields }).raise (CAN.CFG_REJECT x)
  else s

end Sys2Proof.Machine
end

