-- ==== Sys2Proof/Machine/Control.lean ====
section
/-!
DEFINITION. The control engine's stages and samples, the ADCs, the PWM pairs (chapter 16), and what reads and writes of the CTRL, ADC and
PWM pages do beyond their fields.
-/

namespace Sys2Proof.Machine

/-! ### Stages, commits and deadlines (R647 to R652) -/

/-- R641, R652: a stage at position `p` of loop `n` has wrapped. -/
def State.noteWrap (s : State) (n p : Nat) : State :=
  ((s.raise (CTRL.LWRAP n) p).raise CTRL.WRAP).loopLine n (CTRL.ON_WRAP n)

/-- The words that the engine reads for an operand of position `p` of loop `n` (Table 16.2). -/
def State.operandReads (s : State) (n p c : Nat) : List Nat :=
  let first := s.get (CTRL.FIRST n)
  if 0x08 ≤ c && c ≤ 0x0F then
    stageWord (first + (c - 8)) 16 :: (if c - 8 < p then [] else [stageWord (first + (c - 8)) 28])
  else if 0x10 ≤ c && c ≤ 0x1F then [stageWord (first + p) (c - 0x10)]
  else if 0x30 ≤ c && c ≤ 0x3F then
    let k := s.get (CTRL.FIRST (c - 0x30)) + s.get (CTRL.COUNT (c - 0x30)) - 1
    [stageWord k 16, stageWord k 28]
  else []

/-- The words that the engine reads for the stage at position `p` of loop `n` (Tables 16.1 and 16.3). -/
def State.stageReads (s : State) (n p : Nat) : List Nat :=
  let k := s.get (CTRL.FIRST n) + p
  let cfg := s.stageCfg n k 16
  let own := match bits cfg 0 3 with
    | 1 => [16, 18, 23] | 2 => [16, 17] | 3 => [16, 18, 24] | 4 => [16, 18, 19, 20, 21, 22, 24, 25] | 5 => [16, 17, 18, 19, 20, 24, 25]
    | _ => [16]
  own.map (stageWord k) ++ (usedOperands cfg (s.stageCfg n k 17)).flatMap (s.operandReads n p)

/-- The first word that the engine reads for a stage and finds to have an uncorrectable error. -/
def State.stageEcc (s : State) (n p : Nat) : Option Nat := (s.stageReads n p).find? (fun a => s.eccBad a)

/-- R651: the sample of loop `n` is abandoned for an uncorrectable error at `p`. -/
def State.stageSpoilt (s : State) (n p : Nat) : State :=
  ((s.eccRecord (s.owner tblLoop n) p 0x50).abandonSample n)

/-- R647: the stage that runs ends. After the last stage the engine waits for the commit, which falls in the same cycle. -/
def State.stageEnd (s : State) (ecc : Bool) : State :=
  match s.ctl.stage with
  | none => s
  | some n =>
    match s.sampleAt n with
    | none => s
    | some x =>
      match x.run with
      | none => s
      | some (y, s0, s1, wrap) =>
        let p := x.outs.length
        let k := s.get (CTRL.FIRST n) + p
        match s.stageEcc n p, ecc with
        | some a, _ => s.stageSpoilt n a
        | none, true => (s.setEcc (stageWord k 16)).stageSpoilt n (stageWord k 16)
        | none, false =>
          let s := s.when wrap (fun s => s.noteWrap n p)
          let s := s.setSample n (some ⟨x.outs ++ [y], x.s0 ++ [s0], x.s1 ++ [s1], none⟩)
          if p + 1 < s.get (CTRL.COUNT n) then ({ s with ctl := { s.ctl with stage := none } }).engineNext else s

/-- R649: the new state and output of position `p` of loop `n`. -/
def State.commitStage (n : Nat) (x : Sample) (s : State) (p : Nat) : State :=
  let t := s.owner tblLoop n
  let k := s.get (CTRL.FIRST n) + p
  let ty := bits (s.stageCfg n k 16) 0 3
  let s := s.when (3 ≤ ty && ty ≤ 5) (fun s => s.setWord t (stageWord k 24) (ofSigned (if ty = 5 then 24 else 18) (x.s0.getD p 0)))
  let s := s.when (4 ≤ ty && ty ≤ 5) (fun s => s.setWord t (stageWord k 25) (ofSigned 18 (x.s1.getD p 0)))
  s.setWord t (stageWord k 28) (ofSigned 24 (x.outs.getD p 0) + ofSigned 6 (s.stageExp n k) * 2 ^ 24)

/-- R664: a compare value is clamped to 0 to PER. -/
def State.clampCmp (s : State) (k : Nat) (v : Int) : State :=
  let c := clampInt 0 (s.get (PWM.PER k)) v
  (s.put (PWM.CMP k) c.toNat).when (c != v) (fun s => s.raise (PWM.CLAMPED k))

/-- R664: floor(y × 2^E). -/
def compareValue (y e : Int) : Int := if 0 ≤ e then y * 2 ^ e.toNat else Int.fdiv y (2 ^ (-e).toNat)

/-- R649: the output of loop `n` is to be written to its pair in the next cycle. -/
def State.writeOutput (s : State) (n : Nat) (y e : Int) : State :=
  if !s.on (CTRL.OUT_EN n) then s
  else { s with ctl := { s.ctl with out := Table.insert s.ctl.out (s.get (CTRL.OUT_PAIR n)) (n, compareValue y e) } }

/-- R649, R676: the output of loop `n` reaches pair `k`, if they still have one owner. -/
def State.outputWritten (s : State) (k n : Nat) (v : Int) : State :=
  if s.owner tblPair k != s.owner tblLoop n then s.raise (CTRL.BIND_DENIED n) else s.clampCmp k v

/-- R649, R672, R673: the outputs committed in the cycle before are written. A write of firmware in this cycle has come before. -/
def State.writeOutputs (s : State) : State :=
  s.ctl.out.foldl (fun st e => st.outputWritten e.1 e.2.1 e.2.2) { s with ctl := { s.ctl with out := [] } }

/-- R649: the sample of loop `n` commits. -/
def State.commit (s : State) (n : Nat) : State :=
  match s.sampleAt n with
  | none => s
  | some x =>
    let count := s.get (CTRL.COUNT n)
    if x.outs.length < count then s
    else
      let e := s.stageExp n (s.get (CTRL.FIRST n) + count - 1)
      let s := (List.range count).foldl (State.commitStage n x) s
      let s := s.writeOutput n (x.outs.getD (count - 1) 0) e
      let s := (s.loopLine n (CTRL.ON_COMMIT n)).abandonSample n
      s.fire (0x60 + n)

/-- R650: the deadline of the sample of loop `n` has passed. -/
def State.loopDeadline (s : State) (n : Nat) : State :=
  if (s.sampleAt n).isSome then (s.loopMiss n).abandonSample n else s

/-- R645, R678: a sample in progress and a held trigger of loop `n` are discarded, with no record. -/
def State.dropSample (s : State) (n : Nat) : State :=
  let s := (s.clear (CTRL.HELD n)).setSample n none
  s.when (s.ctl.stage == some n) (fun s => ({ s with ctl := { s.ctl with stage := none } }).engineNext)

/-- R677: the control island stops: samples in progress and held triggers are reported and dropped. -/
def State.stopLoops (s : State) : State :=
  (List.range 16).foldl (fun st n =>
    let st := st.when (st.on (CTRL.HELD n)) (fun st => st.loopMiss n)
    let st := st.when (st.sampleAt n).isSome (fun st => st.loopMiss n)
    (st.clear (CTRL.HELD n)).setSample n none) { s with ctl := { s.ctl with stage := none } }

/-! ### Loop configuration (R643 to R645, R325) -/

/-- R643: may loop `n` have this range? -/
def State.rangeOk (s : State) (n first count : Nat) : Bool :=
  count == 0 || (decide (first + count ≤ 64) &&
    (List.range 16).all (fun m => m == n || s.get (CTRL.COUNT m) == 0 ||
      decide (first + count ≤ s.get (CTRL.FIRST m)) || decide (s.get (CTRL.FIRST m) + s.get (CTRL.COUNT m) ≤ first)))

/-- The range of loop `n` as it was. -/
def State.keepRange (s : State) (n : Nat) (old : State) : State :=
  (s.put (CTRL.FIRST n) (old.get (CTRL.FIRST n))).put (CTRL.COUNT n) (old.get (CTRL.COUNT n))

/-- R645: loop `n`, enabled so far, is disabled; `old` tells the pair it is bound to. -/
def State.loopOff (s : State) (n : Nat) (old : State) : State :=
  (s.dropSample n).when (old.on (CTRL.OUT_EN n)) (fun s => s.forceSafe (old.get (CTRL.OUT_PAIR n)))

/-- What a write of the configuration word of loop `n` does. One that names a line whose source the loop's owner does not own leaves LINE as it was
and selects no line by LINE_EN (R325). -/
def State.loopCfgWritten (s : State) (n : Nat) (old : State) : State :=
  let s := if s.get (CTRL.FIRST n) = old.get (CTRL.FIRST n) && s.get (CTRL.COUNT n) = old.get (CTRL.COUNT n) then s
    else if old.on (CTRL.EN n) then s.keepRange n old
    else if s.rangeOk n (s.get (CTRL.FIRST n)) (s.get (CTRL.COUNT n)) then s
    else (s.keepRange n old).raise (CTRL.CFG_REJ n)
  let s := s.when (s.srcOwner (104 + s.get (CTRL.LINE_SEL n)) != s.owner tblLoop n) (fun s =>
    (s.put (CTRL.LINE_SEL n) (old.get (CTRL.LINE_SEL n))).putB (CTRL.LINE_EN n) (s.on (CTRL.LINE_EN n) && old.on (CTRL.LINE_EN n)))
  if s.on (CTRL.EN n) && !old.on (CTRL.EN n) then
    if s.loopOk n then s else (s.put (CTRL.EN n) 0).raise (CTRL.CFG_REJ n)
  else if !s.on (CTRL.EN n) && old.on (CTRL.EN n) then s.loopOff n old
  else s

/-- What a write of the word at `off` of the CTRL page does beyond its fields. -/
def State.ctrlWrote (s : State) (off : Nat) (old : State) : State :=
  if 0x100 ≤ off && off < 0x200 && off % 16 == 0 then s.loopCfgWritten ((off - 0x100) / 16) old else s

/-! ### ADCs (R653 to R658) -/

/-- R653, R656: the code of 1/`d` of a voltage, in µV. -/
def adcCode (uv : Int) (d : Nat) : Nat := (clampInt 0 4095 (Int.fdiv (uv * 4096) (3300000 * d))).toNat

/-- R653, R654: the code of the input that entry `k` of ADCA_LIST selects, of AIN0 to AIN5 at these voltages; a reserved entry gives a free one. -/
def State.adcaCode (s : State) (k : Nat) (ain : List Int) : Nat × State :=
  let e := s.get (ADC.A_ENTRY k)
  if e ≤ 5 then (adcCode (ain.getD e 0) 1, s) else s.free 12

/-- R656, Table 16.4: the code of the channel that entry `k` of ADCB_LIST selects; a reserved entry gives a free one. -/
def State.adcbCode (s : State) (k : Nat) (v : AdcbInputs) : Nat × State :=
  match s.get (ADC.B_ENTRY k) with
  | 8 => (adcCode v.vbat 16, s)
  | 9 => (adcCode v.vstore 2, s)
  | 10 => (adcCode v.vharv 2, s)
  | 11 => (adcCode v.viso 4, s)
  | 12 => (adcCode 1200000 1, s)
  | e => if e ≤ 5 then (adcCode (v.ain.getD e 0) 1, s) else s.free 12

/-- R654: a conversion of ADC-A ends. -/
def State.adcaConverted (s : State) (ain : List Int) : State :=
  match s.ctl.adcA with
  | some k =>
    if s.up .control && k ≤ s.get ADC.A_LEN then
      let c := s.adcaCode k ain
      { (c.2.put (ADC.A_RES k) c.1) with ctl := { s.ctl with adcA := some (k + 1) } }
    else s
  | none => s

/-- R654: the sequence of ADC-A is complete. -/
def State.adcaFinish (s : State) : State :=
  match s.ctl.adcA with
  | some k =>
    if s.get ADC.A_LEN < k && s.up .control then
      (({ s with ctl := { s.ctl with adcA := none } }).put ADC.A_BUSY 0).raise ADC.ADCA_DONE |>.fire 0x50
    else s
  | none => s

/-- R656, R657, R115: a conversion of ADC-B ends: the gauge sample (VSTORE / 2), which is stored in mV without a 12-bit step, from 0 mV to
6,600 mV (assumption log 31, DESIGN CHOICE), or an entry of the tenant's sequence, which waits for a gauge sample that it met (R658). -/
def State.adcbConverted (s : State) (v : AdcbInputs) : State :=
  if s.gaugeFree then s.gaugeSampled (clampInt 0 6600 (Int.fdiv v.vstore 1000)).toNat
  else match s.ctl.adcB with
    | some k =>
      if k ≤ s.get ADC.B_LEN then
        let c := s.adcbCode k v
        { (c.2.put (ADC.B_RES k) c.1) with ctl := { s.ctl with adcB := some (k + 1) } }
      else s
    | none => s

/-- R657: the sequence of ADC-B is complete; background work that waits begins. -/
def State.adcbFinish (s : State) : State :=
  match s.ctl.adcB with
  | some k =>
    if s.get ADC.B_LEN < k then
      (((({ s with ctl := { s.ctl with adcB := none } }).put ADC.B_BUSY 0).put ADC.LAST 1).raise ADC.ADCB_DONE).fire 0x51 |>.tryMppt
    else s
  | none => s

/-- R658: deferral has exceeded LIMIT: the background takes ADC-B, from the sequence in progress if there is one. -/
def State.adcbTakeover (s : State) : State :=
  if s.bgDue then
    let s := s.when (s.on ADC.B_BUSY)
      (fun s => (((({ s with ctl := { s.ctl with adcB := none }, supply := { s.supply with gaugeConv := false } }).put ADC.B_BUSY 0).put ADC.LAST 3).raise ADC.ADCB_DISPLACED).tryMppt)
    s.put ADC.BG_ACTIVE 1
  else s

/-- What a write of the word at `off` of the ADC page does beyond its fields: the starts. -/
def State.adcWrote (s : State) (off : Nat) : State :=
  if off = 0x10 && s.on ADC.A_START then (s.put ADC.A_START 0).adcaStart
  else if off = 0x40 && s.on ADC.B_START then (s.put ADC.B_START 0).adcbStart
  else s

/-- Bits of the word at `off` of the ADC page that its read computes. -/
def State.adcRead (s : State) (off : Nat) : Nat := if off = 0x48 then ofBool s.bgDue * 2 ^ 10 else 0

/-! ### PWM (R659 to R668) -/

/-- The state with the values in force of pair `k`. -/
def State.pairForce (s : State) (k per cmp dt : Nat) : State :=
  { s with ctl := { s.ctl with
    per := Table.insert s.ctl.per k per
    cmp := Table.insert s.ctl.cmp k cmp
    dt := Table.insert s.ctl.dt k dt
    down := Table.erase s.ctl.down k } }

/-- R660: is the high-side signal of pair `k` active? -/
def State.highSide (s : State) (k : Nat) : Bool := decide (s.get (PWM.CNT k) < (Table.find s.ctl.cmp k).getD 0)

/-- For how many counts it has been as it is. -/
def State.sideFor (s : State) (k : Nat) : Nat := (Table.find s.ctl.side k).getD 0

/-- A count of pair `k`, from `old`: the time since the high-side signal changed goes on, or starts anew. -/
def State.sideCount (s old : State) (k : Nat) (more : Nat) : State :=
  let n := if s.highSide k == old.highSide k then s.sideFor k + more else 0
  { s with ctl := { s.ctl with side := Table.insert s.ctl.side k n } }

/-- R659, R661, R664, R668: a period of pair `k` starts: the shadows take effect, and pads without a latch follow the pair. The cycle in which it
falls has been counted already. -/
def State.periodStart (s : State) (k : Nat) : State :=
  let old := s
  let s := s.clampCmp k (s.get (PWM.CMP k))
  let s := State.sideCount (s.pairForce k (s.get (PWM.PER k)) (s.get (PWM.CMP k)) (s.get (PWM.DT k)) |>.put (PWM.CNT k) 0) old k 0
  let s := s.when (!s.on (PWM.LATCHED k)) (fun s => s.put (PWM.SAFE k) 0)
  (s.raise PWM.PERIOD k).fire (0x40 + k)

/-- R659: a period of pair `k` reaches its centre. -/
def State.periodCentre (s : State) (k : Nat) : State :=
  let per := (Table.find s.ctl.per k).getD 0
  let s := s.put (PWM.CNT k) (if s.on (PWM.ALIGN k) then per else per / 2)
  let s := s.when (s.on (PWM.ALIGN k)) (fun s => { s with ctl := { s.ctl with down := Table.insert s.ctl.down k () } })
  s.fire (0x48 + k)

/-- R662, R666: pair `k` starts; with PWM_FAULT_N low it is latched at once. -/
def State.pairOn (s : State) (k : Nat) : State :=
  let s := (s.when (s.on PWM.FAULT_IN) (fun s => s.forceSafe k)).periodStart k
  { s with ctl := { s.ctl with side := Table.insert s.ctl.side k 0 } }

/-- R662: pair `k` stops; its pads are at their safe states. -/
def State.pairOff (s : State) (k : Nat) : State := ((s.put (PWM.RUN k) 0).put (PWM.CNT k) 0).put (PWM.SAFE k) 1

/-- R665: every pair's pads are at their safe states; with `clear`, RUN clears too. -/
def State.pairsSafe (s : State) (clear : Bool) : State :=
  (List.range 6).foldl (fun st k => if clear then st.pairOff k else st.put (PWM.SAFE k) 1) s

/-- What a write of the control word of pair `k` does. -/
def State.pairWritten (s : State) (k : Nat) (old : State) : State :=
  let s := s.when (old.on (PWM.RUN k)) (fun s => (s.put (PWM.ALIGN k) (old.get (PWM.ALIGN k))).put (PWM.MODE k) (old.get (PWM.MODE k)))
  let s := s.when (s.on (PWM.CLR k)) (fun s => (s.put (PWM.CLR k) 0).when (!s.on PWM.FAULT_IN) (fun s => s.put (PWM.LATCHED k) 0))
  if s.on (PWM.RUN k) && !old.on (PWM.RUN k) then s.pairOn k
  else if !s.on (PWM.RUN k) && old.on (PWM.RUN k) then s.pairOff k
  else s

/-- What a write of the word at `off` of the PWM page does beyond its fields. -/
def State.pwmWrote (s : State) (off : Nat) (old : State) : State :=
  if 0x100 ≤ off && off < 0x1C0 then
    let k := (off - 0x100) / 32
    if off % 32 = 0 then s.pairWritten k old
    else if off % 32 = 8 then s.clampCmp k (s.get (PWM.CMP k))
    else s
  else s

/-- BOUND: an enabled loop outputs to pair `k`. -/
def State.pairBound (s : State) (k : Nat) : Bool :=
  (List.range 16).any (fun n => s.on (CTRL.EN n) && s.on (CTRL.OUT_EN n) && s.get (CTRL.OUT_PAIR n) == k)

/-- Bits of the word at `off` of the PWM page that its read computes. -/
def State.pwmRead (s : State) (off : Nat) : Nat :=
  if 0x100 ≤ off && off < 0x1C0 && off % 32 == 0xC then ofBool (s.pairBound ((off - 0x100) / 32)) * 2 ^ 3 else 0

/-- R377: the level of PWM_FAULT_N at the pad's own input: accepted at once where it is not filtered, else when PAD_FILTER_ACCEPT says so. -/
def State.faultPad (s : State) (level : Bool) : State := s.when (s.get (PORT.FILTER 40) == 0) (fun s => s.padAccept 40 level)

/-- R666: PWM_FAULT_N is low: every pair's pads are safe, running pairs latch. The registers follow while their island has power. -/
def State.pwmFault (s : State) : State :=
  let s := s.put PWM.FAULT_IN 1
  let s := s.when (s.powered .control) (fun s =>
    ((List.range 6).foldl (fun st k => (st.when (st.on (PWM.RUN k)) (fun st => st.raise (PWM.LATCHED k))).put (PWM.SAFE k) 1) s).raise
      PWM.PWM_FAULT)
  s.faultPad false

/-- R84, R374: does the device itself drive PWM_FAULT_N low, by its fuse state or as a GPIO? -/
def State.faultDriven (s : State) : Bool :=
  s.fab.vio && (if s.on (PORT.CFGD 40) then s.get (PORT.FUNC 40) == 0 && s.on (PORT.OE 40) && !s.gpioOut 40 else vget s.fab.padFuse 40 0 == 3)

/-- R84: an input that the device drives low is a continuous low. -/
def State.faultJudge (s : State) : State := s.when (s.faultDriven && !s.on PWM.FAULT_IN) State.pwmFault

/-- R668: PWM_FAULT_N is high again, unless the device drives it low. -/
def State.pwmFaultEnd (s : State) : State :=
  if s.faultDriven then s else (s.put PWM.FAULT_IN 0).faultPad true

/-- One control cycle of pair `k`'s counter. -/
def State.pairCount (s : State) (k : Nat) : State :=
  if !s.pairRuns k then s
  else State.sideCount (
    let per := (Table.find s.ctl.per k).getD 0
    let c := s.get (PWM.CNT k)
    if !s.on (PWM.ALIGN k) then s.put (PWM.CNT k) (if per ≤ c + 1 then c else c + 1)
    else if (Table.find s.ctl.down k).isSome then s.put (PWM.CNT k) (c - 1)
    else s.put (PWM.CNT k) (if per ≤ c then c else c + 1)) s k 1

end Sys2Proof.Machine
end

