-- ==== Sys2Proof/Machine/Tooth.lean ====
section
/-!
DEFINITION. The tooth tracker (chapter 17): edges, synthetic teeth, the position, schedules, and what reads and writes of the TOOTH page
do beyond their fields.
-/

namespace Sys2Proof.Machine

/-- Tooth channel `c` beyond its registers. -/
def State.tooth? (s : State) (c : Nat) : Tooth := vget s.tooth c noTooth

/-- The state with a tooth channel changed. -/
def State.modTooth (s : State) (c : Nat) (f : Tooth → Tooth) : State := { s with tooth := vmod s.tooth c f }

/-- The interval from one TOOTH_TIME to another (R681). -/
def toothGap (t u : Nat) : Nat := (u % 2 ^ 32 + 2 ^ 32 - t % 2 ^ 32) % 2 ^ 32

/-- Table 17.1: codes of STATE. -/
def toothAcquire : Nat := 1
def toothTrack : Nat := 2
def toothStopped : Nat := 3

/-- aP and mP of channel `c`. -/
def State.toothNear (s : State) (c : Nat) : Nat := s.get (TOOTH.ACC_LO c) * s.get (TOOTH.PRED c) / 16
def State.toothFar (s : State) (c : Nat) : Nat := s.get (TOOTH.MISS c) * s.get (TOOTH.PRED c) / 8

/-- R689: FRAC as it stands. -/
def State.toothFrac (s : State) (c : Nat) : Nat :=
  let p := s.get (TOOTH.PRED c)
  if s.get (TOOTH.STATE c) == toothTrack && p != 0 then min 0xFFFF (65536 * toothGap (s.tooth? c).last s.toothTime / p) else 0

/-- R689: the position of channel `c`. -/
def State.toothPos (s : State) (c : Nat) : Nat :=
  let n := s.get (TOOTH.COUNT c) * 65536
  if s.on (TOOTH.DIR c) then (n + 2 ^ 32 - s.toothFrac c) % 2 ^ 32 else n + s.toothFrac c

/-- R690: has schedule `j` of channel `c` been reached? -/
def State.scheduleReached (s : State) (c j : Nat) : Bool :=
  let t := s.get (TOOTH.TARGET c j)
  let d : Int :=
    if s.on (TOOTH.S_MODE c j) then toSigned 32 (s.toothPos c + 2 ^ 32 - t)
    else toSigned 16 (s.get (TOOTH.COUNT c) + 2 ^ 16 - t / 65536)
  if s.on (TOOTH.DIR c) then decide (d ≤ 0) else decide (0 ≤ d)

/-- R691: the target of schedule `j` has moved or been written: an exact one that it makes reached is judged in the next cycle. -/
def State.targetMoved (s : State) (c j : Nat) : State :=
  let due := s.on (TOOTH.S_ARMED c j) && s.scheduleReached c j
  s.modTooth c (fun x => { x with due := if due then Table.insert x.due j () else Table.erase x.due j })

/-- R690, R691: is schedule `j` judged in this cycle: interpolated, or with a target that has moved? -/
def State.scheduleDue (s : State) (c j : Nat) : Bool := s.on (TOOTH.S_MODE c j) || (Table.find (s.tooth? c).due j).isSome

/-- R691, R692: schedule `j` of channel `c` fires; the pulse of the channel is given by the caller. -/
def State.scheduleHit (s : State) (c j : Nat) : State :=
  let est := s.on (TOOTH.LAST_SYN c) || (Table.find (s.tooth? c).est j).isSome
  let s := ((s.raise (TOOTH.S_FIRED c j)).raise TOOTH.FIRE c).putB (TOOTH.S_EST c j) est
  let s := s.modTooth c (fun x => { x with est := Table.erase x.est j })
  let step := s.get (TOOTH.S_STEP c j) * 65536
  let s :=
    if step = 0 then s.put (TOOTH.S_ARMED c j) 0
    else s.put (TOOTH.TARGET c j) (if s.on (TOOTH.DIR c) then s.get (TOOTH.TARGET c j) + 2 ^ 32 - step else s.get (TOOTH.TARGET c j) + step)
  s.targetMoved c j

/-- R691: the armed schedules in `js` that have been reached fire together, with one pulse. -/
def State.judgeSchedules (s : State) (c : Nat) (js : List Nat) : State :=
  let hit := js.filter (fun j => s.on (TOOTH.S_ARMED c j) && s.scheduleReached c j)
  if hit.isEmpty then s else (hit.foldl (fun st j => st.scheduleHit c j) s).fire (0x70 + c)

/-- R685: COUNT moves by one tooth. -/
def State.toothStep (s : State) (c : Nat) : State :=
  s.put (TOOTH.COUNT c) (if s.on (TOOTH.DIR c) then s.get (TOOTH.COUNT c) + 65535 else s.get (TOOTH.COUNT c) + 1)

/-- R687: PRED follows a real interval. -/
def State.predict (s : State) (c i : Nat) : State :=
  let p : Int := s.get (TOOTH.PRED c)
  s.put (TOOTH.PRED c) (ofSigned 32 (p + Int.fdiv ((i : Int) - p) (2 ^ (s.get (TOOTH.W c) + 1))))

/-- What every accepted or absorbed edge at time `t` does to the marks of the last tooth. -/
def State.toothMark (s : State) (c t : Nat) : State :=
  let s := ((s.put (TOOTH.LAST_EDGE c) t).put (TOOTH.SYN_RUN c) 0).put (TOOTH.LAST_SYN c) 0
  s.modTooth c (fun x => { x with last := t, real := t, seen := true, realCount := s.get (TOOTH.COUNT c) })

/-- R685: an accepted tooth at time `t` with interval `i`. -/
def State.toothAccept (s : State) (c t i : Nat) : State := ((s.toothStep c).toothMark c t).put (TOOTH.LAST_INTERVAL c) i

/-- R682: an edge in ACQUIRE. -/
def State.toothAcquired (s : State) (c t i : Nat) : State :=
  let s := s.when (s.get (TOOTH.PRED c) == 0 && (s.tooth? c).seen) (fun s => s.put (TOOTH.PRED c) i)
  let s := s.toothAccept c t i
  s.when (s.get (TOOTH.PRED c) != 0) (fun s => s.put (TOOTH.STATE c) toothTrack)

/-- R683, R684, R687: an edge in TRACK. -/
def State.toothTracked (s : State) (c t i : Nat) : State :=
  if s.on (TOOTH.LAST_SYN c) then
    if i < s.toothNear c then
      let r := toothGap (s.tooth? c).real t
      let s := ((s.predict c r).toothMark c t).put (TOOTH.LAST_INTERVAL c) r
      ((s.put (TOOTH.RESYNC_ERR c) i).raise (TOOTH.RESYNC c)).raise TOOTH.RESYNC_EVT
    else s.toothAccept c t i
  else if i < s.toothNear c then (s.raise (TOOTH.NOISE c)).raise TOOTH.NOISE_EVT
  else (s.predict c i).toothAccept c t i

/-- R680 to R687, R697: the level on TTHc that crossed the threshold `age` cycles of 5 ns ago has held since; it is an edge once that is FILT × 10 ns. -/
def State.toothEdge (s : State) (c : Nat) (rising : Bool) (age : Nat) : State :=
  if !(s.up .control && s.on (TOOTH.EN c) && decide (2 * s.get (TOOTH.FILT c) ≤ age) && bit (s.get (TOOTH.EDGE c)) (if rising then 0 else 1)) then s
  else
    let t := (s.toothTime + 2 ^ 32 - age % 2 ^ 32) % 2 ^ 32
    let i := toothGap (s.tooth? c).last t
    let was := s.get (TOOTH.COUNT c)
    let s := match s.get (TOOTH.STATE c) with
      | 1 => s.toothAcquired c t i
      | 2 => s.toothTracked c t i
      | 3 => (s.toothAccept c t i).put (TOOTH.STATE c) toothAcquire
      | _ => s
    s.when (s.get (TOOTH.COUNT c) != was) (fun s => s.judgeSchedules c (List.range 8))

/-- R688: synthetic teeth have run out; those withdrawn leave L at the last real tooth (assumption log 27). -/
def State.toothStop (s : State) (c : Nat) : State :=
  let s := s.modTooth c (fun x => { x with last := x.real })
  let s := ((s.put (TOOTH.STATE c) toothStopped).put (TOOTH.COUNT c) (s.tooth? c).realCount).put (TOOTH.SYN_RUN c) 0
  (((s.put (TOOTH.LAST_SYN c) 0).put (TOOTH.PRED c) 0).raise (TOOTH.STOPPED c)).raise TOOTH.STOPPED_EVT

/-- R686: no edge has come by L + mP. -/
def State.toothMissed (s : State) (c : Nat) : State :=
  let x := s.tooth? c
  if !(s.up .control && s.get (TOOTH.STATE c) == toothTrack && decide (s.toothFar c ≤ toothGap x.last s.toothTime)) then s
  else if s.get (TOOTH.MAXSYN c) < s.get (TOOTH.SYN_RUN c) + 1 then 
    let t := s.toothStop c
    t.when (t.get (TOOTH.COUNT c) != s.get (TOOTH.COUNT c)) (fun t => t.judgeSchedules c (List.range 8))
  else
    let armed := (List.range 8).filter (fun j => s.on (TOOTH.S_ARMED c j))
    let far := s.toothFar c
    let s := (((s.toothStep c).put (TOOTH.SYN_RUN c) (s.get (TOOTH.SYN_RUN c) + 1)).put (TOOTH.LAST_SYN c) 1)
    let s := s.modTooth c (fun x => { x with
      last := (x.last + far) % 2 ^ 32
      est := armed.foldl (fun e j => Table.insert e j ()) x.est })
    ((s.raise (TOOTH.MISSED c)).raise TOOTH.MISSED_EVT).judgeSchedules c (List.range 8)

/-- R682: channel `c` enters ACQUIRE; `keep` keeps PRED. -/
def State.toothEnter (s : State) (c : Nat) (keep : Bool) : State :=
  let s := s.put (TOOTH.STATE c) toothAcquire
  let s := s.when (!keep) (fun s => s.put (TOOTH.PRED c) 0)
  ((s.put (TOOTH.SYN_RUN c) 0).put (TOOTH.LAST_SYN c) 0).modTooth c (fun x => { x with seen := false })

/-- R698: the control island is released. -/
def State.toothReleased (s : State) : State :=
  (List.range 4).foldl (fun st c => st.when (st.on (TOOTH.EN c)) (fun st => st.toothEnter c false)) s

/-- What a write of the word at `off` of the TOOTH page does beyond its fields. A change of COUNT judges the schedules (R690). -/
def State.toothWrote (s : State) (off : Nat) (old : State) : State :=
  if off < 0x100 then s
  else
    let c := (off - 0x100) / 0x80
    let o := (off - 0x100) % 0x80
    if o = 0 then
      if s.on (TOOTH.EN c) && !old.on (TOOTH.EN c) then s.toothEnter c true
      else s.when (!s.on (TOOTH.EN c)) (fun s => s.put (TOOTH.STATE c) 0)
    else if o = 8 then
      if s.on (TOOTH.EN c) then s.put (TOOTH.COUNT c) (old.get (TOOTH.COUNT c))
      else s.when (s.get (TOOTH.COUNT c) != old.get (TOOTH.COUNT c)) (fun s => s.judgeSchedules c (List.range 8))
    else if o = 0xC then s.when (s.on (TOOTH.EN c)) (fun s => s.put (TOOTH.PRED c) (old.get (TOOTH.PRED c)))
    else if 0x40 ≤ o && o % 8 == 0 then s.targetMoved c ((o - 0x40) / 8)
    else if 0x40 ≤ o && o % 8 == 4 then
      let j := (o - 0x40) / 8
      if s.on (TOOTH.S_ARM c j) then
        let s := (s.put (TOOTH.S_ARM c j) 0).put (TOOTH.S_ARMED c j) 1
        (s.modTooth c (fun x => { x with est := Table.erase x.est j })).judgeSchedules c [j]
      else s
    else s

/-- Bits of the word at `off` of the TOOTH page that its read computes. -/
def State.toothRead (s : State) (off : Nat) : Nat :=
  if off = 0x10 then s.toothTime
  else if 0x100 ≤ off && (off - 0x100) % 0x80 == 8 then s.toothFrac ((off - 0x100) / 0x80)
  else 0

end Sys2Proof.Machine
end

