-- ==== Sys2Proof/Machine/Memory.lean ====
section
/-!
DEFINITION. Accesses to the address map of Table 6.1: where an address leads, the first four steps of R233, and the reads and writes of the
memories with what they do beside moving data. The peripheral pages are in Regs.lean.
-/

namespace Sys2Proof.Machine

/-- Where an address leads. -/
inductive Place where
  /-- a byte of a memory, by its stored address -/
  | mem (p : Nat)
  | shadow (word : Nat)
  | rom
  | page (p off : Nat)
  deriving DecidableEq, Repr

/-- A failed access: cause and DETAIL (Table 6.9), word 1, lane bits of word 2, and the TID it goes by. -/
structure Fail where
  cause  : Nat
  detail : Nat
  addr   : Nat
  ext    : Nat
  tid    : Nat
  deriving DecidableEq, Repr

/-- What an access is: a fetch is a read of an instruction (Table 6.1 names where it is admitted). -/
inductive Reach where
  | read | write | fetch
  deriving DecidableEq, Repr

/-- What the judgement of an access comes to: it waits for its island (R161), it fails, or it is performed. -/
inductive Verdict where
  | held
  | bad (f : Fail)
  | go (p : Place)
  deriving DecidableEq, Repr

/-! ### Mapping and islands (R220 to R222) -/

/-- Is `a` in the `n` bytes from `base`? -/
def within (base n a : Nat) : Bool := decide (base ≤ a) && decide (a < base + n)

/-- R221: the H hart whose data TCM a master finds at the TCM range. -/
def tcmOf : Master → Option Nat
  | .hart n => if n.val = 0 then none else some n.val
  | .debug n => if n.val = 0 then none else some n.val
  | _ => none

/-- Table 6.1: where an address leads for a master; `none` where it is unmapped. -/
def placeOf (m : Master) (a : Nat) : Option Place :=
  if within 0x28000000 0x8000 a then (tcmOf m).map (fun h => .mem (0x28000000 + 0x10000 * h + (a - 0x28000000)))
  else if within 0 0x400000 a || within 0x800000 0x40000 a || within 0x10000000 0x10000 a || within 0x20000000 0x100000 a ||
      within 0x30000000 0x10000 a || within 0x31000000 10240 a || within 0x31010000 10240 a || within 0x32000000 0x8000 a ||
      within 0x32100000 2048 a || within 0x32110000 1024 a || within 0x32120000 1024 a || within 0x33000000 0x2000 a
    then some (.mem a)
  else if within 0x48000000 256 a then some (.shadow ((a - 0x48000000) / 4))
  else if within 0xF0000000 4096 a then some .rom
  else if within 0x40000000 0x24000 a then
    let p := (a - 0x40000000) / 0x1000
    let off := a % 0x1000 / 4 * 4
    if (pageFieldsAt p off).isEmpty then none else some (.page p off)
  else none

/-- The island that answers at an address. For addresses that Table 6.1 gives to no region the spec names no island; they go with the region
below them, beyond the pages and the fuse shadow with the always-on island (assumption log 19, DESIGN CHOICE). -/
def islandAt (a : Nat) : Island :=
  if a < 0x10000000 then .core else if a < 0x20000000 then .keeper else if a < 0x31000000 then .core else if a < 0x32000000 then .can
  else if a < 0x33000000 then .radio else if a < 0x34000000 then .control
  else if within 0x40000000 0x24000 a then pageIsland ((a - 0x40000000) / 0x1000) else .ao

/-! ### Steps 1 to 4 of R233 -/

/-- R25, R161: is the island answering: `none` if its accesses wait for its release, from the detection of a wake on, also of one that lets an
entry to CALM finish first (R171). -/
def State.answers (s : State) (i : Island) : Option Bool :=
  match s.island i with
  | .running => some true
  | .powering => none
  | .stopped => if s.power.phase == .leaving || s.power.wakePend then none else some false
  | _ => some false

/-- The disturbance of the transaction with number `k` among those a command makes. -/
def disturbAt (d : Disturb) (k : Nat) : Upset := if d.at_ = k then d.upset else Upset.none

/-- R24, R53: the parity failure of a transaction that crosses a bridge. -/
def parityFail (u : Upset) (tid a : Nat) : Option Fail :=
  if u.addr = 0 && u.data = 0 && !u.tid && u.tag = 0 then none
  else some ⟨causeParity, u.addr.toNat + u.data.toNat * 16, if u.addr = 0 then a else u.badAddr.toNat, ofBool u.tid + u.tag.toNat * 2,
    if u.tid then u.badTid.val else tid⟩

/-- Table 6.1, last column: does the memory admit the access? Data flash admits reads only, and no fetch. -/
def State.memAdmits (s : State) (tid p : Nat) (k : Reach) : Bool :=
  if p < 0x400000 then k != .write
  else if p < 0x10000000 then k == .read && s.owner tblRegion ((p - 0x800000) / 0x4000) == tid
  else if p < 0x20000000 then tid == 0
  else if p < 0x200F0000 then s.owner tblGranule ((p - 0x20000000) / 4096) == tid
  else if p < 0x30000000 then true
  else if p < 0x31000000 then ((s.slotAt ((p - 0x30000000) / 32)).map (·.owner)) == some tid
  else if p < 0x31010000 then s.objOwner 0 ((p - 0x31000000) / 80) == tid
  else if p < 0x32000000 then s.objOwner 1 ((p - 0x31010000) / 80) == tid
  else if p < 0x32100000 then false
  else if p < 0x32110000 then s.owner tblNbr ((p - 0x32100000) / 32) == tid
  else if p < 0x33000000 then s.linkTid == tid
  else s.slotOwner ((p - 0x33000000) / 128) == tid

/-- Is the access of a master to a place outside the pages admitted (step 4)? Only harts in debug mode reach the debug ROM. -/
def State.placeAdmits (s : State) (m : Master) (tid : Nat) (k : Reach) : Place → Bool
  | .mem p => s.memAdmits tid p k
  | .shadow _ => k == .read
  | .rom => k != .write && (match m with
    | .hart n => (s.hart n).halted
    | .debug n => (s.hart n).halted
    | _ => false)
  | .page _ _ => true

/-- R233: the judgement of an access by its parity, island, mapping and, outside the pages, owner. -/
def State.judge (s : State) (m : Master) (tid a : Nat) (k : Reach) (u : Upset) : Verdict :=
  let i := islandAt a
  match (if masterIsland m == i then none else parityFail u tid a) with
  | some f => .bad f
  | none =>
    match s.answers i with
    | none => .held
    | some false => .bad ⟨causeIslandDown, islandNo i, a, 0, tid⟩
    | some true =>
      match placeOf m a with
      | none => .bad ⟨causeUnmapped, 0, a, 0, tid⟩
      | some pl => if s.placeAdmits m tid k pl then .go pl else .bad ⟨causeDenied, 2, a, 0, tid⟩

/-- R234, R246, R53: the record of a failed access; MASTER is its issuer's code, of a parity failure too (assumption log 19, DESIGN CHOICE). -/
def State.failRecord (s : State) (f : Fail) (master : Nat) (tag : Option Nat) : State :=
  s.record (if f.cause = causeParity && bit f.ext 0 then 0 else f.tid)
    ⟨recWord0 f.cause f.detail f.tid tag.isSome, f.addr % 2 ^ 32, recWord2 master f.ext (tag.getD 0), s.tick32, false⟩

/-! ### Step 6 on the memories -/

/-- The unit that the check bits of a stored byte cover: a 128-bit flash word or a 32-bit word. -/
def eccUnit (p : Nat) : Nat := if p < 0x10000000 then p / 16 * 16 else p / 4 * 4

/-- The CAN controller, object and word of a message-memory byte. -/
def canPlace (p : Nat) : Option (Nat × Nat × Nat) :=
  if within 0x31000000 10240 p then some (0, (p - 0x31000000) / 80, (p - 0x31000000) % 80 / 4)
  else if within 0x31010000 10240 p then some (1, (p - 0x31010000) / 80, (p - 0x31010000) % 80 / 4)
  else none

/-- R272: a 32-bit word of a partly programmed flash word reads corrected or fails, as the outside has it: a free choice. -/
def State.brokenWord (s : State) (p : Nat) : State × Nat × Bool :=
  let c := s.freeBool
  let v := c.2.free 32
  if (Table.find s.mem.broken (p / 16 * 16)).isSome then (v.2, v.1, c.1) else (s, 0, false)

/-- Bytes `p` to `p + n - 1` as a read by `tid` returns them, no error met. -/
def State.memValue (s : State) (tid p n : Nat) : Nat :=
  if p < 0x10000000 then ofBytesLE (((s.flashWord p).drop (p % 16)).take n)
  else
    match canPlace p with
    | some (x, o, 1) => bits (s.word1 x o) (8 * (p % 4)) (8 * n)
    | _ =>
      if within 0x30000000 0x10000 p && p % 32 / 4 == 1 then
        match s.slotAt ((p - 0x30000000) / 32) with
        | some d => if d.shown then bits (d.state + d.status * 2 ^ 8) (8 * (p % 4)) (8 * n) else s.ramRead tid p n
        | none => 0
      else s.ramRead tid p n

/-- What a read does beside returning data: the read lock of a message object (R451, R452). -/
def State.memTouched (s : State) (p : Nat) : State :=
  match canPlace p with
  | some (x, o, 0) => s.objLock x o
  | some (x, o, 19) => s.objRelease x o
  | _ => s

/-- R451, R455: a read meets a frame that is being stored in its object: one of word 0 waits for the end; one of another word may return what
has been stored, a free choice. -/
def State.storageMet (s : State) (p : Nat) : State :=
  match canPlace p with
  | some (x, o, w) =>
    if (s.canCtl x).storing.map (·.1) != some o then s
    else if w = 0 then s.storeEnd x
    else
      let b := s.freeBool
      if b.1 then b.2.storeEnd x else b.2
  | none => s

/-- Words that are not held in the array and carry no check bits. -/
def unchecked (p : Nat) : Bool :=
  match canPlace p with
  | some (_, _, 1) => true
  | _ => false

/-- R264: the word at `p` is found to hold an error, which an erased flash word and a word without check bits cannot have. -/
def State.struck (s : State) (p : Nat) (u : Upset) : State :=
  if unchecked p || (p < 0x10000000 && s.erased p) then s
  else if u.ecc then s.setEcc (eccUnit p)
  else s.when u.single (fun s => s.setSingle (eccUnit p))

/-- R233 step 6: a read of `n` bytes at stored address `p`; `u` tells of an error found now. A single-bit error is corrected (R264). -/
def State.memRead (s : State) (tid p n : Nat) (u : Upset) : State × Nat × Option (Nat × Nat × Nat) :=
  let s := (s.storageMet p).struck p u
  let b := s.brokenWord p
  if p < 0x10000000 && (Table.find s.mem.broken (p / 16 * 16)).isSome then
    if b.2.2 then (b.1, 0, some (causeEcc, memCode p, p / 16 * 16)) else (b.1, bits b.2.1 (8 * (p % 4)) (8 * n), none)
  else if s.eccBad (eccUnit p) && !unchecked p then
    (s.memTouched p, 0, some (causeEcc, memCode p, if p < 0x10000000 then p / 16 * 16 else busAddr p))
  else (s.memTouched p, s.memValue tid p n, none)

/-- R638: a write of a control-engine word that is locked. -/
def State.stageLocked (s : State) (p : Nat) : Bool :=
  let k := (p - 0x33000000) / 128
  let w := (p - 0x33000000) % 128 / 4
  within 0x33000000 0x2000 p && (w == 28 || ((w == 16 || w == 17 || w == 24 || w == 25) &&
    (match s.loopOfSlot k with
      | some n => s.on (CTRL.EN n)
      | none => false)))

/-- R325: a write of word 0 of a neighbour entry that selects a line whose source the entry's owner does not own leaves LINE unchanged: the
data that is written in place of `v`. -/
def State.lineKept (s : State) (tid p n v : Nat) : Nat :=
  if within 0x32100000 2048 p && p % 32 / 4 == 0 && p % 4 ≤ 2 && 2 < p % 4 + n then
    let old := s.word tid p
    let new := setBits old (8 * (p % 4)) (8 * n) v
    if s.srcOwner (100 + bits new 19 2) == s.owner tblNbr ((p - 0x32100000) / 32) then v
    else bits (setBits new 19 2 (bits old 19 2)) (8 * (p % 4)) (8 * n)
  else v

/-- R233 steps 5 and 6: a write of `n` bytes at stored address `p`. -/
def State.memWrite (s : State) (m : Master) (tid p n v : Nat) (u : Upset) : State × Option (Nat × Nat × Nat) :=
  if s.stageLocked p then (s, some (causeLocked, 1, busAddr p))
  else
    match canPlace p with
    | some (x, o, 1) =>
      let w := s.writeWord1 x o (setBits (s.word1 x o) (8 * (p % 4)) (8 * n) v)
      (w.1, if w.2 then some (causeLocked, 1, busAddr p) else none)
    | c =>
      let busy := match c with
        | some (x, o, _) => (s.objType x o == 3 || s.objType x o == 4) && s.objBusy x o
        | none => false
      if busy then (s, some (causeLocked, 1, busAddr p))
      else
        let s := s.when (n != 4) (fun s => s.struck p u)
        if n != 4 && s.eccBad (eccUnit p) then (s, some (causeEcc, memCode p, busAddr p))
        else
          let s := (s.ramWrite tid p n (s.lineKept tid p n v)).loseReservations m p
          ({ s with mem := { s.mem with ecc := Table.erase s.mem.ecc (eccUnit p), single := Table.erase s.mem.single (eccUnit p) } }, none)

end Sys2Proof.Machine
end

