-- ==== Sys2Proof/Machine/Power.lean ====
section
/-!
DEFINITION. Clocks, operating points, islands and power modes (chapter 4): crystals and their loss, core voltage, island switching and
memory initialisation, entry to and exit from LULL and CALM, calibration of the coarse time base, and what a write of the PWR page does
beyond its fields.
-/

namespace Sys2Proof.Machine

/-- The state with the power state changed. -/
def State.modPower (s : State) (f : Power → Power) : State := { s with power := f s.power }

/-! ### Operating points (R141, R142, R168) -/

/-- Table 4.2: the target voltage of a point, in mV. -/
def opMv (n : Nat) : Nat := nth [700, 780, 880, 980] n

/-- The mode in force, which is also the one an exit returns to (Table 4.14). -/
def State.baseMode (s : State) : Mode := if s.get PWR.MODE == 1 then .breeze else .gale

/-- Is the device in GALE, an entry to LULL or CALM included as long as it has not been left: does a write of OP_CMD take effect at once
(R142)? During an exit it is stored until WAKE_DONE (R159, R160). -/
def State.galeNow (s : State) : Bool := s.power.mode == .gale && s.power.phase != .leaving

/-- The voltage goes to another target. -/
def State.slew (s : State) (mv : Nat) : State := (s.modPower (fun p => { p with slewTo := mv })).put PWR.SLEWING 1

/-- R142: a move to the commanded point begins: the clock goes to the lower of the two, the voltage slews. -/
def State.opMove (s : State) : State :=
  let c := s.get PWR.OP_CMD
  if !s.on PWR.SLEWING && s.get PWR.OP_NOW == c && s.power.coreMv == opMv c then s.raise PWR.OP_DONE
  else (s.put PWR.OP_NOW (min (s.get PWR.OP_NOW) c)).slew (opMv c)

/-- R142, R144, R168: OP_CMD has been written. -/
def State.opWritten (s : State) : State :=
  let mv := opMv (s.get PWR.OP_CMD)
  if !s.galeNow then s.modPower (fun p => { p with opStored := true })
  else if s.on PWR.SLEWING then if mv == s.power.slewTo then s else s.opMove.raise PWR.VOLT_RETARGETED
  else if mv == s.power.slewTo && s.get PWR.OP_NOW != s.get PWR.OP_CMD then s
  else s.opMove

/-- R142: the buck output has reached its target. A move that a change of mode overtook raises no PWR_OP_DONE (assumption log 17, DESIGN CHOICE beside
R169). -/
def State.slewSettled (s : State) : State :=
  if !s.on PWR.SLEWING then s
  else
    let s := (s.modPower (fun p => { p with coreMv := p.slewTo })).put PWR.SLEWING 0
    s.when (s.galeNow && s.get PWR.OP_NOW == s.get PWR.OP_CMD) (fun s => s.raise PWR.OP_DONE)

/-- R142: the voltage has been settled for 2 µs: the clock moves up. -/
def State.opRaise (s : State) : State :=
  if s.galeNow && s.up .core && !s.on PWR.SLEWING && s.get PWR.OP_NOW < s.get PWR.OP_CMD && s.power.coreMv == opMv (s.get PWR.OP_CMD) &&
      s.on CLK.PLL_CORE_LOCK
  then (s.put PWR.OP_NOW (s.get PWR.OP_CMD)).raise PWR.OP_DONE
  else s

/-- R144, R159, R160: in GALE again, the core goes to the commanded point. A write of OP_CMD that is stored stays so until then. -/
def State.opReturn (s : State) : State :=
  if !(s.galeNow && s.up .core) then s
  else (s.modPower (fun p => { p with opStored := false })).when (s.power.opStored || s.get PWR.OP_CMD != 0) State.opMove

/-! ### Islands and their memories (R145, R147, R148) -/

/-- The island of a memory. -/
def blockIsland : MemBlock → Island
  | .keeper => .keeper | .bank _ => .core | .tcm _ => .core | .desc => .core | .canMsg _ => .can | .radioBuf => .radio
  | .radioTab => .radio | .ctrl => .control

/-- First byte and length of a memory (Table 6.1, R221). -/
def blockRange : MemBlock → Nat × Nat
  | .keeper => (0x10000000, 0x10000)
  | .bank n => (0x20000000 + 0x20000 * n.val, 0x20000)
  | .tcm n => (0x28010000 + 0x10000 * n.val, 0x8000)
  | .desc => (0x30000000, 0x10000)
  | .canMsg x => (0x31000000 + 0x10000 * x.val, 10240)
  | .radioBuf => (0x32000000, 0x8000)
  | .radioTab => (0x32100000, 0x30000)
  | .ctrl => (0x33000000, 0x2000)

/-- Every memory that CALM or a switched-off island can lose. -/
def allBlocks : List MemBlock :=
  (List.ofFn (fun n : Fin 8 => MemBlock.bank n)) ++ (List.ofFn (fun n : Fin 3 => MemBlock.tcm n)) ++
    [.desc, .canMsg 0, .canMsg 1, .radioBuf, .radioTab, .ctrl]

/-- Table 4.4: is a memory kept? -/
def State.blockKept (s : State) : MemBlock → Bool
  | .keeper => true
  | .bank n => bit (s.get PWR.BANK_RET) n.val
  | .tcm _ => false
  | .desc => s.on PWR.RET_DESC
  | .canMsg _ => s.on PWR.RET_CAN
  | .radioBuf => false
  | .radioTab => s.on PWR.RET_RADIO
  | .ctrl => s.on PWR.RET_CTRL

/-- The memories of an island, kept ones apart, have lost their contents. -/
def State.loseBlocks (s : State) (i : Island) : State :=
  let lost := allBlocks.filter (fun b => blockIsland b == i && !s.blockKept b && !s.power.needInit.contains b)
  s.modPower (fun p => { p with needInit := p.needInit ++ lost })

/-- R148: a memory that waits for it is initialised: every word is zero ciphertext with valid check bits. Objects of a message memory
are free (R443), and word 1 of a descriptor reads as the others do (R150). -/
def State.initBlock (s : State) (b : MemBlock) : State :=
  if !s.power.needInit.contains b || !s.on CLK.PLL_PERIPH_LOCK then s
  else
    let r := blockRange b
    let out := fun (a : Nat) => decide (a < r.1) || decide (r.1 + r.2 ≤ a)
    let s := { s with
      mem := { s.mem with
        ram := s.mem.ram.filter (fun e => out e.1)
        ecc := s.mem.ecc.filter (fun e => out e.1)
        single := s.mem.single.filter (fun e => out e.1) }
      power := { s.power with needInit := s.power.needInit.filter (· != b) } }
    match b with
    | .canMsg x => s.canForget x.val
    | .desc => { s with q := { s.q with slots := s.q.slots.map (fun e => (e.1, { e.2 with shown := false })) } }
    | _ => s

/-- The enable of a switched island. -/
def islandOn : Island → Option Fld
  | .control => some PWR.CTRL_ON | .can => some PWR.CAN_ON | .radio => some PWR.RADIO_ON | _ => none

/-- Is an island to run? -/
def State.enabled (s : State) (i : Island) : Bool :=
  match islandOn i with
  | some f => s.on f
  | none => true

/-- The islands. -/
def allIslands : List Island := [.ao, .keeper, .core, .control, .can, .radio, .time]

/-- R634, R145: link keys that are not kept are lost. -/
def State.loseKeys (s : State) : State := s.when (!s.on PWR.RET_RADIO) State.dropLinkKeys

/-- The clock of the control island stops: samples are reported (R677), the pairs' pads go safe (R665); `off` when it loses power. -/
def State.controlStops (s : State) (off : Bool) : State := s.stopLoops.pairsSafe off

/-- The operation of the radio ends with its island's power, and the frames in its buffers are lost (Table 4.4). A calibration that ran is due
again. -/
def State.radioStops (s : State) : State :=
  let cal := s.phy.op == .cal
  let s := (s.modPhy (fun p => { p with op := .idle, target := none, frame := none })).modLink (fun l => { l with
    prepared := none
    begun := none
    next := none
    cur := none
    rx := none
    taker := none
    ackOwed := none
    ackWait := false
    beaconDue := false
    sched := none
    rxHeld := none
    own := none
    kept := false
    jobs := l.jobs.map (fun e => (e.1, { e.2 with held := none }))
    soundings := l.soundings.map (fun e => (e.1, { e.2 with held := none })) })
  s.when cal State.calDue

/-- An island loses its power (R145, R371). -/
def State.islandDown (s : State) (i : Island) : State :=
  let s := ((s.setIsland i .off).dropLatches i).loseBlocks i
  match i with
  | .control => { (s.controlStops true).put ADC.A_BUSY 0 with ctl := { (s.controlStops true).ctl with adcA := none } }
  | .radio => s.radioStops.loseKeys
  | _ => s

/-- Is a radio operation under way (Table 4.6, R633)? -/
def State.radioActive (s : State) : Bool :=
  s.phy.op == .txAir || s.phy.op == .rxOpen || s.phy.op == .rxSync || s.phy.op == .rxHeader || s.link.next.isSome || s.link.cur.isSome

/-- R145: the reason that keeps an island on. -/
def State.keepsOn (s : State) : Island → Option Nat
  | .can => if s.canStopped 0 && s.canStopped 1 then none else some 4
  | .radio => if s.radioActive then some 5 else none
  | .control => if (List.range 16).any (fun n => s.on (CTRL.EN n)) then some 8 else none
  | _ => none

/-- R145: an island enable has been written. -/
def State.islandWritten (old : State) (s : State) (i : Island) : State :=
  match islandOn i with
  | none => s
  | some f =>
    if s.on f && !old.on f then s.when (s.island i == .off && !s.power.xo40Lost) (fun s => s.setIsland i .powering)
    else if !s.on f && old.on f then
      match old.keepsOn i with
      | some r =>
        let r := if s.on PWR.ENTRY_REFUSED && !old.on PWR.ENTRY_REFUSED then min r (s.get PWR.REFUSE_REASON) else r
        ((s.put f 1).put PWR.REFUSE_REASON r).raise PWR.ENTRY_REFUSED
      | none => if s.island i == .lost then s else s.islandDown i
    else s

/-- R150: a descriptor that stayed queued through CALM is judged against its deadline. -/
def State.judgeQueued (s : State) : State :=
  s.q.slots.foldl (fun st e => st.when (e.2.state == 2 && st.deadlinePassed e.1) (fun st => st.completeMissed e.1)) s

/-- R145, R160: an island is released once it is clocked and its memories are initialised; in the exit from CALM the keeper island is
clocked by RC16 before the PLLs lock (Table 4.9). -/
def State.release (s : State) (i : Island) : State :=
  let clocked := s.on CLK.PLL_PERIPH_LOCK || (i == .keeper && s.power.phase == .leaving)
  if s.island i == .powering && clocked && s.enabled i && !s.rst.inReset && s.power.needInit.all (fun b => blockIsland b != i)
  then
    let s := s.setIsland i .running
    match i with
    | .core => ({ s with fab := { s.fab with held := false } }).judgeQueued
    | .control => s.toothReleased
    | .radio => s.radioReleased.linkReleased
    | _ => s
  else s

/-! ### Entry to LULL and CALM (R153 to R156) -/

/-- R153, R143, R144: MODE_REQ has been written. GALE and BREEZE take effect at once, whatever entry or exit is under way; asleep they are
the mode that the exit returns to. In an exit both PLLs stay locked, and the core stays at 100 MHz, up to WAKE_DONE (R160). -/
def State.modeWritten (s : State) : State :=
  let leaving := s.power.phase == .leaving
  match s.get PWR.MODE_REQ with
  | 0 =>
    let s := (s.put PWR.ARMED 0).put PWR.MODE 0
    if s.power.mode == .breeze then (s.modPower (fun p => { p with mode := .gale })).opReturn else s
  | 1 =>
    let s := (s.put PWR.ARMED 0).put PWR.MODE 1
    if s.power.mode == .gale then
      let s := ((s.modPower (fun p => { p with mode := .breeze })).put PWR.OP_NOW 0).when (!leaving) (fun s => s.put CLK.PLL_CORE_LOCK 0)
      s.when (s.on PWR.SLEWING || s.power.coreMv != 700) (fun s => s.slew 700)
    else s
  | n => (s.modPower (fun p => { p with target := if n == 2 then .lull else .calm })).put PWR.ARMED 1

/-- HELD is 1 on some FAULT page. -/
def State.anyHeld (s : State) : Bool := (List.range 4).any (fun t => s.on (FAULT.HELD t))

/-- R154: an entry is refused. -/
def State.refuseEntry (s : State) (code : Nat) : State :=
  ((((s.modPower (fun p => { p with phase := .steady })).put PWR.ARMED 0).put PWR.MODE_REQ (s.get PWR.MODE)).put
    PWR.REFUSE_REASON code).raise PWR.ENTRY_REFUSED

/-- R153, R155: hart M's wfi stalls: an armed entry begins. While an exit runs, up to WAKE_DONE, none begins; the request stays armed for a
later wfi (assumption log 17, DESIGN CHOICE). -/
def State.entryBegins (s : State) : State :=
  if !(s.on PWR.ARMED && s.power.phase == .steady && (s.power.mode == .gale || s.power.mode == .breeze)) then s
  else if s.anyHeld then s.refuseEntry 9
  else (s.modPower (fun p => { p with phase := .draining })).put PWR.ARMED 0

/-- Table 4.6: QUEUE_BUSY. -/
def State.queueBusy (s : State) : Bool :=
  !s.q.active.isEmpty || s.q.slots.any (fun e => e.2.state == 3 || (e.2.state == 2 && (s.on (QMGR.Q_EN e.2.queue) || !s.on PWR.RET_DESC)))

/-- Table 4.6: the lowest code that refuses an entry to the target. -/
def State.refusal (s : State) : Option Nat :=
  let calm := s.power.target == .calm
  if s.get PWR.WAKE_CAUSE &&& s.get PWR.WAKE_EN != 0 then some 1
  else if s.harts.toList.any (·.halted) then some 2
  else if s.mem.flashOp.isSome || !s.mem.flashQueue.isEmpty then some 3
  else if !(s.canStopped 0 && s.canStopped 1) then some 4
  else if s.radioActive then some 5
  else if calm && s.queueBusy then some 6
  else if calm && !(s.on CLK.XO32_OK && s.on CLK.LF_CAL_VALID) then some 7
  else if s.anyHeld then some 9
  else none

/-- The clocks of all islands but the always-on one stop; `keepTime` leaves the time island on XO40. -/
def State.stopClocks (s : State) (keepTime : Bool) : State :=
  s.modPower (fun p => { p with islands := Vector.ofFn (fun i : Fin 7 =>
    if p.islands[i] == IslandState.running && i.val != 0 && !(keepTime && i.val == 6) then .stopped else p.islands[i]) })

/-- R274: a scrubber pass reads the words of main SRAM up to word `n`: each word with a single-bit error is written back corrected, each uncorrectable
word is reported. A bank that its initialisation has rewritten holds no error (R148). -/
def State.scrubTo (s : State) (n : Nat) : State :=
  let read := fun (a : Nat) => decide (0x20000000 + 4 * s.mem.scrubPos ≤ a) && decide (a < 0x20000000 + 4 * n)
  let s := (s.mem.ecc.filter (fun e => read e.1)).foldl (fun st e => st.eccRecord 0 e.1 0x81) s
  { s with mem := { s.mem with single := s.mem.single.filter (fun e => !read e.1), scrubPos := n } }

/-- R276: the scrubber stops at the entry to LULL or CALM; how far the pass has come by then is not stated (assumption log 3). -/
def State.scrubPause (s : State) : State :=
  if s.mem.scrubDue then
    let v := s.free 18
    v.2.scrubTo (s.mem.scrubPos + v.1 % (262145 - s.mem.scrubPos))
  else s

/-- R154 to R156: the posting buffers are empty: the entry is refused or proceeds. -/
def State.drained (s : State) : State :=
  if s.power.phase != .draining || s.harts.toList.any (fun h => !h.posts.isEmpty) then s
  else match s.refusal with
    | some c => s.refuseEntry c
    | none =>
      let s := (s.put PWR.MODE_REQ (s.get PWR.MODE)).scrubPause
      if s.power.target == .lull then
        let s := (((s.stopClocks true).modPower (fun p => { p with mode := .lull, phase := .steady })).put CLK.PLL_CORE_LOCK 0).put
          CLK.PLL_PERIPH_LOCK 0
        (((s.put PWR.OP_NOW 0).controlStops false)).slew 600
      else
        let s := (s.stopClocks false).modPower (fun p => { p with phase := .entering, entryNs := 0, edgeNs := 0 })
        ({ s with fab := { s.fab with held := true } }).pairsSafe false

/-- Table 4.4, R149: what a hart keeps: the debug module's requests. -/
def Hart.lost (h : Hart) : Hart := { noHart with haltReset := h.haltReset, haltWait := h.haltWait, inReset := h.inReset }

/-- Table 4.4, R149: every loop is stopped as by firmware (R645): what is in progress or held is discarded, with no record. -/
def State.loopsOff (s : State) : State :=
  (List.range 16).foldl (fun st n =>
    let st' := ((st.put (CTRL.EN n) 0).clear (CTRL.HELD n)).setSample n none
    st'.when (st.on (CTRL.EN n) && st.on (CTRL.OUT_EN n)) (fun s => s.forceSafe (st.get (CTRL.OUT_PAIR n))))
    { s with ctl := { s.ctl with stage := none } }

/-- R152: the watchdogs start their windows anew. -/
def State.wdtRestart (s : State) : State := { s with wdt := Vector.replicate 4 ⟨none⟩ }

/-- R163: the NTU enters coarse mode. -/
def State.enterCoarse (s : State) : State :=
  if s.power.coarse then s else (s.modPower (fun p => { p with coarse := true, lfStart := none, edgeNs := 0 })).put NTU.TIME_COARSE 1

/-- R156, R147, R149, R171: CALM is reached. -/
def State.calmReached (s : State) : State :=
  if s.power.phase != .entering then s
  else
    let s := s.loopsOff.enterCoarse
    let s := [Island.keeper, .core, .control, .can, .radio, .time].foldl State.islandDown s
    let s := (((s.put CLK.PLL_CORE_LOCK 0).put CLK.PLL_PERIPH_LOCK 0).put CLK.XO40_OK 0).put PWR.OP_NOW 0
    let s := (s.put PWR.SLEWING 0).put RSTC.RUN 0
    let s := { s with
      harts := s.harts.map Hart.lost
      mem := { s.mem with cache := Vector.replicate 4 [] } }
    let s := (s.modPower (fun p => { p with
      mode := .calm
      phase := .steady
      xo40On := false
      warmDue := true
      fromCalm := true
      coreMv := 0
      slewTo := 0 })).wdtRestart.judgeRails
    s.when s.power.wakePend State.beginExit

/-! ### Exit (R159 to R161, R137) -/

/-- R136, R142: the PLLs lock. -/
def State.pllLock (s : State) : State :=
  let up := s.on CLK.XO40_OK && !s.power.xo40Lost && s.power.mode != .off && s.power.phase != .entering &&
    ((s.power.mode != .lull && s.power.mode != .calm) || s.power.phase == .leaving)
  if !up || !s.rst.treeUp then s
  else
    let s := ((s.put CLK.PLL_PERIPH_LOCK 1).when (s.power.phase == .leaving || s.get PWR.MODE == 0) (fun s => s.put CLK.PLL_CORE_LOCK 1)).put
      CLK.KEEP_ON_RC 0
    if s.power.mode == .calm then s.modPower (fun p => { p with mode := s.baseMode }) else s

/-- R159: harts and islands resume after LULL; with XO40 lost only the keeper island does, on RC16 (R138). A hart that the debug module
asked to halt meanwhile halts before it executes anything (R348). -/
def State.lullResume (s : State) : State :=
  let ok := s.on CLK.PLL_PERIPH_LOCK && s.power.coreMv == 700 && !s.on PWR.SLEWING
  if s.power.mode == .lull && s.power.phase == .leaving && (ok || s.power.xo40Lost) then
    let was := s.island .control
    let s := s.modPower (fun p => { p with
      mode := s.baseMode
      islands := p.islands.map (fun i => if i == IslandState.stopped then IslandState.running else i) })
    let s := { s with harts := Vector.ofFn (fun n : Fin 4 => if s.up (hartIsland n.val) then s.harts[n].metHalt else s.harts[n]) }
    s.when (was == .stopped && s.up .control) State.toothReleased
  else s

/-- R151: hart M starts after CALM, on RC16 until the PLLs lock (Table 4.9): at the warm vector or by the boot path. -/
def State.warmStart (s : State) : State :=
  let s := s.release .keeper
  if s.power.warmDue && s.up .keeper && !s.rst.bootPending && !s.rst.inReset then
    let a := s.get PWR.WARM_VECTOR * 4
    if s.on PWR.WARM_EN && within 0x10000000 0x10000 a then
      (s.modPower (fun p => { p with warmDue := false })).modHart 0 (fun h => { h with running := true, pc := BitVec.ofNat 32 a }.metHalt)
    else { s with rst := { s.rst with bootPending := true } }
  else s

/-- R158: every enabled island has been released. After CALM the watchdogs start their windows anew (R152). -/
def State.wakeDone (s : State) : State :=
  let all := allIslands.all (fun i => !s.enabled i || s.up i)
  if s.power.phase == .leaving && s.power.mode != .lull && s.power.mode != .calm && all then
    let s := s.when s.power.fromCalm State.wdtRestart
    let s := (s.modPower (fun p => { p with phase := .steady, fromCalm := false, mode := s.baseMode })).raise PWR.WAKE_DONE
    let s := s.when (s.get PWR.MODE == 1) (fun s => s.put CLK.PLL_CORE_LOCK 0)
    s.opReturn
  else s

/-! ### Crystals (R138, R140, R162, R163, R172, R174) -/

/-- R138, R172: XO40 is lost: what hangs on the PLLs behaves as powered down, hart M goes on RC16, the NTU goes to coarse mode. An entry to
CALM under way ends as a wake would end it, and after a failed exit, which brings no WAKE_DONE, the watchdogs count again, since T0's is a
way out (assumption log 17, DESIGN CHOICE). -/
def State.xo40Fails (s : State) : State :=
  let s := s.modPower (fun p => { p with
    xo40Lost := true
    xo40On := false
    islands := Vector.ofFn (fun i : Fin 7 =>
      if i.val = 0 then p.islands[i] else if i.val = 1 then (if p.mode == .lull then p.islands[i] else .running)
      else if p.islands[i] == IslandState.off then .off else .lost) })
  let s := if s.power.phase == .leaving && s.power.mode != .lull then
      (s.modPower (fun p => { p with phase := .steady, mode := s.baseMode, fromCalm := false })).when s.power.fromCalm State.wdtRestart
    else if s.power.phase == .entering then s.abortEntry
    else s
  let s := (((s.put CLK.XO40_OK 0).put CLK.PLL_CORE_LOCK 0).put CLK.PLL_PERIPH_LOCK 0).put CLK.KEEP_ON_RC 1
  let s := (s.controlStops true).radioStops.enterCoarse
  let s := [Island.core, .control, .can, .radio, .time].foldl State.dropLatches s
  let s := { s with can := s.can.map (fun c : CanCtl => { c with send := none }) }
  s.raise CLK.CLK_LOSS

/-- R138: RC16 sees no XO40 edge. -/
def State.xo40Loss (s : State) : State := if s.on CLK.XO40_OK then s.xo40Fails else s

/-- R172: XO40 has not started in an exit from CALM. -/
def State.xo40Timeout (s : State) : State :=
  if s.power.mode == .calm && s.power.phase == .leaving && !s.on CLK.XO40_OK then s.xo40Fails else s

/-- R136: XO40 is stable. -/
def State.xo40Stable (s : State) : State := if s.power.xo40On && !s.power.xo40Lost then s.put CLK.XO40_OK 1 else s

/-- R140: the time base goes to RC16. -/
def State.xo32Fails (s : State) : State :=
  (((s.put CLK.XO32_OK 0).put CLK.AO_ON_RC 1).raise CLK.CLK_LOSS).modPower (fun p => { p with lfStart := none })

/-- R140: XO32 is lost outside CALM. -/
def State.xo32Loss (s : State) : State :=
  if s.on CLK.XO32_OK && (s.power.mode != .calm || s.power.phase == .leaving) && s.power.phase != .entering then s.xo32Fails else s

/-- R174: XO32 is lost in CALM: the device leaves it at once, with no cause bit. So it is taken in an entry to CALM too, which has begun to
count on XO32 (assumption log 17, DESIGN CHOICE). -/
def State.xo32LossCalm (s : State) : State :=
  let inCalm := (s.power.mode == .calm && s.power.phase == .steady) || s.power.phase == .entering
  if s.on CLK.XO32_OK && inCalm then
    let s := s.xo32Fails.put CLK.LF_CAL_VALID 0
    if s.power.phase == .steady then s.beginExit
    else if s.entryFixed then s.modPower (fun p => { p with wakePend := true })
    else s.abortEntry
  else s

/-- Network time in 2^-32 ns. -/
def State.fineNow (s : State) : Nat := s.now * 2 ^ 32 + s.ntu.frac

/-- R140, R162: XO32 is back; a calibration window begins. -/
def State.xo32Return (s : State) : State :=
  if s.on CLK.XO32_OK then s
  else
    let s := (s.put CLK.XO32_OK 1).put CLK.AO_ON_RC 0
    s.modPower (fun p => { p with lfStart := if p.coarse then none else some s.fineNow, lfBad := false })

/-- R162: 1,024 XO32 periods have passed. After a step the window began `edge` ns after it, at the next XO32 edge. -/
def State.lfWindow (s : State) (edge : Nat) : State :=
  if !s.on CLK.XO32_OK || s.power.coarse then s
  else
    let next := s.modPower (fun p => { p with lfStart := some s.fineNow, lfBad := false })
    match s.power.lfStart with
    | none => next
    | some t =>
      let start := if s.power.lfBad then t + edge * 2 ^ 32 else t
      (next.put CLK.LF_ADDEND ((s.fineNow - start) / 2 ^ 26)).put CLK.LF_CAL_VALID 1

/-- R163: an XO32 edge switches the NTU to coarse mode, or back once the time island is clocked. -/
def State.coarseSwitch (s : State) : State :=
  if s.power.coarse then
    if s.on CLK.PLL_PERIPH_LOCK && s.power.phase != .entering then
      s.modPower (fun p => { p with coarse := false, lfStart := if s.on CLK.XO32_OK then some s.fineNow else none, lfBad := false })
    else s
  else s.when (s.power.phase == .entering) State.enterCoarse

/-! ### Temperature (R165) -/

/-- The junction is above the warning threshold. -/
def State.thermWarn (s : State) : State :=
  ((s.put PWR.THERM_HOT 1).when s.power.warnArmed (fun s => s.raise PWR.THERM_WARN)).modPower (fun p => { p with warnArmed := false })

/-- The junction is below it again; below 125 °C the warning can come anew. -/
def State.thermClear (s : State) (below125 : Bool) : State :=
  (s.put PWR.THERM_HOT 0).modPower (fun p => { p with warnArmed := p.warnArmed || below125 })

/-! ### The PWR page -/

/-- R145, R147: memories and keys that PWR_RET no longer keeps are lost where their island is without power. -/
def State.retWritten (s : State) : State :=
  let s := [Island.core, .control, .can, .radio].foldl (fun st i => st.when (st.island i == .off) (fun st => st.loseBlocks i)) s
  s.when (s.island .radio == .off) State.loseKeys

/-- What a write of the word at `off` does beyond its fields. -/
def State.pwrWrote (s : State) (off : Nat) (old : State) : State :=
  if off = 0x10 then s.modeWritten
  else if off = 0x14 then s.opWritten
  else if off = 0x1C then [Island.control, .can, .radio].foldl (State.islandWritten old) s
  else if off = 0x20 then s.retWritten
  else s

end Sys2Proof.Machine
end

