-- ==== Sys2Proof/Machine/Reset.lean ====
section
/-!
DEFINITION. Resets, start-up, fuses and boot (chapter 5): what each reset scope returns to its reset value, the order of a start, the
image header check and copy, fuse commands, the release of harts, the forced quiesce of a tenant, OFF, and what a write of the RSTC page
does beyond its fields.
-/

namespace Sys2Proof.Machine

/-- The state with the reset state changed. -/
def State.modRst (s : State) (f : Reset → Reset) : State := { s with rst := f s.rst }

/-! ### What a reset returns (R178, R179, R230) -/

/-- The fields of these classes return to their reset values. -/
def State.dropFields (s : State) (ks : List Keep) : State :=
  { s with fields := s.fields.filter (fun e => match fieldOfKey e.1 with
    | some f => !ks.contains f.keep
    | none => true) }

/-- The fields of page `p` return to their reset values. -/
def State.resetPage (s : State) (p : Nat) : State :=
  { s with fields := s.fields.filter (fun e => e.1 % 64 != p) }

/-- Is an uncorrectable or programmed address one of the flash arrays? -/
def inFlash (a : Nat) : Bool := a < 0x10000000

/-- Everything that every system-level reset clears, whatever its scope: harts, ownership, records, queues, buffers and blocks. Debug
module, supplies, network time, memory contents and flash stay. -/
def State.clearBlocks (s : State) : State :=
  { s with
    owners := []
    waiting := []
    service := []
    post := Vector.replicate 4 noPost
    wdt := Vector.replicate 4 ⟨none⟩
    harts := s.harts.map Hart.lost
    mem := { s.mem with
      flashQueue := []
      flashOp := none
      staged := Vector.replicate 4 []
      scrubDue := false
      scrubPos := 0
      crcReg := 0xFFFFFFFF
      cache := Vector.replicate 4 [] }
    q := noQueues
    fab := { s.fab with signal := [], evout := [], pulses := [], held := false, heldPad := [] }
    ser := noSerial
    ntu := { noNtu with
      sec := s.ntu.sec
      ns := s.ntu.ns
      frac := s.ntu.frac
      mtime := s.ntu.mtime
      mtimeNs := s.ntu.mtimeNs
      mtimeRest := s.ntu.mtimeRest }
    can := Vector.replicate 2 noCan
    phy := noPhy
    link := noLink
    ctl := noControl
    tooth := Vector.replicate 4 noTooth
    toothTime := 0 }

/-- Every memory that loses its contents without power. -/
def everyBlock : List MemBlock := .keeper :: allBlocks

/-- What the loss of all supplies leaves: flash and fuses (Table 5.2), the VBAT part and the live bits. A cold-start charger that runs goes
on while no source is valid (R106). A frame decoder that works in SLEEP works on (R510). -/
def State.unpowered (s : State) : State :=
  let s := (s.dropFields [.sys, .kept]).clearBlocks
  let s := { s with
    supply := { noSupply with coldStart := s.supply.coldStart && s.bestSource == 0 }
    fab := { s.fab with padFuse := Vector.replicate 48 0 }
    power := ⟨.gale, .steady, .lull, Vector.replicate 7 .off, 0, 0, false, false, false, false, 0, 0, none, false, true, false, everyBlock,
      false, false⟩
    ntu := { noNtu with mtime := s.ntu.mtime }
    mem := blankMem s.mem.flash s.mem.programmed s.mem.broken (s.mem.ecc.filter (fun e => inFlash e.1))
      (s.mem.single.filter (fun e => inFlash e.1)) s.mem.keys s.mem.draws
    rst := { s.rst with
      inReset := true
      fuseLoaded := false
      treeUp := false
      keysDrawn := false
      ready := false
      driven := false
      stretchOver := false
      highSeen := false
      asked := []
      bootPending := false
      copying := false
      quiescing := []
      fuseOp := none } }
  let s := [CLK.XO40_OK, CLK.XO32_OK, CLK.PLL_CORE_LOCK, CLK.PLL_PERIPH_LOCK, CLK.KEEP_ON_RC, SUPPLY.PGOOD].foldl (fun st f => st.put f 0) s
  s.when (s.get CANX.MODE_NOW != 3) (fun s => s.decoderOff.put CANX.MODE_NOW 0)

/-! ### Keys (R279, R298) -/

/-- A key is drawn; while a test of the TRNG is failing, the draw is reported. -/
def State.newKey (s : State) (k : Nat) : State :=
  (s.drawKey k).when s.mem.trngFail (fun s => (s.raise MEMC.KEYS_DEGRADED).put MEMC.DEGRADED 1)

/-- All five keys are drawn. -/
def State.newKeys (s : State) : State :=
  ([0, 1, 2, 3, 4].foldl State.newKey s).modRst (fun r => { r with keysDrawn := true })

/-! ### Leaving the reset (R182, R183, R198, Table 5.6) -/

/-- The islands are released, unless a further reset event is still to take hold; the boot sequencer's check is next. -/
def State.leaveReset (s : State) : State :=
  if !s.rst.inReset || !s.rst.asked.isEmpty || s.rst.thermalHold || s.rst.debugHold || !s.rst.highSeen then s
  else
    let s := s.modRst (fun r => { r with inReset := false, driven := false, bootPending := true })
    let s := s.modPower (fun p => { p with islands := Vector.replicate 7 .running })
    (s.radioReleased.linkReleased).toothReleased

/-- R182: the drive on RESET_N ends at the later of the stretch and readiness. -/
def State.judgeDrive (s : State) : State :=
  s.when (s.rst.inReset && s.rst.ready && s.rst.stretchOver) (fun s => s.modRst (fun r => { r with driven := false }))

/-- Start-up readiness: the end of step 5. -/
def State.readiness (s : State) : State :=
  if s.rst.inReset && s.rst.fuseLoaded && s.rst.treeUp && s.rst.keysDrawn && s.on CLK.PLL_PERIPH_LOCK && s.on CLK.PLL_CORE_LOCK &&
      s.power.needInit.isEmpty
  then (s.modRst (fun r => { r with ready := true })).judgeDrive
  else s

/-- RESET_STRETCH elapses. -/
def State.stretchEnd (s : State) : State :=
  if s.rst.inReset && s.rst.driven then (s.modRst (fun r => { r with stretchOver := true })).judgeDrive else s

/-- R183: the pad has been high for 10 µs. -/
def State.padHigh (s : State) : State :=
  if s.rst.inReset && !s.rst.driven && s.rst.ready && s.rst.stretchOver then (s.modRst (fun r => { r with highSeen := true })).leaveReset
  else s

/-! ### Power-on (R109, R176, R184 to R187, R199) -/

/-- A POR begins: nothing keeps its state. A flash word or sector being written and a fuse word being programmed are left as R187, R197
and R272 say. -/
def State.breakFlash (s : State) : State :=
  match s.mem.flashOp with
  | none => s
  | some (slot, _, _) =>
    let a := s.get (FLASHC.ADDR (slot % 4))
    let units := match s.get (FLASHC.OP (slot % 4)) with
      | 1 => [a / 16 * 16]
      | 2 => (List.range 256).map (fun i => a / 4096 * 4096 + 16 * i)
      | _ => []
    { s with mem := { s.mem with
        programmed := units.foldl (fun t u => Table.insert t u ()) s.mem.programmed
        broken := units.foldl (fun t u => Table.insert t u ()) s.mem.broken } }

/-- R285: a POR during GEN_BUMP leaves either generation. -/
def State.breakGen (s : State) : State :=
  match s.mem.flashOp with
  | none => s
  | some (slot, _, _) =>
    if s.get (FLASHC.OP (slot % 4)) = 3 then
      let r := (s.get (FLASHC.ADDR (slot % 4)) - 0x800000) / 0x4000
      let c := s.freeBool
      c.2.when c.1 (fun s => s.put (FLASHC.GEN r) (s.get (FLASHC.GEN r) + 1))
    else s

/-- R197: a POR during a PROGRAM blows any subset of the requested bits. -/
def State.breakFuse (s : State) : State :=
  match s.rst.fuseOp with
  | none => s
  | some (w, d) =>
    let v := s.free 32
    v.2.modRst (fun r => { r with fuses := vmod r.fuses w (fun x => x ||| (d &&& BitVec.ofNat 32 v.1)) })

/-- POR takes hold. VIO starts absent, and every VIO pad is seen at 0 (R81). -/
def State.porStart (s : State) : State :=
  if !s.rst.porDue then s
  else
    let s := (s.breakFlash.breakGen.breakFuse).unpowered.dropFields [.por]
    { (s.modRst (fun r => { r with porDue := false, porHeld := true, brownHeld := false, retained := false, debugHold := false })).put
        PWM.FAULT_IN 1 with
      ntu := noNtu
      fab := { s.fab with vio := false, accepted := [] }
      harts := Vector.replicate 4 noHart
      dbg := noDebug }

/-- R199: POR is released; RSTC_CAUSE tells how the device started. -/
def State.porEnd (s : State) : State :=
  if !s.rst.porHeld then s
  else
    let off := s.rst.offExit
    let s := (s.modRst (fun r => { r with porHeld := false, offExit := false })).put SUPPLY.ACTIVE_SRC s.bestSource
    let s := s.put RSTC.CAUSE_POR 1
    let s := (s.putB RSTC.CAUSE_OFF_EXIT off).putB RSTC.CAUSE_FAILSAFE (off && s.trx.byTimer)
    { s.suppliedPgood with
      power := { s.power with mode := .gale, islands := vput s.power.islands 0 .running }
      trx := { s.trx with keptOff := false } }

/-- R138, R184: does a pulse or a segment run? Where the core island has lost its clock for good, its flash controller stands still (assumption
log 21, DESIGN CHOICE). -/
def State.flashRuns (s : State) : Bool := s.mem.flashOp.isSome && s.island .core != .lost

/-- R109, R185: the brown-out reset takes hold. The flash finishes its pulse from the hold-up; `op` is what ran. -/
def State.brownStart (s : State) (retained : Bool) : State :=
  let op := if s.flashRuns then s.mem.flashOp else none
  let stands := s.mem.flashOp.isSome && !s.flashRuns
  let keep := (s.get (FLASHC.ADDR 0), s.get (FLASHC.ADDR 1), s.get (FLASHC.ADDR 2), s.get (FLASHC.ADDR 3))
  let ops := (s.get (FLASHC.OP 0), s.get (FLASHC.OP 1), s.get (FLASHC.OP 2), s.get (FLASHC.OP 3))
  let s := s.unpowered
  let s := ([0, 1, 2, 3].foldl (fun st n => st.put (RSTC.EPOCH n) 0) s).modRst (fun r => { r with
    brownHeld := true
    retained := retained
    porHeld := false
    porDue := false })
  if op.isSome then
    let s := (((s.put (FLASHC.ADDR 0) keep.1).put (FLASHC.ADDR 1) keep.2.1).put (FLASHC.ADDR 2) keep.2.2.1).put (FLASHC.ADDR 3) keep.2.2.2
    let s := (((s.put (FLASHC.OP 0) ops.1).put (FLASHC.OP 1) ops.2.1).put (FLASHC.OP 2) ops.2.2.1).put (FLASHC.OP 3) ops.2.2.2
    { s with mem := { s.mem with flashOp := op, flashCut := true } }
  else s.when stands (fun s => s.put RSTC.FLASH_ABANDONED 1)

/-- R109, R199: a source is valid: a brown-out ends, as a POR when the retention was lost. -/
def State.powerBack (s : State) : State :=
  if s.rst.brownHeld && s.bestSource != 0 then
    if s.rst.retained then
      let s := (s.modRst (fun r => { r with brownHeld := false, retained := false })).put SUPPLY.ACTIVE_SRC s.bestSource
      ((s.put RSTC.CAUSE_BROWNOUT 1).modPower (fun p => { p with islands := vput p.islands 0 .running })).suppliedPgood
    else s.modRst (fun r => { r with brownHeld := false, porDue := true })
  else s

/-- R109: a brown-out takes hold; it ends at once where a source is valid by then. -/
def State.brownTaken (s : State) (retained : Bool) : State := (s.brownStart retained).powerBack

/-- R109: is there nothing to run from? -/
def State.noSupplyNow (s : State) : Bool := s.bestSource == 0 || (s.get SUPPLY.ACTIVE_SRC == 3 && !s.on SUPPLY.VSTORE_VALID)

/-- R109, R197, R199: a brown-out; `retained` tells whether the always-on supply stays above its retention level. -/
def State.brownOut (s : State) (retained : Bool) : State :=
  if s.power.mode == .off || s.rst.porDue || s.rst.porHeld then s
  else if s.rst.brownHeld then s.modRst (fun r => { r with retained := r.retained && retained })
  else if !s.noSupplyNow then s
  else if s.rst.fuseOp.isSome then s.modRst (fun r => { r with asked := r.asked ++ [.brownOut retained] })
  else s.brownTaken retained

/-! ### The system reset (R178, R184, R197) -/

/-- The cause bit of a source of system resets. -/
def causeField : ResetSource → Option Fld
  | .brownOut _ => none
  | .pin => some RSTC.CAUSE_PIN
  | .watchdog => some RSTC.CAUSE_WDT0
  | .software => some RSTC.CAUSE_SOFT
  | .debug => some RSTC.CAUSE_DEBUG
  | .thermal => some RSTC.CAUSE_THERMAL

/-- The causes of these sources are recorded. -/
def State.noteCauses (s : State) (l : List ResetSource) : State :=
  l.foldl (fun st r => match causeField r with
    | some f => st.put f 1
    | none => st) s

/-- Table 5.2, system reset. The network time goes on counting (R399). Of ADC-B's background work a due sample and a due open-circuit measurement are
dropped, and the time of the rest and its band stay (assumption log 31, DESIGN CHOICE beside R120). -/
def State.systemReset (s : State) : State :=
  let abandoned := s.mem.flashOp.isSome
  let clkLoss := s.on CLK.CLK_LOSS || s.power.xo40Lost
  let s := s.noteCauses s.rst.asked
  let s := (s.dropFields [.sys]).clearBlocks
  let s := s.when abandoned (fun s => s.put RSTC.FLASH_ABANDONED 1)
  let s := s.when clkLoss (fun s => ((s.put CLK.XO40_OK 0).put CLK.PLL_CORE_LOCK 0).put CLK.PLL_PERIPH_LOCK 0)
  let s := s.modPower (fun p => { p with
    mode := .gale
    phase := .steady
    target := .lull
    islands := Vector.ofFn (fun i : Fin 7 => if i.val = 0 || i.val = 6 then .running else .powering)
    coreMv := 700
    slewTo := 700
    opStored := false
    xo40On := true
    xo40Lost := false
    lfStart := none
    wakePend := false
    warmDue := false
    fromCalm := false })
  let s := { s with supply := { s.supply with mpptDue := false, inputOpen := false, sampleDue := false, gaugeConv := false } }
  let s := s.modRst (fun r => { r with
    inReset := true
    fuseLoaded := false
    ready := false
    driven := true
    stretchOver := false
    highSeen := false
    asked := []
    bootPending := false
    copying := false
    quiescing := [] })
  let s := (s.decoderOff.put CANX.MODE (s.get RSTC.CANA_LISTEN)).put CANX.MODE_NOW (s.get RSTC.CANA_LISTEN)
  ([0, 1, 2, 3].foldl (fun st n => st.put (RSTC.EPOCH n) (st.get (RSTC.EPOCH n) + 1)) s).newKeys.faultJudge

/-- R182: a further reset event in reset: the cause is recorded, the stretch starts anew. -/
def State.resetAgain (s : State) : State :=
  (s.noteCauses s.rst.asked).modRst (fun r => { r with
    asked := []
    driven := r.fuseLoaded || r.driven
    stretchOver := false
    highSeen := false })

/-- The resets that were asked for take effect. -/
def State.takeReset (s : State) : State :=
  if s.rst.asked.isEmpty then s
  else match s.rst.asked.find? (fun r => match r with
      | .brownOut _ => true
      | _ => false) with
    | some (.brownOut b) => s.brownTaken b
    | _ =>
      if s.power.mode == .off || s.rst.porDue || s.rst.porHeld || s.rst.brownHeld then s.modRst (fun r => { r with asked := [] })
      else if s.rst.inReset then s.resetAgain
      else s.systemReset

/-- Is a brown-out among the resets asked for? -/
def State.brownAsked (s : State) : Bool := s.rst.asked.any (fun r => match r with
  | .brownOut _ => true
  | _ => false)

/-- R184, R185, R197: a reset that is asked for takes effect unless a fuse PROGRAM is running or, for all but a brown-out, a flash pulse or an
erase segment. -/
def State.resetDue (s : State) : State :=
  if s.rst.fuseOp.isSome || (s.flashRuns && !s.brownAsked) then s else s.takeReset

/-- A reset source asks for a system reset. -/
def State.askReset (s : State) (r : ResetSource) : State :=
  if s.power.mode == .off then s else s.modRst (fun x => { x with asked := x.asked ++ [r] })

/-- R181, R183: a low on RESET_N. While the device drives the pad, or has not come to drive it after a power-on, it is no reset event; once
the drive has ended, a low that begins anew is one. -/
def State.padLow (s : State) : State :=
  let driving := s.rst.driven || !s.rst.ready || !s.rst.stretchOver
  if s.rst.porDue || s.rst.porHeld || s.rst.brownHeld || (s.rst.inReset && driving) then s else s.askReset .pin

/-! ### Fuse load (R189 to R193) -/

/-- CRC-16-CCITT (R192). -/
def crc16 (bytes : List Nat) : Nat :=
  bytes.foldl (fun c b => (List.range 8).foldl (fun c _ => if bit c 15 then (2 * c ^^^ 0x1021) % 2 ^ 16 else 2 * c % 2 ^ 16)
    (c ^^^ b * 2 ^ 8)) 0xFFFF

/-- Word `w` of the fuse array. -/
def State.fuse (s : State) (w : Nat) : Nat := (vget s.rst.fuses w 0).toNat

/-- Bits of the shadow from fuse bit `b`. -/
def State.shadowBits (s : State) (b n : Nat) : Nat :=
  (List.range n).foldl (fun v i => v + bits (vget s.rst.shadow ((b + i) / 32) 0).toNat ((b + i) % 32) 1 * 2 ^ i) 0

/-- R191: the quotas that a fuse load sets, and whether their sum is bad. -/
def quotasOf (l : List Nat) : List Nat × Bool :=
  if l.all (· == 0) then (List.replicate 4 512, false)
  else if 2048 < l.foldl (· + ·) 0 then (List.replicate 4 512, true)
  else (l, false)

/-- The shadow takes the array, and what follows from it takes effect. -/
def State.fuseLoad (s : State) : State :=
  if !s.rst.inReset || s.rst.fuseLoaded || s.rst.porDue || s.rst.porHeld || s.rst.brownHeld then s
  else
    let s := s.modRst (fun r => { r with shadow := r.fuses, fuseLoaded := true, driven := true, stretchOver := false })
    let crc := crc16 ((List.range 7).flatMap (fun w => bytesLE 4 (s.fuse w)))
    let q := quotasOf [bits (s.fuse 13) 0 12, bits (s.fuse 13) 16 12, bits (s.fuse 14) 0 12, bits (s.fuse 14) 16 12]
    let w := s.fuse 12
    let s := (q.1.zipIdx).foldl (fun st e => st.put (QMGR.QUOTA e.2) e.1) s
    let s := (s.putB RSTC.FACTORY_CRC_BAD (crc != bits (s.fuse 7) 0 16)).putB RSTC.QUOTA_FUSE_BAD q.2
    let s := (s.put RSTC.STRETCH (if bits w 16 2 = 3 then 0 else bits w 16 2)).put RSTC.CANA_LISTEN (bits w 18 1)
    let s := (s.put TEN.EN (0xF ^^^ bits w 19 3 * 2)).put CANX.MODE (bits w 18 1)
    let s := s.put CANX.MODE_NOW (bits w 18 1)
    { s with fab := { s.fab with padFuse := Vector.ofFn (fun i : Fin 48 => s.shadowBits (256 + 3 * i.val) 3) } }.faultJudge

/-- Step 3: the keeper and core supplies come up; XO40 is started. -/
def State.supplyTree (s : State) : State :=
  if s.rst.inReset && s.rst.fuseLoaded && !s.rst.treeUp then
    (s.modRst (fun r => { r with treeUp := true })).modPower (fun p => { p with
      xo40On := true
      coreMv := 700
      slewTo := 700
      islands := Vector.ofFn (fun i : Fin 7 => if i.val = 0 then .running else .powering) })
  else s

/-- R198: the TRNG's start-up tests end and the keys are drawn. -/
def State.trngTests (s : State) (pass : Bool) : State :=
  if s.rst.treeUp && !s.rst.keysDrawn && s.on CLK.PLL_PERIPH_LOCK then
    ({ s with mem := { s.mem with trngFail := !pass } }).newKeys
  else s

/-! ### Fuse commands (R194, R195) -/

/-- The lock bit of a fuse word's region; `none` for a reserved word. Word 63 is never locked. -/
def fuseLock (w : Nat) : Option Nat :=
  if w ≤ 7 then some 0 else if w ≤ 14 then some 1 else if w = 15 then none else if w ≤ 31 then some 2 else if w ≤ 47 then some 3
  else if w ≤ 55 then some 4 else none

/-- R195: is a PROGRAM of word `w` refused? -/
def State.fuseRefused (s : State) (w : Nat) : Bool :=
  if w = 63 then false
  else match fuseLock w with
    | some k => bit (vget s.rst.shadow 63 0).toNat k
    | none => true

/-- A fuse command has been written. -/
def State.fuseCommand (s : State) (cmd : Nat) : State :=
  let w := s.get RSTC.WORD
  if s.on RSTC.FUSE_BUSY then s
  else if cmd = 1 then
    if s.fuseRefused w then (s.put RSTC.FUSE_RESULT 1).raise RSTC.FUSE_DONE
    else if s.get SUPPLY.ACTIVE_SRC = 3 || s.get SUPPLY.ACTIVE_SRC = 0 then (s.put RSTC.FUSE_RESULT 2).raise RSTC.FUSE_DONE
    else (s.put RSTC.FUSE_BUSY 1).modRst (fun r => { r with fuseOp := some (w, BitVec.ofNat 32 (s.get RSTC.FUSE_DATA)) })
  else if cmd = 2 then
    ((s.put RSTC.FUSE_DATA (if 48 ≤ w && w < 56 then 0 else s.fuse w)).put RSTC.FUSE_RESULT 0).raise RSTC.FUSE_DONE
  else s

/-- R194, R197: the programming ends; `weak` are the bits that did not blow. A reset that waited takes effect. -/
def State.fuseDone (s : State) (weak : Word) : State :=
  match s.rst.fuseOp with
  | none => s
  | some (w, d) =>
    let v := vget s.rst.fuses w 0 ||| (d &&& ~~~weak)
    let s := s.modRst (fun r => { r with fuses := vput r.fuses w v, fuseOp := none })
    (((s.put RSTC.FUSE_BUSY 0).put RSTC.FUSE_RESULT (if v &&& d = d then 0 else 3)).raise RSTC.FUSE_DONE).resetDue

/-! ### Boot (R200 to R202, R303) -/

/-- Four words that the flash gives at once to the boot sequencer, and the state with the record of an error. -/
def State.bootFetch (s : State) (p : Nat) : List Nat × State :=
  if (Table.find s.mem.broken p).isSome then
    let c := s.freeBool
    let v := c.2.free 128
    if c.1 then ([0, 0, 0, 0], c.2.eccRecord 0 p 0x70) else ((List.range 4).map (fun i => bits v.1 (32 * i) 32), v.2)
  else if s.eccBad p then ([0, 0, 0, 0], s.eccRecord 0 p 0x70)
  else ((List.range 4).map (fun i => ofBytesLE (((s.flashWord p).drop (4 * i)).take 4)), s)

/-- R24: four words that the boot sequencer reads across the bridge from code flash, its transactions from number `k` on; one whose parity fails reads 0
and is recorded. -/
def State.bootRead (s : State) (p : Nat) (d : Disturb) (k : Nat) : List Nat × State :=
  let s := (List.range 4).foldl (fun st i => st.struck (p + 4 * i) (disturbAt d (k + i))) s
  let r := s.bootFetch p
  (r.1.zipIdx.map (fun e => if (parityFail (disturbAt d (k + e.2)) 0 (p + 4 * e.2)).isSome then 0 else e.1),
    (List.range 4).foldl (fun st i => match parityFail (disturbAt d (k + i)) 0 (p + 4 * i) with
      | some f => st.failRecord f 0x70 none
      | none => st) r.2)

/-- CRC-32 of IEEE 802.3. -/
def crcIeee (bytes : List Nat) : Nat :=
  (bytes.foldl (fun c b => (List.range 8).foldl (fun c _ => if bit c 0 then c / 2 ^^^ 0xEDB88320 else c / 2) (c ^^^ b)) 0xFFFFFFFF) ^^^
    0xFFFFFFFF

/-- R200: the code of the first check of the header that fails, 0 for none. -/
def headerCheck (h : List Nat) : Nat :=
  let entry := nth h 2
  let src := nth h 4
  let len := nth h 5
  if nth h 0 ≠ 0x54443438 then 1
  else if nth h 1 ≠ 1 then 2
  else if nth h 7 ≠ crcIeee ((h.take 7).flatMap (bytesLE 4)) then 3
  else if src % 16 ≠ 0 || src < 0x20 || len % 4 ≠ 0 || 65536 < len || 0x400000 < src + len then 4
  else if entry % 2 ≠ 0 || !((0x20 ≤ entry && entry ≤ 0x3FFFFE) || (0x10000000 ≤ entry && entry < 0x10000000 + len)) then 5
  else 0

/-- R43: the fail-safe sleep that ended in this start is reported. -/
def State.reportFailsafe (s : State) : State :=
  if s.trx.byTimer then { (s.fault 0 causeFailsafe 0 0 0 0x85) with trx := { s.trx with byTimer := false } } else s

/-- A hart starts at an address. A reset-halt request is served there, and a halt request that waited (R347, R348). -/
def State.startHart (s : State) (n a : Nat) : State :=
  s.modHart n (fun h =>
    let h := { h with running := true, pc := BitVec.ofNat 32 a }
    if h.haltReset then h.halt 5 else h.metHalt)

/-- The boot sequencer checks the header. After CALM it does not copy (R202). A check that passes clears what an earlier one that failed has
left in BOOT_FAIL and BOOT_ERR (assumption log 18, DESIGN CHOICE). -/
def State.bootCheck (s : State) (d : Disturb) : State :=
  if !(s.rst.bootPending && s.up .keeper && s.up .core) then s
  else
    let calm := s.power.warmDue
    let s := (s.reportFailsafe.modRst (fun r => { r with bootPending := false })).modPower (fun p => { p with warmDue := false })
    let a := s.bootRead 0 d 0
    let b := a.2.bootRead 16 d 4
    let h := a.1 ++ b.1
    let s := b.2
    let err := headerCheck h
    if err ≠ 0 then
      ((s.put RSTC.BOOT_FAIL 1).put RSTC.BOOT_ERR err).modHart 0 (fun h => { h with running := true }.halt 3)
    else
      let s := (s.put RSTC.BOOT_FAIL 0).put RSTC.BOOT_ERR 0
      if calm then s.startHart 0 (nth h 2)
      else s.modRst (fun r => { r with copying := true, entryPc := BitVec.ofNat 32 (nth h 2) })

/-- One 128-bit word of the copied range. -/
def copyUnit (src len : Nat) (d : Disturb) (s : State) (i : Nat) : State :=
  let r := s.bootRead (src + 16 * i) d (4 * i)
  ((List.range 4).filter (fun j => 16 * i + 4 * j < len)).foldl
    (fun st j => st.setWord 0 (0x10000000 + 16 * i + 4 * j) (nth r.1 j)) r.2

/-- R200: the copy ends; hart M fetches at ENTRY. -/
def State.bootCopied (s : State) (d : Disturb) : State :=
  if !s.rst.copying then s
  else
    let src := ofBytesLE ((s.flashWord 16).take 4)
    let len := ofBytesLE (((s.flashWord 16).drop 4).take 4)
    let s := (List.range ((len + 15) / 16)).foldl (copyUnit src len d) s
    (s.modRst (fun r => { r with copying := false })).startHart 0 s.rst.entryPc.toNat

/-! ### Release of harts (R203, R209) -/

/-- Table 5.8: the first reason against releasing Hn. -/
def State.releaseRefusal (s : State) (n : Nat) : Option Nat :=
  let v := s.get (RSTC.VECTOR n) * 2
  if !s.on SUPPLY.PGOOD then some 1
  else if !bit (s.get TEN.EN) n then some 2
  else if !((0x20 ≤ v && v < 0x400000) || (0x20000000 ≤ v && v < 0x20100000)) then some 3
  else if s.rst.quiescing.contains n then some 4
  else none

/-- Hn is released, or the release is refused. -/
def State.releaseHart (s : State) (n : Nat) : State :=
  if (s.hart n).running then s
  else match s.releaseRefusal n with
    | some r => (s.put RSTC.RELEASE_REASON r).raise RSTC.RELEASE_REFUSED
    | none =>
      let s := { s with wdt := vput s.wdt n ⟨none⟩ }
      (s.startHart n (s.get (RSTC.VECTOR n) * 2)).raise RSTC.RUN (n - 1)

/-! ### The forced quiesce (R205 to R210, R213 to R215) -/

/-- The cause bit of a tenant reset. -/
inductive TenantCause where
  | watchdog | software | debug
  deriving DecidableEq, Repr

/-- The field that records it. -/
def tenantCause (n : Nat) : TenantCause → Fld
  | .watchdog => RSTC.TEN_CAUSE_WDT n
  | .software => RSTC.TEN_CAUSE_SOFT n
  | .debug => RSTC.TEN_CAUSE_DEBUG n

/-- R206, R355: the ring of Tn returns to its reset values; its descriptors complete ABORTED_BY_RESET, its allocated slots are freed. -/
def State.quiesceQueues (s : State) (n : Nat) : State :=
  let s := (((s.put (QMGR.RING_BASE n) 0).put (QMGR.RING_SIZE n) 0).put (QMGR.RING_OVF n) 0).put (QMGR.RING_HEAD n) 0
  let s := s.put (QMGR.RING_TAIL n) 0
  let s := { s with q := { s.q with displaced := s.q.displaced.filter (fun e => e.2 != n) } }
  s.q.slots.foldl (fun st e => if e.2.owner != n then st
    else if e.2.state == 1 then st.setSlot e.1 none else st.completeFree e.1 stAborted) s

/-- Does a prepared operation serve this slot? -/
def Prep.serves (p : Prep) (slot : Nat) : Bool :=
  p.op == .transmit slot || p.op == .soundResp slot || p.op == .window (some slot)

/-- An operation on air goes on for nobody: its descriptor is gone. -/
def Prep.disown (p : Prep) : Prep := { p with op := .window none }

/-- The controller forgets the descriptors of Tn. -/
def State.quiesceLink (s : State) (n : Nat) : State :=
  let gone := (s.q.slots.filter (fun e => e.2.owner == n)).map (·.1)
  let s := s.modLink (fun l => { l with
    jobs := l.jobs.filter (fun e => !gone.contains e.1)
    soundings := l.soundings.filter (fun e => !gone.contains e.1)
    next := match l.next with
      | some p => if gone.any p.serves then none else some p
      | none => none
    cur := match l.cur with
      | some p => if gone.any p.serves then some p.disown else some p
      | none => none
    taker := match l.taker with
      | some k => if gone.contains k then none else some k
      | none => none })
  let s := (List.range 64).foldl (fun st e => st.when (st.owner tblNbr e == n) (fun st => st.nbrOut e)) s
  s.when (s.linkTid == n) State.linkQuiesce

/-- R273, R188: a queued flash command of Tn ends ABANDONED; one that runs is marked (slot 4 + n) to end after its pulse. -/
def State.quiesceFlash (s : State) (n : Nat) : State :=
  let s := if s.mem.flashQueue.contains n then
      (({ s with mem := { s.mem with flashQueue := dropFrom s.mem.flashQueue n } }).put (FLASHC.STATE n) 9).raise FLASHC.DONE n
    else s
  match s.mem.flashOp with
  | some (k, g, u) => if k = n then { s with mem := { s.mem with flashOp := some (4 + n, g, u) } } else s
  | none => s

/-- Event channels, interrupt view, NTU channels and page locks of Tn. The sinks that listened to a channel are not changed, an EVOUT that
followed it among them (R65, R392). -/
def State.quiesceViews (s : State) (n : Nat) : State :=
  let s := (List.range 64).foldl (fun st c => st.when (st.owner tblEvent c == n)
    (fun st => (((st.put (EVF.LOCK c) 0).put (EVF.EN c) 0).setSignal c false))) s
  let s := { (s.resetPage (0xA + n)) with service := s.service.filter (fun e => e.1 / 128 != n) }
  let s := (List.range 16).foldl (fun st c => st.when (st.owner tblNtu c == n) (fun st => (st.put (NTU.CH_MODE c) 0).modeChanged c)) s
  (List.range 36).foldl (fun st p => st.when (st.pageOwner p == n) (fun st => st.put (HDR.LOCK p) 0)) s

/-- Loops and PWM pairs of Tn. -/
def State.quiesceControl (s : State) (n : Nat) : State :=
  let s := (List.range 16).foldl (fun st k => st.when (st.owner tblLoop k == n) (fun st => (st.put (CTRL.EN k) 0).dropSample k)) s
  (List.range 6).foldl (fun st k => st.when (st.owner tblPair k == n) (fun st => st.pairOff k)) s

/-- R205, R206: Tn is reset. -/
def State.tenantReset (s : State) (n : Nat) (c : TenantCause) : State :=
  if s.rst.inReset || s.power.mode == .off then s
  else
    let s := s.put (tenantCause n c) 1
    if s.rst.quiescing.contains n then s
    else
      let s := (s.modRst (fun r => { r with quiescing := r.quiescing ++ [n] })).raise RSTC.QUIESCE_BUSY (n - 1)
      let s := { (s.modHart n Hart.lost) with
        wdt := vput s.wdt n ⟨none⟩
        mem := { s.mem with cache := vput s.mem.cache n [] } }
      let s := s.clear RSTC.RUN (n - 1)
      ((((s.quiesceLink n).quiesceQueues n).canQuiesce n).quiesceFlash n |>.quiesceViews n).quiesceControl n

/-- The quiesce of Tn completes. -/
def State.quiesceDone (s : State) (n : Nat) : State :=
  if !s.rst.quiescing.contains n then s
  else
    let s := (s.modRst (fun r => { r with quiescing := dropFrom r.quiescing n })).clear RSTC.QUIESCE_BUSY (n - 1)
    let s := ((s.put (RSTC.EPOCH n) (s.get (RSTC.EPOCH n) + 1)).newKey n).raise RSTC.TEN_RST_DONE
    s.when (bit (s.get TEN.AUTORESTART) (n - 1)) (fun s => s.releaseHart n)

/-! ### Watchdogs (R44, R251 to R253) -/

/-- R251, R152: does watchdog `n` count? After CALM not before WAKE_DONE. -/
def State.wdtRuns (s : State) (n : Nat) : Bool :=
  s.on (WDT.EN n) && (s.hart n).running && !(s.hart n).halted && (s.power.mode == .gale || s.power.mode == .breeze) && !s.power.fromCalm

/-- R44, R210: watchdog `n` expires. -/
def State.wdtExpire (s : State) (n detail : Nat) : State :=
  if n = 0 then s.askReset .watchdog else (s.fault 0 causeWatchdog detail n 0 0x84).tenantReset n .watchdog

/-! ### OFF (R93, R506 to R508) -/

/-- R508: SLEEP is entered, and the device is off. A frame decoder that is active in STANDBY stays so, with its error counter at 0 (R510, R511). A wake
that stands at the entry ends OFF again while VBAT is valid (R513, R514, R522). A fuse PROGRAM under way is left as a POR leaves it (assumption
log 18, DESIGN CHOICE). -/
def State.enterOff (s : State) : State :=
  let timer := s.trx.expired
  let decoder := if s.get CANX.MODE_NOW == 2 then (s.trx.decoding, s.trx.inUse) else (false, [])
  let wake := s.vbatOk && (s.on CANX.WAKE_WUP || s.on CANX.WAKE_WUF || s.on CANX.WAKE_PAD || s.on CANX.WAKE_FRAME_ERR)
  let s := (s.breakFuse.unpowered.dropFields [.por, .fuse]).put CANX.MODE_NOW 3
  let s := { (((s.put CANX.FS_RUN 0).put SUPPLY.ACTIVE_SRC 0)) with
    trx := { s.trx with expired := false, byTimer := timer, keptOff := true, fec := 0, decoding := decoder.1, inUse := decoder.2 }
    power := { s.power with mode := .off }
    dbg := noDebug
    harts := Vector.replicate 4 noHart }
  (s.modRst (fun r => { r with
    inReset := false
    thermalHold := false
    debugHold := false
    porDue := false
    porHeld := false
    brownHeld := false
    retained := false })).when wake State.exitOff

/-- R506, R507: are the conditions of SLEEP met, flash apart? -/
def State.sleepDue (s : State) : Bool :=
  s.power.mode != .off && s.trx.vbatPart &&
    (s.trx.expired || (s.on CANX.SLEEP_PEND && (s.get (CAN.ACT 0) == 0 || s.get (CAN.ACT 0) == 5) && s.vbatOk))

/-- The transceiver enters SLEEP unless a flash pulse or erase segment is running. -/
def State.sleepEntry (s : State) : State := if s.sleepDue && !s.flashRuns then s.enterOff else s

/-! ### The RSTC page -/

/-- What a write of the word at `off` does beyond its fields; `v` is the data in the byte lanes written, 0 elsewhere. -/
def State.rstcWrote (s : State) (off v : Nat) : State :=
  if off = 0x1C then
    if bits v 16 16 = 0x6C0A then
      let s := s.when (bit v 0) (fun s => s.askReset .software)
      [1, 2, 3].foldl (fun st n => st.when (bit v n) (fun st => st.tenantReset n .software)) s
    else s
  else if off = 0x20 then [1, 2, 3].foldl (fun st n => st.when (bit v n) (fun st => st.releaseHart n)) s
  else if off = 0x38 then s.fuseCommand (bits v 8 2)
  else s

end Sys2Proof.Machine
end

