-- ==== Sys2Proof/Machine/Flash.lean ====
section
/-!
DEFINITION. The flash controller (R265 to R273, R283 to R287), the SRAM scrubber (R274 to R276), the CRC engine's direct mode (R292, R293)
and the TRNG (R295 to R298).
-/

namespace Sys2Proof.Machine

/-- The state with the memories changed. -/
def State.modMem (s : State) (f : Mem → Mem) : State := { s with mem := f s.mem }

/-! ### Flash commands -/

/-- The region of a data-flash address. -/
def regionOf (a : Nat) : Nat := (a - 0x800000) / 0x4000

/-- Is `a` in the data flash? -/
def inDataFlash (a : Nat) : Bool := within 0x800000 0x40000 a

/-- Flash units of 128 bits: the one at `a`, or the 256 of its sector. -/
def flashUnits (op a : Nat) : List Nat :=
  if op = 1 then [a / 16 * 16] else (List.range 256).map (fun i => a / 4096 * 4096 + 16 * i)

/-- These flash words are neither erased nor reliable: they read as R272 says of a partly programmed word, those of a sector whose erase segment is
suspended too (R270; assumption log 21, DESIGN CHOICE). -/
def State.spoil (s : State) (units : List Nat) : State :=
  s.modMem (fun m => { m with
    programmed := units.foldl (fun t u => Table.insert t u ()) m.programmed
    broken := units.foldl (fun t u => Table.insert t u ()) m.broken })

/-- R267, R273: the command of slot `n` ends in a state; DONE bit n sets. -/
def State.flashEnd (s : State) (n st : Nat) : State := (s.put (FLASHC.STATE n) st).raise FLASHC.DONE n

/-- A write of FLASH_CMDn has issued a command: it is queued with the words staged (R306), and the write pointer is reset. -/
def State.flashIssue (s : State) (n : Nat) : State :=
  ((s.modMem (fun m => { m with
    flashQueue := m.flashQueue ++ [n]
    latched := vput m.latched n (vget m.staged n [])
    staged := vput m.staged n [] })).put (FLASHC.STATE n) 1).put (FLASHC.STAGED n) 0

/-- Table 7.2, checks 1 to 4: the state in which the command of slot `n` fails. -/
def State.flashCheck (s : State) (n : Nat) : Option Nat :=
  let a := s.get (FLASHC.ADDR n)
  let op := s.get (FLASHC.OP n)
  if !(inDataFlash a || (within 0 0x400000 a && op != 3)) then some 4
  else if (if inDataFlash a then s.owner tblRegion (regionOf a) != n else n != 0) then some 5
  else if op == 3 && s.get (FLASHC.GEN (regionOf a)) == 255 then some 7
  else if op == 1 && !s.erased a then some 6
  else none

/-- The 16 bytes that a PROGRAM writes: the words latched, 0xFFFF_FFFF for those not staged. -/
def State.programBytes (s : State) (n : Nat) : List Nat :=
  let l := (vget s.mem.latched n []).map (fun w => w.toNat)
  (l ++ List.replicate (4 - l.length) 0xFFFFFFFF).flatMap (bytesLE 4)

/-- An operation begins to act on its array. While a pulse or segment runs, its words are left as R272 says if power fails. -/
def State.flashBegin (s : State) (n : Nat) : State :=
  let a := s.get (FLASHC.ADDR n)
  let s := s.put (FLASHC.STATE n) 2
  match s.get (FLASHC.OP n) with
  | 1 => ((s.programFlash a (s.programBytes n)).spoil (flashUnits 1 a)).modMem (fun m => { m with flashOp := some (n, 0, 0) })
  | 2 => (s.spoil (flashUnits 2 a)).modMem (fun m => { m with flashOp := some (n, 1, 0) })
  | _ => s.modMem (fun m => { m with flashOp := some (n, 0, 0) })

/-- R268: the controller takes the oldest command. -/
def State.flashStart (s : State) : State :=
  if !s.up .core || s.mem.flashOp.isSome then s
  else match s.mem.flashQueue with
    | [] => s
    | n :: rest =>
      let s := s.modMem (fun m => { m with flashQueue := rest })
      match s.flashCheck n with
      | some st => s.flashEnd n st
      | none => s.flashBegin n

/-- What the pulse or the fourth segment of slot `n` leaves in its array. A command that ends VERIFY_FAIL leaves the flash as an operation cut
short does (R272), and the generation as it was (assumption log 21, DESIGN CHOICE). -/
def State.flashEffect (s : State) (n : Nat) (ok : Bool) : State :=
  let a := s.get (FLASHC.ADDR n)
  if !ok then s
  else match s.get (FLASHC.OP n) with
    | 1 => s.modMem (fun m => { m with
      broken := Table.erase m.broken (a / 16 * 16)
      ecc := Table.erase m.ecc (a / 16 * 16)
      single := Table.erase m.single (a / 16 * 16) })
    | 2 => s.eraseFlash (a / 4096 * 4096) 256
    | _ => s.put (FLASHC.GEN (regionOf a)) (s.get (FLASHC.GEN (regionOf a)) + 1)

/-- R184 to R186, R506: does something wait for the pulse or segment to end? A reset that also waits for a fuse PROGRAM does not come
then (R197). -/
def State.flashCut (s : State) : Bool := (!s.rst.asked.isEmpty && s.rst.fuseOp.isNone) || s.mem.flashCut || s.sleepDue

/-- R184 to R186: what waits for the end of a pulse or segment takes effect; the rest of the operation is abandoned. After a brown-out that is
the controller's own reset, also where the supply is back by then. -/
def State.flashBoundary (s : State) : State :=
  if s.mem.flashCut then
    let s := [0, 1, 2, 3].foldl (fun st n => (st.put (FLASHC.ADDR n) 0).put (FLASHC.OP n) 0) s
    (s.put RSTC.FLASH_ABANDONED 1).modMem (fun m => { m with flashOp := none, flashCut := false })
  else if !s.rst.asked.isEmpty && s.rst.fuseOp.isNone then s.takeReset
  else (s.modMem (fun m => { m with flashOp := none })).sleepEntry

/-- An operation is over: its command ends, or, for a tenant that was reset, is abandoned (R188). -/
def State.flashOver (s : State) (k : Nat) (ok : Bool) : State :=
  let s := s.modMem (fun m => { m with flashOp := none })
  if 4 ≤ k then (s.flashEnd (k - 4) 9).put RSTC.FLASH_ABANDONED 1 else s.flashEnd k (if ok then 3 else 8)

/-- R265: a program pulse ends, `ok` if its bits read back. A controller without its clock ends none (R138). -/
def State.pulseEnd (s : State) (ok : Bool) : State :=
  match s.mem.flashOp with
  | some (k, 0, _) =>
    if !s.flashRuns then s
    else
      let s := s.flashEffect (k % 4) ok
      if s.flashCut then s.flashBoundary else s.flashOver k ok
  | _ => s

/-- R265, R270: an erase segment ends. -/
def State.segmentEnd (s : State) (ok : Bool) : State :=
  match s.mem.flashOp with
  | some (k, g + 1, _) =>
    if s.on FLASHC.SUSPENDED || !s.flashRuns then s
    else
      let s := s.when (g == 3) (fun s => s.flashEffect (k % 4) ok)
      if s.flashCut then s.flashBoundary
      else if g == 3 || 4 ≤ k then s.flashOver k ok
      else s.modMem (fun m => { m with flashOp := some (k, g + 2, 0) })
  | _ => s

/-- Does an operation run on the code array, on the data array? -/
def State.arrayBusy (s : State) (data : Bool) : Bool :=
  match s.mem.flashOp with
  | some (k, _, _) => inDataFlash (s.get (FLASHC.ADDR (k % 4))) == data
  | none => false

/-- R270: the running segment has used its 16 suspensions. -/
def State.committed (s : State) : Bool :=
  match s.mem.flashOp with
  | some (_, _ + 1, u) => !s.on FLASHC.SUSPENDED && 16 ≤ u
  | _ => false

/-- R270: a read of the array under an erase suspends the segment, unless it is committed. -/
def State.suspend (s : State) (data : Bool) : State :=
  match s.mem.flashOp with
  | some (k, g + 1, u) =>
    if s.arrayBusy data && !s.on FLASHC.SUSPENDED && u < 16 then
      (s.put FLASHC.SUSPENDED 1).modMem (fun m => { m with flashOp := some (k, g + 1, u + 1) })
    else s
  | _ => s

/-- R269, R270: does a read of the flash word at `p` wait: for a pulse on its array, or for a segment that is committed? -/
def State.flashWaits (s : State) (p : Nat) : Bool :=
  p < 0x10000000 && s.arrayBusy (0x800000 ≤ p) && match s.mem.flashOp with
    | some (_, 0, _) => true
    | _ => s.committed

/-- R270: a read of the flash word at `p` suspends a segment that runs on its array. -/
def State.flashAsked (s : State) (p : Nat) : State := if p < 0x10000000 then s.suspend (0x800000 ≤ p) else s

/-- R270: the suspension ends. -/
def State.unsuspend (s : State) : State := s.put FLASHC.SUSPENDED 0

/-- What a write of the FLASHC page does beyond its fields: `v` is the written data, `lanes` the mask of the bytes written (R267, R271). While a command
waits or runs a write of FLASH_CMDn changes nothing, one with OP 0 included (assumption log 21, DESIGN CHOICE). -/
def State.flashWrote (s : State) (off v lanes : Nat) (old : State) : State :=
  let n := (off - 0x30) / 0x10
  if off < 0x30 then s
  else if off % 0x10 = 0 then
    if old.get (FLASHC.STATE n) = 1 || old.get (FLASHC.STATE n) = 2 then old
    else if bit lanes 24 && 1 ≤ bits v 24 4 && bits v 24 4 ≤ 3 then s.flashIssue n
    else s
  else if off % 0x10 = 4 then
    let l := vget s.mem.staged n []
    if l.length < 4 then
      (s.modMem (fun m => { m with staged := vput m.staged n (l ++ [BitVec.ofNat 32 v]) })).put (FLASHC.STAGED n) (l.length + 1)
    else s
  else s

/-- The word of the FLASHC page at `off` as tenant `t` reads it, from what its fields hold. -/
def State.flashRead (s : State) (off t w : Nat) : Nat :=
  if off = 0x10 then
    ofBool (s.arrayBusy false) + ofBool (s.arrayBusy true) * 2 + ofBool (s.on FLASHC.SUSPENDED) * 4 + ofBool s.committed * 8
  else if 0x14 ≤ off && off < 0x24 then
    (List.range 4).foldl (fun v j => v + if s.owner tblRegion (off - 0x14 + j) = t then bits w (8 * j) 8 * 2 ^ (8 * j) else 0) 0
  else w

/-! ### Scrubber -/

/-- R275: a pass falls due. -/
def State.scrubStart (s : State) : State :=
  if s.on MEMC.SCRUB_EN && s.up .core && s.power.phase == .steady then (s.put MEMC.RUNNING 1).modMem (fun m => { m with scrubDue := true })
  else s

/-- R275: the pass has been deferred for more than 1 s. -/
def State.scrubSteals (s : State) : State :=
  if s.mem.scrubDue && s.up .core && !s.on MEMC.STEALING then (s.put MEMC.STEALING 1).raise MEMC.SCRUB_STEAL else s

/-- The pass is over. -/
def State.scrubOver (s : State) : State :=
  ((s.put MEMC.RUNNING 0).put MEMC.STEALING 0).modMem (fun m => { m with scrubDue := false, scrubPos := 0 })

/-- R274: the pass completes. `single` and `double` are the words in which it is the first to find an error. -/
def State.scrubDone (s : State) (single double : List (Fin 262144)) : State :=
  if s.mem.scrubDue && s.up .core then
    let s := single.foldl (fun st w => st.setSingle (0x20000000 + 4 * w.val)) s
    let s := double.foldl (fun st w => st.setEcc (0x20000000 + 4 * w.val)) s
    ((s.scrubTo 262144).scrubOver).raise MEMC.SCRUB_PASS
  else s

/-- What a write of the MEMC page does beyond its fields: without SCRUB_EN no pass goes on. -/
def State.memcWrote (s : State) : State := s.when (!s.on MEMC.SCRUB_EN) (fun s => s.scrubOver)

/-! ### CRC engine, direct mode -/

/-- The algorithm the page selects (Table 7.7). -/
def State.crcAlg (s : State) : CrcAlg :=
  crcAlgOf (s.get CRC.MODE) (s.get CRC.POLY) (s.get CRC.INIT) (s.get CRC.XOROUT) (s.on CRC.REFIN) (s.on CRC.REFOUT)

/-- The state with the running value and the result it gives. -/
def State.crcSet (s : State) (r : Nat) : State := (s.modMem (fun m => { m with crcReg := r })).put CRC.RESULT (crcFinish s.crcAlg r)

/-- R293: the calculation starts from the initial value. -/
def State.crcRestart (s : State) : State := s.crcSet s.crcAlg.init

/-- R292, R293: bytes enter the calculation. -/
def State.crcTake (s : State) (data : List Nat) : State := s.crcSet (crcBytes s.crcAlg s.mem.crcReg data)

/-- What a write of the CRC page does beyond its fields; the access wrote `n` bytes of `v`. -/
def State.crcWrote (s : State) (off v n : Nat) : State :=
  if off = 0x10 || off = 0x18 then s.crcRestart
  else if off = 0x20 then s.crcTake (bytesLE n v)
  else s

/-! ### TRNG -/

/-- R296: a read of TRNG_DATA by the page owner: 32 fresh bits, consumed; 0 while VALID is 0. -/
def State.trngRead (s : State) : State × Nat :=
  if s.on TRNG.VALID then
    let v := s.free 32
    (v.2.put TRNG.VALID 0, v.1)
  else (s, 0)

/-- R297: a continuous test fails. -/
def State.healthFail (s : State) : State :=
  if s.up .core then
    (((s.raise TRNG.HEALTH_FAIL).put TRNG.VALID 0).put TRNG.HEALTH_OK 0).modMem (fun m => { m with trngFail := true })
  else s

/-- R296, R297: a window has passed both tests, or a fresh value is ready. -/
def State.trngValid (s : State) : State :=
  if s.up .core then ((s.put TRNG.VALID 1).put TRNG.HEALTH_OK 1).modMem (fun m => { m with trngFail := false }) else s

end Sys2Proof.Machine
end

