-- ==== Sys2Proof/Machine/Serial.lean ====
section
/-!
DEFINITION. The serial units: SPI, UART and I2C (R380 to R388). A function's input is that of the lowest-numbered pad that carries it (R86);
while VIO is absent it stands at the level accepted last, and no transition is seen (R81).
-/

namespace Sys2Proof.Machine

/-! ### SPI (R380 to R382) -/

/-- The state with the serial buffers changed. -/
def State.modSer (s : State) (f : Serial → Serial) : State := { s with ser := f s.ser }

/-- The watermark events of Table 9.6, which set while their conditions hold at an enabled unit. -/
def State.serMarks (s : State) : State :=
  [0, 1].foldl (fun st n =>
    let st := st.when (st.on (SER.SPI_EN n)) (fun st =>
      (st.when ((vget st.ser.spiTx n []).length ≤ st.get (SER.SPI_TX_WM n)) (fun st => st.put (SER.SPI_TX_WM_EVT n) 1)).when
        (st.get (SER.SPI_RX_WM n) ≤ (vget st.ser.spiRx n []).length) (fun st => st.put (SER.SPI_RX_WM_EVT n) 1))
    st.when (st.on (SER.UART_EN n)) (fun st =>
      (st.when ((vget st.ser.uartTx n []).length ≤ st.get (SER.UART_TX_WM n)) (fun st => st.put (SER.UART_TX_WM_EVT n) 1)).when
        (st.get (SER.UART_RX_WM n) ≤ (vget st.ser.uartRx n []).length) (fun st => st.put (SER.UART_RX_WM_EVT n) 1))) s

/-- A frame of SPIn as controller starts when one is waiting. -/
def State.spiNext (s : State) (n : Nat) : State :=
  if s.on (SER.SPI_EN n) && !s.on (SER.SPI_TARGET n) && (vget s.ser.spiNow n none).isNone then
    match vget s.ser.spiTx n [] with
    | v :: rest => s.modSer (fun r => { r with spiTx := vput r.spiTx n rest, spiNow := vput r.spiNow n (some v) })
    | [] => s
  else s

/-- R381: a write of DATA of SPIn. -/
def State.spiPush (s : State) (n v : Nat) : State :=
  let l := vget s.ser.spiTx n []
  if 8 ≤ l.length then (s.put (SER.SPI_TX_OVF n) 1).put (SER.SPI_ERR_EVT n) 1
  else (s.modSer (fun r => { r with spiTx := vput r.spiTx n (l ++ [v]) })).spiNext n

/-- R382: a received SPI frame, right-aligned. -/
def State.spiTake (s : State) (n rx : Nat) : State :=
  let l := vget s.ser.spiRx n []
  if 8 ≤ l.length then (s.put (SER.SPI_RX_OVF n) 1).put (SER.SPI_ERR_EVT n) 1
  else s.modSer (fun r => { r with spiRx := vput r.spiRx n (l ++ [rx % 2 ^ (s.get (SER.SPI_FRAME n) + 1)]) })

/-- R81, R382: is SPIn selected as a target: VIO present, and CS low? -/
def State.spiSelected (s : State) (n : Nat) : Bool :=
  s.fab.vio && s.carried (.sck n) && s.carried (.cs n) && !s.lineIn (.cs n)

/-- R382: SCK begins a frame of SPIn as a target: the entry it sends leaves the FIFO; with none it sends 0. -/
def State.spiBegin (s : State) (n : Nat) : State :=
  if !(s.up .core && s.on (SER.SPI_EN n) && s.on (SER.SPI_TARGET n) && s.spiSelected n) || (vget s.ser.spiNow n none).isSome then s
  else match vget s.ser.spiTx n [] with
    | v :: rest => (s.modSer (fun r => { r with spiTx := vput r.spiTx n rest, spiNow := vput r.spiNow n (some v) })).serMarks
    | [] => ((s.modSer (fun r => { r with spiNow := vput r.spiNow n (some 0) })).put (SER.SPI_TX_UNDER n) 1).put (SER.SPI_ERR_EVT n) 1

/-- What SPIn as controller receives: what the command tells, also where no pad carries MISO (assumption log 20, DESIGN CHOICE); while VIO is absent,
the level at which MISO is held (R81). -/
def State.spiSees (s : State) (n rx : Nat) : Nat := if s.fab.vio then rx else if s.lineIn (.miso n) then 2 ^ 32 - 1 else 0

/-- R382: a frame of SPIn ends; a target's frame whose start was not told begins with it. -/
def State.spiEnd (s : State) (n rx : Nat) : State :=
  if !(s.up .core && s.on (SER.SPI_EN n)) then s
  else if s.on (SER.SPI_TARGET n) then
    let s := s.spiBegin n
    if (vget s.ser.spiNow n none).isNone || !s.spiSelected n then s
    else ((s.modSer (fun r => { r with spiNow := vput r.spiNow n none })).spiTake n rx).serMarks
  else if (vget s.ser.spiNow n none).isNone then s
  else
    let s := (s.modSer (fun r => { r with spiNow := vput r.spiNow n none })).spiTake n (s.spiSees n rx)
    let s := s.when (vget s.ser.spiTx n []).isEmpty (fun s => s.put (SER.SPI_DONE_EVT n) 1)
    (s.spiNext n).serMarks

/-- R381: a read of DATA of SPIn. -/
def State.spiPop (s : State) (n : Nat) : State × Nat :=
  match vget s.ser.spiRx n [] with
  | v :: rest => ((s.modSer (fun r => { r with spiRx := vput r.spiRx n rest })).serMarks, v)
  | [] => (s, 0)

/-! ### UART (R383, R384) -/

/-- The UART's line takes the break that SEND asks for, or the next character. -/
def State.uartNext (s : State) (n : Nat) : State :=
  if !(s.on (SER.UART_EN n) && s.on (SER.UART_TX_EN n)) || (vget s.ser.uartNow n none).isSome || vget s.ser.brk n false then s
  else if s.on (SER.UART_SEND n) then s.modSer (fun r => { r with brk := vput r.brk n true })
  else match vget s.ser.uartTx n [] with
    | v :: rest => s.modSer (fun r => { r with uartTx := vput r.uartTx n rest, uartNow := vput r.uartNow n (some v) })
    | [] => s

/-- The number of data bits of a character. -/
def State.uartBits (s : State) (n : Nat) : Nat := 5 + s.get (SER.UART_DATA_BITS n)

/-- R381: a write of DATA of UARTn. -/
def State.uartPush (s : State) (n v : Nat) : State :=
  let l := vget s.ser.uartTx n []
  if 8 ≤ l.length then s.put (SER.UART_OVF_EVT n) 1
  else (s.modSer (fun r => { r with uartTx := vput r.uartTx n (l ++ [v % 2 ^ 9]) })).uartNext n

/-- A character has left. -/
def State.uartSent (s : State) (n : Nat) : State :=
  if s.up .core && (vget s.ser.uartNow n none).isSome then
    ((s.modSer (fun r => { r with uartNow := vput r.uartNow n none })).uartNext n).serMarks
  else s

/-- R384: the delimiter after a break has ended. -/
def State.uartBroke (s : State) (n : Nat) : State :=
  if s.up .core && vget s.ser.brk n false then
    ((((s.modSer (fun r => { r with brk := vput r.brk n false })).put (SER.UART_SEND n) 0).put (SER.UART_TX_DONE_EVT n) 1).uartNext n).serMarks
  else s

/-- Does UARTn receive? -/
def State.uartHears (s : State) (n : Nat) : Bool :=
  s.up .core && s.on (SER.UART_EN n) && s.on (SER.UART_RX_EN n) && s.carried (.uartRx n)

/-- R81, R383: a character is received. While VIO is absent RX stands at the level held: one that was under way ends, its stop bit at that level,
and no other begins. -/
def State.uartTake (s : State) (n ch : Nat) (pe fe : Bool) : State :=
  if !s.uartHears n || (!s.fab.vio && !vget s.ser.uartCut n false) then s
  else
    let fe := if s.fab.vio then fe else !s.lineIn (.uartRx n)
    let s := s.modSer (fun r => { r with uartCut := vput r.uartCut n false })
    let l := vget s.ser.uartRx n []
    if 8 ≤ l.length then s.put (SER.UART_OVF_EVT n) 1
    else
      let v := ch % 2 ^ s.uartBits n + ofBool pe * 2 ^ 9 + ofBool fe * 2 ^ 10
      ((s.modSer (fun r => { r with uartRx := vput r.uartRx n (l ++ [v]) })).when (pe || fe)
        (fun s => s.put (SER.UART_RX_ERR_EVT n) 1)).serMarks

/-- R81, R384: RX has stayed low for 11 bit times, with VIO absent where it is held low. -/
def State.uartBreakSeen (s : State) (n : Nat) : State :=
  s.when (s.uartHears n && (s.fab.vio || !s.lineIn (.uartRx n))) (fun s => s.put (SER.UART_BREAK_EVT n) 1)

/-- R383: a read of DATA of UARTn. -/
def State.uartPop (s : State) (n : Nat) : State × Nat :=
  match vget s.ser.uartRx n [] with
  | v :: rest => ((s.modSer (fun r => { r with uartRx := vput r.uartRx n rest })).serMarks, v + 2 ^ 31)
  | [] => (s, 0)

/-! ### I2C (R385 to R388) -/

/-- R385: a command is written; it runs unless another one does. -/
def State.i2cCommand (s : State) (op arg : Nat) : State :=
  if 1 ≤ op && op ≤ 6 && s.on SER.I2C_EN && s.ser.i2cOp.isNone then
    (s.modSer (fun r => { r with i2cOp := some (op, arg) })).put SER.I2C_BUSY 1
  else s

/-- No command runs. -/
def State.i2cIdle (s : State) : State := (s.modSer (fun r => { r with i2cOp := none })).put SER.I2C_BUSY 0

/-- Are both lines of the unit on pads, and VIO present: does it see what happens on the bus? -/
def State.i2cSees (s : State) : Bool := s.fab.vio && s.carried .scl && s.carried .sda

/-- R385: the command ends, with what the command tells of the bus, also where no pad carries SCL or SDA (assumption log 20, DESIGN CHOICE). While VIO
is absent SCL and SDA stand at the levels held (R81): with SCL high a command ends, all bits that it receives are SDA's. -/
def State.i2cEnd (s : State) (nack : Bool) (data : Nat) : State :=
  let nack := if s.fab.vio then nack else s.lineIn .sda
  let data := if s.fab.vio then data else if s.lineIn .sda then 0xFF else 0
  match s.ser.i2cOp with
  | none => s
  | some (op, _) =>
    if !s.up .core || (!s.fab.vio && !s.lineIn .scl) then s
    else
      let s := s.i2cIdle.put SER.I2C_DONE_EVT 1
      if op ≤ 2 then (s.put SER.I2C_BUS_HELD 1).when nack (fun s => s.put SER.I2C_NACK_EVT 1)
      else if op = 3 then s.when nack (fun s => s.put SER.I2C_NACK_EVT 1)
      else if op ≤ 5 then s.put SER.I2C_DATA data
      else s.put SER.I2C_BUS_HELD 0

/-- R386: the unit is addressed as a target. -/
def State.i2cAddressed (s : State) (addr : Nat) (read : Bool) : State :=
  if s.up .core && s.i2cSees && s.on SER.I2C_TGT_EN && s.get SER.I2C_OWN_ADDR == addr then
    ((s.put SER.I2C_TGT_ADDR_EVT 1).putB SER.I2C_TGT_RW read).modSer (fun r => { r with tgtHeld := true, tgtOn := true, tgtStuck := false })
  else s

/-- R386: an access to DATA releases the stretch. -/
def State.i2cRelease (s : State) : State := s.modSer (fun r => { r with tgtHeld := false })

/-- The unit is no target any more in the present transfer. -/
def State.i2cLeave (s : State) : State := s.modSer (fun r => { r with tgtHeld := false, tgtOn := false, tgtStuck := false })

/-- R386, R387: a byte of a transfer to the unit as a target has passed, which cannot be while SCL is held: what the controller sent enters
DATA, or the controller has read DATA, which it is answered; SCL is held again. Once the bus was stuck, a read is answered with 0xFF, and a
write with a NACK (the answer 1, where an acknowledged byte gives 0). -/
def State.i2cByte (s : State) (v : Nat) : State :=
  if !(s.up .core && s.i2cSees && s.ser.tgtOn && !s.ser.tgtHeld) then s
  else if s.ser.tgtStuck then s.reply (if s.on SER.I2C_TGT_RW then 0xFF else 1)
  else
    let s := s.modSer (fun r => { r with tgtHeld := true })
    if s.on SER.I2C_TGT_RW then s.reply s.ser.tgtByte else (s.put SER.I2C_DATA (v % 256)).reply 0

/-- R386: a stop is seen in target mode. -/
def State.i2cStopSeen (s : State) : State :=
  if s.up .core && s.i2cSees && s.on SER.I2C_TGT_EN then s.i2cLeave.put SER.I2C_TGT_STOP_EVT 1 else s

/-- R387, R81: can a line have been low for 25 ms: SDA alone, or SCL? -/
def State.i2cLow (s : State) (sda : Bool) : Bool :=
  s.carried .scl && s.carried .sda && (s.fab.vio || (if sda then s.lineIn .scl && !s.lineIn .sda else !s.lineIn .scl))

/-- R387: a line has been low for 25 ms; `sda` tells that it is SDA alone. A target stays in the transfer and answers it so. -/
def State.i2cStuck (s : State) (sda : Bool) : State :=
  if !(s.up .core && (s.on SER.I2C_EN || s.on SER.I2C_TGT_EN) && s.i2cLow sda) then s
  else
    let held := s.ser.i2cOp.isSome && sda
    let s := s.i2cIdle.modSer (fun r => { r with tgtHeld := false, tgtStuck := r.tgtOn })
    (s.put SER.I2C_STUCK_EVT 1).when held (fun s => s.put SER.I2C_BUS_HELD 0)

/-- R388: arbitration is lost. -/
def State.i2cLost (s : State) (addr : Nat) (read : Bool) : State :=
  if s.up .core && s.i2cSees && s.ser.i2cOp.isSome then
    ((s.i2cIdle.put SER.I2C_BUS_HELD 0).put SER.I2C_ARB_LOST_EVT 1).i2cAddressed addr read
  else s

/-! ### The SER page -/

/-- What a write of the SER page does beyond its fields; `v` is the data in the lanes written, 0 elsewhere. -/
def State.serWrote (s : State) (off v : Nat) : State :=
  let s :=
    if off = 0x1C || off = 0x3C then s.spiPush ((off - 0x1C) / 0x20) v
    else if off = 0x5C || off = 0x7C then s.uartPush ((off - 0x5C) / 0x20) v
    else if off = 0x94 then s.i2cCommand (bits v 0 3) (bits v 8 8)
    else if off = 0x9C then { s.i2cRelease with ser := { s.i2cRelease.ser with tgtByte := v % 256 } }
    else [0, 1].foldl (fun st n => (st.spiNext n).uartNext n) s
  s.serMarks

/-- A read of the SER page: the word at `off`, `w` being what its fields hold. -/
def State.serRead (s : State) (off w : Nat) : State × Nat :=
  if off = 0x1C || off = 0x3C then s.spiPop ((off - 0x1C) / 0x20)
  else if off = 0x5C || off = 0x7C then s.uartPop ((off - 0x5C) / 0x20)
  else if off = 0x9C then (s.i2cRelease, w)
  else if off = 0x18 || off = 0x38 then
    let n := (off - 0x18) / 0x20
    (s, bits w 24 3 * 2 ^ 24 + (vget s.ser.spiTx n []).length + (vget s.ser.spiRx n []).length * 2 ^ 8 +
      ofBool (vget s.ser.spiNow n none).isSome * 2 ^ 16)
  else if off = 0x58 || off = 0x78 then
    let n := (off - 0x58) / 0x20
    let idle := (vget s.ser.uartTx n []).isEmpty && (vget s.ser.uartNow n none).isNone && !vget s.ser.brk n false
    (s, (vget s.ser.uartTx n []).length + (vget s.ser.uartRx n []).length * 2 ^ 8 + ofBool idle * 2 ^ 16)
  else (s, w)

end Sys2Proof.Machine
end

