-- ==== Sys2Proof/Machine/Pads.lean ====
section
/-!
DEFINITION. Pads: fuse states, pad configuration, the lines that functions put on pads, the CALM hold, boundary scan, the pads without a fuse
state, inputs, and the PORT page (R61 to R71, R76 to R86, R373 to R379).
-/

namespace Sys2Proof.Machine

/-! ### What a pad does electrically -/

/-- R77, Table 2.2: the control cell of the pad of index `i`. -/
def padCell (i : Nat) : Nat :=
  if i < 8 then 45 + 3 * i else if i < 11 then 69 + 3 * (i - 8) else if i < 26 then 3 * (i - 11) else if i < 28 then 147 + 3 * (i - 26)
  else if i < 40 then 93 + 3 * (i - 28) else if i = 40 then 90 else if i < 45 then 78 + 3 * (i - 41) else if i = 45 then 141
  else if i = 46 then 135 else 129

/-- The electrical state of a pad. -/
structure PadState where
  /-- output enabled -/
  oe     : Bool
  level  : Bool
  /-- 0 none, 1 up, 2 down -/
  pull   : Nat
  /-- a serial frame is on the line: its bits follow one another in time, below what State resolves, and `level` says nothing -/
  moving : Bool
  /-- R375: DRIVE of a pad that drives -/
  drive  : Nat
  deriving DecidableEq, Repr

/-- High-impedance, with this pull. -/
def pulled (pull : Nat) : PadState := ⟨false, false, pull, false, 0⟩

/-- High-impedance, no pull. -/
def hiZ : PadState := pulled 0

/-- Driven to a level. -/
def driven (level : Bool) : PadState := ⟨true, level, 0, false, 0⟩

/-- R62, R82, Table 2.4: the state of a pad-state code. -/
def codeState (c : Nat) : PadState :=
  match c with
  | 1 => pulled 1
  | 2 => pulled 2
  | 3 => driven false
  | 4 => driven true
  | _ => hiZ

/-- R62, R66: the fuse state of the pad of index `i`; of a PWM pad it is the safe state too. -/
def State.fuseState (s : State) (i : Nat) : PadState := codeState (vget s.fab.padFuse i 0)

/-! ### Lines of functions (R70, R374, R382 to R386, R660) -/

/-- What a function puts on its line. -/
inductive Line where
  | low | high
  /-- an open-drain line let go -/
  | released
  /-- bits of a serial frame, or a line whose idle level is not stated -/
  | moving
  deriving DecidableEq, Repr

/-- A line at a level. -/
def Line.of (b : Bool) : Line := if b then .high else .low

/-- R382: the lines of SPIn; `none` is an input. -/
def State.spiLine (s : State) (n : Nat) (l : PadLine) : Option Line :=
  let frame := (vget s.ser.spiNow n none).isSome
  if s.on (SER.SPI_TARGET n) then (if l = .miso n then some .moving else none)
  else if l = .sck n then some (if frame then .moving else Line.of (s.on (SER.SPI_CPOL n)))
  else if l = .mosi n then some .moving
  else if l = .cs n then some (Line.of !(s.on (SER.SPI_EN n) && (frame || !(vget s.ser.spiTx n []).isEmpty)))
  else none

/-- What a unit puts on its line; `none` is an input. The line of a UART idles high; I2C lines are open-drain. SCL is low while a target
stretches it, and between the commands of a transfer that the controller holds (assumption log 20). -/
def State.unitLine (s : State) (l : PadLine) : Option Line :=
  match l with
  | .sck n => s.spiLine n l
  | .mosi n => s.spiLine n l
  | .miso n => s.spiLine n l
  | .cs n => s.spiLine n l
  | .uartTx n => some (if (vget s.ser.uartNow n none).isSome || vget s.ser.brk n false then .moving else .high)
  | .uartRx _ => none
  | .scl => some (if s.ser.tgtHeld then .low else if s.ser.i2cOp.isSome then .moving else if s.on SER.I2C_BUS_HELD then .low else .released)
  | .sda => some (if s.ser.i2cOp.isSome || s.ser.tgtOn then .moving else .released)
  | .ppsOut => some (Line.of s.ntu.ppsOut)
  | .cap _ => none

/-- R374: the line of the function of the pad of index `i`, PWM pads apart. CANB_TX is recessive while CAN-B sends nothing,
and in LOOP_INT (R437). -/
def State.funcLine (s : State) (i : Nat) : Option Line :=
  if i < 28 then (s.lineOf i).bind s.unitLine
  else if i = 45 then some (if (s.canCtl 1).send.isSome && s.canMode 1 != 3 then .moving else .high)
  else if i = 46 then some (Line.of (s.on CANX.CANB_STB))
  else if i = 47 then some (Line.of (s.on SUPPLY.PGOOD))
  else none

/-- R375: is the pad open-drain: by OD, or as an I2C line? -/
def State.openDrain (s : State) (i : Nat) : Bool := s.on (PORT.OD i) || s.lineOf i == some .scl || s.lineOf i == some .sda

/-- R663, R665: is the PWM pad of index `i` in its safe state? -/
def State.pwmSafe (s : State) (i : Nat) : Bool :=
  let k := (i - 28) / 2
  s.on (PWM.SAFE k) || (i % 2 == 1 && s.on (PWM.MODE k)) || !s.up .control

/-- R660: the level of a PWM pad that follows its pair: high while its side is active and, with MODE 0, has been so for the dead time. -/
def State.pwmLevel (s : State) (i : Nat) : Bool :=
  let k := (i - 28) / 2
  let ready := s.on (PWM.MODE k) || (Table.find s.ctl.dt k).getD 0 ≤ s.sideFor k
  ready && s.highSide k == (i % 2 == 0)

/-- R375: what a line makes of its pad. -/
def linePad (l : Line) (od : Bool) (pull : Nat) : PadState :=
  match l with
  | .low => ⟨true, false, pull, false, 0⟩
  | .high => ⟨!od, true, pull, false, 0⟩
  | .released => pulled pull
  | .moving => ⟨true, false, pull, true, 0⟩

/-- R66, R373 to R376, R663: the state that PORT_CFGi gives a pad. The safe state is that of the PWM function alone: as GPIO a PWM pad follows
its configuration, except in CALM (assumption log 20, DEDUCED). -/
def State.padConfigured (s : State) (i : Nat) : PadState :=
  let pull := s.get (PORT.PULL i)
  if s.get (PORT.FUNC i) = 0 then
    (if s.on (PORT.OE i) then linePad (Line.of (s.gpioOut i)) (s.on (PORT.OD i)) pull else pulled pull)
  else if 28 ≤ i && i < 40 then
    (if s.pwmSafe i then s.fuseState i else linePad (Line.of (s.pwmLevel i)) (s.on (PORT.OD i)) pull)
  else match s.funcLine i with
    | some l => linePad l (s.openDrain i) pull
    | none => pulled pull

/-! ### The state of each pad (R61 to R69, R80, R81, Table 2.6) -/

/-- The state of a pad held in CALM, as it was at entry. -/
def State.padHeld (s : State) (i : Nat) : PadState :=
  let h := (Table.find s.fab.heldPad i).getD 0
  ⟨bit h 0, bit h 1, h / 4, false, 0⟩

/-- R67: is the pad configured as the PGOOD output, which no hold stops? -/
def State.isPgood (s : State) (i : Nat) : Bool := i == 47 && s.on (PORT.CFGD 47) && s.get (PORT.FUNC 47) == 1

/-- R63, R67: the state of a pad by its fuse state or configuration, and by the CALM hold. -/
def State.padOwn (s : State) (i : Nat) : PadState :=
  let p := if s.fab.held && !s.isPgood i then s.padHeld i
    else if s.on (PORT.CFGD i) then s.padConfigured i
    else s.fuseState i
  { p with drive := if p.oe then s.get (PORT.DRIVE i) else 0 }

/-- R80: are the pads following the boundary-scan register? -/
def State.testMode (s : State) : Bool := s.dbg.tapIr == 0 || s.dbg.tapIr == 3 || s.dbg.tapIr == 4

/-- R80, R85: a pad under a test instruction, by its control and output cells alone. It has no pull, and its drive, which no cell sets, is open
(assumption log 20, DESIGN CHOICE). -/
def State.padTested (s : State) (i : Nat) : PadState :=
  if s.dbg.tapIr == 4 then hiZ
  else ⟨s.dbg.bsr.getLsbD (padCell i), s.dbg.bsr.getLsbD (padCell i + 1), 0, false,
    if s.dbg.bsr.getLsbD (padCell i) then Config.testDrive i % 3 else 0⟩

/-- R61 to R68, R80, R81: the state of the fuse-state pad of index `i`. -/
def State.padState (s : State) (i : Nat) : PadState :=
  if !s.fab.vio || s.power.mode == .off then hiZ
  else if s.testMode then s.padTested i
  else s.padOwn i

/-- R67: at entry to CALM every VIO pad is held as it stands by its own configuration, PWM pads at their safe states. Of a line on which a frame
moves, the bit that it stands at is a free value. -/
def State.holdPad (before s : State) (i : Nat) : State :=
  let p := if 28 ≤ i && i < 40 then before.fuseState i else before.padOwn i
  let b := s.freeBool
  let level := if p.moving then b.1 else p.level
  let s := if p.moving then b.2 else s
  { s with fab := { s.fab with heldPad := Table.set 0 s.fab.heldPad i (ofBool p.oe + ofBool level * 2 + p.pull * 4) } }

/-- The state with the pads held as they stood in `before`. -/
def State.holdPads (s before : State) : State :=
  (List.range 48).foldl (State.holdPad before) { s with fab := { s.fab with heldPad := [] } }

/-- Table 2.6: has the fuse load of this power-on been reached? A system reset keeps what it has given. -/
def State.padsLive (s : State) : Bool := s.power.mode != .off && (s.rst.fuseLoaded || s.rst.treeUp)

/-- The pads without a fuse state whose state this chapter sets (R61, Table 2.6); the inputs of the JTAG pads and CANB_RX stay enabled. -/
inductive FixedPad where
  | canbRx | resetN | tck | trstN | tms | tdi | tdo | split | wake
  deriving DecidableEq, Repr

/-- R78, R80, R85: RESET_N. Under a test instruction it follows its cells, and an internal reset does not reach it; released, it keeps its
pull-up there (assumption log 20, DESIGN CHOICE). -/
def State.resetPad (s : State) : PadState :=
  if s.power.mode == .off then hiZ
  else if s.testMode then
    (if s.dbg.tapIr == 4 then hiZ else if s.dbg.bsr.getLsbD 132 && !s.dbg.bsr.getLsbD 133 then driven false else pulled 1)
  else if !s.padsLive then hiZ
  else if s.rst.driven then driven false
  else pulled 1

/-- R69, R496, R498, R512, Table 2.6. SPLIT, driven to half the supply of the bus, has no logic level. WAKE is biased as PAD_PULL says while the
VBAT part has power. TDO is driven in the shift states alone, and a scan is one
command, so that between commands it is high-impedance. -/
def State.fixedPad (s : State) (p : FixedPad) : PadState :=
  let jtag (n : Nat) : PadState := if s.padsLive && s.fab.vio then pulled n else hiZ
  match p with
  | .canbRx => hiZ
  | .resetN => s.resetPad
  | .tck => jtag 2
  | .trstN => jtag 2
  | .tms => jtag 1
  | .tdi => jtag 1
  | .tdo => hiZ
  | .split => if s.padsLive && s.get CANX.MODE_NOW ≤ 1 then ⟨true, false, 0, true, 0⟩ else hiZ
  | .wake => if s.trx.vbatPart then pulled (if s.on CANX.PAD_PULL then 1 else 2) else hiZ

/-! ### VIO (R81) -/

/-- R81: VIO is present, and the level of each pad enters its filter: where that is off, a level that differs from the one held is one
transition; else PAD_FILTER_ACCEPT tells when it is accepted. -/
def State.vioOn (s : State) (levels : BitVec 48) : State :=
  if s.fab.vio then s
  else ((List.range 48).foldl (fun (st : State) i => st.when (st.get (PORT.FILTER i) == 0) (fun st => st.padAccept i (levels.getLsbD i)))
    { s with fab := { s.fab with vio := true }, ser := { s.ser with uartCut := #v[false, false] } }).faultJudge

/-- R81: VIO is absent; a character that a UART is receiving may still end; the fixed path of PWM_FAULT_N sees the level accepted last, without a transition. -/
def State.vioOff (s : State) : State :=
  if !s.fab.vio then s
  else { s.putB PWM.FAULT_IN (!s.padLevel 40) with fab := { s.fab with vio := false }, ser := { s.ser with uartCut := #v[true, true] } }

/-! ### The PORT page -/

/-- Bits `i` of `v` for the 32 pads from `base` on put through `f`. -/
def padBits (s : State) (base v : Nat) (f : State → Nat → State) : State :=
  (List.range 32).foldl (fun st j => st.when (bit v j && base + j < 48) (fun st => f st (base + j))) s

/-- What a write of the PORT page does beyond its fields; `v` is the data in the lanes written, 0 elsewhere. -/
def State.portWrote (s : State) (off v : Nat) (old : State) : State :=
  let s :=
    if 0x20 ≤ off && off < 0x28 then padBits s (8 * (off - 0x20)) v (fun st i => st.put (PORT.OUT i) 1)
    else if 0x28 ≤ off && off < 0x30 then padBits s (8 * (off - 0x28)) v (fun st i => st.put (PORT.OUT i) 0)
    else if 0x100 ≤ off then
      let i := (off - 0x100) / 4
      let s := s.when (!(padFuncs i).contains (s.get (PORT.FUNC i))) (fun s => s.put (PORT.FUNC i) (old.get (PORT.FUNC i)))
      s.put (PORT.CFGD i) 1
    else s
  s.judgePads.faultJudge

/-- PORT_IN as it reads. -/
def State.portRead (s : State) (off w : Nat) : Nat :=
  if 0x10 ≤ off && off < 0x18 then
    (List.range 32).foldl (fun v j => v + ofBool (s.padLevel (8 * (off - 0x10) + j) && 8 * (off - 0x10) + j < 48) * 2 ^ j) 0
  else w

end Sys2Proof.Machine
end

