-- ==== Sys2Proof/Machine/Hart.lean ====
section
/-!
DEFINITION. What the harts do beside their memory accesses: when they issue, exceptions, control and status registers (Table 8.2), PMP
(R314), halting, resuming and triggers (R344, R347, R348). The exception entry and the fields of the CSRs are those of the RISC-V
privileged and debug architectures that R307 and R344 name.
-/

namespace Sys2Proof.Machine

/-! ### Control and status registers by number -/

def csrFcsr : Nat := 0x003
def csrMstatus : Nat := 0x300
def csrMie : Nat := 0x304
def csrMtvec : Nat := 0x305
def csrMscratch : Nat := 0x340
def csrMepc : Nat := 0x341
def csrMcause : Nat := 0x342
def csrMtval : Nat := 0x343
def csrTselect : Nat := 0x7A0

/-- The number of triggers of hart `n` (Table 8.13). -/
def trigCount (n : Nat) : Nat := if n = 0 then 2 else 4

/-- MPP of mstatus; fixed at M on hart M. -/
def Hart.mpp (h : Hart) (n : Nat) : Nat := if n = 0 then 3 else bits (h.csrAt csrMstatus) 11 2

/-- mstatus as it reads: SD follows FS. -/
def Hart.mstatus (h : Hart) (n : Nat) : Nat :=
  let v := h.csrAt csrMstatus
  setBits v 11 2 (h.mpp n) + ofBool (bits v 13 2 == 3) * 2 ^ 31

/-- mstatus as written: the fields that the hart implements. -/
def mstatusWritten (n v : Nat) : Nat :=
  let base := bits v 3 1 * 2 ^ 3 + bits v 7 1 * 2 ^ 7
  if n = 0 then base
  else base + (if bits v 11 2 = 3 then 3 else 0) * 2 ^ 11 + bits v 13 2 * 2 ^ 13 + bits v 17 1 * 2 ^ 17 + bits v 21 1 * 2 ^ 21

/-- The value of CSR `r` of hart `n`; `none` where Table 8.2 has no such register. -/
def State.csrRead (s : State) (n r : Nat) : Option Nat :=
  let h := s.hart n
  let app := n != 0
  let t := vget h.trig (h.csrAt csrTselect) (0, 0)
  if r = 0xF11 then some 0x2B5
  else if r = 0xF12 then some 0
  else if r = 0xF13 then some 0x42
  else if r = 0xF14 then some n
  else if r = 0x301 then some (if n = 0 then 0x40001104 else 0x40101125)
  else if r = csrMstatus then some (h.mstatus n)
  else if r = 0x310 then some 0
  else if r = csrMie || r = csrMtvec || (0x340 ≤ r && r ≤ 0x343) then some (h.csrAt r)
  else if r = 0x344 then some (s.mip n)
  else if r = 0x306 then (if app then some 0 else none)
  else if r = 0x320 || (0x323 ≤ r && r ≤ 0x33F) then some 0
  else if r = 0xB00 || (0xB02 ≤ r && r ≤ 0xB1F) || r = 0xB80 || r = 0xB82 then some 0
  else if (0x3A0 ≤ r && r ≤ 0x3A3) || (0x3B0 ≤ r && r ≤ 0x3BF) then (if app then some (h.csrAt r) else none)
  else if r = 1 then (if app then some (bits (h.csrAt csrFcsr) 0 5) else none)
  else if r = 2 then (if app then some (bits (h.csrAt csrFcsr) 5 3) else none)
  else if r = csrFcsr then (if app then some (h.csrAt r) else none)
  else if r = csrTselect then some (h.csrAt r)
  else if r = 0x7A1 then some (setBits (setBits t.1.toNat 28 4 2) 21 6 31)
  else if r = 0x7A2 then some t.2.toNat
  else if r = 0x7A4 then some 4
  else if r = csrDcsr then some (setBits (h.csrAt r) 28 4 4)
  else if csrDpc ≤ r && r ≤ 0x7B3 then some (h.csrAt r)
  else none

/-- A PMP configuration word as written: locked bytes keep their values. -/
def pmpCfgWritten (old v : Nat) : Nat :=
  (List.range 4).foldl (fun w j => setBits w (8 * j) 8 (if bit old (8 * j + 7) then bits old (8 * j) 8 else bits v (8 * j) 8 &&& 0x9F)) 0

/-- The configuration byte of PMP region `i`. -/
def Hart.pmpCfg (h : Hart) (i : Nat) : Nat := bits (h.csrAt (0x3A0 + i / 4)) (8 * (i % 4)) 8

/-- Is pmpaddr `i` locked: by its own region, or as the base of a locked TOR region? -/
def Hart.pmpLocked (h : Hart) (i : Nat) : Bool :=
  bit (h.pmpCfg i) 7 || (i < 15 && bit (h.pmpCfg (i + 1)) 7 && bits (h.pmpCfg (i + 1)) 3 2 == 1)

/-- mcontrol as written: dmode and the action of entering debug mode can be set in debug mode only; the fields that hold a value are hit,
select, chain, match, the modes and the kinds of access. -/
def mcontrolWritten (n v : Nat) (debug : Bool) : Nat :=
  let base := v &&& 0x00180FC7 ||| (if n = 0 then 0 else v &&& 0x8)
  if debug && bit v 27 then base + 2 ^ 27 + (if bits v 12 4 = 1 then 2 ^ 12 else 0) else base

/-- dcsr as written: ebreakm, ebreaku, step and prv; hart M has machine mode only. The cause stays. -/
def dcsrWritten (n old v : Nat) : Nat :=
  let mask := if n = 0 then 0x8004 else 0x9004
  setBits ((v &&& mask) + (if n != 0 && bits v 0 2 = 0 then 0 else 3)) 6 3 (bits old 6 3)

/-- The hart after a write of CSR `r`, in debug mode or not; a register that reads as a constant ignores it, and a trigger that belongs to the
debugger ignores a write of the hart's. -/
def Hart.csrWrite (h : Hart) (n r v : Nat) (debug : Bool) : Hart :=
  let t := vget h.trig (h.csrAt csrTselect) (0, 0)
  let closed := bit t.1.toNat 27 && !debug
  if r = csrMstatus then h.setCsr r (mstatusWritten n v)
  else if r = csrMie then h.setCsr r (v &&& 0x888)
  else if r = csrMtvec then h.setCsr r (if bit v 0 then v / 64 * 64 + 1 else v / 4 * 4)
  else if r = csrMepc then h.setCsr r (v / 2 * 2)
  else if r = csrMscratch || r = csrMcause || r = csrMtval then h.setCsr r v
  else if 0x3A0 ≤ r && r ≤ 0x3A3 then h.setCsr r (pmpCfgWritten (h.csrAt r) v)
  else if 0x3B0 ≤ r && r ≤ 0x3BF then (if h.pmpLocked (r - 0x3B0) then h else h.setCsr r v)
  else if r = 1 then h.setCsr csrFcsr (setBits (h.csrAt csrFcsr) 0 5 (v % 32))
  else if r = 2 then h.setCsr csrFcsr (setBits (h.csrAt csrFcsr) 5 3 (v % 8))
  else if r = csrFcsr then h.setCsr r (v % 256)
  else if r = csrTselect then h.setCsr r (if v < trigCount n then v else h.csrAt r)
  else if r = 0x7A1 then
    if closed then h else { h with trig := vput h.trig (h.csrAt csrTselect) (BitVec.ofNat 32 (mcontrolWritten n v debug), t.2) }
  else if r = 0x7A2 then (if closed then h else { h with trig := vput h.trig (h.csrAt csrTselect) (t.1, BitVec.ofNat 32 v) })
  else if r = csrDcsr then h.setCsr r (dcsrWritten n (h.csrAt r) v)
  else if r = csrDpc then h.setCsr r (v / 2 * 2)
  else if r = 0x7B2 || r = 0x7B3 then h.setCsr r v
  else h

/-! ### Issuing (R153, R244, R316) -/

/-- Is the stall of a wfi over: is a bit of mip set whose mie bit is 1? -/
def State.wfiOver (s : State) (n : Nat) : Bool := (s.mip n &&& (s.hart n).csrAt csrMie) != 0

/-- May hart `n` execute an instruction now? -/
def State.issues (s : State) (n : Nat) : Bool :=
  let h := s.hart n
  h.running && !h.halted && !h.fencing && s.up (hartIsland n) && s.power.phase != .draining && s.power.phase != .entering &&
    (!h.wfi || s.wfiOver n)

/-- Hart `n` executes an instruction, if it may. -/
def State.execute (s : State) (n : Nat) (f : State → State) : State :=
  if s.issues n then f (s.modHart n (fun h => { h with wfi := false })) else s

/-! ### Exceptions -/

def excFetchFault : Nat := 1
def excIllegal : Nat := 2
def excBreak : Nat := 3
def excLoadAlign : Nat := 4
def excLoadFault : Nat := 5
def excStoreAlign : Nat := 6
def excStoreFault : Nat := 7

/-- The hart takes an exception: mepc, mcause and mtval are written, MIE goes to MPIE, the mode to MPP, and the handler's address to
the pc. The reservation is lost (R313). -/
def Hart.trapped (h : Hart) (n cause tval : Nat) : Hart :=
  let st := h.csrAt csrMstatus
  let st := setBits (setBits st 7 1 (bits st 3 1)) 3 1 0
  let st := if n = 0 then st else setBits st 11 2 (if h.user then 0 else 3)
  let h := (((h.setCsr csrMepc (h.pc.toNat / 2 * 2)).setCsr csrMcause cause).setCsr csrMtval tval).setCsr csrMstatus st
  { h with
    pc := BitVec.ofNat 32 (h.csrAt csrMtvec / 4 * 4)
    ir := 0
    user := false
    resv := none }

/-- dcsr.step: a hart that has executed one instruction since it was resumed enters debug mode. -/
def Hart.stepped (h : Hart) : Hart := if bit (h.csrAt csrDcsr) 2 && !h.halted then h.halt 4 else h

/-- Hart `n` takes an exception. -/
def State.trap (s : State) (n cause tval : Nat) : State := s.modHart n (fun h => (h.trapped n cause tval).stepped)

/-- The hart has executed the instruction it fetched last, and goes on after it. -/
def Hart.retired (h : Hart) : Hart :=
  (if h.ir = 0 then h else { h with pc := h.pc + BitVec.ofNat 32 (insnLength h.ir.toNat), ir := 0 }).stepped

/-- Hart `n` has executed its instruction. -/
def State.retire (s : State) (n : Nat) : State := s.modHart n Hart.retired

/-! ### Interrupts (R316, R318, R319, R321) -/

/-- The interrupt that the hart takes before its next instruction: external, software, timer, in this order, where mie enables it and mstatus.MIE
or the U-mode lets it in. A hart that is stepped takes none. During an exit from LULL or CALM the external one waits (R324). -/
def State.interrupt (s : State) (n : Nat) : Option Nat :=
  let h := s.hart n
  let p := (if s.serviceHeld then s.mip n % 2 ^ 11 else s.mip n) &&& h.csrAt csrMie
  if !(h.user || bit (h.csrAt csrMstatus) 3) || bit (h.csrAt csrDcsr) 2 then none
  else ([11, 3, 7] : List Nat).find? (fun i => bit p i)

/-- The hart takes interrupt `i` before the instruction at its pc. -/
def Hart.interrupted (h : Hart) (n i : Nat) : Hart :=
  let t := h.trapped n (2 ^ 31 + i) 0
  if bit (h.csrAt csrMtvec) 0 then { t with pc := t.pc + BitVec.ofNat 32 (4 * i) } else t

/-! ### CSR instructions (R309) -/

/-- May hart `n` access CSR `r`: does it exist, in a mode that reaches it, and is it not written where it is read-only? The f registers' CSRs
need mstatus.FS, the debug CSRs debug mode. -/
def State.csrAdmits (s : State) (n r : Nat) (write debug : Bool) : Bool :=
  let h := s.hart n
  (s.csrRead n r).isSome && (!h.user || bits r 8 2 == 0) && (!write || bits r 10 2 != 3) &&
    (debug || !(0x7B0 ≤ r && r ≤ 0x7B3)) && (!(1 ≤ r && r ≤ 3) || bits (h.csrAt csrMstatus) 13 2 != 0)

/-- The hart with its f registers or their CSRs written: mstatus.FS says dirty. -/
def Hart.fsDirty (h : Hart) : Hart := h.setCsr csrMstatus (setBits (h.csrAt csrMstatus) 13 2 3)

/-- A CSR instruction by its funct3; `src` is the register or the immediate. `none`: it is illegal. -/
def State.csrInsn (s : State) (n kind rd src r : Nat) (debug : Bool) : Option State :=
  let v := if 4 ≤ kind then src else ((s.hart n).reg src).toNat
  let write := kind % 4 = 1 || src ≠ 0
  if !s.csrAdmits n r write debug then none
  else
    let old := (s.csrRead n r).getD 0
    let new := match kind % 4 with
      | 1 => v
      | 2 => old ||| v
      | _ => old &&& (v ^^^ 0xFFFFFFFF)
    some ((s.when write (fun s => s.modHart n (fun h =>
      let h := h.csrWrite n r new debug
      if 1 ≤ r && r ≤ 3 then h.fsDirty else h))).modHart n (fun h => h.setReg rd (BitVec.ofNat 32 old)))

/-! ### PMP (R314) -/

/-- The byte range of PMP region `i`: first byte and first byte beyond; empty when it is off. -/
def Hart.pmpRange (h : Hart) (i : Nat) : Nat × Nat :=
  let a := h.csrAt (0x3B0 + i)
  match bits (h.pmpCfg i) 3 2 with
  | 1 => (if i = 0 then 0 else h.csrAt (0x3B0 + i - 1) * 4, a * 4)
  | 2 => (a * 4, a * 4 + 4)
  | 3 =>
    let t := ((List.range 32).find? (fun j => !bit a j)).getD 32
    (a / 2 ^ (t + 1) * 2 ^ (t + 1) * 4, a / 2 ^ (t + 1) * 2 ^ (t + 1) * 4 + 2 ^ (t + 3))
  | _ => (0, 0)

/-- Does PMP admit an access to `k` bytes at `a` in this mode? `right` is 0 for a read, 1 for a write, 2 for a fetch. The
lowest-numbered region that matches a byte decides. -/
def Hart.pmpAdmits (h : Hart) (n : Nat) (user : Bool) (a k right : Nat) : Bool :=
  if n = 0 then true
  else match (List.range 16).find? (fun i => (h.pmpRange i).1 < a + k && a < (h.pmpRange i).2) with
    | none => !user
    | some i =>
      let r := h.pmpRange i
      if !(r.1 ≤ a && a + k ≤ r.2) then false
      else if !user && !bit (h.pmpCfg i) 7 then true
      else bit (h.pmpCfg i) right

/-- Is a load or store of the hart judged as one of user mode (MPRV)? -/
def Hart.dataUser (h : Hart) (n : Nat) : Bool := if n != 0 && bit (h.csrAt csrMstatus) 17 && !h.halted then h.mpp n == 0 else h.user

/-! ### Halting and resuming (R201, R347, R348) -/

/-- Table 8.13: does hart `n` exist for the debug module? -/
def State.hartExists (s : State) (n : Nat) : Bool := bit (s.get TEN.EN) n

/-- R348: a halt request. At an unavailable hart it waits for the first instruction. -/
def State.haltHart (s : State) (n : Nat) : State :=
  if !s.hartExists n then s
  else if (s.hart n).running && s.up (hartIsland n) then
    (if (s.hart n).halted then s else s.modHart n (fun h => h.halt 3))
  else s.modHart n (fun h => { h with haltWait := true })

/-- R347: a resume request. -/
def State.resumeHart (s : State) (n : Nat) : State :=
  if s.hartExists n && (s.hart n).running && (s.hart n).halted && s.up (hartIsland n) then s.modHart n (fun h => h.resume n) else s

/-- How mcontrol compares a value with tdata2 `t`, by its match field. -/
def matchValue (kind t v : Nat) : Bool :=
  match kind with
  | 0 => v == t
  | 1 =>
    let k := ((List.range 32).find? (fun j => !bit t j)).getD 32
    v / 2 ^ (k + 1) == t / 2 ^ (k + 1)
  | 2 => decide (t ≤ v)
  | 3 => decide (v < t)
  | 4 => (v % 2 ^ 16 &&& t / 2 ^ 16) == t % 2 ^ 16
  | 5 => (v / 2 ^ 16 &&& t / 2 ^ 16) == t % 2 ^ 16
  | _ => false

/-- Does trigger `t` match an access at `a` with the data `v` (mcontrol, Table 8.13)? Of an instruction the data is the instruction. -/
def trigMatches (h : Hart) (t : Word × Word) (k : TrigKind) (a v : Nat) : Bool :=
  let c := t.1.toNat
  bit c (if h.user then 3 else 6) && matchValue (bits c 7 4) t.2.toNat (if bit c 19 then v else a) && (match k with
    | .execute => bit c 2
    | .store => bit c 1
    | .load => bit c 0)

/-- Do trigger `i` of a hart and those that are chained to it match? It must not itself be chained to the next one. -/
def Hart.trigFires (h : Hart) (n i : Nat) (k : TrigKind) (a v : Nat) : Bool :=
  let t (j : Nat) : Word × Word := vget h.trig j (0, 0)
  let chained := ((List.range i).reverse).takeWhile (fun j => bit (t j).1.toNat 11)
  decide (i < trigCount n) && !bit (t i).1.toNat 11 && trigMatches h (t i) k a v && chained.all (fun j => trigMatches h (t j) k a v)

/-- A trigger of hart `n` matches: its hit bit sets, and the hart takes a breakpoint exception or enters debug mode. -/
def State.triggered (s : State) (n i : Nat) (k : TrigKind) (a v : Nat) : State :=
  if s.issues n && (s.hart n).trigFires n i k a v then
    let t := vget (s.hart n).trig i (0, 0)
    let s := s.modHart n (fun h => { h with trig := vput h.trig i (t.1 ||| 0x00100000, t.2) })
    if bits t.1.toNat 12 4 = 1 then s.modHart n (fun h => h.halt 2) else s.trap n excBreak a
  else s

end Sys2Proof.Machine
end

