-- ==== Sys2Proof/Machine/Access.lean ====
section
/-!
DEFINITION. Who may access which register (R223 to R228, R236, R249, R254), changes of ownership (R29, R52, R229 to R232), and what the
pages TEN, FAULT, IRQ, QMGR, DMA, AES, EVF, NTU, WDT and SYS do on a read or write beyond their fields.
-/

namespace Sys2Proof.Machine

/-! ### Admission (step 4 of R233) -/

/-- To whom a register belongs. -/
inductive RegClass where
  /-- page level (R223, R227) -/
  | page
  /-- per resource, of this tenant -/
  | res (owner : Nat)
  /-- a watchdog block: its tenant's and T0's (R254) -/
  | dog (n : Nat)
  /-- WDTn_SERVICE: Hn only (R252) -/
  | service (n : Nat)
  /-- a FAULTn page: Tn, and T0 reads (R249) -/
  | fault (n : Nat)
  /-- readable by every tenant, written by the page owner -/
  | shown
  /-- accessible to every tenant: event registers, tenant-indexed registers, and words whose bits have owners of their own -/
  | all
  deriving DecidableEq, Repr

/-- The class of the register at offset `off` of page `p`. -/
def State.classOf (s : State) (p off : Nat) : RegClass :=
  if off = 0 || off = 4 then .shown
  else if off = 8 || off = 0xC then .all
  else match p with
  | 0 => .shown
  | 6 => .fault 0
  | 7 => .fault 1
  | 8 => .fault 2
  | 9 => .fault 3
  | 0xE => if off < 0x18 then .page else if off < 0x30 then .all else if off < 0x100 then .res ((off - 0x30) / 16)
    else .res (s.owner tblQueue ((off - 0x100) / 8))
  | 0xF => .res (s.owner tblDma ((off - 0x10) / 8))
  | 0x10 => if off < 0x100 then .all else if off < 0x200 then .res (s.owner tblEvent ((off - 0x100) / 4))
    else .res (s.sinkOwner ((off - 0x200) / 4))
  | 0x11 => if 0x40 ≤ off && off ≤ 0x54 then .shown else if 0x100 ≤ off then .res (s.owner tblNtu ((off - 0x100) / 16)) else .page
  | 0x12 => if 0x50 ≤ off && off ≤ 0x5C then .all else .page
  | 0x13 => if 0x50 ≤ off && off ≤ 0x5C then .all else .page
  | 0x16 => if off = 0x54 || off = 0x58 then .all else .page
  | 0x18 => if 0x100 ≤ off then .res (s.owner tblLoop ((off - 0x100) / 16)) else .page
  | 0x1A => if 0x100 ≤ off then .res (s.owner tblPair ((off - 0x100) / 32)) else .page
  | 0x1C => if off = 0x10 then .page else if off < 0x30 then .all else .res ((off - 0x30) / 16)
  | 0x23 => if off % 0x20 = 0 then .service ((off - 0x20) / 32) else .dog ((off - 0x10) / 32)
  | _ => .page

/-- Does a read of the register have a side effect (access code RS)? -/
def readActs (p off : Nat) : Bool := (pageFieldsAt p off).any (fun f => f.acc == .rs)

/-- R227: ATTR of a page; READABLE on SYS. -/
def State.readable (s : State) (p : Nat) : Bool := s.on (HDR.ATTR p)

/-- Step 4 of R233 on a page: the DETAIL of an access that is not admitted. -/
def State.pageDenies (s : State) (m : Master) (t p off : Nat) (write : Bool) : Option Nat :=
  let own := s.pageOwner p == t
  match s.classOf p off with
  | .all => none
  | .shown => if write && !own then some 0 else none
  | .page => if own || (!write && s.readable p && !readActs p off) then none else some (if write && p == 5 && off == 0x1C then 3 else 0)
  | .res o => if o == t then none else some 1
  | .dog n => if t == n || t == 0 then none else some 1
  | .service n => if write && (match m with
      | .hart h => h.val == n
      | _ => false) || (!write && (t == n || t == 0)) then none else some 1
  | .fault n => if t == n || (t == 0 && !write) then none else some 0

/-! ### Ownership (R29, R229 to R232, R52) -/

/-- Table 6.2, Table 6.15: the owner of the page cannot be reassigned; the page is shared. -/
def pageFixed (p : Nat) : Bool := (fixedOwner p).isSome
def pageShared (p : Nat) : Bool := [0xE, 0xF, 0x10, 0x11, 0x12, 0x13, 0x16, 0x18, 0x1A, 0x1C, 0x23].contains p

/-- R231: does an entry reject the new owner? -/
def State.ownRefused (s : State) (t e new : Nat) : Bool :=
  !bit (s.get TEN.EN) new || (t == tblPage && (pageFixed e || s.on (HDR.LOCK e))) || (t == tblEvent && s.on (EVF.LOCK e))

/-- What a change of owner does to the resource when it takes effect (R320, R354, R428, R443, R604, R629). -/
def State.ownerTaken (s : State) (t e old new : Nat) : State :=
  if t = tblPage then (s.when (e == 0x16) (fun s => s.linkQuiesce)).when (e == 0x21 || e == 0x14 || e == 0x1A) State.reshapeAll
  else if t = 1 || t = 2 then s.objReset (t - 1) e
  else if t = tblSource then
    { s with service := Table.erase s.service (128 * old + e) }.put (IRQ.PRIO new e) 0
  else if t = tblQueue then (s.queueAt e).foldl (fun st k => st.completeFree k stCancelled) s
  else if t = tblNbr then s.nbrOut e
  else if t = tblNtu then s.channelReset e
  else if t = tblEvent then s.reshape e
  else s

/-- Table 1.3: is the resource at an idle point? A PWM pair that runs waits for its period boundary, which PWM_PERIOD_START is; a neighbour
entry for the end of the slot in progress, which ends where another has come by network time, at the latest with SLOT_START. -/
def State.ownerIdle (s : State) (t e : Nat) : Bool :=
  if t = 1 || t = 2 then
    let c := s.canCtl (t - 1)
    (Table.find c.lock e).isNone && (c.send.map (·.obj)) != some e && (c.storing.map (·.1)) != some e
  else if t = tblDma then (s.activeAt e).isNone
  else if t = tblLoop then (Table.find s.ctl.samples e).isNone
  else if t = tblPair then !s.pairRuns e
  else if t = tblQueue then !(s.q.slots.any (fun k => k.2.state == 3 && k.2.queue == e))
  else if t = tblNbr then s.link.cur.isNone && !(s.linkRuns && s.link.begun == some (s.schedule.asn s.now))
  else if t = tblRegion then !(s.arrayBusy true && match s.mem.flashOp with
      | some (k, _, _) => regionOf (s.get (FLASHC.ADDR (k % 4))) == e
      | none => false)
  else true

/-- A change of owner that waits takes effect. -/
def State.ownerSwitch (s : State) (t e : Nat) : State :=
  match Table.find s.waiting (256 * t + e) with
  | none => s
  | some old =>
    let s := { s with waiting := Table.erase s.waiting (256 * t + e) }
    s.ownerTaken t e old (s.accepted t e)

/-- R231: one entry is written. It reads the new owner at once, and takes effect at the resource's idle point. -/
def State.ownEntry (s : State) (t e new : Nat) : State :=
  if tableSize t ≤ e || t ≥ 13 || s.accepted t e == new then s
  else if s.ownRefused t e new then s.put TEN.OWN_REJECT 1
  else
    let old := s.owner t e
    let s := { s with owners := Table.set (firstOwner t e) s.owners (256 * t + e) new }
    if old == new then { s with waiting := Table.erase s.waiting (256 * t + e) }
    else
      let s := { s with waiting := Table.insert s.waiting (256 * t + e) old }
      s.when (s.ownerIdle t e) (fun s => s.ownerSwitch t e)

/-- The first entry of the group that TEN_OWN_SEL selects. -/
def State.ownBase (s : State) : Nat := 16 * s.get TEN.GROUP

/-- R229, R231: a write of TEN_OWN_DATA; only entries in the byte lanes written are written. -/
def State.ownWritten (s : State) (v mask : Nat) : State :=
  (List.range 16).foldl (fun st k => st.when (bit mask (2 * k)) (fun st => st.ownEntry (s.get TEN.TABLE) (s.ownBase + k) (bits v (2 * k) 2))) s

/-- TEN_OWN_DATA and TEN_OWN_PEND as they read. -/
def State.tenRead (s : State) (off w : Nat) : Nat :=
  let t := s.get TEN.TABLE
  if off = 0x1C then
    (List.range 16).foldl (fun v k => v + (if s.ownBase + k < tableSize t then s.accepted t (s.ownBase + k) else 0) * 2 ^ (2 * k)) 0
  else if off = 0x20 then
    (List.range 16).foldl (fun v k => v + ofBool (Table.find s.waiting (256 * t + s.ownBase + k)).isSome * 2 ^ k) 0
  else w

/-! ### FAULTn and WDT (R239 to R254) -/

/-- The state with what is kept for the posted stores of Tn changed. -/
def State.modPost (s : State) (n : Nat) (f : Post → Post) : State := { s with post := vmod s.post n f }

/-- R243: HELD clears, and the held stores proceed, once every record that it waits for has been read, dropped ones by clearing OVERFLOW. -/
def State.judgeHeld (s : State) (n : Nat) : State :=
  let p := s.postOf n
  s.when (!p.fifo.any (·.held) && !p.lostHeld) (fun s =>
    (s.put (FAULT.HELD n) 0).modHart n (fun h => { h with posts := h.posts.map (fun p => { p with held := false }) }))

/-- R247, R243: the oldest record is removed. Whoever reads it with the tenant's TID has read it for the stores that are held (assumption log 19,
DESIGN CHOICE). -/
def State.popRecord (s : State) (n : Nat) : State := (s.modPost n (fun p => { p with fifo := p.fifo.drop 1 })).judgeHeld n

/-- Does a posted store of Hn wait to complete: one that HELD does not keep in the buffer? -/
def State.postsWait (s : State) (n : Nat) : Bool := (s.hart n).posts.any (fun p => !p.held)

/-- R244: what a fence read returns; `own` for one by Hn, which ends the window of FAILED: a failure of a store that is held in the buffer then
counts for no later fence read. -/
def State.fenceWord (s : State) (n : Nat) (own : Bool) : State × Nat :=
  let w := s.get (FAULT.LAST_TAG n) + ofBool (s.on (FAULT.HELD n)) * 2 ^ 30
  if own then
    ((s.modPost n (fun p => { p with failed := false })).modHart n (fun h => { h with posts := h.posts.map (fun p => { p with fenced := true }) }),
      w + ofBool (s.postOf n).failed * 2 ^ 31)
  else (s, w)

/-- A read of the FAULTn page by tenant `t`. A fence read by Hn is answered here as it stands; FAULTN_FENCE_READ makes it wait. -/
def State.faultRead (s : State) (m : Master) (t n off w : Nat) : State × Nat :=
  let r := ((s.postOf n).fifo.head?).getD ⟨0, 0, 0, 0, false⟩
  if off = 0x10 then (s, r.w0)
  else if off = 0x14 then (s, r.w1)
  else if off = 0x18 then (s, r.w2)
  else if off = 0x1C then (s.when (t == n) (fun s => s.popRecord n), r.w3)
  else if off = 0x20 then (s, w + (s.postOf n).fifo.length)
  else if off = 0x2C then
    if t != n then (s, 0) else s.fenceWord n (match m with
      | .hart h => h.val == n
      | _ => false)
  else (s, w)

/-- What a write of the FAULTn page does beyond its fields: a cleared OVERFLOW stands for reading the records dropped. -/
def State.faultWrote (s : State) (n : Nat) : State :=
  s.when (!s.on (FAULT.OVERFLOW n)) (fun s => (s.modPost n (fun p => { p with lostHeld := false })).judgeHeld n)

/-- R252: a write of WDTn_SERVICE, `us` after the window began. A write later than TIMEOUT finds the watchdog expired. A second half without
a first, or more than 100 µs after it, makes no service. -/
def State.wdtService (s : State) (n v us : Nat) : State :=
  if !s.wdtRuns n then s
  else if s.get (WDT.TIMEOUT n) < us then s.wdtExpire n 0
  else if v = 0xA5C3 then { s with wdt := vput s.wdt n ⟨some us⟩ }
  else if v != 0x5A3C then s.wdtExpire n 2
  else match (vget s.wdt n ⟨none⟩).half with
    | none => s
    | some h =>
      let s := { s with wdt := vput s.wdt n ⟨none⟩ }
      if h + 100 < us then s else s.when (us < s.get (WDT.OPEN n)) (fun s => s.wdtExpire n 1)

/-- R262: the configuration of block `n` breaks the rule on OPEN and LEAD. -/
def State.wdtBad (s : State) (n : Nat) : Bool :=
  s.get (WDT.TIMEOUT n) ≤ s.get (WDT.OPEN n) || (s.get (WDT.LEAD n) != 0 && s.get (WDT.TIMEOUT n) ≤ s.get (WDT.LEAD n))

/-- What a write of a watchdog's registers does beyond its fields. -/
def State.wdtWrote (s : State) (off : Nat) (old : State) : State :=
  let n := (off - 0x10) / 32
  if off < 0x10 then s
  else
    let s := if s.wdtBad n then
        ((s.put (WDT.TIMEOUT n) (old.get (WDT.TIMEOUT n))).put (WDT.OPEN n) (old.get (WDT.OPEN n))).put (WDT.LEAD n) (old.get (WDT.LEAD n))
      else s
    s.when (s.on (WDT.EN n) && !old.on (WDT.EN n)) (fun s => { s with wdt := vput s.wdt n ⟨none⟩ })

/-! ### IRQn (R318 to R323) -/

/-- A read of the IRQn page: sources of other owners read 0; CLAIM claims. -/
def State.irqRead (s : State) (n off w : Nat) : State × Nat :=
  if 0x10 ≤ off && off < 0x50 then
    let base := 2 * (off - 0x10)
    (s, (List.range 8).foldl (fun v i => v + s.prio n (base + i) * 2 ^ (4 * i)) 0)
  else if 0x50 ≤ off && off < 0x60 then
    let base := 8 * (off - 0x50)
    (s, (List.range 32).foldl (fun v i => v + ofBool (s.isPending n (base + i)) * 2 ^ i) 0)
  else if off = 0x64 then s.claim n
  else (s, w)

/-- What a write of the IRQn page does beyond its fields. -/
def State.irqWrote (s : State) (n off v mask : Nat) (old : State) : State :=
  if 0x10 ≤ off && off < 0x50 then
    let base := 2 * (off - 0x10)
    (List.range 8).foldl (fun st i => if st.srcOwner (base + i) == n then st else st.put (IRQ.PRIO n (base + i)) (old.get (IRQ.PRIO n (base + i)))) s
  else if off = 0x64 && bit mask 0 then s.endService n (bits v 0 7)
  else s

/-! ### QMGR, DMA and AES (R325 to R339) -/

/-- R331: may queue `q` be bound to consumer `c`? -/
def State.bindable (s : State) (c q : Nat) : Bool :=
  if c < 0x10 then s.owner tblDma c == s.owner tblQueue q
  else if 0x20 ≤ c && c < 0x30 then s.owner (tblCan ((c - 0x20) / 8)) (120 + c % 8) == s.owner tblQueue q
  else true

/-- R338: tenant `t` cancels a slot. A descriptor at the link controller stops under R618, at a CAN object under R469. -/
def State.cancelSlot (s : State) (t slot : Nat) : State :=
  match s.slotAt slot with
  | none => s
  | some d =>
    if d.owner != t || d.state == 1 then s
    else if d.state == 2 then s.completeCancelled slot
    else match s.consumerOf slot with
      | some c =>
        if stopsAtWord c then s.completeCancelled slot
        else if 0x20 ≤ c && c < 0x30 then (s.noteCancel slot).cancelObj ((c - 0x20) / 8) (120 + c % 8)
        else s.noteCancel slot
      | none => s.noteCancel slot

/-- A read of the QMGR page by tenant `t`. -/
def State.qmgrRead (s : State) (t off w : Nat) : State × Nat :=
  if off = 0x18 then (s, s.inFlight t + s.get (QMGR.QUOTA t) * 2 ^ 16)
  else if off = 0x1C then s.alloc t
  else if 0x100 ≤ off && off % 8 == 0 then
    let l := s.queueAt ((off - 0x100) / 8)
    (s, w % 2 ^ 16 + l.headD 0 * 2 ^ 16 + ofBool l.isEmpty * 2 ^ 31)
  else (s, w)

/-- What a write of the QMGR page by tenant `t` does beyond its fields, and whether it is refused with ACCESS_DENIED (R330). -/
def State.qmgrWrote (s : State) (t off v : Nat) (old : State) : State × Bool :=
  if off = 0x10 || off = 0x14 then
    if 2048 < ([0, 1, 2, 3] : List Nat).foldl (fun a n => a + s.get (QMGR.QUOTA n)) 0 then (old, false) else (s, false)
  else if off = 0x20 then (s.freeSlot t (bits v 0 11), false)
  else if off = 0x24 then (s.cancelSlot t (bits v 0 11), false)
  else if off < 0x100 then (s, false)
  else if off % 8 = 4 then
    let r := s.push t ((off - 0x104) / 8) (bits v 0 11)
    (r.1, !r.2)
  else
    let q := (off - 0x100) / 8
    let c := s.get (QMGR.Q_CONSUMER q)
    let s := s.when (c != old.get (QMGR.Q_CONSUMER q) && (old.on (QMGR.Q_EN q) || !s.bindable c q))
      (fun s => s.put (QMGR.Q_CONSUMER q) (old.get (QMGR.Q_CONSUMER q)))
    (s.when (s.srcOwner (32 + s.get (QMGR.Q_LINE q)) != s.owner tblQueue q) (fun s => s.put (QMGR.Q_LINE q) (old.get (QMGR.Q_LINE q))),
      false)

/-- A read of the DMA page. -/
def State.dmaRead (s : State) (off w : Nat) : Nat :=
  if 0x10 ≤ off && off % 8 == 4 then
    match s.activeAt ((off - 0x14) / 8) with
    | some a => 1 + a.slot * 2 ^ 16
    | none => 0
  else w

/-- A read of AES_STATUS. -/
def State.aesRead (s : State) (off w : Nat) : Nat :=
  if off = 0x10 then
    match s.activeAt 0x11 with
    | some a => 1 + a.queue * 2 ^ 8
    | none => 0
  else w

/-! ### EVF (R358 to R368) -/

/-- R364: the channel that sink `k` names is another tenant's PROTECTED channel. -/
def State.channelClosed (s : State) (t c : Nat) : Bool := !s.on (EVF.ATTR c) && s.owner tblEvent c != t

/-- An EVOUT in LEVEL follows the channel it now listens to. -/
def State.evoutFollow (s : State) (k : Nat) : State :=
  let c := s.get (EVF.S_CHANNEL (0x30 + k))
  s.when (s.get (EVF.S_OUTMODE (0x30 + k)) == 2)
    (fun s => s.setEvout k (s.on (EVF.S_EN (0x30 + k)) && s.signal c && s.endOk c (s.sinkOwner (0x30 + k))))

/-- A write of a sink register, and whether it is refused (R364, R368). -/
def State.sinkWrote (s : State) (t k : Nat) (old : State) : State × Bool :=
  let s := s.when (!(0x30 ≤ k && k < 0x38)) (fun s => s.put (EVF.S_OUTMODE k) 0)
  let s := s.when (!(0x3D ≤ k)) (fun s => s.put (EVF.S_OBJ k) 0)
  let opens := s.on (EVF.S_EN k) && (!old.on (EVF.S_EN k) || s.get (EVF.S_CHANNEL k) != old.get (EVF.S_CHANNEL k))
  let x := if k = 0x3F then 1 else 0
  let moved := s.get (EVF.S_OBJ k) != old.get (EVF.S_OBJ k)
  if opens && s.channelClosed t (s.get (EVF.S_CHANNEL k)) then (old, true)
  else if moved && !(s.objOwner x (old.get (EVF.S_OBJ k)) == t && s.objOwner x (s.get (EVF.S_OBJ k)) == t) then (old, true)
  else if 0x30 ≤ k && k < 0x38 then (s.evoutFollow (k - 0x30), false)
  else (s, false)

/-- A LEVEL channel after a write: its signal follows, and a high pad stopped at the source end sets BLOCKED (R358, R360). -/
def State.channelWrote (s : State) (c : Nat) (old : State) : State :=
  let src := s.get (EVF.SRC c)
  let fresh := s.get (EVF.SRC c) != old.get (EVF.SRC c) || !old.on (EVF.EN c)
  let stopped := s.on (EVF.EN c) && s.get (EVF.EDGE c) == 0 && s.sourceLevel src && !s.endOk c (s.sourceOwner src)
  let s := s.when (fresh && s.signal c) (fun s => (s.setSignal c false).channelFall c)
  (s.reshape c).when (fresh && stopped) (fun s => s.raise (EVF.BLOCKED c))

/-- What a write of the EVF page by tenant `t` does beyond its fields, and whether it is refused. -/
def State.evfWrote (s : State) (t off v : Nat) (old : State) : State × Bool :=
  if off = 0x10 then
    let c := bits v 0 6
    if s.owner tblEvent c == t then (s.swtrig c, false) else (s, true)
  else if 0x200 ≤ off then s.sinkWrote t ((off - 0x200) / 4) old
  else if 0x100 ≤ off then (s.channelWrote ((off - 0x100) / 4) old, false)
  else (s, false)

/-! ### NTU and SYS (R137, R317, R400 to R412, R428) -/

/-- A read of the NTU page by tenant `t`. -/
def State.ntuRead (s : State) (t off w : Nat) : State × Nat :=
  let l := vget s.ntu.latch t noLatch
  if off = 0x40 then (s.latchTime t, s.ntu.sec % 2 ^ 32)
  else if off = 0x44 then (s, l.hi)
  else if off = 0x48 then (s, l.ns)
  else if off = 0x4C then (s, l.frac)
  else if off = 0x50 then (s, s.tick32)
  else if off = 0x54 then (s, l.tick32)
  else if off = 0x20 then (s, w - bits w 1 1 * 2 + ofBool s.power.coarse * 2)
  else if 0x100 ≤ off && off % 16 == 12 then (s.clear (NTU.CH_CAPTURED ((off - 0x100) / 16)), w)
  else (s, w)

/-- A write of NTU_CHc_CFG: LINE (R325), MODE (R428), ARM (R403, R405). -/
def State.channelCfgWrote (s : State) (c : Nat) (old : State) : State :=
  let s := s.when (s.srcOwner (52 + s.get (NTU.CH_LINE c)) != s.owner tblNtu c) (fun s => s.put (NTU.CH_LINE c) (old.get (NTU.CH_LINE c)))
  let s := s.when (s.get (NTU.CH_MODE c) != old.get (NTU.CH_MODE c)) (fun s => s.modeChanged c)
  let arm := s.on (NTU.CH_ARM c)
  (s.put (NTU.CH_ARM c) 0).when arm (fun s => s.armCompare c)

/-- What a write of the NTU page does beyond its fields. A, B and C of a capture channel are read-only (Table 10.7). -/
def State.ntuWrote (s : State) (off : Nat) (old : State) : State :=
  if off = 0x10 then s.servoWritten (old.on NTU.SERVO_EN)
  else if off = 0x18 then
    let set := s.on NTU.SET
    (s.put NTU.SET 0).when set State.setTime
  else if 0x100 ≤ off && off % 16 == 0 then s.channelCfgWrote ((off - 0x100) / 16) old
  else if 0x100 ≤ off && old.get (NTU.CH_MODE ((off - 0x100) / 16)) == 3 then old
  else if 0x100 ≤ off && off % 16 ≤ 8 then s.targetWritten ((off - 0x100) / 16)
  else s

/-- A read of the SYS page by `m` with tenant `t` (R317, Table 6.16). -/
def State.sysRead (s : State) (m : Master) (t off w : Nat) : State × Nat :=
  if off = 0x10 then (s, t + masterCode m * 2 ^ 8)
  else if off = 0x18 then
    ({ s with ntu := { s.ntu with mlatch := vput s.ntu.mlatch t (s.ntu.mtime / 2 ^ 32) } }, s.ntu.mtime % 2 ^ 32)
  else if off = 0x1C then (s, vget s.ntu.mlatch t 0)
  else (s, w)

/-- R317: T0 writes mtime; `v` under `mask`. -/
def State.sysWrote (s : State) (off v mask : Nat) : State :=
  let put (old : Nat) : Nat := (old &&& (mask ^^^ 0xFFFFFFFF)) ||| (v &&& mask)
  if off = 0x18 then { s with ntu := { s.ntu with mtime := s.ntu.mtime / 2 ^ 32 * 2 ^ 32 + put (s.ntu.mtime % 2 ^ 32) } }
  else if off = 0x1C then { s with ntu := { s.ntu with mtime := put (s.ntu.mtime / 2 ^ 32) * 2 ^ 32 + s.ntu.mtime % 2 ^ 32 } }
  else s

end Sys2Proof.Machine
end

