-- ==== Sys2Proof/Machine/Regs.lean ====
section
/-!
DEFINITION. Reads and writes of the peripheral pages and of every other address: the fields under their access codes (R9, R12, Table 0.2),
locks (R228), what each page does beyond its fields, and the judged bus access of R233 and R234 that all masters share.
-/

namespace Sys2Proof.Machine

/-! ### Fields -/

/-- `v` without the bits of `m`. -/
def without (v m : Nat) : Nat := v - (v &&& m)

/-- R228, R254, R363: the DETAIL of a LOCKED fault on this field; `none` where no lock is set. -/
def State.lockOf (s : State) (p off : Nat) : Option Nat :=
  if off = 4 then (if s.on (HDR.LOCK p) then some 0 else none)
  else if p = 0x23 then (if s.on (WDT.LOCK ((off - 0x10) / 32)) then some 1 else none)
  else if p = 0x10 then (if s.on (EVF.LOCK ((off - 0x100) / 4)) then some 1 else none)
  else none

/-- A field takes a value unless the encoding is reserved (R12). -/
def State.putLegal (s : State) (f : Fld) (v : Nat) : State := if f.legalValue v then s.put f v else s

/-- Table 0.2: the effect of a write on one field; `v` under the byte lanes of `mask`. The second value tells of a LOCKED fault. -/
def State.writeField (s : State) (lock : Option Nat) (v mask : Nat) (f : Fld) : State × Option Nat :=
  let m := bits mask f.lsb f.width
  if m = 0 then (s, none)
  else
    let old := s.get f
    let d := bits v f.lsb f.width &&& m
    let new := without old m + d
    match f.acc with
    | .rw => (s.putLegal f new, none)
    | .rwl =>
      match lock with
      | some k => (s, if new = old then none else some k)
      | none => (s.putLegal f new, none)
    | .w1c => (s.put f (without old d), none)
    | .w1s => (s.put f (old ||| d), none)
    | _ => (s, none)

/-- The fields of a word are written. -/
def State.writeFields (s : State) (p off v mask : Nat) : State × Option Nat :=
  let lock := s.lockOf p off
  (pageFieldsAt p off).foldl (fun r f =>
    let w := r.1.writeField lock v mask f
    (w.1, r.2.or w.2)) (s, none)

/-- The byte lanes of an access of `n` bytes at lane `l`, as a mask of bits. -/
def laneMask (l n : Nat) : Nat := (2 ^ (8 * n) - 1) * 2 ^ (8 * l)

/-! ### Common header (R224, R225, Table 6.15) -/

/-- Table 6.2: block code and instance of a page. -/
def pageBlock (p : Nat) : Nat × Nat :=
  if 6 ≤ p && p ≤ 9 then (6, p - 6) else if 0xA ≤ p && p ≤ 0xD then (0xA, p - 0xA) else if p = 0x13 then (0x12, 1) else (p, 0)

/-- PAGE_ID. -/
def pageId (p : Nat) : Nat := p + (pageBlock p).1 * 2 ^ 8 + (pageBlock p).2 * 2 ^ 16 + 2 ^ 20

/-- PAGE_OWN: the owner as last accepted. -/
def State.pageOwn (s : State) (p : Nat) : Nat :=
  s.accepted tblPage p + ofBool (pageShared p) * 4 + ofBool (pageFixed p) * 8 + s.get (HDR.ATTR p) * 16 + s.get (HDR.LOCK p) * 32

/-! ### Pages -/

/-- LINK_NBR_EN: the bits of the entries that tenant `t` owns. -/
def State.nbrMask (s : State) (t off : Nat) : Nat := maskOf (fun i => s.owner tblNbr (8 * (off - 0x54) + i) == t)

/-- The word at offset `off` of page `p` as master `m` of tenant `t` reads it, with what the read does. -/
def State.regRead (s : State) (m : Master) (t p off : Nat) : State × Nat :=
  let w := s.fieldWord (pageAddr p off)
  if off = 0 then (s, pageId p)
  else if off = 4 then (s, s.pageOwn p)
  else if off = 8 || off = 0xC then (s, w &&& s.evtMask p t)
  else match p with
  | 0 => s.sysRead m t off w
  | 3 => (s.when (off == 0x30) State.latchGauge, (s.when (off == 0x30) State.latchGauge).fieldWord (pageAddr p off) + s.supplyRead off)
  | 5 => (s, s.tenRead off w)
  | 6 => s.faultRead m t 0 off w
  | 7 => s.faultRead m t 1 off w
  | 8 => s.faultRead m t 2 off w
  | 9 => s.faultRead m t 3 off w
  | 0xA => s.irqRead 0 off w
  | 0xB => s.irqRead 1 off w
  | 0xC => s.irqRead 2 off w
  | 0xD => s.irqRead 3 off w
  | 0xE => s.qmgrRead t off w
  | 0xF => (s, s.dmaRead off w)
  | 0x11 => s.ntuRead t off w
  | 0x12 => (s, w + s.canRead 0 off t)
  | 0x13 => (s, w + s.canRead 1 off t)
  | 0x15 => (s, w + s.phyRead off)
  | 0x16 =>
    if off = 0x54 || off = 0x58 then (s, w &&& s.nbrMask t off)
    else (s.when (off == 0x34) State.latchAsn, w + s.linkRead off)
  | 0x19 => (s, w + s.adcRead off)
  | 0x1A => (s, w + s.pwmRead off)
  | 0x1B => (s, w + s.toothRead off)
  | 0x1C => (s, s.flashRead off t w)
  | 0x1F => (s, s.aesRead off w)
  | 0x20 => if off = 0x14 then s.trngRead else (s, w)
  | 0x21 => (s, s.portRead off w)
  | 0x22 => s.serRead off w
  | 0x23 => (s, if 0x10 ≤ off && off % 32 = 16 then w + ofBool (s.wdtRuns ((off - 0x10) / 32)) * 2 ^ 8 else w)
  | _ => (s, w)

/-- R252: a write of WDTn_SERVICE; where the command does not tell the time since the window began, it is a free value. -/
def State.serviced (s : State) (n v : Nat) (us : Option Nat) : State :=
  match us with
  | some k => s.wdtService n v k
  | none => (s.free 24).2.wdtService n v (s.free 24).1

/-- R457, R458, R469, R494: an object number is written to CANx_TXREQ, CANx_TXCANCEL or CANx_LOCK_ABANDON by tenant `t`: for an object of
another owner the write has no effect and is refused. -/
def State.objCommand (s : State) (x t off o : Nat) (low : Bool) : State × Bool :=
  if !low then (s, false)
  else if s.objOwner x o == t then (s.canCommand x off o, false)
  else (s, true)

/-- What a write by tenant `t` does beyond the fields of the word at offset `off` of page `p`, `old` being the state before it; the second
value tells of a write refused with ACCESS_DENIED. `v` is the data in the byte lanes of `mask`. -/
def State.pageWrote (s : State) (t p off v mask : Nat) (us : Option Nat) (old : State) : State × Bool :=
  let low := mask % 256 != 0
  match p with
  | 0 => (s.sysWrote off v mask, false)
  | 1 => ((s.when (off == 0x20) (fun s => s.put RSTC.RUN (old.get RSTC.RUN))).rstcWrote off v, false)
  | 2 => (s.when (low || off == 0x20) (fun s => s.pwrWrote off old), false)
  | 3 => (s.supplyWrote off old, false)
  | 5 => (s.when (off == 0x1C) (fun s => s.ownWritten v mask), false)
  | 6 => (s.faultWrote 0, false)
  | 7 => (s.faultWrote 1, false)
  | 8 => (s.faultWrote 2, false)
  | 9 => (s.faultWrote 3, false)
  | 0xA => (s.irqWrote 0 off v mask old, false)
  | 0xB => (s.irqWrote 1 off v mask old, false)
  | 0xC => (s.irqWrote 2 off v mask old, false)
  | 0xD => (s.irqWrote 3 off v mask old, false)
  | 0xE => s.qmgrWrote t off v old
  | 0x10 => s.evfWrote t off v old
  | 0x11 => (s.ntuWrote off old, false)
  | 0x12 => if 0x50 ≤ off && off < 0x5C then s.objCommand 0 t off (bits v 0 7) low
      else (s.when (off != 0x10 || low) (fun s => s.canWrote 0 off old), false)
  | 0x13 => if 0x50 ≤ off && off < 0x5C then s.objCommand 1 t off (bits v 0 7) low
      else (s.when (off != 0x10 || low) (fun s => s.canWrote 1 off old), false)
  | 0x14 => (s.when (off == 0x10 && low) (fun s => s.trxModeWritten (old.get CANX.MODE)), false)
  | 0x15 => (s.phyWrote off, false)
  | 0x16 => (s.linkWrote off old, false)
  | 0x17 => (s.lsecWrote off v mask old, false)
  | 0x18 => (s.ctrlWrote off old, false)
  | 0x19 => (s.adcWrote off, false)
  | 0x1A => (s.pwmWrote off old, false)
  | 0x1B => (s.toothWrote off old, false)
  | 0x1C => (s.flashWrote off v mask old, false)
  | 0x1D => (s.memcWrote, false)
  | 0x21 => (s.portWrote off v old, false)
  | 0x22 => (s.serWrote off v, false)
  | 0x23 => if 0x20 ≤ off && off % 32 = 0 then (s.serviced ((off - 0x20) / 32) v us, false) else (s.wdtWrote off old, false)
  | _ => (s, false)

/-- A write of `n` bytes `data` at byte lane `l` of the word at `off` of page `p`; the second value is cause and DETAIL of a write that
step 4 or 5 of R233 refuses, in whole or for one field. -/
def State.regWrite (s : State) (t p off l n data : Nat) (us : Option Nat) : State × Option (Nat × Nat) :=
  let data := data % 2 ^ (8 * n)
  let v := data * 2 ^ (8 * l)
  let mask := laneMask l n
  if off = 8 || off = 0xC then
    let s' := (s.writeFields p off v (mask &&& s.evtMask p t)).1
    (match p with
      | 0x21 => s'.judgePads
      | 0x22 => s'.serMarks
      | _ => s', none)
  else
    let mask := if p = 0x16 && (off = 0x54 || off = 0x58) then mask &&& s.nbrMask t off else mask
    let w := s.writeFields p off v mask
    let r := if off = 4 || off = 0 then (w.1, false)
      else if p = 0x1E then (w.1.crcWrote off data n, false)
      else w.1.pageWrote t p off v mask us s
    (r.1, if r.2 then some (causeDenied, 1) else w.2.map (fun d => (causeLocked, d)))

/-! ### The judged access (R233, R234) -/

/-- What an access comes to. -/
inductive Res where
  /-- performed, with the data of a read -/
  | ok (v : Nat)
  | fail (f : Fail)
  /-- it waits for its island (R161) -/
  | held
  /-- the tenant is being quiesced: 0, and no record (Table 5.9) -/
  | gone
  deriving DecidableEq, Repr

/-- The data that the requester gets (R234). -/
def Res.value : Res → Nat
  | .ok v => v
  | _ => 0

/-- The failure, if there is one. -/
def Res.failure : Res → Option Fail
  | .fail f => some f
  | _ => none

/-- Was the access performed? -/
def Res.done : Res → Bool
  | .ok _ => true
  | _ => false

/-- Does it wait for its island? -/
def Res.waits : Res → Bool
  | .held => true
  | _ => false

/-- A read of `n` bytes at `a`, which is aligned, without its record; `k` is a read or a fetch. A read of a flash array waits for a pulse or a
committed segment of an operation on it (R269), and suspends a segment that is not committed (R270). -/
def State.readAs (s : State) (k : Reach) (m : Master) (tid a n : Nat) (u : Upset) : State × Res :=
  if s.rst.quiescing.contains tid then (s, .gone)
  else match s.judge m tid a k u with
    | .held => (s, .held)
    | .bad f => (s, .fail f)
    | .go (.mem p) =>
      if s.flashWaits p then (s, .held) else
      let r := (s.flashAsked p).memRead tid p n u
      (r.1, match r.2.2 with
        | some (c, d, b) => .fail ⟨c, d, b, 0, tid⟩
        | none => .ok r.2.1)
    | .go (.shadow w) =>
      (s, .ok (if 48 ≤ w && w < 56 then 0 else bits (vget s.rst.shadow w 0).toNat (8 * (a % 4)) (8 * n)))
    | .go .rom => ((s.free (8 * n)).2, .ok (s.free (8 * n)).1)
    | .go (.page p off) =>
      match s.pageDenies m tid p off false with
      | some d => (s, .fail ⟨causeDenied, d, a, 0, tid⟩)
      | none =>
        let r := s.regRead m tid p off
        (r.1, .ok (bits r.2 (8 * (a % 4)) (8 * n)))

/-- A read that is no fetch, without its record. -/
def State.readAt (s : State) (m : Master) (tid a n : Nat) (u : Upset) : State × Res := s.readAs .read m tid a n u

/-- A write of `n` bytes at `a`, which is aligned, without its record. -/
def State.writeAt (s : State) (m : Master) (tid a n v : Nat) (u : Upset) (us : Option Nat) : State × Res :=
  if s.rst.quiescing.contains tid then (s, .gone)
  else match s.judge m tid a .write u with
    | .held => (s, .held)
    | .bad f => (s, .fail f)
    | .go (.mem p) =>
      let r := s.memWrite m tid p n (v % 2 ^ (8 * n)) u
      (r.1, match r.2 with
        | some (c, d, b) => .fail ⟨c, d, b, 0, tid⟩
        | none => .ok 0)
    | .go (.page p off) =>
      match s.pageDenies m tid p off true with
      | some d => (s, .fail ⟨causeDenied, d, a, 0, tid⟩)
      | none =>
        let r := s.regWrite tid p off (a % 4) n v us
        (r.1, match r.2 with
          | some (c, d) => .fail ⟨c, d, a, 0, tid⟩
          | none => .ok 0)
    | .go _ => (s, .ok 0)

/-- The record of an access that failed (R234). -/
def State.noted (r : State × Res) (m : Master) : State × Res :=
  match r.2 with
  | .fail f => (r.1.failRecord f (masterCode m) none, r.2)
  | _ => r

/-- A read by a master, with its record. -/
def State.busRead (s : State) (m : Master) (tid a n : Nat) (u : Upset) : State × Res := State.noted (s.readAt m tid a n u) m

/-- A fetch by a master, with its record. -/
def State.busFetch (s : State) (m : Master) (tid a n : Nat) (u : Upset) : State × Res := State.noted (s.readAs .fetch m tid a n u) m

/-- A write by a master, with its record, before a cancel it makes reaches the link controller. -/
def State.busPut (s : State) (m : Master) (tid a n v : Nat) (u : Upset) : State × Res := State.noted (s.writeAt m tid a n v u none) m

end Sys2Proof.Machine
end

