-- ==== Sys2Proof/Machine/Burst.lean ====
section
/-!
DEFINITION. Runs of bus accesses that a master makes for a descriptor, and what the DMA channels, the CRC engine and the AES job engine do
with them (R237, R340 to R343).
-/

namespace Sys2Proof.Machine

/-- The aligned accesses, address and bytes, that cover `n` bytes from `a`: words where they fit, bytes elsewhere. -/
def spans : Nat → Nat → Nat → List (Nat × Nat)
  | 0, _, _ => []
  | k + 1, a, n =>
    if n = 0 then []
    else if a % 4 = 0 && 4 ≤ n then (a, 4) :: spans k ((a + 4) % 2 ^ 32) (n - 4)
    else (a, 1) :: spans k ((a + 1) % 2 ^ 32) (n - 1)

/-- A run of reads: the accesses from number `k` on, up to the first that is not performed. -/
def State.readRun (m : Master) (t : Nat) (d : Disturb) : Nat → List (Nat × Nat) → State → State × List Nat × Option Res
  | _, [], s => (s, [], none)
  | k, e :: l, s =>
    let r := s.busRead m t e.1 e.2 (disturbAt d k)
    if r.2.done then
      let q := State.readRun m t d (k + 1) l r.1
      (q.1, bytesLE e.2 r.2.value ++ q.2.1, q.2.2)
    else (r.1, [], some r.2)

/-- A run of writes of these bytes, up to the first that is not performed. -/
def State.writeRun (m : Master) (t : Nat) (d : Disturb) : Nat → List (Nat × Nat) → List Nat → State → State × Option Res
  | _, [], _, s => (s, none)
  | k, e :: l, data, s =>
    let r := s.busPut m t e.1 e.2 (ofBytesLE (data.take e.2)) (disturbAt d k)
    if r.2.done then State.writeRun m t d (k + 1) l (data.drop e.2) r.1 else (r.1, some r.2)

/-- `n` bytes read from `a`. -/
def State.readBytes (s : State) (m : Master) (t a n : Nat) (d : Disturb) (k : Nat) : State × List Nat × Option Res :=
  State.readRun m t d k (spans n a n) s

/-- Bytes written from `a` on. -/
def State.writeBytes (s : State) (m : Master) (t a : Nat) (data : List Nat) (d : Disturb) (k : Nat) : State × Option Res :=
  State.writeRun m t d k (spans data.length a data.length) data s

/-- R237, Table 8.9: the completion status of a descriptor whose access came to this; 0 for one that is not performed and not failed. -/
def failStatus : Res → Nat
  | .fail f => if f.cause = causeEcc || f.cause = causeParity || f.cause = causeIslandDown then stEcc else stDenied
  | _ => 0

/-- The state of an operation that ended: the status noted at consumer `c`; an access that waits or is answered for a quiescing tenant leaves
the operation as it was. -/
def State.opEnd (before after : State) (c : Nat) (r : Option Res) (st : Nat) : State :=
  match r with
  | none => after.outcome c st
  | some q => if failStatus q = 0 then before else after.outcome c (failStatus q)

/-! ### DMA (R340) -/

/-- The address of unit `i` of a transfer. -/
def unitAddr (a unit i : Nat) (fixed : Bool) : Nat := if fixed then a else (a + unit * i) % 2 ^ 32

/-- COPY: `n` more units from number `i` on, each read and then written; `w4` is word 4. The second value is the number of the unit it came to. -/
def State.copyUnits (m : Master) (t src dst w4 : Nat) (d : Disturb) : Nat → Nat → State → State × Nat × Option Res
  | 0, i, s => (s, i, none)
  | n + 1, i, s =>
    let unit := 2 ^ bits w4 19 2
    let r := s.busRead m t (unitAddr src unit i (bit w4 17)) unit (disturbAt d (2 * i))
    if r.2.done then
      let q := r.1.busPut m t (unitAddr dst unit i (bit w4 18)) unit r.2.value (disturbAt d (2 * i + 1))
      if q.2.done then State.copyUnits m t src dst w4 d n (i + 1) q.1 else (q.1, i, some q.2)
    else (r.1, i, some r.2)

/-- FILL: `n` more units from number `i` on. -/
def State.fillUnits (m : Master) (t v dst w4 : Nat) (d : Disturb) : Nat → Nat → State → State × Nat × Option Res
  | 0, i, s => (s, i, none)
  | n + 1, i, s =>
    let unit := 2 ^ bits w4 19 2
    let q := s.busPut m t (unitAddr dst unit i (bit w4 18)) unit (v % 2 ^ (8 * unit)) (disturbAt d i)
    if q.2.done then State.fillUnits m t v dst w4 d n (i + 1) q.1 else (q.1, i, some q.2)

/-- The words of a descriptor that its operation reads. -/
def jobWords : List Nat := [0, 2, 3, 4]

/-- The slot that consumer `c` serves with this opcode, its operation not yet carried out. -/
def State.jobOf (s : State) (c op : Nat) : Option Active :=
  match s.activeAt c with
  | some a => if s.up .core && a.status.isNone && (s.descBad a.slot jobWords).isNone && bits (s.descWord a.slot 0) 0 8 == op then some a
    else none
  | none => none

/-- R234, R237: a word of the descriptor that consumer `c` serves has come to hold an uncorrectable error: the error is recorded, and the
operation ends there. -/
def State.jobSpoilt (s : State) (c master : Nat) : State :=
  match s.activeAt c with
  | some a => s.when (s.up .core && a.status.isNone && (s.descBad a.slot jobWords).isSome)
    (fun s => (s.descRead a.slot jobWords master).outcome c stEcc)
  | none => s

/-- The state with how far the operation of consumer `c` has come. -/
def State.progress (s : State) (c done : Nat) : State :=
  match s.activeAt c with
  | some a => s.setActive c (some { a with done := done })
  | none => s

/-- The unit at which a transfer of `total` units, unit `i` next, comes to the `n`-th word boundary of its destination, or to its end. A destination
that stands still has its boundaries where one that starts at a word would. -/
def dmaStop (dst w4 total i n : Nat) : Nat :=
  let unit := 2 ^ bits w4 19 2
  let lead := if bit w4 18 then 0 else dst % 4
  min total ((((lead + unit * i) / 4 + n) * 4 - lead) / unit)

/-- DMA channel `ch` carries out its descriptor up to the `n`-th word boundary from where it stands; the descriptor stays active between
them (R337, R338). A unit that waits for an island is carried out by a later command. -/
def State.dmaRun (s : State) (ch : Fin 16) (fill : Bool) (n : Nat) (d : Disturb) : State :=
  match s.jobOf ch (if fill then 0x02 else 0x01) with
  | none => s.jobSpoilt ch (0x10 + ch.val)
  | some a =>
    let w4 := s.descWord a.slot 4
    let total := bits w4 0 16 / 2 ^ bits w4 19 2
    let t := s.tidOf (.dma ch)
    let k := dmaStop (s.descWord a.slot 3) w4 total a.done n - a.done
    let r := if fill then State.fillUnits (.dma ch) t (s.descWord a.slot 2) (s.descWord a.slot 3) w4 d k a.done s
      else State.copyUnits (.dma ch) t (s.descWord a.slot 2) (s.descWord a.slot 3) w4 d k a.done s
    let p := r.1.progress ch r.2.1
    match r.2.2 with
    | none => if total ≤ r.2.1 then p.outcome ch stDone else p
    | some q => State.opEnd p p ch (some q) stDone

/-! ### The CRC engine (R341) -/

/-- The algorithm of a CRC descriptor from its mode and the four words at DEST + 4. -/
def crcJob (mode : Nat) (ws : List Nat) : CrcAlg :=
  let word (i : Nat) : Nat := ofBytesLE ((ws.drop (4 * i)).take 4)
  crcAlgOf mode (word 0) (word 1) (word 2) (bit (word 3) 0) (bit (word 3) 1)

/-- The CRC engine carries out its descriptor. -/
def State.crcRun (s : State) (d : Disturb) : State :=
  match s.jobOf 0x10 0x10 with
  | none => s.jobSpoilt 0x10 0x20
  | some a =>
    let w4 := s.descWord a.slot 4
    let dest := s.descWord a.slot 3
    let mode := bits w4 22 3
    let p := if 3 ≤ mode then s.readBytes .crc a.owner ((dest + 4) % 2 ^ 32) 16 d 0 else (s, [], none)
    match p.2.2 with
    | some q => State.opEnd s p.1 0x10 (some q) 0
    | none =>
      let r := p.1.readBytes .crc a.owner (s.descWord a.slot 2) (bits w4 0 16) d 16
      match r.2.2 with
      | some q => State.opEnd s r.1 0x10 (some q) 0
      | none =>
        let w := r.1.writeBytes .crc a.owner dest (bytesLE 4 (crcOf (crcJob mode p.2.1) r.2.1)) d (16 + bits w4 0 16)
        State.opEnd s w.1 0x10 w.2 stDone

/-! ### The AES job engine (R342, R343) -/

/-- What an AES opcode computes: the output for DEST, and the tag. -/
structure AesOut where
  out : List Nat
  tag : List Nat
  deriving DecidableEq, Repr

/-- The computation of an opcode under a parameter block. -/
def aesJob (op : Nat) (key iv aad data : List Nat) (tagLen : Nat) : AesOut :=
  let nonce := iv.take 13
  match op with
  | 0x20 => ⟨aesEcb false key data, []⟩
  | 0x21 => ⟨aesEcb true key data, []⟩
  | 0x22 => ⟨aesCtr key iv data, []⟩
  | 0x23 => ⟨ccmCrypt key nonce data, ccmTag key nonce aad data tagLen⟩
  | 0x24 => ⟨ccmCrypt key nonce data, ccmTag key nonce aad (ccmCrypt key nonce data) tagLen⟩
  | _ => ⟨[], aesCmac key data⟩

/-- Table 8.10: the tag lengths of CCM. -/
def tagLenOk (n : Nat) : Bool := n % 2 == 0 && 4 ≤ n && n ≤ 16

/-- The reading of an AES operation: parameter block, associated data, data. The result is computed and held to be written; a TAG_LEN outside
Table 8.10 ends the descriptor BAD_DESCRIPTOR once the block has been read (assumption log 22, DESIGN CHOICE beside R342). -/
def State.aesFetch (s : State) (a : Active) (op : Nat) (d : Disturb) : State :=
  let w4 := s.descWord a.slot 4
  let len := bits w4 0 16
  let p := s.readBytes .aes a.owner (s.descWord a.slot 2) 64 d 0
  let word (i : Nat) : Nat := ofBytesLE ((p.2.1.drop i).take 4)
  let ccm := op = 0x23 || op = 0x24
  let tagLen := if ccm then bits (word 0x38) 16 5 else 16
  let key := p.2.1.take (if bit w4 21 then 32 else 16)
  let iv := (p.2.1.drop 0x20).take 16
  match p.2.2 with
  | some q => State.opEnd s p.1 0x11 (some q) 0
  | none =>
    if ccm && !tagLenOk tagLen then p.1.outcome 0x11 stBad
    else
      let x := p.1.readBytes .aes a.owner (word 0x34) (if ccm then bits (word 0x38) 0 16 else 0) d 16
      match x.2.2 with
      | some q => State.opEnd s x.1 0x11 (some q) 0
      | none =>
        let y := x.1.readBytes .aes a.owner (word 0x30) len d (16 + 65536)
        match y.2.2 with
        | some q => State.opEnd s y.1 0x11 (some q) 0
        | none =>
          let o := aesJob op key iv x.2.1 y.2.1 tagLen
          y.1.setActive 0x11 (some { a with run := some ⟨o.out, o.tag, word 0x3C⟩ })

/-- The accesses that write the result of an AES operation: the output at DEST, and the tag of CCM_ENC and CMAC. -/
def aesWrites (op dest : Nat) (r : AesRun) : List (Nat × Nat) :=
  spans r.out.length dest r.out.length ++ (if op = 0x23 || op = 0x25 then spans r.tag.length r.tagAt r.tag.length else [])

/-- R343: the last step of an AES operation: CCM_DEC reads the tag and compares. -/
def State.aesEnd (s : State) (a : Active) (op : Nat) (r : AesRun) (d : Disturb) : State :=
  if op = 0x24 then
    let q := s.readBytes .aes a.owner r.tagAt r.tag.length d (16 + 3 * 65536)
    State.opEnd s q.1 0x11 q.2.2 (if q.2.1 == r.tag then stDone else stAuth)
  else s.outcome 0x11 stDone

/-- The first of these accesses, up to the `n`-th word boundary: the next access lies at one, or elsewhere than where this one ends. -/
def wordSpan : Nat → List (Nat × Nat) → List (Nat × Nat)
  | _, [] => []
  | 0, _ => []
  | n + 1, e :: l => e :: match l with
    | [] => []
    | f :: _ => wordSpan (if f.1 % 4 = 0 || f.1 != (e.1 + e.2) % 2 ^ 32 then n else n + 1) l

/-- The AES engine goes on with its descriptor, if it has this opcode: it reads, and then makes the writes of its result up to the `n`-th word
boundary from where it stands, between which the descriptor stays active (R337, R338). -/
def State.aesRun (s : State) (op n : Nat) (d : Disturb) : State :=
  match s.jobOf 0x11 op with
  | none => s.jobSpoilt 0x11 0x21
  | some a =>
    let s := if a.run.isNone then s.aesFetch a op d else s
    match s.jobOf 0x11 op with
    | none => s
    | some a =>
      match a.run with
      | none => s
      | some r =>
        let all := aesWrites op (s.descWord a.slot 3) r
        let now := wordSpan n (all.drop a.done)
        let data := (r.out ++ r.tag).drop (((all.take a.done).map (·.2)).foldl (· + ·) 0)
        let w := State.writeRun .aes a.owner d (16 + 2 * 65536 + a.done) now data s
        match w.2 with
        | some q => State.opEnd s w.1 0x11 (some q) 0
        | none =>
          let s := w.1.progress 0x11 (a.done + now.length)
          if all.length ≤ a.done + now.length then s.aesEnd a op r d else s

end Sys2Proof.Machine
end

