-- ==== Sys2Proof/Machine/LinkRun.lean ====
section
/-!
DEFINITION. The link controller's side of a slot (R592 to R597, R606 to R609, R613 to R623): which descriptor serves it, how a transmission
is prepared, and how link descriptors complete. A link descriptor that is served stays at the head of its queue, ACTIVE.
-/

namespace Sys2Proof.Machine

/-! ### Descriptors of the link consumers (R594, R615, Table 15.8) -/

/-- Word `w` fields of a link descriptor: opcode, NBR, BCAST or ANY, and of SOURCE: N, map, MARGIN, RATE. -/
def State.linkOpcode (s : State) (slot : Nat) : Nat := bits (s.descWord slot 0) 0 8
def State.linkNbr (s : State) (slot : Nat) : Nat := bits (s.descWord slot 4) 25 6
def State.linkAny (s : State) (slot : Nat) : Bool := bit (s.descWord slot 4) 31
def State.soundCount (s : State) (slot : Nat) : Nat := bits (s.descWord slot 2) 0 5
def State.soundMap (s : State) (slot : Nat) : Nat := bits (s.descWord slot 2) 8 5

/-- The tenant that allocated a slot. -/
def State.slotTenant (s : State) (slot : Nat) : Nat := ((s.slotAt slot).map (·.owner)).getD 0

/-- What the controller remembers of a descriptor; a fresh one has made no attempt. -/
def noJob : LinkJob := ⟨0, none, none, 0, 0, 0, 0⟩
def State.job (s : State) (slot : Nat) : LinkJob := (Table.find s.link.jobs slot).getD noJob

/-- The state with what the controller remembers of a descriptor changed. -/
def State.modJob (s : State) (slot : Nat) (f : LinkJob → LinkJob) : State :=
  s.modLink (fun l => { l with jobs := Table.insert l.jobs slot (f (s.job slot)) })

/-- The sounding of a SOUND_RX descriptor; a fresh one has all its N soundings to come and every code at its highest. -/
def State.soundingOf (s : State) (slot : Nat) : Sounding :=
  (Table.find s.link.soundings slot).getD ⟨s.soundCount slot, List.replicate 48 4, false, 0, none, none, 0⟩

/-- The state with a sounding. -/
def State.setSounding (s : State) (slot : Nat) (x : Sounding) : State :=
  s.modLink (fun l => { l with soundings := Table.insert l.soundings slot x })

/-- The descriptor is being served: it is ACTIVE. A gated queue uses up its start. -/
def State.linkActivate (s : State) (slot : Nat) : State :=
  match s.slotAt slot with
  | none => s
  | some d =>
    if d.state == 3 then s
    else
      let s := (s.setSlot slot (some { d with state := 3, shown := true })).markDisplaced slot stDone d.owner
      if s.on (QMGR.Q_GATED d.queue) then { s with q := { s.q with starts := Table.erase s.q.starts d.queue } } else s

/-- The head of queue `n` when consumer `c` may serve it. -/
def State.linkHead (s : State) (c n : Nat) : Option Nat :=
  if s.serves c n then
    match s.queueAt n with
    | slot :: _ => if ((s.slotAt slot).map (·.state)) == some 3 || s.released n then some slot else none
    | [] => none
  else none

/-- The heads that consumer `c` may serve, of the lowest-numbered queue first. -/
def State.linkHeads (s : State) (c : Nat) : List Nat := (List.range 64).filterMap (fun n => s.linkHead c n)

/-- R615, R630: a descriptor that uses an entry its owner does not own. -/
def State.nbrForeign (s : State) (slot : Nat) : Bool := !s.linkAny slot && s.owner tblNbr (s.linkNbr slot) != s.slotTenant slot

/-- R623: a sounding that names the map in use with the peer. -/
def State.soundsUsedMap (s : State) (slot : Nat) : Bool :=
  (s.linkOpcode slot == 0x42 || s.linkOpcode slot == 0x43) && s.soundMap slot == s.nbrMap (s.linkNbr slot)

/-! ### Completion (R615 to R618) -/

/-- The controller's own reads and writes for a tenant (R595, R615). -/
def State.linkIn (s : State) (t a n : Nat) (d : Disturb) (k : Nat) : State × List Nat × Option Res := s.readBytes .link t a n d k
def State.linkOut (s : State) (t a : Nat) (data : List Nat) (d : Disturb) (k : Nat) : State × Option Res := s.writeBytes .link t a data d k

/-- The controller forgets a descriptor. -/
def State.linkForget (s : State) (slot : Nat) : State :=
  s.modLink (fun l => { l with
    jobs := Table.erase l.jobs slot
    soundings := Table.erase l.soundings slot
    next := l.next.filter (fun p => !p.serves slot)
    taker := l.taker.filter (fun k => k != slot) })

/-- A link descriptor completes with a status, or DEADLINE_MISSED when its deadline has been passed (R617, R352). -/
def State.linkComplete (s : State) (slot st : Nat) : State :=
  let s := s.linkForget slot
  if s.deadlinePassed slot then s.completeMissed slot else s.complete slot st

/-- Words 2 and 3 of the control block (Table 15.8). -/
def jobReport (j : LinkJob) : List Nat := bytesLE 4 (j.flags + j.attempts % 16 * 2 ^ 8) ++ bytesLE 4 (j.seq.getD 0)

/-- R615: a LINK_TX completes: words 2 and 3 of its control block are written first. A descriptor whose words 0 and 3 cannot be read writes none
(R234, R237). -/
def State.txComplete (s : State) (slot st : Nat) (d : Disturb) (k : Nat) : State :=
  if (s.descBad slot [0, 3]).isSome then (s.descRead slot [0, 3] 0x40).linkComplete slot (if st = stDone then stEcc else st)
  else if s.linkOpcode slot = 0x40 then
    let w := s.linkOut (s.slotTenant slot) (s.descWord slot 3 + 8) (jobReport (s.job slot)) d k
    match w.2 with
    | none => w.1.linkComplete slot st
    | some q => if failStatus q = 0 then w.1.linkComplete slot st else w.1.linkComplete slot (if st = stDone then failStatus q else st)
  else s.linkComplete slot st

/-- R618: a descriptor whose cancel was asked for during an attempt completes CANCELLED. -/
def State.txDone (s : State) (slot st : Nat) (d : Disturb) (k : Nat) : State :=
  s.txComplete slot (if ((s.slotAt slot).map (·.cancel)) == some true then stCancelled else st) d k

/-- R234, R237, R595: the failure that the controller meets in the control block of a LINK_TX, with its record; `d` may disturb these reads from
number 0x180 on. -/
def State.blockFails (s : State) (slot : Nat) (d : Disturb) : Option (State × Nat) :=
  if s.linkOpcode slot = 0x40 then
    let b := s.linkIn (s.slotTenant slot) (s.descWord slot 3) 8 d 0x180
    match b.2.2 with
    | some q => if failStatus q = 0 then none else some (b.1, failStatus q)
    | none => none
  else none

/-- R237, R330, R615, R623: a head that cannot be read or served completes. -/
def State.judgeHead (c : Nat) (d : Disturb) (s : State) (n : Nat) : State :=
  match s.linkHead c n with
  | none => s
  | some slot =>
    if (s.descBad slot [0, 2, 3, 4]).isSome then (s.descRead slot [0, 2, 3, 4] 0x40).linkComplete slot stEcc
    else if !s.descValid slot c then s.linkComplete slot stBad
    else if s.nbrForeign slot then
      (s.fault (s.slotTenant slot) causeDenied 2 (s.slotTenant slot) (nbrAddr (s.linkNbr slot) 0) 0x40).txComplete slot stDenied d 0x100
    else if s.soundsUsedMap slot then s.linkComplete slot stBad
    else match s.blockFails slot d with
      | some b => b.1.txComplete slot b.2 d 0x100
      | none => s

/-- The heads of all queues of both link consumers are judged; a queue's next head is judged in its turn. -/
def State.judgeHeads (s : State) (d : Disturb) : State :=
  (List.range 64).foldl (fun st n => (List.range (st.queueAt n).length).foldl (fun st _ => (State.judgeHead 0x30 d st n).judgeHead 0x31 d n) st) s

/-! ### Eligibility and selection (Tables 15.2 and 15.9) -/

/-- Word `w` of the control block as the controller finds it; 0 where it cannot be read. -/
def State.blockWord (s : State) (slot w : Nat) : Nat :=
  (s.readAt .link (s.slotTenant slot) ((s.descWord slot 3 + 4 * w) % 2 ^ 32) 4 Upset.none).2.value

/-- Table 15.9: is a transmit head eligible for slot `n` with entry `e`, its turn among SHARED slots apart? A unicast frame to an entry that is not in
use waits (R604, assumption log 15). -/
def State.txEligible (s : State) (n e slot : Nat) : Bool :=
  let cb := s.blockWord slot 0
  let onTime := !bit cb 8 || decide (0 < (s.job slot).attempts) || s.blockWord slot 1 == n % 2 ^ 32
  if !s.linkAny slot && !s.nbrInUse (s.linkNbr slot) then false
  else if s.linkOpcode slot = 0x42 then
    entryType e == 1 && s.linkNbr slot == entryNbr e && decide ((s.job slot).sent < s.soundCount slot)
  else if entryType e = 1 then !s.linkAny slot && s.linkNbr slot == entryNbr e && onTime
  else if entryType e = 3 then (bit cb 9 || s.linkAny slot || bits cb 0 3 == 3 || bits cb 0 3 == 4) && onTime
  else false

/-- R613: an eligible retry lets this SHARED slot pass. -/
def State.letsPass (s : State) (e slot : Nat) : Bool := entryType e == 3 && decide (0 < (s.job slot).skip)

/-- Table 15.9: is a receive head eligible for a slot with entry `e` at its preparation point? -/
def State.rxEligible (s : State) (e slot : Nat) : Bool :=
  let lrx := s.linkOpcode slot == 0x41
  if entryType e = 2 then (lrx && s.linkAny slot) || s.linkNbr slot == entryNbr e
  else if entryType e = 3 then lrx
  else if entryType e = 4 then lrx && s.linkAny slot && s.slotTenant slot == s.linkTid
  else false

/-- Table 15.2, row 3: the SOUND_RX that owes a SOUND_RESP to the slot's NBR, the slots that a retry lets pass included. -/
def State.owedTo (s : State) (e : Nat) : Option (Nat × Sounding) :=
  if (entryType e = 1 || entryType e = 3) && s.nbrInUse (entryNbr e) then
    s.link.soundings.find? (fun x => x.2.owed && s.linkNbr x.1 == entryNbr e)
  else none

/-- R613: the SOUND_RX whose SOUND_RESP is sent in the slot: a retry lets some SHARED slots pass. -/
def State.owesResponse (s : State) (e : Nat) : Option Nat :=
  match s.owedTo e with
  | some x => if entryType e == 3 && decide (0 < x.2.skip) then none else some x.1
  | none => none

/-- R609: may OFDM be used with the peer of entry `e` in the slot? -/
def State.ofdmSlot (s : State) (e nbr : Nat) : Bool := !entryRobust e && s.nbrInUse nbr && s.nbrOfdm nbr

/-- Table 15.2, rows 2 to 5: the operation of slot `n`, calibration apart. -/
def State.pickOp (s : State) (n e : Nat) : Option LinkOp :=
  if entryType e = 4 && s.on LINK.ROLE then some .beacon
  else match s.owesResponse e with
    | some k => some (.soundResp k)
    | none =>
      match (s.linkHeads 0x30).find? (fun k => s.txEligible n e k && !s.letsPass e k) with
      | some k => some (.transmit k)
      | none =>
        let heads := (s.linkHeads 0x31).filter (fun k => s.rxEligible e k)
        if heads.isEmpty then none else some (.window (heads.find? (fun k => s.linkOpcode k == 0x43)))

/-- The mode of the operation picked: robust? -/
def State.opRobust (s : State) (e : Nat) : LinkOp → Bool
  | .calibration => true
  | .beacon => true
  | .soundResp k => !s.ofdmSlot e (s.linkNbr k)
  | .transmit k => s.linkOpcode k != 0x42 && (s.linkAny k || 3 ≤ bits (s.blockWord k 0) 0 3 || !s.ofdmSlot e (s.linkNbr k))
  | .window (some _) => false
  | .window none => entryType e == 4 || !s.ofdmSlot e (entryNbr e)

/-- The descriptors that a calibration displaces (R621). -/
def State.displacedBy (s : State) (e : Nat) : LinkOp → List Nat
  | .soundResp k => [k]
  | .transmit k => [k]
  | .window (some k) => [k]
  | .window none => ((s.linkHeads 0x31).find? (fun k => s.rxEligible e k)).toList
  | _ => []

/-- The power code for frames to a peer, or RFPHY PWR (Table 15.6). -/
def State.opPwr (s : State) : LinkOp → Nat
  | .soundResp k => s.nbrPwr (s.linkNbr k)
  | .transmit k => if s.linkAny k then s.get RFPHY.PWR else s.nbrPwr (s.linkNbr k)
  | _ => s.get RFPHY.PWR

/-! ### Frames (R597, R598, R601, R606, R607) -/

/-- Table 15.4: a LINK field. -/
def linkField (ftype : Nat) (sec ackReq : Bool) (src dst7 : Nat) : Nat :=
  ftype % 8 + ofBool sec * 2 ^ 3 + ofBool ackReq * 2 ^ 4 + src % 2 ^ 16 * 2 ^ 5 + dst7 % 2 ^ 7 * 2 ^ 21

/-- Its parts. -/
def fieldType (l : Nat) : Nat := bits l 0 3
def fieldSec (l : Nat) : Bool := bit l 3
def fieldAck (l : Nat) : Bool := bit l 4
def fieldSrc (l : Nat) : Nat := bits l 5 16
def fieldDst (l : Nat) : Nat := bits l 21 7

/-- The HOP field of a beacon: entries below HOP_LEN, 5 bits each. -/
def hopField (c : Sched) : Nat := (List.range 19).foldl (fun v i => v + (if i < c.hopLen then nth c.hops i else 0) * 2 ^ (5 * i)) 0

/-- Table 15.3: the body of the beacon of slot `n`. -/
def beaconBody (c : Sched) (n flags : Nat) : List Nat :=
  let t := c.start n + 4000 * c.txOff + 128000
  bytesLE 6 (t / nsPerSec) ++ bytesLE 4 (t % nsPerSec) ++ bytesLE 5 n ++ [c.slotLen, c.txOff, c.hopLen, flags] ++ bytesLE 12 (hopField c)

/-- R597: the beacon of slot `n`. -/
def State.beaconFrame (s : State) (n : Nat) : AirFrame :=
  ⟨true, linkField 1 false false (s.get LINK.SHORT) 0x7F, 0, 0, beaconBody s.schedule n (s.get LINK.BFLAGS)⟩

/-- R606: the nonce. -/
def linkNonce (longLo longHi seq : Nat) : List Nat := bytesLE 4 longLo ++ bytesLE 4 longHi ++ bytesLE 4 seq ++ [1]

/-- R606: the payload of a secured frame. -/
def sealPayload (key nonce : List Nat) (link seq : Nat) (plain : List Nat) : List Nat :=
  bytesLE 4 seq ++ ccmCrypt key nonce plain ++ ccmTag key nonce (bytesLE 4 (link % 2 ^ 28)) plain 8

/-- R606: the plaintext of a secured payload, when its MIC passes. -/
def openPayload (key nonce : List Nat) (link : Nat) (payload : List Nat) : Option (List Nat) :=
  let body := (payload.drop 4).take (payload.length - 12)
  let plain := ccmCrypt key nonce body
  if payload.length < 12 then none
  else if ccmTag key nonce (bytesLE 4 (link % 2 ^ 28)) plain 8 == payload.drop (payload.length - 8) then some plain else none

/-- R606: the key of a frame: that of the peer's entry, or of broadcasts, JOIN_RESP among them. -/
def State.frameKey (s : State) (bcast : Bool) (nbr : Nat) : Option (List Nat) :=
  s.linkKey (if bcast then s.get LSEC.BCAST_KEY else s.nbrKey nbr)

/-- R614: does the slot's use fit? `len` counts the payload after the LINK field. -/
def slotFits (c : Sched) (robust : Bool) (rate nbps len : Nat) (ack : Bool) : Bool :=
  let frame := airTime robust rate nbps (if robust then len + 4 else len)
  let answer := if ack then 64000 + (if robust then 256000 else 172000) else 0
  decide (4000 * c.txOff + frame + answer + 100000 ≤ c.slotNs)

/-! ### Radio buffers (R596) -/

/-- The address of radio buffer `b`. The bytes after the LINK field stand in it from its first word on (assumption log 15). -/
def bufAddr (b : Nat) : Nat := 0x32000000 + 1024 * b

/-- The buffers in use: one for each frame prepared, for the frame being received, and for an acknowledgement. -/
def State.buffersUsed (s : State) : List Nat :=
  (s.link.jobs.filterMap (fun e => e.2.held)).map BufRef.buf ++ (s.link.soundings.filterMap (fun e => e.2.held)).map BufRef.buf ++
    (s.link.rxHeld.toList.map BufRef.buf) ++ (s.link.own.toList.map BufRef.buf) ++
    ((s.link.next.bind Prep.buf).toList.map BufRef.buf) ++ ((s.link.cur.bind Prep.buf).toList.map BufRef.buf)

/-- The buffers that hold no frame. -/
def State.buffersFree (s : State) : List Nat := (List.range 32).filter (fun b => !s.buffersUsed.contains b)

/-- A free buffer for tenant `t`; which one is not stated (assumption log 15). -/
def State.bufTake (s : State) (t : Nat) : Option (State × BufRef) :=
  match s.buffersFree with
  | [] => none
  | b :: bs => some ({ s with fresh := s.fresh + 1 }, ⟨nth (b :: bs) (Config.unstated s.fresh % (bs.length + 1)), t, 0⟩)

/-- Bytes written into a buffer under the key of its tenant. -/
def State.bufPut (s : State) (r : BufRef) (bytes : List Nat) : State × BufRef :=
  (s.setWords r.tenant (bufAddr r.buf) ((List.range ((bytes.length + 3) / 4)).map (fun i => ofBytesLE ((bytes.drop (4 * i)).take 4))),
    { r with len := bytes.length })

/-- The bytes of a buffer. -/
def State.bufBytes (s : State) (r : BufRef) : List Nat :=
  ((s.words r.tenant (bufAddr r.buf) ((r.len + 3) / 4)).flatMap (bytesLE 4)).take r.len

/-- R234, R290: the address of a word of a buffer that cannot be read; `d` may disturb the reads from number `k` on. -/
def State.bufFails (s : State) (r : BufRef) (d : Disturb) (k : Nat) : Option Nat :=
  ((List.range ((r.len + 3) / 4)).find? (fun w => s.eccBad (bufAddr r.buf + 4 * w) || (disturbAt d (k + w)).ecc)).map
    (fun w => bufAddr r.buf + 4 * w)

/-- R234: the record of such a read. -/
def State.bufRecord (s : State) (r : BufRef) (a : Nat) : State := (s.setEcc a).eccRecord r.tenant a 0x40

/-- The frame of an acknowledgement is put into a buffer of the LINK page owner; with none free it is sent all the same (assumption log 15). -/
def State.ownFrame (s : State) (payload : List Nat) : State :=
  match (s.modLink (fun l => { l with own := none })).bufTake s.linkTid with
  | none => s
  | some (s, r) =>
    let b := s.bufPut r payload
    b.1.modLink (fun l => { l with own := some b.2 })

/-- So is that of the beacon or the SOUND_REQ prepared next. -/
def State.nextFrame (s : State) (payload : List Nat) : State :=
  match s.bufTake s.linkTid with
  | none => s
  | some (s, r) =>
    let b := s.bufPut r payload
    b.1.modLink (fun l => { l with next := l.next.map (fun p => { p with buf := some b.2 }) })

/-! ### Preparing a transmission (R595, R606 to R609, R614) -/

/-- What a preparation comes to: the frame and the SEQ it used, or a status with bits of the report. -/
inductive Made where
  | frame (f : AirFrame) (seq : Option Nat)
  | refused (status flags : Nat)
  deriving DecidableEq, Repr

/-- R234, R237: the map that the controller fails to read for a frame, by the LINK page owner's TID. `d` may disturb these reads from number 0x300
on. -/
def State.makeFails (s : State) (m : Nat) (robust : Bool) (d : Disturb) : Option State :=
  if robust then none
  else ((List.range 5).find? (fun w => s.mapWordBad m w || (disturbAt d (0x300 + w)).ecc)).map
    (fun w => (s.setEcc (mapAddr m + 4 * w)).eccRecord s.linkTid (mapAddr m + 4 * w) 0x40)

/-- R606, R607, R609, R614: a frame of `plain` to the peer `nbr`, or to all with `bcast`; `used` and `held` are the SEQ and the frame of an earlier
attempt. -/
def State.makeFrame (s : State) (nbr ftype : Nat) (bcast sec ack robust : Bool) (plain : List Nat) (used : Option Nat)
    (held : Option BufRef) (d : Disturb) : Made × State :=
  let dst := if ftype = 4 then 0x7E else if bcast then 0x7F else s.nbrShort nbr % 128
  let link := linkField ftype sec ack (s.get LINK.SHORT) dst
  let total := plain.length + (if sec then 12 else 0)
  let rate := s.nbrRate nbr
  let codes := s.mapCodes (s.nbrMap nbr)
  let limit := if robust then decide (total ≤ 123) else ofdmFits codes rate total
  let spent := if sec && held.isNone && s.get LSEC.TXSEQ == 0 then 2 ^ 2 else 0
  let long := if limit && !slotFits s.schedule robust rate (mapBits codes) total ack then 2 ^ 3 else 0
  match s.makeFails (s.nbrMap nbr) robust d with
  | some s => (.refused stEcc 0, s)
  | none =>
  if !limit || spent + long != 0 then (.refused stBad (spent + long), s)
  else
    let frame (p : List Nat) : AirFrame := ⟨robust, link, s.nbrMap nbr, rate, p⟩
    match held with
    | some r => (.frame (frame (s.bufBytes r)) used, s)
    | none =>
      if !sec then (.frame (frame plain) none, s)
      else match s.frameKey (bcast || ftype = 4) nbr with
        | none => (.refused stBad 0, s)
        | some key =>
          let q := s.takeSeq
          (.frame (frame (sealPayload key (linkNonce (s.get LINK.LONG_LO) (s.get LINK.LONG_HI) q.1) link q.1 plain)) (some q.1), q.2)

/-- The state with the frame of the operation prepared next. -/
def State.setNextFrame (s : State) (f : AirFrame) : State :=
  s.modLink (fun l => { l with next := l.next.map (fun p => { p with robust := f.robust, frame := some f }) })

/-- The selected transmission is given up. -/
def State.dropNext (s : State) : State := s.modLink (fun l => { l with next := none })

/-- Bits of the report. -/
def State.jobFlags (s : State) (slot flags : Nat) : State := s.modJob slot (fun j => { j with flags := j.flags ||| flags })

/-- R596: a frame made is in a radio buffer of its tenant: the one it had, or a free one; without one it is not prepared. -/
def State.holdFrame (s : State) (t : Nat) (held : Option BufRef) (f : AirFrame) : Option (State × BufRef) :=
  match held with
  | some r => some (s, r)
  | none =>
    match s.bufTake t with
    | some b => some (b.1.bufPut b.2 f.payload)
    | none => none

/-- R237: the completion of a LINK_TX whose control block or payload cannot be read. -/
def State.prepareFailed (before after : State) (slot : Nat) (q : Res) (d : Disturb) : State :=
  if failStatus q = 0 then before else after.dropNext.txComplete slot (failStatus q) d 0x400

/-- R595: LINK_TX `slot` is prepared for the slot of `p`. -/
def State.prepareTx (s : State) (p : Prep) (slot : Nat) (d : Disturb) : State :=
  let t := s.slotTenant slot
  let nbr := s.linkNbr slot
  let bcast := s.linkAny slot
  let b := s.linkIn t (s.descWord slot 3) 8 d 0
  match b.2.2 with
  | some q => State.prepareFailed s b.1 slot q d
  | none =>
    let cb := ofBytesLE (b.2.1.take 4)
    let ftype := bits cb 0 3
    let s1 := b.1.modJob slot (fun j => { j with block := cb })
    if !bcast && !s.nbrInUse nbr then s1.dropNext
    else if !bcast && s.nbrBad nbr then (s1.nbrRecord nbr).dropNext.txComplete slot stEcc d 0x400
    else if ftype != 0 && ftype != 3 && ftype != 4 then s1.dropNext.txComplete slot stBad d 0x400
    else
      let sec := bit cb 3 || (!bcast && s.nbrSecReq nbr)
      let ack := bit cb 4 && (!bcast || ftype == 4)
      let robust := bcast || 3 ≤ ftype || !s.ofdmSlot p.entry nbr
      let r := s1.linkIn t (s.descWord slot 2) (bits (s.descWord slot 4) 0 16) d 2
      match r.2.2 with
      | some q => State.prepareFailed s r.1 slot q d
      | none =>
        let m := r.1.makeFrame nbr ftype bcast sec ack robust r.2.1 (s.job slot).seq (s.job slot).held d
        match m.1 with
        | .refused st flags => (m.2.jobFlags slot flags).dropNext.txComplete slot st d 0x400
        | .frame f seq =>
          match m.2.holdFrame t (s.job slot).held f with
          | some b => (b.1.modJob slot (fun j => { j with seq := seq, held := some b.2 })).setNextFrame f
          | none => s1.dropNext

/-- R622, R614: the SOUND_REQ of SOUND_TX `slot`. -/
def State.prepareSound (s : State) (slot : Nat) : State :=
  let nbr := s.linkNbr slot
  if !s.nbrInUse nbr then s.dropNext
  else if s.nbrBad nbr then (s.nbrRecord nbr).dropNext.linkComplete slot stEcc
  else if !slotFits s.schedule false (s.nbrRate nbr) 0 0 false then s.dropNext.linkComplete slot stBad
  else (s.nextFrame []).setNextFrame ⟨false, linkField 5 false false (s.get LINK.SHORT) (s.nbrShort nbr % 128), s.soundMap slot, s.nbrRate nbr, []⟩

/-- The 48 codes as the 18 bytes of a SOUND_RESP, and back. -/
def codeBytes (codes : List Nat) : List Nat := bytesLE 18 ((List.range 48).foldl (fun v i => v + nth codes i % 8 * 2 ^ (3 * i)) 0)
def codesOf (l : List Nat) : List Nat := (List.range 48).map (fun i => bits (ofBytesLE l) (3 * i) 3)

/-- Table 15.8: the SOUND_RESP payload of SOUND_RX `slot`. -/
def State.responsePayload (s : State) (slot : Nat) (codes : List Nat) : List Nat :=
  [s.soundMap slot, bits (s.descWord slot 2) 20 2] ++ codeBytes codes

/-- R622: the SOUND_RESP that SOUND_RX `slot` owes is prepared. -/
def State.prepareResponse (s : State) (p : Prep) (slot : Nat) (d : Disturb) : State :=
  let nbr := s.linkNbr slot
  let x := s.soundingOf slot
  let m := s.makeFrame nbr 6 false (s.nbrSecReq nbr) true (!s.ofdmSlot p.entry nbr) (s.responsePayload slot x.codes) x.seq x.held d
  if !s.nbrInUse nbr then s.dropNext
  else if s.nbrBad nbr then (s.nbrRecord nbr).dropNext.linkComplete slot stEcc
  else match m.1 with
    | .refused st _ => m.2.dropNext.linkComplete slot st
    | .frame f seq =>
      match m.2.holdFrame s.linkTid x.held f with
      | some b => (b.1.setSounding slot { x with seq := seq, held := some b.2 }).setNextFrame f
      | none => s.dropNext

/-- The selected descriptor is served: LINK_TX (`sound` false) or SOUND_TX. -/
def State.serveTx (s : State) (sound : Bool) (d : Disturb) : State :=
  match s.link.next with
  | some p =>
    match p.op with
    | .transmit slot =>
      if p.frame.isSome then s
      else if (s.descBad slot [0, 2, 3, 4]).isSome then (s.descRead slot [0, 2, 3, 4] 0x40).dropNext.linkComplete slot stEcc
      else if (s.linkOpcode slot == 0x42) != sound then s
      else if sound then (s.linkActivate slot).prepareSound slot
      else (s.linkActivate slot).prepareTx p slot d
    | _ => s
  | none => s

/-- The receive descriptors that the selected window serves become ACTIVE: LINK_RX (`sound` false) or the SOUND_RX. -/
def State.serveRx (s : State) (sound : Bool) : State :=
  match s.link.next.or s.link.cur with
  | some p =>
    match p.op with
    | .window w =>
      if sound then
        match w with
        | some k => (s.linkActivate k).setSounding k (s.soundingOf k)
        | none => s
      else ((s.linkHeads 0x31).filter (fun k => s.rxEligible p.entry k && s.linkOpcode k == 0x41)).foldl State.linkActivate s
    | _ => s
  | none => s

/-! ### The preparation point (R591, R593, R621) -/

/-- R613: retries that let this SHARED slot pass have one less to pass. -/
def State.countPasses (s : State) (n e : Nat) : State :=
  let s := ((s.linkHeads 0x30).filter (fun k => s.txEligible n e k && s.letsPass e k)).foldl
    (fun st k => st.modJob k (fun j => { j with skip := j.skip - 1 })) s
  match s.owedTo e with
  | some x => s.when (entryType e == 3) (fun s => s.setSounding x.1 { x.2 with skip := x.2.skip - 1 })
  | none => s

/-- R621: the calibration takes a slot that carried `op`. -/
def State.displace (s : State) (e : Nat) (op : LinkOp) (d : Disturb) : State :=
  (s.displacedBy e op).foldl (fun st k => st.txComplete k stDisplaced d 0x200) (s.raise RFPHY.CAL_DISPLACED)

/-- The operation picked for slot `n` is selected; on a channel that is masked it is not served, and a transmit descriptor counts no attempt (R589). -/
def State.selectOp (s : State) (n e : Nat) (op : LinkOp) (d : Disturb) : State :=
  let chan := s.schedule.channel n (entryChoff e)
  let target := match op with
    | .window (some k) => some (s.soundMap k)
    | _ => none
  let p : Prep := ⟨n, e, op, chan, s.opRobust e op, s.opPwr op, none, target, none⟩
  if !s.chanOk chan then
    match op with
    | .transmit k => (s.linkActivate k).jobFlags k (2 ^ 4)
    | _ => s
  else
    let s := s.modLink (fun l => { l with next := some p })
    match op with
    | .beacon => (s.nextFrame (s.beaconFrame n).payload).setNextFrame (s.beaconFrame n)
    | .soundResp k => s.prepareResponse p k d
    | .transmit k => (s.linkActivate k).modJob k id
    | _ => s

/-- The calibration that takes slot `n`. -/
def calPrep (n e : Nat) : Prep := ⟨n, e, .calibration, 0, true, 0, none, none, none⟩

/-- R593, R589: slot `n` is prepared. -/
def State.prepareSlot (s : State) (n : Nat) (d : Disturb) : State :=
  let s := s.modLink (fun l => { l with sched := some s.ownSched, prepared := some n, next := none })
  let s := s.judgeHeads d
  let s := s.when (disturbAt d 0).ecc (fun s => s.setEcc (slotEntryAddr (n % 256)))
  let r := s.slotEntry (n % 256)
  let e := r.2
  let op := r.1.pickOp n e
  let s := (r.1.countPasses n e).when (!r.1.chanOk (r.1.schedule.channel n (entryChoff e))) (fun s => s.put LINK.CH_MASKED 1)
  match op with
  | none => if s.calWaits then s.modLink (fun l => { l with next := some (calPrep n e) }) else s
  | some o =>
    if s.calLate then (s.displace e o d).modLink (fun l => { l with next := some (calPrep n e) })
    else s.selectOp n e o d

/-- R593: the preparation point, 200 µs before the next slot. -/
def State.preparation (s : State) (d : Disturb) : State :=
  let t := s.now + 200000
  let c := s.ownSched
  if s.linkRuns && c.epoch ≤ t && s.link.prepared != some (c.asn t) then s.prepareSlot (c.asn t) d else s

/-! ### Slot start and slot timer (R547, R588, R619, R624) -/

/-- The operation in progress. -/
def State.curOp (s : State) : Option LinkOp := s.link.cur.map Prep.op

/-- The operation of the present slot ends. -/
def State.endOp (s : State) : State :=
  (s.modLink (fun l => { l with
    cur := none
    rx := none
    taker := none
    ackWait := false
    ackOwed := none
    rxHeld := none
    own := none
    kept := false })).phyIdle

/-- R547, R619: the transmission set is refused or withheld because PGOOD is 0. -/
def State.withhold (s : State) (d : Disturb) : State :=
  let op := s.curOp
  let s := s.endOp.raise LINK.LOW_ENERGY
  match op with
  | some (.transmit slot) => s.txComplete slot stLowEnergy d 0x400
  | _ => s

/-- R526, R561: an operation whose channel has been masked since its preparation completes with no radio activity. -/
def State.maskedOp (s : State) (p : Prep) : State :=
  let s := s.endOp.put LINK.CH_MASKED 1
  match p.op with
  | .transmit k => s.jobFlags k (2 ^ 4)
  | _ => s

/-- The PHY is set for an operation; a transmission whose slot starts while PGOOD is 0 is refused (R112, R547). -/
def State.beginOp (s : State) (p : Prep) (d : Disturb) : State :=
  match p.op with
  | .calibration => s
  | .window _ =>
    if !s.chanOk p.chan then s.maskedOp p
    else
      let s := s.phySet .rxReady p.chan p.robust p.pwr none p.target
      s.modLink (fun l => { l with beaconDue := entryType p.entry == 4 })
  | _ =>
    if !s.chanOk p.chan then s.maskedOp p
    else if !s.on SUPPLY.PGOOD then s.withhold d
    else s.phySet .txReady p.chan p.robust p.pwr p.frame none

/-- Is the operation of an earlier slot still under way? One in whose slot the time has stepped is, to its end (R590). -/
def State.linkBusy (s : State) : Bool :=
  s.phyBusy || s.link.ackOwed.isSome || s.link.ackWait || (s.link.kept && s.link.cur.isSome &&
    (s.phy.op == .rxReady || s.phy.op == .rxOpen || (s.phy.op == .txReady && s.phy.frame.isSome)))

/-- Table 1.3: at the end of a slot the changes of owner that wait for it take effect. -/
def State.slotOwners (s : State) : State := (List.range 64).foldl (fun st e => st.ownerSwitch tblNbr e) s

/-- A slot begins. The operation prepared for it starts unless the one before has not ended. -/
def State.slotBegins (s : State) (d : Disturb) : State :=
  let n := s.schedule.asn s.now
  if s.linkRuns && s.schedule.epoch ≤ s.now && s.link.begun != some n then
    let s := s.slotOwners
    let mine := s.link.next.filter (fun p => p.asn == n)
    let busy := s.linkBusy
    let s := s.modLink (fun l => { l with begun := some n, next := none, cur := if busy then l.cur else mine, kept := l.kept && busy })
    let s := if busy then s else s.phyIdle
    let s := (s.fire 0x78).when (n % 256 == 0) (fun s => s.raise LINK.CYCLE_START)
    match mine with
    | some p => if busy then s else s.beginOp p d
    | none => s
  else s

/-- R624: the slot timer. -/
def State.slotTimer (s : State) : State :=
  let t := s.now + 1000 * s.get LINK.WAKE_LEAD
  let n := s.schedule.asn t
  if s.on LINK.RUN && !s.on LINK.SCAN && s.schedule.epoch ≤ t && s.link.timerDone != some n then
    let s := s.modLink (fun l => { l with timerDone := some n })
    let r := s.slotEntry (n % 256)
    r.1.when (entryWake r.2) (fun s => (s.raise LINK.SLOT_TIMER_EVT).wake 4)
  else s

/-! ### Lateness, deadlines and cancels (R616 to R618) -/

/-- Does the operation in progress serve the descriptor? -/
def State.inAttempt (s : State) (slot : Nat) : Bool := ((s.link.cur.map (fun p => p.serves slot)).getD false)

/-- Is the descriptor one that waits with no attempt made: QUEUED, or ACTIVE with nothing prepared for it or in progress? -/
def State.unattempted (s : State) (slot : Nat) (d : Slot) : Bool :=
  d.state == 2 || (d.state == 3 && (s.job slot).attempts == 0 && !s.inAttempt slot && !((s.link.next.map (fun p => p.serves slot)).getD false))

/-- R616, R627: a descriptor with AT_ASN that was not ACTIVE when its slot was prepared, or whose slot was skipped; the reason is DISPLACED for one
that a calibration displaced before (R40). -/
def State.slotLate (s : State) (slot : Nat) (d : Disturb) : State :=
  match s.slotAt slot, s.link.prepared with
  | some e, some n =>
    let late := tickReached n (s.blockWord slot 1)
    if s.unattempted slot e && bits (s.descWord slot 0) 8 6 == 0x30 && s.get (QMGR.Q_CONSUMER e.queue) == 0x30 && s.linkOpcode slot == 0x40 &&
        s.descValid slot 0x30 && bit (s.blockWord slot 0) 8 && late then
      ((s.missRecord e.owner (if Table.find s.q.displaced slot == some e.owner then 0x84 else 4) (slotAddr slot) 0x40).raise LINK.SLOT_LATE_EVT).txComplete slot stSlotLate d 0x400
    else s
  | _, _ => s

/-- Is the slot ACTIVE at the link controller? -/
def State.linkActive (s : State) (slot : Nat) : Bool :=
  match s.slotAt slot with
  | some e => e.state == 3 && (bits (s.descWord slot 0) 8 6 == 0x30 || bits (s.descWord slot 0) 8 6 == 0x31)
  | none => false

/-- Does the descriptor take part in the window in progress: an ACTIVE LINK_RX that its slot may serve? -/
def State.inWindow (s : State) (slot : Nat) : Bool :=
  match s.link.cur with
  | some p => p.op == .window none && s.linkActive slot && s.linkOpcode slot == 0x41 && s.rxEligible p.entry slot
  | none => false

/-- R617: an ACTIVE link descriptor whose deadline has passed stops once no PPDU or window of its runs. -/
def State.linkDeadline (s : State) (slot : Nat) (d : Disturb) : State :=
  let runs := (s.inAttempt slot || s.inWindow slot) && (s.phy.op == .txAir || s.phy.op == .rxOpen || s.phy.op == .rxSync || s.phy.op == .rxHeader)
  if s.linkActive slot && s.deadlinePassed slot && !runs && s.link.taker != some slot then
    let s := s.when (s.inAttempt slot) State.endOp
    s.txComplete slot stDeadline d 0x400
  else s

end Sys2Proof.Machine
end

