-- ==== Sys2Proof/Machine/SoftDecode.lean ====
section
/-!
DEFINITION. The receiver's decoder of an OFDM payload (chapter 14, R570, R573, R578 to R580, R585, R586): the soft values of the coded
stream, a layered and normalised min-sum decoder over the base matrices of R566 to R568, and the CRC-32 over the decoded PSDU.
A soft value is positive for a bit that is more likely 0; its scale is the receiver's own.
-/

namespace Sys2Proof.Machine

/-- The knowledge of one bit: a soft value, or `none` for a certain 0 (R579). -/
abbrev Soft := Option Int

/-- R567: the parity entries of row `i` of a rate, each column and shift. -/
def ldpcParityEntries (rate i : Nat) : List (Nat × Nat) :=
  let kb := ldpcCols rate
  let mb := 24 - kb
  (if i = 0 || i + 1 = mb then [(kb, 1)] else if i = ldpcMiddle rate then [(kb, 0)] else []) ++
    (if i = 0 then [] else [(kb + i, 0)]) ++ (if i + 1 = mb then [] else [(kb + i + 1, 0)])

/-- R566 to R568: all entries of the base matrix of a rate, row by row. -/
def ldpcMatrix (rate : Nat) : List (List (Nat × Nat)) :=
  (ldpcRows rate).zipIdx.map (fun r => r.1 ++ ldpcParityEntries rate r.2)

/-- The hard decision on a soft value. Which bit a value with no information counts as is not stated (assumption log 15). -/
def hardBit : Soft → Bool
  | none => false
  | some v => decide (v < 0) || (v == 0 && Config.softTie)

/-- The hard decisions on a block of 32 bits. -/
def hardBlock (l : List Soft) : Nat := ofBitsLE (l.map hardBit)

/-- R566, R579: is the syndrome of the hard decisions zero? -/
def syndromeZero (rows : List (List (Nat × Nat))) (hard : List Nat) : Bool := rows.all (fun r => ldpcLambda hard r == 0)

/-- Min-sum of two messages: the smaller magnitude under the product of the signs. A certain 0 is neutral. -/
def minSum : Soft → Soft → Soft
  | none, b => b
  | a, none => a
  | some a, some b => some ((if decide (a < 0) == decide (b < 0) then 1 else -1) * Int.ofNat (min a.natAbs b.natAbs))

/-- R579: a magnitude scaled by 3/4. Message widths are the receiver's own: which way a fraction is rounded is not stated (assumption log 15). -/
def threeQuarters (m : Nat) : Nat := (3 * m + (if Config.softRoundsUp m then 3 else 0)) / 4

/-- R579: the message of a check to a bit from the min-sum over the other bits of the check. -/
def checkMessage : Soft → Int
  | none => 0
  | some v => if v < 0 then - Int.ofNat (threeQuarters v.natAbs) else Int.ofNat (threeQuarters v.natAbs)

/-- The 32 checks of a layer combined over some of its entries. -/
def combine : List (List Soft) → List Soft
  | [] => []
  | x :: xs => xs.foldl (List.zipWith minSum) x

/-- A block as the checks of a layer see it through shift `s`, and back (R566). -/
def turn (s : Nat) (l : List α) : List α := l.drop s ++ l.take s
def unturn (s : Nat) (l : List α) : List α := turn (32 - s) l

/-- R579: one layer: a base row with its messages of the iteration before; the soft values and messages after it. -/
def layer (post : List (List Soft)) (row : List (Nat × Nat)) (msgs : List (List Int)) : List (List Soft) × List (List Int) :=
  let seen := List.zipWith (fun e m => List.zipWith (fun (v : Soft) r => v.map (· - r)) (turn e.2 (post.getD e.1 [])) m) row msgs
  let new := (List.range row.length).map (fun i => (combine (seen.eraseIdx i)).map checkMessage)
  let sums := List.zipWith (List.zipWith (fun (v : Soft) r => v.map (· + r))) seen new
  ((List.zip row sums).foldl (fun p e => p.set e.1.1 (unturn e.1.2 e.2)) post, new)

/-- R579: one iteration: the layers in ascending order. -/
def layers : List (List (Nat × Nat)) → List (List (List Int)) → List (List Soft) → List (List Soft) × List (List (List Int))
  | r :: rs, m :: ms, post =>
    let a := layer post r m
    let b := layers rs ms a.1
    (b.1, a.2 :: b.2)
  | _, _, post => (post, [])

/-- R579, R580: the decoder: the syndrome before the first iteration and after each of the `n` that remain; `none` is a codeword that fails. -/
def softLoop (rows : List (List (Nat × Nat))) : Nat → List (List Soft) → List (List (List Int)) → Option (List Nat)
  | n, post, msgs =>
    let hard := post.map hardBlock
    if syndromeZero rows hard then some hard
    else match n with
      | 0 => none
      | n + 1 =>
        let a := layers rows msgs post
        softLoop rows n a.1 a.2

/-- `n` soft values, those that did not come without information. -/
def padSoft (n : Nat) (l : List Int) : List Int := l.take n ++ List.replicate (n - l.length) 0

/-- R570, R579: the soft values of a codeword from those of its sent bits, `k` of them information: shortened bits are certain zeros, punctured
ones carry no information. -/
def softBlocks (rate k : Nat) (sent : List Int) : List (List Soft) :=
  let info := (sent.take k).map some ++ List.replicate (ldpcK rate - k) none
  let parity := (padSoft (768 - ldpcK rate) (sent.drop k)).map some
  (List.range 24).map (fun j => ((info ++ parity).drop (32 * j)).take 32)

/-- R579: the `k` information bits of a codeword, or `none` where it fails. -/
def softDecode (rate k : Nat) (sent : List Int) : Option (List Bool) :=
  let rows := ldpcMatrix rate
  let zero := rows.map (fun r => List.replicate r.length (List.replicate 32 (0 : Int)))
  (softLoop rows 16 (softBlocks rate k sent) zero).map
    (fun hard => ((hard.take (ldpcCols rate)).flatMap (fun b => (List.range 32).map (fun t => bit b t))).take k)

/-- R573: the soft values of the coded stream from those of the scrambled one; a bit of which none came carries no information. -/
def unscramble (ch n : Nat) (soft : List Int) : List Int :=
  List.zipWith (fun v c => if c then -v else v) (padSoft n soft) (pn9 n (seedPayload ch))

/-- R565, R579, R580: the PSDU's bits, each codeword decoded; `none` where one of them fails. `n` bits remain. -/
def psduBits (rate : Nat) : Nat → Nat → List Int → Option (List Bool)
  | 0, _, _ => some []
  | w + 1, n, soft =>
    let k := min n (ldpcK rate)
    let sent := if w = 0 then k + parityBits rate k else 768
    match softDecode rate k (soft.take sent) with
    | none => none
    | some b => (psduBits rate w (n - k) (soft.drop sent)).map (b ++ ·)

/-- R578 to R580, R586: the payload of a PPDU of `len` bytes received on channel `ch` with these soft values of its scrambled stream, `none` where a
codeword or the CRC-32 fails. -/
def ppduDecode (ch rate len : Nat) (soft : List Int) : Option (List Nat) :=
  let n := 8 * (len + 4)
  match psduBits rate (codewords rate n) n (unscramble ch (codedBits rate len) soft) with
  | none => none
  | some u =>
    let psdu := bytesOfBits (len + 4) u
    if ofBytesLE (psdu.drop len) == crc32 (psdu.take len) then some (psdu.take len) else none

end Sys2Proof.Machine
end

