-- ==== Sys2Proof/Machine/LinkAir.lean ====
section
/-!
DEFINITION. What the link controller does with the air: the start and end of transmissions, receive windows, frames and their seven steps
(R610), delivery (R611), acknowledgements and retries (R612, R613), beacons (R598 to R600), soundings (R622), and cancels (R618).
-/

namespace Sys2Proof.Machine

/-! ### Attempts (R613, R618 to R620) -/

/-- The RETRIES of a LINK_TX as last prepared. -/
def State.retriesOf (s : State) (slot : Nat) : Nat := bits (s.job slot).block 5 3

/-- R613: an attempt of LINK_TX `slot` has failed: it is retried, or the attempts have run out. -/
def State.attemptFailed (s : State) (slot : Nat) (d : Disturb) : State :=
  let j := s.job slot
  let cancelled := ((s.slotAt slot).map (·.cancel)) == some true
  if j.attempts ≤ s.retriesOf slot && !cancelled then
    let v := s.free (min j.attempts 3)
    v.2.modJob slot (fun j => { j with skip := v.1 })
  else
    let asked := bit j.block 4 && !s.linkAny slot
    let s := s.when (asked && s.retriesOf slot < j.attempts) (fun s => s.nbrFlag (s.linkNbr slot) flagNoack)
    s.txDone slot stDone d 0x400

/-- R622: the SOUND_RX `slot` is finished. -/
def State.soundingDone (s : State) (slot : Nat) : State := (s.linkComplete slot stDone).raise LINK.SOUNDING_DONE

/-- R613, R622: an attempt at the SOUND_RESP of `slot` has failed: it is retried, or after 3 retries the SOUND_RX is finished all the same. -/
def State.responseFailed (s : State) (slot : Nat) : State :=
  let x := s.soundingOf slot
  if x.tries ≤ 3 then
    let v := s.free (min x.tries 3)
    v.2.setSounding slot { x with skip := v.1 }
  else (s.nbrFlag (s.linkNbr slot) flagNoack).soundingDone slot

/-- The attempt of the operation `op` has failed. -/
def State.opFailed (s : State) (op : LinkOp) (d : Disturb) : State :=
  match op with
  | .transmit slot => if s.linkOpcode slot = 0x42 then s else s.attemptFailed slot d
  | .soundResp slot => s.responseFailed slot
  | _ => s

/-- The buffer that holds the frame of the operation in progress. -/
def State.opBuf (s : State) : Option BufRef :=
  match s.link.cur with
  | none => none
  | some p => match p.op with
    | .transmit slot => p.buf.or (s.job slot).held
    | .soundResp slot => (s.soundingOf slot).held
    | _ => p.buf

/-- R234, R237, R290: a word of its buffer cannot be read as the frame is to leave: nothing is sent, and the descriptor completes ECC_ERROR. -/
def State.txSpoilt (s : State) (r : BufRef) (a : Nat) (d : Disturb) : State :=
  let op := s.curOp
  let s := (s.bufRecord r a).endOp
  match op with
  | some (.transmit slot) => s.txComplete slot stEcc d 0x400
  | some (.soundResp slot) => s.linkComplete slot stEcc
  | _ => s

/-- The ramp-up begins, with the frame as its buffer holds it. An attempt counts from here. -/
def State.rampUp (s : State) : State :=
  let s := match s.opBuf with
    | some r => s.modPhy (fun p => { p with frame := p.frame.map (fun f : AirFrame => { f with payload := s.bufBytes r }) })
    | none => s
  let s := s.phyStart
  match s.curOp with
  | some (.transmit slot) => s.modJob slot (fun j => { j with attempts := j.attempts + 1 })
  | some (.soundResp slot) => s.setSounding slot { s.soundingOf slot with tries := (s.soundingOf slot).tries + 1 }
  | _ => s

/-- R544, R619: the ramp-up begins, or the transmission is withheld. `d` may disturb the reads of the frame's buffer from number 0 on. -/
def State.txStart (s : State) (d : Disturb) : State :=
  if s.phy.op == .txReady && s.phy.frame.isSome && s.up .radio then
    if !s.on SUPPLY.PGOOD then s.withhold d
    else match s.opBuf with
      | some r => match s.bufFails r d 0 with
        | some a => s.txSpoilt r a d
        | none => s.rampUp
      | none => s.rampUp
  else s

/-- The sender listens for the acknowledgement of the frame it has sent. -/
def State.awaitAck (s : State) : State :=
  (s.modLink (fun l => { l with ackWait := true, rx := none })).modPhy (fun p => { p with op := .rxOpen, target := none })

/-- R618: a SOUND_TX whose cancel was asked for during an attempt completes at the attempt's end. -/
def State.soundSent (s : State) (slot : Nat) (d : Disturb) : State :=
  s.when (((s.slotAt slot).map (·.cancel)) == some true) (fun s => s.txDone slot stDone d 0x400)

/-- R598, R613, R622, R624: the last sample has left. -/
def State.txEnd (s : State) (d : Disturb) : State :=
  if s.phy.op == .txAir then
    let s := s.fire 0x79
    let acked := match s.phy.frame with
      | some f => fieldAck f.link
      | none => false
    match s.curOp with
    | some .beacon => (s.captureInputAt 4 624000).endOp
    | some (.soundResp _) => s.awaitAck
    | some (.transmit slot) =>
      if s.linkOpcode slot = 0x42 then (s.modJob slot (fun j => { j with sent := j.sent + 1 })).endOp.soundSent slot d
      else if acked then s.awaitAck
      else s.endOp.txDone slot stDone d 0x400
    | _ => s.endOp
  else s

/-! ### Receive windows (R551, R600, R635) -/

/-- R600: a receive descriptor is queued for the beacons of a scan. -/
def State.scanReady (s : State) : Bool :=
  s.linkScans && (s.linkHeads 0x31).any (fun k => s.linkOpcode k == 0x41 && s.linkAny k && s.slotTenant k == s.linkTid)

/-- R635: the network time at which the window of an operation opens, and at which it closes with nothing accepted. -/
def State.windowFrom (s : State) (p : Prep) : Nat :=
  max (s.schedule.start p.asn) (s.schedule.firstSample p.asn - 4000 * s.get LINK.RX_GUARD)
def State.windowUntil (s : State) (p : Prep) : Nat :=
  s.schedule.firstSample p.asn + 4000 * s.get LINK.RX_GUARD + (if p.robust then 128000 else 92000)

/-- Has network time come to `t` of the operation in progress? In a slot in which the time has stepped the moment is the event's (R590). -/
def State.slotTimeIs (s : State) (t : Prep → Nat) : Bool :=
  match s.link.cur with
  | some p => s.link.kept || decide (t p ≤ s.now)
  | none => true

/-- A window opens: that of the slot, or that of a scan. -/
def State.windowOpen (s : State) : State :=
  if !s.up .radio then s
  else if s.phy.op == .rxReady && s.slotTimeIs s.windowFrom then s.modPhy (fun p => { p with op := .rxOpen })
  else if s.phy.op == .idle && s.scanReady && s.chanOk (s.get LINK.SCAN_CH) then
    s.phySet .rxOpen (s.get LINK.SCAN_CH) true 0 none none
  else s

/-- A window in which nothing has been accepted closes. -/
def State.windowClose (s : State) : State :=
  if s.phy.op == .rxOpen && !s.link.ackWait && !s.scanReady && s.slotTimeIs s.windowUntil then s.endOp else s

/-- After a frame that was dropped or passed on, a scan goes on listening. -/
def State.afterFrame (s : State) : State :=
  if s.link.cur.isNone && s.scanReady then (s.modLink (fun l => { l with rx := none, taker := none, rxHeld := none })).phyDrop else s.endOp

/-! ### Who takes a frame (R602, R603, Table 15.9) -/

/-- R602: is the frame addressed to this node? -/
def State.addressed (s : State) (l : Nat) : Bool :=
  fieldDst l == s.get LINK.SHORT % 128 || (fieldDst l == 0x7F && fieldType l ≤ 1)

/-- The entry of the slot in progress; that of no slot acts as OFF. -/
def State.slotNow (s : State) : Nat := (s.link.cur.map (·.entry)).getD 0

/-- R603: does the frame count without an entry for its sender? -/
def State.strangerOk (s : State) (l : Nat) : Bool :=
  (fieldType l == 3 && s.on LINK.ROLE && s.on LINK.JOIN_ACCEPT) || (fieldType l == 4 && !s.on LINK.ROLE && s.get LINK.SHORT == 0xFFFE) ||
    (fieldType l == 1 && s.linkScans)

/-- R603: is the frame's sender one whose frames count here? In an RX slot only the slot's NBR is. -/
def State.senderOk (s : State) (l : Nat) : Bool :=
  let e := s.slotNow
  let known := s.findSender (fieldSrc l)
  (known.isSome || s.strangerOk l) && !(entryType e == 2 && !(s.on (LINK.NBR_EN (entryNbr e)) && s.nbrShort (entryNbr e) == fieldSrc l))

/-- Table 15.9: may receive head `k` take a frame with this LINK field in the slot in progress? -/
def State.takes (s : State) (l k : Nat) : Bool :=
  let e := s.slotNow
  let page := s.slotTenant k == s.linkTid
  let lrx := s.linkOpcode k == 0x41
  if fieldType l = 5 then entryType e == 2 && s.linkOpcode k == 0x43 && s.linkNbr k == entryNbr e
  else if !lrx then false
  else if s.linkScans then fieldType l == 1 && s.linkAny k && page
  else if entryType e = 2 then s.linkAny k || s.linkNbr k == entryNbr e
  else if entryType e = 3 then
    if fieldType l = 3 || fieldType l = 4 then s.linkAny k && page
    else match s.findSender (fieldSrc l) with
      | some n => s.owner tblNbr n == s.slotTenant k && (s.linkAny k || s.linkNbr k == n)
      | none => false
  else if entryType e = 4 then s.linkAny k && page
  else false

/-- R610, steps 2 to 4: the receive descriptor that takes a frame with this LINK field. -/
def State.takerOf (s : State) (l : Nat) : Option Nat :=
  if fieldType l != 7 && s.addressed l && s.senderOk l then (s.linkHeads 0x31).find? (fun k => s.takes l k) else none

/-- The frame being received is taken, or not received: 32 buffers hold no further frame. Its buffer is held for the owner of the receive descriptor,
that of an acknowledgement for the LINK page owner (R596). -/
def State.takeFrame (s : State) (l : Nat) : Option State :=
  if s.link.ackWait then (s.bufTake s.linkTid).map (fun b => b.1.modLink (fun x => { x with rxHeld := some b.2 }))
  else match s.takerOf l with
    | none => none
    | some k => (s.bufTake (s.slotTenant k)).map (fun b =>
        (b.1.linkActivate k).modLink (fun x => { x with taker := some k, rxHeld := some b.2 }))

/-- R581: the payload of the frame being received goes into its buffer. -/
def State.rxStore (s : State) (payload : List Nat) : State :=
  match s.link.rxHeld with
  | some r =>
    let b := s.bufPut r payload
    b.1.modLink (fun l => { l with rxHeld := some b.2 })
  | none => s

/-- The frame passed on, with the payload that its buffer holds. -/
def State.rxWhole (s : State) : Option RxFrame :=
  s.link.rx.map (fun x => { x with frame := { x.frame with payload := (s.link.rxHeld.map s.bufBytes).getD [] } })

/-- The frame is held for another tenant (R618). -/
def State.rxHandOver (s : State) (t : Nat) : State :=
  match s.link.rxHeld with
  | some r =>
    let b := s.bufPut { r with tenant := t } (s.bufBytes r)
    b.1.modLink (fun l => { l with rxHeld := some b.2 })
  | none => s

/-! ### The PHY's events (R535, R539, R549, R578) -/

/-- The words of a map and an error met in reading them (R234). -/
def State.mapFails (s : State) (m : Nat) (d : Disturb) : Option Nat :=
  (List.range 5).findSome? (fun w => if s.mapWordBad m w || (disturbAt d w).ecc then some (mapAddr m + 4 * w) else none)

/-- R535, R539, R542: a header is decided. -/
def State.headerReceived (s : State) (h : Nat) (d : Disturb) : State :=
  if s.phy.op == .rxSync && !s.phy.robust then
    let f := headerFrame h
    let codes := s.ppduCodes f.map
    if !headerOk h then s.phyDrop
    else match (if s.phy.target = some f.map then none else s.mapFails f.map d) with
    | some a => ((s.setEcc a).eccRecord s.linkTid a 0x40).phyDrop
    | none =>
      if !ofdmHeaderOk h codes then s.phyDrop
      else match s.takeFrame f.link with
        | none => s.phyDrop
        | some s =>
          let s := s.modPhy (fun p => { p with op := .rxHeader, frame := some f, codes := codes, header := h })
          if bits h 9 11 = 0 then (s.modLink (fun l => { l with rx := some (s.rxFrame f) })).modPhy (fun p => { p with op := .idle }) else s
  else s

/-- The bytes of a PSDU as the decoder output register passes them on: a fault in the gap behind the CRC-32 changes one of them (R291, Table 7.6). -/
def gapHit (payload : List Nat) : Option (Fin 1024 × Byte) → List Nat
  | some h => payload.modify h.1.val (fun b => b ^^^ h.2.toNat)
  | none => payload

/-- R579 to R581: the payload of a PPDU is decoded from the soft values of its scrambled stream: passed on when every codeword converges and the
CRC-32 passes, else dropped. `hit` is a fault behind that check. -/
def State.ppduDecoded (s : State) (soft : List Int) (hit : Option (Fin 1024 × Byte)) : State :=
  if s.phy.op == .rxHeader then
    match s.phy.frame, ppduDecode s.phy.chan (bits s.phy.header 7 2) (bits s.phy.header 9 11) soft with
    | some f, some payload =>
      ((s.rxStore (gapHit payload hit)).modLink (fun l => { l with rx := some (s.rxFrame f) })).modPhy (fun p => { p with op := .idle })
    | some _, none => (s.modLink (fun l => { l with taker := none, rxHeld := none })).phyDrop
    | none, _ => s.phyDrop
  else s

/-- The frame in a robust payload: LINK field with bits 31:28 at 0, then the rest (R601). -/
def frameOfRobust (payload : List Nat) : Option AirFrame :=
  let l := ofBytesLE (payload.take 4)
  if payload.length < 4 || 2 ^ 28 ≤ l then none else some ⟨true, l, 0, 0, payload.drop 4⟩

/-- R549, R601: a robust frame has ended. -/
def State.robustReceived (s : State) (air : List Bool) : State :=
  if s.phy.op == .rxSync && s.phy.robust then
    match (robustDecode s.phy.chan air).bind frameOfRobust with
    | none => s.phyDrop
    | some f =>
      match s.takeFrame f.link with
      | none => s.phyDrop
      | some s =>
        let g := { f with payload := [] }
        ((s.rxStore f.payload).modLink (fun l => { l with rx := some (s.rxFrame g) })).modPhy (fun p => { p with op := .idle, frame := some g })
  else s

/-! ### Delivery (R610, R611) -/

/-- Table 15.10: the report. -/
def rxReport (l : Nat) (robust : Bool) (nbr : Option Nat) (trunc : Bool) (n rssi chan seq sync : Nat) : List Nat :=
  bytesLE 4 (fieldSrc l + nbr.getD 0 * 2 ^ 16 + ofBool nbr.isSome * 2 ^ 22 + fieldType l * 2 ^ 23 + ofBool (fieldSec l) * 2 ^ 26 +
    ofBool trunc * 2 ^ 27 + ofBool robust * 2 ^ 28 + ofBool (fieldDst l == 0x7F) * 2 ^ 29) ++
  bytesLE 4 (n % 2048 + rssi % 256 * 2 ^ 16 + chan % 32 * 2 ^ 24) ++ bytesLE 4 seq ++ bytesLE 4 sync

/-- The sender's entry takes SEQ and RSSI. -/
def State.senderSeen (s : State) (nbr : Option Nat) (seq : Option Nat) (rssi : Nat) : State :=
  match nbr with
  | none => s
  | some e =>
    let s := match seq with
      | some q => s.setNbr e 3 q
      | none => s
    s.nbrRssi e rssi

/-- A frame that has passed all seven steps is delivered to receive descriptor `k`. -/
def State.deliverFrame (s : State) (x : RxFrame) (k : Nat) (nbr : Option Nat) (seq : Option Nat) (plain : List Nat) (d : Disturb) : State :=
  let l := x.frame.link
  let t := s.slotTenant k
  let room := bits (s.descWord k 4) 0 16 - 16
  let body := plain.take room
  let s := s.senderSeen nbr seq x.rssi
  let report := rxReport l x.frame.robust nbr (decide (room < plain.length)) body.length x.rssi x.chan (seq.getD 0) (x.sync % 2 ^ 32)
  let w := s.linkOut t (s.descWord k 3) (report ++ body) d 0
  let st := match w.2 with
    | none => stDone
    | some q => if failStatus q = 0 then stDone else failStatus q
  let s := (w.1.linkComplete k st).when (fieldType l == 3 || fieldType l == 4) (fun s => s.raise LINK.JOIN_RX)
  s.fire 0x7A

/-- R234: records of the entries in use that cannot be read, met in the search for a sender. -/
def State.noteBadEntries (s : State) : State :=
  (List.range 64).foldl (fun st e => st.when (st.on (LINK.NBR_EN e) && st.nbrBad e) (fun st => st.nbrRecord e)) s

/-- R612: the acknowledgement of a frame is owed. -/
def State.oweAck (s : State) (x : RxFrame) (nbr : Option Nat) : State :=
  let l := x.frame.link
  if fieldAck l && fieldDst l != 0x7F then
    let f : AirFrame := ⟨x.frame.robust, linkField 2 false false (s.get LINK.SHORT) (fieldSrc l % 128), x.frame.map, x.frame.rate, []⟩
    let pwr := match nbr with
      | some e => s.nbrPwr e
      | none => s.get RFPHY.PWR
    s.modLink (fun y => { y with ackOwed := some (f, pwr) })
  else s

/-- What steps 5 to 7 of R610 come to: the frame is dropped, or it is accepted with its SEQ and plaintext. -/
def State.securitySteps (s : State) (x : RxFrame) (nbr : Option Nat) : State × Option (Option Nat × List Nat) :=
  let l := x.frame.link
  let seq := ofBytesLE (x.frame.payload.take 4)
  match nbr with
  | none => if fieldSec l then (s.oweAck x nbr, none) else (s.oweAck x nbr, some (none, x.frame.payload))
  | some e =>
    if s.nbrSecReq e && !fieldSec l then (s.nbrFlag e flagUnsec, none)
    else if !fieldSec l then (s.oweAck x nbr, some (none, x.frame.payload))
    else if seq < s.nbr e 3 then
      ((s.nbrFlag e flagReplay).fault (s.owner tblNbr e) causeReplay 0 (s.owner tblNbr e) e 0x40, none)
    else if seq = s.nbr e 3 then ((s.nbrFlag e flagDup).oweAck x nbr, none)
    else
      let s := s.oweAck x nbr
      match s.frameKey (fieldDst l == 0x7F || fieldType l == 4) e with
      | none => (s, none)
      | some key =>
        match openPayload key (linkNonce (s.nbr e 1) (s.nbr e 2) seq) l x.frame.payload with
        | some plain => (s, some (some seq, plain))
        | none => (s.nbrFlag e flagAuth, none)

/-- The received frame has been dealt with: its acknowledgement is sent next, or the slot's operation ends. -/
def State.frameHandled (s : State) : State :=
  let s := s.modLink (fun l => { l with rx := none, taker := none, rxHeld := none })
  if s.link.ackOwed.isSome then s else s.afterFrame

/-- R234, R237, R290: a word of the buffer, or of the descriptor that takes the frame, cannot be read: its record is written, and the descriptor
completes ECC_ERROR. `d` may disturb the reads of the buffer from number 0x500 on. -/
def State.rxSpoilt (s : State) (k : Nat) (d : Disturb) : Option State :=
  if (s.descBad k [0, 2, 3, 4]).isSome then some ((s.descRead k [0, 2, 3, 4] 0x40).linkComplete k stEcc).frameHandled
  else match s.link.rxHeld with
  | some r => (s.bufFails r d 0x500).map (fun a => ((s.bufRecord r a).linkComplete k stEcc).frameHandled)
  | none => none

/-- R610 for the frame passed on, of a type in `types`: steps 5 to 7, and `act` on an accepted frame. -/
def State.receiveFrame (s : State) (ok : Nat → Bool) (d : Disturb)
    (act : State → RxFrame → Nat → Option Nat → Option Nat → List Nat → State) : State :=
  match s.rxWhole, s.link.taker with
  | some x, some k =>
    if s.link.ackWait || !ok (fieldType x.frame.link) || (s.slotAt k).isNone then s
    else match s.rxSpoilt k d with
    | some t => t
    | none =>
      let s := s.noteBadEntries
      let nbr := s.findSender (fieldSrc x.frame.link)
      let r := s.securitySteps x nbr
      match r.2 with
      | none => r.1.frameHandled
      | some (seq, plain) => (act r.1 x k nbr seq plain).frameHandled
  | _, _ => s

/-- Is the frame passed on one of the beacons that R599 and R600 treat? -/
def State.beaconHere (s : State) : Bool := s.linkScans || (entryType s.slotNow == 4 && !s.on LINK.ROLE)

/-- LINK_FRAME_RECEIVED: DATA, JOIN_REQ and JOIN_RESP, beacons outside BEACON slots, and acknowledgements that nobody waits for. -/
def State.linkFrame (s : State) (d : Disturb) : State :=
  s.receiveFrame (fun t => t == 0 || t == 2 || t == 3 || t == 4 || (t == 1 && !s.beaconHere)) d
    (fun s x k nbr seq plain => s.deliverFrame x k nbr seq plain d)

/-! ### Soundings (R622) -/

/-- SOUND_REQ_RECEIVED: the proposal in map m joins the running minimum; after N of them map m is written and the SOUND_RESP owed. -/
def State.soundRequest (s : State) (d : Disturb) : State :=
  s.receiveFrame (fun t => t == 5) d (fun s x k nbr _ _ =>
    let m := s.soundMap k
    let s := s.senderSeen nbr none x.rssi
    if x.frame.map != m then s
    else
      let y := s.soundingOf k
      if y.owed then s
      else
        let codes := List.zipWith min y.codes (s.mapCodes m)
        if 1 < y.left then s.setSounding k { y with left := y.left - 1, codes := codes }
        else
          let low := codes.map (fun c => c - bits (s.descWord k 2) 16 2)
          (s.setMap m low).setSounding k { y with left := 0, codes := low, owed := true })

/-- The SOUND_TX to entry `e` that waits for a SOUND_RESP on map `m`. -/
def State.soundWaiting (s : State) (e m : Nat) : Option Nat :=
  (s.linkHeads 0x30).find? (fun k => s.linkOpcode k == 0x42 && ((s.slotAt k).map (·.state)) == some 3 && s.linkNbr k == e && s.soundMap k == m)

/-- SOUND_RESP_RECEIVED: the frame is delivered; a SOUND_TX on its map sets map and entry, and is finished. -/
def State.soundResponse (s : State) (d : Disturb) : State :=
  s.receiveFrame (fun t => t == 6) d (fun s x k nbr seq plain =>
    let s := s.deliverFrame x k nbr seq plain d
    let m := nth plain 0 % 32
    match nbr with
    | none => s
    | some e =>
      match s.soundWaiting e m with
      | none => s
      | some k =>
        let s := s.setMap m (codesOf ((plain.drop 2).take 18))
        let s := s.nbrChange e 0 (fun v => setBits (setBits (setBits v 24 5 m) 22 2 (nth plain 1 % 4)) 17 1 1)
        (s.nbrFlag e flagSound).soundingDone k)

/-! ### Acknowledgements (R612, R613, R619) -/

/-- ACK_SEND: 64 µs after the frame the ACK leaves, or is withheld. -/
def State.ackSend (s : State) : State :=
  match s.link.ackOwed with
  | none => s
  | some (f, pwr) =>
    if !s.up .radio then s
    else if !s.on SUPPLY.PGOOD then (s.raise LINK.LOW_ENERGY).endOp
    else
      let s := ((s.ownFrame f.payload).phySet .txReady s.phy.chan f.robust pwr (some f) none).modLink
        (fun l => { l with ackOwed := none, rx := none, taker := none, rxHeld := none })
      s.phyStart

/-- R613: is the frame passed on the acknowledgement of the frame sent by `op`? -/
def State.ackFits (s : State) (l : Nat) (op : LinkOp) : Bool :=
  fieldType l == 2 && fieldDst l == s.get LINK.SHORT % 128 && (match op with
    | .transmit slot => bits (s.job slot).block 0 3 == 4 || fieldSrc l == s.nbrShort (s.linkNbr slot)
    | .soundResp slot => fieldSrc l == s.nbrShort (s.linkNbr slot)
    | _ => false)

/-- R610: an acknowledgement whose SRC names an entry updates that entry's RSSI. -/
def State.ackSeen (s : State) (x : RxFrame) : State :=
  match s.findSender (fieldSrc x.frame.link) with
  | some e => s.when (fieldType x.frame.link == 2) (fun s => s.nbrRssi e x.rssi)
  | none => s

/-- ACK_RECEIVED. A frame that is not the acknowledgement awaited is dropped, and the sender goes on listening. -/
def State.ackReceived (s : State) (d : Disturb) : State :=
  match s.link.rx, s.link.cur with
  | some x, some p =>
    if !s.link.ackWait then s
    else if !s.ackFits x.frame.link p.op then ((s.ackSeen x).modLink (fun l => { l with rx := none, rxHeld := none })).phyDrop
    else
      let s := s.endOp.ackSeen x
      match p.op with
      | .transmit slot => (s.jobFlags slot 1).txDone slot stDone d 0x400
      | .soundResp slot => s.soundingDone slot
      | _ => s
  | _, _ => s

/-- ACK_TIMEOUT: no acknowledgement has come. -/
def State.ackTimeout (s : State) (d : Disturb) : State :=
  match s.link.cur with
  | some p => if s.link.ackWait then s.endOp.opFailed p.op d else s
  | none => s

/-! ### Beacons (R598 to R600) -/

/-- The beacon's time in ns, its ASN, and the schedule it carries. -/
def beaconTime (b : List Nat) : Nat := ofBytesLE (b.take 6) * nsPerSec + ofBytesLE ((b.drop 6).take 4) % 2 ^ 30
def beaconAsn (b : List Nat) : Nat := ofBytesLE ((b.drop 10).take 5)
def beaconHops (b : List Nat) : List Nat := (List.range 19).map (fun i => bits (ofBytesLE ((b.drop 19).take 12)) (5 * i) 5)

/-- R599: does the schedule of a beacon differ from the node's own in the slot with this ASN? -/
def State.beaconDiffers (s : State) (n : Nat) (b : List Nat) : Bool :=
  let c := s.ownSched
  beaconAsn b != n || nth b 15 != c.slotLen || nth b 16 != c.txOff || nth b 17 != c.hopLen ||
    (beaconHops b).take c.hopLen != c.hops.take c.hopLen

/-- R599, R600: is the frame passed on a beacon that this node accepts? -/
def State.beaconOk (s : State) (x : RxFrame) : Bool :=
  let e := entryNbr s.slotNow
  fieldType x.frame.link == 1 && x.frame.payload.length == 31 && s.beaconHere &&
    (s.linkScans || (s.on (LINK.NBR_EN e) && s.nbrShort e == fieldSrc x.frame.link))

/-- A beacon is accepted: delivered, and its time passed to the servo. -/
def State.beaconTaken (s : State) (x : RxFrame) (k : Nat) (d : Disturb) : State :=
  let l := x.frame.link
  let b := x.frame.payload
  let s := s.raise LINK.BEACON_RX_EVT
  let s := s.when (!s.linkScans && s.beaconDiffers ((s.link.cur.map (·.asn)).getD 0) b) (fun s => s.put LINK.SCHED_DIFF 1)
  let s := s.modLink (fun y => { y with beaconDue := false })
  let s := s.deliverFrame x k (s.findSender (fieldSrc l)) none b d
  s.servoSample 2 (Int.ofNat (beaconTime b) - Int.ofNat x.sync) (fieldSrc l)

/-- BEACON_RX. -/
def State.beaconReceived (s : State) (d : Disturb) : State :=
  match s.rxWhole, s.link.taker with
  | some x, some k =>
    if s.linkScans && s.on LINK.ADOPT then s
    else if s.beaconOk x then (s.rxSpoilt k d).getD (s.beaconTaken x k d).frameHandled
    else if fieldType x.frame.link = 1 && s.beaconHere then s.frameHandled else s
  | _, _ => s

/-- R600: the schedule of a beacon is adopted. -/
def State.adopt (s : State) (b : List Nat) : State :=
  let old := s
  let s := ((s.putLegal LINK.SLOT_LEN (nth b 15)).putLegal LINK.TX_OFFSET (nth b 16)).putLegal LINK.HOP_LEN (nth b 17)
  let s := ((beaconHops b).zipIdx).foldl (fun st e => st.putLegal (LINK.HOP e.2) e.1) s
  let epoch : Int := Int.ofNat (beaconTime b) - 4000 * Int.ofNat (nth b 16) - 128000 - Int.ofNat (beaconAsn b * (250000 * nth b 15))
  let sec := ofSigned 48 (Int.fdiv epoch nsPerSec)
  let s := ((s.put LINK.EPOCH_SEC_LO sec).put LINK.EPOCH_SEC_HI (sec / 2 ^ 32)).put LINK.EPOCH_NS (Int.fmod epoch nsPerSec).toNat
  ((s.put LINK.SCAN 0).put LINK.ADOPT 0).linkFollow old

/-- SCAN_BEACON_ADOPT. -/
def State.scanAdopt (s : State) (d : Disturb) : State :=
  match s.rxWhole, s.link.taker with
  | some x, some k =>
    if s.linkScans && s.on LINK.ADOPT && s.beaconOk x then
      (s.rxSpoilt k d).getD (((s.beaconTaken x k d).frameHandled).adopt x.frame.payload)
    else s
  | _, _ => s

/-- BEACON_MISSED. -/
def State.beaconMissed (s : State) : State :=
  if s.link.beaconDue then (s.modLink (fun l => { l with beaconDue := false })).raise LINK.BEACON_MISSED_EVT else s

/-! ### PLL loss and calibration (R554, R620, R621) -/

/-- PLL_UNLOCK. -/
def State.pllUnlock (s : State) (d : Disturb) : State :=
  if s.phy.op == .idle || !s.up .radio then s
  else
    let was := s.phy.op
    let cur := s.curOp
    let waits := s.link.ackWait
    let s := (s.put RFPHY.PLL_LOCK 0).raise RFPHY.PLL_UNLOCK
    if was == .cal then (s.endOp).calDue
    else
      let s := s.endOp
      match cur with
      | some (.transmit slot) =>
        if was == .txAir && s.linkOpcode slot = 0x42 then s.soundSent slot d
        else if was == .txAir then (s.jobFlags slot 2).opFailed (.transmit slot) d
        else if waits then s.opFailed (.transmit slot) d else s
      | some (.soundResp slot) => if was == .txAir || waits then s.opFailed (.soundResp slot) d else s
      | _ => s

/-- RF_CAL_TAKEOVER: the calibration of the slot starts; with no schedule in force any idle time is one. It interrupts no PPDU and no receive window
(R556). -/
def State.calTakeover (s : State) : State :=
  let slot := match s.link.cur with
    | some p => p.op == .calibration && s.phy.op == .idle
    | none => !s.linkRuns && s.phy.op == .idle && s.link.ackOwed.isNone && s.link.rx.isNone
  if s.up .radio && s.calWaits && slot then s.calStart else s

/-- CAL_DONE. -/
def State.calDone (s : State) : State := if s.phy.op == .cal then s.calEnd.modLink (fun l => { l with cur := none }) else s

/-! ### Cancels (R618, R338) -/

/-- A cancel asked for at an ACTIVE link descriptor acts. -/
def State.cancelActs (d : Disturb) (s : State) (slot : Nat) : State :=
  let asked := ((s.slotAt slot).map (·.cancel)) == some true
  if !s.linkActive slot || !asked then s
  else if bits (s.descWord slot 0) 8 6 = 0x30 then
    if s.inAttempt slot && (s.phy.op == .txAir || s.link.ackWait) then s
    else (s.when (s.inAttempt slot) State.endOp).txComplete slot stCancelled d 0x400
  else
    let took := s.link.taker == some slot
    let owes := s.inAttempt slot && (s.phy.op == .txAir || s.link.ackWait)
    let s := s.linkComplete slot stCancelled
    if took then
      match (s.link.rx.map (·.frame)).or s.phy.frame with
      | some f =>
        match s.takerOf f.link with
        | some k => ((s.linkActivate k).rxHandOver (s.slotTenant k)).modLink (fun l => { l with taker := some k })
        | none => if s.link.rx.isSome then s.frameHandled else s.phyDrop
      | none => s
    else if owes then s.modLink (fun l => { l with cur := l.cur.map Prep.disown })
    else s.when (s.curOp == some (.soundResp slot)) State.endOp

/-- The cancels asked for since the last command act on the link descriptors; `d` may disturb their reports from number 0x400 on. -/
def State.linkSweepBy (s : State) (d : Disturb) : State :=
  ((s.q.slots.filter (fun e => e.2.cancel && e.2.state == 3)).map (·.1)).foldl (State.cancelActs d) s

/-- The same, undisturbed (assumption log 28). -/
def State.linkSweep (s : State) : State := s.linkSweepBy ⟨0, Upset.none⟩

end Sys2Proof.Machine
end

