-- ==== Sys2Proof/Machine/Bus.lean ====
section
/-!
DEFINITION. The accesses that commands spell: register reads and writes by a master, the harts' loads and stores with the posting buffer
(R235 to R245), LR, SC and the AMOs (R313), and the passing of time (assumption log 5). Fetches stand in HartRun.lean, the debug module's
accesses in DebugModule.lean.
-/

namespace Sys2Proof.Machine

/-! ### Register commands -/

/-- R338, R618: a cancel asked for by a write of QMGR_CANCEL acts at the link controller. -/
def State.cancelSwept (s : State) (a : Nat) : State := s.when (a / 4 * 4 == pageAddr 0xE 0x24) State.linkSweep

/-- A write by a master with its record; a cancel that it asks for acts at the link controller. -/
def State.busWrite (s : State) (m : Master) (tid a n v : Nat) (u : Upset) : State × Res :=
  let r := s.busPut m tid a n v u
  (r.1.cancelSwept a, r.2)

/-- The command "master `m` writes the `n` bytes `v` at `a`". -/
def State.cmdWrite (s : State) (m : Master) (a n v : Nat) : State := (s.busWrite m (s.tidOf m) a n v Upset.none).1

/-- The same for a watchdog service, `us` after the window began. -/
def State.cmdService (s : State) (m : Master) (a v us : Nat) : State :=
  (State.noted (s.writeAt m (s.tidOf m) a 4 v Upset.none (some us)) m).1

/-- The command "master `m` reads the `n` bytes at `a`"; an access that waits for its island gives no answer yet. -/
def State.cmdRead (s : State) (m : Master) (a n : Nat) (u : Upset) : State :=
  let r := s.busRead m (s.tidOf m) a n u
  if r.2.waits then s else r.1.reply r.2.value

/-! ### Loads (R234, R241) -/

/-- `v` of `n` bytes as a load puts it into a register. -/
def extended (n v : Nat) (signed : Bool) : Word := BitVec.ofNat 32 (if signed then ofSigned 32 (toSigned (8 * n) v) else v)

/-- The own FAULTn page of hart `n`. -/
def ownFaultPage (n a : Nat) : Bool := within (pageAddr (6 + n) 0) 0x1000 a

/-- R241, R243: does a load wait for posted stores of the hart? Reads of its own FAULTn page do not wait for held ones. -/
def State.loadWaits (s : State) (n a : Nat) : Bool :=
  (s.hart n).posts.any (fun p => p.island == islandAt a && !(p.held && ownFaultPage n a))

/-- The hart with the value of a load in its register; numbers from 32 on are the f registers. -/
def State.loaded (s : State) (n rd : Nat) (v : Word) : State :=
  s.modHart n (fun h => if rd < 32 then h.setReg rd v else { h with f := vput h.f (rd - 32) v }.fsDirty)

/-- Has hart `n` f registers, and are they enabled by mstatus.FS? -/
def State.fpOn (s : State) (n : Nat) : Bool := n != 0 && bits ((s.hart n).csrAt csrMstatus) 13 2 != 0

/-- A load by hart `n`. -/
def State.hartLoad (s : State) (n : Fin 4) (rd a k : Nat) (signed : Bool) (u : Upset) : State :=
  s.execute n (fun s =>
    if 32 ≤ rd && !s.fpOn n then s.trap n excIllegal (s.hart n).ir.toNat
    else if a % k != 0 then s.trap n excLoadAlign a
    else if !(s.hart n).pmpAdmits n ((s.hart n).dataUser n) a k 0 then s.trap n excLoadFault a
    else if s.loadWaits n a then s
    else if a / 4 * 4 = pageAddr (6 + n) 0x2C && s.postsWait n then
      s.modHart n (fun h => { h with fencing := true, fenceTo := some (rd, a % 4, k, signed) })
    else
      let r := s.busRead (.hart n) n a k u
      if r.2.waits then s else (r.1.loaded n rd (extended k r.2.value signed)).retire n)

/-! ### Stores (R238 to R245) -/

/-- A store that alignment and PMP admit goes on with `f`. -/
def State.storeChecked (s : State) (n a k : Nat) (f : State → State) : State :=
  if a % k != 0 then s.trap n excStoreAlign a
  else if !(s.hart n).pmpAdmits n ((s.hart n).dataUser n) a k 1 then s.trap n excStoreFault a
  else f s

/-- R238: a store within the hart's own island. -/
def State.storeLocal (s : State) (n : Fin 4) (a k v : Nat) (u : Upset) : State :=
  if islandAt a != hartIsland n then s
  else s.execute n (fun s => s.storeChecked n a k (fun s =>
    let r := s.busWrite (.hart n) n a k v u
    if r.2.waits then s else r.1.retire n))

/-- R238 to R240, R243: a store outside the hart's own island enters the posting buffer, unless the hart stalls. -/
def State.postStore (s : State) (n : Fin 4) (a : Nat) (w : Width) (v : Word) : State :=
  if islandAt a == hartIsland n then s
  else s.execute n (fun s => s.storeChecked n a (widthBytes w) (fun s =>
    if s.on (FAULT.HELD n) || 64 ≤ (s.hart n).posts.length then s
    else
      let tag := (s.get (FAULT.LAST_TAG n) + 1) % 4096
      ((s.put (FAULT.LAST_TAG n) tag).modHart n (fun h => { h with posts := h.posts ++ [⟨a, w, v, tag, islandAt a, false, false⟩] })).retire n))

/-- The posts left when the first of island `i` that is not held is taken out. -/
def dropPost (i : Island) : List Posted → List Posted
  | [] => []
  | p :: l => if p.island == i && !p.held then l else p :: dropPost i l

/-- R243: all but the first `left` posts that had not been held stay in the buffer. -/
def holdPosts : Nat → List Posted → List Posted
  | _, [] => []
  | left, p :: l =>
    if p.held then p :: holdPosts left l
    else match left with
      | 0 => { p with held := true } :: holdPosts 0 l
      | k + 1 => p :: holdPosts k l

/-- R242, R243, R53: a posted store of hart `n` has failed; `left` of the later ones had left the buffer. -/
def State.postFailed (s : State) (n : Nat) (p : Posted) (f : Fail) (left : Nat) : State :=
  let byTid := f.cause = causeParity && bit f.ext 0
  let stops := !byTid && (s.on (FAULT.STOP_ON_POST n) || s.on (FAULT.HELD n))
  let first := stops && !s.on (FAULT.HELD n)
  let s := s.record (if byTid then 0 else f.tid)
    ⟨recWord0 f.cause f.detail f.tid true, f.addr % 2 ^ 32, recWord2 n f.ext p.tag, s.tick32, stops⟩
  let s := (s.raise (FAULT.POSTED_ERR n)).modPost n (fun q => { q with failed := q.failed || !p.fenced })
  let s := s.when stops (fun s => s.put (FAULT.HELD n) 1)
  let s := s.when first (fun s => s.modHart n (fun h => { h with posts := holdPosts left h.posts }))
  s.when (first && s.power.phase == .draining) (fun s => s.refuseEntry 9)

/-- R241, R242: the oldest posted store of hart `n` to island `i` that is not held is judged at its target. -/
def State.postDone (s : State) (n : Fin 4) (i : Island) (left : Nat) (u : Upset) : State :=
  match (s.hart n).posts.find? (fun p => p.island == i && !p.held) with
  | none => s
  | some p =>
    let r := s.writeAt (.hart n) n p.addr (widthBytes p.width) p.data.toNat u none
    if r.2.waits then s
    else
      let t := (r.1.modHart n (fun h => { h with posts := dropPost i h.posts }))
      match r.2.failure with
      | some f => t.postFailed n p f left
      | none => t.cancelSwept p.addr

/-- R244: a read of FAULTn_FENCE; one by Hn waits for its posted stores. -/
def State.fenceRead (s : State) (m : Master) (n : Fin 4) : State :=
  if m == .hart n && s.postsWait n then s.execute n (fun s => s.modHart n (fun h => { h with fencing := true, fenceTo := none }))
  else s.cmdRead m (pageAddr (6 + n) 0x2C) 4 Upset.none

/-- R244: the fence read of Hn returns. -/
def State.fenceReturn (s : State) (n : Fin 4) : State :=
  let h := s.hart n
  if !h.fencing || s.postsWait n then s
  else
    let r := s.fenceWord n true
    let s := (r.1.modHart n (fun h => { h with fencing := false, fenceTo := none })).reply r.2
    match h.fenceTo with
    | some (rd, lane, k, signed) => (s.loaded n rd (extended k (bits r.2 (8 * lane) (8 * k)) signed)).retire n
    | none => s.retire n

/-! ### LR, SC and the AMOs (R313) -/

/-- R313: the places of LR, SC and AMOs: main SRAM and the hart's own TCM. -/
def atomicAt (a : Nat) : Bool := within 0x20000000 0x100000 a || within 0x28000000 0x8000 a

/-- The stored address of a hart's word. -/
def ownWord (n : Fin 4) (a : Nat) : Nat := match placeOf (.hart n) a with
  | some (.mem p) => p
  | _ => a

/-- An LR, SC or AMO of hart `n`: hart M has no A extension; `align` and `fault` are its exceptions, `rights` what PMP must admit. -/
def State.atomic (s : State) (n : Fin 4) (a align fault : Nat) (rights : List Nat) (f : State → State) : State :=
  s.execute n (fun s =>
    if n.val = 0 then s.trap n excIllegal 0
    else if a % 4 != 0 then s.trap n align a
    else if !(rights.all (fun r => (s.hart n).pmpAdmits n ((s.hart n).dataUser n) a 4 r)) then s.trap n fault a
    else if !atomicAt a then s.trap n excStoreFault a
    else f s)

/-- LR. -/
def State.loadReserved (s : State) (n : Fin 4) (rd a : Nat) (u : Upset) : State :=
  s.atomic n a excLoadAlign excLoadFault [0] (fun s =>
    let r := s.busRead (.hart n) n a 4 u
    if r.2.waits then s
    else ((r.1.loaded n rd (BitVec.ofNat 32 r.2.value)).modHart n (fun h =>
      { h with resv := if r.2.done then some (ownWord n a) else none })).retire n)

/-- The result of an SC whose reservation stood: 0 where its store was performed. A store that the far side refuses gives an unstated value. -/
def State.conditional (s : State) (n rd : Nat) (done : Bool) : State :=
  if done then s.loaded n rd 0
  else
    let x := s.free 32
    x.2.loaded n rd (BitVec.ofNat 32 x.1)

/-- SC. -/
def State.storeConditional (s : State) (n : Fin 4) (rd a v cycles : Nat) (u : Upset) : State :=
  s.atomic n a excStoreAlign excStoreFault [1] (fun s =>
    let holds := (s.hart n).resv == some (ownWord n a) && decide (cycles ≤ 256)
    let s := s.modHart n (fun h => { h with resv := none })
    if !holds then (s.loaded n rd 1).retire n
    else
      let r := s.busWrite (.hart n) n a 4 v u
      (r.1.conditional n rd r.2.done).retire n)

/-- The result of an AMO on `old` and the operand `v`. -/
def amoResult (op : AmoOp) (old v : BitVec 32) : BitVec 32 :=
  match op with
  | .swap => v
  | .add => old + v
  | .xor => old ^^^ v
  | .and => old &&& v
  | .or => old ||| v
  | .min => if v.slt old then v else old
  | .max => if old.slt v then v else old
  | .minu => if v.ult old then v else old
  | .maxu => if old.ult v then v else old

/-- An AMO: one atomic access; one that fails reads 0 and writes nothing. -/
def State.amo (s : State) (n : Fin 4) (op : AmoOp) (rd a : Nat) (v : Word) (u : Upset) : State :=
  s.atomic n a excStoreAlign excStoreFault [0, 1] (fun s =>
    let r := s.busRead (.hart n) n a 4 u
    if r.2.done then
      let old : BitVec 32 := BitVec.ofNat 32 r.2.value
      let w := r.1.busWrite (.hart n) n a 4 (amoResult op old v).toNat Upset.none
      (w.1.loaded n rd old).retire n
    else if r.2.waits then s
    else (r.1.loaded n rd 0).retire n)

/-- WFI (R316): in U-mode under TW it is illegal; hart M's, when it stalls, begins an armed entry (R153). -/
def State.waitForInterrupt (s : State) (n : Fin 4) : State :=
  s.execute n (fun s =>
    if n.val != 0 && (s.hart n).user && bit ((s.hart n).csrAt csrMstatus) 21 then s.trap n excIllegal 0x10500073
    else if s.wfiOver n then s.retire n
    else ((s.retire n).modHart n (fun h => { h with wfi := !h.halted })).when (n.val == 0) State.entryBegins)

/-- FENCE.I (R312). -/
def State.fenceI (s : State) (n : Fin 4) : State :=
  s.execute n (fun s => ({ s with mem := { s.mem with cache := vput s.mem.cache n [] } }).retire n)

/-! ### Time (R137, R146, R163, R398, R659, R681, assumption log 5) -/

/-- One cycle of the control island: what the engine has committed is written (R649), TOOTH_TIME and the PWM counters advance. -/
def State.controlCycle (s : State) : State :=
  let s := s.writeOutputs
  (List.range 6).foldl State.pairCount { s with toothTime := (s.toothTime + 1) % 2 ^ 32 }

/-- One XO32 period of coarse counting passes: in CALM it counts towards what mtime is advanced by, else mtime counts while XO40 runs, and
TOOTH_TIME and the pairs while the control island does, by the calibrated period in whole ns and cycles. -/
def State.coarseTick (s : State) : State :=
  let s := s.countTime
  let ns := s.get CLK.LF_ADDEND / 2 ^ 16
  if s.power.mode == .calm && s.power.phase == .steady then { s with ntu := { s.ntu with calmPeriods := s.ntu.calmPeriods + 1 } }
  else
    let s := s.when (s.on CLK.XO40_OK) (fun s => s.countMtime ns)
    s.when (s.up .control) (fun s => (List.range (ns / 5)).foldl (fun st _ => st.controlCycle) s)

/-- 10 ns of an entry to CALM pass; in coarse mode the XO32 edges are counted out of them. From the stop of the clocks to the edge that begins coarse
counting network time stands still (assumption log 17, DESIGN CHOICE beside R156). -/
def State.entryTick (s : State) : State :=
  let s := s.modPower (fun p => { p with entryNs := p.entryNs + 10, edgeNs := p.edgeNs + 10 })
  if s.power.coarse && s.get CLK.LF_ADDEND / 2 ^ 16 ≤ s.power.edgeNs then
    (s.modPower (fun p => { p with edgeNs := p.edgeNs - s.get CLK.LF_ADDEND / 2 ^ 16 })).coarseTick
  else s.when (!s.power.coarse) (fun s => s.countMtime 10)

/-- One counting step of the NTU passes: 10 ns, 25 ns in LULL, one XO32 period in coarse mode; in an entry to CALM 10 ns. -/
def State.tick (s : State) : State :=
  if s.power.mode == .off then s
  else if s.power.phase == .entering then s.entryTick
  else if s.power.coarse then s.coarseTick
  else if s.up .time then
    let s := s.countTime.countMtime (if s.power.mode == .lull then 25 else 10)
    s.when (s.up .control) (fun s => s.controlCycle.controlCycle)
  else s

end Sys2Proof.Machine
end

