-- ==== Sys2Proof/Machine/CmdQueue.lean ====
section
/-!
DEFINITION. The meanings of the commands of the queue manager and of its DMA, CRC and AES consumers (chapter 8).
-/

namespace Sys2Proof.Machine

/-- R328: QMGR_ALLOC is read. -/
def execQmgrAllocRead (m : Master) (s : State) : Host.Outcome State Fault Refusal :=
  .next (s.cmdRead m (pageAddr 0xE 0x1C) 4 Upset.none)

/-- R330: QPUSHq is written. -/
def execQpushWrite (m : Master) (q : Fin 64) (v : Word) (s : State) : Host.Outcome State Fault Refusal :=
  .next (s.cmdWrite m (pageAddr 0xE (0x104 + 8 * q.val)) 4 v.toNat)

/-- R339: QMGR_FREE is written. -/
def execQmgrFreeWrite (m : Master) (v : Word) (s : State) : Host.Outcome State Fault Refusal :=
  .next (s.cmdWrite m (pageAddr 0xE 0x20) 4 v.toNat)

/-- R338: QMGR_CANCEL is written; `d` may disturb the reports of the link descriptors that it stops. -/
def execQmgrCancelWrite (m : Master) (v : Word) (d : Disturb) (s : State) : Host.Outcome State Fault Refusal :=
  .next ((s.busPut m (s.tidOf m) (pageAddr 0xE 0x24) 4 v.toNat Upset.none).1.linkSweepBy d)

/-- R333: queue-start sink `k` fires. -/
def execQueueStart (k : Fin 8) (s : State) : Host.Outcome State Fault Refusal := .next (s.queueStart k.val)

/-- The master code of a consumer (Tables 6.6 and 8.6). -/
def consumerMaster (c : Nat) : Nat :=
  if c < 0x10 then 0x10 + c else if c = 0x10 then 0x20 else if c = 0x11 then 0x21 else if c < 0x28 then 0x30 else if c < 0x30 then 0x31
  else 0x40

/-- A consumer at a descriptor boundary takes the head of queue `n`, which ends at once when it is late, not valid, or has an uncorrectable
error in a word that the consumer reads (R237); `bad` is a word found to have one now. -/
def State.takeHead (s : State) (c n : Nat) (bad : Option (Fin 8)) : State :=
  let slot := (s.queueAt n).headD 0
  let s := match bad with
    | some w => s.setEcc (slotAddr slot + 4 * w.val)
    | none => s
  let t := s.takeFrom c n
  if s.deadlinePassed slot then t.completeMissed slot
  else if (s.descBad slot [0, 2, 3, 4]).isSome then (t.descRead slot [0, 2, 3, 4] (consumerMaster c)).complete slot stEcc
  else if !s.descValid slot c then t.complete slot stBad
  else t

/-- R331, R332: a consumer takes the head of the lowest-numbered non-empty queue bound to it. The link controller takes at the
preparation of its slots (R593, R594), a CAN object only when it is neither PENDING nor ACTIVE (R466). -/
def State.consumerTake (s : State) (c : Nat) (bad : Option (Fin 8)) : State :=
  let atObject := 0x20 ≤ c && c < 0x30 && (!s.up .can || s.objBusy ((c - 0x20) / 8) (120 + c % 8))
  if c = 0x30 || c = 0x31 || !s.up .core || (s.activeAt c).isSome || atObject then s
  else match s.nextQueue c with
    | some n => s.takeHead c n bad
    | none => s

/-- R331, R330: a consumer takes its next descriptor. -/
def execConsumerTake (c : Fin 64) (bad : Option (Fin 8)) (s : State) : Host.Outcome State Fault Refusal :=
  .next (s.consumerTake c.val bad)

/-- R334, R337: the descriptor whose operation a consumer has finished completes, in time or not. While the core island is stopped it freezes
(R138, R146). -/
def execDescriptorComplete (c : Fin 64) (s : State) : Host.Outcome State Fault Refusal :=
  .next (
    if !s.up .core then s
    else match s.activeAt c.val with
    | some a => match a.status with
      | some st => if s.deadlinePassed a.slot then s.completeMissed a.slot else s.complete a.slot st
      | none => s
    | none => s)

/-- R337: a deadline has been passed. A descriptor that is queued, or active where a stop at a word boundary ends it, is ended;
at a CAN object the object's latest start decides (R468), at the link controller the end of its PPDU or window (R617). While the core island is
stopped nothing is judged (R150). -/
def execDeadlineMissed (slot : Fin 2048) (s : State) : Host.Outcome State Fault Refusal :=
  .next (
    if !s.up .core || !s.deadlinePassed slot.val then s
    else match s.slotAt slot.val with
      | none => s
      | some d =>
        if d.state == 2 then s.completeMissed slot.val
        else match s.consumerOf slot.val with
          | some c => if stopsAtWord c then s.completeMissed slot.val else s
          | none => s)

/-- R340: a DMA channel copies up to its `n`-th word boundary from here. -/
def execCopy (ch : Fin 16) (n : Nat) (d : Disturb) (s : State) : Host.Outcome State Fault Refusal :=
  .next ((s.dmaRun ch false n d).linkSweepBy d)

/-- R340: a DMA channel fills up to its `n`-th word boundary from here. -/
def execFill (ch : Fin 16) (n : Nat) (d : Disturb) (s : State) : Host.Outcome State Fault Refusal :=
  .next ((s.dmaRun ch true n d).linkSweepBy d)

/-- R341: the CRC engine serves its descriptor. -/
def execCrc (d : Disturb) (s : State) : Host.Outcome State Fault Refusal := .next ((s.crcRun d).linkSweepBy d)

/-- R342: AES encryption, ECB. -/
def execEcbEnc (n : Nat) (d : Disturb) (s : State) : Host.Outcome State Fault Refusal := .next ((s.aesRun 0x20 n d).linkSweepBy d)

/-- R342: AES decryption, ECB. -/
def execEcbDec (n : Nat) (d : Disturb) (s : State) : Host.Outcome State Fault Refusal := .next ((s.aesRun 0x21 n d).linkSweepBy d)

/-- R342: AES in counter mode. -/
def execCtr (n : Nat) (d : Disturb) (s : State) : Host.Outcome State Fault Refusal := .next ((s.aesRun 0x22 n d).linkSweepBy d)

/-- R342: CCM, encryption. -/
def execCcmEnc (n : Nat) (d : Disturb) (s : State) : Host.Outcome State Fault Refusal := .next ((s.aesRun 0x23 n d).linkSweepBy d)

/-- R342, R343: CCM, decryption. -/
def execCcmDec (n : Nat) (d : Disturb) (s : State) : Host.Outcome State Fault Refusal := .next ((s.aesRun 0x24 n d).linkSweepBy d)

/-- R342: CMAC. -/
def execCmac (n : Nat) (d : Disturb) (s : State) : Host.Outcome State Fault Refusal := .next ((s.aesRun 0x25 n d).linkSweepBy d)

end Sys2Proof.Machine
end

