-- ==== Sys2Proof/Machine/CmdCan.lean ====
section
/-!
DEFINITION. The meanings of the commands of the CAN controllers (chapter 11).
-/

namespace Sys2Proof.Machine

/-- R433, R434: CANx_MODE is written. -/
def execCanModeWrite (m : Master) (x : Fin 2) (v : Word) (s : State) : Host.Outcome State Fault Refusal :=
  .next (s.cmdWrite m (pageAddr (0x12 + x.val) 0x10) 4 v.toNat)

/-- R435: the frame in progress has ended; a STOPPED that waits for it takes effect. -/
def execCanStopTakesEffect (x : Fin 2) (s : State) : Host.Outcome State Fault Refusal :=
  .next (s.when ((s.canCtl x.val).stopping && (s.canCtl x.val).send.isNone) (fun s => s.canStop x.val))

/-- R434: the controller has seen 11 recessive bits and is on the bus. -/
def execCanBusJoin (x : Fin 2) (s : State) : Host.Outcome State Fault Refusal :=
  .next (s.when (s.up .can && s.get (CAN.ACT x.val) == 1) (fun s => s.put (CAN.ACT x.val) 2))

/-- R445 to R450, R476, R479: a frame of another node is valid on the bus; or begins, or has been stored (assumption log 12). -/
def execCanFrameReceived (x : Fin 2) (k : CanSeen) (s : State) : Host.Outcome State Fault Refusal := .next (s.canSeen x.val k)

/-- R451: word 0 of an object is read. -/
def execCanObjWord0Read (m : Master) (x : Fin 2) (o : Fin 128) (u : Upset) (s : State) : Host.Outcome State Fault Refusal :=
  .next (s.cmdRead m (canWord x.val o.val 0) 4 u)

/-- R452, R454: word 19 of an object is read. -/
def execCanObjWord19Read (m : Master) (x : Fin 2) (o : Fin 128) (u : Upset) (s : State) : Host.Outcome State Fault Refusal :=
  .next (s.cmdRead m (canWord x.val o.val 19) 4 u)

/-- R457: CANx_LOCK_ABANDON is written. -/
def execCanLockAbandon (m : Master) (x : Fin 2) (v : Word) (s : State) : Host.Outcome State Fault Refusal :=
  .next (s.cmdWrite m (pageAddr (0x12 + x.val) 0x58) 4 v.toNat)

/-- R456: a lock has been held for longer than LOCK_LIMIT. -/
def execLockDeadline (x : Fin 2) (o : Fin 128) (s : State) : Host.Outcome State Fault Refusal :=
  .next (s.when (s.up .can) (fun s => s.lockLate x.val o.val))

/-- R442, R459: word 1 of an object is written. -/
def execCanObjWord1Write (m : Master) (x : Fin 2) (o : Fin 128) (v : Word) (s : State) : Host.Outcome State Fault Refusal :=
  .next (s.cmdWrite m (canWord x.val o.val 1) 4 v.toNat)

/-- R458: CANx_TXREQ is written. -/
def execCanTxreq (m : Master) (x : Fin 2) (v : Word) (s : State) : Host.Outcome State Fault Refusal :=
  .next (s.cmdWrite m (pageAddr (0x12 + x.val) 0x50) 4 v.toNat)

/-- R460, R461: the controller picks its next frame and reads it. -/
def execCanTxPick (x : Fin 2) (u : Upset) (s : State) : Host.Outcome State Fault Refusal := .next (s.canPick x.val u.ecc)

/-- R462: arbitration is lost. -/
def execCanArbitrationLost (x : Fin 2) (s : State) : Host.Outcome State Fault Refusal := .next (s.arbLost x.val)

/-- R462, R473: the frame being sent meets an error, which ISO 11898-1 counts or not. -/
def execCanTxError (x : Fin 2) (counted : Bool) (s : State) : Host.Outcome State Fault Refusal := .next (s.txError x.val counted)

/-- R458, R467, R477: the frame is valid for the transmitter, `age` ns after its SOF edge. -/
def execCanSent (x : Fin 2) (age : Nat) (s : State) : Host.Outcome State Fault Refusal := .next (s.frameSent x.val age)

/-- R463, R464, R468: the latest start of a pending object has passed. -/
def execTxDeadline (x : Fin 2) (o : Fin 128) (s : State) : Host.Outcome State Fault Refusal :=
  .next (s.when (s.up .can && s.startPassed x.val o.val) (fun s => s.objWithdraw x.val o.val))

/-- R469: CANx_TXCANCEL is written. -/
def execCanTxcancel (m : Master) (x : Fin 2) (v : Word) (s : State) : Host.Outcome State Fault Refusal :=
  .next (s.cmdWrite m (pageAddr (0x12 + x.val) 0x54) 4 v.toNat)

/-- R471: a cancel is sampled; `committed` tells whether the frame is at or after its commit point. -/
def execCanCancelSampled (x : Fin 2) (o : Fin 128) (committed : Bool) (s : State) : Host.Outcome State Fault Refusal :=
  .next (s.when (s.up .can) (fun s => s.sampleCancel x.val o.val committed))

/-- R473: an error that moves TEC or REC, with which the controller may turn error passive. -/
def execErrPassive (x : Fin 2) (e : CanErr) (s : State) : Host.Outcome State Fault Refusal := .next (s.canCount x.val e)

/-- R473 to R475: TEC has exceeded 255. -/
def execBusOff (x : Fin 2) (s : State) : Host.Outcome State Fault Refusal := .next (s.when (s.up .can) (fun s => s.enterBusOff x.val))

/-- R474: RECOVER is written. -/
def execRecover (m : Master) (x : Fin 2) (s : State) : Host.Outcome State Fault Refusal :=
  .next (s.cmdWrite m (pageAddr (0x12 + x.val) 0x14) 4 1)

/-- R474: BOFF_DELAY has elapsed since the entry to bus-off. -/
def execBoffDelayExpiry (x : Fin 2) (s : State) : Host.Outcome State Fault Refusal :=
  .next (s.when (s.up .can && s.get (CAN.BOFF_MODE x.val) == 2) (fun s => s.startRecovery x.val))

/-- R434, R474: the recovery sequence ends. -/
def execBusOffRecovered (x : Fin 2) (s : State) : Host.Outcome State Fault Refusal :=
  .next (s.when (s.up .can) (fun s => s.endRecovery x.val))

/-! ### Queue-fed objects (R465 to R468) -/

/-- The data words of a frame that object `o` is to send: as many as its DLC requires. -/
def qtxWords (w0 w4 : Nat) : Nat := if bit w0 30 then 0 else (dlcLength (bit w0 31) (bits w4 25 4) + 3) / 4

/-- R466: object 120 + `k` holds the frame of its descriptor and is PENDING. -/
def State.qtxFill (s : State) (x k : Nat) (a : Active) (data : List Nat) : State :=
  let o := 120 + k
  let w4 := s.descWord a.slot 4
  let w1 := setBits (setBits (setBits (s.word1 x o) 0 4 (bits w4 25 4)) 4 1 (bits w4 29 1)) 24 4 1
  let words := (List.range (data.length / 4)).map (fun i => ofBytesLE ((data.drop (4 * i)).take 4))
  let t := s.objOwner x o
  ((((s.setWord t (canWord x o 0) (s.descWord a.slot 3)).setWord t (canWord x o 3) (s.descWord a.slot 5)).setWords t (canWord x o 4)
    words).setWord1 x o w1)

/-- R465, R466: queue-fed object `k` of controller `x` copies the frame of its active descriptor. -/
def State.qtxCopy (s : State) (x : Fin 2) (k : Nat) (d : Disturb) : State :=
  match s.activeAt (0x20 + 8 * x.val + k) with
  | none => s
  | some a =>
    if !s.up .can || s.objBusy x.val (120 + k) then s
    else if s.objType x.val (120 + k) != 4 then s.complete a.slot stBad
    else
      let n := qtxWords (s.descWord a.slot 3) (s.descWord a.slot 4)
      let r := s.readBytes (.can x) a.owner (s.descWord a.slot 2) (4 * n) d 0
      match r.2.2 with
      | some q => if failStatus q = 0 then s else r.1.complete a.slot (failStatus q)
      | none => r.1.qtxFill x.val k a r.2.1

/-- R466: a queue-fed object that is not PENDING or ACTIVE takes the head descriptor and copies its frame; `bad` is a word of the descriptor with
an uncorrectable error. -/
def execCanQtxTake (x : Fin 2) (k : Fin 8) (bad : Option (Fin 8)) (d : Disturb) (s : State) : Host.Outcome State Fault Refusal :=
  .next ((s.consumerTake (0x20 + 8 * x.val + k.val) bad).qtxCopy x k.val d)

/-- R466: a queue-fed object serves the CAN_TX descriptor that it has taken. -/
def execCanTx (x : Fin 2) (k : Fin 8) (d : Disturb) (s : State) : Host.Outcome State Fault Refusal := .next (s.qtxCopy x k.val d)

end Sys2Proof.Machine
end

