-- ==== Sys2Proof/Machine/CmdControl.lean ====
section
/-!
DEFINITION. The meanings of the commands of the control engine, the ADCs and the PWM pairs (chapter 16).
-/

namespace Sys2Proof.Machine

/-- The address of the configuration word of loop `n`. -/
def loopCfg (n : Fin 16) : Nat := pageAddr 0x18 (0x100 + 0x10 * n.val)

/-- The address of the control word of pair `k`. -/
def pairCtl (k : Fin 6) : Nat := pageAddr 0x1A (0x100 + 0x20 * k.val)

/-- R644: the configuration word of a loop is written with EN at 1. -/
def execLoopEnWrite (m : Master) (n : Fin 16) (v : Word) (s : State) : Host.Outcome State Fault Refusal :=
  .next (s.cmdWrite m (loopCfg n) 4 (setBits v.toNat 0 1 1))

/-- R645: the configuration word of a loop is written with EN at 0. -/
def execLoopDisable (m : Master) (n : Fin 16) (v : Word) (s : State) : Host.Outcome State Fault Refusal :=
  .next (s.cmdWrite m (loopCfg n) 4 (setBits v.toNat 0 1 0))

/-- R642, R643: FIRST and COUNT of a loop are written. -/
def execLoopRangeWrite (m : Master) (n : Fin 16) (v : Word) (s : State) : Host.Outcome State Fault Refusal :=
  .next (s.cmdWrite m (loopCfg n) 4 v.toNat)

/-- A pulse at trigger sink `k`, as from the channel that it listens to: it acts, is latched in LULL, or is lost with its island (R370, R371). -/
def State.sinkPulse (s : State) (k : Nat) : State := s.when s.alive (fun s => s.sinkTake (s.get (EVF.S_CHANNEL k)) k)

/-- R646, R648: the trigger sink of a loop fires. -/
def execLoopTrigger (n : Fin 16) (s : State) : Host.Outcome State Fault Refusal := .next (s.sinkPulse (8 + n.val))

/-- R647, R651: the stage that runs ends. -/
def execLoopStageEnd (u : Upset) (s : State) : Host.Outcome State Fault Refusal :=
  .next (s.when (s.up .control) (fun s => s.stageEnd u.ecc))

/-- R649: the sample of a loop commits. -/
def execLoopCommit (n : Fin 16) (s : State) : Host.Outcome State Fault Refusal :=
  .next (s.when (s.up .control) (fun s => s.commit n.val))

/-- R650: the deadline of a loop's sample has passed. -/
def execLoopDeadlineMiss (n : Fin 16) (s : State) : Host.Outcome State Fault Refusal :=
  .next (s.when (s.up .control) (fun s => s.loopDeadline n.val))

/-- R654, R655: a start of ADC-A: the pulse of sink 0x18, or START written by a master. -/
def execAdcaStart (by_ : Option Master) (s : State) : Host.Outcome State Fault Refusal :=
  match by_ with
  | none => .next (s.sinkPulse 0x18)
  | some m => .next (s.cmdWrite m (pageAddr 0x19 0x10) 4 (setBits (s.fieldWord (pageAddr 0x19 0x10)) 8 1 1))

/-- R653, R654: a conversion of ADC-A ends, AIN0 to AIN5 being at these voltages in µV at its sampling instant. -/
def execAdcaConversionDone (ain : List Int) (s : State) : Host.Outcome State Fault Refusal := .next (s.adcaConverted ain)

/-- R654: a sequence of ADC-A is complete. -/
def execAdcaDone (s : State) : Host.Outcome State Fault Refusal := .next s.adcaFinish

/-- R657, R658: a start of ADC-B: the pulse of sink 0x19, or START written by a master. -/
def execAdcbStart (by_ : Option Master) (s : State) : Host.Outcome State Fault Refusal :=
  match by_ with
  | none => .next (s.sinkPulse 0x19)
  | some m => .next (s.cmdWrite m (pageAddr 0x19 0x40) 4 (setBits (s.fieldWord (pageAddr 0x19 0x40)) 8 1 1))

/-- R656 to R658: a conversion of ADC-B ends, its inputs being at these voltages. -/
def execAdcbConversionDone (v : AdcbInputs) (s : State) : Host.Outcome State Fault Refusal :=
  .next (s.when (s.up .ao) (fun s => s.adcbConverted v))

/-- R657: a sequence of ADC-B is complete. -/
def execAdcbDone (s : State) : Host.Outcome State Fault Refusal := .next (s.when (s.up .ao) State.adcbFinish)

/-- R658: the background takes ADC-B from a sequence. -/
def execAdcbDisplaced (s : State) : Host.Outcome State Fault Refusal := .next (s.when (s.up .ao) State.adcbTakeover)

/-- R659, R661, R664, R668: a period of a pair starts; a change of its owner that waits for the boundary takes effect (R29, R52). -/
def execPwmPeriodStart (k : Fin 6) (s : State) : Host.Outcome State Fault Refusal :=
  .next (s.when (s.pairRuns k.val) (fun s => (s.ownerSwitch tblPair k.val).periodStart k.val))

/-- R659: a period of a pair reaches its centre. -/
def execPwmPeriodCentre (k : Fin 6) (s : State) : Host.Outcome State Fault Refusal :=
  .next (s.when (s.pairRuns k.val) (fun s => s.periodCentre k.val))

/-- R659 to R662: the control word of a pair is written. -/
def execPwmRunWrite (m : Master) (k : Fin 6) (v : Word) (s : State) : Host.Outcome State Fault Refusal :=
  .next (s.cmdWrite m (pairCtl k) 4 v.toNat)

/-- R668: CLR of a pair is written. -/
def execPwmClr (m : Master) (k : Fin 6) (s : State) : Host.Outcome State Fault Refusal :=
  .next (s.cmdWrite m (pairCtl k) 4 (setBits (s.fieldWord (pairCtl k)) 3 1 1))

/-- R667: a pulse on a force-safe sink. -/
def execPwmForceSafe (k : Fin 6) (s : State) : Host.Outcome State Fault Refusal :=
  .next (s.sinkPulse (0x1A + k.val))

/-- R666: PWM_FAULT_N has been low for 25 ns. -/
def execPwmFault (s : State) : Host.Outcome State Fault Refusal := .next (s.when (s.alive && s.fab.vio) State.pwmFault)

/-- R668: PWM_FAULT_N is high again. -/
def execPwmFaultNRelease (s : State) : Host.Outcome State Fault Refusal := .next (s.when (s.alive && s.fab.vio) State.pwmFaultEnd)

end Sys2Proof.Machine
end

