-- ==== Sys2Proof/Machine/HartRun.lean ====
section
/-!
DEFINITION. Fetching and executing (R235, R307 to R312, R315): the instruction caches, and what an instruction does that has no row of its own
in the table. Loads, stores, LR, SC, AMOs, wfi and fence.i have one: a fetch leaves them for it (assumption log 26).
-/

namespace Sys2Proof.Machine

/-! ### Instruction caches (R264, R312, Table 7.1) -/

/-- The two-way sets of a hart's cache: 4 KiB for hart M, 16 KiB for the others, in lines of 32 bytes. -/
def cacheSets (n : Nat) : Nat := if n = 0 then 64 else 256

/-- The state with the lines of hart `n`'s cache changed. -/
def State.modCache (s : State) (n : Nat) (f : Table (List Word) → Table (List Word)) : State :=
  { s with mem := { s.mem with cache := vmod s.mem.cache n f } }

/-- The line that hart `n` holds of the 32 bytes at `a`. -/
def State.cached (s : State) (n a : Nat) : Option (List Word) := Table.find (vget s.mem.cache n []) (a / 32)

/-- The words of a line of code flash. -/
def State.lineWords (s : State) (line : Nat) : List Word :=
  (List.range 8).map (fun i => BitVec.ofNat 32 (ofBytesLE (((s.flashWord (line * 32 + 4 * i)).drop (4 * i % 16)).take 4)))

/-- Line number `line` enters the cache of hart `n`. Of two lines in its set one gives way; which is not stated (assumption log 3). -/
def State.fillLine (s : State) (n line : Nat) : State :=
  let words := s.lineWords line
  match (vget s.mem.cache n []).filter (fun e => e.1 % cacheSets n == line % cacheSets n) with
  | x :: y :: _ =>
    let c := s.freeBool
    c.2.modCache n (fun t => Table.insert (Table.erase t (if c.1 then x.1 else y.1)) line words)
  | _ => s.modCache n (fun t => Table.insert t line words)

/-- The other 128-bit word of the line that holds `a`. -/
def otherHalf (a : Nat) : Nat := if a % 32 < 16 then a / 32 * 32 + 16 else a / 32 * 32

/-- R311, R264: a fetch of `k` bytes at `a` that misses reads both 128-bit words of the line; a line that was read without an error is kept. -/
def State.fetchMiss (s : State) (n : Fin 4) (a k : Nat) (u : Upset) : State × Res :=
  let r := s.busFetch (.hart n) n a k u
  if !r.2.done then r
  else
    let q := r.1.busFetch (.hart n) n (otherHalf a) 4 Upset.none
    (if q.2.done then q.1.fillLine n (a / 32) else q.1, r.2)

/-- R312, R264: `k` bytes of code at `a`. A line that is in the cache is not read from the flash again; a parity error (`u.ecc`) in it invalidates
it, and it is fetched again. -/
def State.fetchPart (s : State) (n : Fin 4) (a k : Nat) (u : Upset) : State × Res :=
  if 0x400000 ≤ a then s.busFetch (.hart n) n a k u
  else match s.cached n a with
    | none => s.fetchMiss n a k u
    | some ws =>
      if u.ecc then (s.modCache n (fun t => Table.erase t (a / 32))).fetchMiss n a k Upset.none
      else (s, .ok (bits ((ws.getD (a % 32 / 4) 0).toNat) (8 * (a % 4)) (8 * k)))

/-! ### Fetching (R235, R314) -/

/-- What a fetch comes to. -/
inductive Fetched where
  /-- it waits for its island or for the flash array -/
  | waits
  /-- PMP does not admit the bytes at this address -/
  | barred (a : Nat)
  | failed (s : State)
  | got (s : State) (w : Nat)

/-- R235, R314: hart `n` fetches the instruction at `a`: a word, or a halfword and a second one where the first asks for it. -/
def State.fetchInsn (s : State) (n : Fin 4) (a : Nat) (u : Upset) : Fetched :=
  let may (b : Nat) : Bool := (s.hart n).pmpAdmits n (s.hart n).user b 2 2
  let r := s.fetchPart n a (if a % 4 = 0 then 4 else 2) u
  if !may a then .barred a
  else if r.2.waits then .waits
  else if !r.2.done then .failed r.1
  else if r.2.value % 4 ≠ 3 then .got r.1 (r.2.value % 2 ^ 16)
  else if !may ((a + 2) % 2 ^ 32) then .barred ((a + 2) % 2 ^ 32)
  else if a % 4 = 0 then .got r.1 r.2.value
  else
    let q := r.1.fetchPart n ((a + 2) % 2 ^ 32) 2 Upset.none
    if q.2.waits then .waits
    else if !q.2.done then .failed q.1
    else .got q.1 (r.2.value + q.2.value * 2 ^ 16)

/-! ### F instructions (R315) -/

/-- The rounding mode of an F instruction: its own, or that of frm; `none` where it is reserved. -/
def Hart.roundingMode (h : Hart) (op : FpOp) (rm : Nat) : Option Nat :=
  let m := if rm = 7 then bits (h.csrAt csrFcsr) 5 3 else rm
  if !op.rounds then some 0 else if m ≤ 4 then some m else none

/-- An F instruction: the result goes to its register, the flags into fflags. `none`: it is illegal. -/
def State.fpInsn (s : State) (n : Nat) (op : FpOp) (rd rs1 rs2 rs3 rm : Nat) : Option State :=
  let h := s.hart n
  if !s.fpOn n then none
  else match h.roundingMode op rm with
    | none => none
    | some m =>
      let f (i : Nat) : Nat := (vget h.f i 0).toNat
      let r := fpResult op m (f rs1) (f rs2) (f rs3) (h.reg rs1).toNat
      let s := s.when (r.flags != 0) (fun s => s.modHart n (fun h => (h.setCsr csrFcsr (h.csrAt csrFcsr ||| r.flags)).fsDirty))
      some (s.loaded n (if op.toX then rd else 32 + rd) (BitVec.ofNat 32 r.val))

/-! ### Executing -/

/-- What an instruction does that neither accesses memory nor reads or writes the pc; `debug` in debug mode. `none`: it is illegal there. -/
def State.plainInsn (s : State) (n : Nat) (debug : Bool) : Insn → Option State
  | .setImm rd v => some (s.modHart n (fun h => h.setReg rd v))
  | .alu op rd rs1 rs2 =>
    if n = 0 && op.bitManip then none
    else some (s.modHart n (fun h => h.setReg rd (aluResult op (h.reg rs1) (h.reg rs2))))
  | .aluImm op rd rs1 v =>
    if n = 0 && op.bitManip then none else some (s.modHart n (fun h => h.setReg rd (aluResult op (h.reg rs1) v)))
  | .csr kind rd src r => s.csrInsn n kind rd src r debug
  | .fp op rd rs1 rs2 rs3 rm => s.fpInsn n op rd rs1 rs2 rs3 rm
  | .fence => some s
  | _ => none

/-- Has the instruction a row of its own in the table, which executes it? -/
def Insn.hasRow : Insn → Bool
  | .load .. => true | .store .. => true | .loadF .. => true | .storeF .. => true | .lr .. => true | .sc .. => true | .amo .. => true
  | .fenceI => true | .wfi => true
  | _ => false

/-- Does the hart implement such an instruction: hart M has neither A nor F, and F needs mstatus.FS? -/
def State.implements (s : State) (n : Nat) : Insn → Bool
  | .lr .. => n != 0 | .sc .. => n != 0 | .amo .. => n != 0
  | .loadF .. => s.fpOn n
  | .storeF .. => s.fpOn n
  | _ => true

/-- The hart goes on at `a`, after an instruction that leaves nothing else to do. -/
def Hart.goesTo (h : Hart) (a : Word) : Hart := ({ h with pc := a, ir := 0 }).stepped

/-- mret: MIE, the mode and the pc come back from mstatus and mepc; MPP becomes U where there is U-mode. -/
def Hart.returned (h : Hart) (n : Nat) : Hart :=
  let st := h.csrAt csrMstatus
  let user := n != 0 && h.mpp n == 0
  let st' := setBits (setBits st 3 1 (bits st 7 1)) 7 1 1
  let st' := if n = 0 then st' else setBits st' 11 2 0
  let st' := if user then setBits st' 17 1 0 else st'
  ({ h.setCsr csrMstatus st' with user := user }).goesTo (BitVec.ofNat 32 (h.csrAt csrMepc))

/-- ebreak: debug mode where dcsr says so for the mode, else a breakpoint exception. -/
def State.breakpoint (s : State) (n : Nat) : State :=
  let h := s.hart n
  if bit (h.csrAt csrDcsr) (if h.user then 12 else 15) then s.modHart n (fun h => h.halt 1) else s.trap n excBreak h.pc.toNat

/-- Hart `n` executes the instruction `w` at its pc. -/
def State.runInsn (s : State) (n w : Nat) : State :=
  let h := s.hart n
  let next := h.pc + BitVec.ofNat 32 (insnLength w)
  let i := decodeInsn w
  match i with
  | .pcImm rd v => s.modHart n (fun h => (h.setReg rd (h.pc + v)).goesTo next)
  | .jump rd off => s.modHart n (fun h => (h.setReg rd next).goesTo (h.pc + off))
  | .jumpReg rd rs1 off => s.modHart n (fun x => (x.setReg rd next).goesTo ((h.reg rs1 + off) &&& 0xFFFFFFFE))
  | .branch c rs1 rs2 off => s.modHart n (fun h => h.goesTo (if branchTaken c (h.reg rs1) (h.reg rs2) then h.pc + off else next))
  | .ecall => s.trap n (if h.user then 8 else 11) 0
  | .ebreak => s.breakpoint n
  | .mret => if h.user then s.trap n excIllegal w else s.modHart n (fun h => h.returned n)
  | _ =>
    if i.hasRow && s.implements n i then s.modHart n (fun h => { h with ir := BitVec.ofNat 32 w })
    else match s.plainInsn n false i with
      | some t => t.modHart n (fun h => h.goesTo next)
      | none => s.trap n excIllegal w

/-- R235: hart `n` goes on at `a`: it takes an interrupt that stands, or fetches the instruction there and executes it. A fetch that fails
returns 0, which is an illegal instruction. -/
def State.hartFetch (s : State) (n : Fin 4) (a : Nat) (u : Upset) : State :=
  s.execute n (fun s =>
    let at_ (s : State) : State := s.modHart n (fun h => { h with pc := BitVec.ofNat 32 a, ir := 0 })
    match s.interrupt n with
    | some i => (at_ s).modHart n (fun h => h.interrupted n i)
    | none =>
      if a % 2 != 0 then (at_ s).trap n 0 a
      else match s.fetchInsn n a u with
        | .waits => s
        | .barred b => (at_ s).trap n excFetchFault b
        | .failed t => (at_ t).trap n excIllegal 0
        | .got t w => (at_ t).runInsn n w)

end Sys2Proof.Machine
end

