-- ==== Sys2Proof/Machine/DebugModule.lean ====
section
/-!
DEFINITION. The debug module (R344 to R348, Table 8.13) with the registers that RISC-V External Debug Support 0.13.2 gives it, and what its
accesses through the DMI do (assumption log 23).
-/

namespace Sys2Proof.Machine

/-- The state with the debug module changed. -/
def State.modDbg (s : State) (f : Debug → Debug) : State := { s with dbg := f s.dbg }

/-! ### Abstract commands (R345) -/

/-- Is hart `n` one that abstract commands reach: existing, available and halted? -/
def State.debuggable (s : State) (n : Nat) : Bool :=
  s.hartExists n && (s.hart n).running && (s.hart n).halted && s.up (hartIsland n)

/-- What an action of the debug module comes to: done, an exception of the hart, or an access that waits for its island (R161). -/
inductive DbgOut where
  | done (s : State)
  | raised (s : State)
  | waits

/-- A read by hart `n` in debug mode: machine mode, locked PMP regions apart (R314). -/
def State.dbgRead (s : State) (n : Fin 4) (a k : Nat) (u : Upset) (f : State → Res → State) : DbgOut :=
  if a % k != 0 || !(s.hart n).pmpAdmits n false a k 0 then .raised s
  else
    let r := s.busRead (.debug n) n a k u
    if r.2.waits then .waits else .done (f r.1 r.2)

/-- A load: 0 where the read fails (R234). -/
def State.dbgLoad (s : State) (n : Fin 4) (a k : Nat) (u : Upset) (f : State → Nat → State) : DbgOut :=
  s.dbgRead n a k u (fun t r => f t r.value)

/-- A write by hart `n` in debug mode. -/
def State.dbgWrite (s : State) (n : Fin 4) (a k v : Nat) (u : Upset) (f : State → Res → State) : DbgOut :=
  if a % k != 0 || !(s.hart n).pmpAdmits n false a k 1 then .raised s
  else
    let r := s.busWrite (.debug n) n a k v u
    if r.2.waits then .waits else .done (f r.1 r.2)

/-- A store. -/
def State.dbgStore (s : State) (n : Fin 4) (a k v : Nat) (u : Upset) : DbgOut := s.dbgWrite n a k v u (fun t _ => t)

/-- An atomic of hart `n` in debug mode: where R313 admits it. -/
def State.dbgAtomic (s : State) (n : Fin 4) (a : Nat) (f : DbgOut) : DbgOut := if n.val = 0 || !atomicAt a then .raised s else f

/-- One instruction of the program buffer. Instructions that read or write the pc, wfi and system calls act as illegal there. -/
def State.dbgInsn (s : State) (n : Fin 4) (i : Insn) (u : Upset) : DbgOut :=
  let reg (r : Nat) : Word := (s.hart n).reg r
  let f (r : Nat) : Nat := (vget (s.hart n).f r 0).toNat
  if !s.implements n i then .raised s
  else match i with
  | .load w signed rd rs1 off =>
    s.dbgLoad n (reg rs1 + off).toNat (widthBytes w) u (fun t v => t.loaded n rd (extended (widthBytes w) v signed))
  | .loadF rd rs1 off => s.dbgLoad n (reg rs1 + off).toNat 4 u (fun t v => t.loaded n (32 + rd) (BitVec.ofNat 32 v))
  | .store w rs1 rs2 off => s.dbgStore n (reg rs1 + off).toNat (widthBytes w) (reg rs2).toNat u
  | .storeF rs1 rs2 off => s.dbgStore n (reg rs1 + off).toNat 4 (f rs2) u
  | .lr rd rs1 => s.dbgAtomic n (reg rs1).toNat (s.dbgRead n (reg rs1).toNat 4 u (fun t r =>
      (t.loaded n rd (BitVec.ofNat 32 r.value)).modHart n (fun h =>
        { h with resv := if r.done then some (ownWord n (reg rs1).toNat) else none })))
  | .sc rd rs1 rs2 =>
    let a := (reg rs1).toNat
    let t := s.modHart n (fun h => { h with resv := none })
    if (s.hart n).resv != some (ownWord n a) then s.dbgAtomic n a (.done (t.loaded n rd 1))
    else s.dbgAtomic n a (t.dbgWrite n a 4 (reg rs2).toNat u (fun t r => t.conditional n rd r.done))
  | .amo op rd rs1 rs2 =>
    let a := (reg rs1).toNat
    s.dbgAtomic n a (s.dbgRead n a 4 u (fun t r =>
      let old : Word := BitVec.ofNat 32 r.value
      (if r.done then (t.busWrite (.debug n) n a 4 (amoResult op old (reg rs2)).toNat Upset.none).1 else t).loaded n rd old))
  | .fenceI => .done { s with mem := { s.mem with cache := vput s.mem.cache n [] } }
  | i => match s.plainInsn n true i with
    | some t => .done t
    | none => .raised s

/-- Halfword `i` of the program buffer. -/
def Debug.half (d : Debug) (i : Nat) : Nat := bits (vget d.progbuf (i / 2) 0).toNat (16 * (i % 2)) 16

/-- R345, Table 8.13: the program buffer from halfword `i` on, up to an ebreak, to its end (impebreak), or to an exception. `k` numbers its
instructions for the disturbance `d`. -/
def State.progRun (n : Fin 4) (d : Disturb) : Nat → Nat → Nat → State → DbgOut
  | 0, _, _, s => .done s
  | fuel + 1, i, k, s =>
    if 16 ≤ i then .done s
    else
      let lo := s.dbg.half i
      if lo % 4 = 3 && i = 15 then .raised s
      else
        let w := if lo % 4 = 3 then lo + s.dbg.half (i + 1) * 2 ^ 16 else lo
        let insn := decodeInsn w
        if insn == .ebreak then .done s
        else match s.dbgInsn n insn (disturbAt d k) with
          | .done t => State.progRun n d fuel (i + insnLength w / 2) (k + 1) t
          | o => o

/-- The program buffer is executed. A reservation from before it is more than 256 core cycles old, since scans of the TAP lie between (R313,
assumption log 23). -/
def State.progBuffer (s : State) (n : Fin 4) (d : Disturb) : DbgOut := State.progRun n d 17 0 0 (s.modHart n (fun h => { h with resv := none }))

/-- An abstract command begins on hart `n`, unless the error of an earlier one stands; `f` is its action. One that waits for an island has no
effect yet. -/
def State.abstractCmd (s : State) (n : Fin 4) (f : State → DbgOut) : State :=
  let s := s.modDbg (fun d => { d with hartsel := n })
  if s.dbg.cmdErr ≠ 0 then s
  else if !s.debuggable n then s.modDbg (fun d => { d with cmdErr := 4 })
  else match f s with
    | .done t => t
    | .raised t => t.modDbg (fun d => { d with cmdErr := 3 })
    | .waits => s

/-- Table 8.13: a register by its abstract number: CSR, GPR or FPR; `none` where there is none. -/
def State.debugReg (s : State) (n regno : Nat) : Option Nat :=
  if regno < 0x1000 then s.csrRead n regno
  else if regno < 0x1020 then some ((s.hart n).reg (regno - 0x1000)).toNat
  else if regno < 0x1040 && n != 0 then some (vget (s.hart n).f (regno - 0x1020) 0).toNat
  else none

/-- The state with such a register written. -/
def State.setDebugReg (s : State) (n regno : Nat) (v : Word) : State :=
  s.modHart n (fun h =>
    if regno < 0x1000 then h.csrWrite n regno v.toNat true
    else if regno < 0x1020 then h.setReg (regno - 0x1000) v
    else { h with f := vput h.f (regno - 0x1020) v })

/-- Access Register: the transfer, if it asks for one, and then the program buffer, if it asks for that. -/
def State.accessRegister (s : State) (n : Fin 4) (transfer write : Bool) (regno : Nat) (post : Bool) (d : Disturb) : State :=
  s.abstractCmd n (fun s =>
    match s.debugReg n regno with
    | none => if transfer then .raised s else if post then s.progBuffer n d else .done s
    | some v =>
      let s := if !transfer then s
        else if write then s.setDebugReg n regno s.dbg.data0 else s.modDbg (fun d => { d with data0 := BitVec.ofNat 32 v })
      if post then s.progBuffer n d else .done s)

/-- data1 moves on by the size of an access, where the command asks for it. -/
def State.data1Inc (s : State) (inc : Bool) (k : Nat) : State :=
  s.when inc (fun s => s.modDbg (fun d => { d with data1 := d.data1 + BitVec.ofNat 32 k }))

/-- Access Memory: data in data0, address in data1, with the hart's view and permissions. -/
def State.accessMemory (s : State) (n : Fin 4) (write : Bool) (k : Nat) (inc : Bool) (u : Upset) : State :=
  s.abstractCmd n (fun s =>
    let a := s.dbg.data1.toNat
    if write then
      match s.dbgStore n a k s.dbg.data0.toNat u with
      | .done t => .done (t.data1Inc inc k)
      | o => o
    else s.dbgLoad n a k u (fun t v => (t.modDbg (fun d => { d with data0 := BitVec.ofNat 32 v })).data1Inc inc k))

/-! ### System bus access (R346, R356) -/

/-- sberror of an access that came to this. -/
def sbErrorOf : Res → Nat
  | .ok _ => 0
  | .fail f => if f.cause = causeUnmapped then 2 else 7
  | _ => 7

/-- A system bus access at sbaddress with the TID of hart `n`, unless the error of an earlier one stands; sbaddress moves on where
sbautoincrement asks for it. -/
def State.sbAccess (s : State) (n : Fin 4) (write : Bool) (k : Nat) (u : Upset) : State :=
  let a := s.dbg.sbAddr.toNat
  if s.dbg.sbError ≠ 0 then s
  else if a % k != 0 then s.modDbg (fun d => { d with sbError := 3 })
  else
    let next (d : Debug) : Word := if d.sbInc then d.sbAddr + BitVec.ofNat 32 k else d.sbAddr
    if write then
      let r := s.busWrite (.debug n) n a k s.dbg.sbData.toNat u
      if r.2.waits then s else r.1.modDbg (fun d => { d with sbError := sbErrorOf r.2, sbAddr := next d })
    else
      let r := s.busRead (.debug n) n a k u
      if r.2.waits then s
      else (r.1.modDbg (fun d =>
        { d with sbError := sbErrorOf r.2, sbData := BitVec.ofNat 32 r.2.value, sbAddr := next d })).reply r.2.value

/-- The command "a system bus access of `k` bytes at `a` with hart `n` selected". -/
def State.systemBus (s : State) (n : Fin 4) (write : Bool) (a k v : Nat) (u : Upset) : State :=
  if s.dbg.sbError ≠ 0 then s
  else
    let t := s.modDbg (fun d => { d with
      hartsel := n
      sbAddr := BitVec.ofNat 32 a
      sbSize := if k = 1 then 0 else if k = 2 then 1 else 2
      sbData := if write then BitVec.ofNat 32 v else d.sbData })
    t.sbAccess n write k u

/-! ### Resets and halts (R347, R348) -/

/-- ndmreset (R347): the system reset is asked for, and held while the bit is 1. -/
def State.ndmReset (s : State) (on : Bool) : State :=
  let s := s.modDbg (fun d => { d with ndmreset := on })
  let s := s.modRst (fun r => { r with debugHold := on || (s.hart 0).inReset })
  if on then s.askReset .debug else s.leaveReset

/-- hartreset (R347): of hart M the debug system reset, of an H hart a debug tenant reset. -/
def State.hartReset (s : State) (n : Fin 4) (on : Bool) : State :=
  let s := (s.modDbg (fun d => { d with hartsel := n })).modHart n (fun h => { h with inReset := on })
  if n.val = 0 then
    let s := s.modRst (fun r => { r with debugHold := on || s.dbg.ndmreset })
    if on then s.askReset .debug else s.leaveReset
  else if on && s.hartExists n then s.tenantReset n .debug
  else s

/-- R347: the reset-halt request of hart `n` is set or cleared. -/
def State.resetHalt (s : State) (n : Nat) (on : Bool) : State :=
  s.when (s.hartExists n) (fun s => s.modHart n (fun x => { x with haltReset := on }))

/-- R347: a resume request by the debugger, which resumeack answers. -/
def State.resumeReq (s : State) (n : Nat) : State :=
  (s.modDbg (fun d => { d with resumed := vput d.resumed n (s.debuggable n) })).resumeHart n

/-! ### Registers of the debug module -/

/-- dmstatus of the selected hart: version 0.13, authenticated, hasresethaltreq, impebreak, and the hart's state. -/
def State.dmStatus (s : State) : Nat :=
  let n := s.dbg.hartsel
  let none_ := decide (4 ≤ n) || !s.hartExists n
  let gone := !none_ && !((s.hart n).running && s.up (hartIsland n))
  let halted := !none_ && !gone && (s.hart n).halted
  let two (b : Bool) (i : Nat) : Nat := ofBool b * 3 * 2 ^ i
  2 + 2 ^ 5 + 2 ^ 7 + two halted 8 + two (!none_ && !gone && !halted) 10 + two gone 12 + two none_ 14 + two (vget s.dbg.resumed n false) 16 +
    two (vget s.dbg.wasReset n false) 18 + 2 ^ 22

/-- sbcs: sbversion 1, sbasize 32, accesses of 8, 16 and 32 bits. -/
def Debug.sbcs (d : Debug) : Nat :=
  7 + 32 * 2 ^ 5 + d.sbError % 8 * 2 ^ 12 + ofBool d.sbOnData * 2 ^ 15 + ofBool d.sbInc * 2 ^ 16 + d.sbSize % 8 * 2 ^ 17 +
    ofBool d.sbOnAddr * 2 ^ 20 + 2 ^ 29

/-- haltsum0: the halted harts. -/
def State.haltSum (s : State) : Nat := maskOf (fun i => i < 4 && s.hartExists i && (s.hart i).running && (s.hart i).halted)

/-- A register of the debug module as it reads. Those that are not here read 0. -/
def State.dmRead (s : State) (a : Nat) : Nat :=
  let d := s.dbg
  if a = 0x04 then d.data0.toNat
  else if a = 0x05 then d.data1.toNat
  else if a = 0x10 then
    ofBool (vget s.harts d.hartsel noHart).inReset * 2 ^ 29 + d.hartsel % 2 ^ 10 * 2 ^ 16 + d.hartsel / 2 ^ 10 % 2 ^ 10 * 2 ^ 6 +
      ofBool d.ndmreset * 2 + ofBool d.active
  else if a = 0x11 then s.dmStatus
  else if a = 0x12 then 2 * 2 ^ 20
  else if a = 0x16 then 2 + d.cmdErr * 2 ^ 8 + 8 * 2 ^ 24
  else if 0x20 ≤ a && a < 0x28 then (vget d.progbuf (a - 0x20) 0).toNat
  else if a = 0x38 then d.sbcs
  else if a = 0x39 then d.sbAddr.toNat
  else if a = 0x3C then d.sbData.toNat
  else if a = 0x40 then s.haltSum
  else 0

/-- The hart that hartsel names, where there is one. -/
def Debug.sel (d : Debug) : Option (Fin 4) := if h : d.hartsel < 4 then some ⟨d.hartsel, h⟩ else none

/-- A write of dmcontrol acts on the hart it selects: haltreq, resumereq, hartreset, ackhavereset, setresethaltreq, clrresethaltreq. -/
def State.dmHart (s : State) (v : Nat) : State :=
  match s.dbg.sel with
  | none => s
  | some n =>
    let s := s.when (bit v 28) (fun s => s.modDbg (fun d => { d with wasReset := vput d.wasReset n false }))
    let s := s.when (bit v 3) (fun s => s.resetHalt n true)
    let s := s.when (bit v 2) (fun s => s.resetHalt n false)
    let s := s.when (bit v 29 != (s.hart n).inReset) (fun s => s.hartReset n (bit v 29))
    if bit v 31 then s.haltHart n else s.when (bit v 30) (fun s => s.resumeReq n)

/-- A write of dmcontrol. With dmactive at 0 the module's own state takes its reset values; hasel reads 0. -/
def State.dmControl (s : State) (v : Nat) : State :=
  if !bit v 0 then
    let s := s.modDbg (fun d => { noDebug with tapIr := d.tapIr, bsr := d.bsr, tapOut := d.tapOut, dmi := d.dmi, ndmreset := d.ndmreset })
    s.when s.dbg.ndmreset (fun s => s.ndmReset false)
  else
    let s := s.modDbg (fun d => { d with active := true, hartsel := bits v 16 10 + bits v 6 10 * 2 ^ 10 })
    (s.when (bit v 1 != s.dbg.ndmreset) (fun s => s.ndmReset (bit v 1))).dmHart v

/-- A write of command: Access Register of 32 bits, Access Memory of 8, 16 and 32; any other is not supported (Table 8.13). -/
def State.dmCommand (s : State) (v : Nat) : State :=
  if s.dbg.cmdErr ≠ 0 then s
  else match s.dbg.sel with
    | none => s.modDbg (fun d => { d with cmdErr := 4 })
    | some n =>
      if bits v 24 8 = 0 then
        if bit v 19 || (bit v 17 && bits v 20 3 ≠ 2) then s.modDbg (fun d => { d with cmdErr := 2 })
        else s.accessRegister n (bit v 17) (bit v 16) (bits v 0 16) (bit v 18) ⟨0, Upset.none⟩
      else if bits v 24 8 = 2 then
        if bit v 23 || 2 < bits v 20 3 then s.modDbg (fun d => { d with cmdErr := 2 })
        else s.accessMemory n (bit v 16) (2 ^ bits v 20 3) (bit v 19) Upset.none
      else s.modDbg (fun d => { d with cmdErr := 2 })

/-- A write of sbcs: sberror clears where ones are written. -/
def Debug.sbcsWrite (d : Debug) (v : Nat) : Debug :=
  { d with
    sbOnAddr := bit v 20
    sbSize := bits v 17 3
    sbInc := bit v 16
    sbOnData := bit v 15
    sbError := d.sbError &&& (bits v 12 3 ^^^ 7) }

/-- A system bus access that a DMI access starts, of the size in sbcs. -/
def State.dmBus (s : State) (write : Bool) : State :=
  match s.dbg.sel with
  | none => s.modDbg (fun d => { d with sbError := 7 })
  | some n =>
    if s.dbg.sbError ≠ 0 then s
    else if 2 < s.dbg.sbSize then s.modDbg (fun d => { d with sbError := 4 })
    else s.sbAccess n write (2 ^ s.dbg.sbSize) Upset.none

/-- A write of a register of the debug module. While dmactive is 0 only dmcontrol takes one. -/
def State.dmWrite (s : State) (a v : Nat) : State :=
  if a = 0x10 then s.dmControl v
  else if !s.dbg.active then s
  else if a = 0x04 then s.modDbg (fun d => { d with data0 := BitVec.ofNat 32 v })
  else if a = 0x05 then s.modDbg (fun d => { d with data1 := BitVec.ofNat 32 v })
  else if a = 0x16 then s.modDbg (fun d => { d with cmdErr := d.cmdErr &&& (bits v 8 3 ^^^ 7) })
  else if a = 0x17 then s.dmCommand v
  else if 0x20 ≤ a && a < 0x28 then s.modDbg (fun d => { d with progbuf := vput d.progbuf (a - 0x20) (BitVec.ofNat 32 v) })
  else if a = 0x38 then s.modDbg (fun d => d.sbcsWrite v)
  else if a = 0x39 then
    let s := s.modDbg (fun d => { d with sbAddr := BitVec.ofNat 32 v })
    s.when s.dbg.sbOnAddr (fun s => s.dmBus false)
  else if a = 0x3C then (s.modDbg (fun d => { d with sbData := BitVec.ofNat 32 v })).dmBus true
  else s

/-- What a read of a register of the debug module does: one of sbdata0 starts a read where sbreadondata asks for it. -/
def State.dmTouched (s : State) (a : Nat) : State := s.when (a == 0x3C && s.dbg.sbOnData) (fun s => s.dmBus false)

/-- R61: what a data register shifts out reaches TDO only after the fuse load of this power-on. -/
def State.shiftOut (s : State) (v : Nat) : State := s.when s.padsLive (fun s => s.modDbg (fun d => { d with tapOut := v }))

/-- R344: a scan of the DMI register: it captures the answer to the access before, and starts the one scanned in: op, data, address. -/
def State.dmiScan (s : State) (v : Nat) : State :=
  let a := bits v 34 7
  let s := s.shiftOut s.dbg.dmi
  match bits v 0 2 with
  | 1 => (s.modDbg (fun d => { d with dmi := s.dmRead a * 2 ^ 2 + a * 2 ^ 34 })).dmTouched a
  | 2 => (s.dmWrite a (bits v 2 32)).modDbg (fun d => { d with dmi := bits v 2 32 * 2 ^ 2 + a * 2 ^ 34 })
  | _ => s.modDbg (fun d => { d with dmi := d.dmi })

end Sys2Proof.Machine
end

