-- ==== Sys2Proof/Machine/CmdDebug.lean ====
section
/-!
DEFINITION. The meanings of the commands of the test access port (chapter 2) and of the debug module behind it (chapter 8).
-/

namespace Sys2Proof.Machine

/-- R79: does the TAP work? -/
def State.tapWorks (s : State) : Bool := s.fab.vio && s.power.mode != .off && !s.rst.porDue && !s.rst.porHeld

/-- A command that comes through the TAP. -/
def State.viaTap (s : State) (f : State → State) : State := if s.tapWorks then f s else s

/-- R345: Access Register. -/
def execAccessRegister (h : Fin 4) (write : Bool) (regno : Fin 65536) (postexec : Bool) (d : Disturb) (s : State) :
    Host.Outcome State Fault Refusal :=
  .next (s.viaTap (fun s => s.accessRegister h true write regno.val postexec d))

/-- R345: Access Memory. -/
def execAccessMemory (h : Fin 4) (write : Bool) (w : Width) (postIncrement : Bool) (u : Upset) (s : State) :
    Host.Outcome State Fault Refusal :=
  .next (s.viaTap (fun s => s.accessMemory h write (widthBytes w) postIncrement u))

/-- R345: the program buffer is executed. -/
def execProgramBufferExec (h : Fin 4) (d : Disturb) (s : State) : Host.Outcome State Fault Refusal :=
  .next (s.viaTap (fun s => s.abstractCmd h (fun s => s.progBuffer h d)))

/-- R345, R346: a system bus access. -/
def execSystemBusAccess (h : Fin 4) (write : Bool) (a : Word) (w : Width) (v : Word) (u : Upset) (s : State) :
    Host.Outcome State Fault Refusal :=
  .next (s.viaTap (fun s => s.systemBus h write a.toNat (widthBytes w) v.toNat u))

/-- R348: haltreq. -/
def execHaltreq (h : Fin 4) (s : State) : Host.Outcome State Fault Refusal := .next (s.viaTap (fun s => s.haltHart h))

/-- R347: resumereq. -/
def execResumereq (h : Fin 4) (s : State) : Host.Outcome State Fault Refusal := .next (s.viaTap (fun s => s.resumeReq h))

/-- R347: dmcontrol.ndmreset is written. -/
def execNdmreset (on : Bool) (s : State) : Host.Outcome State Fault Refusal := .next (s.viaTap (fun s => s.ndmReset on))

/-- R347: dmcontrol.hartreset is written. -/
def execHartreset (h : Fin 4) (on : Bool) (s : State) : Host.Outcome State Fault Refusal := .next (s.viaTap (fun s => s.hartReset h on))

/-- R347: the reset-halt request of a hart is set. -/
def execSetresethaltreq (h : Fin 4) (s : State) : Host.Outcome State Fault Refusal :=
  .next (s.viaTap (fun s => s.resetHalt h true))

/-- R347: the reset-halt request of a hart is cleared. -/
def execClrresethaltreq (h : Fin 4) (s : State) : Host.Outcome State Fault Refusal :=
  .next (s.viaTap (fun s => s.resetHalt h false))

/-- R344, Table 8.13: a trigger of a hart meets an access. -/
def execTriggerMatch (h i : Fin 4) (k : TrigKind) (a v : Word) (s : State) : Host.Outcome State Fault Refusal :=
  .next (s.triggered h i k a.toNat v.toNat)

/-! ### The TAP (R76 to R80) -/

/-- A bit of the boundary-scan register. -/
def cellBit (b : Bool) (i : Nat) : Nat := ofBool b * 2 ^ i

/-- R77, R78: what the 153 cells capture: of each pad its output enable, its output and the level accepted from it. The inputs of CANB_RX
and of a RESET_N that the device does not drive, which State does not hold, are free values, and so is the output of a line on which a frame
moves. -/
def State.captureCells (s : State) : State × Nat :=
  let b := s.free 50
  let out (i : Nat) : Bool := if (s.padState i).moving then bit b.1 i else (s.padState i).level
  let pads := (List.range 48).foldl (fun v i =>
    v + cellBit (s.padState i).oe (padCell i) + cellBit (out i) (padCell i + 1) + cellBit (s.padLevel i) (padCell i + 2)) 0
  let low := s.resetPad.oe
  (b.2, pads + cellBit s.fab.wakeLevel 146 + cellBit low 132 + cellBit (!low && bit b.1 48) 134 + cellBit (bit b.1 49) 140)

/-- A boundary-scan instruction becomes current; a scan shifts the captured cells out and new ones in. -/
def State.boundary (s : State) (ir : Nat) (shift : Option (BitVec 153)) : State :=
  let s := s.modDbg (fun d => { d with tapIr := ir })
  match shift with
  | some b =>
    let c := s.captureCells
    (c.1.modDbg (fun d => { d with bsr := b })).shiftOut c.2
  | none => s

/-- Another instruction becomes current; its data register shifts this out. -/
def State.tapScan (s : State) (ir out : Nat) : State := (s.modDbg (fun d => { d with tapIr := ir })).shiftOut out

/-- R76, R79: the TAP is reset; IDCODE is current. -/
def execTapReset (s : State) : Host.Outcome State Fault Refusal := .next (s.viaTap (fun s => s.modDbg (fun d => { d with tapIr := 1 })))

/-- R76, R80: EXTEST. -/
def execExtest (shift : Option (BitVec 153)) (s : State) : Host.Outcome State Fault Refusal :=
  .next (s.viaTap (fun s => s.boundary 0x00 shift))

/-- R76: IDCODE. -/
def execIdcode (s : State) : Host.Outcome State Fault Refusal := .next (s.viaTap (fun s => s.tapScan 0x01 0x1048056B))

/-- R76: SAMPLE/PRELOAD. -/
def execSamplePreload (shift : Option (BitVec 153)) (s : State) : Host.Outcome State Fault Refusal :=
  .next (s.viaTap (fun s => s.boundary 0x02 shift))

/-- R76, R80: CLAMP; the bypass register is scanned. -/
def execClamp (s : State) : Host.Outcome State Fault Refusal := .next (s.viaTap (fun s => s.tapScan 0x03 0))

/-- R76, R80: HIGHZ; the bypass register is scanned. -/
def execHighz (s : State) : Host.Outcome State Fault Refusal := .next (s.viaTap (fun s => s.tapScan 0x04 0))

/-- R344: DTMCS reads version 1, abits 7, idle 1. -/
def execDtmcs (s : State) : Host.Outcome State Fault Refusal :=
  .next (s.viaTap (fun s => s.tapScan 0x10 (1 + 7 * 2 ^ 4 + 1 * 2 ^ 12)))

/-- R344: DMI: its register of 41 bits is scanned. -/
def execDmi (scan : Option (BitVec 41)) (s : State) : Host.Outcome State Fault Refusal :=
  .next (s.viaTap (fun s =>
    let s := s.modDbg (fun d => { d with tapIr := 0x11 })
    match scan with
    | some v => s.dmiScan v.toNat
    | none => s))

/-- R76: BYPASS. -/
def execBypass (s : State) : Host.Outcome State Fault Refusal := .next (s.viaTap (fun s => s.tapScan 0x1F 0))

end Sys2Proof.Machine
end

