-- ==== Sys2Proof/Machine/CmdFabric.lean ====
section
/-!
DEFINITION. The meanings of the commands of the pads and the event fabric (chapter 9).
-/

namespace Sys2Proof.Machine

/-- R373: PORT_CFGi is written. -/
def execPortCfgWrite (m : Master) (i : Fin 48) (v : Word) (s : State) : Host.Outcome State Fault Refusal :=
  .next (s.cmdWrite m (pageAddr 0x21 (0x100 + 4 * i.val)) 4 v.toNat)

/-- R375: PORT_SET is written. -/
def execPortSet (m : Master) (bank : Fin 2) (v : Word) (s : State) : Host.Outcome State Fault Refusal :=
  .next (s.cmdWrite m (pageAddr 0x21 (0x20 + 4 * bank.val)) 4 v.toNat)

/-- R375: PORT_CLR is written. -/
def execPortClr (m : Master) (bank : Fin 2) (v : Word) (s : State) : Host.Outcome State Fault Refusal :=
  .next (s.cmdWrite m (pageAddr 0x21 (0x28 + 4 * bank.val)) 4 v.toNat)

/-- R377, R378: a pad's new level has passed its filter. -/
def execPadFilterAccept (i : Fin 48) (level : Bool) (s : State) : Host.Outcome State Fault Refusal := .next (s.padAccept i.val level)

/-- R360, R361: a source delivers a pulse. Pad sources deliver levels, with the commands of their pads. -/
def execEventSourceFire (src : Fin 128) (s : State) : Host.Outcome State Fault Refusal :=
  .next (s.when (isSource src.val && 0x20 ≤ src.val) (fun s => s.fire src.val))

/-- R362: EVF_SWTRIG is written. -/
def execSwtrig (m : Master) (v : Word) (s : State) : Host.Outcome State Fault Refusal :=
  .next (s.cmdWrite m (pageAddr 0x10 0x10) 4 v.toNat)

/-- R358, R363: EVF_CHc is written. -/
def execEvfChWrite (m : Master) (c : Fin 64) (v : Word) (s : State) : Host.Outcome State Fault Refusal :=
  .next (s.cmdWrite m (pageAddr 0x10 (0x100 + 4 * c.val)) 4 v.toNat)

/-- The configuration of channel `c` as a word, with no flag to clear. -/
def State.channelWord (s : State) (c : Nat) : Nat :=
  [EVF.SRC c, EVF.EDGE c, EVF.ATTR c, EVF.EN c].foldl (fun v f => v + s.get f * 2 ^ f.lsb) 0

/-- R363: EVF_CHc.LOCK is set, with the configuration as it stands. -/
def execEvfChLock (m : Master) (c : Fin 64) (s : State) : Host.Outcome State Fault Refusal :=
  .next (s.cmdWrite m (pageAddr 0x10 (0x100 + 4 * c.val)) 4 (s.channelWord c.val + 2 ^ (EVF.LOCK c.val).lsb))

/-- R364: a sink register is written. -/
def execEvfSinkWrite (m : Master) (k : Fin 64) (v : Word) (s : State) : Host.Outcome State Fault Refusal :=
  .next (s.cmdWrite m (pageAddr 0x10 (0x200 + 4 * k.val)) 4 v.toNat)

/-- R368: OBJ of CAN transmit trigger `k` is written with the low bits of `v`, the rest of the register as it stands. -/
def execCanTxTriggerObjWrite (m : Master) (k : Fin 3) (v : Word) (s : State) : Host.Outcome State Fault Refusal :=
  let off := 0x200 + 4 * (0x3D + k.val)
  .next (s.cmdWrite m (pageAddr 0x10 off) 4 (setBits (s.fieldWord (pageAddr 0x10 off)) 16 7 (v.toNat % 128)))

/-- R370: a pending latch acts once its island runs. -/
def execSinkPendingAct (k : Fin 64) (s : State) : Host.Outcome State Fault Refusal := .next (s.pendingAct k.val)

/-- R376: the pulse of EVOUT `k` ends. -/
def execEvoutPulseEnd (k : Fin 8) (s : State) : Host.Outcome State Fault Refusal :=
  .next (
    if (Table.find s.fab.pulses k.val).isNone then s
    else
      let t := s.when (s.get (EVF.S_OUTMODE (0x30 + k.val)) == 0) (fun s => s.setEvout k.val false)
      { t with fab := { t.fab with pulses := Table.erase t.fab.pulses k.val } })

end Sys2Proof.Machine
end

