-- ==== Sys2Proof/Machine/CmdHart.lean ====
section
/-!
DEFINITION. The meanings of the commands of harts, timers and interrupt views (chapter 8).
-/

namespace Sys2Proof.Machine

/-- R316, R153: wfi. -/
def execWfi (h : Fin 4) (s : State) : Host.Outcome State Fault Refusal := .next (s.waitForInterrupt h)

/-- R313: LR. -/
def execLr (h : Fin 4) (rd : Fin 32) (a : Word) (u : Upset) (s : State) : Host.Outcome State Fault Refusal :=
  .next (s.loadReserved h rd.val a.toNat u)

/-- R313: SC, `cycles` core cycles after the LR. -/
def execSc (h : Fin 4) (rd : Fin 32) (a v : Word) (cycles : Nat) (u : Upset) (s : State) : Host.Outcome State Fault Refusal :=
  .next (s.storeConditional h rd.val a.toNat v.toNat cycles u)

/-- R313: an atomic memory operation. -/
def execAmo (h : Fin 4) (op : AmoOp) (rd : Fin 32) (a v : Word) (u : Upset) (s : State) : Host.Outcome State Fault Refusal :=
  .next (s.amo h op rd.val a.toNat v u)

/-- R312: fence.i. -/
def execFenceI (h : Fin 4) (s : State) : Host.Outcome State Fault Refusal := .next (s.fenceI h)

/-- R308, R309: an instruction that the hart does not implement. -/
def execIllegalInstruction (h : Fin 4) (insn : Word) (s : State) : Host.Outcome State Fault Refusal :=
  .next (s.execute h (fun s => s.trap h excIllegal insn.toNat))

/-- R317: SYS_MTIME_LO is read. -/
def execSysMtimeLoRead (m : Master) (s : State) : Host.Outcome State Fault Refusal :=
  .next (s.cmdRead m (pageAddr 0 0x18) 4 Upset.none)

/-- R318, R316: mtime has reached mtimecmp of Tn. MTIP follows the two; it ends the stall of a wfi whose mie enables it. -/
def execMtimecmpReached (n : Tid) (s : State) : Host.Outcome State Fault Refusal :=
  .next (if s.mtip n && s.wfiOver n then s.modHart n (fun h => { h with wfi := false }) else s)

/-- R319: IRQn_MSIP is written. -/
def execIrqnMsipWrite (m : Master) (n : Tid) (v : Word) (s : State) : Host.Outcome State Fault Refusal :=
  .next (s.cmdWrite m (pageAddr (0xA + n.val) 0x68) 4 v.toNat)

/-- R322: IRQn_CLAIM is read. -/
def execIrqnClaimRead (m : Master) (n : Tid) (s : State) : Host.Outcome State Fault Refusal :=
  .next (s.cmdRead m (pageAddr (0xA + n.val) 0x64) 4 Upset.none)

/-- R323: IRQn_CLAIM is written. -/
def execIrqnClaimWrite (m : Master) (n : Tid) (v : Word) (s : State) : Host.Outcome State Fault Refusal :=
  .next (s.cmdWrite m (pageAddr (0xA + n.val) 0x64) 4 v.toNat)

end Sys2Proof.Machine
end

