-- ==== Sys2Proof/Machine/CmdLink.lean ====
section
/-!
DEFINITION. The meanings of the commands of the link controller (chapter 15).
-/

namespace Sys2Proof.Machine

/-- R593, R594: the preparation point of the next slot. -/
def execSlotPreparation (d : Disturb) (s : State) : Host.Outcome State Fault Refusal := .next (s.preparation d)

/-- R588, R590: a slot starts. -/
def execSlotStart (d : Disturb) (s : State) : Host.Outcome State Fault Refusal := .next (s.slotBegins d)

/-- R599, R600: a beacon has been received. -/
def execBeaconRx (d : Disturb) (s : State) : Host.Outcome State Fault Refusal := .next (s.beaconReceived d)

/-- R599: a BEACON slot has ended without an accepted beacon. -/
def execBeaconMissed (s : State) : Host.Outcome State Fault Refusal := .next s.beaconMissed

/-- R600: a beacon has been received in a scan with ADOPT. -/
def execScanBeaconAdopt (d : Disturb) (s : State) : Host.Outcome State Fault Refusal := .next (s.scanAdopt d)

/-- R610, R611: a frame for a LINK_RX has been received. -/
def execLinkFrameReceived (d : Disturb) (s : State) : Host.Outcome State Fault Refusal := .next (s.linkFrame d)

/-- R612, R619: an acknowledgement is sent. -/
def execAckSend (s : State) : Host.Outcome State Fault Refusal := .next s.ackSend

/-- R613: an acknowledgement has been received. -/
def execAckReceived (d : Disturb) (s : State) : Host.Outcome State Fault Refusal := .next (s.ackReceived d)

/-- R613: no acknowledgement has come in time. -/
def execAckTimeout (d : Disturb) (s : State) : Host.Outcome State Fault Refusal := .next (s.ackTimeout d)

/-- R593 to R595, R614: the controller prepares a LINK_TX. -/
def execLinkTx (d : Disturb) (s : State) : Host.Outcome State Fault Refusal := .next (s.serveTx false d)

/-- R593, R615: the controller serves the LINK_RX descriptors. -/
def execLinkRx (s : State) : Host.Outcome State Fault Refusal := .next (s.serveRx false)

/-- R622: the controller serves a SOUND_TX. -/
def execSoundTx (s : State) : Host.Outcome State Fault Refusal := .next (s.serveTx true ⟨0, Upset.none⟩)

/-- R622: the controller serves a SOUND_RX. -/
def execSoundRx (s : State) : Host.Outcome State Fault Refusal := .next (s.serveRx true)

/-- R622: a SOUND_REQ has been received. -/
def execSoundReqReceived (d : Disturb) (s : State) : Host.Outcome State Fault Refusal := .next (s.soundRequest d)

/-- R622: a SOUND_RESP has been received. -/
def execSoundRespReceived (d : Disturb) (s : State) : Host.Outcome State Fault Refusal := .next (s.soundResponse d)

/-- R616: the preparation point of a LINK_TX with AT_ASN has passed. -/
def execSlotLate (slot : Fin 2048) (d : Disturb) (s : State) : Host.Outcome State Fault Refusal := .next (s.slotLate slot.val d)

/-- R617: the deadline of a link descriptor has passed. -/
def execLinkDeadlineStop (slot : Fin 2048) (d : Disturb) (s : State) : Host.Outcome State Fault Refusal :=
  .next (s.linkDeadline slot.val d)

/-- R624: the slot timer. -/
def execSlotTimer (s : State) : Host.Outcome State Fault Refusal := .next s.slotTimer

/-- R634 (Table 15.13): LOAD is written. -/
def execLsecLoad (m : Master) (s : State) : Host.Outcome State Fault Refusal := .next (s.cmdWrite m (pageAddr 0x17 0x24) 4 1)

/-- R634 (Table 15.13): CLEAR is written. -/
def execLsecClear (m : Master) (s : State) : Host.Outcome State Fault Refusal := .next (s.cmdWrite m (pageAddr 0x17 0x24) 4 2)

/-- R607, R608: TXSEQ is written. -/
def execLsecTxseqWrite (m : Master) (v : Word) (s : State) : Host.Outcome State Fault Refusal :=
  .next (s.cmdWrite m (pageAddr 0x17 0x2C) 4 v.toNat)

/-- R588: ASN_LO is read. -/
def execLinkAsnLoRead (m : Master) (s : State) : Host.Outcome State Fault Refusal :=
  .next (s.cmdRead m (pageAddr 0x16 0x34) 4 Upset.none)

end Sys2Proof.Machine
end

