-- ==== Sys2Proof/Machine/CmdMemory.lean ====
section
/-!
DEFINITION. The meanings of the commands of the flash controller, the scrubber, the CRC engine's direct mode and the TRNG (chapter 7).
-/

namespace Sys2Proof.Machine

/-- The address of FLASH_CMDn. -/
def flashCmdAddr (n : Nat) : Nat := pageAddr 0x1C (0x30 + 0x10 * n)

/-- R265, R267: FLASH_CMDn is written with PROGRAM and the address in `v`. -/
def execFlashCmdProgram (m : Master) (n : Tid) (v : Word) (s : State) : Host.Outcome State Fault Refusal :=
  .next (s.cmdWrite m (flashCmdAddr n.toNat) 4 (v.toNat % 2 ^ 24 + 1 * 2 ^ 24))

/-- R265, R267: FLASH_CMDn is written with ERASE and the address in `v`. -/
def execFlashCmdErase (m : Master) (n : Tid) (v : Word) (s : State) : Host.Outcome State Fault Refusal :=
  .next (s.cmdWrite m (flashCmdAddr n.toNat) 4 (v.toNat % 2 ^ 24 + 2 * 2 ^ 24))

/-- R285, R267: FLASH_CMDn is written with GEN_BUMP and the address in `v`. -/
def execFlashCmdGenBump (m : Master) (n : Tid) (v : Word) (s : State) : Host.Outcome State Fault Refusal :=
  .next (s.cmdWrite m (flashCmdAddr n.toNat) 4 (v.toNat % 2 ^ 24 + 3 * 2 ^ 24))

/-- R268: the controller takes the oldest command and checks it. -/
def execFlashOpStart (s : State) : Host.Outcome State Fault Refusal := .next s.flashStart

/-- R265: a program pulse ends, `ok` if it verifies. -/
def execFlashPulseEnd (ok : Bool) (s : State) : Host.Outcome State Fault Refusal := .next (s.pulseEnd ok)

/-- R270: an erase segment ends, `ok` if the last one verifies. -/
def execEraseSegmentEnd (ok : Bool) (s : State) : Host.Outcome State Fault Refusal := .next (s.segmentEnd ok)

/-- R270: a read meets the array under an erase; `data` for the data array. -/
def execFlashReadDuringErase (data : Bool) (s : State) : Host.Outcome State Fault Refusal := .next (s.suspend data)

/-- R270: a suspension ends. -/
def execEraseResume (s : State) : Host.Outcome State Fault Refusal := .next s.unsuspend

/-- R275: a scrubber pass falls due. -/
def execScrubDue (s : State) : Host.Outcome State Fault Refusal := .next s.scrubStart

/-- R275: the pass has been deferred for more than 1 s. -/
def execScrubSteal (s : State) : Host.Outcome State Fault Refusal := .next s.scrubSteals

/-- R274, R275: a pass completes. -/
def execScrubPass (single double : List (Fin 262144)) (s : State) : Host.Outcome State Fault Refusal := .next (s.scrubDone single double)

/-- R292, R293: CRC_DATA is written, in one to four bytes. -/
def execCrcDataWrite (m : Master) (w : Width) (v : Word) (s : State) : Host.Outcome State Fault Refusal :=
  .next (s.cmdWrite m (pageAddr 0x1E 0x20) (widthBytes w) v.toNat)

/-- R293: CRC_INIT or CRC_CFG is written; the calculation starts anew. -/
def execCrcRestart (m : Master) (init : Bool) (v : Word) (s : State) : Host.Outcome State Fault Refusal :=
  .next (s.cmdWrite m (pageAddr 0x1E (if init then 0x18 else 0x10)) 4 v.toNat)

/-- R296: TRNG_DATA is read. -/
def execTrngDataRead (m : Master) (s : State) : Host.Outcome State Fault Refusal :=
  .next (s.cmdRead m (pageAddr 0x20 0x14) 4 Upset.none)

/-- R297: a continuous health test fails. -/
def execHealthFail (s : State) : Host.Outcome State Fault Refusal := .next s.healthFail

/-- R297: a fresh window of samples has passed both tests. -/
def execTrngValidReturn (s : State) : Host.Outcome State Fault Refusal := .next s.trngValid

end Sys2Proof.Machine
end

