-- ==== Sys2Proof/Machine/CmdPower.lean ====
section
/-!
DEFINITION. The meanings of the commands of clocks, operating points, islands and power modes (chapter 4).
-/

namespace Sys2Proof.Machine

/-- R138: RC16 sees no XO40 edge for 1 µs. -/
def execXo40Loss (s : State) : Host.Outcome State Fault Refusal := .next s.xo40Loss

/-- R172: XO40 is not stable 1,000 µs after the detection of a wake from CALM. -/
def execXo40StartTimeout (s : State) : Host.Outcome State Fault Refusal := .next s.xo40Timeout

/-- R140: RC16 sees no XO32 edge for 100 µs. -/
def execXo32Loss (s : State) : Host.Outcome State Fault Refusal := .next s.xo32Loss

/-- R174: XO32 is lost in CALM. -/
def execXo32LossInCalm (s : State) : Host.Outcome State Fault Refusal := .next s.xo32LossCalm

/-- R140: XO32 is back for 1,024 periods. -/
def execXo32Return (s : State) : Host.Outcome State Fault Refusal := .next s.xo32Return

/-- R162: a window of 1,024 XO32 periods ends; one that began after a step did so `edge` ns after it. -/
def execLfCalWindowEnd (edge : Fin 65536) (s : State) : Host.Outcome State Fault Refusal := .next (s.lfWindow edge.val)

/-- R142, R168: OP_CMD is written. -/
def execOpCmdWrite (m : Master) (v : Word) (s : State) : Host.Outcome State Fault Refusal :=
  .next (s.cmdWrite m (pageAddr 2 0x14) 4 v.toNat)

/-- R142: the core voltage reaches its target. -/
def execSlewSettled (s : State) : Host.Outcome State Fault Refusal := .next s.slewSettled

/-- R142: the voltage has been settled for 2 µs; the core clock moves up. -/
def execOpClockRaise (s : State) : Host.Outcome State Fault Refusal := .next s.opRaise

/-- R145: PWR_ISLAND is written, clearing enables. -/
def execPwrIslandClear (m : Master) (v : Word) (s : State) : Host.Outcome State Fault Refusal :=
  .next (s.cmdWrite m (pageAddr 2 0x1C) 4 v.toNat)

/-- R145: PWR_ISLAND is written, setting enables. -/
def execPwrIslandSet (m : Master) (v : Word) (s : State) : Host.Outcome State Fault Refusal :=
  .next (s.cmdWrite m (pageAddr 2 0x1C) 4 v.toNat)

/-- R145, R160: an island is released. -/
def execIslandRelease (i : Island) (s : State) : Host.Outcome State Fault Refusal := .next (s.release i)

/-- R153: MODE_REQ is written. -/
def execModeReqWrite (m : Master) (v : Word) (s : State) : Host.Outcome State Fault Refusal :=
  .next (s.cmdWrite m (pageAddr 2 0x10) 4 v.toNat)

/-- R154 to R156: the posting buffers are empty. The pads are held as they stood when an entry to CALM goes on (R67). -/
def execPostingDrainDone (s : State) : Host.Outcome State Fault Refusal :=
  .next (
    let t := s.drained
    if t.fab.held && !s.fab.held then t.holdPads s else t)

/-- R156: CALM is reached. -/
def execCalmReached (s : State) : Host.Outcome State Fault Refusal := .next s.calmReached

/-- R157, R160: a wake source of Table 4.8 is asserted. Mains arrival is none on a TD480-B (R2, R19). -/
def execWakeDetect (src : Fin 7) (s : State) : Host.Outcome State Fault Refusal :=
  .next (s.when (src.val != 6 || s.isM) (fun s => s.wake src.val))

/-- R159: harts and islands resume after LULL. -/
def execLullResume (s : State) : Host.Outcome State Fault Refusal := .next s.lullResume

/-- R151, R348: hart M starts after CALM, and halts at once where the debug module asked for it in CALM. -/
def execHartMWarmStart (s : State) : Host.Outcome State Fault Refusal := .next s.warmStart

/-- R158: every enabled island has been released after a wake. -/
def execWakeDone (s : State) : Host.Outcome State Fault Refusal := .next s.wakeDone

/-- R163: an XO32 edge switches the NTU to coarse mode or back. -/
def execCoarseModeSwitch (s : State) : Host.Outcome State Fault Refusal := .next s.coarseSwitch

end Sys2Proof.Machine
end

