-- ==== Sys2Proof/Machine/CmdRadio.lean ====
section
/-!
DEFINITION. The meanings of the commands of the radio PHY and its coding (chapters 13 and 14).
-/

namespace Sys2Proof.Machine

/-- R544, R547, R619: the transmission that is set starts. -/
def execPhyTxStart (d : Disturb) (s : State) : Host.Outcome State Fault Refusal := .next (s.txStart d)

/-- R544, R598, R613: the last sample has left. -/
def execPhyTxEnd (d : Disturb) (s : State) : Host.Outcome State Fault Refusal := .next (s.txEnd d)

/-- R600, R635: a receive window opens. -/
def execRxWindowOpen (s : State) : Host.Outcome State Fault Refusal := .next s.windowOpen

/-- R551, R635: a receive window closes. -/
def execRxWindowClose (s : State) : Host.Outcome State Fault Refusal := .next s.windowClose

/-- R533, R543, R550: an OFDM SYNC symbol is met: its pattern, the input power in 0.5 dB steps, and the ratio of each data
subcarrier in 0.5 dB. -/
def execOfdmSyncAccepted (pattern : BitVec 48) (halfDbm : Int) (snr : List Int) (s : State) : Host.Outcome State Fault Refusal :=
  .next (s.ofdmSync pattern.toNat halfDbm snr)

/-- R534, R535, R539, R542: the header of a PPDU is decided from the soft values of its four symbols, 48 data sub-carriers each. -/
def execOfdmHeaderReceived (soft : List Int) (d : Disturb) (s : State) : Host.Outcome State Fault Refusal :=
  .next (s.headerReceived (headerOfSoft soft) d)

/-- R579 to R581: the payload of a PPDU is decoded from the soft values of its stream, in the order of R574; `hit` is a byte that a fault changes
between the check of the CRC-32 and the radio buffer (Table 7.6). -/
def execOfdmPpduDecoded (soft : List Int) (hit : Option (Fin 1024 × Byte)) (s : State) : Host.Outcome State Fault Refusal :=
  .next (s.ppduDecoded soft hit)

/-- R549, R550: a robust sync word is met. -/
def execRobustSyncAccepted (sync : Word) (halfDbm : Int) (s : State) : Host.Outcome State Fault Refusal :=
  .next (s.robustSync sync.toNat halfDbm)

/-- R549, R601: a robust frame has ended: its bits as they are on the air. -/
def execRobustFrameReceived (air : List Bool) (s : State) : Host.Outcome State Fault Refusal := .next (s.robustReceived air)

/-- R552: CAL_NOW is written. -/
def execCalNow (m : Master) (s : State) : Host.Outcome State Fault Refusal :=
  .next (s.cmdWrite m (pageAddr 0x15 0x34) 4 (setBits (s.fieldWord (pageAddr 0x15 0x34)) 8 1 1))

/-- R552: CAL_INTERVAL has passed since the last calibration. -/
def execRfCalDue (s : State) : Host.Outcome State Fault Refusal := .next s.calInterval

/-- R552, R621: a due calibration takes the slot. -/
def execRfCalTakeover (s : State) : Host.Outcome State Fault Refusal := .next s.calTakeover

/-- R552, R553: a calibration ends. -/
def execCalDone (s : State) : Host.Outcome State Fault Refusal := .next s.calDone

/-- R554, R620: the PLL loses lock. -/
def execPllUnlock (d : Disturb) (s : State) : Host.Outcome State Fault Refusal := .next (s.pllUnlock d)

end Sys2Proof.Machine
end

