-- ==== Sys2Proof/Machine/CmdReset.lean ====
section
/-!
DEFINITION. The meanings of the commands of resets, start-up, fuses and boot (chapter 5), with the pads' supply (R81).
-/

namespace Sys2Proof.Machine

/-- R199: a power-on reset takes hold, once a source is valid while none was or OFF is left. -/
def execPor (s : State) : Host.Outcome State Fault Refusal := .next s.porStart

/-- R199: POR is released. -/
def execPorRelease (s : State) : Host.Outcome State Fault Refusal := .next s.porEnd

/-- R109: a brown-out; `retained` tells whether the always-on supply stays above its retention level (R199). -/
def execBrownOut (retained : Bool) (s : State) : Host.Outcome State Fault Refusal := .next (s.brownOut retained)

/-- R62, R191 to R193: the fuse shadow is loaded. -/
def execFuseLoad (s : State) : Host.Outcome State Fault Refusal := .next s.fuseLoad

/-- R198: the keeper and core supplies are up; XO40 is started. -/
def execSupplyTreeUp (s : State) : Host.Outcome State Fault Refusal := .next s.supplyTree

/-- R198: V5OUT and V33OUT are up, after the fuse load. -/
def execOutputRailsUp (s : State) : Host.Outcome State Fault Refusal :=
  .next (s.when (s.rst.inReset && s.rst.fuseLoaded) (fun s => { s with supply := { s.supply with railsUp := true } }))

/-- R81: VIO is present; the pads stand at these levels. -/
def execVioPresent (levels : BitVec 48) (s : State) : Host.Outcome State Fault Refusal := .next (s.vioOn levels)

/-- R81: VIO is absent. -/
def execVioAbsent (s : State) : Host.Outcome State Fault Refusal := .next s.vioOff

/-- R136: XO40 is stable. -/
def execXo40Stable (s : State) : Host.Outcome State Fault Refusal := .next s.xo40Stable

/-- R136: the PLLs lock. -/
def execPllLock (s : State) : Host.Outcome State Fault Refusal := .next s.pllLock

/-- R198, R295, R298: the TRNG's start-up tests end; the keys are drawn. -/
def execTrngStartupTests (pass : Bool) (s : State) : Host.Outcome State Fault Refusal := .next (s.trngTests pass)

/-- R148: a memory that lost power is initialised. -/
def execMemoryInit (b : MemBlock) (s : State) : Host.Outcome State Fault Refusal := .next (s.initBlock b)

/-- R198: start-up readiness. -/
def execStartUpReadiness (s : State) : Host.Outcome State Fault Refusal := .next s.readiness

/-- R181, R85: a filtered low on RESET_N, which a boundary-scan test instruction keeps from the reset logic. -/
def execResetNLow (s : State) : Host.Outcome State Fault Refusal := .next (s.when (!s.testMode) State.padLow)

/-- R182: RESET_STRETCH elapses. -/
def execResetStretchExpiry (s : State) : Host.Outcome State Fault Refusal := .next s.stretchEnd

/-- R183, R85: RESET_N has been high for 10 µs; a test instruction keeps that from the reset logic. -/
def execResetNHighRelease (s : State) : Host.Outcome State Fault Refusal := .next (s.when (!s.testMode) State.padHigh)

/-- R200, R201, R202: the boot sequencer checks the image header. -/
def execBootSequencerCheck (d : Disturb) (s : State) : Host.Outcome State Fault Refusal := .next (s.bootCheck d)

/-- R200: the copy into keeper SRAM ends; hart M starts. -/
def execBootCopyDone (d : Disturb) (s : State) : Host.Outcome State Fault Refusal := .next (s.bootCopied d)

/-- R178, R184, R197: the system-level resets that were asked for take effect. -/
def execSystemReset (s : State) : Host.Outcome State Fault Refusal := .next s.resetDue

/-- R176: RSTC_SWRESET is written with SYS, the key and the TEN bits of `v`. -/
def execSwresetSys (m : Master) (v : Word) (s : State) : Host.Outcome State Fault Refusal :=
  .next (s.cmdWrite m (pageAddr 1 0x1C) 4 (0x6C0A0001 + bits v.toNat 1 3 * 2))

/-- R176: RSTC_SWRESET is written with the key and the TEN bits of `v`. -/
def execSwresetTenant (m : Master) (v : Word) (s : State) : Host.Outcome State Fault Refusal :=
  .next (s.cmdWrite m (pageAddr 1 0x1C) 4 (0x6C0A0000 + bits v.toNat 1 3 * 2))

/-- R206, R208, R209: the forced quiesce of Tn completes. -/
def execTenRstDone (n : Tid) (s : State) : Host.Outcome State Fault Refusal := .next (s.quiesceDone n.toNat)

/-- R176: the junction exceeds 150 °C. -/
def execThermalShutdown (s : State) : Host.Outcome State Fault Refusal :=
  .next (s.when s.alive (fun s => (s.askReset .thermal).modRst (fun r => { r with thermalHold := true })))

/-- R176, R217: the junction has fallen below 125 °C. -/
def execThermalShutdownEnd (s : State) : Host.Outcome State Fault Refusal :=
  .next ((s.modRst (fun r => { r with thermalHold := false })).leaveReset)

/-- R165: the junction exceeds the warning threshold. -/
def execThermWarn (s : State) : Host.Outcome State Fault Refusal := .next (s.when s.alive State.thermWarn)

/-- R165: the junction is below the warning threshold again. -/
def execThermHotClear (below125 : Bool) (s : State) : Host.Outcome State Fault Refusal := .next (s.thermClear below125)

/-- R194, R195: FUSE_CTRL is written with PROGRAM. -/
def execFuseProgram (m : Master) (v : Word) (s : State) : Host.Outcome State Fault Refusal :=
  .next (s.cmdWrite m (pageAddr 1 0x38) 4 (setBits v.toNat 8 2 1))

/-- R194, R197: the programming and its check end; the bits of `weak` did not blow. -/
def execFuseProgramDone (weak : Word) (s : State) : Host.Outcome State Fault Refusal := .next (s.fuseDone weak)

/-- R194: FUSE_CTRL is written with VERIFY. -/
def execFuseVerify (m : Master) (v : Word) (s : State) : Host.Outcome State Fault Refusal :=
  .next (s.cmdWrite m (pageAddr 1 0x38) 4 (setBits v.toNat 8 2 2))

/-- R203: RSTC_HART_RUN is written. -/
def execRstcHartRunWrite (m : Master) (v : Word) (s : State) : Host.Outcome State Fault Refusal :=
  .next (s.cmdWrite m (pageAddr 1 0x20) 4 v.toNat)

end Sys2Proof.Machine
end

