-- ==== Sys2Proof/Machine/CmdSerial.lean ====
section
/-!
DEFINITION. The meanings of the commands of the serial units (chapter 9).
-/

namespace Sys2Proof.Machine

/-- R381: DATA of SPIn is written. -/
def execSpiDataWrite (m : Master) (n : Fin 2) (v : Word) (s : State) : Host.Outcome State Fault Refusal :=
  .next (s.cmdWrite m (pageAddr 0x22 (0x1C + 0x20 * n.val)) 4 v.toNat)

/-- R382: a frame of SPIn ends, with what was received; `none` tells that SCK begins a frame of the unit as a target (assumption log 12). -/
def execSpiFrameEnd (n : Fin 2) (rx : Option Word) (s : State) : Host.Outcome State Fault Refusal :=
  .next (match rx with
    | some v => s.spiEnd n.val v.toNat
    | none => s.spiBegin n.val)

/-- R381: DATA of SPIn is read. -/
def execSpiDataRead (m : Master) (n : Fin 2) (s : State) : Host.Outcome State Fault Refusal :=
  .next (s.cmdRead m (pageAddr 0x22 (0x1C + 0x20 * n.val)) 4 Upset.none)

/-- R381: DATA of UARTn is written. -/
def execUartDataWrite (m : Master) (n : Fin 2) (v : Word) (s : State) : Host.Outcome State Fault Refusal :=
  .next (s.cmdWrite m (pageAddr 0x22 (0x5C + 0x20 * n.val)) 4 v.toNat)

/-- R383: the character on the line of UARTn has been sent. -/
def execUartCharSent (n : Fin 2) (s : State) : Host.Outcome State Fault Refusal := .next (s.uartSent n.val)

/-- R383, R81: UARTn receives a character; none is seen while VIO is absent. -/
def execUartCharReceived (n : Fin 2) (ch : BitVec 9) (parityError framingError : Bool) (s : State) :
    Host.Outcome State Fault Refusal :=
  .next (s.uartTake n.val ch.toNat parityError framingError)

/-- R381, R383: DATA of UARTn is read. -/
def execUartDataRead (m : Master) (n : Fin 2) (s : State) : Host.Outcome State Fault Refusal :=
  .next (s.cmdRead m (pageAddr 0x22 (0x5C + 0x20 * n.val)) 4 Upset.none)

/-- R384: SEND is set, with LEN and DELIM of `v`. -/
def execSend (m : Master) (n : Fin 2) (v : Word) (s : State) : Host.Outcome State Fault Refusal :=
  .next (s.cmdWrite m (pageAddr 0x22 (0x60 + 0x20 * n.val)) 4 (setBits v.toNat 16 1 1))

/-- R384: the delimiter of a break has ended. -/
def execUartBreakSent (n : Fin 2) (s : State) : Host.Outcome State Fault Refusal := .next (s.uartBroke n.val)

/-- R384, R81: UARTn receives a break; none is seen while VIO is absent. -/
def execUartBreak (n : Fin 2) (s : State) : Host.Outcome State Fault Refusal := .next (s.uartBreakSeen n.val)

/-- A command of the I2C unit: OP and ARG. -/
def State.i2cCmd (s : State) (m : Master) (op arg : Nat) : State := s.cmdWrite m (pageAddr 0x22 0x94) 4 (op + arg * 2 ^ 8)

/-- R385: START_WRITE. -/
def execStartWrite (m : Master) (addr : BitVec 8) (s : State) : Host.Outcome State Fault Refusal := .next (s.i2cCmd m 1 addr.toNat)

/-- R385: START_READ. -/
def execStartRead (m : Master) (addr : BitVec 8) (s : State) : Host.Outcome State Fault Refusal := .next (s.i2cCmd m 2 addr.toNat)

/-- R385: WRITE. -/
def execI2cWrite (m : Master) (b : Byte) (s : State) : Host.Outcome State Fault Refusal := .next (s.i2cCmd m 3 b.toNat)

/-- R385: READ_ACK. -/
def execReadAck (m : Master) (s : State) : Host.Outcome State Fault Refusal := .next (s.i2cCmd m 4 0)

/-- R385: READ_NACK. -/
def execReadNack (m : Master) (s : State) : Host.Outcome State Fault Refusal := .next (s.i2cCmd m 5 0)

/-- R385: STOP. -/
def execI2cStop (m : Master) (s : State) : Host.Outcome State Fault Refusal := .next (s.i2cCmd m 6 0)

/-- R385: the command ends; the byte it received. -/
def execI2cCmdDone (nack : Bool) (data : Byte) (s : State) : Host.Outcome State Fault Refusal := .next (s.i2cEnd nack data.toNat)

/-- R386: another controller addresses the unit. -/
def execTgtAddr (addr : BitVec 7) (read : Bool) (s : State) : Host.Outcome State Fault Refusal := .next (s.i2cAddressed addr.toNat read)

/-- R386: firmware reads DATA or writes `v` to it; or the byte that it awaits passes on the bus, `v` from the controller (assumption log 12). -/
def execI2cTargetDataAccess (m : Master) (k : TargetStep) (v : Word) (s : State) : Host.Outcome State Fault Refusal :=
  .next (match k with
    | .byte => s.i2cByte v.toNat
    | .read => s.cmdRead m (pageAddr 0x22 0x9C) 4 Upset.none
    | .write => s.cmdWrite m (pageAddr 0x22 0x9C) 4 v.toNat)

/-- R386: a stop is seen in target mode. -/
def execTgtStop (s : State) : Host.Outcome State Fault Refusal := .next s.i2cStopSeen

/-- R387: a line has been low for 25 ms; `sdaLow` tells that SDA is low and SCL free. -/
def execStuck (sdaLow : Bool) (s : State) : Host.Outcome State Fault Refusal := .next (s.i2cStuck sdaLow)

/-- R388: arbitration is lost to a controller that sends this address. -/
def execArbLost (addr : BitVec 7) (read : Bool) (s : State) : Host.Outcome State Fault Refusal := .next (s.i2cLost addr.toNat read)

end Sys2Proof.Machine
end

