-- ==== Sys2Proof/Machine/CmdSupply.lean ====
section
/-!
DEFINITION. The meanings of the register write and of the commands of power entry (chapter 3): sources, mains, harvester, charge limit,
PGOOD, storage gauge and output rails.
-/

namespace Sys2Proof.Machine

/-- R9: a master writes the word at a register's address; each field takes it under its access code. -/
def execRegisterWrite (m : Master) (a v : Word) (s : State) : Host.Outcome State Fault Refusal :=
  .next (s.cmdWrite m (a.toNat / 4 * 4) 4 v.toNat)

/-- R88: a source becomes valid. It ends a brown-out (R109) and the cold start (R106); the return of VBAT ends OFF (R93). A mains primary
that is latched off delivers nothing, so VISO of a TD480-M does not become valid (R99). -/
def execSourceValid (src : Source) (s : State) : Host.Outcome State Fault Refusal :=
  .next (
    if src == .viso && s.isM && s.on SUPPLY.MAINS_FAULT then s
    else
      let back := src == .vbat && s.power.mode == .off && !s.on SUPPLY.VBAT_VALID
      let s := (s.put (srcField src) 1).when (src == .vbat) (fun s => s.put CANX.VBAT_OK 1)
      let s := { s with supply := { s.supply with coldStart := false } }
      (s.when back State.vbatReturn).powerBack)

/-- R88: a source becomes invalid; the selector moves, or a brown-out comes, with commands of their own. -/
def execSourceInvalid (src : Source) (s : State) : Host.Outcome State Fault Refusal :=
  .next ((s.put (srcField src) 0).when (src == .vbat) (fun s => s.put CANX.VBAT_OK 0))

/-- R89, R90: the selector's change of source completes. -/
def execSrcChange (s : State) : Host.Outcome State Fault Refusal := .next s.changeSource

/-- R100, R101, R93: MAINS_PRESENT changes on a TD480-M. Its rise is the mains-arrival wake source and ends OFF. It is 1 only while the
primary runs, so not while it is latched off. -/
def execMainsPresentChange (present : Bool) (s : State) : Host.Outcome State Fault Refusal :=
  .next (
    if !s.isM || s.on SUPPLY.MAINS_PRESENT == present || (present && s.on SUPPLY.MAINS_FAULT) then s
    else
      let s := s.putB SUPPLY.MAINS_PRESENT present
      if s.power.mode == .off then s.when present State.exitOff
      else if s.alive then (s.raise SUPPLY.MAINS_CHANGE).when present (fun s => s.wake 6)
      else s)

/-- R99 to R101: the mains primary latches off; it no longer runs, so MAINS_PRESENT reads 0 (assumption log 29, DEDUCED). -/
def execMainsFaultLatch (s : State) : Host.Outcome State Fault Refusal :=
  .next (
    if !s.isM || s.on SUPPLY.MAINS_FAULT then s
    else ((s.put SUPPLY.MAINS_FAULT 1).put SUPPLY.MAINS_PRESENT 0).when s.alive (fun s => s.raise SUPPLY.MAINS_CHANGE))

/-- R99, R101: the latch clears after the mains has been absent for at least 1 s. -/
def execMainsLatchClear (s : State) : Host.Outcome State Fault Refusal :=
  .next (
    if !s.on SUPPLY.MAINS_FAULT || s.on SUPPLY.MAINS_PRESENT then s
    else (s.put SUPPLY.MAINS_FAULT 0).when s.alive (fun s => s.raise SUPPLY.MAINS_CHANGE))

/-- R104, R132: MPPT_PERIOD expires: a measurement falls due, and starts while ADC-B is idle; after a gauge sample that ADC-B is converting,
which ends first (R49). -/
def execMpptDue (s : State) : Host.Outcome State Fault Refusal :=
  .next (
    if s.harvOn && s.alive && s.bestSource != 0 then
      let converting := s.supply.sampleDue
      ({ s with supply := { s.supply with mpptDue := true } }).when (!converting) State.tryMppt
    else s)

/-- R104, R105: MPPT_SETTLE elapses: ADC-B converts VHARV/2, the input reconnects, the boost regulates to k × Voc. -/
def execMpptSettleEnd (mv : Fin 8192) (s : State) : Host.Outcome State Fault Refusal :=
  .next (
    if !s.supply.inputOpen then s
    else (s.takeVoc mv.val).bgStep)

/-- R106: the cold-start charger runs while no source is valid: from 0.38 V and 15 µW at VHARV on, until either is missing. -/
def execColdStart (on : Bool) (s : State) : Host.Outcome State Fault Refusal :=
  .next (if s.bestSource == 0 then { s with supply := { s.supply with coldStart := on } } else s)

/-- R107: VSTORE reaches the charge limit; the boost stops. -/
def execChgLimitHit (s : State) : Host.Outcome State Fault Refusal :=
  .next (if s.alive && !s.on SUPPLY.AT_LIMIT then (s.put SUPPLY.AT_LIMIT 1).raise SUPPLY.CHG_LIMIT_HIT else s)

/-- R107, R131: VSTORE has fallen 50 mV below the limit; the boost goes on. -/
def execChargeRestart (s : State) : Host.Outcome State Fault Refusal := .next (s.put SUPPLY.AT_LIMIT 0)

/-- R110, R113: VSTORE exceeds the ON threshold. -/
def execPgoodRise (s : State) : Host.Outcome State Fault Refusal := .next (s.when s.alive (fun s => s.setComp true))

/-- R110, R113: VSTORE falls below the OFF threshold. -/
def execPgoodFall (s : State) : Host.Outcome State Fault Refusal := .next (s.when s.alive (fun s => s.setComp false))

/-- R111, R130: SUPPLY_PGOOD is written. -/
def execSupplyPgoodWrite (m : Master) (v : Word) (s : State) : Host.Outcome State Fault Refusal :=
  .next (s.cmdWrite m (pageAddr 3 0x14) 4 v.toNat)

/-- R115: V_PERIOD expires: a gauge sample falls due. -/
def execGaugeSampleDue (c : GaugeCount) (s : State) : Host.Outcome State Fault Refusal :=
  .next (
    let s := (s.gaugeCount c).judgeUnc
    if s.on SUPPLY.GAUGE_EN && s.alive then { s with supply := { s.supply with sampleDue := true } } else s)

/-- R116: the current has been in the rest band for REST_TIME: a sample falls due at once. -/
def execRestTimeExpiry (s : State) : Host.Outcome State Fault Refusal :=
  .next (
    if s.on SUPPLY.GAUGE_EN && s.alive && s.supply.inBand then
      { s with supply := { s.supply with restElapsed := true, sampleDue := true } }
    else s)

/-- R116: the sample of the rest completes, with the current still in the band: the gauge takes a reference. -/
def execRestTaken (mv : Fin 8192) (c : GaugeCount) (s : State) : Host.Outcome State Fault Refusal :=
  .next (
    let s := s.gaugeCount c
    s.when (s.on SUPPLY.GAUGE_EN && s.alive && s.supply.inBand && s.supply.restElapsed && s.gaugeFree) (fun s => s.gaugeSampled mv.val))

/-- R118: what the gauge has counted puts GAUGE_UNC above UNC_LIMIT. -/
def execUncOver (c : GaugeCount) (s : State) : Host.Outcome State Fault Refusal := .next (s.gaugeCount c).judgeUnc

/-- R119: GAUGE_CHARGE is read; the read latches the gauge set. -/
def execGaugeChargeRead (m : Master) (c : GaugeCount) (s : State) : Host.Outcome State Fault Refusal :=
  .next ((s.gaugeCount c).judgeUnc.cmdRead m (pageAddr 3 0x30) 4 Upset.none)

/-- R116, R129: the storage current enters the rest band, which starts the rest timer, or leaves it. -/
def execStorageCurrentBandChange (inside : Bool) (c : GaugeCount) (s : State) : Host.Outcome State Fault Refusal :=
  .next (
    let s := (s.gaugeCount c).judgeUnc
    { s with supply := { s.supply with inBand := inside, restElapsed := false } })

/-- R121: an output rail enters current limit. -/
def execRailFault (r : Rail) (s : State) : Host.Outcome State Fault Refusal :=
  .next (if s.railOn r then (s.put (railFlag r) 1).raise SUPPLY.RAIL_FAULT else s)

/-- R121: the retry of a rail meets the overload again, or the rail is on. -/
def execRailRetry (r : Rail) (overloaded : Bool) (s : State) : Host.Outcome State Fault Refusal :=
  .next (
    if s.railOn r && s.on (railFlag r) then
      if overloaded then s.raise SUPPLY.RAIL_FAULT else s.put (railFlag r) 0
    else s)

end Sys2Proof.Machine
end

