-- ==== Sys2Proof/Machine/CmdTenant.lean ====
section
/-!
DEFINITION. The meanings of the commands of tenants (chapter 6): ownership, locks, quotas, the harts' loads, fetches and stores, fault
records and watchdogs.
-/

namespace Sys2Proof.Machine

/-- R229, R231: TEN_OWN_DATA is written. -/
def execTenOwnDataWrite (m : Master) (v : Word) (s : State) : Host.Outcome State Fault Refusal :=
  .next (s.cmdWrite m (pageAddr 5 0x1C) 4 v.toNat)

/-- R29, R52: a resource reaches its idle point; a change of owner that waits for it takes effect. -/
def execOwnerChangeIdlePoint (table : Fin 13) (entry : Fin 256) (s : State) : Host.Outcome State Fault Refusal :=
  .next (s.when (s.ownerIdle table.val entry.val) (fun s => s.ownerSwitch table.val entry.val))

/-- R228: PAGE_OWN.LOCK of a page is set; ATTR is written as it stands. -/
def execPageLockWrite (m : Master) (page : Fin 36) (s : State) : Host.Outcome State Fault Refusal :=
  .next (s.cmdWrite m (pageAddr page.val 4) 4 (0x20 + s.get (HDR.ATTR page.val) * 0x10))

/-- R30: a word of two quotas is written. -/
def execQuotaWrite (m : Master) (pair : Fin 2) (v : Word) (s : State) : Host.Outcome State Fault Refusal :=
  .next (s.cmdWrite m (pageAddr 0xE (0x10 + 4 * pair.val)) 4 v.toNat)

/-- R234, R241: a hart loads. -/
def execHartLoad (h : Fin 4) (rd : Fin 64) (a : Word) (w : Width) (signed : Bool) (u : Upset) (s : State) :
    Host.Outcome State Fault Refusal :=
  .next (s.hartLoad h rd.val a.toNat (widthBytes w) signed u)

/-- R235: a hart fetches. -/
def execHartFetch (h : Fin 4) (a : Word) (u : Upset) (s : State) : Host.Outcome State Fault Refusal := .next (s.hartFetch h a.toNat u)

/-- R238: a store within the hart's own island is judged before it retires. -/
def execHartStoreLocal (h : Fin 4) (a : Word) (w : Width) (v : Word) (u : Upset) (s : State) : Host.Outcome State Fault Refusal :=
  .next (s.storeLocal h a.toNat (widthBytes w) v.toNat u)

/-- R238 to R240: a store outside the hart's island enters its posting buffer. -/
def execPostedStore (h : Fin 4) (a : Word) (w : Width) (v : Word) (s : State) : Host.Outcome State Fault Refusal :=
  .next (s.postStore h a.toNat w v)

/-- R241 to R243: the oldest posted store of a hart to an island is judged at its target. -/
def execPostedStoreDone (h : Fin 4) (i : Island) (left : Nat) (u : Upset) (s : State) : Host.Outcome State Fault Refusal :=
  .next (s.postDone h i left u)

/-- R244: FAULTn_FENCE is read. -/
def execFaultnFenceRead (m : Master) (n : Tid) (s : State) : Host.Outcome State Fault Refusal := .next (s.fenceRead m n)

/-- R244: the fence read of Hn returns. -/
def execFenceReturn (n : Tid) (s : State) : Host.Outcome State Fault Refusal := .next (s.fenceReturn n)

/-- R247: FAULTn_REC3 is read; the read by Tn removes the oldest record. -/
def execFaultnRec3Read (m : Master) (n : Tid) (s : State) : Host.Outcome State Fault Refusal :=
  .next (s.cmdRead m (pageAddr (6 + n.toNat) 0x1C) 4 Upset.none)

/-- R252: WDTn_SERVICE is written, `us` after the window began. -/
def execWdtServiceWrite (m : Master) (n : Tid) (v : Word) (us : Nat) (s : State) : Host.Outcome State Fault Refusal :=
  .next (s.cmdService m (pageAddr 0x23 (0x20 + 0x20 * n.toNat)) v.toNat us)

/-- R253: LEAD µs are left of a watchdog's window. -/
def execWdtWarn (n : Tid) (s : State) : Host.Outcome State Fault Refusal :=
  .next (s.when (s.wdtRuns n.toNat && s.get (WDT.LEAD n.toNat) != 0) (fun s => s.raise WDT.WARN n.toNat))

/-- R252, R253, R44: a watchdog's window has passed without a valid service. -/
def execWatchdogExpiry (n : Tid) (s : State) : Host.Outcome State Fault Refusal :=
  .next (s.when (s.wdtRuns n.toNat) (fun s => s.wdtExpire n.toNat 0))

/-- R254: WDTn_CTRL.LOCK is set; EN is written as it stands. -/
def execWdtLockWrite (m : Master) (n : Tid) (s : State) : Host.Outcome State Fault Refusal :=
  .next (s.cmdWrite m (pageAddr 0x23 (0x10 + 0x20 * n.toNat)) 4 (2 + s.get (WDT.EN n.toNat)))

end Sys2Proof.Machine
end

