-- ==== Sys2Proof/Machine/CmdTime.lean ====
section
/-!
DEFINITION. The meanings of the commands of network time (chapter 10).
-/

namespace Sys2Proof.Machine

/-- R401: SET. -/
def execNtuSet (m : Master) (s : State) : Host.Outcome State Fault Refusal := .next (s.cmdWrite m (pageAddr 0x11 0x18) 4 2)

/-- R410: ACCEPT_NEXT is armed. -/
def execAcceptNext (m : Master) (s : State) : Host.Outcome State Fault Refusal := .next (s.cmdWrite m (pageAddr 0x11 0x18) 4 1)

/-- R409, R412, R413: NTU_SERVO is written. -/
def execServoEnWrite (m : Master) (v : Word) (s : State) : Host.Outcome State Fault Refusal :=
  .next (s.cmdWrite m (pageAddr 0x11 0x10) 4 v.toNat)

/-- R409 to R415: a sample of source `src` reaches the servo: master time minus local time in ns, and the master's identity. -/
def execServoSample (src : Fin 4) (diff : Int) (ident : BitVec 16) (s : State) : Host.Outcome State Fault Refusal :=
  .next (s.servoSample src.val diff ident.toNat)

/-- R400: NTU_TIME_SEC_LO is read. -/
def execNtuTimeSecLoRead (m : Master) (s : State) : Host.Outcome State Fault Refusal :=
  .next (s.cmdRead m (pageAddr 0x11 0x40) 4 Upset.none)

/-- R403, R405: NTU_CHc_CFG is written with ARM. -/
def execNtuArm (m : Master) (c : Fin 16) (v : Word) (s : State) : Host.Outcome State Fault Refusal :=
  .next (s.cmdWrite m (pageAddr 0x11 (0x100 + 0x10 * c.val)) 4 (setBits v.toNat 2 1 1))

/-- R403, R405: A, B or C of a channel is written. -/
def execNtuCompareTargetWrite (m : Master) (c : Fin 16) (r : Fin 3) (v : Word) (s : State) : Host.Outcome State Fault Refusal :=
  .next (s.cmdWrite m (pageAddr 0x11 (0x104 + 0x10 * c.val + 4 * r.val)) 4 v.toNat)

/-- R403, R404: a relative compare is judged at a tick. -/
def execRelativeCompareFire (c : Fin 16) (s : State) : Host.Outcome State Fault Refusal := .next (s.judgeRelative c.val)

/-- R405: an absolute compare is judged at the last judgement point. -/
def execAbsoluteCompareFire (c : Fin 16) (s : State) : Host.Outcome State Fault Refusal := .next (s.judgeTick c.val)

/-- R407, R81: an edge at the capture input of a channel; a pad gives none while VIO is absent. -/
def execNtuCapture (c : Fin 16) (rising : Bool) (s : State) : Host.Outcome State Fault Refusal :=
  .next (s.when (s.fab.vio || s.get (NTU.CH_CAPSEL c.val) != 1) (fun s => s.captureEdge c.val rising))

/-- R408: C of a channel is read. -/
def execNtuCaptureCRead (m : Master) (c : Fin 16) (s : State) : Host.Outcome State Fault Refusal :=
  .next (s.cmdRead m (pageAddr 0x11 (0x10C + 0x10 * c.val)) 4 Upset.none)

/-- R428: NTU_CHc_CFG is written with a MODE. -/
def execNtuChModeWrite (m : Master) (c : Fin 16) (v : Word) (s : State) : Host.Outcome State Fault Refusal :=
  .next (s.cmdWrite m (pageAddr 0x11 (0x100 + 0x10 * c.val)) 4 v.toNat)

/-- R418, R419: the SYNC and FOLLOW-UP of a controller are paired. -/
def execSyncPaired (x : Fin 2) (s : State) : Host.Outcome State Fault Refusal := .next (s.pairSync x.val)

/-- R418: FU_WINDOW has passed without a FOLLOW-UP. -/
def execSyncUnpairedDiscard (x : Fin 2) (s : State) : Host.Outcome State Fault Refusal := .next (s.dropSync x.val)

/-- R414, R81: a rising edge on NTU_CAP0; none is seen while VIO is absent. -/
def execPpsEdge (s : State) : Host.Outcome State Fault Refusal := .next (s.when s.fab.vio State.ppsEdge)

/-- R420: NTU_PPS_OUT goes high where NS has wrapped. -/
def execNtuPpsOut (s : State) : Host.Outcome State Fault Refusal := .next s.ppsRise

/-- R420: PPS_WIDTH has elapsed. -/
def execPpsOutEnd (s : State) : Host.Outcome State Fault Refusal := .next { s with ntu := { s.ntu with ppsOut := false } }

end Sys2Proof.Machine
end

