-- ==== Sys2Proof/Machine/CmdTooth.lean ====
section
/-!
DEFINITION. The meanings of the commands of the tooth tracker (chapter 17).
-/

namespace Sys2Proof.Machine

/-- The address of the first register of tooth channel `c`. -/
def toothBase (c : Fin 4) : Nat := pageAddr 0x1B (0x100 + 0x80 * c.val)

/-- R682: the configuration word of a channel is written. -/
def execToothEnWrite (m : Master) (c : Fin 4) (v : Word) (s : State) : Host.Outcome State Fault Refusal :=
  .next (s.cmdWrite m (toothBase c) 4 v.toNat)

/-- R680 to R687: a level on TTHc has held since its crossing, `age` cycles ago. -/
def execToothEdge (c : Fin 4) (rising : Bool) (age : Nat) (s : State) : Host.Outcome State Fault Refusal :=
  .next (s.when s.fab.vio (fun s => s.toothEdge c.val rising age))

/-- R686, R688: no edge has come by L + mP. -/
def execMissed (c : Fin 4) (s : State) : Host.Outcome State Fault Refusal := .next (s.toothMissed c.val)

/-- R690: a schedule is armed. -/
def execScheduleArm (m : Master) (c : Fin 4) (j : Fin 8) (v : Word) (s : State) : Host.Outcome State Fault Refusal :=
  .next (s.cmdWrite m (toothBase c + 0x44 + 8 * j.val) 4 (setBits v.toNat 0 1 1))

/-- R690, R691: a schedule that is judged in this cycle has been reached; those of its channel that have been reached too fire with it. An exact
one is judged as COUNT changes, not here, unless its target has moved. -/
def execScheduleFire (c : Fin 4) (j : Fin 8) (s : State) : Host.Outcome State Fault Refusal :=
  .next (s.when (s.up .control && s.on (TOOTH.S_ARMED c.val j.val) && s.scheduleReached c.val j.val && s.scheduleDue c.val j.val)
    (fun s => s.judgeSchedules c.val ((List.range 8).filter (s.scheduleDue c.val))))

end Sys2Proof.Machine
end

