-- ==== Sys2Proof/Machine/CmdTrx.lean ====
section
/-!
DEFINITION. The meanings of the commands of the CAN-A transceiver and of sleep (chapter 12).
-/

namespace Sys2Proof.Machine

/-- R498, R500, R506: NORMAL is written to MODE. -/
def execCanxModeNormal (m : Master) (s : State) : Host.Outcome State Fault Refusal := .next (s.cmdWrite m (pageAddr 0x14 0x10) 4 0)

/-- R498, R500, R506: LISTEN is written to MODE. -/
def execCanxModeListen (m : Master) (s : State) : Host.Outcome State Fault Refusal := .next (s.cmdWrite m (pageAddr 0x14 0x10) 4 1)

/-- R498, R500, R506: STANDBY is written to MODE. -/
def execCanxModeStandby (m : Master) (s : State) : Host.Outcome State Fault Refusal := .next (s.cmdWrite m (pageAddr 0x14 0x10) 4 2)

/-- R504, R506: SLEEP is written to MODE. -/
def execCanxModeSleep (m : Master) (s : State) : Host.Outcome State Fault Refusal := .next (s.cmdWrite m (pageAddr 0x14 0x10) 4 3)

/-- R506 to R508: SLEEP is entered, and the module goes to OFF. -/
def execSleepEntry (s : State) : Host.Outcome State Fault Refusal := .next s.sleepEntry

/-- R507: the fail-safe timer expires. -/
def execFsTimerExpiry (s : State) : Host.Outcome State Fault Refusal := .next s.fsExpire

/-- R502: the transmit signal has been dominant beyond the time-out, which it cannot have been but within a frame. -/
def execTxdTimeout (s : State) : Host.Outcome State Fault Refusal :=
  .next (s.when (s.alive && s.driverOn && s.canSpeaks) (fun s => (s.put CANX.TXD_OFF 1).raise CANX.TXD_TIMEOUT))

/-- R509, R510: a wake-up pattern. -/
def execWup (s : State) : Host.Outcome State Fault Refusal := .next s.wakePattern

/-- R510, R511: the decoder meets a frame with correct stuffing, form and CRC. -/
def execWuf (f : CanFrame) (s : State) : Host.Outcome State Fault Refusal := .next (s.decoderFrame f)

/-- R511: the decoder meets a frame with an error; `fd` tells an FD frame. -/
def execFrameErr (fd : Bool) (s : State) : Host.Outcome State Fault Refusal := .next (s.decoderBadFrame fd)

/-- R512: the filtered level of WAKE changes. -/
def execPadWake (level : Bool) (s : State) : Host.Outcome State Fault Refusal := .next (s.wakePad level)

/-- R510: the bus has been recessive for tSILENCE. -/
def execDecoderSilence (s : State) : Host.Outcome State Fault Refusal :=
  .next { s with trx := { s.trx with decoding := false, inUse := [] } }

/-- R496, R505, R522: VBAT falls below 3.0 V. -/
def execVbatRetentionLoss (s : State) : Host.Outcome State Fault Refusal := .next s.vbatLost

/-- R489, R500, R501: a transition of the transceiver is complete. -/
def execModeChanged (s : State) : Host.Outcome State Fault Refusal := .next (s.trxMove.canSilence 0)

/-- R497: VBAT rises past 3.0 V. -/
def execVbatPartPowerUp (s : State) : Host.Outcome State Fault Refusal := .next s.vbatStart

end Sys2Proof.Machine
end

