-- ==== Sys2Proof/Machine/Dispatch.lean ====
section
/-!
DEFINITION. The one match over the commands: each arm calls the meaning of its row. Machine/Step.lean takes the command from
the queue before it comes here.
-/

namespace Sys2Proof.Machine

/-- The effect of a command on everything but the queue. -/
def exec (i : Instr) (s : State) : Host.Outcome State Fault Refusal :=
  match i with
  | .registerWrite m a v => Sys2Proof.Machine.execRegisterWrite m a v s
  | .sourceValid src => Sys2Proof.Machine.execSourceValid src s
  | .sourceInvalid src => Sys2Proof.Machine.execSourceInvalid src s
  | .mainsPresentChange present => Sys2Proof.Machine.execMainsPresentChange present s
  | .brownOut retained => Sys2Proof.Machine.execBrownOut retained s
  | .vioPresent levels => Sys2Proof.Machine.execVioPresent levels s
  | .trngStartupTests pass => Sys2Proof.Machine.execTrngStartupTests pass s
  | .memoryInit b => Sys2Proof.Machine.execMemoryInit b s
  | .bootSequencerCheck d => Sys2Proof.Machine.execBootSequencerCheck d s
  | .bootCopyDone d => Sys2Proof.Machine.execBootCopyDone d s
  | .swresetSys m v => Sys2Proof.Machine.execSwresetSys m v s
  | .swresetTenant m v => Sys2Proof.Machine.execSwresetTenant m v s
  | .tenRstDone n => Sys2Proof.Machine.execTenRstDone n s
  | .fuseProgram m v => Sys2Proof.Machine.execFuseProgram m v s
  | .fuseProgramDone weak => Sys2Proof.Machine.execFuseProgramDone weak s
  | .fuseVerify m v => Sys2Proof.Machine.execFuseVerify m v s
  | .rstcHartRunWrite m v => Sys2Proof.Machine.execRstcHartRunWrite m v s
  | .lfCalWindowEnd edge => Sys2Proof.Machine.execLfCalWindowEnd edge s
  | .opCmdWrite m v => Sys2Proof.Machine.execOpCmdWrite m v s
  | .pwrIslandClear m v => Sys2Proof.Machine.execPwrIslandClear m v s
  | .pwrIslandSet m v => Sys2Proof.Machine.execPwrIslandSet m v s
  | .islandRelease i1 => Sys2Proof.Machine.execIslandRelease i1 s
  | .modeReqWrite m v => Sys2Proof.Machine.execModeReqWrite m v s
  | .wakeDetect src => Sys2Proof.Machine.execWakeDetect src s
  | .mpptSettleEnd mv => Sys2Proof.Machine.execMpptSettleEnd mv s
  | .coldStart on => Sys2Proof.Machine.execColdStart on s
  | .supplyPgoodWrite m v => Sys2Proof.Machine.execSupplyPgoodWrite m v s
  | .gaugeSampleDue c => Sys2Proof.Machine.execGaugeSampleDue c s
  | .restTaken mv c => Sys2Proof.Machine.execRestTaken mv c s
  | .uncOver c => Sys2Proof.Machine.execUncOver c s
  | .gaugeChargeRead m c => Sys2Proof.Machine.execGaugeChargeRead m c s
  | .railFault r => Sys2Proof.Machine.execRailFault r s
  | .railRetry r overloaded => Sys2Proof.Machine.execRailRetry r overloaded s
  | .tenOwnDataWrite m v => Sys2Proof.Machine.execTenOwnDataWrite m v s
  | .ownerChangeIdlePoint table entry => Sys2Proof.Machine.execOwnerChangeIdlePoint table entry s
  | .pageLockWrite m page => Sys2Proof.Machine.execPageLockWrite m page s
  | .quotaWrite m pair v => Sys2Proof.Machine.execQuotaWrite m pair v s
  | .hartLoad h rd a w signed u => Sys2Proof.Machine.execHartLoad h rd a w signed u s
  | .hartFetch h a u => Sys2Proof.Machine.execHartFetch h a u s
  | .hartStoreLocal h a w v u => Sys2Proof.Machine.execHartStoreLocal h a w v u s
  | .postedStore h a w v => Sys2Proof.Machine.execPostedStore h a w v s
  | .postedStoreDone h i1 left u => Sys2Proof.Machine.execPostedStoreDone h i1 left u s
  | .faultnFenceRead m n => Sys2Proof.Machine.execFaultnFenceRead m n s
  | .fenceReturn n => Sys2Proof.Machine.execFenceReturn n s
  | .faultnRec3Read m n => Sys2Proof.Machine.execFaultnRec3Read m n s
  | .wdtServiceWrite m n v us => Sys2Proof.Machine.execWdtServiceWrite m n v us s
  | .wdtWarn n => Sys2Proof.Machine.execWdtWarn n s
  | .watchdogExpiry n => Sys2Proof.Machine.execWatchdogExpiry n s
  | .wdtLockWrite m n => Sys2Proof.Machine.execWdtLockWrite m n s
  | .flashCmdProgram m n v => Sys2Proof.Machine.execFlashCmdProgram m n v s
  | .flashCmdErase m n v => Sys2Proof.Machine.execFlashCmdErase m n v s
  | .flashCmdGenBump m n v => Sys2Proof.Machine.execFlashCmdGenBump m n v s
  | .flashPulseEnd ok => Sys2Proof.Machine.execFlashPulseEnd ok s
  | .eraseSegmentEnd ok => Sys2Proof.Machine.execEraseSegmentEnd ok s
  | .flashReadDuringErase data => Sys2Proof.Machine.execFlashReadDuringErase data s
  | .scrubPass single double => Sys2Proof.Machine.execScrubPass single double s
  | .crcDataWrite m w v => Sys2Proof.Machine.execCrcDataWrite m w v s
  | .crcRestart m init v => Sys2Proof.Machine.execCrcRestart m init v s
  | .trngDataRead m => Sys2Proof.Machine.execTrngDataRead m s
  | .wfi h => Sys2Proof.Machine.execWfi h s
  | .lr h rd a u => Sys2Proof.Machine.execLr h rd a u s
  | .sc h rd a v cycles u => Sys2Proof.Machine.execSc h rd a v cycles u s
  | .amo h op rd a v u => Sys2Proof.Machine.execAmo h op rd a v u s
  | .fenceI h => Sys2Proof.Machine.execFenceI h s
  | .illegalInstruction h insn => Sys2Proof.Machine.execIllegalInstruction h insn s
  | .sysMtimeLoRead m => Sys2Proof.Machine.execSysMtimeLoRead m s
  | .mtimecmpReached n => Sys2Proof.Machine.execMtimecmpReached n s
  | .irqnMsipWrite m n v => Sys2Proof.Machine.execIrqnMsipWrite m n v s
  | .irqnClaimRead m n => Sys2Proof.Machine.execIrqnClaimRead m n s
  | .irqnClaimWrite m n v => Sys2Proof.Machine.execIrqnClaimWrite m n v s
  | .qmgrAllocRead m => Sys2Proof.Machine.execQmgrAllocRead m s
  | .qpushWrite m q v => Sys2Proof.Machine.execQpushWrite m q v s
  | .qmgrFreeWrite m v => Sys2Proof.Machine.execQmgrFreeWrite m v s
  | .qmgrCancelWrite m v d => Sys2Proof.Machine.execQmgrCancelWrite m v d s
  | .queueStart k => Sys2Proof.Machine.execQueueStart k s
  | .consumerTake c bad => Sys2Proof.Machine.execConsumerTake c bad s
  | .descriptorComplete c => Sys2Proof.Machine.execDescriptorComplete c s
  | .deadlineMissed slot => Sys2Proof.Machine.execDeadlineMissed slot s
  | .copy ch n d => Sys2Proof.Machine.execCopy ch n d s
  | .fill ch n d => Sys2Proof.Machine.execFill ch n d s
  | .crc d => Sys2Proof.Machine.execCrc d s
  | .ecbEnc n d => Sys2Proof.Machine.execEcbEnc n d s
  | .ecbDec n d => Sys2Proof.Machine.execEcbDec n d s
  | .ctr n d => Sys2Proof.Machine.execCtr n d s
  | .ccmEnc n d => Sys2Proof.Machine.execCcmEnc n d s
  | .ccmDec n d => Sys2Proof.Machine.execCcmDec n d s
  | .cmac n d => Sys2Proof.Machine.execCmac n d s
  | .accessRegister h write regno postexec d => Sys2Proof.Machine.execAccessRegister h write regno postexec d s
  | .accessMemory h write w postIncrement u => Sys2Proof.Machine.execAccessMemory h write w postIncrement u s
  | .programBufferExec h d => Sys2Proof.Machine.execProgramBufferExec h d s
  | .systemBusAccess h write a w v u => Sys2Proof.Machine.execSystemBusAccess h write a w v u s
  | .haltreq h => Sys2Proof.Machine.execHaltreq h s
  | .resumereq h => Sys2Proof.Machine.execResumereq h s
  | .ndmreset on => Sys2Proof.Machine.execNdmreset on s
  | .hartreset h on => Sys2Proof.Machine.execHartreset h on s
  | .setresethaltreq h => Sys2Proof.Machine.execSetresethaltreq h s
  | .clrresethaltreq h => Sys2Proof.Machine.execClrresethaltreq h s
  | .triggerMatch h i1 k a v => Sys2Proof.Machine.execTriggerMatch h i1 k a v s
  | .extest shift => Sys2Proof.Machine.execExtest shift s
  | .samplePreload shift => Sys2Proof.Machine.execSamplePreload shift s
  | .dmi scan => Sys2Proof.Machine.execDmi scan s
  | .portCfgWrite m i1 v => Sys2Proof.Machine.execPortCfgWrite m i1 v s
  | .portSet m bank v => Sys2Proof.Machine.execPortSet m bank v s
  | .portClr m bank v => Sys2Proof.Machine.execPortClr m bank v s
  | .padFilterAccept i1 level => Sys2Proof.Machine.execPadFilterAccept i1 level s
  | .eventSourceFire src => Sys2Proof.Machine.execEventSourceFire src s
  | .swtrig m v => Sys2Proof.Machine.execSwtrig m v s
  | .evfChWrite m c v => Sys2Proof.Machine.execEvfChWrite m c v s
  | .evfChLock m c => Sys2Proof.Machine.execEvfChLock m c s
  | .evfSinkWrite m k v => Sys2Proof.Machine.execEvfSinkWrite m k v s
  | .canTxTriggerObjWrite m k v => Sys2Proof.Machine.execCanTxTriggerObjWrite m k v s
  | .sinkPendingAct k => Sys2Proof.Machine.execSinkPendingAct k s
  | .evoutPulseEnd k => Sys2Proof.Machine.execEvoutPulseEnd k s
  | .spiDataWrite m n v => Sys2Proof.Machine.execSpiDataWrite m n v s
  | .spiFrameEnd n rx => Sys2Proof.Machine.execSpiFrameEnd n rx s
  | .spiDataRead m n => Sys2Proof.Machine.execSpiDataRead m n s
  | .uartDataWrite m n v => Sys2Proof.Machine.execUartDataWrite m n v s
  | .uartCharSent n => Sys2Proof.Machine.execUartCharSent n s
  | .uartCharReceived n ch parityError framingError => Sys2Proof.Machine.execUartCharReceived n ch parityError framingError s
  | .uartDataRead m n => Sys2Proof.Machine.execUartDataRead m n s
  | .send m n v => Sys2Proof.Machine.execSend m n v s
  | .uartBreakSent n => Sys2Proof.Machine.execUartBreakSent n s
  | .uartBreak n => Sys2Proof.Machine.execUartBreak n s
  | .startWrite m addr => Sys2Proof.Machine.execStartWrite m addr s
  | .startRead m addr => Sys2Proof.Machine.execStartRead m addr s
  | .i2cWrite m b => Sys2Proof.Machine.execI2cWrite m b s
  | .readAck m => Sys2Proof.Machine.execReadAck m s
  | .readNack m => Sys2Proof.Machine.execReadNack m s
  | .i2cStop m => Sys2Proof.Machine.execI2cStop m s
  | .i2cCmdDone nack data => Sys2Proof.Machine.execI2cCmdDone nack data s
  | .tgtAddr addr read => Sys2Proof.Machine.execTgtAddr addr read s
  | .i2cTargetDataAccess m k v => Sys2Proof.Machine.execI2cTargetDataAccess m k v s
  | .stuck sdaLow => Sys2Proof.Machine.execStuck sdaLow s
  | .arbLost addr read => Sys2Proof.Machine.execArbLost addr read s
  | .ntuSet m => Sys2Proof.Machine.execNtuSet m s
  | .acceptNext m => Sys2Proof.Machine.execAcceptNext m s
  | .servoEnWrite m v => Sys2Proof.Machine.execServoEnWrite m v s
  | .servoSample src diff ident => Sys2Proof.Machine.execServoSample src diff ident s
  | .ntuTimeSecLoRead m => Sys2Proof.Machine.execNtuTimeSecLoRead m s
  | .ntuArm m c v => Sys2Proof.Machine.execNtuArm m c v s
  | .ntuCompareTargetWrite m c r v => Sys2Proof.Machine.execNtuCompareTargetWrite m c r v s
  | .relativeCompareFire c => Sys2Proof.Machine.execRelativeCompareFire c s
  | .absoluteCompareFire c => Sys2Proof.Machine.execAbsoluteCompareFire c s
  | .ntuCapture c rising => Sys2Proof.Machine.execNtuCapture c rising s
  | .ntuCaptureCRead m c => Sys2Proof.Machine.execNtuCaptureCRead m c s
  | .ntuChModeWrite m c v => Sys2Proof.Machine.execNtuChModeWrite m c v s
  | .syncPaired x => Sys2Proof.Machine.execSyncPaired x s
  | .syncUnpairedDiscard x => Sys2Proof.Machine.execSyncUnpairedDiscard x s
  | .canModeWrite m x v => Sys2Proof.Machine.execCanModeWrite m x v s
  | .canStopTakesEffect x => Sys2Proof.Machine.execCanStopTakesEffect x s
  | .canBusJoin x => Sys2Proof.Machine.execCanBusJoin x s
  | .canFrameReceived x k => Sys2Proof.Machine.execCanFrameReceived x k s
  | .canObjWord0Read m x o u => Sys2Proof.Machine.execCanObjWord0Read m x o u s
  | .canObjWord19Read m x o u => Sys2Proof.Machine.execCanObjWord19Read m x o u s
  | .canLockAbandon m x v => Sys2Proof.Machine.execCanLockAbandon m x v s
  | .lockDeadline x o => Sys2Proof.Machine.execLockDeadline x o s
  | .canObjWord1Write m x o v => Sys2Proof.Machine.execCanObjWord1Write m x o v s
  | .canTxreq m x v => Sys2Proof.Machine.execCanTxreq m x v s
  | .canTxPick x u => Sys2Proof.Machine.execCanTxPick x u s
  | .canArbitrationLost x => Sys2Proof.Machine.execCanArbitrationLost x s
  | .canTxError x counted => Sys2Proof.Machine.execCanTxError x counted s
  | .canSent x age => Sys2Proof.Machine.execCanSent x age s
  | .txDeadline x o => Sys2Proof.Machine.execTxDeadline x o s
  | .canTxcancel m x v => Sys2Proof.Machine.execCanTxcancel m x v s
  | .canCancelSampled x o committed => Sys2Proof.Machine.execCanCancelSampled x o committed s
  | .errPassive x e => Sys2Proof.Machine.execErrPassive x e s
  | .busOff x => Sys2Proof.Machine.execBusOff x s
  | .recover m x => Sys2Proof.Machine.execRecover m x s
  | .boffDelayExpiry x => Sys2Proof.Machine.execBoffDelayExpiry x s
  | .busOffRecovered x => Sys2Proof.Machine.execBusOffRecovered x s
  | .canQtxTake x k bad d => Sys2Proof.Machine.execCanQtxTake x k bad d s
  | .canTx x k d => Sys2Proof.Machine.execCanTx x k d s
  | .canxModeNormal m => Sys2Proof.Machine.execCanxModeNormal m s
  | .canxModeListen m => Sys2Proof.Machine.execCanxModeListen m s
  | .canxModeStandby m => Sys2Proof.Machine.execCanxModeStandby m s
  | .canxModeSleep m => Sys2Proof.Machine.execCanxModeSleep m s
  | .wuf f => Sys2Proof.Machine.execWuf f s
  | .frameErr fd => Sys2Proof.Machine.execFrameErr fd s
  | .padWake level => Sys2Proof.Machine.execPadWake level s
  | .phyTxStart d => Sys2Proof.Machine.execPhyTxStart d s
  | .phyTxEnd d => Sys2Proof.Machine.execPhyTxEnd d s
  | .ofdmSyncAccepted pattern halfDbm snr => Sys2Proof.Machine.execOfdmSyncAccepted pattern halfDbm snr s
  | .ofdmHeaderReceived soft d => Sys2Proof.Machine.execOfdmHeaderReceived soft d s
  | .ofdmPpduDecoded soft hit => Sys2Proof.Machine.execOfdmPpduDecoded soft hit s
  | .robustSyncAccepted sync halfDbm => Sys2Proof.Machine.execRobustSyncAccepted sync halfDbm s
  | .robustFrameReceived air => Sys2Proof.Machine.execRobustFrameReceived air s
  | .calNow m => Sys2Proof.Machine.execCalNow m s
  | .pllUnlock d => Sys2Proof.Machine.execPllUnlock d s
  | .slotPreparation d => Sys2Proof.Machine.execSlotPreparation d s
  | .slotStart d => Sys2Proof.Machine.execSlotStart d s
  | .beaconRx d => Sys2Proof.Machine.execBeaconRx d s
  | .scanBeaconAdopt d => Sys2Proof.Machine.execScanBeaconAdopt d s
  | .linkFrameReceived d => Sys2Proof.Machine.execLinkFrameReceived d s
  | .ackReceived d => Sys2Proof.Machine.execAckReceived d s
  | .ackTimeout d => Sys2Proof.Machine.execAckTimeout d s
  | .linkTx d => Sys2Proof.Machine.execLinkTx d s
  | .soundReqReceived d => Sys2Proof.Machine.execSoundReqReceived d s
  | .soundRespReceived d => Sys2Proof.Machine.execSoundRespReceived d s
  | .slotLate slot d => Sys2Proof.Machine.execSlotLate slot d s
  | .linkDeadlineStop slot d => Sys2Proof.Machine.execLinkDeadlineStop slot d s
  | .lsecLoad m => Sys2Proof.Machine.execLsecLoad m s
  | .lsecClear m => Sys2Proof.Machine.execLsecClear m s
  | .lsecTxseqWrite m v => Sys2Proof.Machine.execLsecTxseqWrite m v s
  | .linkAsnLoRead m => Sys2Proof.Machine.execLinkAsnLoRead m s
  | .loopEnWrite m n v => Sys2Proof.Machine.execLoopEnWrite m n v s
  | .loopDisable m n v => Sys2Proof.Machine.execLoopDisable m n v s
  | .loopRangeWrite m n v => Sys2Proof.Machine.execLoopRangeWrite m n v s
  | .loopTrigger n => Sys2Proof.Machine.execLoopTrigger n s
  | .loopStageEnd u => Sys2Proof.Machine.execLoopStageEnd u s
  | .loopCommit n => Sys2Proof.Machine.execLoopCommit n s
  | .loopDeadlineMiss n => Sys2Proof.Machine.execLoopDeadlineMiss n s
  | .adcaStart by_ => Sys2Proof.Machine.execAdcaStart by_ s
  | .adcaConversionDone ain => Sys2Proof.Machine.execAdcaConversionDone ain s
  | .adcbStart by_ => Sys2Proof.Machine.execAdcbStart by_ s
  | .adcbConversionDone v => Sys2Proof.Machine.execAdcbConversionDone v s
  | .pwmPeriodStart k => Sys2Proof.Machine.execPwmPeriodStart k s
  | .pwmPeriodCentre k => Sys2Proof.Machine.execPwmPeriodCentre k s
  | .pwmRunWrite m k v => Sys2Proof.Machine.execPwmRunWrite m k v s
  | .pwmClr m k => Sys2Proof.Machine.execPwmClr m k s
  | .pwmForceSafe k => Sys2Proof.Machine.execPwmForceSafe k s
  | .toothEnWrite m c v => Sys2Proof.Machine.execToothEnWrite m c v s
  | .toothEdge c rising age => Sys2Proof.Machine.execToothEdge c rising age s
  | .missed c => Sys2Proof.Machine.execMissed c s
  | .scheduleArm m c j v => Sys2Proof.Machine.execScheduleArm m c j v s
  | .scheduleFire c j => Sys2Proof.Machine.execScheduleFire c j s
  | .storageCurrentBandChange inside c => Sys2Proof.Machine.execStorageCurrentBandChange inside c s
  | .thermHotClear below125 => Sys2Proof.Machine.execThermHotClear below125 s
  | .srcChange => Sys2Proof.Machine.execSrcChange s
  | .mainsFaultLatch => Sys2Proof.Machine.execMainsFaultLatch s
  | .mainsLatchClear => Sys2Proof.Machine.execMainsLatchClear s
  | .por => Sys2Proof.Machine.execPor s
  | .porRelease => Sys2Proof.Machine.execPorRelease s
  | .fuseLoad => Sys2Proof.Machine.execFuseLoad s
  | .supplyTreeUp => Sys2Proof.Machine.execSupplyTreeUp s
  | .outputRailsUp => Sys2Proof.Machine.execOutputRailsUp s
  | .vioAbsent => Sys2Proof.Machine.execVioAbsent s
  | .xo40Stable => Sys2Proof.Machine.execXo40Stable s
  | .pllLock => Sys2Proof.Machine.execPllLock s
  | .startUpReadiness => Sys2Proof.Machine.execStartUpReadiness s
  | .resetNLow => Sys2Proof.Machine.execResetNLow s
  | .resetStretchExpiry => Sys2Proof.Machine.execResetStretchExpiry s
  | .resetNHighRelease => Sys2Proof.Machine.execResetNHighRelease s
  | .systemReset => Sys2Proof.Machine.execSystemReset s
  | .thermalShutdown => Sys2Proof.Machine.execThermalShutdown s
  | .thermalShutdownEnd => Sys2Proof.Machine.execThermalShutdownEnd s
  | .thermWarn => Sys2Proof.Machine.execThermWarn s
  | .xo40Loss => Sys2Proof.Machine.execXo40Loss s
  | .xo40StartTimeout => Sys2Proof.Machine.execXo40StartTimeout s
  | .xo32Loss => Sys2Proof.Machine.execXo32Loss s
  | .xo32LossInCalm => Sys2Proof.Machine.execXo32LossInCalm s
  | .xo32Return => Sys2Proof.Machine.execXo32Return s
  | .slewSettled => Sys2Proof.Machine.execSlewSettled s
  | .opClockRaise => Sys2Proof.Machine.execOpClockRaise s
  | .postingDrainDone => Sys2Proof.Machine.execPostingDrainDone s
  | .calmReached => Sys2Proof.Machine.execCalmReached s
  | .lullResume => Sys2Proof.Machine.execLullResume s
  | .hartMWarmStart => Sys2Proof.Machine.execHartMWarmStart s
  | .wakeDone => Sys2Proof.Machine.execWakeDone s
  | .mpptDue => Sys2Proof.Machine.execMpptDue s
  | .chgLimitHit => Sys2Proof.Machine.execChgLimitHit s
  | .chargeRestart => Sys2Proof.Machine.execChargeRestart s
  | .pgoodRise => Sys2Proof.Machine.execPgoodRise s
  | .pgoodFall => Sys2Proof.Machine.execPgoodFall s
  | .restTimeExpiry => Sys2Proof.Machine.execRestTimeExpiry s
  | .flashOpStart => Sys2Proof.Machine.execFlashOpStart s
  | .eraseResume => Sys2Proof.Machine.execEraseResume s
  | .scrubDue => Sys2Proof.Machine.execScrubDue s
  | .scrubSteal => Sys2Proof.Machine.execScrubSteal s
  | .healthFail => Sys2Proof.Machine.execHealthFail s
  | .trngValidReturn => Sys2Proof.Machine.execTrngValidReturn s
  | .tapReset => Sys2Proof.Machine.execTapReset s
  | .idcode => Sys2Proof.Machine.execIdcode s
  | .clamp => Sys2Proof.Machine.execClamp s
  | .highz => Sys2Proof.Machine.execHighz s
  | .dtmcs => Sys2Proof.Machine.execDtmcs s
  | .bypass => Sys2Proof.Machine.execBypass s
  | .tgtStop => Sys2Proof.Machine.execTgtStop s
  | .ppsEdge => Sys2Proof.Machine.execPpsEdge s
  | .ntuPpsOut => Sys2Proof.Machine.execNtuPpsOut s
  | .ppsOutEnd => Sys2Proof.Machine.execPpsOutEnd s
  | .sleepEntry => Sys2Proof.Machine.execSleepEntry s
  | .fsTimerExpiry => Sys2Proof.Machine.execFsTimerExpiry s
  | .txdTimeout => Sys2Proof.Machine.execTxdTimeout s
  | .wup => Sys2Proof.Machine.execWup s
  | .decoderSilence => Sys2Proof.Machine.execDecoderSilence s
  | .vbatRetentionLoss => Sys2Proof.Machine.execVbatRetentionLoss s
  | .rxWindowOpen => Sys2Proof.Machine.execRxWindowOpen s
  | .rxWindowClose => Sys2Proof.Machine.execRxWindowClose s
  | .rfCalDue => Sys2Proof.Machine.execRfCalDue s
  | .rfCalTakeover => Sys2Proof.Machine.execRfCalTakeover s
  | .calDone => Sys2Proof.Machine.execCalDone s
  | .beaconMissed => Sys2Proof.Machine.execBeaconMissed s
  | .ackSend => Sys2Proof.Machine.execAckSend s
  | .linkRx => Sys2Proof.Machine.execLinkRx s
  | .soundTx => Sys2Proof.Machine.execSoundTx s
  | .soundRx => Sys2Proof.Machine.execSoundRx s
  | .slotTimer => Sys2Proof.Machine.execSlotTimer s
  | .adcaDone => Sys2Proof.Machine.execAdcaDone s
  | .adcbDone => Sys2Proof.Machine.execAdcbDone s
  | .adcbDisplaced => Sys2Proof.Machine.execAdcbDisplaced s
  | .pwmFault => Sys2Proof.Machine.execPwmFault s
  | .coarseModeSwitch => Sys2Proof.Machine.execCoarseModeSwitch s
  | .modeChanged => Sys2Proof.Machine.execModeChanged s
  | .vbatPartPowerUp => Sys2Proof.Machine.execVbatPartPowerUp s
  | .pwmFaultNRelease => Sys2Proof.Machine.execPwmFaultNRelease s

end Sys2Proof.Machine
end

