-- ==== Sys2Proof/Machine/Step.lean ====
section
/-!
DEFINITION. One step of the block: the command at the front of the queue has its effect; on an empty queue time passes.
-/

namespace Sys2Proof.Machine

/-- The queue's front command runs on the state with the rest of the queue; with no command waiting the machine idles for one
counting step (assumption log 5, DESIGN CHOICE). Unsafe for claims about how much time passes between two commands. -/
def step (s : State) : Host.Outcome State Fault Refusal :=
  match s.pending with
  | [] => .next s.tick
  | c :: rest => exec c { s with pending := rest }

/-- The state with the command that a table word spells at the front of its queue. No row of the table gives bits, so no word
spells a command. -/
def State.withFetchWord (s : State) (nbits w : Nat) : State :=
  match Sys2Proof.decodeTableWord nbits w with
  | some c => { s with pending := c :: s.pending }
  | none => s

end Sys2Proof.Machine
end

