-- ==== Sys2Proof/Safety.lean ====
section
/-!
DEFINITION. What counts as a safe state and a safe run, and the words in which the statements say what a command leaves unchanged: the parts of
State, and which of them one state keeps of another.
-/

namespace Sys2Proof.Machine

/-- The invariant of every state that a step can leave: the memories are in their canonical form, a fault FIFO holds at most 16
records (R246), a posting buffer at most 64 stores (R238), and NS counts less than a second (R397). -/
structure State.Inv (s : State) : Prop where
  mem  : Memory.wf s.mem = true
  fifo : ∀ n, (s.postOf n).fifo.length ≤ 16
  posts : ∀ n, (s.hart n).posts.length ≤ 64
  ns   : s.ntu.ns < nsPerSec

/-- A step answers a next state: neither a fault nor a refusal. -/
def State.completes (s : State) : Prop := ∃ t, step s = .next t

/-- `k` steps from a state all complete. -/
def State.runsFor (k : Nat) (s : State) : Prop := ∃ t, core.run k s = .next t

/-! ### What a command leaves unchanged -/

/-- A part of State: one of its fields, or the register fields of one page. -/
inductive Part where
  | pending | fresh | answer | supply | power | rst | owners | waiting | service | post | wdt | harts | mem | q | dbg | fab | ser
  | ntu | can | trx | phy | link | ctl | tooth | toothTime
  /-- the register fields of page `n` -/
  | page (n : Nat)
  deriving DecidableEq, Repr

/-- Every part of State. -/
def Part.everything : List Part :=
  [.pending, .fresh, .answer, .supply, .power, .rst, .owners, .waiting, .service, .post, .wdt, .harts, .mem, .q, .dbg, .fab, .ser,
    .ntu, .can, .trx, .phy, .link, .ctl, .tooth, .toothTime] ++ (List.range 64).map Part.page

/-- The parts that an event through the fabric can change: its own page and what its sinks act on. -/
def Part.eventFan : List Part :=
  [.fresh, .supply, .power, .post, .harts, .q, .fab, .ntu, .can, .ctl, .page 2, .page 4, .page 6, .page 7, .page 8, .page 9, .page 0x10,
    .page 0x11, .page 0x18, .page 0x19, .page 0x1A]

/-- The watermark events of the serial units, which every access to their page brings up to date (Table 9.6). -/
abbrev watermarks : List Fld :=
  [0, 1].flatMap (fun n => [SER.SPI_TX_WM_EVT n, SER.SPI_RX_WM_EVT n, SER.UART_TX_WM_EVT n, SER.UART_RX_WM_EVT n])

/-- `t` has the same part as `s`; of a page, every register field holds what it held. -/
def State.keeps (s t : State) : Part → Prop
  | .pending => t.pending = s.pending
  | .fresh => t.fresh = s.fresh
  | .answer => t.answer = s.answer
  | .supply => t.supply = s.supply
  | .power => t.power = s.power
  | .rst => t.rst = s.rst
  | .owners => t.owners = s.owners
  | .waiting => t.waiting = s.waiting
  | .service => t.service = s.service
  | .post => t.post = s.post
  | .wdt => t.wdt = s.wdt
  | .harts => t.harts = s.harts
  | .mem => t.mem = s.mem
  | .q => t.q = s.q
  | .dbg => t.dbg = s.dbg
  | .fab => t.fab = s.fab
  | .ser => t.ser = s.ser
  | .ntu => t.ntu = s.ntu
  | .can => t.can = s.can
  | .trx => t.trx = s.trx
  | .phy => t.phy = s.phy
  | .link => t.link = s.link
  | .ctl => t.ctl = s.ctl
  | .tooth => t.tooth = s.tooth
  | .toothTime => t.toothTime = s.toothTime
  | .page n => ∀ f : Fld, f.page % 64 = n → t.get f = s.get f

/-- From `s` to `t` nothing has changed but the parts listed and the register fields listed. -/
def State.changes (s t : State) (ps : List Part) (fs : List Fld) : Prop :=
  (∀ p, p ∉ ps → (∀ n, p ≠ .page n) → s.keeps t p) ∧
    ∀ f : Fld, .page (f.page % 64) ∉ ps → f.key ∉ fs.map Fld.key → t.get f = s.get f

/-- In state `s` command `c` answers a next state: one that has the property `P`, and in which nothing has changed but the parts and the
register fields listed. -/
def State.runs (s : State) (c : Instr) (ps : List Part) (fs : List Fld) (P : State → Prop) : Prop :=
  ∃ t, exec c s = .next t ∧ P t ∧ s.changes t ps fs

/-- The `n` bytes from `a` lie in main SRAM, below the shared region, belong to tenant `t` and hold no uncorrectable error. -/
abbrev State.plain (s : State) (t a n : Nat) : Prop :=
  0x20000000 ≤ a ∧ a + n ≤ 0x200F0000 ∧ ∀ i, i < n → s.owner tblGranule ((a + i - 0x20000000) / 4096) = t ∧ s.eccBad ((a + i) / 4 * 4) = false

/-- The `n` bytes from `a` as tenant `t` reads them. -/
def State.bytesAt (s : State) (t a n : Nat) : List Nat := (List.range n).map (fun i => s.ramRead t (a + i) 1)

/-- Every byte of the volatile memories outside the `n` from `a` is in `t` what it was in `s`. -/
def State.outside (s t : State) (a n : Nat) : Prop := ∀ b : Nat, b < a ∨ a + n ≤ b → t.ramByte b = s.ramByte b

/-- An undisturbed access by `m` to the register at `off` of page `p` reaches it: its tenant is not being quiesced, no check of R233 up to
the page fails, and the page admits it (R223, R226). -/
abbrev State.admits (s : State) (m : Master) (p off : Nat) (write : Bool) : Prop :=
  s.rst.quiescing.contains (s.tidOf m) = false ∧ s.judge m (s.tidOf m) (pageAddr p off) (if write then .write else .read) Upset.none = .go (.page p off) ∧
    s.pageDenies m (s.tidOf m) p off write = none

/-- An undisturbed access by `m` to the memory byte `a` reaches it: its tenant is not being quiesced and no check of R233 up to step 4
fails. -/
abbrev State.reaches (s : State) (m : Master) (a : Nat) (write : Bool) : Prop :=
  s.rst.quiescing.contains (s.tidOf m) = false ∧ s.judge m (s.tidOf m) a (if write then .write else .read) Upset.none = .go (.mem a)

/-- From `s` to `t` the fault FIFO of tenant `n` has taken record `r`, or OVERFLOW has set because it was full; no other FIFO has changed (R246,
R248). -/
def State.recorded (s t : State) (n : Nat) (r : Rec) : Prop :=
  (t.postOf n).fifo = (if (s.postOf n).fifo.length < 16 then (s.postOf n).fifo ++ [r] else (s.postOf n).fifo) ∧
    t.get (FAULT.OVERFLOW n) = (if (s.postOf n).fifo.length < 16 then s.get (FAULT.OVERFLOW n) else 1) ∧
    ∀ k : Fin 4, k.val ≠ n → t.postOf k = s.postOf k

/-- From `s` to `t` the watchdog of tenant `n`, one of T1 to T3, has expired with this DETAIL: T0's fault FIFO has taken the WATCHDOG record, or was
full, and the tenant's reset has begun (R44, R210, R252). -/
def State.expired (s t : State) (n detail : Nat) : Prop :=
  (t.postOf 0).fifo = (if (s.postOf 0).fifo.length < 16 then (s.postOf 0).fifo ++ [⟨0x11 + detail * 2 ^ 8 + n * 2 ^ 24, 0, 0x84, s.now % 2 ^ 32, false⟩]
    else (s.postOf 0).fifo) ∧ t.get (RSTC.TEN_CAUSE_WDT n) = 1 ∧ t.rst.quiescing = s.rst.quiescing ++ [n] ∧ bit (t.get RSTC.RUN) (n - 1) = false ∧
    (t.hart n).running = false

/-- Word `i` of code flash, in plaintext. -/
def State.imageWord (s : State) (i : Nat) : Nat := ofBytesLE (((s.flashWord (i / 4 * 16)).drop (4 * (i % 4))).take 4)

/-- The descriptor that the link controller transmits for now. -/
def State.sending (s : State) : Option Nat := match s.curOp with
  | some (.transmit k) => some k
  | _ => none

/-- The SOUND_RX whose SOUND_RESP is the operation in progress. -/
def State.answering (s : State) : Option Nat := match s.curOp with
  | some (.soundResp k) => some k
  | _ => none

/-- A completion of descriptor `k`, which is `z`, frees its slot and leaves no ring entry: its deadline has not been passed, its tenant
keeps no ring, it is not linked to a next one, and the words read of it can be read. -/
abbrev State.ends (s : State) (k : Nat) (z : Slot) : Prop :=
  s.slotAt k = some z ∧ z.owner < 4 ∧ s.get (QMGR.RING_SIZE z.owner) = 0 ∧ s.deadlinePassed k = false ∧ bit (s.descWord k 6) 31 = false ∧
    s.descBad k [0, 2, 3, 4, 6, 7] = none

/-- The report of LINK_TX `k`, which is `z`, reaches words 2 and 3 of its control block. -/
abbrev State.reportable (s : State) (k : Nat) (z : Slot) : Prop :=
  s.linkOpcode k = 0x40 ∧ s.plain z.owner (s.descWord k 3 + 8) 8 ∧ s.island .core = .running ∧ s.rst.quiescing.contains z.owner = false

/-- From `s` to `t` descriptor `k`, which was `z`, has completed with a status other than DEADLINE_MISSED and its slot is free. -/
def State.freed (s t : State) (k : Nat) (z : Slot) (failed : Bool) : Prop :=
  t.slotAt k = none ∧ (∀ j : Nat, j ≠ k → t.slotAt j = s.slotAt j) ∧ t.queueAt z.queue = (s.queueAt z.queue).filter (· != k) ∧
    (∀ n : Nat, n ≠ z.queue → t.queueAt n = s.queueAt n) ∧ (bit (t.get QMGR.QERROR) z.owner = true ∨ failed = false) ∧
    (failed = false → t.get QMGR.QERROR = s.get QMGR.QERROR) ∧ (s.on (QMGR.Q_LINE_EN z.queue) = true → bit (t.get QMGR.LINE) (s.get (QMGR.Q_LINE z.queue)) = true)

/-- The device has PWM_FAULT_N neither as an output nor low by its fuse state, or its low has been seen already (R84, R374). -/
abbrev State.ownLowSeen (s : State) : Prop :=
  s.on PWM.FAULT_IN = true ∨ (s.on (PORT.OE 40) = false ∨ s.get (PORT.FUNC 40) ≠ 0) ∧ vget s.fab.padFuse 40 0 ≠ 3

/-- The interrupt flag of pad `i` that a level condition has set, or that stood (R378). -/
def State.levelFlag (s : State) (i : Nat) : Nat :=
  if s.get (PORT.IRQ i) = 4 ∧ s.padLevel i = true ∨ s.get (PORT.IRQ i) = 5 ∧ s.padLevel i = false then 1 else s.get (PORT.IRQ_FLAG i)

/-- A pulse at trigger sink `k` is not lost or held back by the power mode or by an earlier one in its latch (R370, R371). -/
abbrev State.sinkReady (s : State) (k : Nat) : Prop := s.alive = true ∧ s.power.mode ≠ .calm ∧ s.on (EVF.S_PEND k) = false

/-- No channel listens to event source `src`. -/
abbrev State.unheard (s : State) (src : Nat) : Prop := ∀ c : Fin 64, s.on (EVF.EN c) = true → s.get (EVF.SRC c) ≠ src

/-- The radio buffer of the frame being received can be read, with `d` disturbing these reads. -/
abbrev State.rxReads (s : State) (d : Disturb) : Prop := s.link.rxHeld.bind (fun r => s.bufFails r d 0x500) = none

/-- Frame `x` has been received for descriptor `k`, which is `z`, its buffer and the descriptor can be read, and no neighbour entry in use is
unreadable. -/
abbrev State.received (s : State) (x : RxFrame) (k : Nat) (z : Slot) (d : Disturb) : Prop :=
  s.rxWhole = some x ∧ s.rxReads d ∧ s.link.taker = some k ∧ s.link.ackWait = false ∧ s.link.ackOwed = none ∧ s.slotAt k = some z ∧ s.scanReady = false ∧
    s.descBad k [0, 2, 3, 4] = none ∧ ∀ e : Fin 64, s.on (LINK.NBR_EN e) = true → s.nbrBad e = false

/-- A report and `n` payload bytes fit into the receive block of descriptor `k`, which is `z`, and reach it. -/
abbrev State.deliverable (s : State) (k : Nat) (z : Slot) (n : Nat) : Prop :=
  16 + n ≤ bits (s.descWord k 4) 0 16 ∧ s.plain z.owner (s.descWord k 3) (16 + n) ∧ s.island .core = .running ∧
    s.rst.quiescing.contains z.owner = false

/-- From `s` to `t` the memories have changed only in the `n` bytes from `a` and in the neighbour table. -/
def State.outsideBoth (s t : State) (a n : Nat) : Prop :=
  ∀ b : Nat, (b < a ∨ a + n ≤ b) → (b < 0x32100000 ∨ 0x32100800 ≤ b) → t.ramByte b = s.ramByte b

/-- The acknowledgement that frame `x` from a sender with entry `nbr` asks for (R612). -/
def State.ackFor (s : State) (x : RxFrame) (nbr : Option Nat) : Option (AirFrame × Nat) :=
  if bit x.frame.link 4 = true ∧ bits x.frame.link 21 7 ≠ 0x7F then
    some (⟨x.frame.robust, 2 + s.get LINK.SHORT % 2 ^ 16 * 2 ^ 5 + bits x.frame.link 5 7 * 2 ^ 21, x.frame.map, x.frame.rate, []⟩,
      match nbr with
      | some e => s.nbrPwr e
      | none => s.get RFPHY.PWR)
  else none

/-- From `s` to `t` the controller has dealt with the frame received: its acknowledgement is owed or the operation of the slot is over. -/
def State.dealt (s t : State) (owed : Option (AirFrame × Nat)) : Prop :=
  t.link.rx = none ∧ t.link.rxHeld = none ∧ t.link.taker = none ∧ t.link.ackOwed = owed ∧ t.link.cur = (if owed.isSome then s.link.cur else none) ∧
    t.phy.op = (if owed.isSome then s.phy.op else .idle)

/-- From `s` to `t` a radio buffer that held no frame is held for the frame being received, for tenant `tid` (R596). -/
def State.bufferTaken (s t : State) (tid : Nat) : Prop := match t.link.rxHeld with
  | some r => r.buf ∈ s.buffersFree ∧ r.tenant = tid ∧ r.len = 0
  | none => False

/-- From `s` to `t` a radio buffer that held no frame holds the payload `p` of the frame received, under the key of tenant `tid`, and no other
byte of the memories has changed (R581, R596). -/
def State.bufferFilled (s t : State) (tid : Nat) (p : List Nat) : Prop := match t.link.rxHeld with
  | some r => r.buf ∈ s.buffersFree ∧ r.tenant = tid ∧ r.len = p.length ∧ t.bytesAt tid (bufAddr r.buf) p.length = p ∧
      s.outside t (bufAddr r.buf) (4 * ((p.length + 3) / 4))
  | none => False

/-- From `s` to `t` a radio buffer that held no other frame holds the payload `p` of an acknowledgement, under the key of the LINK page
owner, and no other byte of the memories has changed (R596). -/
def State.ownStored (s t : State) (p : List Nat) : Prop := match t.link.own with
  | some r => r.buf ∈ (s.modLink (fun l => { l with own := none })).buffersFree ∧ r.tenant = s.linkTid ∧ r.len = p.length ∧
      t.bytesAt r.tenant (bufAddr r.buf) p.length = p ∧ s.outside t (bufAddr r.buf) (4 * ((p.length + 3) / 4))
  | none => False

/-- The same of the beacon or SOUND_REQ that is prepared next. -/
def State.nextStored (s t : State) (p : List Nat) : Prop := match t.link.next.bind Prep.buf with
  | some r => r.buf ∈ (s.modLink (fun l => { l with next := none })).buffersFree ∧ r.tenant = s.linkTid ∧ r.len = p.length ∧
      t.bytesAt r.tenant (bufAddr r.buf) p.length = p ∧ s.outside t (bufAddr r.buf) (4 * ((p.length + 3) / 4))
  | none => False

/-- From `s` to `t` a radio buffer that held no frame holds the payload `p` of LINK_TX `k`, under the key of tenant `tid`, and no other byte of the
memories has changed (R595, R596). -/
def State.jobStored (s t : State) (k tid : Nat) (p : List Nat) : Prop := match (t.job k).held with
  | some r => r.buf ∈ s.buffersFree ∧ r.tenant = tid ∧ r.len = p.length ∧ t.bytesAt tid (bufAddr r.buf) p.length = p ∧
      s.outside t (bufAddr r.buf) (4 * ((p.length + 3) / 4))
  | none => False

end Sys2Proof.Machine
end

