-- ==== Sys2Proof/WellFormed.lean ====
section
/-!
DEFINITION. Which commands the outside can send: bounds on operands that their types do not say. The types bound register numbers,
channels, tenants and table entries; `exec` is total, so an ill-formed command has an effect too, but none that the spec speaks of.
-/

namespace Sys2Proof

/-- A word of data fits the width of its access: the bits above the width are 0. -/
def dataFits (w : Width) (v : Word) : Bool := decide (v.toNat < 2 ^ (8 * Machine.widthBytes w))

/-- ISO 11898-1 with Table 11.4: a standard identifier stands in bits 28 to 18, only a classical frame can be remote, BRS and ESI
belong to FD frames, and a frame has as many bytes as its DLC says. -/
def CanFrame.wellFormed (f : CanFrame) : Bool :=
  (f.xtd || decide (f.id.toNat % 2 ^ 18 = 0)) && !(f.rtr && f.fdf) && (f.fdf || (!f.brs && !f.esi)) &&
    decide (f.data.length = if f.rtr then 0 else Machine.dlcLength f.fdf f.dlc.toNat)

/-- A frame of another node, where the command tells one. -/
def CanSeen.wellFormed : CanSeen → Bool
  | .frame f | .valid f => f.wellFormed
  | .start | .stored => true

/-- R114: the net charge counted is at most the gross charge. -/
def GaugeCount.wellFormed (c : GaugeCount) : Bool := decide (c.net.natAbs ≤ c.gross)

/-- R22, R250: a TID or an address other than the one sent is received only where its parity fails. -/
def Upset.wellFormed (u : Upset) : Bool := (u.tid || decide (u.badTid = 0)) && (decide (u.addr ≠ 0) || decide (u.badAddr = 0))

/-- The checks on a command's operands. A load into an f register is a word (R315); a PPDU has at most 191 symbols of 288 bits (R539, R540), and either ADC has
six inputs of its own (R653, R656). -/
def Instr.wellFormed : Instr → Bool
  | .islandRelease i => decide (i ≠ .ao)
  | .gaugeSampleDue c | .restTaken _ c | .uncOver c | .gaugeChargeRead _ c | .storageCurrentBandChange _ c => c.wellFormed
  | .hartLoad _ rd _ w signed u => !(signed && decide (w = .word)) && (decide (rd.val < 32) || decide (w = .word)) && u.wellFormed
  | .hartStoreLocal _ _ w v u => dataFits w v && u.wellFormed
  | .postedStore _ _ w v => dataFits w v
  | .crcDataWrite _ w v => dataFits w v
  | .systemBusAccess _ write _ w v u => (!write || dataFits w v) && u.wellFormed
  | .canFrameReceived _ k => k.wellFormed
  | .wuf f => f.wellFormed
  | .ofdmSyncAccepted _ _ snr => decide (snr.length = 48)
  | .ofdmHeaderReceived soft _ => decide (soft.length = 192)
  | .ofdmPpduDecoded soft _ => decide (soft.length ≤ 191 * 288)
  | .adcaConversionDone ain => decide (ain.length = 6)
  | .adcbConversionDone v => decide (v.ain.length = 6)
  | .robustFrameReceived air => decide (32 ≤ air.length) && decide (air.length % 8 = 0)
  | _ => true

end Sys2Proof
end

