-- ==== Sys2Proof/Certificates/Slice0/Obligations.lean ====
section
/-!
DEFINITION. The statements for the provers, over every state and every operand.
-/

open Sys2Proof Sys2Proof.Machine

/-- A step with a command waiting is that command's effect on the state with the queue's rest. -/
def Obligations.StepRunsFront : Prop :=
  ∀ (c : Instr) (rest : List Instr) (s : State), step { s with pending := c :: rest } = exec c { s with pending := rest }

/-- The idle step is the model's choice (assumption log 5); what it counts is R137, R156, R398 and R681; a committed output reaches its compare
register in the next cycle (R649). -/
def Obligations.IdleStep : Prop :=
  ∀ s : State, s.pending = [] → ∃ t, step s = .next t ∧ s.changes t [.ntu, .toothTime, .ctl, .power, .page 0x18, .page 0x1A] [] ∧ (s.ctl.out = [] →
    s.changes t [.ntu, .toothTime, .ctl, .power] ((List.range 6).map PWM.CNT)) ∧ (s.power.mode = .off → t = s) ∧ (s.power.phase ≠ .entering →
    t.power = s.power) ∧
    (s.power.phase ≠ .entering → s.power.coarse = false → s.up .time = false → t = s) ∧ (s.power.mode ≠ .off → s.power.phase = .entering →
      t.power.entryNs = s.power.entryNs + 10 ∧ (s.power.coarse = false → t.now = s.now)) ∧
    (s.power.mode ≠ .off → s.power.phase ≠ .entering → s.power.coarse = true ∨ s.up .time = true →
      t.now = ((Int.ofNat (s.now * 2 ^ 32 + s.ntu.frac) + s.addend).toNat / 2 ^ 32) % timeRange ∧
      t.ntu.frac = (Int.ofNat (s.now * 2 ^ 32 + s.ntu.frac) + s.addend).toNat % 2 ^ 32) ∧
    (s.power.mode ≠ .off → s.power.phase ≠ .entering → s.power.coarse = false → s.up .time = true → s.up .control = true →
      t.toothTime = (s.toothTime + 2) % 2 ^ 32) ∧ (s.up .control = false → s.changes t [.ntu, .power] [])

/-- No command ends in a fault or a refusal, and a command changes no queue of commands. -/
def Obligations.EveryCommandCompletes : Prop :=
  ∀ (c : Instr) (s : State), ∃ t, exec c s = .next t ∧ t.pending = s.pending

/-- The invariant (Safety.lean) of R240, R246, R248 and R397, over every command and the idle step. -/
def Obligations.StepKeepsInv : Prop :=
  ∀ (s t : State), s.Inv → step s = .next t → t.Inv

/-- The invariant holds right after reset. -/
def Obligations.ResetInv : Prop :=
  ∀ s : State, s = State.reset → s.Inv

/-- State.reset (R10, R179, R230, R239, R399, R441, R608). At which point of start-up it stands is assumption log 8, the factory's fuses log 7. -/
def Obligations.ResetValues : Prop :=
  (∀ f : Fld, f.key ∉ [SUPPLY.ACTIVE_SRC, SUPPLY.VBAT_VALID, SUPPLY.PGOOD, CLK.XO40_OK, CLK.PLL_CORE_LOCK, CLK.PLL_PERIPH_LOCK, RSTC.CAUSE_POR,
    QMGR.QUOTA 0, QMGR.QUOTA 1, QMGR.QUOTA 2, QMGR.QUOTA 3, TEN.EN, CANX.VBAT_OK].map Fld.key → State.reset.get f = f.reset % 2 ^ f.width ∨
    2 ^ f.width ≤ f.reset) ∧
  (∀ s : State, s = State.reset → s.pending = [] ∧ s.get RSTC.CAUSE_POR = 1 ∧ (∀ t : Fin 4, s.get (QMGR.QUOTA t) = 512 ∧ (s.postOf t).fifo = [] ∧
    (s.hart t).posts = [] ∧ (s.hart t).running = false) ∧ (∀ t e : Nat, t ≠ tblPage → s.owner t e = 0) ∧ s.mem.ram = [] ∧ s.now = 0 ∧ s.q.slots = [] ∧
    (∀ x : Fin 2, ∀ o : Fin 128, s.objType x o = 0) ∧ s.link.keys = [] ∧ s.get LSEC.TXSEQ = 1 ∧ s.get LINK.SHORT = 0xFFFE ∧ s.power.mode = .gale)

/-- Chapter 0 (R9, R11, R12) and chapter 6 (R226, R228, R233, R236): the register write of any master. -/
def Obligations.RegisterWrites : Prop :=
  (∀ (s : State) (m : Master) (v : Word) (p : Fin 64) (off : Fin 1024), s.admits m p (4 * off) true → (p.val = 4 ∨ p.val = 0xF ∨ p.val = 0x14 ∧
    off.val ≠ 4 ∨ p.val = 0x15 ∧ off.val ≠ 13 ∨ p.val = 0x1F ∨ p.val = 0x20) → 4 ≤ off.val →
    s.runs (.registerWrite m (BitVec.ofNat 32 (pageAddr p (4 * off))) v) [] (pageFieldsAt p (4 * off)) (fun t => ∀ f ∈ pageFieldsAt p (4 * off),
    (f.acc = .rw → t.get f = (if f.legalValue (bits v.toNat f.lsb f.width) then bits v.toNat f.lsb f.width else s.get f)) ∧ (f.acc = .w1c →
      t.get f = s.get f - (s.get f &&& bits v.toNat f.lsb f.width)) ∧ (f.acc = .w1s → t.get f = s.get f ||| bits v.toNat f.lsb f.width) ∧
    (f.acc ≠ .rw → f.acc ≠ .w1c → f.acc ≠ .w1s → t.get f = s.get f))) ∧
  (∀ (s : State) (m : Master) (v : Word) (p : Fin 36), s.admits m p 8 true → p.val ≠ 0x21 → p.val ≠ 0x22 →
    s.runs (.registerWrite m (BitVec.ofNat 32 (pageAddr p 8)) v) [] (pageFieldsAt p 8) (fun t => ∀ f ∈ pageFieldsAt p 8,
    f.acc = .w1c → t.get f = s.get f - (s.get f &&& bits (v.toNat &&& s.evtMask p (s.tidOf m)) f.lsb f.width))) ∧
  (∀ (s : State) (m : Master) (v : Word) (p : Fin 36) (k : Nat), s.admits m p 0xC true → p.val ≠ 0x21 → p.val ≠ 0x22 → k = s.evtMask p (s.tidOf m) →
    s.runs (.registerWrite m (BitVec.ofNat 32 (pageAddr p 0xC)) v) [] (pageFieldsAt p 0xC) (fun t => ∀ f ∈ pageFieldsAt p 0xC,
    f.acc = .rw → f.legal = [] → t.get f = s.get f - (s.get f &&& bits k f.lsb f.width) + (bits v.toNat f.lsb f.width &&& bits k f.lsb f.width))) ∧
  (∀ (s : State) (m : Master) (v : Word) (p : Fin 64) (off : Fin 1024) (d : Nat), s.rst.quiescing.contains (s.tidOf m) = false →
    s.judge m (s.tidOf m) (pageAddr p (4 * off)) .write Upset.none = .go (.page p (4 * off)) → s.pageDenies m (s.tidOf m) p (4 * off) true = some d →
    s.runs (.registerWrite m (BitVec.ofNat 32 (pageAddr p (4 * off))) v) [.post] [FAULT.OVERFLOW 0, FAULT.OVERFLOW 1, FAULT.OVERFLOW 2,
      FAULT.OVERFLOW 3] (fun t => t.post = (s.failRecord ⟨causeDenied, d, pageAddr p (4 * off), 0, s.tidOf m⟩ (masterCode m) none).post)) ∧
  (∀ (s : State) (m : Master) (v : Word) (p : Fin 36), s.admits m p 4 true → s.on (HDR.LOCK p) = true → bits v.toNat 4 1 ≠ s.get (HDR.ATTR p) →
    s.runs (.registerWrite m (BitVec.ofNat 32 (pageAddr p 4)) v) [.post] [FAULT.OVERFLOW 0, FAULT.OVERFLOW 1, FAULT.OVERFLOW 2, FAULT.OVERFLOW 3]
    (fun t =>
    t.get (HDR.ATTR p) = s.get (HDR.ATTR p) ∧ t.post = (s.failRecord ⟨causeLocked, 0, pageAddr p 4, 0, s.tidOf m⟩ (masterCode m) none).post)) ∧
  (∀ (s : State) (m : Master) (a v : Word), s.rst.quiescing.contains (s.tidOf m) = true → s.q.slots = [] →
    s.runs (.registerWrite m a v) [] [] (fun t => t = s))

/-- Chapter 3, sources and mains (R88 to R93, R99 to R101, R106, R109). -/
def Obligations.SupplySources : Prop :=
  (∀ (s : State) (src : Source), s.rst.brownHeld = false → ¬(src = .vbat ∧ s.power.mode = .off) → ¬(src = .viso ∧ s.isM = true ∧
    s.on SUPPLY.MAINS_FAULT = true) →
    s.runs (.sourceValid src) [.supply] [srcField src, CANX.VBAT_OK] (fun t =>
      t.get (srcField src) = 1 ∧ t.supply.coldStart = false ∧ (src = .vbat → t.get CANX.VBAT_OK = 1) ∧
      (src ≠ .vbat → t.get CANX.VBAT_OK = s.get CANX.VBAT_OK))) ∧
  (∀ s : State, s.isM = true → s.on SUPPLY.MAINS_FAULT = true → s.runs (.sourceValid .viso) [] [] (fun t => t = s)) ∧
  (∀ s : State, s.power.mode = .off → s.rst.brownHeld = false → s.rst.porDue = false → s.on SUPPLY.VBAT_VALID = false →
    s.runs (.sourceValid .vbat) [.supply, .rst] [SUPPLY.VBAT_VALID, CANX.VBAT_OK]
    (fun t => t.get SUPPLY.VBAT_VALID = 1 ∧ t.rst = { s.rst with porDue := true, offExit := s.trx.keptOff })) ∧
  (∀ (s : State) (src : Source), s.rst.brownHeld = true → s.rst.retained = false → s.power.mode ≠ .off → ¬(src = .viso ∧ s.isM = true ∧
    s.on SUPPLY.MAINS_FAULT = true) →
    s.runs (.sourceValid src) [.supply, .rst] [srcField src, CANX.VBAT_OK]
      (fun t => t.get (srcField src) = 1 ∧ t.rst = { s.rst with brownHeld := false, porDue := true })) ∧
  (∀ (s : State) (src : Source), s.rst.brownHeld = true → s.rst.retained = true → s.power.mode ≠ .off → ¬(src = .viso ∧ s.isM = true ∧
    s.on SUPPLY.MAINS_FAULT = true) →
    s.runs (.sourceValid src) [.supply, .power, .rst] [srcField src, CANX.VBAT_OK, SUPPLY.ACTIVE_SRC, SUPPLY.PGOOD, RSTC.CAUSE_BROWNOUT]
      (fun t => t.get (srcField src) = 1 ∧ t.rst = { s.rst with brownHeld := false, retained := false } ∧
        t.get RSTC.CAUSE_BROWNOUT = 1 ∧ t.get SUPPLY.ACTIVE_SRC = t.bestSource ∧ (t.get SUPPLY.PGOOD = 1 ↔ t.pgoodNow = true))) ∧
  (∀ (s : State) (src : Source), s.runs (.sourceInvalid src) [] [srcField src, CANX.VBAT_OK] (fun t => t.get (srcField src) = 0 ∧
    (src = .vbat → t.get CANX.VBAT_OK = 0) ∧ (src ≠ .vbat → t.get CANX.VBAT_OK = s.get CANX.VBAT_OK))) ∧
  (∀ s : State, s.alive = true → s.bestSource ≠ 0 → s.bestSource ≠ s.get SUPPLY.ACTIVE_SRC →
    s.runs .srcChange [.power, .harts, .fab, .ntu, .page 2, .page 4]
    [SUPPLY.ACTIVE_SRC, SUPPLY.SRC_CHANGE, SUPPLY.PGOOD, SUPPLY.PGOOD_RISE, SUPPLY.PGOOD_FALL]
      (fun t => t.get SUPPLY.ACTIVE_SRC = s.bestSource ∧ t.get SUPPLY.SRC_CHANGE = 1 ∧ (t.get SUPPLY.PGOOD = 1 ↔ t.pgoodNow = true))) ∧
  (∀ (s : State) (b : Bool), s.isM = true → s.on SUPPLY.MAINS_PRESENT ≠ b → (b = true → s.on SUPPLY.MAINS_FAULT = false) → s.alive = true →
    s.runs (.mainsPresentChange b)
    [.power, .harts, .fab, .ntu, .page 2, .page 4] [SUPPLY.MAINS_PRESENT, SUPPLY.MAINS_CHANGE]
      (fun t => t.get SUPPLY.MAINS_PRESENT = ofBool b ∧ t.get SUPPLY.MAINS_CHANGE = 1)) ∧
  (∀ s : State, s.isM = true → s.on SUPPLY.MAINS_PRESENT = false → s.on SUPPLY.MAINS_FAULT = false → s.power.mode = .off → s.rst.porDue = false →
    s.runs (.mainsPresentChange true) [.rst] [SUPPLY.MAINS_PRESENT]
    (fun t => t.get SUPPLY.MAINS_PRESENT = 1 ∧ t.rst.porDue = true ∧ t.rst.offExit = true)) ∧
  (∀ s : State, s.isM = true → s.on SUPPLY.MAINS_FAULT = false → s.alive = true →
    s.runs .mainsFaultLatch [] [SUPPLY.MAINS_FAULT, SUPPLY.MAINS_PRESENT, SUPPLY.MAINS_CHANGE]
    (fun t => t.get SUPPLY.MAINS_FAULT = 1 ∧ t.get SUPPLY.MAINS_PRESENT = 0 ∧ t.get SUPPLY.MAINS_CHANGE = 1)) ∧
  (∀ s : State, s.on SUPPLY.MAINS_FAULT = true → s.on SUPPLY.MAINS_PRESENT = false → s.alive = true →
    s.runs .mainsLatchClear [] [SUPPLY.MAINS_FAULT, SUPPLY.MAINS_CHANGE] (fun t => t.get SUPPLY.MAINS_FAULT = 0 ∧ t.get SUPPLY.MAINS_CHANGE = 1)) ∧
  (∀ (s : State) (on : Bool), s.runs (.coldStart on) [.supply] [] (fun t => t.supply =
    { s.supply with coldStart := if s.bestSource = 0 then on else s.supply.coldStart }))

/-- Chapter 3, PGOOD, charge limit and rails (R107, R110 to R113, R121, R130, R131). -/
def Obligations.PgoodAndRails : Prop :=
  (∀ s : State, s.alive = true → s.runs .pgoodRise [.supply, .power, .harts, .fab, .ntu, .page 2, .page 4]
    [SUPPLY.PGOOD, SUPPLY.PGOOD_RISE, SUPPLY.PGOOD_FALL] (fun t => t.supply = { s.supply with comp := true } ∧ t.get SUPPLY.PGOOD = 1 ∧
      (s.get SUPPLY.PGOOD = 0 → t.get SUPPLY.PGOOD_RISE = 1))) ∧
  (∀ s : State, s.alive = true → s.get SUPPLY.ACTIVE_SRC = 3 → s.runs .pgoodFall [.supply] [SUPPLY.PGOOD, SUPPLY.PGOOD_FALL]
    (fun t => t.supply = { s.supply with comp := false } ∧ t.get SUPPLY.PGOOD = 0 ∧ (s.get SUPPLY.PGOOD = 1 → t.get SUPPLY.PGOOD_FALL = 1))) ∧
  (∀ (s : State) (m : Master) (v : Word), s.admits m 3 0x14 true → bits v.toNat 8 6 + 4 ≤ bits v.toNat 0 6 → bits v.toNat 0 6 ≤ 60 →
    s.runs (.supplyPgoodWrite m v) [] [SUPPLY.ON_CODE, SUPPLY.OFF_CODE] (fun t =>
      t.get SUPPLY.ON_CODE = bits v.toNat 0 6 ∧ t.get SUPPLY.OFF_CODE = bits v.toNat 8 6)) ∧
  (∀ (s : State) (m : Master) (v : Word), s.admits m 3 0x14 true → ¬(bits v.toNat 8 6 + 4 ≤ bits v.toNat 0 6 ∧ bits v.toNat 0 6 ≤ 60) →
    s.runs (.supplyPgoodWrite m v) [] [SUPPLY.PGOOD_REJECT] (fun t => t.get SUPPLY.PGOOD_REJECT = 1)) ∧
  (∀ s : State, s.alive = true → s.on SUPPLY.AT_LIMIT = false → s.runs .chgLimitHit [] [SUPPLY.AT_LIMIT, SUPPLY.CHG_LIMIT_HIT]
    (fun t => t.get SUPPLY.AT_LIMIT = 1 ∧ t.get SUPPLY.CHG_LIMIT_HIT = 1)) ∧
  (∀ s : State, s.runs .chargeRestart [] [SUPPLY.AT_LIMIT] (fun t => t.get SUPPLY.AT_LIMIT = 0)) ∧
  (∀ s : State, s.rst.inReset = true → s.rst.fuseLoaded = true →
    s.runs .outputRailsUp [.supply] [] (fun t => t.supply = { s.supply with railsUp := true })) ∧
  (∀ (s : State) (r : Rail), s.railOn r = true → s.runs (.railFault r) [] [railFlag r, SUPPLY.RAIL_FAULT] (fun t =>
    t.get (railFlag r) = 1 ∧ t.get SUPPLY.RAIL_FAULT = 1)) ∧
  (∀ (s : State) (r : Rail) (overloaded : Bool), s.railOn r = true → s.on (railFlag r) = true →
    s.runs (.railRetry r overloaded) [] [railFlag r, SUPPLY.RAIL_FAULT] (fun t =>
      t.get (railFlag r) = ofBool overloaded ∧ (overloaded = true → t.get SUPPLY.RAIL_FAULT = 1)))

/-- Chapter 3, harvester and gauge (R104, R105, R114 to R119, R129, R132). That CHARGE wraps modulo 2^32, of which the spec says nothing, is the
model's choice (notes/assumptions/31.md). -/
def Obligations.HarvesterAndGauge : Prop :=
  (∀ s : State, s.harvOn = true → s.alive = true → s.bestSource ≠ 0 → s.supply.sampleDue = false → s.on ADC.B_BUSY = false →
    s.runs .mpptDue [.supply] [] (fun t =>
    t.supply = { s.supply with mpptDue := true, inputOpen := true })) ∧
  (∀ (s : State) (mv : Fin 8192), s.supply.inputOpen = true → s.runs (.mpptSettleEnd mv) [.supply] [ADC.BG_ACTIVE] (fun t =>
    (s.supply.sampleDue = false → t.get ADC.BG_ACTIVE = 0) ∧ (s.supply.sampleDue = true → t.get ADC.BG_ACTIVE = s.get ADC.BG_ACTIVE) ∧
    t.supply = { s.supply with mpptDue := false, inputOpen := false, mpptMv := mv * s.get SUPPLY.MPPT_K / 64, mpptLow := decide (mv * s.get SUPPLY.MPPT_K < 200 * 64) })) ∧
  (∀ (s : State) (c : GaugeCount), s.on SUPPLY.GAUGE_EN = true → s.alive = true →
    s.runs (.gaugeSampleDue c) [.supply] [SUPPLY.CHARGE, SUPPLY.UNC_OVER]
    (fun t => t.supply.sampleDue = true ∧ t.get SUPPLY.CHARGE = ofSigned 32 (toSigned 32 (s.get SUPPLY.CHARGE) + c.net) ∧
      t.supply.age = s.supply.age + c.secs ∧ t.supply.gross = s.supply.gross + c.gross)) ∧
  (∀ s : State, s.on SUPPLY.GAUGE_EN = true → s.alive = true → s.supply.inBand = true → s.runs .restTimeExpiry [.supply] [] (fun t =>
    t.supply = { s.supply with restElapsed := true, sampleDue := true })) ∧
  (∀ (s : State) (mv : Fin 8192) (c : GaugeCount), s.on SUPPLY.GAUGE_EN = true → s.alive = true → s.supply.inBand = true →
    s.supply.restElapsed = true → s.gaugeFree = true →
      s.runs (.restTaken mv c) [.supply] [SUPPLY.CHARGE, SUPPLY.REF_VALID, SUPPLY.REST_TAKEN, ADC.BG_ACTIVE]
      (fun t => t.get SUPPLY.CHARGE = 0 ∧ t.get SUPPLY.REF_VALID = 1 ∧ t.get SUPPLY.REST_TAKEN = 1 ∧ t.supply.refMv = mv ∧ t.supply.vstoreMv = mv ∧
        t.supply.age = 0 ∧ t.supply.gross = 0 ∧ t.supply.sampleDue = false ∧ t.supply.inputOpen = s.supply.mpptDue ∧ (s.supply.mpptDue = false →
          t.get ADC.BG_ACTIVE = 0))) ∧
  (∀ (s : State) (c : GaugeCount), s.runs (.uncOver c) [.supply] [SUPPLY.CHARGE, SUPPLY.UNC_OVER] (fun t =>
    t.supply.uncOver = decide (t.get SUPPLY.UNC_LIMIT < t.uncNow) ∧
    (t.supply.uncOver = true → s.supply.uncOver = false → s.supply.uncRaised = false → s.on SUPPLY.REF_VALID = true → t.get SUPPLY.UNC_OVER = 1) ∧
    (t.supply.uncOver = false → t.get SUPPLY.UNC_OVER = s.get SUPPLY.UNC_OVER))) ∧
  (∀ (s : State) (m : Master) (c : GaugeCount), s.admits m 3 0x30 false → s.runs (.gaugeChargeRead m c) [.supply, .answer]
    [SUPPLY.CHARGE, SUPPLY.UNC_OVER, SUPPLY.VSTORE_MV, SUPPLY.REF_MV, SUPPLY.AGE, SUPPLY.UNC] (fun t =>
      t.answer = BitVec.ofNat 32 (t.get SUPPLY.CHARGE) ∧ t.get SUPPLY.AGE = t.supply.age % 2 ^ 32 ∧
      t.get SUPPLY.VSTORE_MV = s.supply.vstoreMv % 2 ^ 13 ∧ t.get SUPPLY.REF_MV = s.supply.refMv % 2 ^ 13 ∧ t.get SUPPLY.UNC = t.uncNow)) ∧
  (∀ (s : State) (b : Bool) (c : GaugeCount), s.runs (.storageCurrentBandChange b c) [.supply] [SUPPLY.CHARGE, SUPPLY.UNC_OVER] (fun t =>
    t.supply.inBand = b ∧ t.supply.restElapsed = false))

/-- Chapter 5, power-on and Table 5.6, and VIO (R81, R109, R136, R148, R184, R185, R189 to R193, R198, R199, R399). -/
def Obligations.PowerOnAndStartUp : Prop :=
  (∀ s : State, s.rst.porDue = true → s.mem.flashOp = none → s.rst.fuseOp = none → s.runs .por (Part.everything.filter (fun p => p ≠ .pending ∧
    p ≠ .answer ∧ p ≠ .fresh)) [] (fun t =>
    t.rst.porHeld = true ∧ t.rst.porDue = false ∧ t.rst.inReset = true ∧ t.rst.fuses = s.rst.fuses ∧ t.harts = Vector.replicate 4 noHart ∧
    t.ntu = noNtu ∧ t.dbg = noDebug ∧ t.owners = [] ∧ t.q = noQueues ∧ t.fab.vio = false ∧ t.mem.flash = s.mem.flash ∧
      t.mem.programmed = s.mem.programmed ∧ t.mem.ram = [] ∧
    ∀ f : Fld, fieldOfKey f.key = some f → (f.keep = .sys ∨ f.keep = .kept ∨ f.keep = .por) →
      f.key ∉ [CLK.XO40_OK, CLK.XO32_OK, CLK.PLL_CORE_LOCK, CLK.PLL_PERIPH_LOCK, CLK.KEEP_ON_RC, SUPPLY.PGOOD, CANX.MODE_NOW, PWM.FAULT_IN].map
        Fld.key →
      t.get f = f.reset)) ∧
  (∀ s : State, s.rst.porHeld = true → s.runs .porRelease [.power, .rst, .trx]
    [SUPPLY.ACTIVE_SRC, SUPPLY.PGOOD, RSTC.CAUSE_POR, RSTC.CAUSE_OFF_EXIT, RSTC.CAUSE_FAILSAFE] (fun t =>
      t.rst = { s.rst with porHeld := false, offExit := false } ∧ t.get SUPPLY.ACTIVE_SRC = s.bestSource ∧ t.get RSTC.CAUSE_POR = 1 ∧
      t.get RSTC.CAUSE_OFF_EXIT = ofBool s.rst.offExit ∧ t.get RSTC.CAUSE_FAILSAFE = ofBool (s.rst.offExit && s.trx.byTimer) ∧
      t.power.mode = .gale ∧ t.up .ao = true ∧ (t.get SUPPLY.PGOOD = 1 ↔ t.pgoodNow = true))) ∧
  (∀ (s : State) (retained : Bool), s.alive = true → s.rst.fuseOp = none → s.bestSource = 0 → s.mem.flashOp = none →
    s.runs (.brownOut retained) (Part.everything.filter (fun p => p ≠ .pending ∧ p ≠ .answer ∧ p ≠ .fresh ∧ p ≠ .dbg)) [] (fun t =>
      t.rst.brownHeld = true ∧ t.rst.retained = retained ∧ t.rst.inReset = true ∧ t.rst.fuses = s.rst.fuses ∧ t.mem.ram = [] ∧
      t.mem.flash = s.mem.flash ∧ t.ntu = { noNtu with mtime := s.ntu.mtime } ∧ t.owners = [] ∧ t.q = noQueues ∧
      ∀ f : Fld, fieldOfKey f.key = some f → f.keep = .sys →
        f.key ∉ [CLK.XO40_OK, CLK.XO32_OK, CLK.PLL_CORE_LOCK, CLK.PLL_PERIPH_LOCK, CLK.KEEP_ON_RC, SUPPLY.PGOOD, CANX.MODE_NOW].map Fld.key →
        t.get f = f.reset)) ∧
  (∀ (s : State) (retained : Bool), s.alive = true → s.rst.fuseOp = none → s.noSupplyNow = true → s.bestSource ≠ 0 → s.mem.flashOp = none →
    s.runs (.brownOut retained) (Part.everything.filter (fun p => p ≠ .pending ∧ p ≠ .answer ∧ p ≠ .fresh ∧ p ≠ .dbg)) [] (fun t =>
      t.rst.brownHeld = false ∧ t.rst.inReset = true ∧ (retained = false → t.rst.porDue = true) ∧
      (retained = true → t.get RSTC.CAUSE_BROWNOUT = 1 ∧ t.get SUPPLY.ACTIVE_SRC = s.bestSource))) ∧
  (∀ s : State, s.rst.inReset = true → s.rst.fuseLoaded = false → s.rst.porDue = false → s.rst.porHeld = false → s.rst.brownHeld = false →
    (s.fab.vio = false ∨ s.on PWM.FAULT_IN = true ∨ (s.on (PORT.OE 40) = false ∨ s.get (PORT.FUNC 40) ≠ 0) ∧ bits (s.fuse 11) 24 3 ≠ 3) →
    s.runs .fuseLoad [.rst, .fab, .page 0xE] [RSTC.FACTORY_CRC_BAD, RSTC.QUOTA_FUSE_BAD, RSTC.STRETCH, RSTC.CANA_LISTEN, TEN.EN, CANX.MODE,
      CANX.MODE_NOW]
      (fun t => t.rst = { s.rst with shadow := s.rst.fuses, fuseLoaded := true, driven := true, stretchOver := false } ∧
        t.get RSTC.FACTORY_CRC_BAD = ofBool (crc16 ((List.range 7).flatMap (fun w => bytesLE 4 (s.fuse w))) != bits (s.fuse 7) 0 16) ∧
        t.get TEN.EN = 0xF ^^^ bits (s.fuse 12) 19 3 * 2 ∧ t.get CANX.MODE = bits (s.fuse 12) 18 1 ∧
        (bits (s.fuse 13) 0 12 = 0 ∧ bits (s.fuse 13) 16 12 = 0 ∧ bits (s.fuse 14) 0 12 = 0 ∧ bits (s.fuse 14) 16 12 = 0 →
          t.get RSTC.QUOTA_FUSE_BAD = 0 ∧ ∀ n : Tid, t.get (QMGR.QUOTA n.toNat) = 512) ∧
        (2048 < bits (s.fuse 13) 0 12 + bits (s.fuse 13) 16 12 + bits (s.fuse 14) 0 12 + bits (s.fuse 14) 16 12 →
          t.get RSTC.QUOTA_FUSE_BAD = 1 ∧ ∀ n : Tid, t.get (QMGR.QUOTA n.toNat) = 512))) ∧
  (∀ s : State, s.rst.inReset = true → s.rst.fuseLoaded = false → s.rst.porDue = false → s.rst.porHeld = false → s.rst.brownHeld = false →
    s.fab.vio = true → s.on (PORT.CFGD 40) = false → bits (s.fuse 11) 24 3 = 3 →
    s.runs .fuseLoad (.rst :: .page 0xE :: .page 0x21 :: .page 0x1A :: Part.eventFan) [RSTC.FACTORY_CRC_BAD, RSTC.QUOTA_FUSE_BAD, RSTC.STRETCH,
      RSTC.CANA_LISTEN, TEN.EN, CANX.MODE, CANX.MODE_NOW]
      (fun t => t.rst = { s.rst with shadow := s.rst.fuses, fuseLoaded := true, driven := true, stretchOver := false } ∧ t.get PWM.FAULT_IN = 1)) ∧
  (∀ s : State, s.rst.inReset = true → s.rst.fuseLoaded = true → s.rst.treeUp = false → s.runs .supplyTreeUp [.rst, .power] [] (fun t =>
    t.rst = { s.rst with treeUp := true } ∧ t.power.xo40On = true ∧ t.power.coreMv = 700 ∧ t.up .ao = true ∧ t.island .core = .powering)) ∧
  (∀ s : State, s.power.xo40On = true → s.power.xo40Lost = false → s.runs .xo40Stable [] [CLK.XO40_OK] (fun t => t.get CLK.XO40_OK = 1)) ∧
  (∀ s : State, s.on CLK.XO40_OK = true → s.power.xo40Lost = false → s.rst.treeUp = true → s.power.phase = .steady →
    (s.power.mode = .gale ∨ s.power.mode = .breeze) →
    s.runs .pllLock [] [CLK.PLL_PERIPH_LOCK, CLK.PLL_CORE_LOCK, CLK.KEEP_ON_RC] (fun t => t.get CLK.PLL_PERIPH_LOCK = 1 ∧
      t.get CLK.KEEP_ON_RC = 0 ∧ (s.get PWR.MODE = 0 → t.get CLK.PLL_CORE_LOCK = 1) ∧
      (s.get PWR.MODE ≠ 0 → t.get CLK.PLL_CORE_LOCK = s.get CLK.PLL_CORE_LOCK))) ∧
  (∀ s : State, s.on CLK.XO40_OK = true → s.power.xo40Lost = false → s.rst.treeUp = true → s.power.phase = .leaving → s.power.mode = .calm →
    s.runs .pllLock [.power] [CLK.PLL_PERIPH_LOCK, CLK.PLL_CORE_LOCK, CLK.KEEP_ON_RC] (fun t => t.get CLK.PLL_PERIPH_LOCK = 1 ∧
      t.get CLK.PLL_CORE_LOCK = 1 ∧ t.get CLK.KEEP_ON_RC = 0 ∧ t.power = { s.power with mode := s.baseMode })) ∧
  (∀ (s : State) (pass : Bool), s.rst.treeUp = true → s.rst.keysDrawn = false → s.on CLK.PLL_PERIPH_LOCK = true →
    s.runs (.trngStartupTests pass) [.rst, .mem]
    [MEMC.KEYS_DEGRADED, MEMC.DEGRADED] (fun t => t.rst = { s.rst with keysDrawn := true } ∧
      t.mem = { s.mem with trngFail := !pass, draws := s.mem.draws + 5,
                           keys := Vector.ofFn (fun k : Fin 5 => Config.keyDraw (s.mem.draws + k)) } ∧
      (pass = false → t.get MEMC.KEYS_DEGRADED = 1 ∧ t.get MEMC.DEGRADED = 1) ∧
      (pass = true → t.get MEMC.KEYS_DEGRADED = s.get MEMC.KEYS_DEGRADED ∧ t.get MEMC.DEGRADED = s.get MEMC.DEGRADED))) ∧
  (∀ (s : State) (b : MemBlock), b ∈ s.power.needInit → s.on CLK.PLL_PERIPH_LOCK = true → s.runs (.memoryInit b) [.power, .mem, .can] [] (fun t =>
    b ∉ t.power.needInit ∧ t.mem = { s.mem with ram := t.mem.ram, ecc := t.mem.ecc, single := t.mem.single } ∧
    ∀ a : Nat, t.ramByte a = if (blockRange b).1 ≤ a ∧ a < (blockRange b).1 + (blockRange b).2 then 0 else s.ramByte a)) ∧
  (∀ s : State, s.rst.inReset = true → s.rst.fuseLoaded = true → s.rst.treeUp = true → s.rst.keysDrawn = true → s.on CLK.PLL_PERIPH_LOCK = true →
    s.on CLK.PLL_CORE_LOCK = true → s.power.needInit = [] → s.runs .startUpReadiness [.rst] [] (fun t => t.rst.ready = true ∧
      (s.rst.stretchOver = true → t.rst.driven = false) ∧ (s.rst.stretchOver = false → t.rst.driven = s.rst.driven))) ∧
  (∀ (s : State) (levels : BitVec 48), s.fab.vio = false → s.power.mode ≠ .off → s.ownLowSeen → s.runs (.vioPresent levels)
    (Part.eventFan ++ [.ser, .page 0x21]) [] (fun t => t.fab.vio = true ∧ t.ser = { s.ser with uartCut := #v[false, false] } ∧
      ∀ i : Fin 48, t.padLevel i = if s.get (PORT.FILTER i) = 0 then levels.getLsbD i else s.padLevel i)) ∧
  (∀ (s : State) (levels : BitVec 48), s.fab.vio = false → s.power.mode ≠ .off → s.on (PORT.CFGD 40) = false → vget s.fab.padFuse 40 0 = 3 →
    s.runs (.vioPresent levels) (Part.eventFan ++ [.ser, .page 0x21, .page 0x1A]) [] (fun t => t.fab.vio = true ∧ t.get PWM.FAULT_IN = 1)) ∧
  (∀ s : State, s.fab.vio = true → s.runs .vioAbsent [.fab, .ser] [PWM.FAULT_IN] (fun t => t.fab = { s.fab with vio := false } ∧
    t.ser = { s.ser with uartCut := #v[true, true] } ∧
    t.get PWM.FAULT_IN = ofBool (!s.padLevel 40) ∧ ∀ i : Fin 48, t.padState i = hiZ ∧ t.padLevel i = s.padLevel i)) ∧
  (∀ s : State, s.fab.vio = false → s.runs .vioAbsent [] [] (fun t => t = s))

/-- Chapter 5, system resets (R176 to R184, R197, R217). -/
def Obligations.ResetPin : Prop :=
  (∀ s : State, s.testMode = false → s.alive = true → (s.rst.inReset = false ∨ s.rst.driven = false ∧ s.rst.ready = true ∧
    s.rst.stretchOver = true) → s.runs .resetNLow [.rst] [] (fun t =>
    t.rst = { s.rst with asked := s.rst.asked ++ [.pin] })) ∧
  (∀ s : State, s.rst.inReset = true → s.rst.driven = true → s.runs .resetStretchExpiry [.rst] [] (fun t =>
    t.rst = { s.rst with stretchOver := true, driven := !s.rst.ready })) ∧
  (∀ s : State, s.testMode = false → s.rst.inReset = true → s.rst.driven = false → s.rst.ready = true → s.rst.stretchOver = true →
    s.rst.thermalHold = false →
    s.rst.debugHold = false → s.rst.asked = [] → s.runs .resetNHighRelease [.power, .rst, .phy, .link, .tooth, .page 0x15, .page 0x1B] [] (fun t =>
      t.rst = { s.rst with highSeen := true, inReset := false, bootPending := true } ∧
      t.power.islands = Vector.replicate 7 .running)) ∧
  (∀ s : State, s.testMode = false → s.rst.inReset = true → s.rst.driven = false → s.rst.ready = true → s.rst.stretchOver = true →
    (s.rst.thermalHold = true ∨ s.rst.debugHold = true ∨ s.rst.asked ≠ []) →
    s.runs .resetNHighRelease [.rst] [] (fun t => t.rst = { s.rst with highSeen := true })) ∧
  (∀ s : State, s.testMode = true → s.runs .resetNHighRelease [] [] (fun t => t = s)) ∧
  (∀ s : State, s.alive = true → s.runs .thermalShutdown [.rst] [] (fun t => t.rst =
    { s.rst with asked := s.rst.asked ++ [.thermal], thermalHold := true })) ∧
  (∀ s : State, s.rst.inReset = true → s.rst.debugHold = false → s.rst.highSeen = true → s.rst.asked = [] → s.runs .thermalShutdownEnd
    [.power, .rst, .phy, .link, .tooth, .page 0x15, .page 0x1B] [] (fun t =>
      t.rst = { s.rst with thermalHold := false, inReset := false, driven := false, bootPending := true } ∧
      t.power.islands = Vector.replicate 7 .running)) ∧
  (∀ s : State, (s.rst.inReset = false ∨ s.rst.debugHold = true ∨ s.rst.highSeen = false ∨ s.rst.asked ≠ []) →
    s.runs .thermalShutdownEnd [.rst] [] (fun t => t.rst = { s.rst with thermalHold := false })) ∧
  (∀ s : State, s.rst.asked = [.pin] → s.alive = true → s.mem.flashOp = none → s.rst.fuseOp = none → s.rst.inReset = false →
    s.runs .systemReset (Part.everything.filter (fun p => p ≠ .pending ∧ p ≠ .answer ∧ p ≠ .fresh ∧ p ≠ .dbg)) [] (fun t =>
      t.rst.inReset = true ∧ t.rst.asked = [] ∧ t.rst.driven = true ∧ t.rst.fuses = s.rst.fuses ∧ t.get RSTC.CAUSE_PIN = 1 ∧
      t.power.mode = .gale ∧ t.power.phase = .steady ∧ t.up .ao = true ∧ t.owners = [] ∧ t.waiting = [] ∧ t.service = [] ∧ t.q = noQueues ∧
      t.mem.ram = s.mem.ram ∧ t.mem.flash = s.mem.flash ∧ t.mem.programmed = s.mem.programmed ∧
      t.mem.keys = Vector.ofFn (fun k : Fin 5 => Config.keyDraw (s.mem.draws + k)) ∧
      t.ntu.sec = s.ntu.sec ∧ t.ntu.ns = s.ntu.ns ∧ t.ntu.frac = s.ntu.frac ∧ t.ntu.mtime = s.ntu.mtime ∧
      (∀ n : Tid, t.get (RSTC.EPOCH n.toNat) = (s.get (RSTC.EPOCH n.toNat) + 1) % 2 ^ 16) ∧
      (s.fab.vio = true → vget s.fab.padFuse 40 0 = 3 → t.get PWM.FAULT_IN = 1) ∧
      ∀ f : Fld, fieldOfKey f.key = some f → f.keep = .sys → (f.key = PWM.PWM_FAULT.key → s.fab.vio = false ∨ vget s.fab.padFuse 40 0 ≠ 3) →
        f.key ∉ [CLK.XO40_OK, CLK.PLL_CORE_LOCK, CLK.PLL_PERIPH_LOCK, CANX.MODE, CANX.MODE_NOW, MEMC.KEYS_DEGRADED, MEMC.DEGRADED].map Fld.key →
        t.get f = f.reset)) ∧
  (∀ s : State, (s.rst.fuseOp.isSome = true ∨ s.mem.flashOp.isSome = true ∧ s.island .core ≠ .lost ∧ s.brownAsked = false) →
    s.runs .systemReset [] [] (fun t => t = s))

/-- Chapter 5, resets by software and tenant resets (R176, R203 to R210). -/
def Obligations.SoftwareAndTenantResets : Prop :=
  (∀ (s : State) (m : Master) (v : Word), s.admits m 1 0x1C true → s.power.mode ≠ .off → bits v.toNat 1 3 = 0 →
    s.runs (.swresetSys m v) [.rst] [] (fun t =>
    t.rst = { s.rst with asked := s.rst.asked ++ [.software] })) ∧
  (∀ (s : State) (m : Master) (n : Fin 3), s.admits m 1 0x1C true → s.rst.inReset = false → s.power.mode ≠ .off →
    s.rst.quiescing.contains (n + 1) = false →
    s.runs (.swresetTenant m (BitVec.ofNat 32 (2 ^ (n.val + 1)))) (Part.everything.filter (fun p => p ≠ .pending ∧ p ≠ .answer ∧ p ≠ .supply ∧
      p ≠ .dbg ∧ p ≠ .toothTime ∧ p ≠ .trx)) [] (fun t =>
      t.rst.quiescing = s.rst.quiescing ++ [n.val + 1] ∧ t.get (RSTC.TEN_CAUSE_SOFT (n + 1)) = 1 ∧ bit (t.get RSTC.QUIESCE_BUSY) n = true ∧
      bit (t.get RSTC.RUN) n = false ∧ t.hart (n + 1) = (s.hart (n + 1)).lost ∧ t.get (RSTC.EPOCH (n + 1)) = s.get (RSTC.EPOCH (n + 1)) ∧
      t.get (QMGR.RING_SIZE (n + 1)) = 0 ∧ t.get (QMGR.RING_BASE (n + 1)) = 0 ∧ t.mem.ram = s.mem.ram ∧ t.mem.flash = s.mem.flash)) ∧
  (∀ (s : State) (n : Fin 3), s.rst.quiescing.contains (n + 1) = true → bit (s.get TEN.AUTORESTART) n = false →
    s.runs (.tenRstDone n.succ) [.rst, .mem]
    [RSTC.QUIESCE_BUSY, RSTC.EPOCH (n + 1), RSTC.TEN_RST_DONE, MEMC.KEYS_DEGRADED, MEMC.DEGRADED] (fun t =>
      t.rst = { s.rst with quiescing := dropFrom s.rst.quiescing (n + 1) } ∧ bit (t.get RSTC.QUIESCE_BUSY) n = false ∧
      t.get (RSTC.EPOCH (n + 1)) = (s.get (RSTC.EPOCH (n + 1)) + 1) % 2 ^ 16 ∧ t.get RSTC.TEN_RST_DONE = 1 ∧
      vget t.mem.keys (n + 1) 0 = Config.keyDraw s.mem.draws ∧ t.mem.ram = s.mem.ram)) ∧
  (∀ (s : State) (m : Master) (n : Fin 3), s.admits m 1 0x20 true → (s.hart (n + 1)).running = false → s.releaseRefusal (n + 1) = none →
    s.runs (.rstcHartRunWrite m (BitVec.ofNat 32 (2 ^ (n.val + 1)))) [.wdt, .harts] [RSTC.RUN] (fun t =>
      (t.hart (n + 1)).running = true ∧ (t.hart (n + 1)).pc = BitVec.ofNat 32 (s.get (RSTC.VECTOR (n + 1)) * 2) ∧ bit (t.get RSTC.RUN) n = true)) ∧
  (∀ (s : State) (m : Master) (n : Fin 3) (r : Nat), s.admits m 1 0x20 true → (s.hart (n + 1)).running = false → s.releaseRefusal (n + 1) = some r →
    s.runs (.rstcHartRunWrite m (BitVec.ofNat 32 (2 ^ (n.val + 1)))) [] [RSTC.RELEASE_REASON, RSTC.RELEASE_REFUSED] (fun t =>
      t.get RSTC.RELEASE_REASON = r ∧ t.get RSTC.RELEASE_REFUSED = 1 ∧ t.hart (n + 1) = s.hart (n + 1)))

/-- Chapter 5, boot and fuses (R43, R194 to R202); R165. That a check which passes clears BOOT_FAIL and BOOT_ERR is the model's choice
(notes/assumptions/18.md); that the WORD field is taken when a command is ignored is of the same log; that the check and the copy each end in one
command is notes/assumptions/28.md. -/
def Obligations.BootAndFuses : Prop :=
  (∀ (s : State) (d : Disturb) (h : List Nat), d.upset = Upset.none → s.rst.bootPending = true → s.up .keeper = true → s.up .core = true →
    s.power.warmDue = false → h = (List.range 8).map s.imageWord →
    Table.find s.mem.broken 0 = none → Table.find s.mem.broken 16 = none → s.eccBad 0 = false → s.eccBad 16 = false →
      (if nth h 0 ≠ 0x54443438 then 1 else if nth h 1 ≠ 1 then 2 else if nth h 7 ≠ crcIeee ((h.take 7).flatMap (bytesLE 4)) then 3
      else if nth h 4 % 16 ≠ 0 ∨ nth h 4 < 0x20 ∨ nth h 5 % 4 ≠ 0 ∨ 65536 < nth h 5 ∨ 0x400000 < nth h 4 + nth h 5 then 4
      else if nth h 2 % 2 ≠ 0 ∨ ¬(0x20 ≤ nth h 2 ∧ nth h 2 ≤ 0x3FFFFE ∨ 0x10000000 ≤ nth h 2 ∧ nth h 2 < 0x10000000 + nth h 5) then 5 else 0) = 0 →
    s.runs (.bootSequencerCheck d) [.rst, .power, .post, .trx] [RSTC.BOOT_FAIL, RSTC.BOOT_ERR, FAULT.OVERFLOW 0] (fun t => t.get RSTC.BOOT_FAIL = 0 ∧
      t.get RSTC.BOOT_ERR = 0 ∧ t.power = s.power ∧
      t.rst = { s.rst with bootPending := false, copying := true, entryPc := BitVec.ofNat 32 (nth h 2) } ∧ t.trx = { s.trx with byTimer := false } ∧
        (s.trx.byTimer = false → t.post = s.post ∧ t.get (FAULT.OVERFLOW 0) = s.get (FAULT.OVERFLOW 0)) ∧
      (s.trx.byTimer = true → s.recorded t 0 ⟨0x12, 0, 0x85, s.now % 2 ^ 32, false⟩))) ∧
  (∀ (s : State) (d : Disturb) (h : List Nat), d.upset = Upset.none → s.rst.bootPending = true → s.up .keeper = true → s.up .core = true →
    s.power.warmDue = true → h = (List.range 8).map s.imageWord →
    Table.find s.mem.broken 0 = none → Table.find s.mem.broken 16 = none → s.eccBad 0 = false → s.eccBad 16 = false →
      (if nth h 0 ≠ 0x54443438 then 1 else if nth h 1 ≠ 1 then 2 else if nth h 7 ≠ crcIeee ((h.take 7).flatMap (bytesLE 4)) then 3
      else if nth h 4 % 16 ≠ 0 ∨ nth h 4 < 0x20 ∨ nth h 5 % 4 ≠ 0 ∨ 65536 < nth h 5 ∨ 0x400000 < nth h 4 + nth h 5 then 4
      else if nth h 2 % 2 ≠ 0 ∨ ¬(0x20 ≤ nth h 2 ∧ nth h 2 ≤ 0x3FFFFE ∨ 0x10000000 ≤ nth h 2 ∧ nth h 2 < 0x10000000 + nth h 5) then 5 else 0) = 0 →
        (s.hart 0).haltReset = false → (s.hart 0).haltWait = false →
    s.runs (.bootSequencerCheck d) [.rst, .power, .post, .trx, .harts] [RSTC.BOOT_FAIL, RSTC.BOOT_ERR, FAULT.OVERFLOW 0] (fun t => t.get
      RSTC.BOOT_FAIL = 0 ∧ t.get RSTC.BOOT_ERR = 0 ∧
      t.rst = { s.rst with bootPending := false } ∧ t.power = { s.power with warmDue := false } ∧
        t.hart 0 = { s.hart 0 with running := true, pc := BitVec.ofNat 32 (nth h 2) } ∧ (∀ k : Fin 4, k ≠ 0 → t.hart k = s.hart k) ∧
        t.trx = { s.trx with byTimer := false } ∧ (s.trx.byTimer = false → t.post = s.post ∧ t.get (FAULT.OVERFLOW 0) = s.get (FAULT.OVERFLOW 0)) ∧
      (s.trx.byTimer = true → s.recorded t 0 ⟨0x12, 0, 0x85, s.now % 2 ^ 32, false⟩))) ∧
  (∀ (s : State) (d : Disturb) (h : List Nat) (e : Nat), d.upset = Upset.none → s.rst.bootPending = true → s.up .keeper = true → s.up .core = true →
    h = (List.range 8).map s.imageWord →
    Table.find s.mem.broken 0 = none → Table.find s.mem.broken 16 = none → s.eccBad 0 = false → s.eccBad 16 = false →
      e = (if nth h 0 ≠ 0x54443438 then 1 else if nth h 1 ≠ 1 then 2 else if nth h 7 ≠ crcIeee ((h.take 7).flatMap (bytesLE 4)) then 3
      else if nth h 4 % 16 ≠ 0 ∨ nth h 4 < 0x20 ∨ nth h 5 % 4 ≠ 0 ∨ 65536 < nth h 5 ∨ 0x400000 < nth h 4 + nth h 5 then 4
      else if nth h 2 % 2 ≠ 0 ∨ ¬(0x20 ≤ nth h 2 ∧ nth h 2 ≤ 0x3FFFFE ∨ 0x10000000 ≤ nth h 2 ∧ nth h 2 < 0x10000000 + nth h 5) then 5 else 0) →
        e ≠ 0 →
    s.runs (.bootSequencerCheck d) [.rst, .power, .post, .trx, .harts] [RSTC.BOOT_FAIL, RSTC.BOOT_ERR, FAULT.OVERFLOW 0] (fun t => t.get
      RSTC.BOOT_FAIL = 1 ∧ t.get RSTC.BOOT_ERR = e ∧
      t.rst = { s.rst with bootPending := false } ∧ t.hart 0 = ({ s.hart 0 with running := true } : Hart).halt 3 ∧ (∀ k : Fin 4, k ≠ 0 →
        t.hart k = s.hart k) ∧ t.trx = { s.trx with byTimer := false } ∧ (s.trx.byTimer = false → t.post = s.post ∧
        t.get (FAULT.OVERFLOW 0) = s.get (FAULT.OVERFLOW 0)) ∧
      (s.trx.byTimer = true → s.recorded t 0 ⟨0x12, 0, 0x85, s.now % 2 ^ 32, false⟩))) ∧
  (∀ (s : State) (d : Disturb), (s.rst.bootPending = false ∨ s.up .keeper = false ∨ s.up .core = false) →
    s.runs (.bootSequencerCheck d) [] [] (fun t => t = s)) ∧
  (∀ (s : State) (d : Disturb) (src len : Nat), d.upset = Upset.none → s.rst.copying = true → src = s.imageWord 4 → len = s.imageWord 5 →
    src % 16 = 0 → len ≤ 65536 → src + len ≤ 0x400000 →
    (∀ i, i < (len + 15) / 16 → Table.find s.mem.broken (src + 16 * i) = none ∧ s.eccBad (src + 16 * i) = false) → (s.hart 0).haltReset = false →
      (s.hart 0).haltWait = false → s.runs (.bootCopyDone d)
    [.rst, .harts, .mem] [] (fun t => t.rst = { s.rst with copying := false } ∧ t.hart 0 = { s.hart 0 with running := true, pc := s.rst.entryPc } ∧
      (∀ k : Fin 4, k ≠ 0 → t.hart k = s.hart k) ∧
      t.mem = { s.mem with ram := t.mem.ram, ecc := t.mem.ecc, single := t.mem.single } ∧ (∀ i : Nat, i < (len + 3) / 4 →
        t.word 0 (0x10000000 + 4 * i) = s.imageWord (src / 4 + i)) ∧ s.outside t 0x10000000 (4 * ((len + 3) / 4)))) ∧
  (∀ (s : State) (d : Disturb), s.rst.copying = false → s.runs (.bootCopyDone d) [] [] (fun t => t = s)) ∧
  (∀ (s : State) (m : Master) (v : Word), s.admits m 1 0x38 true → s.on RSTC.FUSE_BUSY = false → s.fuseRefused (bits v.toNat 0 6) = false →
    (s.get SUPPLY.ACTIVE_SRC = 1 ∨ s.get SUPPLY.ACTIVE_SRC = 2) → s.runs (.fuseProgram m v) [.rst] [RSTC.WORD, RSTC.FUSE_BUSY] (fun t =>
      t.get RSTC.FUSE_BUSY = 1 ∧ t.get RSTC.WORD = bits v.toNat 0 6 ∧
        t.rst = { s.rst with fuseOp := some (bits v.toNat 0 6, BitVec.ofNat 32 (s.get RSTC.FUSE_DATA)) })) ∧
  (∀ (s : State) (m : Master) (v : Word) (w : Nat), s.admits m 1 0x38 true → s.on RSTC.FUSE_BUSY = false → w = bits v.toNat 0 6 →
    s.fuseRefused w = true →
    s.runs (.fuseProgram m v) [] [RSTC.WORD, RSTC.FUSE_RESULT, RSTC.FUSE_DONE] (fun t => t.get RSTC.WORD = w ∧ t.get RSTC.FUSE_RESULT = 1 ∧
      t.get RSTC.FUSE_DONE = 1)) ∧
  (∀ (s : State) (m : Master) (v : Word) (w : Nat), s.admits m 1 0x38 true → s.on RSTC.FUSE_BUSY = false → w = bits v.toNat 0 6 →
    s.fuseRefused w = false →
    (s.get SUPPLY.ACTIVE_SRC = 0 ∨ s.get SUPPLY.ACTIVE_SRC = 3) →
      s.runs (.fuseProgram m v) [] [RSTC.WORD, RSTC.FUSE_RESULT, RSTC.FUSE_DONE] (fun t => t.get RSTC.WORD = w ∧ t.get RSTC.FUSE_RESULT = 2 ∧
      t.get RSTC.FUSE_DONE = 1)) ∧
  (∀ (s : State) (w : Fin 64), s.fuseRefused w = (if w = 63 then false else match fuseLock w with
    | some k => (vget s.rst.shadow 63 0).getLsbD k
    | none => true)) ∧
  (∀ (s : State) (w : Nat) (d weak : Word), s.rst.fuseOp = some (w, d) → w < 64 → s.rst.asked = [] → s.runs (.fuseProgramDone weak) [.rst]
    [RSTC.FUSE_BUSY, RSTC.FUSE_RESULT, RSTC.FUSE_DONE] (fun t => t.get RSTC.FUSE_BUSY = 0 ∧ t.get RSTC.FUSE_DONE = 1 ∧ t.rst.fuseOp = none ∧
      t.rst.shadow = s.rst.shadow ∧ t.fuse w = (BitVec.ofNat 32 (s.fuse w) ||| (d &&& ~~~weak)).toNat ∧
      (∀ k : Fin 64, k.val ≠ w → t.fuse k = s.fuse k) ∧ t.get RSTC.FUSE_RESULT = if BitVec.ofNat 32 (t.fuse w) &&& d = d then 0 else 3)) ∧
  (∀ (s : State) (w : Nat) (d weak : Word), s.rst.fuseOp = some (w, d) → w < 64 → s.rst.asked = [.pin] → s.mem.flashOp = none → s.alive = true →
    s.rst.inReset = false →
    s.runs (.fuseProgramDone weak) (Part.everything.filter (fun p => p ≠ .pending ∧ p ≠ .answer ∧ p ≠ .fresh ∧
      p ≠ .dbg)) [] (fun t => t.rst.inReset = true ∧ t.rst.asked = [] ∧ t.rst.fuseOp = none ∧
      t.get RSTC.CAUSE_PIN = 1 ∧ t.fuse w = (BitVec.ofNat 32 (s.fuse w) ||| (d &&& ~~~weak)).toNat ∧ ∀ k : Fin 64, k.val ≠ w → t.fuse k = s.fuse k)) ∧
  (∀ (s : State) (weak : Word), s.rst.fuseOp = none → s.runs (.fuseProgramDone weak) [] [] (fun t => t = s)) ∧
  (∀ (s : State) (m : Master) (v : Word), s.admits m 1 0x38 true → s.on RSTC.FUSE_BUSY = false → s.runs (.fuseVerify m v) []
    [RSTC.WORD, RSTC.FUSE_DATA, RSTC.FUSE_RESULT, RSTC.FUSE_DONE] (fun t => t.get RSTC.FUSE_RESULT = 0 ∧ t.get RSTC.FUSE_DONE = 1 ∧
      t.get RSTC.WORD = bits v.toNat 0 6 ∧
      t.get RSTC.FUSE_DATA = if 48 ≤ bits v.toNat 0 6 ∧ bits v.toNat 0 6 < 56 then 0 else s.fuse (bits v.toNat 0 6))) ∧
  (∀ (s : State) (m : Master) (v : Word), s.admits m 1 0x38 true → s.on RSTC.FUSE_BUSY = true →
    s.runs (.fuseProgram m v) [] [RSTC.WORD] (fun t => t.get RSTC.WORD = bits v.toNat 0 6 ∧ t.rst = s.rst)) ∧
  (∀ (s : State) (m : Master) (v : Word), s.admits m 1 0x38 true → s.on RSTC.FUSE_BUSY = true →
    s.runs (.fuseVerify m v) [] [RSTC.WORD] (fun t => t.get RSTC.WORD = bits v.toNat 0 6 ∧ t.rst = s.rst)) ∧
  (∀ s : State, s.alive = true → s.runs .thermWarn [.power] [PWR.THERM_HOT, PWR.THERM_WARN] (fun t => t.get PWR.THERM_HOT = 1 ∧
    t.power = { s.power with warnArmed := false } ∧ (s.power.warnArmed = true → t.get PWR.THERM_WARN = 1) ∧
    (s.power.warnArmed = false → t.get PWR.THERM_WARN = s.get PWR.THERM_WARN))) ∧
  (∀ (s : State) (below125 : Bool), s.runs (.thermHotClear below125) [.power] [PWR.THERM_HOT] (fun t => t.get PWR.THERM_HOT = 0 ∧
    t.power = { s.power with warnArmed := s.power.warnArmed || below125 }))

/-- Chapter 4, clocks and operating points (R138 to R144, R162, R163, R168, R172, R174). -/
def Obligations.CrystalsAndPoints : Prop :=
  (∀ s : State, s.on CLK.XO40_OK = true → s.power.phase = .steady → s.power.coarse = false →
    s.runs .xo40Loss [.power, .post, .harts, .fab, .can, .phy, .link, .ctl, .page 2, .page 4, .page 6, .page 7, .page 8, .page 9, .page 0x10, .page
      0x11, .page 0x18, .page 0x1A] [] (fun t =>
      t.get CLK.XO40_OK = 0 ∧ t.get CLK.PLL_CORE_LOCK = 0 ∧ t.get CLK.PLL_PERIPH_LOCK = 0 ∧ t.get CLK.KEEP_ON_RC = 1 ∧ t.get CLK.CLK_LOSS = 1 ∧
      t.power.xo40Lost = true ∧ t.power.coarse = true ∧ t.get NTU.TIME_COARSE = 1 ∧
        t.island .core = (if s.island .core = .off then .off else .lost))) ∧
  (∀ s : State, s.power.mode = .calm → s.power.phase = .leaving → s.on CLK.XO40_OK = false →
    s.runs .xo40StartTimeout [.power, .post, .harts, .fab, .can, .phy, .link, .ctl, .page 2, .page 4, .page 6, .page 7, .page 8, .page 9, .page 0x10,
      .page 0x11, .page 0x18, .page 0x1A] [] (fun t =>
      t.get CLK.CLK_LOSS = 1 ∧ t.power.xo40Lost = true ∧ t.get CLK.KEEP_ON_RC = 1 ∧ t.up .keeper = true)) ∧
  (∀ s : State, s.on CLK.XO32_OK = true → s.power.mode ≠ .calm → s.power.phase ≠ .entering →
    s.runs .xo32Loss [.power] [CLK.XO32_OK, CLK.AO_ON_RC, CLK.CLK_LOSS] (fun t =>
    t.get CLK.XO32_OK = 0 ∧ t.get CLK.AO_ON_RC = 1 ∧ t.get CLK.CLK_LOSS = 1 ∧ t.power = { s.power with lfStart := none })) ∧
  (∀ s : State, s.on CLK.XO32_OK = true → s.power.mode = .calm → s.power.phase = .steady →
    s.runs .xo32LossInCalm [.power, .ntu] [CLK.XO32_OK, CLK.AO_ON_RC, CLK.CLK_LOSS, CLK.LF_CAL_VALID, CLK.KEEP_ON_RC] (fun t =>
      t.get CLK.XO32_OK = 0 ∧ t.get CLK.AO_ON_RC = 1 ∧ t.get CLK.CLK_LOSS = 1 ∧ t.get CLK.LF_CAL_VALID = 0 ∧ t.power.phase = .leaving ∧
      t.power.xo40On = true ∧ t.get PWR.WAKE_CAUSE = s.get PWR.WAKE_CAUSE)) ∧
  (∀ s : State, s.on CLK.XO32_OK = false → s.runs .xo32Return [.power] [CLK.XO32_OK, CLK.AO_ON_RC] (fun t => t.get CLK.XO32_OK = 1 ∧
    t.get CLK.AO_ON_RC = 0 ∧
    t.power = { s.power with lfStart := if s.power.coarse then none else some s.fineNow, lfBad := false })) ∧
  (∀ (s : State) (b : Nat) (edge : Fin 65536), s.on CLK.XO32_OK = true → s.power.coarse = false → s.power.lfStart = some b →
    s.runs (.lfCalWindowEnd edge) [.power] [CLK.LF_ADDEND, CLK.LF_CAL_VALID] (fun t => t.get CLK.LF_CAL_VALID = 1 ∧
      t.get CLK.LF_ADDEND = (s.fineNow - (if s.power.lfBad = true then b + edge.val * 2 ^ 32 else b)) / 2 ^ 26 % 2 ^ CLK.LF_ADDEND.width ∧
        t.power = { s.power with lfStart := some s.fineNow, lfBad := false })) ∧
  (∀ (s : State) (m : Master) (v : Word), s.admits m 2 0x14 true → s.galeNow = true → s.on PWR.SLEWING = false → s.get PWR.OP_NOW ≤ 3 →
    opMv (bits v.toNat 0 2) ≠ s.power.slewTo → s.power.coreMv = s.power.slewTo →
      s.runs (.opCmdWrite m v) [.power] [PWR.OP_CMD, PWR.OP_NOW, PWR.SLEWING] (fun t =>
      t.get PWR.OP_CMD = bits v.toNat 0 2 ∧ t.get PWR.OP_NOW = min (s.get PWR.OP_NOW) (bits v.toNat 0 2) ∧ t.get PWR.SLEWING = 1 ∧
      t.power = { s.power with slewTo := opMv (bits v.toNat 0 2) })) ∧
  (∀ (s : State) (m : Master) (v : Word), s.admits m 2 0x14 true → s.galeNow = true → s.on PWR.SLEWING = true → s.get PWR.OP_NOW ≤ 3 →
    opMv (bits v.toNat 0 2) ≠ s.power.slewTo → s.runs (.opCmdWrite m v) [.power] [PWR.OP_CMD, PWR.OP_NOW, PWR.VOLT_RETARGETED] (fun t =>
      t.get PWR.OP_CMD = bits v.toNat 0 2 ∧ t.get PWR.OP_NOW = min (s.get PWR.OP_NOW) (bits v.toNat 0 2) ∧ t.get PWR.VOLT_RETARGETED = 1 ∧
      t.power = { s.power with slewTo := opMv (bits v.toNat 0 2) })) ∧
  (∀ (s : State) (m : Master) (v : Word), s.admits m 2 0x14 true → s.galeNow = true → s.on PWR.SLEWING = true →
    opMv (bits v.toNat 0 2) = s.power.slewTo →
    s.runs (.opCmdWrite m v) [] [PWR.OP_CMD] (fun t => t.get PWR.OP_CMD = bits v.toNat 0 2)) ∧
  (∀ (s : State) (m : Master) (v : Word), s.admits m 2 0x14 true → s.galeNow = false → s.runs (.opCmdWrite m v) [.power] [PWR.OP_CMD] (fun t =>
      t.get PWR.OP_CMD = bits v.toNat 0 2 ∧ t.power = { s.power with opStored := true })) ∧
  (∀ s : State, s.on PWR.SLEWING = true → s.runs .slewSettled [.power] [PWR.SLEWING, PWR.OP_DONE] (fun t => t.get PWR.SLEWING = 0 ∧
    t.power = { s.power with coreMv := s.power.slewTo } ∧ (s.galeNow = true → s.get PWR.OP_NOW = s.get PWR.OP_CMD → t.get PWR.OP_DONE = 1))) ∧
  (∀ s : State, s.galeNow = true → s.up .core = true → s.on PWR.SLEWING = false → s.get PWR.OP_NOW < s.get PWR.OP_CMD →
    s.power.coreMv = opMv (s.get PWR.OP_CMD) →
    s.on CLK.PLL_CORE_LOCK = true → s.runs .opClockRaise [] [PWR.OP_NOW, PWR.OP_DONE] (fun t => t.get PWR.OP_NOW = s.get PWR.OP_CMD ∧
      t.get PWR.OP_DONE = 1))

/-- Chapter 4, islands and exits (R145 to R163). -/
def Obligations.IslandSwitches : Prop :=
  (∀ (s : State) (m : Master), s.admits m 2 0x1C true → s.on PWR.CAN_ON = true → s.canStopped 0 = true → s.canStopped 1 = true →
    s.island .can ≠ .lost →
    s.runs (.pwrIslandClear m (BitVec.ofNat 32 (s.fieldWord (pageAddr 2 0x1C) - 2 ^ PWR.CAN_ON.lsb))) [.power, .page 0x10] [PWR.CAN_ON] (fun t =>
      t.get PWR.CAN_ON = 0 ∧ t.island .can = .off)) ∧
  (∀ (s : State) (m : Master), s.admits m 2 0x1C true → s.on PWR.CAN_ON = true → ¬(s.canStopped 0 = true ∧ s.canStopped 1 = true) →
    s.runs (.pwrIslandClear m (BitVec.ofNat 32 (s.fieldWord (pageAddr 2 0x1C) - 2 ^ PWR.CAN_ON.lsb))) [] [PWR.REFUSE_REASON, PWR.ENTRY_REFUSED] (fun
      t =>
      t.get PWR.CAN_ON = 1 ∧ t.get PWR.REFUSE_REASON = 4 ∧ t.get PWR.ENTRY_REFUSED = 1)) ∧
  (∀ (s : State) (m : Master), s.admits m 2 0x1C true → s.on PWR.CTRL_ON = true → (List.range 16).any (fun n => s.on (CTRL.EN n)) = true →
    s.runs (.pwrIslandClear m (BitVec.ofNat 32 (s.fieldWord (pageAddr 2 0x1C) - 2 ^ PWR.CTRL_ON.lsb))) [] [PWR.REFUSE_REASON, PWR.ENTRY_REFUSED] (fun
      t =>
      t.get PWR.CTRL_ON = 1 ∧ t.get PWR.REFUSE_REASON = 8 ∧ t.get PWR.ENTRY_REFUSED = 1)) ∧
  (∀ (s : State) (m : Master), s.admits m 2 0x1C true → s.on PWR.CAN_ON = false → s.island .can = .off → s.power.xo40Lost = false →
    s.runs (.pwrIslandSet m (BitVec.ofNat 32 (s.fieldWord (pageAddr 2 0x1C) + 2 ^ PWR.CAN_ON.lsb))) [.power] [PWR.CAN_ON] (fun t =>
      t.get PWR.CAN_ON = 1 ∧ t.power = { s.power with islands := vput s.power.islands 4 .powering })) ∧
  (∀ (s : State) (i : Island), i ≠ .ao → s.island i = .powering → s.on CLK.PLL_PERIPH_LOCK = true → s.enabled i = true → s.rst.inReset = false →
    (∀ b ∈ s.power.needInit, blockIsland b ≠ i) →
    s.runs (.islandRelease i) [.power, .post, .mem, .q, .fab, .phy, .link, .tooth, .page 6, .page 7, .page 8, .page 9, .page 0xE, .page 0x15, .page
      0x1B] [] (fun t =>
      t.island i = .running ∧ ∀ j ∈ allIslands, j ≠ i → t.island j = s.island j)) ∧
  (∀ s : State, s.power.mode = .lull → s.power.phase = .leaving → s.on CLK.PLL_PERIPH_LOCK = true → s.power.coreMv = 700 → s.on PWR.SLEWING = false →
    s.runs .lullResume [.power, .harts, .tooth, .page 0x1B] [] (fun t => t.power.mode = s.baseMode ∧
      (∀ n : Fin 4, t.hart n = if t.up (hartIsland n) = true then (s.hart n).metHalt else s.hart n) ∧
      ∀ i ∈ allIslands, t.island i = if s.island i = .stopped then .running else s.island i)) ∧
  (∀ s : State, s.power.warmDue = true → s.up .keeper = true → s.rst.bootPending = false → s.rst.inReset = false → s.on PWR.WARM_EN = true →
    0x10000000 ≤ s.get PWR.WARM_VECTOR * 4 → s.get PWR.WARM_VECTOR * 4 < 0x10010000 → (s.hart 0).haltWait = false →
    s.runs .hartMWarmStart [.power, .harts] [] (fun t => t.power = { s.power with warmDue := false } ∧
      t.hart 0 = { s.hart 0 with running := true, pc := BitVec.ofNat 32 (s.get PWR.WARM_VECTOR * 4) })) ∧
  (∀ s : State, s.power.warmDue = true → s.up .keeper = true → s.rst.bootPending = false → s.rst.inReset = false → s.on PWR.WARM_EN = false →
    s.runs .hartMWarmStart [.rst] [] (fun t => t.rst = { s.rst with bootPending := true })) ∧
  (∀ s : State, s.power.phase = .leaving → s.power.mode ≠ .lull → s.power.mode ≠ .calm → (∀ i ∈ allIslands, s.enabled i = true → s.up i = true) →
    s.get PWR.MODE = 1 → s.runs .wakeDone [.power, .wdt]
    [PWR.WAKE_DONE, CLK.PLL_CORE_LOCK] (fun t => t.get PWR.WAKE_DONE = 1 ∧ t.get CLK.PLL_CORE_LOCK = 0 ∧
      t.power = { s.power with phase := .steady, fromCalm := false, mode := .breeze } ∧
        t.wdt = if s.power.fromCalm = true then Vector.replicate 4 ⟨none⟩ else s.wdt)) ∧
  (∀ s : State, s.power.phase = .leaving → s.power.mode ≠ .lull → s.power.mode ≠ .calm → (∀ i ∈ allIslands, s.enabled i = true → s.up i = true) →
    s.get PWR.MODE = 0 → s.get PWR.OP_CMD = 0 → s.power.opStored = false →
    s.runs .wakeDone [.power, .wdt] [PWR.WAKE_DONE] (fun t => t.power = { s.power with phase := .steady, fromCalm := false, mode := .gale } ∧
      t.get PWR.WAKE_DONE = 1 ∧
      t.wdt = if s.power.fromCalm = true then Vector.replicate 4 ⟨none⟩ else s.wdt)) ∧
  (∀ s : State, s.power.coarse = false → s.power.phase = .entering → s.runs .coarseModeSwitch [.power] [NTU.TIME_COARSE] (fun t =>
    t.power = { s.power with coarse := true, lfStart := none, edgeNs := 0 } ∧ t.get NTU.TIME_COARSE = 1)) ∧
  (∀ s : State, s.power.coarse = true → s.on CLK.PLL_PERIPH_LOCK = true → s.power.phase ≠ .entering → s.runs .coarseModeSwitch [.power] [] (fun t =>
    t.power.coarse = false ∧ t.power.mode = s.power.mode))

/-- Chapter 4, power modes (R137, R147 to R157, R160, R171). -/
def Obligations.PowerModes : Prop :=
  (∀ (s : State) (m : Master) (v : Word), s.admits m 2 0x10 true → (bits v.toNat 0 3 = 2 ∨ bits v.toNat 0 3 = 3) →
    s.runs (.modeReqWrite m v) [.power] [PWR.MODE_REQ, PWR.ARMED]
    (fun t => t.get PWR.MODE_REQ = bits v.toNat 0 3 ∧ t.get PWR.ARMED = 1 ∧
      t.power = { s.power with target := if bits v.toNat 0 3 = 2 then .lull else .calm })) ∧
  (∀ (s : State) (m : Master) (v : Word), s.admits m 2 0x10 true → bits v.toNat 0 3 = 1 → s.get PWR.MODE = 0 → s.galeNow = true →
    s.on PWR.SLEWING = false →
    s.power.coreMv = 700 → s.runs (.modeReqWrite m v) [.power] [PWR.MODE_REQ, PWR.ARMED, PWR.MODE, PWR.OP_NOW, CLK.PLL_CORE_LOCK] (fun t =>
      t.get PWR.MODE = 1 ∧ t.get PWR.ARMED = 0 ∧ t.get PWR.OP_NOW = 0 ∧ t.get CLK.PLL_CORE_LOCK = 0 ∧ t.power = { s.power with mode := .breeze })) ∧
  (∀ (s : State) (m : Master) (v : Word), s.admits m 2 0x10 true → bits v.toNat 0 3 = 0 → s.get PWR.MODE = 1 → s.power.mode = .breeze →
    s.power.phase = .steady →
    s.get PWR.OP_CMD = 0 → s.power.opStored = false →
    s.runs (.modeReqWrite m v) [.power] [PWR.MODE_REQ, PWR.ARMED, PWR.MODE] (fun t => t.get PWR.MODE = 0 ∧ t.get PWR.ARMED = 0 ∧
      t.power.mode = .gale)) ∧
  (∀ (s : State) (c : Nat), s.power.phase = .draining → (∀ n : Fin 4, (s.hart n).posts = []) → s.refusal = some c → s.fab.held = false →
    s.runs .postingDrainDone [.power] [PWR.ARMED, PWR.MODE_REQ, PWR.REFUSE_REASON, PWR.ENTRY_REFUSED] (fun t =>
      t.power = { s.power with phase := .steady } ∧ t.get PWR.ARMED = 0 ∧ t.get PWR.MODE_REQ = s.get PWR.MODE ∧ t.get PWR.REFUSE_REASON = c % 16 ∧
      t.get PWR.ENTRY_REFUSED = 1)) ∧
  (∀ s : State, s.power.phase = .draining → (∀ n : Fin 4, (s.hart n).posts = []) → s.refusal = none → s.power.target = .lull →
    s.runs .postingDrainDone [.fresh, .power, .post, .mem, .fab, .ctl, .page 2, .page 4, .page 6, .page 7, .page 8, .page 9, .page 0x18, .page 0x1A]
      [] (fun t =>
      t.power.mode = .lull ∧ t.power.phase = .steady ∧ t.get CLK.PLL_CORE_LOCK = 0 ∧ t.get CLK.PLL_PERIPH_LOCK = 0 ∧ t.power.slewTo = 600 ∧
      t.mem.ram = s.mem.ram ∧ t.mem.flash = s.mem.flash ∧ t.get PWR.MODE_REQ = s.get PWR.MODE ∧ t.island .ao = s.island .ao ∧
        t.island .time = s.island .time ∧
      t.island .core = if s.island .core = .running then .stopped else s.island .core)) ∧
  (∀ s : State, s.power.phase = .draining → (∀ n : Fin 4, (s.hart n).posts = []) → s.refusal = none → s.power.target = .calm → s.fab.held = false →
    s.runs .postingDrainDone [.fresh, .power, .post, .mem, .fab, .page 6, .page 7, .page 8, .page 9, .page 0x1A] [PWR.MODE_REQ] (fun t =>
      t.power.phase = .entering ∧ t.power.mode = s.power.mode ∧ t.power.entryNs = 0 ∧ t.fab.held = true ∧ t.mem.ram = s.mem.ram ∧
        t.mem.flash = s.mem.flash ∧
      (∀ i : Fin 48, 28 ≤ i.val ∧ i.val < 40 → t.padHeld i = s.fuseState i) ∧ (∀ i : Fin 48, ¬(28 ≤ i.val ∧ i.val < 40) →
        (s.padOwn i).moving = false → t.padHeld i = { s.padOwn i with drive := 0 }) ∧
      t.get PWR.MODE_REQ = s.get PWR.MODE ∧ t.island .time = if s.island .time = .running then .stopped else s.island .time)) ∧
  (∀ s : State, s.power.phase = .entering → s.power.wakePend = false →
    s.runs .calmReached [.fresh, .power, .post, .wdt, .harts, .mem, .ntu, .phy, .link, .ctl, .page 1, .page 2, .page 3, .page 4, .page 6, .page 7,
      .page 8, .page 9,
      .page 0x10, .page 0x11, .page 0x17, .page 0x18, .page 0x19, .page 0x1A] [] (fun t =>
      t.power.mode = .calm ∧ t.power.phase = .steady ∧ t.power.warmDue = true ∧ t.power.fromCalm = true ∧ t.wdt = Vector.replicate 4 ⟨none⟩ ∧
        t.power.coarse = true ∧ t.get CLK.XO40_OK = 0 ∧ t.get CLK.PLL_PERIPH_LOCK = 0 ∧
      t.get PWR.OP_NOW = 0 ∧ t.get RSTC.RUN = 0 ∧ t.harts = s.harts.map Hart.lost ∧ t.island .core = .off ∧ t.island .time = .off ∧
        t.mem.ram = s.mem.ram ∧
      (∀ b ∈ t.power.needInit, b ∈ s.power.needInit ∨ s.blockKept b = false) ∧
      ∀ b ∈ allBlocks, s.blockKept b = false → b ∈ t.power.needInit)) ∧
  (∀ (s : State) (k : Fin 7), s.power.phase = .steady → s.power.mode = .lull → bit (s.get PWR.WAKE_EN) k = true →
    s.runs (.wakeDetect k) [.power] [PWR.WAKE_CAUSE, PWR.SLEWING]
    (fun t => bit (t.get PWR.WAKE_CAUSE) k = true ∧ t.power = { s.power with phase := .leaving, wakePend := false, slewTo := 700 } ∧
      (s.power.coreMv ≠ 700 → t.get PWR.SLEWING = 1))) ∧
  (∀ (s : State) (k : Fin 7), s.power.phase = .steady → s.power.mode = .calm → bit (s.get PWR.WAKE_EN) k = true →
    s.runs (.wakeDetect k) [.power, .ntu] [PWR.WAKE_CAUSE, CLK.KEEP_ON_RC]
    (fun t => bit (t.get PWR.WAKE_CAUSE) k = true ∧ t.power.phase = .leaving ∧ t.power.xo40On = true ∧ t.island .keeper = .powering ∧
      t.ntu.calmPeriods = 0 ∧
      t.ntu.mtime = (s.ntu.mtime + (s.ntu.mtimeRest + s.ntu.calmPeriods * s.get CLK.LF_ADDEND) / (1000 * 2 ^ 16)) % 2 ^ 64)) ∧
  (∀ (s : State) (k : Fin 7), s.power.phase = .entering → s.entryFixed = false → bit (s.get PWR.WAKE_EN) k = true →
    s.runs (.wakeDetect k) [.power, .harts, .fab]
    [PWR.WAKE_CAUSE, CLK.PLL_PERIPH_LOCK, CLK.PLL_CORE_LOCK, PWR.WAKE_DONE] (fun t => bit (t.get PWR.WAKE_CAUSE) k = true ∧ t.power.phase = .steady ∧
      t.power.mode = s.baseMode ∧ t.get PWR.WAKE_DONE = 1 ∧ t.fab.held = false ∧ (t.hart 0).wfi = false)) ∧
  (∀ (s : State) (k : Fin 7), s.power.phase = .steady → (s.power.mode = .gale ∨ s.power.mode = .breeze ∨ s.power.mode = .off) →
    s.runs (.wakeDetect k) [] [] (fun t => t = s))

/-- Chapter 6, ownership, locks and quotas (R29, R30, R52, R228 to R231). -/
def Obligations.OwnershipAndLocks : Prop :=
  (∀ (s : State) (m : Master) (v : Word), s.admits m 5 0x1C true → s.get TEN.TABLE < 13 → s.runs (.tenOwnDataWrite m v)
    [.owners, .waiting, .service, .post, .mem, .q, .can, .phy, .link, .page 6, .page 7, .page 8, .page 9, .page 0xA, .page 0xB, .page 0xC, .page 0xD,
      .page 0xE,
     .page 0x11, .page 0x16, .page 0x17] [TEN.OWN_REJECT, TEN.OWNER] (fun t =>
      (∀ k : Fin 16, s.ownBase + k < tableSize (s.get TEN.TABLE) → t.accepted (s.get TEN.TABLE) (s.ownBase + k) =
        if s.ownRefused (s.get TEN.TABLE) (s.ownBase + k) (bits v.toNat (2 * k) 2) then s.accepted (s.get TEN.TABLE) (s.ownBase + k)
        else bits v.toNat (2 * k) 2) ∧
      (∀ tb : Fin 13, ∀ e : Fin 256, ¬(tb = s.get TEN.TABLE ∧ s.ownBase ≤ e ∧ e.val < s.ownBase + 16) →
        t.accepted tb e = s.accepted tb e ∧ t.owner tb e = s.owner tb e) ∧
      ((∃ k : Fin 16, s.ownBase + k < tableSize (s.get TEN.TABLE) ∧ s.accepted (s.get TEN.TABLE) (s.ownBase + k) ≠ bits v.toNat (2 * k) 2 ∧
        s.ownRefused (s.get TEN.TABLE) (s.ownBase + k) (bits v.toNat (2 * k) 2) = true) → t.get TEN.OWN_REJECT = 1))) ∧
  (∀ (s : State) (tb : Fin 13) (e : Fin 256), (Table.find s.waiting (256 * tb + e)).isSome = true → s.ownerIdle tb e = true →
    s.runs (.ownerChangeIdlePoint tb e)
    [.waiting, .service, .post, .mem, .q, .can, .phy, .link, .page 6, .page 7, .page 8, .page 9, .page 0xA, .page 0xB, .page 0xC, .page 0xD, .page
      0xE,
     .page 0x11, .page 0x16] [] (fun t => t.owner tb e = s.accepted tb e ∧
      ∀ tb' : Fin 13, ∀ e' : Fin 256, ¬(tb' = tb ∧ e' = e) → t.owner tb' e' = s.owner tb' e')) ∧
  (∀ (s : State) (tb : Fin 13) (e : Fin 256), s.ownerIdle tb e = false → s.runs (.ownerChangeIdlePoint tb e) [] [] (fun t => t = s)) ∧
  (∀ (s : State) (m : Master) (p : Fin 36), s.admits m p 4 true → s.runs (.pageLockWrite m p) [] [HDR.LOCK p] (fun t => t.get (HDR.LOCK p) = 1)) ∧
  (∀ (s : State) (m : Master) (k : Fin 2) (v : Word), s.admits m 0xE (0x10 + 4 * k) true →
    bits v.toNat 0 12 + bits v.toNat 16 12 + s.get (QMGR.QUOTA (2 - 2 * k)) + s.get (QMGR.QUOTA (3 - 2 * k)) ≤ 2048 →
    s.runs (.quotaWrite m k v) [] [QMGR.QUOTA (2 * k), QMGR.QUOTA (2 * k + 1)] (fun t =>
      t.get (QMGR.QUOTA (2 * k)) = bits v.toNat 0 12 ∧ t.get (QMGR.QUOTA (2 * k + 1)) = bits v.toNat 16 12)) ∧
  (∀ (s : State) (m : Master) (k : Fin 2) (v : Word), s.admits m 0xE (0x10 + 4 * k) true →
    bits v.toNat 0 12 ≤ 2048 → bits v.toNat 16 12 ≤ 2048 →
    2048 < bits v.toNat 0 12 + bits v.toNat 16 12 + s.get (QMGR.QUOTA (2 - 2 * k)) + s.get (QMGR.QUOTA (3 - 2 * k)) →
    s.runs (.quotaWrite m k v) [] [] (fun _ => True))

/-- Chapter 6 and Table 8.1, accesses of harts and what they execute (R233 to R238, R277, R307, R315). That HART_FETCH executes the instruction it
takes is notes/assumptions/26.md; what an instruction results in, and which trap is taken, is taken from the RISC-V specifications (PRESUMED,
notes/assumptions/23.md). -/
def Obligations.HartAccesses : Prop :=
  (∀ (s : State) (h : Fin 4) (rd : Fin 64) (a : Word) (w : Width) (signed : Bool), rd.val < 32 → s.issues h = true → a.toNat % widthBytes w = 0 →
    (s.hart h).pmpAdmits h ((s.hart h).dataUser h) a.toNat (widthBytes w) 0 = true → s.loadWaits h a.toNat = false →
      s.rst.quiescing.contains h = false →
    0x20000000 ≤ a.toNat → a.toNat < 0x200F0000 → s.up .core = true → s.owner tblGranule ((a.toNat - 0x20000000) / 4096) = h →
    s.eccBad (a.toNat / 4 * 4) = false → s.runs (.hartLoad h rd a w signed Upset.none) [.harts] [] (fun t =>
      t.hart h = (({ s.hart h with wfi := false } : Hart).setReg rd (extended (widthBytes w) (s.ramRead h a.toNat (widthBytes w)) signed)).retired ∧
        ∀ j : Fin 4, j ≠ h → t.hart j = s.hart j)) ∧
  (∀ (s : State) (h : Fin 4) (rd : Fin 64) (a : Word) (w : Width) (signed : Bool), 32 ≤ rd.val → s.fpOn h = true → s.issues h = true →
    a.toNat % widthBytes w = 0 →
    (s.hart h).pmpAdmits h ((s.hart h).dataUser h) a.toNat (widthBytes w) 0 = true → s.loadWaits h a.toNat = false →
      s.rst.quiescing.contains h = false →
    0x20000000 ≤ a.toNat → a.toNat < 0x200F0000 → s.up .core = true → s.owner tblGranule ((a.toNat - 0x20000000) / 4096) = h →
    s.eccBad (a.toNat / 4 * 4) = false → s.runs (.hartLoad h rd a w signed Upset.none) [.harts] [] (fun t =>
      t.hart h = (({ s.hart h with wfi := false, f := vput (s.hart h).f (rd.val - 32) (extended (widthBytes w) (s.ramRead h a.toNat (widthBytes w)) signed) } : Hart).fsDirty).retired ∧ ∀ j : Fin 4, j ≠ h → t.hart j = s.hart j)) ∧
  (∀ (s : State) (h : Fin 4) (rd : Fin 64) (a : Word) (w : Width) (signed : Bool) (u : Upset), s.issues h = true → 32 ≤ rd.val → s.fpOn h = false →
    s.runs (.hartLoad h rd a w signed u) [.harts] [] (fun t => t.hart h = (({ s.hart h with wfi := false } : Hart).trapped h excIllegal (s.hart
      h).ir.toNat).stepped)) ∧
  (∀ (s : State) (h : Fin 4) (rd : Fin 64) (a : Word) (w : Width) (signed : Bool) (u : Upset) (f : Fail), rd.val < 32 → s.issues h = true →
    a.toNat % widthBytes w = 0 →
    (s.hart h).pmpAdmits h ((s.hart h).dataUser h) a.toNat (widthBytes w) 0 = true → s.loadWaits h a.toNat = false →
      s.rst.quiescing.contains h = false →
    a.toNat / 4 * 4 ≠ pageAddr (6 + h) 0x2C → s.judge (.hart h) h a.toNat .read u = .bad f →
    s.runs (.hartLoad h rd a w signed u) [.harts, .post] [FAULT.OVERFLOW 0, FAULT.OVERFLOW 1, FAULT.OVERFLOW 2, FAULT.OVERFLOW 3] (fun t =>
      t.hart h = (({ s.hart h with wfi := false } : Hart).setReg rd 0).retired ∧ t.post = (s.failRecord f h none).post)) ∧
  (∀ (s : State) (h : Fin 4) (rd : Fin 64) (a : Word) (w : Width) (signed : Bool) (u : Upset), rd.val < 32 → s.issues h = true →
    a.toNat % widthBytes w ≠ 0 →
    s.runs (.hartLoad h rd a w signed u) [.harts] [] (fun t => t.hart h = (({ s.hart h with wfi := false } : Hart).trapped h excLoadAlign
      a.toNat).stepped)) ∧
  (∀ (s : State) (h : Fin 4) (a : Word) (w : Nat), s.issues h = true → a.toNat % 4 = 0 → (s.hart h).pmpAdmits h (s.hart h).user a.toNat 2 2 = true →
    (s.hart h).pmpAdmits h (s.hart h).user (a.toNat + 2) 2 2 = true → s.interrupt h = none → s.rst.quiescing.contains h = false →
    0x20000000 ≤ a.toNat → a.toNat < 0x200F0000 → s.up .core = true → s.owner tblGranule ((a.toNat - 0x20000000) / 4096) = h →
    s.eccBad (a.toNat / 4 * 4) = false →
    w = (if s.word h a.toNat % 4 = 3 then s.word h a.toNat else s.word h a.toNat % 2 ^ 16) → (decodeInsn w).hasRow = true →
      s.implements h (decodeInsn w) = true →
    s.runs (.hartFetch h a Upset.none) [.harts] [] (fun t => 
      t.hart h = { s.hart h with wfi := false, pc := a, ir := BitVec.ofNat 32 w } ∧ ∀ j : Fin 4, j ≠ h → t.hart j = s.hart j)) ∧
  (∀ (s : State) (h : Fin 4) (a : Word) (w : Nat) (op : AluOp) (rd rs1 rs2 : Nat), s.issues h = true → a.toNat % 4 = 0 →
    (s.hart h).pmpAdmits h (s.hart h).user a.toNat 2 2 = true →
    (s.hart h).pmpAdmits h (s.hart h).user (a.toNat + 2) 2 2 = true → s.interrupt h = none → s.rst.quiescing.contains h = false →
    0x20000000 ≤ a.toNat → a.toNat < 0x200F0000 → s.up .core = true → s.owner tblGranule ((a.toNat - 0x20000000) / 4096) = h →
    s.eccBad (a.toNat / 4 * 4) = false →
    w = (if s.word h a.toNat % 4 = 3 then s.word h a.toNat else s.word h a.toNat % 2 ^ 16) → decodeInsn w = .alu op rd rs1 rs2 → (h ≠ 0 ∨
      op.bitManip = false) →
    s.runs (.hartFetch h a Upset.none) [.harts] [] (fun t => 
      t.hart h = (({ s.hart h with wfi := false } : Hart).setReg rd (aluResult op ((s.hart h).reg rs1) ((s.hart h).reg rs2))).goesTo (a +
        BitVec.ofNat 32 (insnLength w)) ∧ ∀ j : Fin 4, j ≠ h → t.hart j = s.hart j)) ∧
  (∀ (s : State) (h : Fin 4) (a : Word) (w : Nat) (c rs1 rs2 : Nat) (off : Word), s.issues h = true → a.toNat % 4 = 0 →
    (s.hart h).pmpAdmits h (s.hart h).user a.toNat 2 2 = true →
    (s.hart h).pmpAdmits h (s.hart h).user (a.toNat + 2) 2 2 = true → s.interrupt h = none → s.rst.quiescing.contains h = false →
    0x20000000 ≤ a.toNat → a.toNat < 0x200F0000 → s.up .core = true → s.owner tblGranule ((a.toNat - 0x20000000) / 4096) = h →
    s.eccBad (a.toNat / 4 * 4) = false →
    w = (if s.word h a.toNat % 4 = 3 then s.word h a.toNat else s.word h a.toNat % 2 ^ 16) → decodeInsn w = .branch c rs1 rs2 off →
    s.runs (.hartFetch h a Upset.none) [.harts] [] (fun t => 
      t.hart h = ({ s.hart h with wfi := false } : Hart).goesTo (if branchTaken c ((s.hart h).reg rs1) ((s.hart h).reg rs2) = true then a + off else
        a + BitVec.ofNat 32 (insnLength w)) ∧ ∀ j : Fin 4, j ≠ h → t.hart j = s.hart j)) ∧
  (∀ (s : State) (h : Fin 4) (a : Word) (w : Nat) (op : FpOp) (rd rs1 rs2 rs3 rm m : Nat), s.issues h = true → a.toNat % 4 = 0 →
    (s.hart h).pmpAdmits h (s.hart h).user a.toNat 2 2 = true →
    (s.hart h).pmpAdmits h (s.hart h).user (a.toNat + 2) 2 2 = true → s.interrupt h = none → s.rst.quiescing.contains h = false →
    0x20000000 ≤ a.toNat → a.toNat < 0x200F0000 → s.up .core = true → s.owner tblGranule ((a.toNat - 0x20000000) / 4096) = h →
    s.eccBad (a.toNat / 4 * 4) = false →
    w = (if s.word h a.toNat % 4 = 3 then s.word h a.toNat else s.word h a.toNat % 2 ^ 16) → decodeInsn w = .fp op rd rs1 rs2 rs3 rm →
      s.fpOn h = true → (s.hart h).roundingMode op rm = some m → op.toX = false →
    s.runs (.hartFetch h a Upset.none) [.harts] [] (fun t => 
      (t.hart h).f = vput (s.hart h).f rd (BitVec.ofNat 32 (fpResult op m (vget (s.hart h).f rs1 0).toNat (vget (s.hart h).f rs2 0).toNat (vget
        (s.hart h).f rs3 0).toNat
        ((s.hart h).reg rs1).toNat).val) ∧
      (t.hart h).csrAt csrFcsr = (s.hart h).csrAt csrFcsr ||| (fpResult op m (vget (s.hart h).f rs1 0).toNat (vget (s.hart h).f rs2 0).toNat
        (vget (s.hart h).f rs3 0).toNat ((s.hart h).reg rs1).toNat).flags ∧ (t.hart h).x = (s.hart h).x ∧ ∀ j : Fin 4, j ≠ h → t.hart j = s.hart j)) ∧
  (∀ (s : State) (h : Fin 4) (a : Word) (i : Nat) (u : Upset), s.issues h = true → s.interrupt h = some i →
    s.runs (.hartFetch h a u) [.harts] [] (fun t =>
      t.hart h = ({ s.hart h with wfi := false, pc := a, ir := 0 } : Hart).interrupted h i ∧ ∀ j : Fin 4, j ≠ h → t.hart j = s.hart j)) ∧
  (∀ (s : State) (h : Fin 4) (a : Word) (w : Width) (v : Word), h ≠ 0 → s.issues h = true → a.toNat % widthBytes w = 0 →
    (s.hart h).pmpAdmits h ((s.hart h).dataUser h) a.toNat (widthBytes w) 1 = true → s.rst.quiescing.contains h = false →
    0x20000000 ≤ a.toNat → a.toNat < 0x200F0000 → s.owner tblGranule ((a.toNat - 0x20000000) / 4096) = h → s.eccBad (a.toNat / 4 * 4) = false →
    s.runs (.hartStoreLocal h a w v Upset.none) [.harts, .mem] [] (fun t =>
      t.mem = { s.mem with ram := t.mem.ram, ecc := t.mem.ecc, single := t.mem.single } ∧
      t.ramRead h a.toNat (widthBytes w) = v.toNat % 2 ^ (8 * widthBytes w) ∧
      (s.outside t a.toNat (widthBytes w)) ∧
      (∀ b : Nat, t.eccBad b = if b = a.toNat / 4 * 4 then false else s.eccBad b) ∧
      ∀ j : Fin 4, t.hart j = { (if j = h then ({ s.hart h with wfi := false } : Hart).retired else s.hart j) with resv := (t.hart j).resv })) ∧
  (∀ (s : State) (h : Fin 4), s.issues h = true →
    s.runs (.fenceI h) [.harts, .mem] [] (fun t => t.mem = { s.mem with cache := vput s.mem.cache h [] } ∧
    t.hart h = ({ s.hart h with wfi := false } : Hart).retired ∧ ∀ j : Fin 4, j ≠ h → t.hart j = s.hart j)) ∧
  (∀ (s : State) (h : Fin 4) (i : Word), s.issues h = true → s.runs (.illegalInstruction h i) [.harts] [] (fun t =>
    t.hart h = (({ s.hart h with wfi := false } : Hart).trapped h excIllegal i.toNat).stepped ∧ ∀ j : Fin 4, j ≠ h → t.hart j = s.hart j))

/-- Chapter 8, atomics, wfi, timers and interrupts (R313 to R323). The values an SC and an AMO return, and the traps, are taken from the RISC-V
specifications (PRESUMED, notes/assumptions/23.md); the value that a failing SC with a reservation writes is any but 0 (a free value,
notes/assumptions/3.md). -/
def Obligations.AtomicsAndWaits : Prop :=
  (∀ (s : State) (h : Fin 4) (rd : Fin 32) (a : Word), h ≠ 0 → s.issues h = true → a.toNat % 4 = 0 →
    (s.hart h).pmpAdmits h ((s.hart h).dataUser h) a.toNat 4 0 = true → s.rst.quiescing.contains h = false →
    0x20000000 ≤ a.toNat → a.toNat < 0x200F0000 → s.owner tblGranule ((a.toNat - 0x20000000) / 4096) = h → s.eccBad a.toNat = false →
    s.runs (.lr h rd a Upset.none) [.harts] [] (fun t =>
      t.hart h = ({ ({ s.hart h with wfi := false } : Hart).setReg rd (BitVec.ofNat 32 (s.word h a.toNat)) with resv := some a.toNat } :
        Hart).retired)) ∧
  (∀ (s : State) (h : Fin 4) (rd : Fin 32) (a v : Word) (cycles : Nat) (u : Upset), h ≠ 0 → s.issues h = true → a.toNat % 4 = 0 →
    (s.hart h).pmpAdmits h ((s.hart h).dataUser h) a.toNat 4 1 = true → 0x20000000 ≤ a.toNat → a.toNat < 0x200F0000 →
    ((s.hart h).resv ≠ some a.toNat ∨ 256 < cycles) → s.runs (.sc h rd a v cycles u) [.harts] [] (fun t =>
      t.hart h = (({ s.hart h with wfi := false, resv := none } : Hart).setReg rd 1).retired)) ∧
  (∀ (s : State) (h : Fin 4) (rd : Fin 32) (a v : Word) (cycles : Nat), h ≠ 0 → s.issues h = true → a.toNat % 4 = 0 →
    (s.hart h).pmpAdmits h ((s.hart h).dataUser h) a.toNat 4 1 = true → s.rst.quiescing.contains h = false → 0x20000000 ≤ a.toNat →
      a.toNat < 0x200F0000 →
    s.owner tblGranule ((a.toNat - 0x20000000) / 4096) = h → (s.hart h).resv = some a.toNat → cycles ≤ 256 →
    s.runs (.sc h rd a v cycles Upset.none) [.harts, .mem] [] (fun t => t.hart h = (({ s.hart h with wfi := false, resv := none } : Hart).setReg rd
      0).retired ∧
      t.word h a.toNat = v.toNat ∧ s.outside t a.toNat 4)) ∧
  (∀ (s : State) (h : Fin 4) (op : AmoOp) (rd : Fin 32) (a v : Word), h ≠ 0 → s.issues h = true → a.toNat % 4 = 0 →
    (s.hart h).pmpAdmits h ((s.hart h).dataUser h) a.toNat 4 0 = true → (s.hart h).pmpAdmits h ((s.hart h).dataUser h) a.toNat 4 1 = true →
    s.rst.quiescing.contains h = false → 0x20000000 ≤ a.toNat → a.toNat < 0x200F0000 →
    s.owner tblGranule ((a.toNat - 0x20000000) / 4096) = h → s.eccBad a.toNat = false →
    s.runs (.amo h op rd a v Upset.none) [.harts, .mem] [] (fun t => (t.hart h).reg rd = (if rd = 0 then 0 else BitVec.ofNat 32 (s.word h a.toNat)) ∧
      t.word h a.toNat = (amoResult op (BitVec.ofNat 32 (s.word h a.toNat)) v).toNat ∧
      s.outside t a.toNat 4)) ∧
  (∀ (s : State) (h : Fin 4), h ≠ 0 → s.issues h = true → (s.hart h).user = false → s.runs (.wfi h) [.harts] [] (fun t =>
    t.hart h = (if s.wfiOver h = true then ({ s.hart h with wfi := false } : Hart).retired else
      { ({ s.hart h with wfi := false } : Hart).retired with wfi := !({ s.hart h with wfi := false } : Hart).retired.halted }))) ∧
  (∀ s : State, s.issues 0 = true → s.wfiOver 0 = false → s.on PWR.ARMED = true → s.power.phase = .steady → s.power.mode = .gale → s.anyHeld = false →
    s.runs (.wfi 0) [.harts, .power] [PWR.ARMED] (fun t => t.hart 0 =
      { ({ s.hart 0 with wfi := false } : Hart).retired with wfi := !({ s.hart 0 with wfi := false } : Hart).retired.halted } ∧
      t.power = { s.power with phase := .draining } ∧ t.get PWR.ARMED = 0)) ∧
  (∀ (s : State) (m : Master), s.admits m 0 0x18 false → s.runs (.sysMtimeLoRead m) [.answer, .ntu] [] (fun t =>
    t.answer = BitVec.ofNat 32 s.ntu.mtime ∧ t.ntu = { s.ntu with mlatch := vput s.ntu.mlatch (s.tidOf m) (s.ntu.mtime / 2 ^ 32) })) ∧
  (∀ (s : State) (n : Tid), s.mtip n = true → s.wfiOver n = true → s.runs (.mtimecmpReached n) [.harts] [] (fun t =>
    t.hart n = { s.hart n with wfi := false } ∧ ∀ j : Fin 4, j ≠ n → t.hart j = s.hart j)) ∧
  (∀ (s : State) (m : Master) (n : Tid) (v : Word), s.admits m (0xA + n) 0x68 true → s.runs (.irqnMsipWrite m n v) [] [IRQ.MSIP n] (fun t =>
    t.get (IRQ.MSIP n) = bits v.toNat 0 1 ∧ t.msip n = bit v.toNat 0)) ∧
  (∀ (s : State) (m : Master) (n : Tid) (i : Nat), s.admits m (0xA + n) 0x64 false → (s.power.phase ≠ .leaving ∨ s.power.xo40Lost = true) →
    s.claimable n = some i → s.runs (.irqnClaimRead m n) [.answer, .service] [] (fun t =>
    t.answer = BitVec.ofNat 32 (i + 2 ^ 31) ∧ t.inService n i = true ∧ ∀ n' : Fin 4, ∀ j : Fin 128, ¬(n' = n ∧ j.val = i) →
      t.inService n' j = s.inService n' j)) ∧
  (∀ (s : State) (m : Master) (n : Tid), s.admits m (0xA + n) 0x64 false → (s.claimable n = none ∨ s.power.phase = .leaving ∧
    s.power.xo40Lost = false) → s.runs (.irqnClaimRead m n) [.answer] [] (fun t => t.answer = 0)) ∧
  (∀ (s : State) (m : Master) (n : Tid) (v : Word), s.admits m (0xA + n) 0x64 true → s.runs (.irqnClaimWrite m n v) [.service] [] (fun t =>
    t.inService n (bits v.toNat 0 7) = false ∧ ∀ n' : Fin 4, ∀ j : Fin 128, ¬(n' = n ∧ j.val = bits v.toNat 0 7) →
      t.inService n' j = s.inService n' j))

/-- Chapter 6, posting (R237 to R248). -/
def Obligations.PostedStores : Prop :=
  (∀ (s : State) (h : Fin 4) (a : Word) (w : Width) (v : Word), islandAt a.toNat ≠ hartIsland h → s.issues h = true → a.toNat % widthBytes w = 0 →
    (s.hart h).pmpAdmits h ((s.hart h).dataUser h) a.toNat (widthBytes w) 1 = true → s.on (FAULT.HELD h) = false → (s.hart h).posts.length < 64 →
    s.runs (.postedStore h a w v) [.harts] [FAULT.LAST_TAG h] (fun t => t.get (FAULT.LAST_TAG h) = (s.get (FAULT.LAST_TAG h) + 1) % 4096 ∧
      t.hart h = ({ s.hart h with wfi := false, posts := (s.hart h).posts ++ [⟨a.toNat, w, v, (s.get (FAULT.LAST_TAG h) + 1) % 4096, islandAt a.toNat, false, false⟩] } : Hart).retired ∧
      ∀ j : Fin 4, j ≠ h → t.hart j = s.hart j)) ∧
  (∀ (s : State) (i : Island) (left : Nat) (p : Posted), (s.hart 0).posts.find? (fun p => p.island == i && !p.held) = some p →
    s.rst.quiescing.contains 0 = false → 0x20000000 ≤ p.addr → p.addr < 0x200F0000 → p.addr % widthBytes p.width = 0 → s.up .core = true →
    s.owner tblGranule ((p.addr - 0x20000000) / 4096) = 0 → s.eccBad (p.addr / 4 * 4) = false →
      s.runs (.postedStoreDone 0 i left Upset.none) [.harts, .mem] [] (fun t =>
      (t.hart 0).posts = dropPost i (s.hart 0).posts ∧ t.ramRead 0 p.addr (widthBytes p.width) = p.data.toNat % 2 ^ (8 * widthBytes p.width) ∧
      s.outside t p.addr (widthBytes p.width))) ∧
  (∀ (s : State) (h : Fin 4) (i : Island) (left : Nat) (u : Upset) (p : Posted) (f : Fail), (s.hart h).posts.find? (fun p => p.island == i &&
    !p.held) = some p →
    s.rst.quiescing.contains h = false → s.judge (.hart h) h p.addr .write u = .bad f → f.cause ≠ causeParity → s.on (FAULT.HELD h) = false →
      s.power.phase = .steady → (s.postOf h).fifo.length < 16 →
    s.runs (.postedStoreDone h i left u) [.harts, .post] [FAULT.POSTED_ERR h, FAULT.HELD h] (fun t => t.get (FAULT.POSTED_ERR h) = 1 ∧
      (t.postOf h).failed = ((s.postOf h).failed || !p.fenced) ∧
      (t.postOf h).fifo = (s.postOf h).fifo ++ [⟨recWord0 f.cause f.detail f.tid true, f.addr % 2 ^ 32, recWord2 h f.ext p.tag, s.tick32, s.on
        (FAULT.STOP_ON_POST h)⟩] ∧
      t.on (FAULT.HELD h) = s.on (FAULT.STOP_ON_POST h) ∧
      (t.hart h).posts = if s.on (FAULT.STOP_ON_POST h) then holdPosts left (dropPost i (s.hart h).posts) else dropPost i (s.hart h).posts)) ∧
  (∀ (s : State) (m : Master) (n : Tid), s.admits m (6 + n) 0x2C false → m ≠ .hart n → s.tidOf m = n →
    s.runs (.faultnFenceRead m n) [.answer] [] (fun t =>
    t.answer = BitVec.ofNat 32 (s.get (FAULT.LAST_TAG n) + s.get (FAULT.HELD n) * 2 ^ 30))) ∧
  (∀ (s : State) (n : Tid), s.postsWait n = true → s.issues n = true → s.runs (.faultnFenceRead (.hart n) n) [.harts] [] (fun t =>
    t.hart n = { s.hart n with wfi := false, fencing := true, fenceTo := none })) ∧
  (∀ (s : State) (n : Tid), (s.hart n).fencing = true → s.postsWait n = false → (s.hart n).fenceTo = none →
    s.runs (.fenceReturn n) [.answer, .harts, .post] [] (fun t =>
    t.answer = BitVec.ofNat 32 (s.get (FAULT.LAST_TAG n) + s.get (FAULT.HELD n) * 2 ^ 30 + ofBool (s.postOf n).failed * 2 ^ 31) ∧
    t.hart n = ({ s.hart n with fencing := false, fenceTo := none, posts := (s.hart n).posts.map (fun p => { p with fenced := true }) } :
      Hart).retired ∧ t.postOf n = { s.postOf n with failed := false })) ∧
  (∀ (s : State) (m : Master) (n : Tid), s.admits m (6 + n) 0x1C false → s.tidOf m = n →
    s.runs (.faultnRec3Read m n) [.answer, .post, .harts] [FAULT.HELD n] (fun t =>
    t.answer = BitVec.ofNat 32 (((s.postOf n).fifo.head?.map (·.w3)).getD 0) ∧ (t.postOf n).fifo = (s.postOf n).fifo.drop 1 ∧
    (t.get (FAULT.HELD n) = s.get (FAULT.HELD n) ∨ t.get (FAULT.HELD n) = 0) ∧ ∀ j : Fin 4, j ≠ n → t.postOf j = s.postOf j)) ∧
  (∀ (s : State) (m : Master) (n : Tid), s.admits m (6 + n) 0x1C false → s.tidOf m ≠ n → s.runs (.faultnRec3Read m n) [.answer] [] (fun t =>
    t.answer = BitVec.ofNat 32 (((s.postOf n).fifo.head?.map (·.w3)).getD 0))) ∧
  (∀ (s : State) (n : Fin 4) (r : Rec), (s.postOf n).fifo.length = 16 →
    (s.record n r).postOf n = { s.postOf n with lostHeld := (s.postOf n).lostHeld || r.held } ∧
    (s.record n r).get (FAULT.OVERFLOW n) = 1)

/-- Chapter 6, watchdogs (R44, R210, R251 to R254). That a second key without a valid first one changes nothing is read from R252, which names what
expires the watchdog and what is a service. -/
def Obligations.Watchdogs : Prop :=
  (∀ (s : State) (n : Tid) (v : Word) (us : Nat), s.admits (.hart n) 0x23 (0x20 + 0x20 * n) true → s.wdtRuns n = true → us ≤ s.get (WDT.TIMEOUT n) →
    v = 0xA5C3 →
    s.runs (.wdtServiceWrite (.hart n) n v us) [.wdt] [] (fun t => vget t.wdt n ⟨none⟩ = ⟨some us⟩ ∧ ∀ j : Fin 4, j ≠ n →
      vget t.wdt j ⟨none⟩ = vget s.wdt j ⟨none⟩)) ∧
  (∀ (s : State) (n : Tid) (v : Word) (us b : Nat), s.admits (.hart n) 0x23 (0x20 + 0x20 * n) true → s.wdtRuns n = true →
    us ≤ s.get (WDT.TIMEOUT n) → (vget s.wdt n ⟨none⟩).half = some b → v = 0x5A3C →
    us ≤ b + 100 → s.get (WDT.OPEN n) ≤ us → s.runs (.wdtServiceWrite (.hart n) n v us) [.wdt] [] (fun t => vget t.wdt n ⟨none⟩ = ⟨none⟩ ∧
      ∀ j : Fin 4, j ≠ n → vget t.wdt j ⟨none⟩ = vget s.wdt j ⟨none⟩)) ∧
  (∀ (s : State) (n : Tid) (v : Word) (us b : Nat), s.admits (.hart n) 0x23 (0x20 + 0x20 * n) true → s.wdtRuns n = true →
    us ≤ s.get (WDT.TIMEOUT n) → (vget s.wdt n ⟨none⟩).half = some b → v = 0x5A3C → b + 100 < us →
    s.runs (.wdtServiceWrite (.hart n) n v us) [.wdt] [] (fun t => vget t.wdt n ⟨none⟩ = ⟨none⟩ ∧ ∀ j : Fin 4, j ≠ n →
      vget t.wdt j ⟨none⟩ = vget s.wdt j ⟨none⟩)) ∧
  (∀ (s : State) (n : Tid) (v : Word) (us : Nat), s.admits (.hart n) 0x23 (0x20 + 0x20 * n) true → s.wdtRuns n = true → us ≤ s.get (WDT.TIMEOUT n) →
    (vget s.wdt n ⟨none⟩).half = none → v = 0x5A3C → s.runs (.wdtServiceWrite (.hart n) n v us) [] [] (fun t => t = s)) ∧
  (∀ (s : State) (v : Word) (us b : Nat), s.admits (.hart 0) 0x23 0x20 true → s.wdtRuns 0 = true → us ≤ s.get (WDT.TIMEOUT 0) →
    (vget s.wdt 0 ⟨none⟩).half = some b → v = 0x5A3C → us ≤ b + 100 → us < s.get (WDT.OPEN 0) →
    s.runs (.wdtServiceWrite (.hart 0) 0 v us) [.wdt, .rst] [] (fun t => t.rst = { s.rst with asked := s.rst.asked ++ [.watchdog] })) ∧
  (∀ (s : State) (n : Fin 3) (v : Word) (us b : Nat), s.admits (.hart n.succ) 0x23 (0x20 + 0x20 * n.succ) true → s.wdtRuns n.succ = true →
    us ≤ s.get (WDT.TIMEOUT n.succ) → s.rst.inReset = false → s.rst.quiescing.contains (n + 1) = false → (vget s.wdt n.succ ⟨none⟩).half = some b →
    v = 0x5A3C → us ≤ b + 100 → us < s.get (WDT.OPEN n.succ) →
    s.runs (.wdtServiceWrite (.hart n.succ) n.succ v us) (Part.everything.filter (fun p => p ≠ .pending ∧ p ≠ .answer ∧ p ≠ .supply ∧ p ≠ .dbg ∧
      p ≠ .toothTime ∧ p ≠ .trx ∧ p ≠ .owners ∧ p ≠ .waiting ∧ p ≠ .ser)) [] (fun t => s.expired t n.succ 1)) ∧
  (∀ (s : State) (v : Word) (us : Nat), s.admits (.hart 0) 0x23 0x20 true → s.wdtRuns 0 = true → us ≤ s.get (WDT.TIMEOUT 0) → v ≠ 0xA5C3 →
    v ≠ 0x5A3C →
    s.runs (.wdtServiceWrite (.hart 0) 0 v us) [.rst] [] (fun t => t.rst = { s.rst with asked := s.rst.asked ++ [.watchdog] })) ∧
  (∀ (s : State) (n : Fin 3) (v : Word) (us : Nat), s.admits (.hart n.succ) 0x23 (0x20 + 0x20 * n.succ) true → s.wdtRuns n.succ = true →
    us ≤ s.get (WDT.TIMEOUT n.succ) → s.rst.inReset = false → s.rst.quiescing.contains (n + 1) = false → v ≠ 0xA5C3 → v ≠ 0x5A3C →
    s.runs (.wdtServiceWrite (.hart n.succ) n.succ v us) (Part.everything.filter (fun p => p ≠ .pending ∧ p ≠ .answer ∧ p ≠ .supply ∧ p ≠ .dbg ∧
      p ≠ .toothTime ∧ p ≠ .trx ∧ p ≠ .owners ∧ p ≠ .waiting ∧ p ≠ .ser)) [] (fun t => s.expired t n.succ 2)) ∧
  (∀ (s : State) (v : Word) (us : Nat), s.admits (.hart 0) 0x23 0x20 true → s.wdtRuns 0 = true → s.get (WDT.TIMEOUT 0) < us →
    s.runs (.wdtServiceWrite (.hart 0) 0 v us) [.rst] [] (fun t => t.rst = { s.rst with asked := s.rst.asked ++ [.watchdog] })) ∧
  (∀ (s : State) (n : Fin 3) (v : Word) (us : Nat), s.admits (.hart n.succ) 0x23 (0x20 + 0x20 * n.succ) true → s.wdtRuns n.succ = true →
    s.get (WDT.TIMEOUT n.succ) < us → s.rst.inReset = false → s.rst.quiescing.contains (n + 1) = false →
    s.runs (.wdtServiceWrite (.hart n.succ) n.succ v us) (Part.everything.filter (fun p => p ≠ .pending ∧ p ≠ .answer ∧ p ≠ .supply ∧ p ≠ .dbg ∧
      p ≠ .toothTime ∧ p ≠ .trx ∧ p ≠ .owners ∧ p ≠ .waiting ∧ p ≠ .ser)) [] (fun t => s.expired t n.succ 0)) ∧
  (∀ (s : State) (n : Tid) (v : Word) (us : Nat), s.admits (.hart n) 0x23 (0x20 + 0x20 * n) true → s.wdtRuns n = false →
    s.runs (.wdtServiceWrite (.hart n) n v us) [] [] (fun t => t = s)) ∧
  (∀ (s : State) (n : Tid), s.wdtRuns n = true → s.get (WDT.LEAD n) ≠ 0 → s.runs (.wdtWarn n) [] [WDT.WARN] (fun t => bit (t.get WDT.WARN) n = true ∧
    ∀ j : Fin 4, j ≠ n → bit (t.get WDT.WARN) j = bit (s.get WDT.WARN) j)) ∧
  (∀ (s : State) (n : Tid), (s.wdtRuns n = false ∨ s.get (WDT.LEAD n) = 0) → s.runs (.wdtWarn n) [] [] (fun t => t = s)) ∧
  (∀ s : State, s.wdtRuns 0 = true → s.runs (.watchdogExpiry 0) [.rst] [] (fun t => t.rst = { s.rst with asked := s.rst.asked ++ [.watchdog] })) ∧
  (∀ (s : State) (n : Fin 3), s.wdtRuns n.succ = true → s.rst.inReset = false → s.rst.quiescing.contains (n + 1) = false →
    s.runs (.watchdogExpiry n.succ) (Part.everything.filter (fun p => p ≠ .pending ∧ p ≠ .answer ∧ p ≠ .supply ∧ p ≠ .dbg ∧ p ≠ .toothTime ∧
      p ≠ .trx ∧ p ≠ .owners ∧ p ≠ .waiting ∧ p ≠ .ser)) [] (fun t => s.expired t n.succ 0)) ∧
  (∀ (s : State) (n : Tid), s.wdtRuns n = false → s.runs (.watchdogExpiry n) [] [] (fun t => t = s)) ∧
  (∀ (s : State) (m : Master) (n : Tid), s.admits m 0x23 (0x10 + 0x20 * n) true → s.runs (.wdtLockWrite m n) [] [WDT.LOCK n] (fun t =>
    t.get (WDT.LOCK n) = 1 ∧ t.get (WDT.EN n) = s.get (WDT.EN n)))

/-- Chapter 7, flash (R265 to R273, R284, R285, R306). That a controller whose clock is lost for good stands still is the model's choice,
notes/assumptions/21.md. -/
def Obligations.FlashCommands : Prop :=
  (∀ (s : State) (m : Master) (n : Tid) (v : Word), s.admits m 0x1C (0x30 + 0x10 * n) true → s.get (FLASHC.STATE n) ≠ 1 → s.get (FLASHC.STATE n) ≠ 2 →
    s.runs (.flashCmdProgram m n v) [.mem] [FLASHC.ADDR n, FLASHC.OP n, FLASHC.STATE n, FLASHC.STAGED n] (fun t =>
      t.get (FLASHC.ADDR n) = v.toNat % 2 ^ 24 ∧ t.get (FLASHC.OP n) = 1 ∧ t.get (FLASHC.STATE n) = 1 ∧ t.get (FLASHC.STAGED n) = 0 ∧
      t.mem = { s.mem with flashQueue := s.mem.flashQueue ++ [n.val], latched := vput s.mem.latched n (vget s.mem.staged n []), staged := vput s.mem.staged n [] })) ∧
  (∀ (s : State) (m : Master) (n : Tid) (v : Word), s.admits m 0x1C (0x30 + 0x10 * n) true → s.get (FLASHC.STATE n) ≠ 1 → s.get (FLASHC.STATE n) ≠ 2 →
    s.runs (.flashCmdErase m n v) [.mem] [FLASHC.ADDR n, FLASHC.OP n, FLASHC.STATE n, FLASHC.STAGED n] (fun t =>
      t.get (FLASHC.ADDR n) = v.toNat % 2 ^ 24 ∧ t.get (FLASHC.OP n) = 2 ∧ t.get (FLASHC.STATE n) = 1 ∧
        t.mem.flashQueue = s.mem.flashQueue ++ [n.val] ∧
      t.mem.flash = s.mem.flash ∧ t.mem.ram = s.mem.ram)) ∧
  (∀ (s : State) (m : Master) (n : Tid) (v : Word), s.admits m 0x1C (0x30 + 0x10 * n) true → s.get (FLASHC.STATE n) ≠ 1 → s.get (FLASHC.STATE n) ≠ 2 →
    s.runs (.flashCmdGenBump m n v) [.mem] [FLASHC.ADDR n, FLASHC.OP n, FLASHC.STATE n, FLASHC.STAGED n] (fun t =>
      t.get (FLASHC.ADDR n) = v.toNat % 2 ^ 24 ∧ t.get (FLASHC.OP n) = 3 ∧ t.get (FLASHC.STATE n) = 1 ∧
        t.mem.flashQueue = s.mem.flashQueue ++ [n.val] ∧
      t.mem.flash = s.mem.flash ∧ t.mem.ram = s.mem.ram)) ∧
  (∀ (s : State) (m : Master) (n : Tid) (v : Word), s.admits m 0x1C (0x30 + 0x10 * n) true → (s.get (FLASHC.STATE n) = 1 ∨
    s.get (FLASHC.STATE n) = 2) →
    s.runs (.flashCmdErase m n v) [] [] (fun t => t.mem = s.mem)) ∧
  (∀ (s : State) (n : Fin 4) (rest : List Nat) (c : Nat), s.up .core = true → s.mem.flashOp = none → s.mem.flashQueue = n.val :: rest →
    s.flashCheck n = some c →
    s.runs .flashOpStart [.mem] [FLASHC.STATE n, FLASHC.DONE] (fun t => t.get (FLASHC.STATE n) = c ∧ bit (t.get FLASHC.DONE) n = true ∧
      t.mem = { s.mem with flashQueue := rest })) ∧
  (∀ (s : State) (n : Fin 4) (rest : List Nat), s.up .core = true → s.mem.flashOp = none → s.mem.flashQueue = n.val :: rest → s.flashCheck n = none →
    s.get (FLASHC.OP n) = 1 →
    s.runs .flashOpStart [.mem] [FLASHC.STATE n] (fun t => t.get (FLASHC.STATE n) = 2 ∧ t.mem.flashOp = some (n.val, 0, 0) ∧ t.mem.flashQueue = rest ∧
      t.flashWord (s.get (FLASHC.ADDR n)) = s.programBytes n ∧ t.mem.ram = s.mem.ram ∧
      ∀ b : Nat, b / 16 ≠ s.get (FLASHC.ADDR n) / 16 → t.flashByte b = s.flashByte b ∧ t.erased b = s.erased b)) ∧
  (∀ (s : State) (n : Fin 4) (rest : List Nat), s.up .core = true → s.mem.flashOp = none → s.mem.flashQueue = n.val :: rest → s.flashCheck n = none →
    s.get (FLASHC.OP n) = 2 →
    s.runs .flashOpStart [.mem] [FLASHC.STATE n] (fun t => t.get (FLASHC.STATE n) = 2 ∧ t.mem.flashOp = some (n.val, 1, 0) ∧
      t.mem.flashQueue = rest ∧ t.mem.flash = s.mem.flash ∧
      t.mem.ram = s.mem.ram)) ∧
  (∀ (s : State) (n : Fin 4) (ok : Bool) (k : Nat), s.mem.flashOp = some (n.val, 0, k) → s.flashCut = false → s.island .core ≠ .lost →
    s.get (FLASHC.OP n) = 1 → s.runs (.flashPulseEnd ok) [.mem] [FLASHC.STATE n, FLASHC.DONE]
    (fun t => t.get (FLASHC.STATE n) = (if ok then 3 else 8) ∧ bit (t.get FLASHC.DONE) n = true ∧ t.mem.flashOp = none ∧ t.mem.flash = s.mem.flash ∧
      t.mem.ram = s.mem.ram ∧
      (ok = true → Table.find t.mem.broken (s.get (FLASHC.ADDR n) / 16 * 16) = none ∧ t.eccBad (s.get (FLASHC.ADDR n) / 16 * 16) = false))) ∧
  (∀ (s : State) (n : Fin 4) (k : Nat), s.mem.flashOp = some (n.val, 0, k) → s.flashCut = false → s.island .core ≠ .lost → s.get (FLASHC.OP n) = 3 →
    s.runs (.flashPulseEnd true) [.mem]
    [FLASHC.STATE n, FLASHC.DONE, FLASHC.GEN (regionOf (s.get (FLASHC.ADDR n)))] (fun t => t.get (FLASHC.STATE n) = 3 ∧
      bit (t.get FLASHC.DONE) n = true ∧
      t.get (FLASHC.GEN (regionOf (s.get (FLASHC.ADDR n)))) = (s.get (FLASHC.GEN (regionOf (s.get (FLASHC.ADDR n)))) + 1) % 2 ^ 8)) ∧
  (∀ (s : State) (n : Fin 4) (g k : Nat) (ok : Bool), s.mem.flashOp = some (n.val, g + 1, k) → g < 3 → s.on FLASHC.SUSPENDED = false →
    s.flashCut = false → s.island .core ≠ .lost →
    s.runs (.eraseSegmentEnd ok) [.mem] [] (fun t => t.mem = { s.mem with flashOp := some (n.val, g + 2, 0) })) ∧
  (∀ (s : State) (n : Fin 4) (k : Nat), s.mem.flashOp = some (n.val, 4, k) → s.on FLASHC.SUSPENDED = false → s.flashCut = false →
    s.island .core ≠ .lost → s.get (FLASHC.OP n) = 2 →
    s.runs (.eraseSegmentEnd true) [.mem] [FLASHC.STATE n, FLASHC.DONE] (fun t => t.get (FLASHC.STATE n) = 3 ∧ bit (t.get FLASHC.DONE) n = true ∧
      t.mem.flashOp = none ∧ t.mem.ram = s.mem.ram ∧
      ∀ b : Nat, if b / 4096 = s.get (FLASHC.ADDR n) / 4096 then t.flashByte b = 0xFF ∧ t.erased b = true else t.flashByte b = s.flashByte b ∧
        t.erased b = s.erased b)) ∧
  (∀ (s : State) (ok : Bool), s.island .core = .lost → s.runs (.flashPulseEnd ok) [] [] (fun t => t = s)) ∧
  (∀ (s : State) (ok : Bool), s.island .core = .lost → s.runs (.eraseSegmentEnd ok) [] [] (fun t => t = s)) ∧
  (∀ (s : State) (d : Bool) (k g u : Nat), s.mem.flashOp = some (k, g + 1, u) → s.arrayBusy d = true → s.on FLASHC.SUSPENDED = false → u < 16 →
    s.runs (.flashReadDuringErase d) [.mem] [FLASHC.SUSPENDED]
    (fun t => t.get FLASHC.SUSPENDED = 1 ∧ t.mem = { s.mem with flashOp := some (k, g + 1, u + 1) })) ∧
  (∀ s : State, s.runs .eraseResume [] [FLASHC.SUSPENDED] (fun t => t.get FLASHC.SUSPENDED = 0))

/-- Chapter 7, scrubber, CRC engine and TRNG (R274, R275, R292 to R297). The bits of TRNG_DATA are free (assumption log 1). -/
def Obligations.ScrubCrcAndTrng : Prop :=
  (∀ s : State, s.on MEMC.SCRUB_EN = true → s.up .core = true → s.power.phase = .steady →
    s.runs .scrubDue [.mem] [MEMC.RUNNING] (fun t => t.get MEMC.RUNNING = 1 ∧
    t.mem = { s.mem with scrubDue := true })) ∧
  (∀ s : State, s.mem.scrubDue = true → s.up .core = true → s.on MEMC.STEALING = false →
    s.runs .scrubSteal [] [MEMC.STEALING, MEMC.SCRUB_STEAL] (fun t =>
    t.get MEMC.STEALING = 1 ∧ t.get MEMC.SCRUB_STEAL = 1)) ∧
  (∀ s : State, s.mem.scrubDue = true → s.up .core = true →
    s.runs (.scrubPass [] []) [.mem, .post] [MEMC.RUNNING, MEMC.STEALING, MEMC.SCRUB_PASS, FAULT.OVERFLOW 0] (fun t =>
    t.get MEMC.RUNNING = 0 ∧ t.get MEMC.STEALING = 0 ∧ t.get MEMC.SCRUB_PASS = 1 ∧
    t.mem = { s.mem with scrubDue := false, scrubPos := 0, single := s.mem.single.filter (fun e => !(decide (0x20000000 + 4 * s.mem.scrubPos ≤ e.1) && decide (e.1 < 0x20100000))) } ∧ (∀ n : Fin 3, t.postOf (n + 1) = s.postOf (n + 1)) ∧
    (t.postOf 0).fifo = (s.postOf 0).fifo ++ (((s.mem.ecc.filter (fun e => (decide (0x20000000 + 4 * s.mem.scrubPos ≤ e.1) && decide (e.1 <
      0x20100000)))).map (fun e => (⟨recWord0 causeEcc 1 0 false, e.1 % 2 ^ 32, recWord2 0x81 0 0, s.tick32, false⟩ : Rec))).take (16 - (s.postOf
      0).fifo.length)))) ∧
  (∀ (s : State) (l : List (Fin 262144)) (w : Fin 262144), s.mem.scrubDue = true → s.up .core = true → s.mem.scrubPos ≤ w → s.mem.ecc = [] →
    (s.postOf 0).fifo = [] →
    s.runs (.scrubPass l [w]) [.mem, .post] [MEMC.RUNNING, MEMC.STEALING, MEMC.SCRUB_PASS, FAULT.OVERFLOW 0] (fun t => t.get MEMC.SCRUB_PASS = 1 ∧
      (t.postOf 0).fifo = [(⟨recWord0 causeEcc 1 0 false, (0x20000000 + 4 * w.val) % 2 ^ 32, recWord2 0x81 0 0, s.tick32, false⟩ : Rec)] ∧
        t.eccBad (0x20000000 + 4 * w) = true ∧
      ∀ k ∈ l, s.mem.scrubPos ≤ k → Table.find t.mem.single (0x20000000 + 4 * k.val) = none)) ∧
  (∀ (s : State) (l : List (Fin 262144)), (s.mem.scrubDue = false ∨ s.up .core = false) → s.runs (.scrubPass l l) [] [] (fun t => t = s)) ∧
  (∀ (s : State) (m : Master) (w : Width) (v : Word), s.admits m 0x1E 0x20 true → s.runs (.crcDataWrite m w v) [.mem] [CRC.RESULT] (fun t =>
    t.mem = { s.mem with crcReg := crcBytes s.crcAlg s.mem.crcReg (bytesLE (widthBytes w) v.toNat) } ∧
      t.get CRC.RESULT = crcFinish s.crcAlg t.mem.crcReg % 2 ^ 32)) ∧
  (∀ (s : State) (m : Master) (v : Word), s.admits m 0x1E 0x18 true → s.runs (.crcRestart m true v) [.mem] [CRC.INIT, CRC.RESULT] (fun t =>
    t.get CRC.INIT = v.toNat ∧ t.mem = { s.mem with crcReg := t.crcAlg.init } ∧ t.get CRC.RESULT = crcFinish t.crcAlg t.crcAlg.init % 2 ^ 32)) ∧
  (∀ (s : State) (m : Master) (v : Word), s.admits m 0x1E 0x10 true →
    s.runs (.crcRestart m false v) [.mem] (CRC.RESULT :: pageFieldsAt 0x1E 0x10) (fun t =>
    t.mem = { s.mem with crcReg := t.crcAlg.init } ∧ t.get CRC.RESULT = crcFinish t.crcAlg t.crcAlg.init % 2 ^ 32 ∧
    ∀ f ∈ pageFieldsAt 0x1E 0x10, t.get f = if f.legalValue (bits v.toNat f.lsb f.width) then bits v.toNat f.lsb f.width else s.get f)) ∧
  (∀ (s : State) (m : Master), s.admits m 0x20 0x14 false → s.on TRNG.VALID = true → s.runs (.trngDataRead m) [.answer, .fresh] [TRNG.VALID] (fun t =>
    t.get TRNG.VALID = 0 ∧ t.fresh = s.fresh + 1 ∧ t.answer = BitVec.ofNat 32 (Config.unstated s.fresh))) ∧
  (∀ (s : State) (m : Master), s.admits m 0x20 0x14 false → s.on TRNG.VALID = false → s.runs (.trngDataRead m) [.answer] [] (fun t => t.answer = 0)) ∧
  (∀ s : State, s.up .core = true → s.runs .healthFail [.mem] [TRNG.HEALTH_FAIL, TRNG.VALID, TRNG.HEALTH_OK] (fun t => t.get TRNG.HEALTH_FAIL = 1 ∧
    t.get TRNG.VALID = 0 ∧
    t.get TRNG.HEALTH_OK = 0 ∧ t.mem = { s.mem with trngFail := true })) ∧
  (∀ s : State, s.up .core = true → s.runs .trngValidReturn [.mem] [TRNG.VALID, TRNG.HEALTH_OK] (fun t => t.get TRNG.VALID = 1 ∧
    t.get TRNG.HEALTH_OK = 1 ∧
    t.mem = { s.mem with trngFail := false }))

/-- Chapter 8, the queue manager (R327 to R339, R42). -/
def Obligations.DescriptorQueues : Prop :=
  (∀ (s : State) (m : Master), s.admits m 0xE 0x1C false → s.inFlight (s.tidOf m) < s.get (QMGR.QUOTA (s.tidOf m)) → s.freeSlots ≠ [] →
    s.runs (.qmgrAllocRead m) [.answer, .fresh, .q] [] (fun t => ∃ k : Fin 2048, s.slotAt k = none ∧ t.answer = BitVec.ofNat 32 (k + 2 ^ 31) ∧
      t.q = { s.q with slots := t.q.slots } ∧ t.slotAt k = some ⟨s.tidOf m, 1, 0, 0, false, true⟩ ∧ ∀ j : Nat, j ≠ k → t.slotAt j = s.slotAt j)) ∧
  (∀ (s : State) (m : Master), s.admits m 0xE 0x1C false → s.get (QMGR.QUOTA (s.tidOf m)) ≤ s.inFlight (s.tidOf m) →
    s.runs (.qmgrAllocRead m) [.answer] [QMGR.QERROR] (fun t => t.answer = BitVec.ofNat 32 (9 * 2 ^ 16) ∧
      bit (t.get QMGR.QERROR) (s.tidOf m) = true)) ∧
  (∀ (s : State) (m : Master) (q : Fin 64) (v : Word) (d : Slot), s.admits m 0xE (0x104 + 8 * q) true → s.slotAt (bits v.toNat 0 11) = some d →
    d.owner = s.tidOf m → d.state = 1 →
    s.deadlinePassed (bits v.toNat 0 11) = false → s.runs (.qpushWrite m q v) [.q] [] (fun t =>
      t.slotAt (bits v.toNat 0 11) = some { d with state := 2, status := 0, queue := q, cancel := false } ∧
        t.queueAt q = s.queueAt q ++ [bits v.toNat 0 11] ∧
      (∀ k : Nat, k ≠ bits v.toNat 0 11 → t.slotAt k = s.slotAt k) ∧ ∀ k : Nat, k ≠ q → t.queueAt k = s.queueAt k)) ∧
  (∀ (s : State) (m : Master) (q : Fin 64) (v : Word), s.admits m 0xE (0x104 + 8 * q) true →
    ((s.slotAt (bits v.toNat 0 11)).map (fun d => d.owner == s.tidOf m && d.state == 1)) ≠ some true →
    s.runs (.qpushWrite m q v) [.post] [FAULT.OVERFLOW 0, FAULT.OVERFLOW 1, FAULT.OVERFLOW 2, FAULT.OVERFLOW 3] (fun t =>
      t.post = (s.failRecord ⟨causeDenied, 1, pageAddr 0xE (0x104 + 8 * q), 0, s.tidOf m⟩ (masterCode m) none).post)) ∧
  (∀ (s : State) (m : Master) (v : Word) (d : Slot), s.admits m 0xE 0x20 true → s.slotAt (bits v.toNat 0 11) = some d → d.owner = s.tidOf m →
    d.state = 1 →
    s.runs (.qmgrFreeWrite m v) [.q] [] (fun t => t.slotAt (bits v.toNat 0 11) = none ∧ t.q = { s.q with slots := t.q.slots } ∧
      ∀ k : Nat, k ≠ bits v.toNat 0 11 → t.slotAt k = s.slotAt k)) ∧
  (∀ (s : State) (m : Master) (v : Word) (d : Slot) (e : Disturb), e.upset = Upset.none → s.admits m 0xE 0x24 true →
    s.slotAt (bits v.toNat 0 11) = some d → d.owner = s.tidOf m → d.state = 2 → s.link.cur = none → s.link.next = none →
    s.deadlinePassed (bits v.toNat 0 11) = false →
      s.runs (.qmgrCancelWrite m v e) [.q, .mem, .post, .link, .phy, .page 0xE, .page 6, .page 7, .page 8, .page 9, .page 0x16, .page 0x15] [] (fun t
      =>
      bit (t.get QMGR.QERROR) d.owner = true ∧ (s.link.jobs = [] → s.link.soundings = [] → t.slotAt (bits v.toNat 0 11) = none ∧
        t.queueAt d.queue = (s.queueAt d.queue).filter (· != bits v.toNat 0 11)))) ∧
  (∀ (s : State) (k : Fin 8), s.runs (.queueStart k) [.q] [] (fun t => t.q = { s.q with starts := t.q.starts } ∧
    ∀ n : Fin 64, (Table.find t.q.starts n).isSome = ((s.on (QMGR.Q_GATED n) && s.get (QMGR.Q_START n) == k && s.owner tblQueue n == k / 2) ||
      (Table.find s.q.starts n).isSome))) ∧
  (∀ (s : State) (c : Fin 64) (n : Nat) (slot : Nat) (rest : List Nat) (d : Slot), c ≠ 0x30 → c ≠ 0x31 → (0x20 ≤ c.val → c.val < 0x30 →
    s.up .can = true ∧ s.objBusy ((c - 0x20) / 8) (120 + c % 8) = false) →
    s.up .core = true → s.activeAt c = none → s.descBad slot [0, 2, 3, 4] = none → s.nextQueue c = some n →
    s.queueAt n = slot :: rest → s.slotAt slot = some d → s.deadlinePassed slot = false → s.descValid slot c = true →
      s.runs (.consumerTake c none) [.q] [] (fun t =>
      t.activeAt c = some ⟨slot, n, d.owner, 0, none, none⟩ ∧ t.queueAt n = rest ∧ t.slotAt slot = some { d with state := 3 } ∧
      (s.on (QMGR.Q_GATED n) = true → Table.find t.q.starts n = none) ∧ (s.on (QMGR.Q_GATED n) = false → t.q.starts = s.q.starts))) ∧
  (∀ (s : State) (c : Fin 64) (n : Nat) (slot : Nat) (rest : List Nat) (d : Slot), c ≠ 0x30 → c ≠ 0x31 → (0x20 ≤ c.val → c.val < 0x30 →
    s.up .can = true ∧ s.objBusy ((c - 0x20) / 8) (120 + c % 8) = false) →
    s.up .core = true → s.activeAt c = none → s.descBad slot [0, 2, 3, 4] = none → s.nextQueue c = some n →
    s.queueAt n = slot :: rest → s.slotAt slot = some d → s.deadlinePassed slot = false → s.descValid slot c = false →
      s.get (QMGR.RING_SIZE d.owner) = 0 → d.owner < 4 →
    s.runs (.consumerTake c none) [.q] [QMGR.QERROR, QMGR.LINE] (fun t => bit (t.get QMGR.QERROR) d.owner = true ∧ t.slotAt slot = none)) ∧
  (∀ (s : State) (c : Fin 64) (n : Nat) (slot : Nat) (rest : List Nat) (d : Slot) (w : Fin 8), c ≠ 0x30 → c ≠ 0x31 → (0x20 ≤ c.val → c.val < 0x30 →
    s.up .can = true ∧ s.objBusy ((c - 0x20) / 8) (120 + c % 8) = false) →
    s.up .core = true → s.activeAt c = none → s.mem.ecc = [] → (w = 0 ∨ w = 2 ∨ w = 3 ∨ w = 4) → s.nextQueue c = some n →
    s.queueAt n = slot :: rest → s.slotAt slot = some d → s.deadlinePassed slot = false → s.get (QMGR.RING_SIZE d.owner) = 0 → d.owner < 4 →
      s.on (QMGR.Q_LINE_EN n) = false → d.queue = n →
    s.runs (.consumerTake c (some w)) [.q, .post, .mem, .page 6, .page 7, .page 8, .page 9] [QMGR.QERROR] (fun t => bit (t.get QMGR.QERROR) d.owner =
      true ∧ t.slotAt slot = none ∧
      t.mem = { s.mem with ecc := t.mem.ecc } ∧ t.queueAt n = rest.filter (· != slot) ∧
      (w ≠ 4 → t.post = ((s.setEcc (slotAddr slot + 4 * w)).eccRecord d.owner (slotAddr slot + 4 * w) (consumerMaster c)).post))) ∧
  (∀ (s : State) (c : Fin 64) (a : Active) (d : Slot), s.up .core = true → s.descBad a.slot [4, 6, 7] = none → s.activeAt c = some a →
    a.status = some stDone → s.slotAt a.slot = some d → s.deadlinePassed a.slot = false →
    bit (s.descWord a.slot 6) 31 = false → bit (s.descWord a.slot 4) 16 = false → s.runs (.descriptorComplete c) [.q] [QMGR.LINE] (fun t =>
      t.slotAt a.slot = none ∧ (∀ k : Nat, k ≠ a.slot → t.slotAt k = s.slotAt k) ∧ t.q.active = s.q.active.filter (fun e => e.2.slot != a.slot) ∧
      t.get QMGR.LINE = if s.on (QMGR.Q_LINE_EN d.queue) then s.get QMGR.LINE ||| 2 ^ s.get (QMGR.Q_LINE d.queue) else s.get QMGR.LINE)) ∧
  (∀ (s : State) (c : Fin 64) (a : Active) (d : Slot), s.up .core = true → s.descBad a.slot [4, 6, 7] = none → s.activeAt c = some a →
    a.status = some stDone → s.slotAt a.slot = some d → s.deadlinePassed a.slot = false → d.cancel = false →
    bit (s.descWord a.slot 6) 31 = true → bits (s.descWord a.slot 6) 0 11 = a.slot → bit (s.descWord a.slot 4) 16 = false →
      s.runs (.descriptorComplete c) [.q] [QMGR.LINE] (fun t =>
      t.slotAt a.slot = some { d with state := 2, status := stDone, cancel := false } ∧
        t.queueAt d.queue = (s.queueAt d.queue).filter (· != a.slot) ++ [a.slot] ∧
      t.q.active = s.q.active.filter (fun e => e.2.slot != a.slot))) ∧
  (∀ (s : State) (c : Fin 64) (a : Active) (d : Slot) (p : Nat), s.up .core = true → s.descBad a.slot [4, 6, 7] = none → s.activeAt c = some a →
    a.status = some stDone → s.slotAt a.slot = some d → s.deadlinePassed a.slot = false →
    bit (s.descWord a.slot 6) 31 = false → bit (s.descWord a.slot 4) 16 = true → s.get (QMGR.RING_SIZE d.owner) ≠ 0 →
    (s.get (QMGR.RING_HEAD d.owner) + 1) % s.get (QMGR.RING_SIZE d.owner) ≠ s.get (QMGR.RING_TAIL d.owner) % s.get (QMGR.RING_SIZE d.owner) →
    p = s.get (QMGR.RING_BASE d.owner) * 8 + 8 * s.get (QMGR.RING_HEAD d.owner) → s.sramFailure d.owner p = none →
      s.sramFailure d.owner (p + 4) = none → d.owner < 4 →
    s.runs (.descriptorComplete c) [.q, .mem] [QMGR.LINE, QMGR.RING_HEAD d.owner] (fun t =>
      t.get (QMGR.RING_HEAD d.owner) = (s.get (QMGR.RING_HEAD d.owner) + 1) % s.get (QMGR.RING_SIZE d.owner) % 2 ^ 12 ∧
      t.word d.owner p = ringWordA stDone a.slot d.queue false ∧ t.word d.owner (p + 4) = s.descWord a.slot 7 ∧ t.slotAt a.slot = none ∧
      s.outside t p 8)) ∧
  (∀ (s : State) (slot : Fin 2048) (d : Slot), s.deadlinePassed slot = true → s.up .core = true → s.descBad slot [4, 7] = none →
    s.slotAt slot = some d → d.state = 2 → d.status = 0 → d.owner < 4 → s.get (QMGR.RING_SIZE d.owner) = 0 →
    (s.postOf d.owner).fifo.length < 16 → s.runs (.deadlineMissed slot) [.q, .post] [QMGR.LINE, QMGR.QDEADLINE] (fun t => bit (t.get QMGR.QDEADLINE)
      d.owner = true ∧
      t.slotAt slot = none ∧ t.queueAt d.queue = (s.queueAt d.queue).filter (· != slot.val) ∧
      (t.postOf d.owner).fifo = (s.postOf d.owner).fifo ++ [⟨recWord0 causeDeadline 2 d.owner false, slotAddr slot % 2 ^ 32, recWord2 0x22 0 0,
        s.tick32, false⟩])) ∧
  (∀ (s : State) (slot : Fin 2048), s.deadlinePassed slot = false → s.runs (.deadlineMissed slot) [] [] (fun t => t = s))

/-- Chapter 8, DMA and engines (R340 to R343). Where an operation that goes by in several commands stops is read from the spec by inference
(DEDUCED, notes/assumptions/22.md). Each clause says that the command answers a next state, and which. -/
def Obligations.EngineDescriptors : Prop :=
  (∀ (s : State) (ch : Fin 16) (n : Nat) (d : Disturb) (a : Active) (t0 unit total m src dst : Nat), s.jobOf ch 0x01 = some a →
    d.upset = Upset.none → t0 = s.tidOf (.dma ch) →
    s.rst.quiescing.contains t0 = false → (∀ e ∈ s.q.slots, e.2.cancel = false) → bits (s.descWord a.slot 4) 19 2 ≠ 3 →
      unit = 2 ^ bits (s.descWord a.slot 4) 19 2 →
    total = bits (s.descWord a.slot 4) 0 16 / unit → m = dmaStop (s.descWord a.slot 3) (s.descWord a.slot 4) total a.done n - a.done →
      src = s.descWord a.slot 2 + unit * a.done → dst = s.descWord a.slot 3 + unit * a.done → bits (s.descWord a.slot 4) 17 2 = 0 →
    src % unit = 0 → dst % unit = 0 → s.plain t0 src (unit * m) → s.plain t0 dst (unit * m) → (src + unit * m ≤ dst ∨ dst + unit * m ≤ src) →
    ∃ t, exec (.copy ch n d) s = .next t ∧ (0 < n → m = total - a.done ∨ (dst + unit * m) % 4 = 0) ∧ t.q = { s.q with active := t.q.active } ∧
      (∀ k : Nat, t.activeAt k = if k = ch then some { a with done := a.done + m, status := if total ≤ a.done + m then some stDone else none } else
      s.activeAt k) ∧
        t.bytesAt t0 dst (unit * m) = s.bytesAt t0 src (unit * m) ∧ s.outside t dst (unit * m) ∧
        t.mem = { s.mem with ram := t.mem.ram, ecc := t.mem.ecc, single := t.mem.single } ∧ (∀ b : Nat, t.eccBad b = s.eccBad b) ∧
        (∀ j : Fin 4, t.hart j = { s.hart j with resv := (t.hart j).resv }) ∧ s.changes t [.q, .mem, .harts] []) ∧
  (∀ (s : State) (ch : Fin 16) (n : Nat) (d : Disturb) (a : Active) (t0 unit total m src dst sl dl : Nat) (sf df : Bool), s.jobOf ch 0x01 = some a →
    d.upset = Upset.none → t0 = s.tidOf (.dma ch) →
    s.rst.quiescing.contains t0 = false → (∀ e ∈ s.q.slots, e.2.cancel = false) → bits (s.descWord a.slot 4) 19 2 ≠ 3 →
      unit = 2 ^ bits (s.descWord a.slot 4) 19 2 →
    total = bits (s.descWord a.slot 4) 0 16 / unit → m = dmaStop (s.descWord a.slot 3) (s.descWord a.slot 4) total a.done n - a.done →
      sf = bit (s.descWord a.slot 4) 17 → df = bit (s.descWord a.slot 4) 18 → sf || df →
    src = s.descWord a.slot 2 + (if sf then 0 else unit * a.done) → dst = s.descWord a.slot 3 + (if df then 0 else unit * a.done) →
      sl = unit * (if sf then 1 else m) → dl = unit * (if df then 1 else m) →
    src % unit = 0 → dst % unit = 0 → s.plain t0 src sl → s.plain t0 dst dl → (src + sl ≤ dst ∨ dst + dl ≤ src) →
    ∃ t, exec (.copy ch n d) s = .next t ∧ (0 < n → m = total - a.done ∨ (if df then unit * (a.done + m) else dst + unit * m) % 4 = 0) ∧
      t.q = { s.q with active := t.q.active } ∧
      (∀ k : Nat, t.activeAt k = if k = ch then some { a with done := a.done + m, status := if total ≤ a.done + m then some stDone else none } else
      s.activeAt k) ∧
        (∀ i, i < m → (df = true → i + 1 = m) → t.ramRead t0 (dst + (if df then 0 else unit * i)) unit = s.ramRead t0 (src + (if sf then 0 else unit
          * i)) unit) ∧ s.outside t dst dl ∧
        t.mem = { s.mem with ram := t.mem.ram, ecc := t.mem.ecc, single := t.mem.single } ∧ (∀ b : Nat, t.eccBad b = s.eccBad b) ∧
        (∀ j : Fin 4, t.hart j = { s.hart j with resv := (t.hart j).resv }) ∧ s.changes t [.q, .mem, .harts] []) ∧
  (∀ (s : State) (ch : Fin 16) (n : Nat) (d : Disturb) (a : Active) (t0 unit total m dst : Nat), s.jobOf ch 0x02 = some a → d.upset = Upset.none →
    t0 = s.tidOf (.dma ch) →
    s.rst.quiescing.contains t0 = false → (∀ e ∈ s.q.slots, e.2.cancel = false) → bits (s.descWord a.slot 4) 19 2 ≠ 3 →
      unit = 2 ^ bits (s.descWord a.slot 4) 19 2 →
    total = bits (s.descWord a.slot 4) 0 16 / unit → m = dmaStop (s.descWord a.slot 3) (s.descWord a.slot 4) total a.done n - a.done →
      dst = s.descWord a.slot 3 + unit * a.done → bits (s.descWord a.slot 4) 18 1 = 0 →
    dst % unit = 0 → s.plain t0 dst (unit * m) →
    ∃ t, exec (.fill ch n d) s = .next t ∧ (0 < n → m = total - a.done ∨ (dst + unit * m) % 4 = 0) ∧ t.q = { s.q with active := t.q.active } ∧
      (∀ k : Nat, t.activeAt k = if k = ch then some { a with done := a.done + m, status := if total ≤ a.done + m then some stDone else none } else
      s.activeAt k) ∧
        (∀ i, i < m → t.ramRead t0 (dst + unit * i) unit = s.descWord a.slot 2 % 2 ^ (8 * unit)) ∧ s.outside t dst (unit * m) ∧
        t.mem = { s.mem with ram := t.mem.ram, ecc := t.mem.ecc, single := t.mem.single } ∧ (∀ b : Nat, t.eccBad b = s.eccBad b) ∧
        (∀ j : Fin 4, t.hart j = { s.hart j with resv := (t.hart j).resv }) ∧ s.changes t [.q, .mem, .harts] []) ∧
  (∀ (s : State) (ch : Fin 16) (n : Nat) (d : Disturb) (a : Active) (t0 unit total m dst : Nat), s.jobOf ch 0x02 = some a → d.upset = Upset.none →
    t0 = s.tidOf (.dma ch) →
    s.rst.quiescing.contains t0 = false → (∀ e ∈ s.q.slots, e.2.cancel = false) → bits (s.descWord a.slot 4) 19 2 ≠ 3 →
      unit = 2 ^ bits (s.descWord a.slot 4) 19 2 →
    total = bits (s.descWord a.slot 4) 0 16 / unit → m = dmaStop (s.descWord a.slot 3) (s.descWord a.slot 4) total a.done n - a.done →
      dst = s.descWord a.slot 3 → bits (s.descWord a.slot 4) 18 1 = 1 →
    dst % unit = 0 → s.plain t0 dst unit →
    ∃ t, exec (.fill ch n d) s = .next t ∧ (0 < n → m = total - a.done ∨ unit * (a.done + m) % 4 = 0) ∧ t.q = { s.q with active := t.q.active } ∧
      (∀ k : Nat, t.activeAt k = if k = ch then some { a with done := a.done + m, status := if total ≤ a.done + m then some stDone else none } else
      s.activeAt k) ∧
        (0 < m → t.ramRead t0 dst unit = s.descWord a.slot 2 % 2 ^ (8 * unit)) ∧ s.outside t dst unit ∧
        t.mem = { s.mem with ram := t.mem.ram, ecc := t.mem.ecc, single := t.mem.single } ∧ (∀ b : Nat, t.eccBad b = s.eccBad b) ∧
        (∀ j : Fin 4, t.hart j = { s.hart j with resv := (t.hart j).resv }) ∧ s.changes t [.q, .mem, .harts] []) ∧
  (∀ (s : State) (d : Disturb) (a : Active) (len src dst : Nat), s.jobOf 0x10 0x10 = some a → d.upset = Upset.none →
    s.rst.quiescing.contains a.owner = false →
    (∀ e ∈ s.q.slots, e.2.cancel = false) → bits (s.descWord a.slot 4) 22 3 < 3 → len = bits (s.descWord a.slot 4) 0 16 → src = s.descWord a.slot 2 →
      dst = s.descWord a.slot 3 →
    s.plain a.owner src len → s.plain a.owner dst 4 →
    ∃ t, exec (.crc d) s = .next t ∧ t.q = { s.q with active := t.q.active } ∧
      (∀ k : Nat, t.activeAt k = if k = 0x10 then some { a with status := some stDone } else s.activeAt k) ∧
        t.bytesAt a.owner dst 4 = bytesLE 4 (crcOf (crcAlgOf (bits (s.descWord a.slot 4) 22 3) 0 0 0 false false) (s.bytesAt a.owner src len)) ∧
          s.outside t dst 4 ∧
        t.mem = { s.mem with ram := t.mem.ram, ecc := t.mem.ecc, single := t.mem.single } ∧ (∀ b : Nat, t.eccBad b = s.eccBad b) ∧
        (∀ j : Fin 4, t.hart j = { s.hart j with resv := (t.hart j).resv }) ∧ s.changes t [.q, .mem, .harts] []) ∧
  (∀ (s : State) (d : Disturb) (a : Active) (len src dst : Nat), s.jobOf 0x10 0x10 = some a → d.upset = Upset.none →
    s.rst.quiescing.contains a.owner = false →
    (∀ e ∈ s.q.slots, e.2.cancel = false) → 3 ≤ bits (s.descWord a.slot 4) 22 3 → bits (s.descWord a.slot 4) 22 3 ≤ 5 →
      len = bits (s.descWord a.slot 4) 0 16 → src = s.descWord a.slot 2 → dst = s.descWord a.slot 3 →
    s.plain a.owner src len → s.plain a.owner dst 20 →
    ∃ t, exec (.crc d) s = .next t ∧ t.q = { s.q with active := t.q.active } ∧
      (∀ k : Nat, t.activeAt k = if k = 0x10 then some { a with status := some stDone } else s.activeAt k) ∧
        t.bytesAt a.owner dst 4 = bytesLE 4 (crcOf (crcAlgOf (bits (s.descWord a.slot 4) 22 3) (ofBytesLE (s.bytesAt a.owner (dst + 4) 4)) (ofBytesLE
          (s.bytesAt a.owner (dst + 8) 4)) (ofBytesLE (s.bytesAt a.owner (dst + 12) 4))
          (bit (ofBytesLE (s.bytesAt a.owner (dst + 16) 4)) 0) (bit (ofBytesLE (s.bytesAt a.owner (dst + 16) 4)) 1)) (s.bytesAt a.owner src len)) ∧
            s.outside t dst 4 ∧
        t.mem = { s.mem with ram := t.mem.ram, ecc := t.mem.ecc, single := t.mem.single } ∧ (∀ b : Nat, t.eccBad b = s.eccBad b) ∧
        (∀ j : Fin 4, t.hart j = { s.hart j with resv := (t.hart j).resv }) ∧ s.changes t [.q, .mem, .harts] []) ∧
  (∀ (s : State) (n : Nat) (d : Disturb) (a : Active) (len prm src dst : Nat), s.jobOf 0x11 0x20 = some a → a.run = none → a.done = 0 →
    len + 16 ≤ n → d.upset = Upset.none →
    s.rst.quiescing.contains a.owner = false → (∀ e ∈ s.q.slots, e.2.cancel = false) → len = bits (s.descWord a.slot 4) 0 16 →
      prm = s.descWord a.slot 2 →
    src = ofBytesLE (s.bytesAt a.owner (prm + 0x30) 4) → s.plain a.owner prm 64 → s.plain a.owner src len → len % 16 = 0 →
      dst = s.descWord a.slot 3 → s.plain a.owner dst len →
    ∃ t, exec (.ecbEnc n d) s = .next t ∧ (t.activeAt 0x11).map (fun b => (b.slot, b.status)) = some (a.slot, some stDone) ∧
        t.q = { s.q with active := t.q.active } ∧ (∀ k : Nat, k ≠ 0x11 → t.activeAt k = s.activeAt k) ∧
        t.bytesAt a.owner dst len = aesEcb false (s.bytesAt a.owner prm (if bit (s.descWord a.slot 4) 21 then 32 else 16)) (s.bytesAt a.owner src
          len) ∧ s.outside t dst len ∧
        t.mem = { s.mem with ram := t.mem.ram, ecc := t.mem.ecc, single := t.mem.single } ∧ (∀ b : Nat, t.eccBad b = s.eccBad b) ∧
        (∀ j : Fin 4, t.hart j = { s.hart j with resv := (t.hart j).resv }) ∧ s.changes t [.q, .mem, .harts] []) ∧
  (∀ (s : State) (n : Nat) (d : Disturb) (a : Active) (len prm src dst : Nat), s.jobOf 0x11 0x21 = some a → a.run = none → a.done = 0 →
    len + 16 ≤ n → d.upset = Upset.none →
    s.rst.quiescing.contains a.owner = false → (∀ e ∈ s.q.slots, e.2.cancel = false) → len = bits (s.descWord a.slot 4) 0 16 →
      prm = s.descWord a.slot 2 →
    src = ofBytesLE (s.bytesAt a.owner (prm + 0x30) 4) → s.plain a.owner prm 64 → s.plain a.owner src len → len % 16 = 0 →
      dst = s.descWord a.slot 3 → s.plain a.owner dst len →
    ∃ t, exec (.ecbDec n d) s = .next t ∧ (t.activeAt 0x11).map (fun b => (b.slot, b.status)) = some (a.slot, some stDone) ∧
        t.q = { s.q with active := t.q.active } ∧ (∀ k : Nat, k ≠ 0x11 → t.activeAt k = s.activeAt k) ∧
        t.bytesAt a.owner dst len = aesEcb true (s.bytesAt a.owner prm (if bit (s.descWord a.slot 4) 21 then 32 else 16)) (s.bytesAt a.owner src len)
          ∧ s.outside t dst len ∧
        t.mem = { s.mem with ram := t.mem.ram, ecc := t.mem.ecc, single := t.mem.single } ∧ (∀ b : Nat, t.eccBad b = s.eccBad b) ∧
        (∀ j : Fin 4, t.hart j = { s.hart j with resv := (t.hart j).resv }) ∧ s.changes t [.q, .mem, .harts] []) ∧
  (∀ (s : State) (n : Nat) (d : Disturb) (a : Active) (len prm src dst : Nat), s.jobOf 0x11 0x22 = some a → a.run = none → a.done = 0 →
    len + 16 ≤ n → d.upset = Upset.none →
    s.rst.quiescing.contains a.owner = false → (∀ e ∈ s.q.slots, e.2.cancel = false) → len = bits (s.descWord a.slot 4) 0 16 →
      prm = s.descWord a.slot 2 →
    src = ofBytesLE (s.bytesAt a.owner (prm + 0x30) 4) → s.plain a.owner prm 64 → s.plain a.owner src len → dst = s.descWord a.slot 3 →
      s.plain a.owner dst len →
    ∃ t, exec (.ctr n d) s = .next t ∧ (t.activeAt 0x11).map (fun b => (b.slot, b.status)) = some (a.slot, some stDone) ∧
        t.q = { s.q with active := t.q.active } ∧ (∀ k : Nat, k ≠ 0x11 → t.activeAt k = s.activeAt k) ∧
        t.bytesAt a.owner dst len = aesCtr (s.bytesAt a.owner prm (if bit (s.descWord a.slot 4) 21 then 32 else 16)) (s.bytesAt a.owner (prm + 0x20)
          16) (s.bytesAt a.owner src len) ∧ s.outside t dst len ∧
        t.mem = { s.mem with ram := t.mem.ram, ecc := t.mem.ecc, single := t.mem.single } ∧ (∀ b : Nat, t.eccBad b = s.eccBad b) ∧
        (∀ j : Fin 4, t.hart j = { s.hart j with resv := (t.hart j).resv }) ∧ s.changes t [.q, .mem, .harts] []) ∧
  (∀ (s : State) (n : Nat) (d : Disturb) (a : Active) (len prm src dst tag tl aad alen : Nat), s.jobOf 0x11 0x23 = some a → a.run = none →
    a.done = 0 → len + 16 ≤ n → d.upset = Upset.none →
    s.rst.quiescing.contains a.owner = false → (∀ e ∈ s.q.slots, e.2.cancel = false) → len = bits (s.descWord a.slot 4) 0 16 →
      prm = s.descWord a.slot 2 →
    src = ofBytesLE (s.bytesAt a.owner (prm + 0x30) 4) → s.plain a.owner prm 64 → s.plain a.owner src len → dst = s.descWord a.slot 3 →
      s.plain a.owner dst len →
    aad = ofBytesLE (s.bytesAt a.owner (prm + 0x34) 4) → alen = ofBytesLE (s.bytesAt a.owner (prm + 0x38) 2) →
    tl = bits (ofBytesLE (s.bytesAt a.owner (prm + 0x38) 4)) 16 5 → tag = ofBytesLE (s.bytesAt a.owner (prm + 0x3C) 4) → tagLenOk tl = true →
    s.plain a.owner aad alen → s.plain a.owner tag tl → (dst + len ≤ tag ∨ tag + tl ≤ dst) →
    ∃ t, exec (.ccmEnc n d) s = .next t ∧ (t.activeAt 0x11).map (fun b => (b.slot, b.status)) = some (a.slot, some stDone) ∧
        t.q = { s.q with active := t.q.active } ∧ (∀ k : Nat, k ≠ 0x11 → t.activeAt k = s.activeAt k) ∧
        t.bytesAt a.owner dst len = ccmCrypt (s.bytesAt a.owner prm (if bit (s.descWord a.slot 4) 21 then 32 else 16)) (s.bytesAt a.owner (prm +
          0x20) 13) (s.bytesAt a.owner src len) ∧
        t.bytesAt a.owner tag tl = ccmTag (s.bytesAt a.owner prm (if bit (s.descWord a.slot 4) 21 then 32 else 16)) (s.bytesAt a.owner (prm + 0x20)
          13) (s.bytesAt a.owner aad alen) (s.bytesAt a.owner src len) tl ∧
        (∀ p, ¬(dst ≤ p ∧ p < dst + len) → ¬(tag ≤ p ∧ p < tag + tl) → t.ramByte p = s.ramByte p) ∧
        t.mem = { s.mem with ram := t.mem.ram, ecc := t.mem.ecc, single := t.mem.single } ∧ (∀ b : Nat, t.eccBad b = s.eccBad b) ∧
        (∀ j : Fin 4, t.hart j = { s.hart j with resv := (t.hart j).resv }) ∧ s.changes t [.q, .mem, .harts] []) ∧
  (∀ (s : State) (n : Nat) (d : Disturb) (a : Active) (len prm src dst tag tl aad alen : Nat), s.jobOf 0x11 0x24 = some a → a.run = none →
    a.done = 0 → len + 16 ≤ n → d.upset = Upset.none →
    s.rst.quiescing.contains a.owner = false → (∀ e ∈ s.q.slots, e.2.cancel = false) → len = bits (s.descWord a.slot 4) 0 16 →
      prm = s.descWord a.slot 2 →
    src = ofBytesLE (s.bytesAt a.owner (prm + 0x30) 4) → s.plain a.owner prm 64 → s.plain a.owner src len → dst = s.descWord a.slot 3 →
      s.plain a.owner dst len →
    aad = ofBytesLE (s.bytesAt a.owner (prm + 0x34) 4) → alen = ofBytesLE (s.bytesAt a.owner (prm + 0x38) 2) →
    tl = bits (ofBytesLE (s.bytesAt a.owner (prm + 0x38) 4)) 16 5 → tag = ofBytesLE (s.bytesAt a.owner (prm + 0x3C) 4) → tagLenOk tl = true →
    s.plain a.owner aad alen → s.plain a.owner tag tl → (dst + len ≤ tag ∨ tag + tl ≤ dst) →
    ∃ t, exec (.ccmDec n d) s = .next t ∧ (t.activeAt 0x11).map (fun b => (b.slot, b.status)) = some (a.slot, some (if
        s.bytesAt a.owner tag tl = ccmTag (s.bytesAt a.owner prm (if bit (s.descWord a.slot 4) 21 then 32 else 16)) (s.bytesAt a.owner (prm + 0x20)
          13) (s.bytesAt a.owner aad alen) (ccmCrypt (s.bytesAt a.owner prm (if bit (s.descWord a.slot 4) 21 then 32 else 16)) (s.bytesAt a.owner
          (prm + 0x20) 13) (s.bytesAt a.owner src len)) tl then stDone else stAuth)) ∧
        t.q = { s.q with active := t.q.active } ∧ (∀ k : Nat, k ≠ 0x11 → t.activeAt k = s.activeAt k) ∧
        t.bytesAt a.owner dst len = ccmCrypt (s.bytesAt a.owner prm (if bit (s.descWord a.slot 4) 21 then 32 else 16)) (s.bytesAt a.owner (prm +
          0x20) 13) (s.bytesAt a.owner src len) ∧ s.outside t dst len ∧
        t.mem = { s.mem with ram := t.mem.ram, ecc := t.mem.ecc, single := t.mem.single } ∧ (∀ b : Nat, t.eccBad b = s.eccBad b) ∧
        (∀ j : Fin 4, t.hart j = { s.hart j with resv := (t.hart j).resv }) ∧ s.changes t [.q, .mem, .harts] []) ∧
  (∀ (s : State) (n : Nat) (d : Disturb) (a : Active) (len prm src tag : Nat), s.jobOf 0x11 0x25 = some a → a.run = none → a.done = 0 →
    len + 16 ≤ n → d.upset = Upset.none →
    s.rst.quiescing.contains a.owner = false → (∀ e ∈ s.q.slots, e.2.cancel = false) → len = bits (s.descWord a.slot 4) 0 16 →
      prm = s.descWord a.slot 2 →
    src = ofBytesLE (s.bytesAt a.owner (prm + 0x30) 4) → s.plain a.owner prm 64 → s.plain a.owner src len →
      tag = ofBytesLE (s.bytesAt a.owner (prm + 0x3C) 4) → s.plain a.owner tag 16 →
    ∃ t, exec (.cmac n d) s = .next t ∧ (t.activeAt 0x11).map (fun b => (b.slot, b.status)) = some (a.slot, some stDone) ∧
        t.q = { s.q with active := t.q.active } ∧ (∀ k : Nat, k ≠ 0x11 → t.activeAt k = s.activeAt k) ∧
        t.bytesAt a.owner tag 16 = aesCmac (s.bytesAt a.owner prm (if bit (s.descWord a.slot 4) 21 then 32 else 16)) (s.bytesAt a.owner src len) ∧
          s.outside t tag 16 ∧
        t.mem = { s.mem with ram := t.mem.ram, ecc := t.mem.ecc, single := t.mem.single } ∧ (∀ b : Nat, t.eccBad b = s.eccBad b) ∧
        (∀ j : Fin 4, t.hart j = { s.hart j with resv := (t.hart j).resv }) ∧ s.changes t [.q, .mem, .harts] []) ∧
  (∀ (s : State) (n : Nat) (d : Disturb) (a : Active) (r : AesRun), s.jobOf 0x11 0x20 = some a → a.run = some r → d.upset = Upset.none →
    (∀ e ∈ s.q.slots, e.2.cancel = false) →
    s.rst.quiescing.contains a.owner = false → s.plain a.owner (s.descWord a.slot 3) r.out.length →
      a.done + n < (aesWrites 0x20 (s.descWord a.slot 3) r).length →
    ∃ t, exec (.ecbEnc n d) s = .next t ∧ (∀ k : Nat, t.activeAt k = if k = 0x11 then some { a with done := a.done + n } else s.activeAt k) ∧
        s.outside t (s.descWord a.slot 3) r.out.length ∧ s.changes t [.q, .mem, .harts] [])

/-- Chapter 8, the debug module (R344 to R348). The RISC-V details are those of assumption log 23. -/
def Obligations.DebugAccesses : Prop :=
  (∀ (s : State) (h : Fin 4) (r : Fin 65536) (v : Nat) (d : Disturb), s.tapWorks = true → s.dbg.cmdErr = 0 → s.debuggable h = true →
    s.debugReg h r = some v → s.runs (.accessRegister h false r false d) [.dbg] [] (fun t =>
    t.dbg = { s.dbg with hartsel := h, data0 := BitVec.ofNat 32 v })) ∧
  (∀ (s : State) (h : Fin 4) (r : Fin 32) (d : Disturb), r ≠ 0 → s.tapWorks = true → s.dbg.cmdErr = 0 → s.debuggable h = true →
    s.runs (.accessRegister h true ⟨0x1000 + r, by omega⟩ false d) [.dbg, .harts] [] (fun t =>
    t.hart h = (s.hart h).setReg r s.dbg.data0 ∧ t.dbg = { s.dbg with hartsel := h } ∧ ∀ j : Fin 4, j ≠ h → t.hart j = s.hart j)) ∧
  (∀ (s : State) (h : Fin 4) (r : Fin 4096) (d : Disturb), s.tapWorks = true → s.dbg.cmdErr = 0 → s.debuggable h = true →
    (s.csrRead h r).isSome = true → s.runs (.accessRegister h true ⟨r, by omega⟩ false d) [.dbg, .harts] [] (fun t =>
    t.hart h = (s.hart h).csrWrite h r s.dbg.data0.toNat true ∧ t.dbg = { s.dbg with hartsel := h } ∧ ∀ j : Fin 4, j ≠ h → t.hart j = s.hart j)) ∧
  (∀ (s : State) (h : Fin 4) (w : Bool) (r : Fin 65536) (post : Bool) (d : Disturb), s.tapWorks = true → s.dbg.cmdErr = 0 → s.debuggable h = false →
    s.runs (.accessRegister h w r post d) [.dbg] [] (fun t =>
    t.dbg = { s.dbg with hartsel := h, cmdErr := 4 })) ∧
  (∀ (s : State) (h : Fin 4) (w : Bool) (r : Fin 65536) (post : Bool) (d : Disturb), s.tapWorks = true → s.dbg.cmdErr ≠ 0 →
    s.runs (.accessRegister h w r post d) [.dbg] [] (fun t =>
    t.dbg = { s.dbg with hartsel := h })) ∧
  (∀ (s : State) (h : Fin 4) (w : Width) (inc : Bool), s.tapWorks = true → s.dbg.cmdErr = 0 → s.debuggable h = true →
    s.rst.quiescing.contains h = false → s.dbg.data1.toNat % widthBytes w = 0 →
    (s.hart h).pmpAdmits h false s.dbg.data1.toNat (widthBytes w) 0 = true → s.up .core = true →
    s.plain h s.dbg.data1.toNat (widthBytes w) → s.runs (.accessMemory h false w inc Upset.none) [.dbg] [] (fun t =>
      t.dbg = { s.dbg with hartsel := h, data0 := BitVec.ofNat 32 (s.ramRead h s.dbg.data1.toNat (widthBytes w)), data1 := if inc then s.dbg.data1 + BitVec.ofNat 32 (widthBytes w) else s.dbg.data1 })) ∧
  (∀ (s : State) (h : Fin 4) (w : Width) (inc : Bool), s.tapWorks = true → s.dbg.cmdErr = 0 → s.debuggable h = true →
    s.rst.quiescing.contains h = false → s.dbg.data1.toNat % widthBytes w = 0 →
    (s.hart h).pmpAdmits h false s.dbg.data1.toNat (widthBytes w) 1 = true → s.up .core = true →
    s.plain h s.dbg.data1.toNat (widthBytes w) → s.runs (.accessMemory h true w inc Upset.none) [.dbg, .mem, .harts] [] (fun t =>
      t.ramRead h s.dbg.data1.toNat (widthBytes w) = s.dbg.data0.toNat % 2 ^ (8 * widthBytes w) ∧ s.outside t s.dbg.data1.toNat (widthBytes w) ∧
      t.dbg = { s.dbg with hartsel := h, data1 := if inc then s.dbg.data1 + BitVec.ofNat 32 (widthBytes w) else s.dbg.data1 } ∧
        ∀ j : Fin 4, t.hart j = { s.hart j with resv := (t.hart j).resv })) ∧
  (∀ (s : State) (h : Fin 4) (d : Disturb) (op : AluOp) (rd rs1 rs2 : Nat), s.tapWorks = true → s.dbg.cmdErr = 0 → s.debuggable h = true →
    s.dbg.half 0 % 4 = 3 → decodeInsn (vget s.dbg.progbuf 0 0).toNat = .alu op rd rs1 rs2 → vget s.dbg.progbuf 1 0 = 0x00100073 → (h ≠ 0 ∨
    op.bitManip = false) →
    s.runs (.programBufferExec h d) [.dbg, .harts] [] (fun t => 
      t.hart h = ({ s.hart h with resv := none } : Hart).setReg rd (aluResult op ((s.hart h).reg rs1) ((s.hart h).reg rs2)) ∧
        t.dbg = { s.dbg with hartsel := h } ∧ ∀ j : Fin 4, j ≠ h → t.hart j = s.hart j)) ∧
  (∀ (s : State) (h : Fin 4) (d : Disturb) (w : Width) (signed : Bool) (rd rs1 : Nat) (off a : Word), s.tapWorks = true → s.dbg.cmdErr = 0 →
    s.debuggable h = true → s.dbg.half 0 % 4 = 3 → decodeInsn (vget s.dbg.progbuf 0 0).toNat = .load w signed rd rs1 off →
    vget s.dbg.progbuf 1 0 = 0x00100073 → a = (s.hart h).reg rs1 + off → d.upset = Upset.none →
    s.rst.quiescing.contains h = false → a.toNat % widthBytes w = 0 → (s.hart h).pmpAdmits h false a.toNat (widthBytes w) 0 = true →
      s.up .core = true → s.plain h a.toNat (widthBytes w) → rd < 32 →
    s.runs (.programBufferExec h d) [.dbg, .harts] [] (fun t => 
      t.hart h = ({ s.hart h with resv := none } : Hart).setReg rd (extended (widthBytes w) (s.ramRead h a.toNat (widthBytes w)) signed) ∧
        t.dbg = { s.dbg with hartsel := h } ∧ ∀ j : Fin 4, j ≠ h → t.hart j = s.hart j)) ∧
  (∀ (s : State) (h : Fin 4) (d : Disturb) (w : Width) (signed : Bool) (rd rs1 : Nat) (off : Word), s.tapWorks = true → s.dbg.cmdErr = 0 →
    s.debuggable h = true → s.dbg.half 0 % 4 = 3 → decodeInsn (vget s.dbg.progbuf 0 0).toNat = .load w signed rd rs1 off →
    vget s.dbg.progbuf 1 0 = 0x00100073 → ((s.hart h).reg rs1 + off).toNat % widthBytes w ≠ 0 →
    s.runs (.programBufferExec h d) [.dbg, .harts] [] (fun t => t.dbg = { s.dbg with hartsel := h, cmdErr := 3 } ∧
      t.hart h = { s.hart h with resv := none } ∧ ∀ j : Fin 4, j ≠ h → t.hart j = s.hart j)) ∧
  (∀ (s : State) (h : Fin 4) (a : Word) (w : Width), s.tapWorks = true → s.dbg.sbError = 0 → s.rst.quiescing.contains h = false →
    a.toNat % widthBytes w = 0 → s.up .core = true → s.plain h a.toNat (widthBytes w) →
    s.runs (.systemBusAccess h false a w 0 Upset.none) [.dbg, .answer] [] (fun t => t.answer = BitVec.ofNat 32 (s.ramRead h a.toNat (widthBytes w)) ∧
      t.dbg = { s.dbg with hartsel := h, sbAddr := if s.dbg.sbInc = true then a + BitVec.ofNat 32 (widthBytes w) else a, sbSize := (if widthBytes w = 1 then 0 else if widthBytes w = 2 then 1 else 2), sbData := t.answer })) ∧
  (∀ (s : State) (h : Fin 4) (a v : Word) (w : Width), s.tapWorks = true → s.dbg.sbError = 0 → s.rst.quiescing.contains h = false →
    a.toNat % widthBytes w = 0 → s.up .core = true → s.plain h a.toNat (widthBytes w) →
    s.runs (.systemBusAccess h true a w v Upset.none) [.dbg, .mem, .harts] [] (fun t => t.ramRead h a.toNat (widthBytes w) = v.toNat % 2 ^ (8 *
      widthBytes w) ∧ s.outside t a.toNat (widthBytes w) ∧
      t.dbg = { s.dbg with hartsel := h, sbAddr := if s.dbg.sbInc = true then a + BitVec.ofNat 32 (widthBytes w) else a, sbSize := (if widthBytes w = 1 then 0 else if widthBytes w = 2 then 1 else 2), sbData := v } ∧ ∀ j : Fin 4, t.hart j = { s.hart j with resv := (t.hart j).resv })) ∧
  (∀ (s : State) (h : Fin 4) (a v : Word) (w : Width) (wr : Bool) (u : Upset), s.tapWorks = true → s.dbg.sbError ≠ 0 →
    s.runs (.systemBusAccess h wr a w v u) [] [] (fun t => t = s)) ∧
  (∀ (s : State) (h : Fin 4), s.tapWorks = true → s.hartExists h = true → (s.hart h).running = true → (s.hart h).halted = false →
    s.up (hartIsland h) = true → s.runs (.haltreq h) [.harts] [] (fun t =>
    t.hart h = (s.hart h).halt 3 ∧ ∀ j : Fin 4, j ≠ h → t.hart j = s.hart j)) ∧
  (∀ (s : State) (h : Fin 4), s.tapWorks = true → s.hartExists h = true → ((s.hart h).running = false ∨ s.up (hartIsland h) = false) →
    s.runs (.haltreq h) [.harts] [] (fun t =>
    t.hart h = { s.hart h with haltWait := true })) ∧
  (∀ (s : State) (h : Fin 4), s.tapWorks = true → s.debuggable h = true →
    s.runs (.resumereq h) [.dbg, .harts] [] (fun t => t.hart h = (s.hart h).resume h ∧ (t.hart h).halted = false ∧
    t.dbg = { s.dbg with resumed := vput s.dbg.resumed h true } ∧ ∀ j : Fin 4, j ≠ h → t.hart j = s.hart j)) ∧
  (∀ s : State, s.tapWorks = true → s.runs (.ndmreset true) [.dbg, .rst] [] (fun t => t.dbg = { s.dbg with ndmreset := true } ∧
    t.rst = { s.rst with debugHold := true, asked := s.rst.asked ++ [.debug] })) ∧
  (∀ s : State, s.tapWorks = true → s.rst.inReset = false →
    s.runs (.ndmreset false) [.dbg, .rst] [] (fun t => t.dbg = { s.dbg with ndmreset := false } ∧
    t.rst = { s.rst with debugHold := (s.hart 0).inReset })) ∧
  (∀ s : State, s.tapWorks = true → s.runs (.hartreset 0 true) [.dbg, .rst, .harts] [] (fun t => t.dbg.hartsel = 0 ∧ (t.hart 0).inReset = true ∧
    t.rst = { s.rst with debugHold := true, asked := s.rst.asked ++ [.debug] })) ∧
  (∀ (s : State) (n : Fin 3), s.tapWorks = true → s.hartExists (n + 1) = true → s.rst.inReset = false → s.rst.quiescing.contains (n + 1) = false →
    s.runs (.hartreset n.succ true) (Part.everything.filter (fun p => p ≠ .pending ∧ p ≠ .answer ∧ p ≠ .supply ∧ p ≠ .toothTime ∧ p ≠ .trx ∧
      p ≠ .owners ∧ p ≠ .waiting ∧ p ≠ .ser)) [] (fun t =>
      t.get (RSTC.TEN_CAUSE_DEBUG (n + 1)) = 1 ∧ t.rst.quiescing = s.rst.quiescing ++ [n.val + 1] ∧ (t.hart (n + 1)).running = false ∧
        (t.hart (n + 1)).inReset = true)) ∧
  (∀ (s : State) (h : Fin 4), s.tapWorks = true → s.hartExists h = true →
    s.runs (.setresethaltreq h) [.harts] [] (fun t => t.hart h = { s.hart h with haltReset := true } ∧
    ∀ j : Fin 4, j ≠ h → t.hart j = s.hart j)) ∧
  (∀ (s : State) (h : Fin 4), s.tapWorks = true → s.hartExists h = true →
    s.runs (.clrresethaltreq h) [.harts] [] (fun t => t.hart h = { s.hart h with haltReset := false } ∧
    ∀ j : Fin 4, j ≠ h → t.hart j = s.hart j)) ∧
  (∀ (s : State) (h i : Fin 4) (k : TrigKind) (a v : Word) (x : Hart), s.issues h = true → (s.hart h).trigFires h i k a.toNat v.toNat = true →
    x = { s.hart h with trig := vput (s.hart h).trig i ((vget (s.hart h).trig i (0, 0)).1 ||| 0x00100000, (vget (s.hart h).trig i (0, 0)).2) } →
      s.runs (.triggerMatch h i k a v) [.harts] [] (fun t =>
    t.hart h = (if bits (vget (s.hart h).trig i (0, 0)).1.toNat 12 4 = 1 then x.halt 2 else (x.trapped h excBreak a.toNat).stepped) ∧
      ∀ j : Fin 4, j ≠ h → t.hart j = s.hart j))

/-- Chapter 2, the TAP (R76 to R80). -/
def Obligations.TestAccessPort : Prop :=
  (∀ s : State, s.tapWorks = true → s.runs .tapReset [.dbg] [] (fun t => t.dbg = { s.dbg with tapIr := 1 })) ∧
  (∀ s : State, s.tapWorks = true → s.padsLive = true → s.runs .idcode [.dbg] [] (fun t => t.dbg = { s.dbg with tapIr := 1, tapOut := 0x1048056B })) ∧
  (∀ s : State, s.tapWorks = true → s.padsLive = true → s.runs .dtmcs [.dbg] [] (fun t => t.dbg = { s.dbg with tapIr := 0x10, tapOut := 0x1071 })) ∧
  (∀ s : State, s.tapWorks = true → s.runs (.dmi none) [.dbg] [] (fun t => t.dbg = { s.dbg with tapIr := 0x11 })) ∧
  (∀ (s : State) (v : BitVec 41), s.tapWorks = true → s.padsLive = true → bits v.toNat 0 2 = 1 → bits v.toNat 34 7 ≠ 0x3C →
    s.runs (.dmi (some v)) [.dbg] [] (fun t =>
    t.dbg = { s.dbg with tapIr := 0x11, tapOut := s.dbg.dmi, dmi := s.dmRead (bits v.toNat 34 7) * 2 ^ 2 + bits v.toNat 34 7 * 2 ^ 34 })) ∧
  (∀ (s : State) (v : BitVec 41) (k : Fin 8), s.tapWorks = true → s.padsLive = true → s.dbg.active = true → bits v.toNat 0 2 = 2 →
    bits v.toNat 34 7 = 0x20 + k → s.runs (.dmi (some v)) [.dbg] [] (fun t =>
    t.dbg = { s.dbg with tapIr := 0x11, tapOut := s.dbg.dmi, dmi := bits v.toNat 2 32 * 2 ^ 2 + bits v.toNat 34 7 * 2 ^ 34, progbuf := vput s.dbg.progbuf k (BitVec.ofNat 32 (bits v.toNat 2 32)) })) ∧
  (∀ (s : State) (v : BitVec 41), s.tapWorks = true → s.padsLive = true → s.dbg.active = true → s.dbg.hartsel < 4 → s.dbg.sbOnAddr = false →
    bits v.toNat 0 2 = 2 → bits v.toNat 34 7 = 0x39 →
    s.runs (.dmi (some v)) [.dbg] [] (fun t => t.dbg.sbAddr = BitVec.ofNat 32 (bits v.toNat 2 32) ∧ t.dbg.sbData = s.dbg.sbData ∧
      t.dbg.sbError = s.dbg.sbError)) ∧
  (∀ s : State, s.tapWorks = true → s.padsLive = true → s.runs .bypass [.dbg] [] (fun t => t.dbg = { s.dbg with tapIr := 0x1F, tapOut := 0 })) ∧
  (∀ s : State, s.tapWorks = true → s.padsLive = true → s.runs .clamp [.dbg] [] (fun t => t.dbg = { s.dbg with tapIr := 3, tapOut := 0 } ∧
    ∀ i : Fin 48, t.padState i = ⟨s.dbg.bsr.getLsbD (padCell i), s.dbg.bsr.getLsbD (padCell i + 1), 0, false, if s.dbg.bsr.getLsbD (padCell i) = true
      then Config.testDrive i % 3 else 0⟩)) ∧
  (∀ s : State, s.tapWorks = true → s.padsLive = true → s.runs .highz [.dbg] [] (fun t => t.dbg = { s.dbg with tapIr := 4, tapOut := 0 } ∧
    ∀ i : Fin 48, t.padState i = hiZ)) ∧
  (∀ (s : State) (b : BitVec 153), s.tapWorks = true → s.runs (.extest (some b)) [.dbg, .fresh] [] (fun t => t.dbg.tapIr = 0 ∧ t.dbg.bsr = b ∧
    ∀ i : Fin 48, t.padState i = ⟨b.getLsbD (padCell i), b.getLsbD (padCell i + 1), 0, false, if b.getLsbD (padCell i) = true then Config.testDrive i
      % 3 else 0⟩)) ∧
  (∀ s : State, s.tapWorks = true → s.runs (.extest none) [.dbg] [] (fun t => t.dbg = { s.dbg with tapIr := 0 })) ∧
  (∀ (s : State) (b : BitVec 153), s.tapWorks = true → s.padsLive = true →
    s.runs (.samplePreload (some b)) [.dbg, .fresh] [] (fun t => t.dbg.tapIr = 2 ∧ t.dbg.bsr = b ∧
    (∀ i : Fin 48, bit t.dbg.tapOut (padCell i + 2) = s.padLevel i) ∧ bit t.dbg.tapOut 146 = s.fab.wakeLevel))

/-- Chapter 9, pads (R373 to R379). -/
def Obligations.Pads : Prop :=
  (∀ (s : State) (m : Master) (i : Fin 48) (v : Word), s.admits m 0x21 (0x100 + 4 * i) true → s.ownLowSeen → (i.val = 40 → s.on PWM.FAULT_IN = true ∨
    s.on (PORT.OE 40) = false) → s.runs (.portCfgWrite m i v) [] (PORT.PAD :: pageFieldsAt 0x21 (0x100 + 4 * i) ++ (List.range 48).map PORT.IRQ_FLAG)
    (fun t =>
    t.get (PORT.CFGD i) = 1 ∧ t.get (PORT.FUNC i) = (if (padFuncs i).contains (bits v.toNat 0 2) then bits v.toNat 0 2 else s.get (PORT.FUNC i)) ∧
    t.get (PORT.PULL i) = (if bits v.toNat 2 2 ≤ 2 then bits v.toNat 2 2 else s.get (PORT.PULL i)) ∧
      t.get (PORT.DRIVE i) = (if bits v.toNat 4 2 ≤ 2 then bits v.toNat 4 2 else s.get (PORT.DRIVE i)) ∧
    t.get (PORT.OD i) = bits v.toNat 6 1 ∧ t.get (PORT.IRQ i) = (if bits v.toNat 8 3 ≤ 5 then bits v.toNat 8 3 else s.get (PORT.IRQ i)) ∧
      t.get (PORT.FILTER i) = bits v.toNat 12 4 ∧
    t.get (PORT.OUT_SEL i) = (if bits v.toNat 16 4 ≤ 8 then bits v.toNat 16 4 else s.get (PORT.OUT_SEL i)))) ∧
  (∀ (s : State) (m : Master) (b : Fin 2) (v : Word), s.admits m 0x21 (0x20 + 4 * b) true → s.ownLowSeen →
    s.runs (.portSet m b v) [] (PORT.PAD :: (List.range 48).map PORT.OUT ++ (List.range 48).map PORT.IRQ_FLAG) (fun t => (∀ i : Fin 48, t.get
    (PORT.IRQ_FLAG i) = s.levelFlag i) ∧
    ∀ i : Fin 48, t.get (PORT.OUT i) = if i.val / 32 = b ∧ v.getLsbD (i.val % 32) = true then 1 else s.get (PORT.OUT i))) ∧
  (∀ (s : State) (m : Master) (b : Fin 2) (v : Word), s.admits m 0x21 (0x28 + 4 * b) true → s.ownLowSeen →
    s.runs (.portClr m b v) [] (PORT.PAD :: (List.range 48).map PORT.OUT ++ (List.range 48).map PORT.IRQ_FLAG) (fun t => (∀ i : Fin 48, t.get
    (PORT.IRQ_FLAG i) = s.levelFlag i) ∧
    ∀ i : Fin 48, t.get (PORT.OUT i) = if i.val / 32 = b ∧ v.getLsbD (i.val % 32) = true then 0 else s.get (PORT.OUT i))) ∧
  (∀ (s : State) (m : Master) (v : Word), s.admits m 0x21 0x2C true → s.fab.vio = true → s.on (PORT.CFGD 40) = true → s.get (PORT.FUNC 40) = 0 →
    s.on (PORT.OE 40) = true → s.get (PORT.OUT_SEL 40) = 0 → v.getLsbD 8 = true →
    s.runs (.portClr m 1 v) (.page 0x21 :: .page 0x1A :: Part.eventFan) [] (fun t => t.get PWM.FAULT_IN = 1 ∧
      ∀ i : Fin 48, t.get (PORT.OUT i) = if 32 ≤ i.val ∧ v.getLsbD (i.val - 32) = true then 0 else s.get (PORT.OUT i))) ∧
  (∀ (s : State) (m : Master) (v : Word), s.admits m 0x21 0x1A0 true → s.fab.vio = true → bits v.toNat 0 2 = 0 → s.on (PORT.OE 40) = true →
    bits v.toNat 16 4 = 0 → s.on (PORT.OUT 40) = false →
    s.runs (.portCfgWrite m 40 v) (.page 0x21 :: .page 0x1A :: Part.eventFan) [] (fun t => t.get PWM.FAULT_IN = 1 ∧ t.get (PORT.CFGD 40) = 1 ∧
      t.get (PORT.FUNC 40) = 0)) ∧
  (∀ (s : State) (i : Fin 48) (l : Bool), s.fab.vio = true → s.power.mode ≠ .off → s.padLevel i ≠ l →
    s.runs (.padFilterAccept i l) (Part.eventFan ++ [.page 0x21]) [] (fun t =>
    t.padLevel i = l ∧ (∀ j : Fin 48, j ≠ i → t.padLevel j = s.padLevel j) ∧
    ((s.get (PORT.IRQ i) = 1 ∧ l = true ∨ s.get (PORT.IRQ i) = 2 ∧ l = false ∨ s.get (PORT.IRQ i) = 3) → t.get (PORT.IRQ_FLAG i) = 1 ∧
      t.get PORT.PAD = 1) ∧
    (∀ c : Fin 64, i.val < 28 → s.on (EVF.EN c) = true → s.get (EVF.SRC c) = i.val + 1 → s.get (EVF.EDGE c) = 3 →
      s.endOk c (s.pageOwner 0x21) = true → t.get (EVF.FIRED c) = 1))) ∧
  (∀ (s : State) (i : Fin 48) (l : Bool), (s.fab.vio = false ∨ s.power.mode = .off ∨ s.padLevel i = l) →
    s.runs (.padFilterAccept i l) [] [] (fun t => t = s))

/-- Chapter 9, the event fabric (R358 to R376). -/
def Obligations.EventFabric : Prop :=
  (∀ (s : State) (src : Fin 128), isSource src = true → 0x20 ≤ src.val → s.power.mode = .gale →
    s.runs (.eventSourceFire src) Part.eventFan [] (fun t =>
    (∀ c : Fin 64, s.on (EVF.EN c) = true → s.get (EVF.SRC c) = src →
      if s.endOk c (s.sourceOwner src) then t.get (EVF.FIRED c) = 1 else t.get (EVF.BLOCKED c) = 1) ∧
    (∀ c : Fin 64, ¬(s.on (EVF.EN c) = true ∧ s.get (EVF.SRC c) = src ∧ s.endOk c (s.sourceOwner src) = true) →
      t.get (EVF.FIRED c) = s.get (EVF.FIRED c)) ∧
    ∀ k : Fin 4, ∀ c : Fin 64, s.on (EVF.EN c) = true → s.get (EVF.SRC c) = src → s.endOk c (s.sourceOwner src) = true →
      s.on (EVF.S_EN (0x38 + k)) = true → s.get (EVF.S_CHANNEL (0x38 + k)) = c →
      s.endOk c (s.srcOwner (48 + k)) = true → s.island .ao = .running → s.on (EVF.S_PEND (0x38 + k)) = false → bit (t.get EVF.ISINK) k = true)) ∧
  (∀ (s : State) (src : Fin 128), s.power.mode = .off → s.runs (.eventSourceFire src) [] [] (fun t => t = s)) ∧
  (∀ (s : State) (m : Master) (v : Word), s.admits m 0x10 0x10 true → s.owner tblEvent (bits v.toNat 0 6) = s.tidOf m →
    s.on (EVF.EN (bits v.toNat 0 6)) = true →
    s.runs (.swtrig m v) Part.eventFan [] (fun t => t.get (EVF.FIRED (bits v.toNat 0 6)) = 1 ∧
      ∀ k : Fin 4, s.on (EVF.S_EN (0x38 + k)) = true → s.get (EVF.S_CHANNEL (0x38 + k)) = bits v.toNat 0 6 →
        s.endOk (bits v.toNat 0 6) (s.srcOwner (48 + k)) = true → s.island .ao = .running → s.on (EVF.S_PEND (0x38 + k)) = false →
        bit (t.get EVF.ISINK) k = true)) ∧
  (∀ (s : State) (m : Master) (v : Word), s.admits m 0x10 0x10 true → s.owner tblEvent (bits v.toNat 0 6) ≠ s.tidOf m → s.runs (.swtrig m v) [.post]
    [FAULT.OVERFLOW 0, FAULT.OVERFLOW 1, FAULT.OVERFLOW 2, FAULT.OVERFLOW 3] (fun t => t.post = (s.failRecord ⟨causeDenied, 1, pageAddr 0x10 0x10, 0,
      s.tidOf m⟩ (masterCode m) none).post)) ∧
  (∀ (s : State) (m : Master) (c : Fin 64) (v : Word), s.admits m 0x10 (0x100 + 4 * c) true → s.on (EVF.LOCK c) = false →
    s.runs (.evfChWrite m c v) Part.eventFan [] (fun t =>
    t.get (EVF.SRC c) = bits v.toNat 0 7 ∧ t.get (EVF.EDGE c) = bits v.toNat 8 2 ∧ t.get (EVF.ATTR c) = bits v.toNat 12 1 ∧
      t.get (EVF.EN c) = bits v.toNat 16 1 ∧
    t.get (EVF.LOCK c) = bits v.toNat 17 1 ∧ t.signal c = t.levelOf c)) ∧
  (∀ (s : State) (m : Master) (c : Fin 64) (v : Word), s.admits m 0x10 (0x100 + 4 * c) true → s.on (EVF.LOCK c) = true →
    s.runs (.evfChWrite m c v) (Part.eventFan) [] (fun t =>
    t.get (EVF.SRC c) = s.get (EVF.SRC c) ∧ t.get (EVF.EDGE c) = s.get (EVF.EDGE c) ∧ t.get (EVF.ATTR c) = s.get (EVF.ATTR c) ∧
      t.get (EVF.EN c) = s.get (EVF.EN c) ∧ t.get (EVF.LOCK c) = 1)) ∧
  (∀ (s : State) (m : Master) (c : Fin 64), s.admits m 0x10 (0x100 + 4 * c) true → s.signal c = s.levelOf c →
    s.runs (.evfChLock m c) [] [EVF.LOCK c] (fun t => t.get (EVF.LOCK c) = 1)) ∧
  (∀ (s : State) (m : Master) (k : Fin 64) (v : Word), s.admits m 0x10 (0x200 + 4 * k) true → s.channelClosed (s.tidOf m) (bits v.toNat 0 6) = false →
    (k.val < 0x3D → s.get (EVF.S_OBJ k) = 0) → (0x3D ≤ k.val → s.get (EVF.S_OBJ k) = bits v.toNat 16 7 ∧ s.get (EVF.S_OUTMODE k) = 0) →
    s.runs (.evfSinkWrite m k v) [.fab] [EVF.S_CHANNEL k, EVF.S_EN k, EVF.S_OUTMODE k] (fun t => t.get (EVF.S_CHANNEL k) = bits v.toNat 0 6 ∧
      t.get (EVF.S_EN k) = bits v.toNat 8 1 ∧
      (0x30 ≤ k.val → k.val < 0x38 → bits v.toNat 10 2 ≤ 2 → t.get (EVF.S_OUTMODE k) = bits v.toNat 10 2) ∧ (¬(0x30 ≤ k.val ∧ k.val < 0x38) →
        t.fab = s.fab))) ∧
  (∀ (s : State) (m : Master) (k : Fin 64) (v : Word), s.admits m 0x10 (0x200 + 4 * k) true → s.channelClosed (s.tidOf m) (bits v.toNat 0 6) = true →
    s.on (EVF.S_EN k) = false → bits v.toNat 8 1 = 1 →
    s.runs (.evfSinkWrite m k v) [.post] [FAULT.OVERFLOW 0, FAULT.OVERFLOW 1, FAULT.OVERFLOW 2, FAULT.OVERFLOW 3] (fun t =>
      t.post = (s.failRecord ⟨causeDenied, 1, pageAddr 0x10 (0x200 + 4 * k), 0, s.tidOf m⟩ (masterCode m) none).post)) ∧
  (∀ (s : State) (m : Master) (k : Fin 3) (v : Word) (x : Nat), s.admits m 0x10 (0x2F4 + 4 * k) true → x = (if k = 2 then 1 else 0) →
    s.objOwner x (s.get (EVF.S_OBJ (0x3D + k))) = s.tidOf m →
    s.objOwner x (v.toNat % 128) = s.tidOf m → s.get (EVF.S_OUTMODE (0x3D + k)) = 0 →
    s.runs (.canTxTriggerObjWrite m k v) [] [EVF.S_OBJ (0x3D + k)] (fun t => t.get (EVF.S_OBJ (0x3D + k)) = v.toNat % 128)) ∧
  (∀ (s : State) (k : Fin 64), s.on (EVF.S_PEND k) = true → s.up (sinkIsland k) = true → s.runs (.sinkPendingAct k) Part.eventFan [] (fun t =>
    t.get (EVF.S_PEND k) = 0 ∧ (0x38 ≤ k.val → k.val < 0x3C → bit (t.get EVF.ISINK) (k - 0x38) = true) ∧
    (k.val < 8 → ∀ n : Fin 64, s.on (QMGR.Q_GATED n) = true → s.get (QMGR.Q_START n) = k → s.owner tblQueue n = k.val / 2 →
      (Table.find t.q.starts n).isSome = true))) ∧
  (∀ (s : State) (k : Fin 8), (Table.find s.fab.pulses k).isSome = true → s.get (EVF.S_OUTMODE (0x30 + k)) = 0 →
    s.runs (.evoutPulseEnd k) [.fab] [] (fun t =>
    t.evout k = false ∧ Table.find t.fab.pulses k = none ∧ ∀ j : Fin 8, j ≠ k → t.evout j = s.evout j))

/-- Chapter 9, the SPI units and the UARTs (R381 to R384). -/
def Obligations.SpiAndUart : Prop :=
  (∀ (s : State) (m : Master) (n : Fin 2) (v : Word), s.admits m 0x22 (0x1C + 0x20 * n) true → (vget s.ser.spiTx n []).length < 8 →
    s.runs (.spiDataWrite m n v) [.ser] watermarks (fun t =>
    (vget t.ser.spiNow n none).toList ++ vget t.ser.spiTx n [] = (vget s.ser.spiNow n none).toList ++ vget s.ser.spiTx n [] ++ [v.toNat] ∧
    (s.on (SER.SPI_EN n) = true → s.on (SER.SPI_TARGET n) = false → (vget t.ser.spiNow n none).isSome = true) ∧ t.ser.spiRx = s.ser.spiRx ∧
      t.ser.uartTx = s.ser.uartTx ∧
    t.get (SER.SPI_TX_WM_EVT n) = (if s.on (SER.SPI_EN n) = true ∧
      (vget t.ser.spiTx n []).length ≤ s.get (SER.SPI_TX_WM n) then 1 else s.get (SER.SPI_TX_WM_EVT n)))) ∧
  (∀ (s : State) (m : Master) (n : Fin 2) (v : Word), s.admits m 0x22 (0x1C + 0x20 * n) true → 8 ≤ (vget s.ser.spiTx n []).length →
    s.runs (.spiDataWrite m n v) [] (SER.SPI_TX_OVF n :: SER.SPI_ERR_EVT n :: watermarks) (fun t => t.get (SER.SPI_TX_OVF n) = 1 ∧
      t.get (SER.SPI_ERR_EVT n) = 1)) ∧
  (∀ (s : State) (n : Fin 2) (rx : Word) (v : Nat), s.up .core = true → s.on (SER.SPI_EN n) = true → s.on (SER.SPI_TARGET n) = false →
    (vget s.ser.spiNow n none).isSome = true →
    v = (if s.fab.vio = true then rx.toNat else if s.lineIn (.miso n) = true then 2 ^ 32 - 1 else 0) →
    s.runs (.spiFrameEnd n (some rx)) [.ser] (SER.SPI_DONE_EVT n :: SER.SPI_RX_OVF n :: SER.SPI_ERR_EVT n :: watermarks) (fun t =>
    vget t.ser.spiNow n none = (vget s.ser.spiTx n []).head? ∧ vget t.ser.spiTx n [] = (vget s.ser.spiTx n []).tail ∧
    ((vget s.ser.spiTx n []) = [] → t.get (SER.SPI_DONE_EVT n) = 1) ∧ ((vget s.ser.spiTx n []) ≠ [] →
      t.get (SER.SPI_DONE_EVT n) = s.get (SER.SPI_DONE_EVT n)) ∧
    ((vget s.ser.spiRx n []).length < 8 → vget t.ser.spiRx n [] = vget s.ser.spiRx n [] ++ [v % 2 ^ (s.get (SER.SPI_FRAME n) + 1)] ∧
      t.get (SER.SPI_RX_OVF n) = s.get (SER.SPI_RX_OVF n)) ∧
    (8 ≤ (vget s.ser.spiRx n []).length → vget t.ser.spiRx n [] = vget s.ser.spiRx n [] ∧ t.get (SER.SPI_RX_OVF n) = 1 ∧
      t.get (SER.SPI_ERR_EVT n) = 1))) ∧
  (∀ (s : State) (n : Fin 2), s.up .core = true → s.fab.vio = true → s.carried (.sck n) = true → s.carried (.cs n) = true →
    s.on (SER.SPI_EN n) = true → s.on (SER.SPI_TARGET n) = true → vget s.ser.spiNow n none = none →
    s.runs (.spiFrameEnd n none) [.ser] (SER.SPI_TX_UNDER n :: SER.SPI_RX_OVF n :: SER.SPI_ERR_EVT n :: watermarks) (fun t =>
    vget t.ser.spiNow n none = some ((vget s.ser.spiTx n []).headD 0) ∧ vget t.ser.spiTx n [] = (vget s.ser.spiTx n []).tail ∧
      t.ser.spiRx = s.ser.spiRx ∧ t.ser.uartTx = s.ser.uartTx ∧
    (vget s.ser.spiTx n [] = [] → t.get (SER.SPI_TX_UNDER n) = 1 ∧ t.get (SER.SPI_ERR_EVT n) = 1) ∧
    (vget s.ser.spiTx n [] ≠ [] → t.get (SER.SPI_TX_UNDER n) = s.get (SER.SPI_TX_UNDER n)))) ∧
  (∀ (s : State) (n : Fin 2) (rx : Word), s.up .core = true → s.fab.vio = true → s.carried (.sck n) = true → s.carried (.cs n) = true →
    s.on (SER.SPI_EN n) = true → s.on (SER.SPI_TARGET n) = true → vget s.ser.spiNow n none = none →
    s.runs (.spiFrameEnd n (some rx)) [.ser] (SER.SPI_TX_UNDER n :: SER.SPI_RX_OVF n :: SER.SPI_ERR_EVT n :: watermarks) (fun t =>
    vget t.ser.spiNow n none = none ∧ vget t.ser.spiTx n [] = (vget s.ser.spiTx n []).tail ∧ (vget s.ser.spiTx n [] = [] →
      t.get (SER.SPI_TX_UNDER n) = 1 ∧ t.get (SER.SPI_ERR_EVT n) = 1) ∧
    (vget s.ser.spiTx n [] ≠ [] → t.get (SER.SPI_TX_UNDER n) = s.get (SER.SPI_TX_UNDER n)) ∧
    ((vget s.ser.spiRx n []).length < 8 → vget t.ser.spiRx n [] = vget s.ser.spiRx n [] ++ [rx.toNat % 2 ^ (s.get (SER.SPI_FRAME n) + 1)]))) ∧
  (∀ (s : State) (n : Fin 2) (rx : Word) (x : Nat), s.up .core = true → s.fab.vio = true → s.carried (.sck n) = true → s.carried (.cs n) = true →
    s.on (SER.SPI_EN n) = true → s.on (SER.SPI_TARGET n) = true → vget s.ser.spiNow n none = some x →
    s.runs (.spiFrameEnd n (some rx)) [.ser] (SER.SPI_TX_UNDER n :: SER.SPI_RX_OVF n :: SER.SPI_ERR_EVT n :: watermarks) (fun t =>
    vget t.ser.spiNow n none = none ∧ t.ser.spiTx = s.ser.spiTx ∧ t.get (SER.SPI_TX_UNDER n) = s.get (SER.SPI_TX_UNDER n) ∧
    ((vget s.ser.spiRx n []).length < 8 → vget t.ser.spiRx n [] = vget s.ser.spiRx n [] ++ [rx.toNat % 2 ^ (s.get (SER.SPI_FRAME n) + 1)]))) ∧
  (∀ (s : State) (n : Fin 2) (rx : Word), (s.up .core = false ∨ s.on (SER.SPI_EN n) = false ∨ s.on (SER.SPI_TARGET n) = false ∧
    vget s.ser.spiNow n none = none) → s.runs (.spiFrameEnd n (some rx)) [] [] (fun t => t = s)) ∧
  (∀ (s : State) (n : Fin 2), (s.up .core = false ∨ s.on (SER.SPI_EN n) = false ∨ s.on (SER.SPI_TARGET n) = false ∨ s.fab.vio = false) →
    s.runs (.spiFrameEnd n none) [] [] (fun t => t = s)) ∧
  (∀ (s : State) (m : Master) (n : Fin 2), s.admits m 0x22 (0x1C + 0x20 * n) false → s.runs (.spiDataRead m n) [.answer, .ser] watermarks (fun t =>
    t.answer = BitVec.ofNat 32 ((vget s.ser.spiRx n []).head?.getD 0) ∧ vget t.ser.spiRx n [] = (vget s.ser.spiRx n []).tail ∧
      t.ser.spiTx = s.ser.spiTx ∧ t.ser.uartRx = s.ser.uartRx)) ∧
  (∀ (s : State) (m : Master) (n : Fin 2) (v : Word), s.admits m 0x22 (0x5C + 0x20 * n) true → (vget s.ser.uartTx n []).length < 8 →
    s.runs (.uartDataWrite m n v) [.ser] watermarks (fun t =>
    (vget t.ser.uartNow n none).toList ++ vget t.ser.uartTx n [] = (vget s.ser.uartNow n none).toList ++ vget s.ser.uartTx n [] ++ [v.toNat % 512] ∧
    (s.on (SER.UART_EN n) = true → s.on (SER.UART_TX_EN n) = true → vget s.ser.brk n false = false → s.on (SER.UART_SEND n) = false →
      (vget t.ser.uartNow n none).isSome = true) ∧ t.ser.uartRx = s.ser.uartRx)) ∧
  (∀ (s : State) (m : Master) (n : Fin 2) (v : Word), s.admits m 0x22 (0x5C + 0x20 * n) true → 8 ≤ (vget s.ser.uartTx n []).length →
    s.runs (.uartDataWrite m n v) [] (SER.UART_OVF_EVT n :: watermarks) (fun t => t.get (SER.UART_OVF_EVT n) = 1)) ∧
  (∀ (s : State) (n : Fin 2), s.up .core = true → (vget s.ser.uartNow n none).isSome = true → s.on (SER.UART_EN n) = true →
    s.on (SER.UART_TX_EN n) = true → vget s.ser.brk n false = false →
    s.runs (.uartCharSent n) [.ser] watermarks (fun t => (s.on (SER.UART_SEND n) = true → vget t.ser.brk n false = true ∧
      vget t.ser.uartNow n none = none ∧ t.ser.uartTx = s.ser.uartTx) ∧
    (s.on (SER.UART_SEND n) = false → vget t.ser.uartNow n none = (vget s.ser.uartTx n []).head? ∧
      vget t.ser.uartTx n [] = (vget s.ser.uartTx n []).tail ∧ t.ser.brk = s.ser.brk) ∧ t.ser.uartRx = s.ser.uartRx)) ∧
  (∀ (s : State) (n : Fin 2) (ch : BitVec 9) (pe fe : Bool), s.fab.vio = true → s.carried (.uartRx n) = true → s.up .core = true →
    s.on (SER.UART_EN n) = true → s.on (SER.UART_RX_EN n) = true → (vget s.ser.uartRx n []).length < 8 →
    s.runs (.uartCharReceived n ch pe fe) [.ser] (SER.UART_RX_ERR_EVT n :: watermarks) (fun t =>
    vget t.ser.uartRx n [] = vget s.ser.uartRx n [] ++ [ch.toNat % 2 ^ (5 + s.get (SER.UART_DATA_BITS n)) + ofBool pe * 512 + ofBool fe * 1024] ∧
    t.get (SER.UART_RX_ERR_EVT n) = (if pe || fe then 1 else s.get (SER.UART_RX_ERR_EVT n)) ∧ t.ser.uartTx = s.ser.uartTx)) ∧
  (∀ (s : State) (n : Fin 2) (ch : BitVec 9) (pe fe : Bool), s.fab.vio = true → s.carried (.uartRx n) = true → s.up .core = true →
    s.on (SER.UART_EN n) = true → s.on (SER.UART_RX_EN n) = true → 8 ≤ (vget s.ser.uartRx n []).length →
    s.runs (.uartCharReceived n ch pe fe) [.ser] [SER.UART_OVF_EVT n] (fun t => t.get (SER.UART_OVF_EVT n) = 1 ∧
      t.ser = { s.ser with uartCut := t.ser.uartCut })) ∧
  (∀ (s : State) (n : Fin 2) (ch : BitVec 9) (pe fe : Bool), s.fab.vio = false → vget s.ser.uartCut n false = true → s.carried (.uartRx n) = true →
    s.up .core = true → s.on (SER.UART_EN n) = true → s.on (SER.UART_RX_EN n) = true → (vget s.ser.uartRx n []).length < 8 →
    s.runs (.uartCharReceived n ch pe fe) [.ser] (SER.UART_RX_ERR_EVT n :: watermarks) (fun t => vget t.ser.uartCut n false = false ∧
    vget t.ser.uartRx n [] = vget s.ser.uartRx n [] ++ [ch.toNat % 2 ^ (5 + s.get (SER.UART_DATA_BITS n)) + ofBool pe * 512 + ofBool (!s.lineIn
      (.uartRx n)) * 1024] ∧ t.ser.uartTx = s.ser.uartTx)) ∧
  (∀ (s : State) (n : Fin 2) (ch : BitVec 9) (pe fe : Bool), (s.fab.vio = false ∧ vget s.ser.uartCut n false = false ∨
    s.carried (.uartRx n) = false ∨ s.up .core = false ∨ s.on (SER.UART_EN n) = false ∨ s.on (SER.UART_RX_EN n) = false) →
    s.runs (.uartCharReceived n ch pe fe) [] [] (fun t => t = s)) ∧
  (∀ (s : State) (m : Master) (n : Fin 2), s.admits m 0x22 (0x5C + 0x20 * n) false → s.runs (.uartDataRead m n) [.answer, .ser] watermarks (fun t =>
    t.answer = BitVec.ofNat 32 (((vget s.ser.uartRx n []).head?.map (· + 2 ^ 31)).getD 0) ∧ vget t.ser.uartRx n [] = (vget s.ser.uartRx n []).tail ∧
      t.ser.uartTx = s.ser.uartTx ∧ t.ser.spiRx = s.ser.spiRx)) ∧
  (∀ (s : State) (m : Master) (n : Fin 2) (v : Word), s.admits m 0x22 (0x60 + 0x20 * n) true → s.on (SER.UART_EN n) = true →
    s.on (SER.UART_TX_EN n) = true → vget s.ser.uartNow n none = none →
    s.runs (.send m n v) [.ser] (SER.UART_SEND n :: SER.UART_BRK_LEN n :: SER.UART_BRK_DELIM n :: watermarks) (fun t =>
    t.get (SER.UART_SEND n) = 1 ∧ vget t.ser.brk n false = true ∧ (10 ≤ bits v.toNat 0 5 → t.get (SER.UART_BRK_LEN n) = bits v.toNat 0 5) ∧
      t.get (SER.UART_BRK_DELIM n) = bits v.toNat 8 2)) ∧
  (∀ (s : State) (m : Master) (n : Fin 2) (v : Word), s.admits m 0x22 (0x60 + 0x20 * n) true →
    s.runs (.send m n v) [.ser] (SER.UART_SEND n :: SER.UART_BRK_LEN n :: SER.UART_BRK_DELIM n :: watermarks) (fun t =>
    t.get (SER.UART_SEND n) = 1 ∧ ((vget s.ser.uartNow n none).isSome = true → vget t.ser.uartNow n none = vget s.ser.uartNow n none ∧
      vget t.ser.brk n false = vget s.ser.brk n false))) ∧
  (∀ (s : State) (n : Fin 2), s.up .core = true → vget s.ser.brk n false = true →
    s.runs (.uartBreakSent n) [.ser] (SER.UART_SEND n :: SER.UART_TX_DONE_EVT n :: watermarks) (fun t =>
    t.get (SER.UART_SEND n) = 0 ∧ t.get (SER.UART_TX_DONE_EVT n) = 1 ∧ vget t.ser.brk n false = false ∧ (s.on (SER.UART_EN n) = true →
      s.on (SER.UART_TX_EN n) = true → vget s.ser.uartNow n none = none →
    vget t.ser.uartNow n none = (vget s.ser.uartTx n []).head? ∧ vget t.ser.uartTx n [] = (vget s.ser.uartTx n []).tail))) ∧
  (∀ (s : State) (n : Fin 2), (s.up .core = false ∨ vget s.ser.brk n false = false) → s.runs (.uartBreakSent n) [] [] (fun t => t = s)) ∧
  (∀ (s : State) (n : Fin 2), s.runs (.uartBreak n) [] [SER.UART_BREAK_EVT n] (fun t =>
    t.get (SER.UART_BREAK_EVT n) = if s.carried (.uartRx n) && s.up .core && s.on (SER.UART_EN n) && s.on (SER.UART_RX_EN n) && (s.fab.vio ||
      !s.lineIn (.uartRx n)) then 1 else s.get (SER.UART_BREAK_EVT n)))

/-- Chapter 9, the I2C unit (R385 to R388). BUS_HELD after a stuck line and after lost arbitration is the model's reading, notes/assumptions/20.md.
-/
def Obligations.I2cUnit : Prop :=
  (∀ (s : State) (m : Master) (addr : BitVec 8), s.admits m 0x22 0x94 true → s.on SER.I2C_EN = true → s.ser.i2cOp = none →
    (s.runs (.startWrite m addr) [.ser] (SER.I2C_BUSY :: watermarks) (fun t => t.ser = { s.ser with i2cOp := some (1, addr.toNat) } ∧
      t.get SER.I2C_BUSY = 1) ∧
     s.runs (.startRead m addr) [.ser] (SER.I2C_BUSY :: watermarks) (fun t => t.ser = { s.ser with i2cOp := some (2, addr.toNat) } ∧
       t.get SER.I2C_BUSY = 1) ∧
     s.runs (.i2cWrite m addr) [.ser] (SER.I2C_BUSY :: watermarks) (fun t => t.ser = { s.ser with i2cOp := some (3, addr.toNat) } ∧
       t.get SER.I2C_BUSY = 1) ∧
     s.runs (.readAck m) [.ser] (SER.I2C_BUSY :: watermarks) (fun t => t.ser = { s.ser with i2cOp := some (4, 0) } ∧ t.get SER.I2C_BUSY = 1) ∧
     s.runs (.readNack m) [.ser] (SER.I2C_BUSY :: watermarks) (fun t => t.ser = { s.ser with i2cOp := some (5, 0) } ∧ t.get SER.I2C_BUSY = 1) ∧
     s.runs (.i2cStop m) [.ser] (SER.I2C_BUSY :: watermarks) (fun t => t.ser = { s.ser with i2cOp := some (6, 0) } ∧ t.get SER.I2C_BUSY = 1))) ∧
  (∀ (s : State) (m : Master) (addr : BitVec 8), s.admits m 0x22 0x94 true → (s.on SER.I2C_EN = false ∨ s.ser.i2cOp.isSome = true) →
    (∀ c ∈ [Instr.startWrite m addr, .startRead m addr, .i2cWrite m addr, .readAck m, .readNack m, .i2cStop m], s.runs c [] watermarks (fun t =>
      t.ser = s.ser))) ∧
  (∀ (s : State) (nack : Bool) (d : Byte) (op arg : Nat), s.up .core = true → s.fab.vio = true → s.ser.i2cOp = some (op, arg) → 1 ≤ op → op ≤ 6 →
    s.runs (.i2cCmdDone nack d) [.ser] [SER.I2C_BUSY, SER.I2C_DONE_EVT, SER.I2C_NACK_EVT, SER.I2C_BUS_HELD, SER.I2C_DATA] (fun t => t.ser =
      { s.ser with i2cOp := none } ∧
    t.get SER.I2C_BUSY = 0 ∧ t.get SER.I2C_DONE_EVT = 1 ∧ t.get SER.I2C_NACK_EVT = (if op ≤ 3 ∧ nack = true then 1 else s.get SER.I2C_NACK_EVT) ∧
    t.get SER.I2C_BUS_HELD = (if op ≤ 2 then 1 else if op = 6 then 0 else s.get SER.I2C_BUS_HELD) ∧ t.get SER.I2C_DATA = (if op = 4 ∨
      op = 5 then d.toNat else s.get SER.I2C_DATA))) ∧
  (∀ (s : State) (nack : Bool) (d : Byte), (s.up .core = false ∨ s.ser.i2cOp = none) → s.runs (.i2cCmdDone nack d) [] [] (fun t => t = s)) ∧
  (∀ (s : State) (nack : Bool) (d : Byte) (op arg : Nat), s.up .core = true → s.fab.vio = false → s.lineIn .scl = true →
    s.ser.i2cOp = some (op, arg) → 1 ≤ op → op ≤ 6 →
    s.runs (.i2cCmdDone nack d) [.ser] [SER.I2C_BUSY, SER.I2C_DONE_EVT, SER.I2C_NACK_EVT, SER.I2C_BUS_HELD, SER.I2C_DATA] (fun t => t.get
      SER.I2C_DONE_EVT = 1 ∧
    t.get SER.I2C_NACK_EVT = (if op ≤ 3 ∧ s.lineIn .sda = true then 1 else s.get SER.I2C_NACK_EVT) ∧
    t.get SER.I2C_DATA = (if op = 4 ∨ op = 5 then (if s.lineIn .sda = true then 0xFF else 0) else s.get SER.I2C_DATA))) ∧
  (∀ (s : State) (a : BitVec 7) (r : Bool), s.up .core = true → s.i2cSees = true → s.on SER.I2C_TGT_EN = true → s.get SER.I2C_OWN_ADDR = a.toNat →
    s.runs (.tgtAddr a r) [.ser] [SER.I2C_TGT_ADDR_EVT, SER.I2C_TGT_RW] (fun t =>
    t.get SER.I2C_TGT_ADDR_EVT = 1 ∧ t.get SER.I2C_TGT_RW = ofBool r ∧ t.ser = { s.ser with tgtHeld := true, tgtOn := true, tgtStuck := false })) ∧
  (∀ (s : State) (a : BitVec 7) (r : Bool), (s.up .core = false ∨ s.i2cSees = false ∨ s.on SER.I2C_TGT_EN = false ∨
    s.get SER.I2C_OWN_ADDR ≠ a.toNat) → s.runs (.tgtAddr a r) [] [] (fun t => t = s)) ∧
  (∀ (s : State) (m : Master) (v : Word), s.admits m 0x22 0x9C true → s.runs (.i2cTargetDataAccess m .write v) [.ser] watermarks (fun t =>
    t.get SER.I2C_DATA = s.get SER.I2C_DATA ∧ t.ser = { s.ser with tgtHeld := false, tgtByte := v.toNat % 256 })) ∧
  (∀ (s : State) (m : Master) (v : Word), s.admits m 0x22 0x9C false → s.runs (.i2cTargetDataAccess m .read v) [.answer, .ser] watermarks (fun t =>
    t.answer = BitVec.ofNat 32 (s.get SER.I2C_DATA) ∧ t.ser = { s.ser with tgtHeld := false })) ∧
  (∀ (s : State) (m : Master) (v : Word), s.up .core = true → s.i2cSees = true → s.ser.tgtOn = true → s.ser.tgtHeld = false →
    s.ser.tgtStuck = false → s.runs (.i2cTargetDataAccess m .byte v) [.answer, .ser] [SER.I2C_DATA] (fun t =>
    t.ser = { s.ser with tgtHeld := true } ∧ (s.on SER.I2C_TGT_RW = true → t.answer = BitVec.ofNat 32 s.ser.tgtByte ∧
      t.get SER.I2C_DATA = s.get SER.I2C_DATA) ∧
    (s.on SER.I2C_TGT_RW = false → t.answer = 0 ∧ t.get SER.I2C_DATA = v.toNat % 256))) ∧
  (∀ (s : State) (m : Master) (v : Word), s.up .core = true → s.i2cSees = true → s.ser.tgtOn = true → s.ser.tgtHeld = false → s.ser.tgtStuck = true →
    s.runs (.i2cTargetDataAccess m .byte v) [.answer] [] (fun t =>
    t.answer = if s.on SER.I2C_TGT_RW = true then 0xFF else 1)) ∧
  (∀ s : State, s.up .core = true → s.i2cSees = true → s.on SER.I2C_TGT_EN = true →
    s.runs .tgtStop [.ser] [SER.I2C_TGT_STOP_EVT] (fun t => t.get SER.I2C_TGT_STOP_EVT = 1 ∧
    t.ser = { s.ser with tgtHeld := false, tgtOn := false, tgtStuck := false })) ∧
  (∀ s : State, (s.up .core = false ∨ s.i2cSees = false ∨ s.on SER.I2C_TGT_EN = false) → s.runs .tgtStop [] [] (fun t => t = s)) ∧
  (∀ (s : State) (sda : Bool), s.up .core = true → (s.on SER.I2C_EN = true ∨ s.on SER.I2C_TGT_EN = true) → s.i2cLow sda = true →
    s.runs (.stuck sda) [.ser] [SER.I2C_STUCK_EVT, SER.I2C_BUSY, SER.I2C_BUS_HELD] (fun t =>
    t.get SER.I2C_STUCK_EVT = 1 ∧ t.get SER.I2C_BUSY = 0 ∧ t.ser = { s.ser with i2cOp := none, tgtHeld := false, tgtStuck := s.ser.tgtOn } ∧
    t.get SER.I2C_BUS_HELD = (if s.ser.i2cOp.isSome = true ∧ sda = true then 0 else s.get SER.I2C_BUS_HELD))) ∧
  (∀ (s : State) (a : BitVec 7) (r : Bool), s.up .core = true → s.i2cSees = true → s.ser.i2cOp.isSome = true →
    s.runs (.arbLost a r) [.ser] [SER.I2C_ARB_LOST_EVT, SER.I2C_BUSY, SER.I2C_BUS_HELD, SER.I2C_TGT_ADDR_EVT, SER.I2C_TGT_RW] (fun t =>
    t.get SER.I2C_ARB_LOST_EVT = 1 ∧ t.get SER.I2C_BUSY = 0 ∧ t.get SER.I2C_BUS_HELD = 0 ∧ t.ser.i2cOp = none ∧
    (if s.on SER.I2C_TGT_EN = true ∧ s.get SER.I2C_OWN_ADDR = a.toNat then t.get SER.I2C_TGT_ADDR_EVT = 1 ∧ t.get SER.I2C_TGT_RW = ofBool r ∧
      t.ser.tgtHeld = true ∧ t.ser.tgtOn = true
     else t.ser = { s.ser with i2cOp := none } ∧ t.get SER.I2C_TGT_ADDR_EVT = s.get SER.I2C_TGT_ADDR_EVT))) ∧
  (∀ (s : State) (a : BitVec 7) (r : Bool), (s.up .core = false ∨ s.i2cSees = false ∨ s.ser.i2cOp = none) →
    s.runs (.arbLost a r) [] [] (fun t => t = s))

/-- Chapter 10, network time (R401, R409 to R414, R418 to R420). That a step takes no time is notes/assumptions/11.md. -/
def Obligations.TimeSteering : Prop :=
  (∀ (s : State) (m : Master), s.admits m 0x11 0x18 true → s.get NTU.SET_NS < nsPerSec →
    s.runs (.ntuSet m) [.ntu, .power, .link] [NTU.STEP_TAKEN] (fun t =>
    t.ntu.sec = s.get NTU.SET_SEC_HI * 2 ^ 32 + s.get NTU.SET_SEC_LO ∧ t.ntu.ns = s.get NTU.SET_NS ∧ t.ntu.frac = 0 ∧ t.get NTU.STEP_TAKEN = 1 ∧
      t.get NTU.SET = 0 ∧
    t.ntu.integ = s.ntu.integ ∧ t.ntu.adj = s.ntu.adj)) ∧
  (∀ (s : State) (m : Master), s.admits m 0x11 0x18 true → s.runs (.acceptNext m) [] [NTU.ACCEPT_NEXT] (fun t => t.get NTU.ACCEPT_NEXT = 1)) ∧
  (∀ (s : State) (m : Master) (v : Word), s.admits m 0x11 0x10 true →
    s.runs (.servoEnWrite m v) [.ntu] [NTU.SERVO_EN, NTU.SRC, NTU.KP, NTU.KI, NTU.ACCEPT_NEXT] (fun t =>
    t.get NTU.SERVO_EN = bits v.toNat 0 1 ∧ t.get NTU.SRC = bits v.toNat 1 2 ∧ t.get NTU.KP = bits v.toNat 8 4 ∧ t.get NTU.KI = bits v.toNat 12 4 ∧
    t.get NTU.ACCEPT_NEXT = (if v.getLsbD 0 = true then s.get NTU.ACCEPT_NEXT else 0) ∧
    t.ntu = (if s.on NTU.SERVO_EN = false ∧ v.getLsbD 0 = true then
      { s.ntu with lastMaster := none, integ := toSigned 32 (s.get NTU.ADJ), adj := toSigned 32 (s.get NTU.ADJ) }
      else { s.ntu with lastMaster := none }))) ∧
  (∀ (s : State) (src : Fin 4) (d : Int) (i : BitVec 16), (s.on NTU.SERVO_EN = false ∨ s.get NTU.SRC ≠ src ∨ s.power.mode = .lull ∧ src ≠ 3) →
    s.runs (.servoSample src d i) [] [] (fun t => t = s)) ∧
  (∀ (s : State) (src : Fin 4) (d : Int) (i : BitVec 16), s.on NTU.SERVO_EN = true → s.get NTU.SRC = src → s.power.mode ≠ .lull →
    s.on NTU.ACCEPT_NEXT = true →
    s.runs (.servoSample src d i) [.ntu, .power, .link] [NTU.ACCEPT_NEXT, NTU.STEP_TAKEN, NTU.TIME_COARSE, NTU.MASTER_CHANGED, NTU.MASTER_ID] (fun t
      =>
    (t.now : Int) = ((s.now : Int) + (d + toSigned 16 (s.get (NTU.DELAY src)))) % (timeRange : Nat) ∧ t.ntu.frac = s.ntu.frac ∧
      t.ntu.integ = s.ntu.integ ∧ t.ntu.adj = s.ntu.adj ∧
    t.get NTU.ACCEPT_NEXT = 0 ∧ t.get NTU.STEP_TAKEN = 1 ∧ t.get NTU.TIME_COARSE = 0)) ∧
  (∀ (s : State) (src : Fin 4) (d : Int) (i : BitVec 16) (o : Int), s.on NTU.SERVO_EN = true → s.get NTU.SRC = src → s.power.mode ≠ .lull →
    s.on NTU.ACCEPT_NEXT = false →
    o = d + toSigned 16 (s.get (NTU.DELAY src)) → s.get NTU.STEP_LIMIT * 1000 < o.natAbs → o.natAbs < 2 ^ 31 * nsPerSec →
    s.runs (.servoSample src d i) [.ntu] [NTU.STEP_REFUSED, NTU.REFUSED_SEC, NTU.REFUSED_NS, NTU.REFUSED_SRC, NTU.MASTER_CHANGED, NTU.MASTER_ID] (fun
      t =>
    t.get NTU.STEP_REFUSED = 1 ∧ toSigned 32 (t.get NTU.REFUSED_SEC) * nsPerSec + t.get NTU.REFUSED_NS = o ∧ t.get NTU.REFUSED_NS < nsPerSec ∧
      t.get NTU.REFUSED_SRC = src ∧
    t.ntu = { s.ntu with lastMaster := some i.toNat })) ∧
  (∀ (s : State) (src : Fin 4) (d : Int) (i : BitVec 16) (o : Int), s.on NTU.SERVO_EN = true → s.get NTU.SRC = src → s.power.mode ≠ .lull →
    s.on NTU.ACCEPT_NEXT = false →
    o = d + toSigned 16 (s.get (NTU.DELAY src)) → o.natAbs ≤ s.get NTU.STEP_LIMIT * 1000 → s.power.coarse = true →
    s.runs (.servoSample src d i) [.ntu] [NTU.MASTER_CHANGED, NTU.MASTER_ID] (fun t => t.ntu = { s.ntu with lastMaster := some i.toNat })) ∧
  (∀ (s : State) (src : Fin 4) (d : Int) (i : BitVec 16) (o : Int), s.on NTU.SERVO_EN = true → s.get NTU.SRC = src → s.power.mode ≠ .lull →
    s.on NTU.ACCEPT_NEXT = false →
    o = d + toSigned 16 (s.get (NTU.DELAY src)) → o.natAbs ≤ s.get NTU.STEP_LIMIT * 1000 → s.power.coarse = false →
    s.runs (.servoSample src d i) [.ntu] [NTU.SAMPLE, NTU.TIME_COARSE, NTU.MASTER_CHANGED, NTU.MASTER_ID] (fun t =>
    t.get NTU.SAMPLE = 1 ∧ t.get NTU.TIME_COARSE = 0 ∧ t.now = s.now ∧
    t.ntu.integ = max (-8589934) (min 8589934 (s.ntu.integ + Int.fdiv (o * 65536) (2 ^ s.get NTU.KI))) ∧
    t.ntu.adj = max (-8589934) (min 8589934 (Int.fdiv (o * 65536) (2 ^ s.get NTU.KP) + t.ntu.integ)))) ∧
  (∀ (s : State) (src : Fin 4) (d : Int) (i : BitVec 16), s.on NTU.SERVO_EN = true → s.get NTU.SRC = src → s.power.mode ≠ .lull →
    s.runs (.servoSample src d i) [.ntu, .power, .link, .page 0x11] [] (fun t =>
    t.ntu.lastMaster = some i.toNat ∧ (∀ n, s.ntu.lastMaster = some n → n ≠ i.toNat → t.get NTU.MASTER_CHANGED = 1 ∧ t.get NTU.MASTER_ID = i.toNat) ∧
    (s.ntu.lastMaster = none ∨ s.ntu.lastMaster = some i.toNat → t.get NTU.MASTER_CHANGED = s.get NTU.MASTER_CHANGED ∧
      t.get NTU.MASTER_ID = s.get NTU.MASTER_ID))) ∧
  (∀ (s : State) (x : Fin 2), (vget s.ntu.sync x none = none ∨ vget s.ntu.fu x none = none) → s.runs (.syncPaired x) [] [] (fun t => t = s)) ∧
  (∀ (s : State) (x : Fin 2) (y : SyncSample) (f : FollowUp), vget s.ntu.sync x none = some y → vget s.ntu.fu x none = some f →
    (s.on NTU.SERVO_EN = false ∨ s.get NTU.SRC ≠ x ∨ s.power.mode = .lull ∨ s.on NTU.REQ_SYNCED = true ∧ f.synced = false) →
    s.runs (.syncPaired x) [.ntu] [CAN.SYNC_PAIRED x] (fun t => t.get (CAN.SYNC_PAIRED x) = 1 ∧
      t.ntu = { s.ntu with sync := vput s.ntu.sync x none, fu := vput s.ntu.fu x none })) ∧
  (∀ (s : State) (x : Fin 2) (y : SyncSample) (f : FollowUp) (o : Int), vget s.ntu.sync x none = some y → vget s.ntu.fu x none = some f →
    s.on NTU.SERVO_EN = true → s.get NTU.SRC = x → s.power.mode ≠ .lull →
    (s.on NTU.REQ_SYNCED = false ∨ f.synced = true) → s.on NTU.ACCEPT_NEXT = false → o = f.time - y.sof + toSigned 16 (s.get (NTU.DELAY x)) →
      o.natAbs ≤ s.get NTU.STEP_LIMIT * 1000 → s.power.coarse = false →
    s.runs (.syncPaired x) [.ntu] [CAN.SYNC_PAIRED x, NTU.SAMPLE, NTU.TIME_COARSE, NTU.MASTER_CHANGED, NTU.MASTER_ID] (fun t => t.get
      (CAN.SYNC_PAIRED x) = 1 ∧ t.get NTU.SAMPLE = 1 ∧
    vget t.ntu.sync x none = none ∧ vget t.ntu.fu x none = none ∧ t.ntu.lastMaster = some y.master ∧
    t.ntu.integ = max (-8589934) (min 8589934 (s.ntu.integ + Int.fdiv (o * 65536) (2 ^ s.get NTU.KI))))) ∧
  (∀ (s : State) (x : Fin 2), s.runs (.syncUnpairedDiscard x) [.ntu] [] (fun t => t.ntu = { s.ntu with sync := t.ntu.sync } ∧
    t.ntu.sync = (match vget s.ntu.sync x none with
    | some y => if y.sof + s.get NTU.FU_WINDOW * 1000000 < s.now ∧ vget s.ntu.fu x none = none then vput s.ntu.sync x none else s.ntu.sync
    | none => s.ntu.sync))) ∧
  (∀ s : State, (s.fab.vio = false ∨ s.get (PORT.FUNC 1) ≠ 3 ∧ s.get (PORT.FUNC 9) ≠ 3) → s.runs .ppsEdge [] [] (fun t => t = s)) ∧
  (∀ (s : State) (o : Int), s.fab.vio = true → (s.get (PORT.FUNC 1) = 3 ∨ s.get (PORT.FUNC 9) = 3) → s.on NTU.SERVO_EN = true → s.get NTU.SRC = 3 →
    s.on NTU.ACCEPT_NEXT = false → s.power.coarse = false → s.ntu.ns * 2 ≠ nsPerSec →
    o = (if s.ntu.ns * 2 < nsPerSec then -(s.ntu.ns : Int) else (nsPerSec : Int) - s.ntu.ns) + toSigned 16 (s.get (NTU.DELAY 3)) →
      o.natAbs ≤ s.get NTU.STEP_LIMIT * 1000 →
    s.runs .ppsEdge [.ntu] [NTU.SAMPLE, NTU.TIME_COARSE, NTU.MASTER_CHANGED, NTU.MASTER_ID] (fun t => t.get NTU.SAMPLE = 1 ∧
      t.ntu.lastMaster = some 0 ∧
    t.ntu.integ = max (-8589934) (min 8589934 (s.ntu.integ + Int.fdiv (o * 65536) (2 ^ s.get NTU.KI))))) ∧
  (∀ s : State, s.runs .ntuPpsOut [.ntu] [] (fun t => t.ntu = { s.ntu with wrapped := false, ppsOut :=
    s.ntu.ppsOut || (s.ntu.wrapped && s.on NTU.PPS_EN && (s.get (PORT.FUNC 0) == 3 || s.get (PORT.FUNC 8) == 3)) })) ∧
  (∀ s : State, s.runs .ppsOutEnd [.ntu] [] (fun t => t.ntu = { s.ntu with ppsOut := false }))

/-- Chapter 10, reading the time and the channels (R400, R402 to R408, R427, R428). -/
def Obligations.TimeChannels : Prop :=
  (∀ (s : State) (m : Master), s.admits m 0x11 0x40 false →
    s.runs (.ntuTimeSecLoRead m) [.answer, .ntu] [] (fun t => t.answer = BitVec.ofNat 32 s.ntu.sec ∧
    t.ntu = { s.ntu with latch := vput s.ntu.latch (s.tidOf m) ⟨s.ntu.sec / 2 ^ 32, s.ntu.ns, s.ntu.frac / 2 ^ 16, (s.ntu.sec * 1000000000 + s.ntu.ns) % 2 ^ 32⟩ })) ∧
  (∀ (s : State) (m : Master) (c : Fin 16) (v : Word), s.admits m 0x11 (0x100 + 0x10 * c) true → s.on (NTU.CH_CAPTURED c) = false →
    bits v.toNat 0 2 = 1 → toSigned 32 ((s.tick32 + 2 ^ 32 - s.get (NTU.CH_A c)) % 2 ^ 32) < 0 →
    s.runs (.ntuArm m c v) [] (pageFieldsAt 0x11 (0x100 + 0x10 * c)) (fun t => t.get (NTU.CH_ARMED c) = 1 ∧ t.get (NTU.CH_ARM c) = 0 ∧
      t.get (NTU.CH_AHEAD c) = bits v.toNat 3 1 ∧ t.get (NTU.CH_WAKE c) = bits v.toNat 6 1 ∧
    t.get (NTU.CH_FIRED c) = (if v.getLsbD 24 = true then 0 else s.get (NTU.CH_FIRED c)))) ∧
  (∀ (s : State) (m : Master) (c : Fin 16) (v : Word), s.admits m 0x11 (0x100 + 0x10 * c) true → bits v.toNat 0 2 = 1 →
    0 ≤ toSigned 32 ((s.tick32 + 2 ^ 32 - s.get (NTU.CH_A c)) % 2 ^ 32) → s.on (NTU.CH_CAPTURED c) = false →
    s.runs (.ntuArm m c v) Part.eventFan [] (fun t => t.get (NTU.CH_FIRED c) = 1 ∧
      t.get (NTU.CH_ARMED c) = (if s.get (NTU.CH_C c) = 0 then 0 else 1) ∧
      t.get (NTU.CH_A c) = (s.get (NTU.CH_A c) + s.get (NTU.CH_C c) * (if s.get (NTU.CH_C c) = 0 then 1 else (s.tick32 + 2 ^ 32 - s.get (NTU.CH_A c))
      % 2 ^ 32 / s.get (NTU.CH_C c) + 1)) % 2 ^ 32)) ∧
  (∀ (s : State) (m : Master) (c : Fin 16) (v : Word), s.admits m 0x11 (0x100 + 0x10 * c) true → bits v.toNat 0 2 = 2 →
    s.on (NTU.CH_CAPTURED c) = false → bits v.toNat 3 1 = 0 →
    Table.find s.ntu.ahead c = none → (s.ntu.sec / 2 ^ 32 * 2 ^ 32 + s.get (NTU.CH_B c)) * nsPerSec + s.get (NTU.CH_A c) > s.now →
      s.get (NTU.CH_A c) < nsPerSec → s.ntu.ns < nsPerSec →
    s.runs (.ntuArm m c v) [.ntu] (pageFieldsAt 0x11 (0x100 + 0x10 * c)) (fun t => t.get (NTU.CH_ARMED c) = 1 ∧ t.targetHi c = s.ntu.sec / 2 ^ 32 ∧
      t.get (NTU.CH_FIRED c) = (if v.getLsbD 24 = true then 0 else s.get (NTU.CH_FIRED c)))) ∧
  (∀ (s : State) (m : Master) (c : Fin 16) (v : Word), s.admits m 0x11 (0x100 + 0x10 * c) true → bits v.toNat 0 2 = 2 → s.get (NTU.CH_MODE c) = 2 →
    s.on (NTU.CH_CAPTURED c) = false → bits v.toNat 3 1 = 0 → (Table.find s.ntu.ahead c).isSome = true →
    (s.targetHi c * 2 ^ 32 + s.get (NTU.CH_B c)) * nsPerSec + s.get (NTU.CH_A c) > s.now → s.get (NTU.CH_A c) < nsPerSec →
    s.runs (.ntuArm m c v) [] (pageFieldsAt 0x11 (0x100 + 0x10 * c)) (fun t => t.get (NTU.CH_ARMED c) = 1 ∧ t.targetHi c = s.targetHi c)) ∧
  (∀ (s : State) (m : Master) (c : Fin 16) (v : Word) (g : Nat), s.admits m 0x11 (0x100 + 0x10 * c) true → bits v.toNat 0 2 = 2 →
    s.on (NTU.CH_CAPTURED c) = false → bits v.toNat 3 1 = 1 → s.ntu.ns < nsPerSec →
    g = s.now + s.get (NTU.CH_B c) * nsPerSec + s.get (NTU.CH_A c) → g < timeRange → s.now < g →
    s.runs (.ntuArm m c v) [.ntu] (NTU.CH_A c :: NTU.CH_B c :: pageFieldsAt 0x11 (0x100 + 0x10 * c)) (fun t => t.get (NTU.CH_ARMED c) = 1 ∧
      t.get (NTU.CH_A c) = g % nsPerSec ∧ t.get (NTU.CH_B c) = g / nsPerSec % 2 ^ 32 ∧ t.targetHi c = g / nsPerSec / 2 ^ 32)) ∧
  (∀ (s : State) (m : Master) (c : Fin 16) (r : Fin 3) (v : Word), s.admits m 0x11 (0x104 + 0x10 * c + 4 * r) true →
    s.runs (.ntuCompareTargetWrite m c r v) [.ntu] [NTU.CH_A c, NTU.CH_B c, NTU.CH_C c] (fun t =>
    t.ntu = (if s.get (NTU.CH_MODE c) = 3 ∨ r = 2 then s.ntu else
      { s.ntu with ahead := Table.erase s.ntu.ahead c, unjudged := if s.on (NTU.CH_ARMED c) = true then Table.insert s.ntu.unjudged c () else s.ntu.unjudged }) ∧
    if s.get (NTU.CH_MODE c) = 3 then t.get (NTU.CH_A c) = s.get (NTU.CH_A c) ∧ t.get (NTU.CH_B c) = s.get (NTU.CH_B c) ∧
      t.get (NTU.CH_C c) = s.get (NTU.CH_C c)
    else t.get (NTU.CH_A c) = (if r = 0 then v.toNat else s.get (NTU.CH_A c)) ∧ t.get (NTU.CH_B c) = (if r = 1 then v.toNat else s.get (NTU.CH_B c)) ∧
      t.get (NTU.CH_C c) = (if r = 2 ∧ v.toNat < 2 ^ 31 then v.toNat else s.get (NTU.CH_C c)))) ∧
  (∀ (s : State) (c : Fin 16), s.get (NTU.CH_MODE c) = 1 → s.on (NTU.CH_ARMED c) = true →
    0 ≤ toSigned 32 ((s.tick32 + 2 ^ 32 - s.get (NTU.CH_A c)) % 2 ^ 32) → s.runs (.relativeCompareFire c) Part.eventFan [] (fun t =>
    t.get (NTU.CH_FIRED c) = 1 ∧ t.get (NTU.CH_ARMED c) = (if s.get (NTU.CH_C c) = 0 then 0 else 1) ∧
      t.get (NTU.CH_A c) = (s.get (NTU.CH_A c) + s.get (NTU.CH_C c) * (if s.get (NTU.CH_C c) = 0 then 1 else (s.tick32 + 2 ^ 32 - s.get (NTU.CH_A c))
      % 2 ^ 32 / s.get (NTU.CH_C c) + 1)) % 2 ^ 32 ∧
    (s.on (NTU.CH_LINE_EN c) = true → bit (t.get NTU.CMP_LINE) (s.get (NTU.CH_LINE c)) = true) ∧
    (∀ e : Fin 64, s.power.mode = .gale → s.power.phase = .steady → s.on (EVF.EN e) = true → s.get (EVF.SRC e) = 0x20 + c →
      s.endOk e (s.sourceOwner (0x20 + c)) = true → t.get (EVF.FIRED e) = 1))) ∧
  (∀ (s : State) (c : Fin 16), (s.get (NTU.CH_MODE c) ≠ 1 ∨ s.on (NTU.CH_ARMED c) = false ∨
    toSigned 32 ((s.tick32 + 2 ^ 32 - s.get (NTU.CH_A c)) % 2 ^ 32) < 0) → s.runs (.relativeCompareFire c) [] [] (fun t => t = s)) ∧
  (∀ (s : State) (c : Fin 16), s.get (NTU.CH_MODE c) = 2 → s.on (NTU.CH_ARMED c) = true → s.get (NTU.CH_A c) < nsPerSec →
    Table.find s.ntu.unjudged c = none → (s.targetHi c * 2 ^ 32 + s.get (NTU.CH_B c)) * nsPerSec + s.get (NTU.CH_A c) ≤ s.ntu.judged →
    s.runs (.absoluteCompareFire c) Part.eventFan [] (fun t => t.get (NTU.CH_FIRED c) = 1 ∧ t.get (NTU.CH_ARMED c) = 0 ∧
      t.get (NTU.CH_A c) = s.get (NTU.CH_A c) ∧ t.get (NTU.CH_B c) = s.get (NTU.CH_B c))) ∧
  (∀ (s : State) (c : Fin 16), (s.get (NTU.CH_MODE c) ≠ 2 ∨ s.on (NTU.CH_ARMED c) = false ∨ (Table.find s.ntu.unjudged c).isSome = true ∨
    s.get (NTU.CH_A c) < nsPerSec ∧ s.ntu.judged < (s.targetHi c * 2 ^ 32 + s.get (NTU.CH_B c)) * nsPerSec + s.get (NTU.CH_A c)) →
    s.runs (.absoluteCompareFire c) [] [] (fun t => t = s)) ∧
  (∀ (s : State) (c : Fin 16) (up : Bool), s.get (NTU.CH_MODE c) = 3 → s.ntu.ns < nsPerSec → (s.get (NTU.CH_CAPSEL c) = 0 ∧ up = true ∨
    s.get (NTU.CH_CAPSEL c) = 1 ∧ s.fab.vio = true ∧ s.carried (.cap c) = true ∧ up ≠ s.on (NTU.CH_PEDGE c) ∨ 2 ≤ s.get (NTU.CH_CAPSEL c) ∧
    s.get (NTU.CH_CAPSEL c) ≤ 4) →
    s.runs (.ntuCapture c up) [] [NTU.CH_A c, NTU.CH_B c, NTU.CH_C c, NTU.CH_CAPTURED c, NTU.CH_OVR c, NTU.CAPTURE] (fun t => t.get (NTU.CH_A c) =
      s.tick32 ∧ t.get (NTU.CH_B c) = s.ntu.sec % 2 ^ 32 ∧ t.get (NTU.CH_C c) = s.ntu.ns ∧
    t.get (NTU.CH_CAPTURED c) = 1 ∧ t.get (NTU.CH_OVR c) = (if s.on (NTU.CH_CAPTURED c) then 1 else s.get (NTU.CH_OVR c)) ∧
      t.get NTU.CAPTURE = (if s.on (NTU.CH_LINE_EN c) then 1 else s.get NTU.CAPTURE))) ∧
  (∀ (s : State) (c : Fin 16) (up : Bool), (s.get (NTU.CH_MODE c) ≠ 3 ∨ s.get (NTU.CH_CAPSEL c) = 1 ∧ (s.fab.vio = false ∨
    s.carried (.cap c) = false ∨ up = s.on (NTU.CH_PEDGE c)) ∨ s.get (NTU.CH_CAPSEL c) = 0 ∧ up = false) →
    s.runs (.ntuCapture c up) [] [] (fun t => t = s)) ∧
  (∀ (s : State) (m : Master) (c : Fin 16), s.admits m 0x11 (0x10C + 0x10 * c) false →
    s.runs (.ntuCaptureCRead m c) [.answer] [NTU.CH_CAPTURED c] (fun t => t.answer = BitVec.ofNat 32 (s.get (NTU.CH_C c)) ∧
    t.get (NTU.CH_CAPTURED c) = 0)) ∧
  (∀ (s : State) (m : Master) (c : Fin 16) (v : Word), s.admits m 0x11 (0x100 + 0x10 * c) true → bits v.toNat 0 2 ≠ s.get (NTU.CH_MODE c) →
    v.getLsbD 2 = false →
    s.runs (.ntuChModeWrite m c v) [] (NTU.CH_A c :: NTU.CH_B c :: NTU.CH_C c :: pageFieldsAt 0x11 (0x100 + 0x10 * c)) (fun t => t.get (NTU.CH_MODE
      c) = bits v.toNat 0 2 ∧ t.get (NTU.CH_ARMED c) = 0 ∧ t.get (NTU.CH_CAPTURED c) = 0 ∧
    t.get (NTU.CH_A c) = (if s.on (NTU.CH_CAPTURED c) then 0 else s.get (NTU.CH_A c)) ∧
      t.get (NTU.CH_B c) = (if s.on (NTU.CH_CAPTURED c) then 0 else s.get (NTU.CH_B c)) ∧
      t.get (NTU.CH_C c) = (if s.on (NTU.CH_CAPTURED c) then 0 else s.get (NTU.CH_C c))))

/-- Chapter 11, modes and error confinement (R433 to R436, R473 to R475). That whether a frame of another node is in progress while the controller
is IDLE is free is notes/assumptions/13.md; by how much an error moves a counter is taken from ISO 11898-1 (PRESUMED, notes/assumptions/32.md). -/
def Obligations.CanModes : Prop :=
  (∀ (s : State) (m : Master) (x : Fin 2) (v : Word) (tq dq : Nat), s.admits m (0x12 + x) 0x10 true → s.get (CAN.MODE x) = 0 →
    s.get (CAN.ACT x) = 0 → (s.canCtl x).wasOff = false → (s.canCtl x).send = none → 1 ≤ bits v.toNat 0 3 → bits v.toNat 0 3 ≤ 4 →
    tq = 3 + s.get (CAN.NTSEG1 x) + s.get (CAN.NTSEG2 x) → dq = 3 + s.get (CAN.DTSEG1 x) + s.get (CAN.DTSEG2 x) →
    s.runs (.canModeWrite m x v) [.can] [CAN.MODE x, CAN.FD_EN x, CAN.BOFF_MODE x, CAN.BOFF_DELAY x, CAN.ACT x, CAN.TEC x, CAN.REC x, CAN.PASSIVE x,
      CAN.ERR_PASSIVE x, CAN.CFG_REJECT x] (fun t =>
    t.get (CAN.FD_EN x) = bits v.toNat 4 1 ∧
    if (1 ≤ s.get (CAN.NTSEG1 x) ∧ s.get (CAN.NSJW x) ≤ s.get (CAN.NTSEG2 x) ∧ 8 ≤ tq ∧ tq ≤ 385 ∧ 80 ≤ (s.get (CAN.NBRP x) + 1) * tq ∧
      (s.get (CAN.NBRP x) + 1) * tq ≤ 8000) ∧
      (v.getLsbD 4 = true → s.get (CAN.DSJW x) ≤ s.get (CAN.DTSEG2 x) ∧ 5 ≤ dq ∧ dq ≤ 49 ∧
        (s.get (CAN.DBRP x) + 1) * dq ≤ (s.get (CAN.NBRP x) + 1) * tq ∧ (if x = 0 then 16 else 10) ≤ (s.get (CAN.DBRP x) + 1) * dq)
    then t.get (CAN.MODE x) = bits v.toNat 0 3 ∧ t.get (CAN.ACT x) = 1 ∧ t.get (CAN.TEC x) = 0 ∧ t.get (CAN.REC x) = 0 ∧ t.get (CAN.PASSIVE x) = 0 ∧
      t.get (CAN.CFG_REJECT x) = s.get (CAN.CFG_REJECT x)
    else t.get (CAN.MODE x) = 0 ∧ t.get (CAN.CFG_REJECT x) = 1 ∧ t.get (CAN.ACT x) = 0 ∧ t.get (CAN.TEC x) = s.get (CAN.TEC x))) ∧
  (∀ (s : State) (m : Master) (x : Fin 2) (v : Word), s.admits m (0x12 + x) 0x10 true → s.get (CAN.MODE x) ≠ 0 → (s.canCtl x).stopping = false →
    s.canMode x ≠ 2 → bits v.toNat 0 3 = 0 →
    (s.get (CAN.ACT x) = 3 ∨ s.get (CAN.ACT x) = 4) →
      s.runs (.canModeWrite m x v) [.can] [CAN.MODE x, CAN.FD_EN x, CAN.BOFF_MODE x, CAN.BOFF_DELAY x, CAN.ACT x] (fun t => t.get (CAN.MODE x) = 0 ∧
      t.get (CAN.FD_EN x) = s.get (CAN.FD_EN x) ∧
    (t.canCtl x).stopping = true ∧ (t.canCtl x).acting = s.get (CAN.MODE x) ∧ (t.canCtl x).send = (s.canCtl x).send ∧
      t.get (CAN.ACT x) = s.get (CAN.ACT x))) ∧
  (∀ (s : State) (m : Master) (x : Fin 2) (v : Word), s.admits m (0x12 + x) 0x10 true → s.get (CAN.MODE x) ≠ 0 → (s.canCtl x).stopping = false →
    s.canMode x ≠ 2 → bits v.toNat 0 3 = 0 →
    s.get (CAN.ACT x) ≠ 3 → s.get (CAN.ACT x) ≠ 4 → (s.canMode x = 3 ∨ x = 0 ∧ s.trxLow = true) →
      s.runs (.canModeWrite m x v) [.can] [CAN.MODE x, CAN.FD_EN x, CAN.BOFF_MODE x, CAN.BOFF_DELAY x, CAN.ACT x] (fun t => t.get (CAN.MODE x) = 0 ∧
    t.get (CAN.ACT x) = 0 ∧ (t.canCtl x).stopping = false ∧ (t.canCtl x).wasOff = s.on (CAN.BUS_OFF x))) ∧
  (∀ (s : State) (m : Master) (x : Fin 2) (v : Word), s.admits m (0x12 + x) 0x10 true → s.get (CAN.MODE x) ≠ 0 → (s.canCtl x).stopping = false →
    s.canMode x ≠ 2 → bits v.toNat 0 3 = 0 →
    s.get (CAN.ACT x) ≠ 3 → s.get (CAN.ACT x) ≠ 4 →
      s.runs (.canModeWrite m x v) [.can, .fresh] [CAN.MODE x, CAN.FD_EN x, CAN.BOFF_MODE x, CAN.BOFF_DELAY x, CAN.ACT x] (fun t => t.get (CAN.MODE
      x) = 0 ∧
    ((t.get (CAN.ACT x) = 0 ∧ (t.canCtl x).stopping = false ∧ (t.canCtl x).wasOff = s.on (CAN.BUS_OFF x)) ∨ ((t.canCtl x).stopping = true ∧
      (t.canCtl x).acting = s.get (CAN.MODE x) ∧ t.get (CAN.ACT x) = s.get (CAN.ACT x))))) ∧
  (∀ (s : State) (x : Fin 2), (s.canCtl x).stopping = true → (s.canCtl x).send = none →
    s.runs (.canStopTakesEffect x) [.can] [CAN.ACT x] (fun t => t.get (CAN.ACT x) = 0 ∧ (t.canCtl x).stopping = false ∧
    (t.canCtl x).wasOff = s.on (CAN.BUS_OFF x) ∧ (t.canCtl x).word1 = (s.canCtl x).word1)) ∧
  (∀ (s : State) (x : Fin 2), ((s.canCtl x).stopping = false ∨ (s.canCtl x).send.isSome = true) →
    s.runs (.canStopTakesEffect x) [] [] (fun t => t = s)) ∧
  (∀ (s : State) (x : Fin 2), s.runs (.canBusJoin x) [] [CAN.ACT x] (fun t => t.get (CAN.ACT x) = if s.up .can = true ∧
    s.get (CAN.ACT x) = 1 then 2 else s.get (CAN.ACT x))) ∧
  (∀ (s : State) (x : Fin 2) (e : CanErr), s.canOnBus x = true → s.canMode x ≠ 2 → e ≠ .transmitterFlag →
    s.runs (.errPassive x e) [] [CAN.REC x, CAN.PASSIVE x, CAN.ERR_PASSIVE x] (fun t =>
    t.get (CAN.REC x) = min 255 (s.get (CAN.REC x) + if e = .receiver then 1 else 8) ∧
      t.on (CAN.PASSIVE x) = (decide (128 ≤ t.get (CAN.TEC x)) || decide (128 ≤ t.get (CAN.REC x))) ∧
      t.get (CAN.ERR_PASSIVE x) = (if t.on (CAN.PASSIVE x) = s.on (CAN.PASSIVE x) then s.get (CAN.ERR_PASSIVE x) else 1))) ∧
  (∀ (s : State) (x : Fin 2), s.canOnBus x = true → s.canMode x ≠ 2 → s.get (CAN.TEC x) ≤ 247 →
    s.runs (.errPassive x .transmitterFlag) [] [CAN.TEC x, CAN.PASSIVE x, CAN.ERR_PASSIVE x] (fun t =>
    t.get (CAN.TEC x) = s.get (CAN.TEC x) + 8 ∧ t.on (CAN.PASSIVE x) = (decide (128 ≤ t.get (CAN.TEC x)) || decide (128 ≤ t.get (CAN.REC x))) ∧
      t.get (CAN.ERR_PASSIVE x) = (if t.on (CAN.PASSIVE x) = s.on (CAN.PASSIVE x) then s.get (CAN.ERR_PASSIVE x) else 1))) ∧
  (∀ (s : State) (x : Fin 2), s.canOnBus x = true → s.canMode x ≠ 2 → 247 < s.get (CAN.TEC x) → s.get (CAN.ACT x) ≠ 0 →
    s.on (CAN.BUS_OFF x) = false → (s.canCtl x).send = none →
    s.runs (.errPassive x .transmitterFlag) [] [CAN.TEC x, CAN.PASSIVE x, CAN.ERR_PASSIVE x, CAN.BUS_OFF x, CAN.BUS_OFF_EVT x, CAN.ACT x] (fun t =>
      t.get (CAN.TEC x) = 255 ∧ t.get (CAN.PASSIVE x) = 1 ∧ t.get (CAN.BUS_OFF x) = 1 ∧
    t.get (CAN.BUS_OFF_EVT x) = 1 ∧ t.get (CAN.ACT x) = if s.get (CAN.BOFF_MODE x) = 0 then 6 else 5)) ∧
  (∀ (s : State) (x : Fin 2) (e : CanErr), (s.canOnBus x = false ∨ s.canMode x = 2) → s.runs (.errPassive x e) [] [] (fun t => t = s)) ∧
  (∀ (s : State) (x : Fin 2), s.up .can = true → s.canMode x ≠ 2 → s.get (CAN.ACT x) ≠ 0 → s.on (CAN.BUS_OFF x) = false → (s.canCtl x).send = none →
    s.runs (.busOff x) [] [CAN.TEC x, CAN.PASSIVE x, CAN.ERR_PASSIVE x, CAN.BUS_OFF x, CAN.BUS_OFF_EVT x, CAN.ACT x] (fun t => t.get (CAN.TEC x) =
      255 ∧ t.get (CAN.PASSIVE x) = 1 ∧ t.get (CAN.ERR_PASSIVE x) = (if t.on (CAN.PASSIVE x) = s.on (CAN.PASSIVE x) then s.get (CAN.ERR_PASSIVE x)
      else 1) ∧ t.get (CAN.BUS_OFF x) = 1 ∧ t.get (CAN.BUS_OFF_EVT x) = 1 ∧
      t.get (CAN.ACT x) = if s.get (CAN.BOFF_MODE x) = 0 then 6 else 5)) ∧
  (∀ (s : State) (x : Fin 2) (f : CanSend), s.up .can = true → s.canMode x ≠ 2 → s.get (CAN.ACT x) ≠ 0 → s.on (CAN.BUS_OFF x) = false →
    (s.canCtl x).send = some f → f.late = false → f.orphan = false → bit (s.word1 x f.obj) 6 = false →
    s.runs (.busOff x) [.can] [CAN.TEC x, CAN.PASSIVE x, CAN.ERR_PASSIVE x, CAN.BUS_OFF x, CAN.BUS_OFF_EVT x, CAN.ACT x] (fun t => t.get (CAN.TEC x)
      = 255 ∧ t.get (CAN.BUS_OFF x) = 1 ∧ (t.canCtl x).send = none ∧ t.objState x f.obj = 1 ∧
    ∀ o : Fin 128, o.val ≠ f.obj → t.word1 x o = s.word1 x o)) ∧
  (∀ (s : State) (x : Fin 2), (s.up .can = false ∨ s.canMode x = 2 ∨ s.get (CAN.ACT x) = 0 ∨ s.on (CAN.BUS_OFF x) = true) →
    s.runs (.busOff x) [] [] (fun t => t = s)) ∧
  (∀ (s : State) (m : Master) (x : Fin 2), s.admits m (0x12 + x) 0x14 true →
    s.runs (.recover m x) [] [CAN.ACT x, CAN.RECOVER x] (fun t => t.get (CAN.RECOVER x) = 0 ∧
    t.get (CAN.ACT x) = if s.get (CAN.BOFF_MODE x) = 1 ∧ s.get (CAN.ACT x) = 5 then 6 else s.get (CAN.ACT x))) ∧
  (∀ (s : State) (x : Fin 2), s.runs (.boffDelayExpiry x) [] [CAN.ACT x] (fun t =>
    t.get (CAN.ACT x) = if s.up .can = true ∧ s.get (CAN.BOFF_MODE x) = 2 ∧ s.get (CAN.ACT x) = 5 then 6 else s.get (CAN.ACT x))) ∧
  (∀ (s : State) (x : Fin 2), s.up .can = true → s.get (CAN.ACT x) = 6 →
    s.runs (.busOffRecovered x) [] [CAN.TEC x, CAN.REC x, CAN.PASSIVE x, CAN.ERR_PASSIVE x, CAN.BUS_OFF x, CAN.BUS_OFF_RECOVERED x, CAN.ACT x] (fun t
    => t.get (CAN.ERR_PASSIVE x) = (if t.on (CAN.PASSIVE x) = s.on (CAN.PASSIVE x) then s.get (CAN.ERR_PASSIVE x) else 1) ∧ 
    t.get (CAN.TEC x) = 0 ∧ t.get (CAN.REC x) = 0 ∧ t.get (CAN.PASSIVE x) = 0 ∧ t.get (CAN.BUS_OFF x) = 0 ∧ t.get (CAN.BUS_OFF_RECOVERED x) = 1 ∧
      t.get (CAN.ACT x) = 2)) ∧
  (∀ (s : State) (x : Fin 2), (s.up .can = false ∨ s.get (CAN.ACT x) ≠ 6) → s.runs (.busOffRecovered x) [] [] (fun t => t = s))

/-- Chapter 11, reception and the read lock (R445 to R457), the SYNC and FOLLOW-UP matchers (R418, R476) and the sleep command (R479, R480). By how
much a received frame lowers REC is ISO 11898-1's (PRESUMED, notes/assumptions/32.md); which of two master times equally near is taken is free
(notes/assumptions/3.md). -/
def Obligations.CanReception : Prop :=
  (∀ (s : State) (x : Fin 2) (o : Fin 128) (f : CanFrame) (w0 : Nat), w0 = frameWord0 f → s.up .can = true → s.canQuiet x = true → s.canMode x = 1 →
    (x = 0 → s.trxLow = false) → (x = 1 → s.fab.vio = true) → (f.fdf = true → s.on (CAN.FD_EN x) = true) → (s.canCtl x).storing = none →
    s.on (CAN.SM_EN x 0) = false → s.on (CAN.SM_EN x 1) = false → s.on (CAN.SLP_EN x) = false → s.get (CAN.REC x) ≤ 127 →
    (∀ p : Fin 128, p < o → s.objType x p = 1 → s.eccBad (canWord x p 0) = false ∧ s.eccBad (canWord x p 2) = false ∧
      agree (s.objWord x p 2) (s.objWord x p 0) w0 = false) →
    s.objType x o = 1 → s.eccBad (canWord x o 0) = false → s.eccBad (canWord x o 2) = false → agree (s.objWord x o 2) (s.objWord x o 0) w0 = true →
      bits (s.word1 x o) 16 7 = 0 → bit (s.word1 x o) 29 = false →
    s.runs (.canFrameReceived x (.frame f)) (.mem :: Part.eventFan) [CAN.ACT x, CAN.LINE x, CAN.OVERRUN x, CAN.REC x, CAN.PASSIVE x, CAN.ERR_PASSIVE
      x, CANX.TXD_OFF] (fun t =>
    t.get (CAN.ACT x) = 2 ∧ t.objWord x o 0 = w0 ∧ t.objWord x o 3 = (s.now - f.age) % 2 ^ 32 ∧ bits (t.word1 x o) 0 4 = f.dlc.toNat ∧
      bit (t.word1 x o) 4 = (f.brs && f.fdf) ∧ bit (t.word1 x o) 5 = (f.esi && f.fdf) ∧ bit (t.word1 x o) 31 = true ∧
    bit (t.word1 x o) 28 = (bit (s.word1 x o) 31 || bit (s.word1 x o) 28) ∧ t.objType x o = 1 ∧ (bit (s.word1 x o) 31 = true →
      t.get (CAN.OVERRUN x) = 1) ∧ (∀ i : Fin 64, bits (t.objWord x o (4 + i / 4)) (8 * (i % 4)) 8 = nth (frameData f) i))) ∧
  (∀ (s : State) (x : Fin 2) (o : Fin 128) (f : CanFrame) (w0 : Nat), w0 = frameWord0 f → s.up .can = true → s.canQuiet x = true → s.canMode x = 1 →
    (x = 0 → s.trxLow = false) → (x = 1 → s.fab.vio = true) → (f.fdf = true → s.on (CAN.FD_EN x) = true) → (s.canCtl x).storing = none →
    s.on (CAN.SM_EN x 0) = false → s.on (CAN.SM_EN x 1) = false → s.on (CAN.SLP_EN x) = false → s.get (CAN.REC x) ≤ 127 → (∀ p : Fin 128, p < o →
      s.objType x p ≠ 1) →
    s.objType x o = 1 → s.eccBad (canWord x o 0) = false → s.eccBad (canWord x o 2) = false → agree (s.objWord x o 2) (s.objWord x o 0) w0 = true →
      bits (s.word1 x o) 16 7 = 0 → bit (s.word1 x o) 29 = true →
    s.runs (.canFrameReceived x (.frame f)) [.can] [CAN.ACT x, CAN.OVERRUN x, CAN.REC x, CAN.PASSIVE x, CAN.ERR_PASSIVE x, CANX.TXD_OFF] (fun t =>
      t.get (CAN.ACT x) = 2 ∧ bit (t.word1 x o) 30 = true ∧ ((Table.find (t.canCtl x).shadow o).map (·.word0)) = some w0 ∧
    t.word1 x o = (if bit (s.word1 x o) 30 then setBits (s.word1 x o) 28 1 1 else setBits (s.word1 x o) 30 1 1) ∧ (bit (s.word1 x o) 30 = true →
      t.get (CAN.OVERRUN x) = 1))) ∧
  (∀ (s : State) (x : Fin 2) (o n : Fin 128) (f : CanFrame) (w0 : Nat), w0 = frameWord0 f → s.up .can = true → s.canQuiet x = true →
    s.canMode x = 1 → (x = 0 → s.trxLow = false) → (x = 1 → s.fab.vio = true) → (f.fdf = true → s.on (CAN.FD_EN x) = true) →
    (s.canCtl x).storing = none →
    s.on (CAN.SM_EN x 0) = false → s.on (CAN.SM_EN x 1) = false → s.on (CAN.SLP_EN x) = false → s.get (CAN.REC x) ≤ 127 → (∀ p : Fin 128, p < o →
      s.objType x p ≠ 1) →
    s.objType x o = 1 → s.eccBad (canWord x o 0) = false → s.eccBad (canWord x o 2) = false → agree (s.objWord x o 2) (s.objWord x o 0) w0 = true →
      bits (s.word1 x o) 16 7 = n → n ≠ 0 → o.val + n < 128 →
    Table.find (s.canCtl x).next o = some 1 → s.objType x (o + 1) = 2 → s.objOwner x (o + 1) = s.objOwner x o → (bit (s.word1 x (o + 1)) 31 = true ∨
      bit (s.word1 x (o + 1)) 29 = true) →
    s.runs (.canFrameReceived x (.frame f)) [.can] [CAN.ACT x, CAN.OVERRUN x, CAN.REC x, CAN.PASSIVE x, CAN.ERR_PASSIVE x, CANX.TXD_OFF] (fun t =>
      t.get (CAN.ACT x) = 2 ∧ t.word1 x o = setBits (s.word1 x o) 28 1 1 ∧ t.word1 x (o + 1) = setBits (s.word1 x (o + 1)) 28 1 1 ∧
    t.get (CAN.OVERRUN x) = 1 ∧ Table.find (t.canCtl x).next o = some 1)) ∧
  (∀ (s : State) (x : Fin 2) (o : Fin 128) (f : CanFrame) (w0 : Nat), w0 = frameWord0 f → s.up .can = true → s.canQuiet x = true → s.canMode x = 1 →
    (x = 0 → s.trxLow = false) → (x = 1 → s.fab.vio = true) → (f.fdf = true → s.on (CAN.FD_EN x) = true) → (s.canCtl x).storing = none →
    s.on (CAN.SM_EN x 0) = false → s.on (CAN.SM_EN x 1) = false → s.on (CAN.SLP_EN x) = false → s.get (CAN.REC x) ≤ 127 → (∀ p : Fin 128, p < o →
      s.objType x p ≠ 1) →
    s.objType x o = 1 → s.eccBad (canWord x o 0) = false → s.eccBad (canWord x o 2) = false → agree (s.objWord x o 2) (s.objWord x o 0) w0 = true →
      bits (s.word1 x o) 16 7 = 0 → bit (s.word1 x o) 29 = false → bit (s.word1 x o) 31 = false →
    s.runs (.canFrameReceived x (.valid f)) [.can] [CAN.ACT x, CAN.REC x, CAN.PASSIVE x, CAN.ERR_PASSIVE x, CANX.TXD_OFF] (fun t => t.get (CAN.ACT x)
      = 2 ∧ (t.canCtl x).storing.map (fun e => (e.1, e.2.word0, e.2.time)) = some (o.val, w0, (s.now - f.age) % 2 ^ 32) ∧
      (t.canCtl x).word1 = (s.canCtl x).word1)) ∧
  (∀ (s : State) (x : Fin 2) (o : Fin 128) (f : CanStore), s.up .can = true → (s.canCtl x).storing = some (o.val, f) → f.word0 < 2 ^ 32 →
    f.time < 2 ^ 32 → f.data.length = 16 → s.runs (.canFrameReceived x .stored) (.mem :: Part.eventFan) [CAN.LINE x] (fun t =>
    (t.canCtl x).storing = none ∧ t.objWord x o 0 = f.word0 ∧ t.objWord x o 3 = f.time ∧ bits (t.word1 x o) 0 6 = bits f.low 0 6 ∧
      bit (t.word1 x o) 31 = true ∧ t.objType x o = s.objType x o ∧ ∀ p : Fin 128, p ≠ o → t.word1 x p = s.word1 x p)) ∧
  (∀ (s : State) (x : Fin 2), (s.up .can = false ∨ (s.canCtl x).storing = none) → s.runs (.canFrameReceived x .stored) [] [] (fun t => t = s)) ∧
  (∀ (s : State) (x : Fin 2), s.runs (.canFrameReceived x .start) [] [CAN.ACT x] (fun t => t.get (CAN.ACT x) = if s.up .can = true ∧
    s.canQuiet x = true ∧ s.canMode x ≠ 0 ∧ s.canMode x ≠ 3 ∧ (x = 0 → s.trxLow = false) ∧ (x = 1 →
    s.fab.vio = true) then 3 else s.get (CAN.ACT x))) ∧
  (∀ (s : State) (x : Fin 2) (f : CanFrame) (w0 : Nat), w0 = frameWord0 f → s.up .can = true → s.canQuiet x = true → s.canMode x = 1 → (x = 0 →
    s.trxLow = false) → (x = 1 → s.fab.vio = true) → (f.fdf = true → s.on (CAN.FD_EN x) = true) → (s.canCtl x).storing = none →
    s.get (CAN.REC x) ≤ 127 → (∀ p : Fin 128, s.objType x p ≠ 1) → s.on (CAN.SM_EN x 0) = true → s.on (CAN.SM_EN x 1) = false →
      s.on (CAN.SLP_EN x) = false → s.get (CAN.SM_ID x 0) = bits w0 0 29 → s.get (CAN.SM_XTD x 0) = bits w0 29 1 → 
    2 ≤ f.dlc.toNat → f.rtr = false → s.runs (.canFrameReceived x (.frame f)) [.ntu] [CAN.ACT x, CAN.REC x, CAN.PASSIVE x, CAN.ERR_PASSIVE x,
      CANX.TXD_OFF] (fun t => t.ntu = { s.ntu with sync := vput s.ntu.sync x (some ⟨s.now - f.age, nth (frameData f) 0, nth (frameData f) 1⟩), fu := vput s.ntu.fu x none })) ∧
  (∀ (s : State) (x : Fin 2) (f : CanFrame) (w0 : Nat) (y : SyncSample), w0 = frameWord0 f → s.up .can = true → s.canQuiet x = true →
    s.canMode x = 1 → (x = 0 → s.trxLow = false) → (x = 1 → s.fab.vio = true) → (f.fdf = true → s.on (CAN.FD_EN x) = true) →
    (s.canCtl x).storing = none →
    s.get (CAN.REC x) ≤ 127 → (∀ p : Fin 128, s.objType x p ≠ 1) → s.on (CAN.SM_EN x 0) = false → s.on (CAN.SM_EN x 1) = true →
      s.on (CAN.SLP_EN x) = false → s.get (CAN.SM_ID x 1) = bits w0 0 29 → s.get (CAN.SM_XTD x 1) = bits w0 29 1 → 
    f.fdf = true → f.rtr = false → f.dlc = 9 → vget s.ntu.sync x none = some y →
      s.runs (.canFrameReceived x (.frame f)) [.ntu, .fresh] [CAN.ACT x, CAN.REC x, CAN.PASSIVE x, CAN.ERR_PASSIVE x, CANX.TXD_OFF] (fun t =>
    t.ntu = (if nth (frameData f) 10 = y.seq ∧
      s.now ≤ y.sof + s.get NTU.FU_WINDOW * 1000000 then
      { s.ntu with fu := vput s.ntu.fu x (some ⟨(ofBytesBE ((frameData f).take 6) * nsPerSec + bits (ofBytesBE (((frameData f).drop 6).take 4)) 0 30 : Nat), bit (nth (frameData f) 11) 0⟩) } else s.ntu))) ∧
  (∀ (s : State) (x : Fin 2) (f : CanFrame) (w0 : Nat) (y : SyncSample), w0 = frameWord0 f → s.up .can = true → s.canQuiet x = true →
    s.canMode x = 1 → (x = 0 → s.trxLow = false) → (x = 1 → s.fab.vio = true) → (f.fdf = true → s.on (CAN.FD_EN x) = true) →
    (s.canCtl x).storing = none →
    s.get (CAN.REC x) ≤ 127 → (∀ p : Fin 128, s.objType x p ≠ 1) → s.on (CAN.SM_EN x 0) = false → s.on (CAN.SM_EN x 1) = true →
      s.on (CAN.SLP_EN x) = false → s.get (CAN.SM_ID x 1) = bits w0 0 29 → s.get (CAN.SM_XTD x 1) = bits w0 29 1 → 
    f.fdf = false → f.rtr = false → f.dlc = 8 → vget s.ntu.sync x none = some y → bits (ofBytesBE (((frameData f).drop 4).take 4)) 30 2 = y.seq % 4 →
      s.now ≤ y.sof + s.get NTU.FU_WINDOW * 1000000 →
      s.runs (.canFrameReceived x (.frame f)) [.ntu, .fresh] [CAN.ACT x, CAN.REC x, CAN.PASSIVE x, CAN.ERR_PASSIVE x, CANX.TXD_OFF] (fun t =>
    ∀ late : Bool, (∀ l : Bool, nearestTime y.sof (ofBytesBE ((frameData f).take 4)) (bits (ofBytesBE (((frameData f).drop 4).take 4)) 0 30) l =
      nearestTime y.sof (ofBytesBE ((frameData f).take 4)) (bits (ofBytesBE (((frameData f).drop 4).take 4)) 0 30) late) →
      t.ntu = { s.ntu with fu := vput s.ntu.fu x (some ⟨nearestTime y.sof (ofBytesBE ((frameData f).take 4)) (bits (ofBytesBE (((frameData f).drop 4).take 4)) 0 30) late, true⟩) })) ∧
  (∀ (s : State) (x : Fin 2) (f : CanFrame) (w0 : Nat), w0 = frameWord0 f → s.up .can = true → s.canQuiet x = true → s.canMode x = 1 → (x = 0 →
    s.trxLow = false) → (x = 1 → s.fab.vio = true) → (f.fdf = true → s.on (CAN.FD_EN x) = true) → (s.canCtl x).storing = none →
    s.get (CAN.REC x) ≤ 127 → (∀ p : Fin 128, s.objType x p ≠ 1) → s.on (CAN.SM_EN x 0) = false → s.on (CAN.SM_EN x 1) = false →
      s.on (CAN.SLP_EN x) = true → s.unheard 0x3C →
    agree (s.get (CAN.SLP_IDMASK x)) (bits w0 0 30) (s.get (CAN.SLP_ID x) + s.get (CAN.SLP_XTD x) * 2 ^ 29) = true →
    (∀ j : Fin 8, bits (s.get (CAN.SLP_DMASK x (j / 4))) (8 * (j % 4)) 8 = 0 ∨ j.val < (frameData f).length ∧
      agree (bits (s.get (CAN.SLP_DMASK x (j / 4))) (8 * (j % 4)) 8) (nth (frameData f) j) (bits (s.get (CAN.SLP_DATA x (j / 4))) (8 * (j % 4)) 8) =
      true) →
    s.runs (.canFrameReceived x (.frame f)) [] [CAN.ACT x, CAN.REC x, CAN.PASSIVE x, CAN.ERR_PASSIVE x, CANX.TXD_OFF, CAN.SLEEP_CMD x, CANX.FS_RUN,
      CANX.FS_TIMER_STARTED] (fun t => t.get (CAN.SLEEP_CMD x) = 1 ∧
    (x = 0 → s.trx.vbatPart = true → t.get CANX.FS_RUN = 1 ∧ (s.on CANX.FS_RUN = false → t.get CANX.FS_TIMER_STARTED = 1)) ∧ (x = 1 →
      t.get CANX.FS_RUN = s.get CANX.FS_RUN ∧ t.get CANX.FS_TIMER_STARTED = s.get CANX.FS_TIMER_STARTED))) ∧
  (∀ (s : State) (x : Fin 2) (f : CanFrame), (s.up .can = false ∨ s.canQuiet x = false ∨ s.canMode x = 0 ∨ s.canMode x = 3 ∨ f.fdf = true ∧
    s.on (CAN.FD_EN x) = false) → s.runs (.canFrameReceived x (.frame f)) [] [] (fun t => t = s) ∧
    s.runs (.canFrameReceived x (.valid f)) [] [] (fun t => t = s)) ∧
  (∀ (s : State) (m : Master) (x : Fin 2) (o : Fin 128), s.reaches m (canWord x o 0) false → (s.canCtl x).storing.map (·.1) ≠ some o.val →
    (s.objType x o = 1 ∨ s.objType x o = 2) → s.eccBad (canWord x o 0) = false →
    s.runs (.canObjWord0Read m x o Upset.none) [.answer, .can] [] (fun t =>
    t.answer = BitVec.ofNat 32 (s.objWord x o 0) ∧ t.word1 x o = setBits (s.word1 x o) 29 1 1 ∧ (bit (s.word1 x o) 29 = false →
      Table.find (t.canCtl x).lock o = some (s.objOwner x o)) ∧ (bit (s.word1 x o) 29 = true → t.can = s.can) ∧
    ∀ p : Fin 128, p ≠ o → t.word1 x p = s.word1 x p)) ∧
  (∀ (s : State) (m : Master) (x : Fin 2) (o : Fin 128), s.reaches m (canWord x o 0) false → (s.canCtl x).storing.map (·.1) ≠ some o.val →
    s.objType x o ≠ 1 → s.objType x o ≠ 2 → s.eccBad (canWord x o 0) = false → s.runs (.canObjWord0Read m x o Upset.none) [.answer] [] (fun t =>
    t.answer = BitVec.ofNat 32 (s.objWord x o 0))) ∧
  (∀ (s : State) (m : Master) (x : Fin 2) (o : Fin 128), s.reaches m (canWord x o 0) false → (s.canCtl x).storing.map (·.1) ≠ some o.val →
    (s.objType x o = 1 ∨ s.objType x o = 2) → bit (s.word1 x o) 29 = false → s.eccBad (canWord x o 0) = true →
    s.runs (.canObjWord0Read m x o Upset.none) [.answer, .can, .post] [FAULT.OVERFLOW 0, FAULT.OVERFLOW 1, FAULT.OVERFLOW 2, FAULT.OVERFLOW 3] (fun t
      =>
    t.answer = 0 ∧ bit (t.word1 x o) 29 = true ∧
      t.post = (s.failRecord ⟨causeEcc, memCode (canWord x o 0), canWord x o 0, 0, s.tidOf m⟩ (masterCode m) none).post)) ∧
  (∀ (s : State) (m : Master) (x : Fin 2) (o : Fin 128), s.reaches m (canWord x o 19) false → (s.canCtl x).storing.map (·.1) ≠ some o.val →
    bit (s.word1 x o) 29 = true → bit (s.word1 x o) 30 = false → s.eccBad (canWord x o 19) = false →
    s.runs (.canObjWord19Read m x o Upset.none) [.answer, .can] [] (fun t =>
    t.answer = BitVec.ofNat 32 (s.objWord x o 19) ∧ t.word1 x o = bits (s.word1 x o) 0 28 ∧ Table.find (t.canCtl x).lock o = none ∧
      ∀ p : Fin 128, p ≠ o → t.word1 x p = s.word1 x p)) ∧
  (∀ (s : State) (m : Master) (x : Fin 2) (o : Fin 128) (f : CanStore), s.reaches m (canWord x o 19) false →
    (s.canCtl x).storing.map (·.1) ≠ some o.val → bit (s.word1 x o) 29 = true → bit (s.word1 x o) 30 = true → s.eccBad (canWord x o 19) = false →
    Table.find (s.canCtl x).shadow o = some f →
    f.word0 < 2 ^ 32 → f.data.length = 16 → s.objType x o = 1 →
      s.runs (.canObjWord19Read m x o Upset.none) (.answer :: .mem :: Part.eventFan) [CAN.LINE x] (fun t => t.answer = BitVec.ofNat 32 (s.objWord x o
      19) ∧ t.objWord x o 0 = f.word0 ∧
    bit (t.word1 x o) 31 = true ∧ bit (t.word1 x o) 30 = false ∧ bit (t.word1 x o) 29 = false ∧
      bit (t.word1 x o) 28 = (Table.find (s.canCtl x).replaced o).isSome ∧ Table.find (t.canCtl x).shadow o = none)) ∧
  (∀ (s : State) (m : Master) (x : Fin 2) (o : Fin 128), s.reaches m (canWord x o 19) false → (s.canCtl x).storing.map (·.1) ≠ some o.val →
    bit (s.word1 x o) 29 = false → s.eccBad (canWord x o 19) = false →
    s.runs (.canObjWord19Read m x o Upset.none) [.answer] [] (fun t => t.answer = BitVec.ofNat 32 (s.objWord x o 19))) ∧
  (∀ (s : State) (m : Master) (x : Fin 2) (v : Word), s.admits m (0x12 + x) 0x58 true → s.objOwner x (v.toNat % 128) = s.tidOf m →
    bit (s.word1 x (v.toNat % 128)) 30 = false →
    s.runs (.canLockAbandon m x v) [.can] [] (fun t => (bit (s.word1 x (v.toNat % 128)) 29 = false → t.can = s.can) ∧
      (bit (s.word1 x (v.toNat % 128)) 29 = true → t.word1 x (v.toNat % 128) = bits (s.word1 x (v.toNat % 128)) 0 28 ∧
    Table.find (t.canCtl x).lock (v.toNat % 128) = none))) ∧
  (∀ (s : State) (m : Master) (x : Fin 2) (v : Word), s.admits m (0x12 + x) 0x58 true → s.objOwner x (v.toNat % 128) ≠ s.tidOf m →
    s.runs (.canLockAbandon m x v) [.post]
    [FAULT.OVERFLOW 0, FAULT.OVERFLOW 1, FAULT.OVERFLOW 2, FAULT.OVERFLOW 3] (fun t => t.post = (s.failRecord ⟨causeDenied, 1, pageAddr (0x12 + x)
      0x58, 0, s.tidOf m⟩ (masterCode m) none).post)) ∧
  (∀ (s : State) (x : Fin 2) (o : Fin 128) (n : Nat), s.up .can = true → Table.find (s.canCtl x).lock o = some n →
    Table.find (s.canCtl x).reported o = none → s.runs (.lockDeadline x o) [.post, .can]
    [CAN.LOCK_DEADLINE x, FAULT.OVERFLOW 0, FAULT.OVERFLOW 1, FAULT.OVERFLOW 2, FAULT.OVERFLOW 3] (fun t => t.get (CAN.LOCK_DEADLINE x) = 1 ∧
      t.post = (s.missRecord n 5 (canWord x o 0) (0x30 + x)).post ∧
    (Table.find (t.canCtl x).reported o).isSome = true ∧ Table.find (t.canCtl x).lock o = some n ∧ (t.canCtl x).word1 = (s.canCtl x).word1)) ∧
  (∀ (s : State) (x : Fin 2) (o : Fin 128), (s.up .can = false ∨ Table.find (s.canCtl x).lock o = none ∨
    (Table.find (s.canCtl x).reported o).isSome = true) → s.runs (.lockDeadline x o) [] [] (fun t => t = s))

/-- Chapter 11, word 1 (R441, R442, R459). That a write to a busy transmit object is dropped whole, as R459 says, is notes/assumptions/13.md. -/
def Obligations.CanControlWord : Prop :=
  (∀ (s : State) (m : Master) (x : Fin 2) (o : Fin 128) (v : Word), s.reaches m (canWord x o 1) true → (s.objType x o = 3 ∨ s.objType x o = 4) →
    (s.objState x o = 1 ∨ s.objState x o = 2) → s.runs (.canObjWord1Write m x o v) [.post]
    [FAULT.OVERFLOW 0, FAULT.OVERFLOW 1, FAULT.OVERFLOW 2, FAULT.OVERFLOW 3] (fun t => t.post = (s.failRecord ⟨causeLocked, 1, canWord x o 1, 0,
      s.tidOf m⟩ (masterCode m) none).post)) ∧
  (∀ (s : State) (m : Master) (x : Fin 2) (o : Fin 128) (v : Word), s.reaches m (canWord x o 1) true → ¬((s.objType x o = 3 ∨ s.objType x o = 4) ∧
    (s.objState x o = 1 ∨ s.objState x o = 2)) → (bits v.toNat 8 3 = s.objType x o ∨ 5 ≤ bits v.toNat 8 3) →
    s.runs (.canObjWord1Write m x o v) [.can] [] (fun t => bits (t.word1 x o) 0 4 = bits v.toNat 0 4 ∧ bits (t.word1 x o) 4 1 = bits v.toNat 4 1 ∧
      bits (t.word1 x o) 6 1 = bits v.toNat 6 1 ∧ t.objType x o = s.objType x o ∧
    bits (t.word1 x o) 16 7 = (if o.val + bits v.toNat 16 7 ≤ 127 then bits v.toNat 16 7 else bits (s.word1 x o) 16 7) ∧
      bits (t.word1 x o) 24 8 = bits (s.word1 x o) 24 8 ∧ bits (t.word1 x o) 5 1 = bits (s.word1 x o) 5 1 ∧
    (x = 0 ∨ bits v.toNat 12 3 < 4 → s.srcOwner ((if x = 0 then 56 else 72) + bits v.toNat 12 3) = s.objOwner x o →
      bits (t.word1 x o) 12 3 = bits v.toNat 12 3 ∧ bits (t.word1 x o) 11 1 = bits v.toNat 11 1) ∧
    (bits v.toNat 12 3 ≠ bits (s.word1 x o) 12 3 → x = 0 ∨ bits v.toNat 12 3 < 4 →
      s.srcOwner ((if x = 0 then 56 else 72) + bits v.toNat 12 3) ≠ s.objOwner x o → bits (t.word1 x o) 11 4 = bits (s.word1 x o) 11 4) ∧
    ∀ p : Fin 128, p ≠ o → t.word1 x p = s.word1 x p)) ∧
  (∀ (s : State) (m : Master) (x : Fin 2) (o : Fin 128) (v : Word), s.reaches m (canWord x o 1) true → ¬((s.objType x o = 3 ∨ s.objType x o = 4) ∧
    (s.objState x o = 1 ∨ s.objState x o = 2)) → bits v.toNat 8 3 ≠ s.objType x o → bits v.toNat 8 3 < 5 → bit (s.word1 x o) 29 = false →
    s.runs (.canObjWord1Write m x o v) [.can] [] (fun t => bits (t.word1 x o) 0 4 = bits v.toNat 0 4 ∧ bits (t.word1 x o) 4 1 = bits v.toNat 4 1 ∧
      bits (t.word1 x o) 6 1 = bits v.toNat 6 1 ∧ t.objType x o = bits v.toNat 8 3 ∧ bits (t.word1 x o) 24 8 = 0 ∧
    Table.find (t.canCtl x).shadow o = none ∧ ∀ p : Fin 128, p ≠ o → t.word1 x p = s.word1 x p)) ∧
  (∀ (s : State) (m : Master) (x : Fin 2) (o : Fin 128) (v : Word), s.reaches m (canWord x o 1) true → (s.objType x o = 1 ∨ s.objType x o = 2) →
    bits v.toNat 8 3 ≠ s.objType x o → bits v.toNat 8 3 < 5 → bit (s.word1 x o) 29 = true →
    s.runs (.canObjWord1Write m x o v) [.can, .post] [FAULT.OVERFLOW 0, FAULT.OVERFLOW 1, FAULT.OVERFLOW 2, FAULT.OVERFLOW 3] (fun t => bits (t.word1
      x o) 0 4 = bits v.toNat 0 4 ∧ t.objType x o = s.objType x o ∧
    bits (t.word1 x o) 24 8 = bits (s.word1 x o) 24 8 ∧
      t.post = (s.failRecord ⟨causeLocked, 1, canWord x o 1, 0, s.tidOf m⟩ (masterCode m) none).post))

/-- Chapter 11, transmission (R458 to R463, R469 to R471, R477). The outcome of a frame already out when the controller comes to LISTEN, and ACT = 3
after a lost arbitration or a withdrawal, are read from the spec by inference (DEDUCED, notes/assumptions/13.md). -/
def Obligations.CanTransmission : Prop :=
  (∀ (s : State) (m : Master) (x : Fin 2) (v : Word) (o : Nat), s.admits m (0x12 + x) 0x50 true → o = v.toNat % 128 → s.objOwner x o = s.tidOf m →
    s.runs (.canTxreq m x v) [.can] [] (fun t =>
    t.word1 x o = (if s.objType x o = 3 ∧ s.objState x o ≠ 1 ∧ s.objState x o ≠ 2 then setBits (s.word1 x o) 24 4 1 else s.word1 x o) ∧
      ∀ p : Fin 128, p.val ≠ o → t.word1 x p = s.word1 x p)) ∧
  (∀ (s : State) (m : Master) (x : Fin 2) (v : Word), s.admits m (0x12 + x) 0x50 true → s.objOwner x (v.toNat % 128) ≠ s.tidOf m →
    s.runs (.canTxreq m x v) [.post]
    [FAULT.OVERFLOW 0, FAULT.OVERFLOW 1, FAULT.OVERFLOW 2, FAULT.OVERFLOW 3] (fun t => t.post = (s.failRecord ⟨causeDenied, 1, pageAddr (0x12 + x)
      0x50, 0, s.tidOf m⟩ (masterCode m) none).post)) ∧
  (∀ (s : State) (x : Fin 2) (o : Fin 128), s.up .can = true → s.canQuiet x = true → s.get (CAN.MODE x) ≠ 0 → s.canMode x ≠ 2 →
    (∀ p : Fin 128, s.startPassed x p = false) → s.objState x o = 1 →
    (∀ p : Fin 128, s.objState x p = 1 → arbKey (s.objWord x o 0) < arbKey (s.objWord x p 0) ∨ arbKey (s.objWord x o 0) = arbKey (s.objWord x p 0) ∧
      o ≤ p) →
    (∀ w : Fin 20, s.eccBad (canWord x o w) = false) → (bit (s.objWord x o 0) 31 = true → s.on (CAN.FD_EN x) = true ∧
      bit (s.objWord x o 0) 30 = false) → (bit (s.objWord x o 0) 31 = false → bits (s.word1 x o) 0 4 ≤ 8) →
    s.runs (.canTxPick x Upset.none) [.can] [CAN.ACT x, CANX.TXD_OFF] (fun t => t.objState x o = 2 ∧ t.get (CAN.ACT x) = 4 ∧ (∀ p : Fin 128, p ≠ o →
      t.word1 x p = s.word1 x p) ∧
    ∃ f : CanSend, (t.canCtl x).send = some f ∧ f.obj = o ∧ f.word0 = s.objWord x o 0 ∧ bits f.low 0 4 = bits (s.word1 x o) 0 4 ∧ f.late = false ∧
      f.data.length = (if bit (s.objWord x o 0) 30 then 0 else dlcLength (bit (s.objWord x o 0) 31) (bits (s.word1 x o) 0 4)) ∧
        ∀ i, i < f.data.length → nth f.data i = bits (s.objWord x o (4 + i / 4)) (8 * (i % 4)) 8)) ∧
  (∀ (s : State) (x : Fin 2) (o : Fin 128), s.up .can = true → s.canQuiet x = true → s.get (CAN.MODE x) ≠ 0 → s.canMode x ≠ 2 →
    (∀ p : Fin 128, s.startPassed x p = false) → s.objState x o = 1 → s.objType x o = 3 →
    (∀ p : Fin 128, p ≠ o → s.objState x p ≠ 1) → (∀ w : Fin 20, s.eccBad (canWord x o w) = false) → (bit (s.objWord x o 0) 31 = true ∧
      (s.on (CAN.FD_EN x) = false ∨ bit (s.objWord x o 0) 30 = true) ∨ bit (s.objWord x o 0) 31 = false ∧ 8 < bits (s.word1 x o) 0 4) →
    s.runs (.canTxPick x Upset.none) Part.eventFan [CAN.LINE x, CAN.ACT x, CANX.TXD_OFF] (fun t => t.objState x o = 9 ∧ t.get (CAN.ACT x) = 2 ∧
      (t.canCtl x).send = (s.canCtl x).send)) ∧
  (∀ (s : State) (x : Fin 2) (u : Upset), (s.up .can = false ∨ (∀ p : Fin 128, s.startPassed x p = false) ∧ s.get (CAN.ACT x) ≠ 3 ∧
    (s.get (CAN.ACT x) ≠ 2 ∨ s.get (CAN.MODE x) = 0 ∨ s.canMode x = 2 ∨ ∀ p : Fin 128, s.objState x p ≠ 1)) →
    s.runs (.canTxPick x u) [] [] (fun t => t = s)) ∧
  (∀ (s : State) (x : Fin 2) (u : Upset), s.up .can = true → s.get (CAN.ACT x) = 3 → (∀ p : Fin 128, s.objState x p ≠ 1) →
    s.runs (.canTxPick x u) [] [CAN.ACT x] (fun t => t.get (CAN.ACT x) = 2)) ∧
  (∀ (s : State) (x : Fin 2) (f : CanSend), (s.canCtl x).send = some f → f.late = false → f.orphan = false → s.objType x f.obj = 3 →
    s.runs (.canArbitrationLost x) Part.eventFan [CAN.LINE x, CAN.ACT x] (fun t =>
    (t.canCtl x).send = none ∧ t.get (CAN.ACT x) = 3 ∧ (bit (s.word1 x f.obj) 6 = true → t.objState x f.obj = 8) ∧
    (bit (s.word1 x f.obj) 6 = false → t.objState x f.obj = 1 ∧ t.post = s.post ∧ t.q = s.q ∧ t.get (CAN.LINE x) = s.get (CAN.LINE x) ∧
      ∀ p : Fin 128, p.val ≠ f.obj → t.word1 x p = s.word1 x p))) ∧
  (∀ (s : State) (x : Fin 2) (b : Bool) (age : Nat), (s.canCtl x).send = none → s.runs (.canArbitrationLost x) [] [] (fun t => t = s) ∧
    s.runs (.canTxError x b) [] [] (fun t => t = s) ∧ s.runs (.canSent x age) [] [] (fun t => t = s)) ∧
  (∀ (s : State) (x : Fin 2) (f : CanSend) (b : Bool), (s.canCtl x).send = some f → s.canMode x ≠ 2 → f.orphan = false → s.objType x f.obj = 3 →
    s.get (CAN.TEC x) + 8 ≤ 255 → s.runs (.canTxError x b) Part.eventFan [CAN.LINE x, CAN.ACT x, CAN.TEC x, CAN.PASSIVE x, CAN.ERR_PASSIVE x] (fun t
    =>
    (t.canCtl x).send = none ∧ t.get (CAN.ACT x) = 2 ∧ t.get (CAN.TEC x) = s.get (CAN.TEC x) + (if b then 8 else 0) ∧
    (f.late = true → t.objState x f.obj = 6) ∧ (f.late = false → bit (s.word1 x f.obj) 6 = true → t.objState x f.obj = 8) ∧ (f.late = false →
      bit (s.word1 x f.obj) 6 = false → t.objState x f.obj = 1))) ∧
  (∀ (s : State) (x : Fin 2) (f : CanSend), (s.canCtl x).send = some f → f.late = false → f.orphan = false → bit (s.word1 x f.obj) 6 = false →
    s.canMode x ≠ 2 → 255 < s.get (CAN.TEC x) + 8 → s.get (CAN.ACT x) ≠ 0 → s.on (CAN.BUS_OFF x) = false →
    s.runs (.canTxError x true) [.can] [CAN.TEC x, CAN.PASSIVE x, CAN.ERR_PASSIVE x, CAN.BUS_OFF x, CAN.BUS_OFF_EVT x, CAN.ACT x] (fun t => t.get
      (CAN.TEC x) = 255 ∧ t.get (CAN.BUS_OFF x) = 1 ∧ t.get (CAN.BUS_OFF_EVT x) = 1 ∧ t.objState x f.obj = 1)) ∧
  (∀ (s : State) (x : Fin 2) (f : CanSend) (age : Nat) (b : Bool), (s.canCtl x).send = some f → f.orphan = false → s.objType x f.obj = 3 →
    s.canMode x = 2 →
    (∀ c ∈ [Instr.canTxError x b, .canSent x age], s.runs c Part.eventFan [CAN.LINE x, CAN.ACT x] (fun t =>
      (t.canCtl x).send = none ∧ t.get (CAN.ACT x) = 2 ∧ t.get (CAN.TEC x) = s.get (CAN.TEC x) ∧
        t.objState x f.obj = (if f.late = true then 6 else 1)))) ∧
  (∀ (s : State) (x : Fin 2) (f : CanSend) (age : Nat), (s.canCtl x).send = some f → f.orphan = false → s.objType x f.obj = 3 → s.canMode x = 1 →
    s.runs (.canSent x age) Part.eventFan [CAN.LINE x, CAN.ACT x, CAN.TEC x, CAN.PASSIVE x, CAN.ERR_PASSIVE x] (fun t =>
    (t.canCtl x).send = none ∧ t.get (CAN.ACT x) = 2 ∧ t.get (CAN.TEC x) = s.get (CAN.TEC x) - 1 ∧ t.objState x f.obj = (if f.late then 4 else 3) ∧
    ∀ c : Fin 16, bit (s.word1 x f.obj) 11 = false → s.get (NTU.CH_MODE c) = 3 → s.get (NTU.CH_CAPSEL c) = 2 + x →
      s.get (CAN.SM_ID x 0) = bits f.word0 0 29 → s.get (CAN.SM_XTD x 0) = bits f.word0 29 1 →
      t.get (NTU.CH_A c) = (s.now - age) % 2 ^ 32 ∧ t.get (NTU.CH_CAPTURED c) = 1 ∧ (s.on (NTU.CH_CAPTURED c) = true → t.get (NTU.CH_OVR c) = 1))) ∧
  (∀ (s : State) (x : Fin 2) (o : Fin 128), s.up .can = true → s.objType x o = 3 → s.objState x o = 1 → bit (s.word1 x o) 11 = false →
    s.objWord x o 3 ≠ 0 → tickPassed s.tick32 (s.objWord x o 3) = true →
    s.runs (.txDeadline x o) [.post, .can] [CAN.TX_DEADLINE x, FAULT.OVERFLOW 0, FAULT.OVERFLOW 1, FAULT.OVERFLOW 2, FAULT.OVERFLOW 3] (fun t =>
      t.objState x o = 7 ∧ t.get (CAN.TX_DEADLINE x) = 1 ∧
    t.post = (s.missRecord (s.objOwner x o) 3 (canWord x o 0) (0x30 + x)).post ∧ Table.find (t.canCtl x).cancels o = none ∧ ∀ p : Fin 128, p ≠ o →
      t.word1 x p = s.word1 x p)) ∧
  (∀ (s : State) (x : Fin 2) (o : Fin 128), (s.up .can = false ∨ s.objState x o ≠ 1 ∨ s.objWord x o 3 = 0 ∨
    tickPassed s.tick32 (s.objWord x o 3) = false) → s.runs (.txDeadline x o) [] [] (fun t => t = s)) ∧
  (∀ (s : State) (m : Master) (x : Fin 2) (v : Word) (o : Nat), s.admits m (0x12 + x) 0x54 true → o = v.toNat % 128 → s.objOwner x o = s.tidOf m →
    s.objType x o = 3 → s.runs (.canTxcancel m x v) [.can] [] (fun t =>
    (t.canCtl x).word1 = (s.canCtl x).word1 ∧ (s.objState x o = 1 ∨ s.objState x o = 2 → (Table.find (t.canCtl x).cancels o).isSome = true) ∧
      (s.objState x o ≠ 1 → s.objState x o ≠ 2 → t.can = s.can))) ∧
  (∀ (s : State) (x : Fin 2) (o : Fin 128) (late : Bool), s.up .can = true → (Table.find (s.canCtl x).cancels o).isSome = true →
    s.startPassed x o = false → s.objType x o = 3 → s.objState x o = 1 → bit (s.word1 x o) 11 = false →
    s.runs (.canCancelSampled x o late) [.can] [] (fun t => t.objState x o = 5 ∧ Table.find (t.canCtl x).cancels o = none ∧
      (t.canCtl x).send = (s.canCtl x).send)) ∧
  (∀ (s : State) (x : Fin 2) (o : Fin 128) (late : Bool) (f : CanSend), s.up .can = true → (Table.find (s.canCtl x).cancels o).isSome = true →
    s.objType x o = 3 → s.objState x o = 2 → bit (s.word1 x o) 11 = false → (s.canCtl x).send = some f → f.obj = o → f.orphan = false →
    s.runs (.canCancelSampled x o late) [.can] [CAN.ACT x] (fun t => Table.find (t.canCtl x).cancels o = none ∧
    if late then (t.canCtl x).send = some { f with late := true } ∧ t.objState x o = 2 ∧
      t.get (CAN.ACT x) = s.get (CAN.ACT x) else (t.canCtl x).send = none ∧ t.objState x o = 5 ∧ t.get (CAN.ACT x) = 3)) ∧
  (∀ (s : State) (x : Fin 2) (o : Fin 128) (late : Bool), (s.up .can = false ∨ Table.find (s.canCtl x).cancels o = none) →
    s.runs (.canCancelSampled x o late) [] [] (fun t => t = s))

/-- Chapter 11, queue-fed objects (R465 to R468). -/
def Obligations.CanQueueFed : Prop :=
  (∀ (s : State) (x : Fin 2) (k : Fin 8) (d : Disturb) (a : Active) (o n src : Nat), s.activeAt (0x20 + 8 * x + k) = some a → o = 120 + k →
    s.up .can = true → s.island .core = .running → s.objType x o = 4 → s.objState x o ≠ 1 → s.objState x o ≠ 2 →
    d.upset = Upset.none → s.rst.quiescing.contains a.owner = false → n = qtxWords (s.descWord a.slot 3) (s.descWord a.slot 4) →
      src = s.descWord a.slot 2 → s.plain a.owner src (4 * n) →
    s.runs (.canTx x k d) [.can, .mem] [] (fun t => t.objWord x o 0 = s.descWord a.slot 3 ∧ t.objWord x o 3 = s.descWord a.slot 5 ∧
      t.objState x o = 1 ∧ bits (t.word1 x o) 0 4 = bits (s.descWord a.slot 4) 25 4 ∧
    bits (t.word1 x o) 4 1 = bits (s.descWord a.slot 4) 29 1 ∧ (∀ i, i < n → t.objWord x o (4 + i) = ofBytesLE (s.bytesAt a.owner (src + 4 * i) 4)) ∧
      s.outside t (canWord x o 0) 80)) ∧
  (∀ (s : State) (x : Fin 2) (k : Fin 8) (d : Disturb) (a : Active) (z : Slot), s.activeAt (0x20 + 8 * x + k) = some a → s.up .can = true →
    s.objType x (120 + k) ≠ 4 → s.objState x (120 + k) ≠ 1 → s.objState x (120 + k) ≠ 2 →
    s.slotAt a.slot = some z → z.owner < 4 → s.get (QMGR.RING_SIZE z.owner) = 0 → bit (s.descWord a.slot 4) 16 = false →
      s.runs (.canTx x k d) [.q] [QMGR.LINE, QMGR.QERROR] (fun t =>
    t.activeAt (0x20 + 8 * x + k) = none ∧ t.slotAt a.slot = none ∧ bit (t.get QMGR.QERROR) z.owner = true)) ∧
  (∀ (s : State) (x : Fin 2) (k : Fin 8) (d : Disturb) (c o n src q slot : Nat) (rest : List Nat) (z : Slot), c = 0x20 + 8 * x + k → o = 120 + k →
    s.activeAt c = none → s.up .can = true → s.island .core = .running → s.objType x o = 4 →
    s.objState x o ≠ 1 → s.objState x o ≠ 2 → d.upset = Upset.none → s.nextQueue c = some q → s.queueAt q = slot :: rest → s.slotAt slot = some z →
      s.deadlinePassed slot = false → s.descValid slot c = true → s.descBad slot [0, 2, 3, 4] = none → s.rst.quiescing.contains z.owner = false →
    n = qtxWords (s.descWord slot 3) (s.descWord slot 4) → src = s.descWord slot 2 → s.plain z.owner src (4 * n) →
    s.runs (.canQtxTake x k none d) [.q, .can, .mem] [] (fun t => t.activeAt c = some ⟨slot, q, z.owner, 0, none, none⟩ ∧ t.queueAt q = rest ∧
      t.slotAt slot = some { z with state := 3 } ∧ t.objWord x o 0 = s.descWord slot 3 ∧ t.objState x o = 1 ∧
    (∀ i, i < n → t.objWord x o (4 + i) = ofBytesLE (s.bytesAt z.owner (src + 4 * i) 4)) ∧ s.outside t (canWord x o 0) 80)) ∧
  (∀ (s : State) (x : Fin 2) (k : Fin 8) (bad : Option (Fin 8)) (d : Disturb), (s.up .can = false ∨ s.objState x (120 + k) = 1 ∨
    s.objState x (120 + k) = 2) → s.runs (.canQtxTake x k bad d) [] [] (fun t => t = s) ∧ s.runs (.canTx x k d) [] [] (fun t => t = s))

/-- Chapter 12, modes and sleep (R497 to R508). Where the steps fall is notes/assumptions/14.md. -/
def Obligations.TransceiverModes : Prop :=
  (∀ (s : State) (m : Master), s.admits m 0x14 0x10 true → s.runs (.canxModeNormal m) [] [CANX.MODE, CANX.SLEEP_PEND] (fun t => t.get CANX.MODE = 0 ∧
    t.get CANX.SLEEP_PEND = 0) ∧
    s.runs (.canxModeListen m) [] [CANX.MODE, CANX.SLEEP_PEND] (fun t => t.get CANX.MODE = 1 ∧ t.get CANX.SLEEP_PEND = 0) ∧
    s.runs (.canxModeStandby m) [] [CANX.MODE, CANX.SLEEP_PEND] (fun t => t.get CANX.MODE = 2 ∧ t.get CANX.SLEEP_PEND = 0)) ∧
  (∀ (s : State) (m : Master), s.admits m 0x14 0x10 true →
    s.runs (.canxModeSleep m) [] [CANX.MODE, CANX.SLEEP_PEND, CANX.SLEEP_REFUSED, CANX.FS_RUN, CANX.FS_TIMER_STARTED] (fun t =>
    (if s.on SUPPLY.VBAT_VALID then t.get CANX.MODE = 3 ∧ t.get CANX.SLEEP_PEND = 1 ∧ t.get CANX.SLEEP_REFUSED = s.get CANX.SLEEP_REFUSED
     else t.get CANX.MODE = s.get CANX.MODE ∧ t.get CANX.SLEEP_PEND = s.get CANX.SLEEP_PEND ∧ t.get CANX.SLEEP_REFUSED = 1) ∧
    t.get CANX.FS_RUN = (if s.trx.vbatPart then 1 else s.get CANX.FS_RUN) ∧ t.get CANX.FS_TIMER_STARTED = (if s.trx.vbatPart = true ∧
      s.on CANX.FS_RUN = false then 1 else s.get CANX.FS_TIMER_STARTED))) ∧
  (∀ (s : State) (g : Nat), s.get CANX.MODE_NOW < 3 → s.get CANX.MODE ≠ 3 → g = (if s.get CANX.MODE < 2 ∧ s.island .can ≠ .running ∧
    s.island .can ≠ .stopped then 2 else s.get CANX.MODE) → g ≠ s.get CANX.MODE_NOW → (s.canCtl 0).send = none →
    s.runs .modeChanged [.trx] [CANX.MODE_NOW, CANX.MODE_CHANGED, CANX.TXD_OFF, CAN.ACT 0] (fun t => t.get (CAN.ACT 0) = (if g = 2 ∧
      s.get (CAN.ACT 0) = 3 then 2 else s.get (CAN.ACT 0)) ∧ t.get CANX.MODE_NOW = g ∧ t.get CANX.MODE_CHANGED = 1 ∧
    t.trx = (if g = 2 then { s.trx with decoding := false, fec := 0, inUse := [] } else s.trx))) ∧
  (∀ s : State, (3 ≤ s.get CANX.MODE_NOW ∨ s.get CANX.MODE = 3 ∨ s.get CANX.MODE = s.get CANX.MODE_NOW ∧ s.island .can = .running) →
    (s.canCtl 0).send = none → s.get (CAN.ACT 0) ≠ 3 → s.runs .modeChanged [] [] (fun t => t = s)) ∧
  (∀ s : State, s.power.mode ≠ .off → s.trx.vbatPart = true → s.mem.flashOp = none → (s.trx.expired = true ∨ s.on CANX.SLEEP_PEND = true ∧
    (s.get (CAN.ACT 0) = 0 ∨ s.get (CAN.ACT 0) = 5) ∧ s.on SUPPLY.VBAT_VALID = true) →
    s.runs .sleepEntry (Part.everything.filter (fun p => p ≠ .pending ∧ p ≠ .answer)) [] (fun t => t.power.mode = .off ∧ t.get CANX.MODE_NOW = 3 ∧
      t.get CANX.FS_RUN = 0 ∧ t.get SUPPLY.ACTIVE_SRC = 0 ∧
    (∀ h : Fin 4, (t.hart h).running = false) ∧ t.mem.ram = [] ∧ t.mem.flash = s.mem.flash ∧ t.mem.programmed = s.mem.programmed ∧
      (∀ f ∈ vbatFields, f.key ≠ CANX.FS_RUN.key → t.get f = s.get f) ∧ t.trx.expired = false ∧ t.trx.byTimer = s.trx.expired ∧
    (s.on SUPPLY.VBAT_VALID = true → (s.on CANX.WAKE_WUP = true ∨ s.on CANX.WAKE_WUF = true ∨ s.on CANX.WAKE_PAD = true ∨
      s.on CANX.WAKE_FRAME_ERR = true) → t.rst.porDue = true ∧ t.rst.offExit = true))) ∧
  (∀ s : State, (s.power.mode = .off ∨ s.trx.vbatPart = false ∨ s.mem.flashOp.isSome = true ∨ s.trx.expired = false ∧ (s.on CANX.SLEEP_PEND = false ∨
    s.get (CAN.ACT 0) ≠ 0 ∧ s.get (CAN.ACT 0) ≠ 5 ∨ s.on SUPPLY.VBAT_VALID = false)) → s.runs .sleepEntry [] [] (fun t => t = s)) ∧
  (∀ s : State, s.on CANX.FS_RUN = true → s.runs .fsTimerExpiry [.trx] [CANX.FS_EXPIRED] (fun t => t.get CANX.FS_EXPIRED = 1 ∧
    t.trx = { s.trx with expired := true } ∧ t.driverOn = false)) ∧
  (∀ s : State, s.on CANX.FS_RUN = false → s.runs .fsTimerExpiry [] [] (fun t => t = s)) ∧
  (∀ s : State, s.alive = true → s.get CANX.MODE_NOW = 0 → s.on CANX.TXD_OFF = false → s.rst.inReset = false → s.trx.expired = false →
    s.canSpeaks = true → s.runs .txdTimeout [] [CANX.TXD_OFF, CANX.TXD_TIMEOUT] (fun t =>
    t.get CANX.TXD_OFF = 1 ∧ t.get CANX.TXD_TIMEOUT = 1 ∧ t.driverOn = false)) ∧
  (∀ s : State, (s.get CANX.MODE_NOW ≠ 0 ∨ s.on CANX.TXD_OFF = true ∨ s.rst.inReset = true ∨ s.trx.expired = true ∨ s.canSpeaks = false) →
    s.runs .txdTimeout [] [] (fun t => t = s)) ∧
  (∀ s : State, s.runs .vbatRetentionLoss [.trx] [CANX.FS_RUN, CANX.FS_EXPIRED] (fun t => t.get CANX.FS_RUN = 0 ∧ t.get CANX.FS_EXPIRED = 0 ∧
    t.trx.vbatPart = false ∧ t.trx.decoding = false ∧ t.trx.expired = false)) ∧
  (∀ s : State, s.trx.vbatPart = false → s.runs .vbatPartPowerUp [.trx] vbatFields (fun t => t.trx.vbatPart = true ∧ t.trx.decoding = false ∧
    t.get CANX.WAKE_VBAT_RET = 1 ∧ t.get CANX.FS_TIMEOUT = 50 ∧ t.get CANX.FEC_LIMIT = 31 ∧
    t.get CANX.WUP_EN = 1 ∧ t.get CANX.PAD_EDGE = 3 ∧ ∀ f ∈ vbatFields, t.get f = f.reset)) ∧
  (∀ s : State, s.trx.vbatPart = true → s.runs .vbatPartPowerUp [] [] (fun t => t = s))

/-- Chapter 12, wake detection (R509 to R514). -/
def Obligations.TransceiverWakes : Prop :=
  (∀ s : State, 2 ≤ s.get CANX.MODE_NOW → s.on SUPPLY.VBAT_VALID = true → s.on CANX.WUF_EN = false → s.on CANX.WUP_EN = true → s.power.mode = .gale →
    s.power.phase = .steady → s.runs .wup [.trx] [CANX.WAKE_WUP, CANX.WAKE_DETECTED] (fun t =>
    t.get CANX.WAKE_WUP = 1 ∧ t.get CANX.WAKE_DETECTED = 1 ∧ t.trx = { s.trx with fec := 0 })) ∧
  (∀ s : State, 2 ≤ s.get CANX.MODE_NOW → s.on SUPPLY.VBAT_VALID = true → s.on CANX.WUF_EN = false → s.on CANX.WUP_EN = true → s.power.mode = .lull →
    s.power.phase = .steady → bit (s.get PWR.WAKE_EN) 2 = true →
    s.runs .wup [.trx, .power] [CANX.WAKE_WUP, CANX.WAKE_DETECTED, PWR.WAKE_CAUSE, PWR.SLEWING] (fun t => t.get CANX.WAKE_WUP = 1 ∧
      t.get CANX.WAKE_DETECTED = 1 ∧ bit (t.get PWR.WAKE_CAUSE) 2 = true ∧ t.power.phase = .leaving)) ∧
  (∀ s : State, 2 ≤ s.get CANX.MODE_NOW → s.on SUPPLY.VBAT_VALID = true → s.on CANX.WUF_EN = false → s.on CANX.WUP_EN = true → s.power.mode = .off →
    s.runs .wup [.trx, .rst] [CANX.WAKE_WUP] (fun t =>
    t.get CANX.WAKE_WUP = 1 ∧ t.rst = if s.rst.porDue = true then s.rst else { s.rst with porDue := true, offExit := true })) ∧
  (∀ s : State, 2 ≤ s.get CANX.MODE_NOW → s.on SUPPLY.VBAT_VALID = true → s.on CANX.WUF_EN = true →
    s.runs .wup [.trx] [] (fun t => t.trx.decoding = true ∧ t.trx.fec = s.trx.fec ∧ (s.trx.decoding = true → t = s))) ∧
  (∀ s : State, (s.get CANX.MODE_NOW < 2 ∨ s.on SUPPLY.VBAT_VALID = false ∨ s.on CANX.WUF_EN = false ∧ s.on CANX.WUP_EN = false) →
    s.runs .wup [] [] (fun t => t = s)) ∧
  (∀ (s : State) (f : CanFrame) (ctl : Nat), 2 ≤ s.get CANX.MODE_NOW → s.on SUPPLY.VBAT_VALID = true → s.trx.decoding = true → s.power.mode = .gale →
    s.power.phase = .steady → f.fdf = false → f.rtr = false → ctl = s.decoderWord 0x2C →
    agree (s.decoderWord 0x20) (frameWord0 f) (s.decoderWord 0x1C) = true → (bit ctl 4 = true → f.dlc.toNat = bits ctl 0 4 ∧ (f.dlc.toNat = 0 ∨
      ∃ i : Fin 8, nth (frameData f) i &&& nth (bytesLE 4 (s.decoderWord 0x24) ++ bytesLE 4 (s.decoderWord 0x28)) i ≠ 0)) →
    s.runs (.wuf f) [.trx] [CANX.WAKE_WUF, CANX.WAKE_DETECTED] (fun t => t.get CANX.WAKE_WUF = 1 ∧ t.get CANX.WAKE_DETECTED = 1 ∧
      t.trx = { s.trx with fec := 0 })) ∧
  (∀ (s : State) (f : CanFrame), 2 ≤ s.get CANX.MODE_NOW → s.on SUPPLY.VBAT_VALID = true → s.trx.decoding = true → f.fdf = false → (f.rtr = true ∨
    agree (s.decoderWord 0x20) (frameWord0 f) (s.decoderWord 0x1C) = false) →
    s.runs (.wuf f) [.trx] [] (fun t => t.trx = { s.trx with fec := s.trx.fec - 1 })) ∧
  (∀ (s : State) (f : CanFrame), f.fdf = true → (bit (s.decoderWord 0x18) 6 = true ∨ s.get CANX.MODE_NOW < 2 ∨ s.trx.decoding = false) →
    s.runs (.wuf f) [] [] (fun t => t = s)) ∧
  (∀ (s : State) (fd : Bool), 2 ≤ s.get CANX.MODE_NOW → s.on SUPPLY.VBAT_VALID = true → s.trx.decoding = true → (fd = false ∨
    bit (s.decoderWord 0x18) 6 = false) → s.trx.fec + 1 ≤ bits (s.decoderWord 0x2C) 8 5 →
    s.runs (.frameErr fd) [.trx] [] (fun t => t.trx = { s.trx with fec := s.trx.fec + 1 })) ∧
  (∀ (s : State) (fd : Bool), 2 ≤ s.get CANX.MODE_NOW → s.on SUPPLY.VBAT_VALID = true → s.trx.decoding = true → (fd = false ∨
    bit (s.decoderWord 0x18) 6 = false) → bits (s.decoderWord 0x2C) 8 5 < s.trx.fec + 1 → s.power.mode = .gale → s.power.phase = .steady →
    s.runs (.frameErr fd) [.trx] [CANX.WAKE_FRAME_ERR, CANX.WAKE_DETECTED] (fun t => t.get CANX.WAKE_FRAME_ERR = 1 ∧ t.get CANX.WAKE_DETECTED = 1 ∧
      t.trx = { s.trx with fec := 0 })) ∧
  (∀ (s : State) (fd : Bool), (s.get CANX.MODE_NOW < 2 ∨ s.on SUPPLY.VBAT_VALID = false ∨ s.trx.decoding = false ∨ fd = true ∧
    bit (s.decoderWord 0x18) 6 = true) → s.runs (.frameErr fd) [] [] (fun t => t = s)) ∧
  (∀ (s : State) (l : Bool), s.on SUPPLY.VBAT_VALID = true → s.fab.wakeLevel ≠ l → s.power.mode = .gale → s.power.phase = .steady →
    s.runs (.padWake l) (.trx :: Part.eventFan) [CANX.WAKE_PAD, CANX.WAKE_DETECTED] (fun t => t.fab.wakeLevel = l ∧
    if s.on CANX.PAD_EN = true ∧ bit (s.get CANX.PAD_EDGE) (if l then 0 else 1) = true then t.get CANX.WAKE_PAD = 1 ∧ t.get CANX.WAKE_DETECTED = 1 ∧
      t.trx = { s.trx with fec := 0 }
    else t.get CANX.WAKE_PAD = s.get CANX.WAKE_PAD ∧ t.get CANX.WAKE_DETECTED = s.get CANX.WAKE_DETECTED ∧ t.trx = s.trx)) ∧
  (∀ (s : State) (l : Bool), s.on SUPPLY.VBAT_VALID = false → s.fab.wakeLevel ≠ l →
    s.runs (.padWake l) Part.eventFan [] (fun t => t.fab.wakeLevel = l)) ∧
  (∀ (s : State) (l : Bool), s.fab.wakeLevel = l → s.runs (.padWake l) [] [] (fun t => t = s)) ∧
  (∀ s : State, s.runs .decoderSilence [.trx] [] (fun t => t.trx = { s.trx with decoding := false, inUse := [] }))

/-- Chapters 13 to 15, transmission (R542, R544, R547, R549, R598, R613, R619, R622, R624). That the events of the air come as commands is
notes/assumptions/15.md. -/
def Obligations.RadioTransmissions : Prop :=
  (∀ (s : State) (f : AirFrame) (b : List Nat) (d : Disturb), d.upset = Upset.none → s.phy.op = .txReady → s.phy.frame = some f →
    s.up .radio = true → s.on SUPPLY.PGOOD = true → (s.opBuf.bind (fun r => s.bufFails r d 0)) = none → (∀ w : Fin 5, s.mapWordBad f.map w = false) →
    b = (s.opBuf.map s.bufBytes).getD f.payload → s.runs (.phyTxStart d) [.phy, .link] [] (fun t =>
    t.phy = (if f.robust then { s.phy with op := .txAir, frame := some { f with payload := b }, airBits := robustBits s.phy.chan (bytesLE 4 (f.link % 2 ^ 28) ++ b), airPoints := [] } else { s.phy with op := .txAir, frame := some { f with payload := b }, codes := s.mapCodes f.map, header := makeHeader f.map f.rate b.length f.link, airBits := payloadBits f.rate s.phy.chan (s.mapCodes f.map) b, airPoints := symbolPoints (s.mapCodes f.map) (payloadBits f.rate s.phy.chan (s.mapCodes f.map) b) }) ∧
    t.link = { s.link with jobs := t.link.jobs, soundings := t.link.soundings } ∧
    (∀ k : Nat, t.job k = (if s.sending = some k then { s.job k with attempts := (s.job k).attempts + 1 } else s.job k)) ∧
    (∀ k : Nat, t.soundingOf k = (if s.answering = some k then { s.soundingOf k with tries := (s.soundingOf k).tries + 1 } else s.soundingOf k)))) ∧
  (∀ (s : State) (f : AirFrame) (d : Disturb), d.upset = Upset.none → s.phy.op = .txReady → s.phy.frame = some f → s.up .radio = true →
    s.on SUPPLY.PGOOD = false → s.sending = none → s.runs (.phyTxStart d) [.phy, .link] [LINK.LOW_ENERGY] (fun t =>
    t.get LINK.LOW_ENERGY = 1 ∧ t.phy = { s.phy with op := .idle, target := none } ∧
      t.link = { s.link with cur := none, rx := none, taker := none, ackWait := false, ackOwed := none, rxHeld := none, own := none, kept := false })) ∧
  (∀ (s : State) (f : AirFrame) (k : Nat) (z : Slot) (d : Disturb), d.upset = Upset.none → s.phy.op = .txReady → s.phy.frame = some f →
    s.up .radio = true → s.on SUPPLY.PGOOD = false → s.sending = some k → s.ends k z → s.reportable k z →
    s.runs (.phyTxStart d) [.phy, .link, .q, .mem] [LINK.LOW_ENERGY, QMGR.LINE, QMGR.QERROR] (fun t => s.freed t k z true ∧
      t.get LINK.LOW_ENERGY = 1 ∧ t.phy.op = .idle ∧ t.link.cur = none ∧
    t.bytesAt z.owner (s.descWord k 3 + 8) 8 = bytesLE 4 ((s.job k).flags + (s.job k).attempts % 16 * 2 ^ 8) ++ bytesLE 4 ((s.job k).seq.getD 0) ∧
      s.outside t (s.descWord k 3 + 8) 8)) ∧
  (∀ (s : State) (d : Disturb), (s.phy.op ≠ .txReady ∨ s.phy.frame = none ∨ s.up .radio = false) → s.runs (.phyTxStart d) [] [] (fun t => t = s)) ∧
  (∀ (s : State) (d : Disturb), d.upset = Upset.none → s.phy.op = .txAir → s.curOp = some .beacon →
    s.runs (.phyTxEnd d) (.phy :: .link :: Part.eventFan) [] (fun t => t.phy = { s.phy with op := .idle, target := none } ∧ t.link.cur = none ∧
    t.link.jobs = s.link.jobs ∧
    (∀ c : Fin 16, s.get (NTU.CH_MODE c) = 3 → s.get (NTU.CH_CAPSEL c) = 4 → t.get (NTU.CH_A c) = (s.now - 624000) % 2 ^ 32 ∧
      t.get (NTU.CH_CAPTURED c) = 1) ∧
    ∀ c : Fin 64, s.power.mode ≠ .off → s.power.mode ≠ .calm → s.on (EVF.EN c) = true → s.get (EVF.SRC c) = 0x79 →
      s.endOk c (s.pageOwner 0x16) = true → t.get (EVF.FIRED c) = 1)) ∧
  (∀ (s : State) (f : AirFrame) (k : Nat) (d : Disturb), d.upset = Upset.none → s.phy.op = .txAir → s.phy.frame = some f → bit f.link 4 = true →
    (s.sending = some k ∧ s.linkOpcode k = 0x40 ∨ s.answering = some k) → s.runs (.phyTxEnd d) (.phy :: .link :: Part.eventFan) [] (fun t =>
    t.phy = { s.phy with op := .rxOpen, target := none } ∧ t.link = { s.link with ackWait := true, rx := none })) ∧
  (∀ (s : State) (f : AirFrame) (k : Nat) (z : Slot) (d : Disturb), d.upset = Upset.none → s.phy.op = .txAir → s.phy.frame = some f →
    bit f.link 4 = false → s.sending = some k → (∀ c : Fin 64, s.on (EVF.EN c) = true → s.get (EVF.SRC c) ≠ 0x79) → s.ends k z → s.reportable k z →
    z.cancel = false →
    s.runs (.phyTxEnd d) [.phy, .link, .q, .mem] [QMGR.LINE, QMGR.QERROR] (fun t => s.freed t k z false ∧ t.phy.op = .idle ∧ t.link.cur = none ∧
      t.bytesAt z.owner (s.descWord k 3 + 8) 8 = jobReport (s.job k) ∧ s.outside t (s.descWord k 3 + 8) 8)) ∧
  (∀ (s : State) (k : Nat) (d : Disturb), d.upset = Upset.none → s.phy.op = .txAir → s.sending = some k → s.linkOpcode k = 0x42 →
    (s.slotAt k).map (·.cancel) ≠ some true → s.runs (.phyTxEnd d) (.phy :: .link :: Part.eventFan) [] (fun t => t.phy.op = .idle ∧
    t.link.cur = none ∧ t.job k = { s.job k with sent := (s.job k).sent + 1 } ∧ ∀ j : Nat, j ≠ k → t.job j = s.job j)) ∧
  (∀ (s : State) (d : Disturb), s.phy.op ≠ .txAir → s.runs (.phyTxEnd d) [] [] (fun t => t = s))

/-- Chapters 13 and 14, reception (R533, R535, R539, R543, R549 to R551, R578, R600, R602). -/
def Obligations.RadioReceptions : Prop :=
  (∀ (s : State) (p : Prep), s.up .radio = true → s.phy.op = .rxReady → s.link.cur = some p → (s.link.kept = true ∨ s.schedule.start p.asn ≤ s.now ∧
    s.schedule.start p.asn + 4000 * s.schedule.txOff ≤ s.now + 4000 * s.get LINK.RX_GUARD) →
    s.runs .rxWindowOpen [.phy] [] (fun t => t.phy = { s.phy with op := .rxOpen })) ∧
  (∀ (s : State) (p : Prep), s.phy.op = .rxReady → s.link.cur = some p → s.link.kept = false → (s.now < s.schedule.start p.asn ∨
    s.now + 4000 * s.get LINK.RX_GUARD < s.schedule.start p.asn + 4000 * s.schedule.txOff) → s.runs .rxWindowOpen [] [] (fun t => t = s)) ∧
  (∀ s : State, s.up .radio = true → s.phy.op = .idle → s.scanReady = true → bit (s.get RFPHY.CHMASK) (s.get LINK.SCAN_CH) = true →
    s.runs .rxWindowOpen [.phy] [RFPHY.CHAN, RFPHY.PLL_LOCK] (fun t =>
    t.phy.op = .rxOpen ∧ t.phy.chan = s.get LINK.SCAN_CH ∧ t.phy.robust = true ∧ t.phy.rsync = s.get RFPHY.RSYNC ∧ t.phy.frame = none ∧
      t.phy.target = none ∧ t.get RFPHY.CHAN = s.get LINK.SCAN_CH ∧ t.get RFPHY.PLL_LOCK = 1)) ∧
  (∀ s : State, (s.up .radio = false ∨ s.phy.op ≠ .rxReady ∧ (s.phy.op ≠ .idle ∨ s.scanReady = false ∨
    bit (s.get RFPHY.CHMASK) (s.get LINK.SCAN_CH) = false)) → s.runs .rxWindowOpen [] [] (fun t => t = s)) ∧
  (∀ (s : State) (p : Prep), s.phy.op = .rxOpen → s.link.ackWait = false → s.scanReady = false → s.link.cur = some p → (s.link.kept = true ∨
    s.schedule.start p.asn + 4000 * s.schedule.txOff + 4000 * s.get LINK.RX_GUARD + (if p.robust then 128000 else 92000) ≤ s.now) →
    s.runs .rxWindowClose [.phy, .link] [] (fun t =>
    t.phy = { s.phy with op := .idle, target := none } ∧
      t.link = { s.link with cur := none, rx := none, taker := none, ackOwed := none, rxHeld := none, own := none, kept := false })) ∧
  (∀ s : State, (s.phy.op ≠ .rxOpen ∨ s.link.ackWait = true ∨ s.scanReady = true) → s.runs .rxWindowClose [] [] (fun t => t = s)) ∧
  (∀ (s : State) (p : BitVec 48) (h : Int) (snr : List Int), s.phy.op = .rxOpen → s.phy.robust = false →
    popCount 48 (p.toNat ^^^ s.phy.pattern) ≤ s.get RFPHY.SYNC_ERR → s.phy.target = none →
    s.runs (.ofdmSyncAccepted p h snr) [.phy] [RFPHY.RSSI, RFPHY.RSSI_MODE, RFPHY.RSSI_VALID] (fun t => (t.get RFPHY.RSSI : Int) = max 0 (min 255 (h
      + 256)) ∧ t.get RFPHY.RSSI_MODE = 0 ∧ t.get RFPHY.RSSI_VALID = 1 ∧
    t.phy = { s.phy with op := .rxSync, sync := s.now })) ∧
  (∀ (s : State) (p : BitVec 48) (h : Int) (snr : List Int) (m : Nat), s.phy.op = .rxOpen → s.phy.robust = false →
    popCount 48 (p.toNat ^^^ s.phy.pattern) ≤ s.get RFPHY.SYNC_ERR → s.phy.target = some m → m < 32 →
    s.runs (.ofdmSyncAccepted p h snr) [.phy, .mem] [RFPHY.RSSI, RFPHY.RSSI_MODE, RFPHY.RSSI_VALID] (fun t => t.phy.op = .rxSync ∧
      t.phy.sync = s.now ∧ s.outside t (mapAddr m) 20 ∧ ((∀ w : Fin 5, s.mapWordBad m w = false) → t.phy.codes = s.mapCodes m) ∧
    ∀ d : Fin 48, nth (t.mapCodes m) d ≤ 4 ∧ (nth (t.mapCodes m) d = 0 ↔ ∀ c : Fin 4, snr.getD d 0 < s.get (RFPHY.TH c)) ∧
    ∀ c : Fin 4, (∀ e : Fin 4, c.val < e.val → snr.getD d 0 < s.get (RFPHY.TH e)) → (s.get (RFPHY.TH c) : Int) ≤ snr.getD d 0 →
      nth (t.mapCodes m) d = c + 1)) ∧
  (∀ (s : State) (p : BitVec 48) (h : Int) (snr : List Int), (s.phy.op ≠ .rxOpen ∨ s.phy.robust = true ∨
    s.get RFPHY.SYNC_ERR < popCount 48 (p.toNat ^^^ s.phy.pattern)) → s.runs (.ofdmSyncAccepted p h snr) [] [] (fun t => t = s)) ∧
  (∀ (s : State) (w : Word) (h : Int), s.runs (.robustSyncAccepted w h) [.phy] [RFPHY.RSSI, RFPHY.RSSI_MODE, RFPHY.RSSI_VALID] (fun t =>
    if s.phy.op = .rxOpen ∧ s.phy.robust = true ∧ popCount 32 (w.toNat ^^^ s.phy.rsync) ≤ s.get RFPHY.RSYNC_ERR then
      (t.get RFPHY.RSSI : Int) = max 0 (min 255 (h + 256)) ∧ t.get RFPHY.RSSI_MODE = 1 ∧ t.get RFPHY.RSSI_VALID = 1 ∧
        t.phy = { s.phy with op := .rxSync, sync := s.now }
    else t = s)) ∧
  (∀ (s : State) (soft : List Int) (h : Nat) (d : Disturb), s.phy.op = .rxSync → s.phy.robust = false → h = headerOfSoft soft → (headerOk h = false ∨
    s.phy.target ≠ some (bits h 2 5) ∧ s.mapFails (bits h 2 5) d = none ∧ ofdmHeaderOk h (s.mapCodes (bits h 2 5)) = false) →
    s.runs (.ofdmHeaderReceived soft d) [.phy] [] (fun t => t.phy = { s.phy with op := .rxOpen, frame := none })) ∧
  (∀ (s : State) (soft : List Int) (h : Nat) (d : Disturb), s.phy.op = .rxSync → s.phy.robust = false → h = headerOfSoft soft →
    s.phy.target ≠ some (bits h 2 5) → s.mapFails (bits h 2 5) d = none → ofdmHeaderOk h (s.mapCodes (bits h 2 5)) = true → bits h 9 11 = 0 →
    s.link.ackWait = true → s.buffersFree ≠ [] → s.runs (.ofdmHeaderReceived soft d) [.phy, .link, .fresh] [] (fun t =>
    t.phy.op = .idle ∧ s.bufferTaken t s.linkTid ∧
      t.link = { s.link with rx := some ⟨⟨false, bits h 20 28, bits h 2 5, bits h 7 2, []⟩, s.get RFPHY.RSSI, s.phy.sync, s.phy.chan⟩, rxHeld := t.link.rxHeld })) ∧
  (∀ (s : State) (soft : List Int) (d : Disturb) (h n k : Nat) (z : Slot), s.phy.op = .rxSync → s.phy.robust = false → h = headerOfSoft soft →
    n = bits h 9 11 → n ≠ 0 → ofdmHeaderOk h (s.mapCodes (bits h 2 5)) = true → s.phy.target ≠ some (bits h 2 5) → s.mapFails (bits h 2 5) d = none →
    s.link.ackWait = false → s.buffersFree ≠ [] → s.takerOf (bits h 20 28) = some k → s.slotAt k = some z →
      s.runs (.ofdmHeaderReceived soft d) [.phy, .link, .q, .fresh] [] (fun t =>
    t.phy.op = .rxHeader ∧ t.phy.frame = some ⟨false, bits h 20 28, bits h 2 5, bits h 7 2, []⟩ ∧ t.phy.header = h ∧
      t.phy.codes = s.mapCodes (bits h 2 5) ∧ s.bufferTaken t z.owner ∧ t.link = { s.link with taker := some k, rxHeld := t.link.rxHeld } ∧
      t.slotAt k = some { z with state := 3, shown := true })) ∧
  (∀ (s : State) (soft : List Int) (h : Nat) (d : Disturb), s.phy.op = .rxSync → s.phy.robust = false → h = headerOfSoft soft →
    s.phy.target ≠ some (bits h 2 5) → s.mapFails (bits h 2 5) d = none → (s.buffersFree = [] ∨ s.link.ackWait = false ∧
    s.takerOf (bits h 20 28) = none) →
    s.runs (.ofdmHeaderReceived soft d) [.phy] [] (fun t => t.phy = { s.phy with op := .rxOpen, frame := none })) ∧
  (∀ (s : State) (soft : List Int) (d : Disturb), (s.phy.op ≠ .rxSync ∨ s.phy.robust = true) →
    s.runs (.ofdmHeaderReceived soft d) [] [] (fun t => t = s)) ∧
  (∀ (s : State) (soft : List Int) (f : AirFrame) (n : Nat) (p : List Nat) (b : BufRef) (hit : Option (Fin 1024 × Byte)), s.phy.op = .rxHeader →
    s.phy.frame = some f → n = bits s.phy.header 9 11 → ppduDecode s.phy.chan (bits s.phy.header 7 2) n soft = some p → s.link.rxHeld = some b →
    b.buf < 32 → b.tenant < 4 →
    s.runs (.ofdmPpduDecoded soft hit) [.phy, .link, .mem] [] (fun t => t.phy = { s.phy with op := .idle } ∧
      t.link = { s.link with rx := some ⟨f, s.get RFPHY.RSSI, s.phy.sync, s.phy.chan⟩, rxHeld := some { b with len := n } } ∧
    t.bytesAt b.tenant (bufAddr b.buf) n = p.zipIdx.map (fun e => if hit.map (·.1.val) = some e.2 then e.1 ^^^ (hit.map (·.2.toNat)).getD 0 else e.1)
      ∧ s.outside t (bufAddr b.buf) (4 * ((n + 3) / 4)))) ∧
  (∀ (s : State) (soft : List Int) (hit : Option (Fin 1024 × Byte)), s.phy.op = .rxHeader → s.phy.frame.isSome = true →
    ppduDecode s.phy.chan (bits s.phy.header 7 2) (bits s.phy.header 9 11) soft = none →
    s.runs (.ofdmPpduDecoded soft hit) [.phy, .link] [] (fun t => t.phy = { s.phy with op := .rxOpen, frame := none } ∧
      t.link = { s.link with taker := none, rxHeld := none })) ∧
  (∀ (s : State) (soft : List Int) (hit : Option (Fin 1024 × Byte)), s.phy.op ≠ .rxHeader →
    s.runs (.ofdmPpduDecoded soft hit) [] [] (fun t => t = s)) ∧
  (∀ (s : State) (air : List Bool) (b : List Nat), s.phy.op = .rxSync → s.phy.robust = true → s.link.ackWait = true → s.buffersFree ≠ [] →
    robustDecode s.phy.chan air = some b → 4 ≤ b.length → ofBytesLE (b.take 4) < 2 ^ 28 →
    s.runs (.robustFrameReceived air) [.phy, .link, .mem, .fresh] [] (fun t =>
    t.phy.op = .idle ∧ s.bufferFilled t s.linkTid (b.drop 4) ∧
      t.link = { s.link with rx := some ⟨⟨true, ofBytesLE (b.take 4), 0, 0, []⟩, s.get RFPHY.RSSI, s.phy.sync, s.phy.chan⟩, rxHeld := t.link.rxHeld })) ∧
  (∀ (s : State) (air : List Bool) (b : List Nat) (k : Nat) (z : Slot), s.phy.op = .rxSync → s.phy.robust = true → s.link.ackWait = false →
    s.buffersFree ≠ [] → robustDecode s.phy.chan air = some b → 4 ≤ b.length → ofBytesLE (b.take 4) < 2 ^ 28 →
    s.takerOf (ofBytesLE (b.take 4)) = some k → s.slotAt k = some z → z.owner < 4 →
      s.runs (.robustFrameReceived air) [.phy, .link, .q, .mem, .fresh] [] (fun t => t.phy.op = .idle ∧
      t.slotAt k = some { z with state := 3, shown := true } ∧ s.bufferFilled t z.owner (b.drop 4) ∧
    t.link = { s.link with taker := some k, rx := some ⟨⟨true, ofBytesLE (b.take 4), 0, 0, []⟩, s.get RFPHY.RSSI, s.phy.sync, s.phy.chan⟩, rxHeld := t.link.rxHeld })) ∧
  (∀ (s : State) (air : List Bool), s.phy.op = .rxSync → s.phy.robust = true → robustDecode s.phy.chan air = none →
    s.runs (.robustFrameReceived air) [.phy] [] (fun t => t.phy = { s.phy with op := .rxOpen, frame := none })) ∧
  (∀ (s : State) (air : List Bool), (s.phy.op ≠ .rxSync ∨ s.phy.robust = false) → s.runs (.robustFrameReceived air) [] [] (fun t => t = s))

/-- Chapter 13, calibration (R552 to R554), and R620, R621. Idle time and the repeat after a loss are notes/assumptions/15.md. -/
def Obligations.RadioCalibration : Prop :=
  (∀ (s : State) (m : Master), s.admits m 0x15 0x34 true → s.runs (.calNow m) [.phy] [RFPHY.CAL_NOW] (fun t => t.get RFPHY.CAL_NOW = 1 ∧
    t.phy = (if s.phy.op = .cal then s.phy else { s.phy with calSince := s.phy.calSince.or (some s.now), calAsked := true }) ∧ (s.phy.op ≠ .cal →
    t.calLate = true))) ∧
  (∀ s : State, s.runs .rfCalDue [.phy] [] (fun t => t.phy = (if s.on RFPHY.CAL_VALID = true ∧
    s.phy.lastCal + s.get RFPHY.CAL_INTERVAL * 1000000000 ≤ s.now then { s.phy with calSince := s.phy.calSince.or (some s.now) } else s.phy))) ∧
  (∀ (s : State) (p : Prep) (n : Nat), s.up .radio = true → s.phy.calSince = some n → s.link.cur = some p → p.op = .calibration → s.phy.op = .idle →
    s.runs .rfCalTakeover [.phy] [RFPHY.CAL_NOW, RFPHY.PLL_LOCK] (fun t => t.get RFPHY.PLL_LOCK = 1 ∧ t.phy = { s.phy with op := .cal } ∧
    t.get RFPHY.CAL_NOW = 0)) ∧
  (∀ (s : State) (n : Nat), s.up .radio = true → s.phy.calSince = some n → s.link.cur = none → s.linkRuns = false → s.phy.op = .idle →
    s.link.ackOwed = none → s.link.rx = none → s.runs .rfCalTakeover [.phy] [RFPHY.CAL_NOW, RFPHY.PLL_LOCK] (fun t =>
    t.get RFPHY.PLL_LOCK = 1 ∧ t.phy = { s.phy with op := .cal } ∧ t.get RFPHY.CAL_NOW = 0)) ∧
  (∀ s : State, (s.up .radio = false ∨ s.phy.calSince = none ∨ s.phy.op ≠ .idle ∨ s.link.cur = none ∧ s.linkRuns = true) →
    s.runs .rfCalTakeover [] [] (fun t => t = s)) ∧
  (∀ s : State, s.phy.op = .cal → s.runs .calDone [.phy, .link] [RFPHY.CAL_VALID, RFPHY.CAL_DONE] (fun t => t.phy =
    { s.phy with op := .idle, lastCal := s.now, calSince := (if s.on RFPHY.CAL_NOW then some s.now else none), calAsked := s.on RFPHY.CAL_NOW } ∧
    t.link = { s.link with cur := none } ∧ t.get RFPHY.CAL_VALID = 1 ∧ t.get RFPHY.CAL_DONE = 1)) ∧
  (∀ s : State, s.phy.op ≠ .cal → s.runs .calDone [] [] (fun t => t = s)) ∧
  (∀ (s : State) (d : Disturb), d.upset = Upset.none → s.up .radio = true → s.phy.op = .cal →
    s.runs (.pllUnlock d) [.phy, .link] [RFPHY.PLL_LOCK, RFPHY.PLL_UNLOCK] (fun t => t.get RFPHY.PLL_LOCK = 0 ∧ t.get RFPHY.PLL_UNLOCK = 1 ∧
    t.phy.op = .idle ∧ t.link.cur = none ∧ t.phy.calSince = s.phy.calSince.or (some s.now))) ∧
  (∀ (s : State) (d : Disturb), d.upset = Upset.none → s.up .radio = true → s.phy.op ≠ .idle → s.phy.op ≠ .cal → s.sending = none →
    s.answering = none → s.runs (.pllUnlock d) [.phy, .link] [RFPHY.PLL_LOCK, RFPHY.PLL_UNLOCK] (fun t =>
    t.get RFPHY.PLL_LOCK = 0 ∧ t.get RFPHY.PLL_UNLOCK = 1 ∧ t.phy = { s.phy with op := .idle, target := none } ∧
      t.link = { s.link with cur := none, rx := none, taker := none, ackWait := false, ackOwed := none, rxHeld := none, own := none, kept := false })) ∧
  (∀ (s : State) (k : Nat) (z : Slot) (d : Disturb), d.upset = Upset.none → s.up .radio = true → s.phy.op = .txAir → s.sending = some k →
    s.linkOpcode k = 0x40 → s.slotAt k = some z → z.cancel = false → (s.job k).attempts ≤ bits (s.job k).block 5 3 →
    s.runs (.pllUnlock d) [.phy, .link, .fresh] [RFPHY.PLL_LOCK, RFPHY.PLL_UNLOCK] (fun t =>
    t.get RFPHY.PLL_UNLOCK = 1 ∧ t.phy.op = .idle ∧ t.link.cur = none ∧
      t.job k = { s.job k with flags := (s.job k).flags ||| 2, skip := (t.job k).skip } ∧ t.slotAt k = some z)) ∧
  (∀ (s : State) (d : Disturb), (s.up .radio = false ∨ s.phy.op = .idle) → s.runs (.pllUnlock d) [] [] (fun t => t = s))

/-- Chapter 15, preparation points (R588 to R597, R621). -/
def Obligations.SlotPreparation : Prop :=
  (∀ (s : State) (d : Disturb) (n e : Nat), s.linkRuns = true → s.ownSched.epoch ≤ s.now + 200000 → n = s.ownSched.asn (s.now + 200000) →
    s.link.prepared ≠ some n → (∀ q : Fin 64, s.queueAt q = []) → d.upset = Upset.none → s.eccBad (0x32110000 + 4 * (n % 256)) = false →
    e = s.word s.linkTid (0x32110000 + 4 * (n % 256)) → (bits e 0 3 = 0 ∨ bits e 0 3 = 2 ∨ 5 ≤ bits e 0 3) →
      s.runs (.slotPreparation d) [.link] [LINK.CH_MASKED] (fun t => t.link =
      { s.link with sched := some s.ownSched, prepared := some n, next := t.link.next } ∧
    (1 ≤ s.get LINK.HOP_LEN → s.get LINK.HOP_LEN ≤ 19 →
      t.get LINK.CH_MASKED = if s.chanOk (s.get (LINK.HOP ((n + bits e 10 5) % s.get LINK.HOP_LEN))) then s.get LINK.CH_MASKED else 1) ∧
    t.link.next.map (fun p => (p.asn, p.op)) = if s.phy.calSince.isSome = true ∧ s.phy.op ≠ .cal then some (n, .calibration) else none)) ∧
  (∀ (s : State) (d : Disturb) (n e ch : Nat), s.linkRuns = true → s.ownSched.epoch ≤ s.now + 200000 → n = s.ownSched.asn (s.now + 200000) →
    s.link.prepared ≠ some n → (∀ q : Fin 64, s.queueAt q = []) → d.upset = Upset.none → s.eccBad (0x32110000 + 4 * (n % 256)) = false →
    e = s.word s.linkTid (0x32110000 + 4 * (n % 256)) → bits e 0 3 = 4 → s.on LINK.ROLE = true → 1 ≤ s.get LINK.HOP_LEN → s.get LINK.HOP_LEN ≤ 19 →
      ch = s.get (LINK.HOP ((n + bits e 10 5) % s.get LINK.HOP_LEN)) →
    s.runs (.slotPreparation d) [.link, .mem, .fresh] [LINK.CH_MASKED, RFPHY.CAL_DISPLACED] (fun t => t.link.prepared = some n ∧ (s.calLate = false →
      s.chanOk ch = true → s.buffersFree ≠ [] → s.nextStored t (beaconBody s.ownSched n (s.get LINK.BFLAGS))) ∧ (t.get RFPHY.CAL_DISPLACED = 1 ∨
      s.calLate = false) ∧ t.get LINK.CH_MASKED = (if s.chanOk ch then s.get LINK.CH_MASKED else 1) ∧
    t.link.next.map (fun p => (p.asn, p.op, if p.op = .calibration then none else some (p.chan, p.robust, p.pwr, p.frame))) = (if s.calLate then some
      (n, .calibration, none) else if s.chanOk ch then some (n, .beacon, some (ch, true, s.get RFPHY.PWR,
      some ⟨true, 1 + s.get LINK.SHORT % 2 ^ 16 * 2 ^ 5 + 0x7F * 2 ^ 21, 0, 0, beaconBody s.ownSched n (s.get LINK.BFLAGS)⟩)) else none))) ∧
  (∀ (s : State) (d : Disturb) (n e ch q k : Nat) (z : Slot), s.linkRuns = true → s.ownSched.epoch ≤ s.now + 200000 →
    n = s.ownSched.asn (s.now + 200000) → s.link.prepared ≠ some n → (∀ p : Fin 64, p.val ≠ q → s.queueAt p = []) → d.upset = Upset.none →
    s.eccBad (0x32110000 + 4 * (n % 256)) = false → e = s.word s.linkTid (0x32110000 + 4 * (n % 256)) → bits e 0 3 = 1 → s.link.soundings = [] →
      1 ≤ s.get LINK.HOP_LEN → s.get LINK.HOP_LEN ≤ 19 → ch = s.get (LINK.HOP ((n + bits e 10 5) % s.get LINK.HOP_LEN)) →
    s.calLate = false → s.chanOk ch = true → q < 64 → s.queueAt q = [k] → s.serves 0x30 q = true → s.released q = true → s.slotAt k = some z →
      s.descValid k 0x30 = true → s.nbrForeign k = false → s.linkOpcode k = 0x40 → s.linkAny k = false → s.linkNbr k = bits e 4 6 →
    (bit (s.blockWord k 0) 8 = true → s.blockWord k 1 = n % 2 ^ 32) → s.nbrInUse (bits e 4 6) = true →
      (s.linkIn z.owner (s.descWord k 3) 8 d 0x180).2.2 = none → s.runs (.slotPreparation d) [.link, .q] [] (fun t => t.link.prepared = some n ∧
      t.slotAt k = some { z with state := 3, shown := true } ∧ t.queueAt q = [k] ∧
    t.link.next.map (fun p => (p.asn, p.op, p.chan, p.pwr, p.frame)) = some (n, .transmit k, ch, s.nbrPwr (bits e 4 6), none))) ∧
  (∀ (s : State) (d : Disturb) (n e ch q k : Nat), s.linkRuns = true → s.ownSched.epoch ≤ s.now + 200000 → n = s.ownSched.asn (s.now + 200000) →
    s.link.prepared ≠ some n → (∀ p : Fin 64, p.val ≠ q → s.queueAt p = []) → d.upset = Upset.none →
    s.eccBad (0x32110000 + 4 * (n % 256)) = false → e = s.word s.linkTid (0x32110000 + 4 * (n % 256)) → bits e 0 3 = 2 → 1 ≤ s.get LINK.HOP_LEN →
      s.get LINK.HOP_LEN ≤ 19 → ch = s.get (LINK.HOP ((n + bits e 10 5) % s.get LINK.HOP_LEN)) →
    s.calLate = false → s.chanOk ch = true → q < 64 → s.queueAt q = [k] → s.serves 0x31 q = true → s.released q = true → s.descValid k 0x31 = true →
      s.nbrForeign k = false → s.soundsUsedMap k = false → (s.linkOpcode k = 0x41 ∧ s.linkAny k = true ∨ s.linkNbr k = bits e 4 6) →
    s.runs (.slotPreparation d) [.link] [] (fun t => t.link.prepared = some n ∧
    t.link.next.map (fun p => (p.asn, p.op, p.chan, p.target)) = some (n, .window (if s.linkOpcode k = 0x43 then some k else none), ch, if
      s.linkOpcode k = 0x43 then some (s.soundMap k) else none))) ∧
  (∀ (s : State) (d : Disturb), (s.linkRuns = false ∨ s.now + 200000 < s.ownSched.epoch ∨ s.link.prepared = some (s.ownSched.asn (s.now + 200000))) →
    s.runs (.slotPreparation d) [] [] (fun t => t = s))

/-- Chapter 15, slots and beacons (R588, R590, R598 to R600, R624). -/
def Obligations.SlotsAndBeacons : Prop :=
  (∀ (s : State) (p : Prep) (n : Nat) (d : Disturb), d.upset = Upset.none → s.linkRuns = true → s.schedule.epoch ≤ s.now → n = s.schedule.asn s.now →
    s.link.begun ≠ some n → s.linkBusy = false → (∀ e : Fin 64, Table.find s.waiting (256 * tblNbr + e) = none) → s.link.next = some p → p.asn = n →
    (p.op ≠ .calibration → s.chanOk p.chan = true) → (p.op ≠ .calibration → p.op ≠ .window none → s.on SUPPLY.PGOOD = true) →
    s.runs (.slotStart d) (.link :: .phy :: Part.eventFan) [LINK.CYCLE_START, RFPHY.CHAN, RFPHY.PLL_LOCK] (fun t =>
    t.link = { s.link with begun := some n, next := none, cur := some p, kept := false, beaconDue := t.link.beaconDue } ∧
      t.get LINK.CYCLE_START = (if n % 256 = 0 then 1 else s.get LINK.CYCLE_START) ∧ (p.op = .calibration →
      t.phy = { s.phy with op := .idle, target := none }) ∧
    (p.op ≠ .calibration → t.phy.chan = p.chan ∧ t.get RFPHY.CHAN = p.chan ∧ t.get RFPHY.PLL_LOCK = 1 ∧ t.phy.robust = p.robust ∧
      t.phy.pwr = min p.pwr (if p.robust then 30 else 26) ∧ t.phy.pattern = s.get RFPHY.SYNC_LO + s.get RFPHY.SYNC_HI * 2 ^ 32) ∧
    (p.op = .window none → t.phy.op = .rxReady ∧ t.phy.target = p.target ∧ t.link.beaconDue = (bits p.entry 0 3 == 4)) ∧ (p.op = .beacon →
      t.phy.op = .txReady ∧ t.phy.frame = p.frame) ∧ ∀ k : Fin 64, p.op = .transmit k → t.phy.op = .txReady ∧ t.phy.frame = p.frame)) ∧
  (∀ (s : State) (d : Disturb), d.upset = Upset.none → s.linkRuns = true → s.schedule.epoch ≤ s.now → s.link.begun ≠ some (s.schedule.asn s.now) →
    s.linkBusy = true → (∀ e : Fin 64, Table.find s.waiting (256 * tblNbr + e) = none) →
    s.runs (.slotStart d) (.link :: Part.eventFan) [LINK.CYCLE_START] (fun t => t.link =
    { s.link with begun := some (s.schedule.asn s.now), next := none })) ∧
  (∀ (s : State) (d : Disturb), (s.linkRuns = false ∨ s.now < s.schedule.epoch ∨ s.link.begun = some (s.schedule.asn s.now)) →
    s.runs (.slotStart d) [] [] (fun t => t = s)) ∧
  (∀ (s : State) (d : Disturb) (x : RxFrame) (k n : Nat) (z : Slot), s.rxWhole = some x → s.rxReads d → s.link.taker = some k → s.beaconOk x = true →
    s.linkScans = false → s.link.ackOwed = none → s.scanReady = false → (s.on NTU.SERVO_EN = false ∨ s.get NTU.SRC ≠ 2 ∨ s.power.mode = .lull) →
    s.unheard 0x7A → (∀ b ∈ x.frame.payload, b < 256) →
    n = x.frame.payload.length → d.upset = Upset.none → s.slotAt k = some z → s.ends k z → s.deliverable k z n →
      s.runs (.beaconRx d) [.phy, .link, .q, .mem] [LINK.BEACON_RX_EVT, LINK.SCHED_DIFF, QMGR.LINE, QMGR.QERROR] (fun t => s.freed t k z false ∧
      s.dealt t none ∧ t.get LINK.BEACON_RX_EVT = 1 ∧ t.link.beaconDue = false ∧
    t.bytesAt z.owner (s.descWord k 3) (16 + n) = rxReport x.frame.link x.frame.robust (s.findSender (bits x.frame.link 5 16)) false n x.rssi x.chan
      0 (x.sync % 2 ^ 32) ++ x.frame.payload ∧ s.outsideBoth t (s.descWord k 3) (16 + n) ∧
    (nth x.frame.payload 15 ≠ s.get LINK.SLOT_LEN → t.get LINK.SCHED_DIFF = 1))) ∧
  (∀ (s : State) (d : Disturb) (x : RxFrame) (k n : Nat) (z : Slot) (ep : Int), s.rxWhole = some x → s.rxReads d → s.link.taker = some k →
    s.beaconOk x = true → s.linkScans = true → s.on LINK.ADOPT = true → s.link.ackOwed = none → (s.on NTU.SERVO_EN = false ∨ s.get NTU.SRC ≠ 2 ∨
    s.power.mode = .lull) → s.unheard 0x7A →
    (∀ b ∈ x.frame.payload, b < 256) → n = x.frame.payload.length → d.upset = Upset.none → s.slotAt k = some z → s.ends k z → s.deliverable k z n →
      4 ≤ nth x.frame.payload 15 → nth x.frame.payload 15 ≤ 40 → 25 ≤ nth x.frame.payload 16 → nth x.frame.payload 16 ≤ 250 →
      1 ≤ nth x.frame.payload 17 → nth x.frame.payload 17 ≤ 19 →
    (∀ i : Fin 19, nth (beaconHops x.frame.payload) i ≤ 18) → beaconTime x.frame.payload < 2 ^ 48 * 1000000000 →
      ep = (beaconTime x.frame.payload : Int) - 4000 * nth x.frame.payload 16 - 128000 - beaconAsn x.frame.payload * (250000 * nth x.frame.payload
      15) → 0 ≤ ep →
    s.runs (.scanBeaconAdopt d) [.phy, .link, .q, .mem, .page 0x16] [QMGR.LINE, QMGR.QERROR] (fun t => s.freed t k z false ∧
      t.get LINK.BEACON_RX_EVT = 1 ∧ t.get LINK.SCAN = 0 ∧ t.get LINK.ADOPT = 0 ∧ t.get LINK.SLOT_LEN = nth x.frame.payload 15 ∧
      t.get LINK.TX_OFFSET = nth x.frame.payload 16 ∧
    t.get LINK.HOP_LEN = nth x.frame.payload 17 ∧ (∀ i : Fin 19, t.get (LINK.HOP i) = nth (beaconHops x.frame.payload) i) ∧
      (t.ownSched.epoch : Int) = ep ∧ (s.on LINK.RUN = true → t.linkRuns = true ∧ t.link.sched = some t.ownSched))) ∧
  (∀ s : State, s.runs .beaconMissed [.link] [LINK.BEACON_MISSED_EVT] (fun t => t.link = { s.link with beaconDue := false } ∧
    t.get LINK.BEACON_MISSED_EVT = (if s.link.beaconDue then 1 else s.get LINK.BEACON_MISSED_EVT))) ∧
  (∀ (s : State) (n : Nat), s.on LINK.RUN = true → s.on LINK.SCAN = false → s.schedule.epoch ≤ s.now + 1000 * s.get LINK.WAKE_LEAD →
    n = s.schedule.asn (s.now + 1000 * s.get LINK.WAKE_LEAD) → s.link.timerDone ≠ some n → s.eccBad (0x32110000 + 4 * (n % 256)) = false →
    bit (s.word s.linkTid (0x32110000 + 4 * (n % 256))) 15 = true → (s.power.mode = .gale ∧ s.power.phase = .steady ∨
      bit (s.get PWR.WAKE_EN) 4 = false) → s.runs .slotTimer [.link] [LINK.SLOT_TIMER_EVT] (fun t => t.get LINK.SLOT_TIMER_EVT = 1 ∧
      t.link = { s.link with timerDone := some n })) ∧
  (∀ (s : State) (n : Nat), s.on LINK.RUN = true → s.on LINK.SCAN = false → s.schedule.epoch ≤ s.now + 1000 * s.get LINK.WAKE_LEAD →
    n = s.schedule.asn (s.now + 1000 * s.get LINK.WAKE_LEAD) → s.link.timerDone ≠ some n → s.eccBad (0x32110000 + 4 * (n % 256)) = false →
    bit (s.word s.linkTid (0x32110000 + 4 * (n % 256))) 15 = true → s.power.mode = .lull → s.power.phase = .steady →
      bit (s.get PWR.WAKE_EN) 4 = true →
    s.runs .slotTimer [.link, .power] [LINK.SLOT_TIMER_EVT, PWR.WAKE_CAUSE, PWR.SLEWING] (fun t => t.get LINK.SLOT_TIMER_EVT = 1 ∧
      bit (t.get PWR.WAKE_CAUSE) 4 = true ∧ t.power.phase = .leaving)) ∧
  (∀ s : State, (s.on LINK.RUN = false ∨ s.on LINK.SCAN = true ∨ s.now + 1000 * s.get LINK.WAKE_LEAD < s.schedule.epoch ∨
    s.link.timerDone = some (s.schedule.asn (s.now + 1000 * s.get LINK.WAKE_LEAD))) → s.runs .slotTimer [] [] (fun t => t = s))

/-- Chapter 15, preparation and completion (R595, R601, R606 to R609, R614 to R617, R622). That a descriptor to an entry not in use waits, and what
a SOUND_REQ with no free buffer does, are notes/assumptions/15.md. -/
def Obligations.LinkTransmitService : Prop :=
  (∀ (s : State) (d : Disturb) (p : Prep) (k e n cb : Nat) (z : Slot) (rob : Bool) (data : List Nat), s.link.next = some p → p.op = .transmit k →
    p.frame = none → s.linkOpcode k = 0x40 → s.slotAt k = some z → z.state = 3 → s.descBad k [0, 2, 3, 4] = none → d.upset = Upset.none →
    s.island .core = .running → s.rst.quiescing.contains z.owner = false →
    s.plain z.owner (s.descWord k 3) 8 → cb = ofBytesLE (s.bytesAt z.owner (s.descWord k 3) 4) →
      s.plain z.owner (s.descWord k 2) (bits (s.descWord k 4) 0 16) → data = s.bytesAt z.owner (s.descWord k 2) (bits (s.descWord k 4) 0 16) →
      n = data.length → (bits cb 0 3 = 0 ∨ bits cb 0 3 = 3) → s.linkAny k = false → e = s.linkNbr k → s.nbrInUse e = true → s.nbrBad e = false →
    bit cb 3 = false → s.nbrSecReq e = false → (s.job k).held = none → rob = (decide (3 ≤ bits cb 0 3) || !(!bit p.entry 3 && s.nbrOfdm e)) →
      (if rob then n ≤ 123 else ofdmFits (s.mapCodes (s.nbrMap e)) (s.nbrRate e) n = true) →
      slotFits s.schedule rob (s.nbrRate e) (mapBits (s.mapCodes (s.nbrMap e))) n (bit cb 4) = true →
    (rob = false → ∀ w : Fin 5, s.mapWordBad (s.nbrMap e) w = false) → s.buffersFree ≠ [] →
      s.runs (.linkTx d) [.link, .mem, .fresh] [] (fun t => t.job k = { s.job k with block := cb, seq := none, held := (t.job k).held } ∧
      s.jobStored t k z.owner data ∧ (∀ j : Nat, j ≠ k → t.job j = s.job j) ∧ t.link = { s.link with jobs := t.link.jobs, next := t.link.next } ∧
    t.link.next = some { p with robust := rob, frame := some ⟨rob, bits cb 0 3 + (if bit cb 4 then 16 else 0) + s.get LINK.SHORT % 2 ^ 16 * 2 ^ 5 + s.nbrShort e % 128 * 2 ^ 21, s.nbrMap e, s.nbrRate e, data⟩ })) ∧
  (∀ (s : State) (d : Disturb) (p : Prep) (k e n cb link sq : Nat) (z : Slot) (data key : List Nat), s.link.next = some p → p.op = .transmit k →
    p.frame = none → s.linkOpcode k = 0x40 → s.slotAt k = some z → z.state = 3 → s.descBad k [0, 2, 3, 4] = none → d.upset = Upset.none →
    s.island .core = .running → s.rst.quiescing.contains z.owner = false →
    s.plain z.owner (s.descWord k 3) 8 → cb = ofBytesLE (s.bytesAt z.owner (s.descWord k 3) 4) →
      s.plain z.owner (s.descWord k 2) (bits (s.descWord k 4) 0 16) → data = s.bytesAt z.owner (s.descWord k 2) (bits (s.descWord k 4) 0 16) →
      n = data.length → bits cb 0 3 = 0 → s.linkAny k = false → e = s.linkNbr k → s.nbrInUse e = true → s.nbrBad e = false →
    (bit cb 3 = true ∨ s.nbrSecReq e = true) → (s.job k).held = none → bit p.entry 3 = true → n ≤ 111 →
      slotFits s.schedule true (s.nbrRate e) (mapBits (s.mapCodes (s.nbrMap e))) (n + 12) (bit cb 4) = true → s.linkKey (s.nbrKey e) = some key →
      sq = s.get LSEC.TXSEQ → sq ≠ 0 →
    link = 8 + (if bit cb 4 then 16 else 0) + s.get LINK.SHORT % 2 ^ 16 * 2 ^ 5 + s.nbrShort e % 128 * 2 ^ 21 → s.buffersFree ≠ [] →
      s.runs (.linkTx d) [.link, .mem, .fresh] [LSEC.TXSEQ, LINK.REKEY_DUE] (fun t => t.get LSEC.TXSEQ = (sq + 1) % 2 ^ 32 ∧
      (s.get LSEC.REKEY_AT = (sq + 1) % 2 ^ 32 → t.get LINK.REKEY_DUE = 1) ∧
    (t.job k).seq = some sq ∧ s.jobStored t k z.owner (((t.link.next.bind (·.frame)).map (·.payload)).getD []) ∧
      t.link.next = some { p with robust := true, frame := some ⟨true, link, s.nbrMap e, s.nbrRate e, bytesLE 4 sq ++
      ccmCrypt key (bytesLE 4 (s.get LINK.LONG_LO) ++ bytesLE 4 (s.get LINK.LONG_HI) ++ bytesLE 4 sq ++ [1]) data ++ ccmTag key (bytesLE 4 (s.get
        LINK.LONG_LO) ++ bytesLE 4 (s.get LINK.LONG_HI) ++ bytesLE 4 sq ++ [1]) (bytesLE 4 (link % 2 ^ 28)) data 8⟩ })) ∧
  (∀ (s : State) (d : Disturb) (p : Prep) (k e n cb : Nat) (z : Slot) (key : List Nat), s.link.next = some p → p.op = .transmit k → p.frame = none →
    s.linkOpcode k = 0x40 → s.ends k z → s.reportable k z → z.cancel = false → z.state = 3 → d.upset = Upset.none →
    s.plain z.owner (s.descWord k 3) 8 →
    cb = ofBytesLE (s.bytesAt z.owner (s.descWord k 3) 4) → n = bits (s.descWord k 4) 0 16 → s.plain z.owner (s.descWord k 2) n → bits cb 0 3 = 0 →
      s.linkAny k = false → e = s.linkNbr k → s.nbrInUse e = true → s.nbrBad e = false → bit cb 3 = true → (s.job k).held = none →
      (s.job k).seq = none → bit p.entry 3 = true → n ≤ 111 →
    slotFits s.schedule true (s.nbrRate e) (mapBits (s.mapCodes (s.nbrMap e))) (n + 12) (bit cb 4) = true → s.linkKey (s.nbrKey e) = some key →
      s.get LSEC.TXSEQ = 0 → s.runs (.linkTx d) [.link, .q, .mem] [QMGR.LINE, QMGR.QERROR] (fun t => s.freed t k z true ∧ t.link.next = none ∧
    t.bytesAt z.owner (s.descWord k 3 + 8) 8 = bytesLE 4 (((s.job k).flags ||| 4) + (s.job k).attempts % 16 * 2 ^ 8) ++ bytesLE 4 0 ∧
      s.outside t (s.descWord k 3 + 8) 8)) ∧
  (∀ (s : State) (d : Disturb) (p : Prep) (k e n cb : Nat) (z : Slot), s.link.next = some p → p.op = .transmit k → p.frame = none →
    s.linkOpcode k = 0x40 → s.ends k z → s.reportable k z → z.cancel = false → z.state = 3 → d.upset = Upset.none →
    s.plain z.owner (s.descWord k 3) 8 →
    cb = ofBytesLE (s.bytesAt z.owner (s.descWord k 3) 4) → n = bits (s.descWord k 4) 0 16 → s.plain z.owner (s.descWord k 2) n → bits cb 0 3 = 0 →
      s.linkAny k = false → e = s.linkNbr k → s.nbrInUse e = true → s.nbrBad e = false → bit cb 3 = false → s.nbrSecReq e = false →
      (s.job k).seq = none → bit p.entry 3 = true → n ≤ 123 →
    s.schedule.slotNs < 4000 * s.schedule.txOff + (96 + 8 * (n + 4)) * 2000 + (if bit cb 4 then 64000 + 256000 else 0) + 100000 →
      s.runs (.linkTx d) [.link, .q, .mem] [QMGR.LINE, QMGR.QERROR] (fun t => s.freed t k z true ∧ t.link.next = none ∧
    t.bytesAt z.owner (s.descWord k 3 + 8) 8 = bytesLE 4 (((s.job k).flags ||| 8) + (s.job k).attempts % 16 * 2 ^ 8) ++ bytesLE 4 0 ∧
      s.outside t (s.descWord k 3 + 8) 8)) ∧
  (∀ (s : State) (d : Disturb), (s.link.next = none ∨ (s.link.next.bind (·.frame)).isSome = true) → s.runs (.linkTx d) [] [] (fun t => t = s) ∧
    s.runs .soundTx [] [] (fun t => t = s)) ∧
  (∀ (s : State) (p : Prep) (k e : Nat) (z : Slot), s.link.next = some p → p.op = .transmit k → p.frame = none → s.linkOpcode k = 0x42 →
    s.slotAt k = some z → e = s.linkNbr k → s.descBad k [0, 2, 3, 4] = none → s.nbrInUse e = true → s.nbrBad e = false →
    slotFits s.schedule false (s.nbrRate e) 0 0 false = true →
    (z.state = 3 ∨ s.on (QMGR.Q_GATED z.queue) = false) → s.runs .soundTx [.link, .q, .fresh] [] (fun t =>
    t.slotAt k = some (if z.state = 3 then z else { z with state := 3, shown := true }) ∧ (∀ j : Nat, j ≠ k → t.slotAt j = s.slotAt j) ∧
      t.q = { s.q with slots := t.q.slots, displaced := t.q.displaced } ∧ (s.buffersFree ≠ [] → s.nextStored t []) ∧
    t.link = { s.link with next := some { p with robust := false, buf := t.link.next.bind Prep.buf, frame := some ⟨false, 5 + s.get LINK.SHORT % 2 ^ 16 * 2 ^ 5 + s.nbrShort e % 128 * 2 ^ 21, s.soundMap k, s.nbrRate e, []⟩ } })) ∧
  (∀ (s : State) (p : Prep) (k e : Nat) (z : Slot), s.link.next = some p → p.op = .transmit k → p.frame = none → s.linkOpcode k = 0x42 → s.ends k z →
    z.state = 3 → e = s.linkNbr k → s.nbrInUse e = true → s.nbrBad e = false → slotFits s.schedule false (s.nbrRate e) 0 0 false = false →
    s.runs .soundTx [.link, .q] [QMGR.LINE, QMGR.QERROR] (fun t => s.freed t k z true ∧ t.link.next = none)) ∧
  (∀ (s : State) (p : Prep) (k : Nat) (z : Slot), s.link.next = some p → p.op = .transmit k → p.frame = none → s.linkOpcode k = 0x42 →
    s.slotAt k = some z → z.state = 3 → s.descBad k [0, 2, 3, 4] = none → s.nbrInUse (s.linkNbr k) = false →
    s.runs .soundTx [.link] [] (fun t => t.link = { s.link with next := none })) ∧
  (∀ (s : State) (p : Prep) (w : Option Nat), s.link.next.or s.link.cur = some p → p.op = .window w →
    s.runs .linkRx [.q] [] (fun t => (∀ k : Fin 2048, t.slotAt k = (s.slotAt k).map (fun z => if z.state ≠ 3 ∧ k.val ∈ s.linkHeads 0x31 ∧
    s.rxEligible p.entry k = true ∧ s.linkOpcode k = 0x41 then { z with state := 3, shown := true } else z)) ∧
    t.q.queues = s.q.queues ∧ t.q.active = s.q.active)) ∧
  (∀ (s : State) (p : Prep) (k : Nat) (z : Slot), s.link.next.or s.link.cur = some p → p.op = .window (some k) → s.slotAt k = some z →
    s.on (QMGR.Q_GATED z.queue) = false → Table.find s.link.soundings k = none →
    s.runs .soundRx [.q, .link] [] (fun t => t.slotAt k = some (if z.state = 3 then z else { z with state := 3, shown := true }) ∧
    t.soundingOf k = ⟨bits (s.descWord k 2) 0 5, List.replicate 48 4, false, 0, none, none, 0⟩ ∧
      t.link = { s.link with soundings := t.link.soundings })) ∧
  (∀ (s : State) (k : Fin 2048) (n : Nat) (z : Slot) (d : Disturb), d.upset = Upset.none → s.link.prepared = some n → (z.state = 2 ∨ z.state = 3 ∧
    (s.job k).attempts = 0 ∧ s.inAttempt k = false ∧ (s.link.next.map (fun p => p.serves k)).getD false = false) → bits (s.descWord k 0) 8 6 = 0x30 →
    s.get (QMGR.Q_CONSUMER z.queue) = 0x30 → s.descValid k 0x30 = true → bit (s.blockWord k 0) 8 = true → tickReached n (s.blockWord k 1) = true →
    s.ends k z → s.reportable k z →
    s.runs (.slotLate k d) [.link, .q, .mem, .post] [LINK.SLOT_LATE_EVT, QMGR.LINE, QMGR.QERROR, FAULT.OVERFLOW 0, FAULT.OVERFLOW 1, FAULT.OVERFLOW
      2, FAULT.OVERFLOW 3] (fun t => s.freed t k z true ∧ t.get LINK.SLOT_LATE_EVT = 1 ∧
      t.post = (s.missRecord z.owner (if Table.find s.q.displaced k.val = some z.owner then 0x84 else 4) (slotAddr k) 0x40).post ∧
    t.bytesAt z.owner (s.descWord k 3 + 8) 8 = jobReport (s.job k) ∧ s.outside t (s.descWord k 3 + 8) 8)) ∧
  (∀ (s : State) (k : Fin 2048) (d : Disturb), (s.slotAt k = none ∨ s.link.prepared = none ∨ (s.slotAt k).map (·.state) ≠ some 2 ∧
    (s.slotAt k).map (·.state) ≠ some 3 ∨ s.linkOpcode k ≠ 0x40 ∨ bit (s.blockWord k 0) 8 = false) → s.runs (.slotLate k d) [] [] (fun t => t = s)) ∧
  (∀ (s : State) (k : Fin 2048) (z : Slot) (d : Disturb), d.upset = Upset.none → s.linkActive k = true → s.linkOpcode k = 0x41 →
    s.deadlinePassed k = true → s.inAttempt k = false → s.inWindow k = false → s.link.taker ≠ some k.val → s.slotAt k = some z →
    s.descBad k [0, 3, 4, 7] = none → z.owner < 4 → s.get (QMGR.RING_SIZE z.owner) = 0 →
    s.runs (.linkDeadlineStop k d) [.link, .q, .post] [QMGR.LINE, QMGR.QDEADLINE, FAULT.OVERFLOW 0, FAULT.OVERFLOW 1, FAULT.OVERFLOW 2,
      FAULT.OVERFLOW 3] (fun t => t.slotAt k = none ∧ bit (t.get QMGR.QDEADLINE) z.owner = true ∧
      t.post = (s.missRecord z.owner 2 (slotAddr k) 0x22).post ∧
    t.queueAt z.queue = (s.queueAt z.queue).filter (· != k.val))) ∧
  (∀ (s : State) (k : Fin 2048) (d : Disturb), (s.linkActive k = false ∨ s.deadlinePassed k = false ∨ (s.inAttempt k = true ∨ s.inWindow k = true) ∧
    (s.phy.op = .txAir ∨ s.phy.op = .rxOpen ∨ s.phy.op = .rxSync ∨ s.phy.op = .rxHeader) ∨ s.link.taker = some k.val) →
    s.runs (.linkDeadlineStop k d) [] [] (fun t => t = s))

/-- Chapter 15, reception (R602, R603, R605, R606, R608, R610 to R612, R628). -/
def Obligations.LinkReception : Prop :=
  (∀ (s : State) (d : Disturb) (x : RxFrame) (k : Nat) (z : Slot) (nbr : Option Nat), s.received x k z d → s.ends k z → (bits x.frame.link 0 3 = 0 ∨
    bits x.frame.link 0 3 = 3 ∨ bits x.frame.link 0 3 = 4) → bit x.frame.link 3 = false → nbr = s.findSender (bits x.frame.link 5 16) →
    nbr.any (fun e => s.nbrSecReq e) = false →
    s.deliverable k z x.frame.payload.length → s.unheard 0x7A → d.upset = Upset.none → (∀ b ∈ x.frame.payload, b < 256) →
      s.runs (.linkFrameReceived d) [.phy, .link, .q, .mem] [QMGR.LINE, QMGR.QERROR, LINK.JOIN_RX] (fun t => s.freed t k z false ∧
      s.dealt t (s.ackFor x nbr) ∧
    t.bytesAt z.owner (s.descWord k 3) (16 + x.frame.payload.length) = rxReport x.frame.link x.frame.robust nbr false x.frame.payload.length x.rssi
      x.chan 0 (x.sync % 2 ^ 32) ++ x.frame.payload ∧
    s.outsideBoth t (s.descWord k 3) (16 + x.frame.payload.length) ∧ (∀ e : Fin 64, nbr = some e.val → bits (t.nbr e 4) 16 9 = 256 + x.rssi % 256) ∧
      t.get LINK.JOIN_RX = (if bits x.frame.link 0 3 = 0 then s.get LINK.JOIN_RX else 1))) ∧
  (∀ (s : State) (d : Disturb) (x : RxFrame) (k e sq : Nat) (z : Slot) (key data : List Nat), s.received x k z d → s.ends k z →
    bits x.frame.link 0 3 = 0 → bit x.frame.link 3 = true → s.findSender (bits x.frame.link 5 16) = some e →
    sq = ofBytesLE (x.frame.payload.take 4) → s.nbr e 3 < sq → sq < 2 ^ 32 →
    s.linkKey (if bits x.frame.link 21 7 = 0x7F then s.get LSEC.BCAST_KEY else s.nbrKey e) = some key →
      openPayload key (bytesLE 4 (s.nbr e 1) ++ bytesLE 4 (s.nbr e 2) ++ bytesLE 4 sq ++ [1]) x.frame.link x.frame.payload = some data →
      (∀ b ∈ data, b < 256) → s.deliverable k z data.length → s.unheard 0x7A → d.upset = Upset.none →
    s.runs (.linkFrameReceived d) [.phy, .link, .q, .mem] [QMGR.LINE, QMGR.QERROR] (fun t => s.freed t k z false ∧ s.dealt t (s.ackFor x (some e)) ∧
      t.nbr e 3 = sq ∧ bits (t.nbr e 4) 16 9 = 256 + x.rssi % 256 ∧ s.outsideBoth t (s.descWord k 3) (16 + data.length) ∧
    t.bytesAt z.owner (s.descWord k 3) (16 + data.length) = rxReport x.frame.link x.frame.robust (some e) false data.length x.rssi x.chan sq (x.sync
      % 2 ^ 32) ++ data)) ∧
  (∀ (s : State) (d : Disturb) (x : RxFrame) (k e : Nat) (z : Slot), s.received x k z d → bits x.frame.link 0 3 = 0 → bit x.frame.link 3 = false →
    s.findSender (bits x.frame.link 5 16) = some e → s.nbrSecReq e = true →
    s.runs (.linkFrameReceived d) [.phy, .link, .mem] [LINK.LINE] (fun t => s.dealt t none ∧ t.slotAt k = some z ∧ t.nbr e 5 = s.nbr e 5 ||| 4 ∧
      (bit (s.nbr e 0) 18 = true → bit (t.get LINK.LINE) (bits (s.nbr e 0) 19 2) = true) ∧ s.outside t (nbrAddr e 5) 4)) ∧
  (∀ (s : State) (d : Disturb) (x : RxFrame) (k e : Nat) (z : Slot), s.received x k z d → bits x.frame.link 0 3 = 0 → bit x.frame.link 3 = true →
    s.findSender (bits x.frame.link 5 16) = some e → ofBytesLE (x.frame.payload.take 4) < s.nbr e 3 →
    s.runs (.linkFrameReceived d) [.phy, .link, .mem, .post] [LINK.LINE, FAULT.OVERFLOW 0, FAULT.OVERFLOW 1, FAULT.OVERFLOW 2, FAULT.OVERFLOW 3] (fun
      t => s.dealt t none ∧ t.slotAt k = some z ∧ t.nbr e 5 = s.nbr e 5 ||| 1 ∧ s.outside t (nbrAddr e 5) 4 ∧
    t.post = (s.fault (s.owner 9 e) causeReplay 0 (s.owner 9 e) e 0x40).post)) ∧
  (∀ (s : State) (d : Disturb) (x : RxFrame) (k e : Nat) (z : Slot), s.received x k z d → bits x.frame.link 0 3 = 0 → bit x.frame.link 3 = true →
    s.findSender (bits x.frame.link 5 16) = some e → ofBytesLE (x.frame.payload.take 4) = s.nbr e 3 →
    s.runs (.linkFrameReceived d) [.phy, .link, .mem] [LINK.LINE] (fun t => s.dealt t (s.ackFor x (some e)) ∧ t.slotAt k = some z ∧
      t.nbr e 5 = s.nbr e 5 ||| 16 ∧ s.outside t (nbrAddr e 5) 4)) ∧
  (∀ (s : State) (d : Disturb) (x : RxFrame) (k e : Nat) (z : Slot) (key : List Nat), s.received x k z d → bits x.frame.link 0 3 = 0 →
    bit x.frame.link 3 = true → s.findSender (bits x.frame.link 5 16) = some e → s.nbr e 3 < ofBytesLE (x.frame.payload.take 4) →
    s.frameKey (bits x.frame.link 21 7 == 0x7F) e = some key →
    openPayload key (linkNonce (s.nbr e 1) (s.nbr e 2) (ofBytesLE (x.frame.payload.take 4))) x.frame.link x.frame.payload = none →
      s.runs (.linkFrameReceived d) [.phy, .link, .mem] [LINK.LINE] (fun t =>
    s.dealt t (s.ackFor x (some e)) ∧ t.slotAt k = some z ∧ t.nbr e 5 = s.nbr e 5 ||| 2 ∧ t.nbr e 3 = s.nbr e 3 ∧ s.outside t (nbrAddr e 5) 4)) ∧
  (∀ (s : State) (d : Disturb) (r : BufRef) (x : RxFrame) (a k : Nat) (z : Slot), s.rxWhole = some x → s.link.rxHeld = some r →
    s.bufFails r d 0x500 = some a → s.link.taker = some k → s.link.ackWait = false → s.link.ackOwed = none → s.scanReady = false → s.ends k z →
    bits x.frame.link 0 3 = 0 →
    s.runs (.linkFrameReceived d) [.phy, .link, .q, .mem, .post] [QMGR.LINE, QMGR.QERROR, FAULT.OVERFLOW 0, FAULT.OVERFLOW 1, FAULT.OVERFLOW 2,
      FAULT.OVERFLOW 3] (fun t => s.freed t k z true ∧ s.dealt t none ∧ t.eccBad a = true ∧ t.post = (s.bufRecord r a).post)) ∧
  (∀ (s : State) (d : Disturb), (s.link.rx = none ∨ s.link.taker = none ∨ s.link.ackWait = true) →
    s.runs (.linkFrameReceived d) [] [] (fun t => t = s) ∧ s.runs (.soundReqReceived d) [] [] (fun t => t = s) ∧
    s.runs (.soundRespReceived d) [] [] (fun t => t = s))

/-- Chapter 15, acknowledgement and retries (R612, R613, R615, R619). The number drawn is a free value (assumption log 3). -/
def Obligations.LinkAcknowledgements : Prop :=
  (∀ (s : State) (f : AirFrame) (pwr : Nat), s.link.ackOwed = some (f, pwr) → s.up .radio = true → s.on SUPPLY.PGOOD = true → (f.payload ≠ [] →
    ∀ w : Fin 5, s.mapWordBad f.map w = false) →
    s.runs .ackSend [.phy, .link, .mem, .fresh] [RFPHY.CHAN, RFPHY.PLL_LOCK] (fun t => t.link =
    { s.link with ackOwed := none, rx := none, taker := none, rxHeld := none, own := t.link.own } ∧ (s.buffersFree ≠ [] →
    (∀ b ∈ f.payload, b < 256) → s.ownStored t f.payload) ∧ t.phy.op = .txAir ∧ t.phy.chan = s.phy.chan ∧ t.phy.robust = f.robust ∧
    t.phy.frame = some f ∧ t.phy.pwr = min pwr (if f.robust then 30 else 26) ∧ (f.robust = true →
      t.phy.airBits = robustBits s.phy.chan (bytesLE 4 (f.link % 2 ^ 28) ++ f.payload)) ∧ (f.robust = false →
      t.phy.header = makeHeader f.map f.rate f.payload.length f.link))) ∧
  (∀ (s : State) (f : AirFrame) (pwr : Nat), s.link.ackOwed = some (f, pwr) → s.up .radio = true → s.on SUPPLY.PGOOD = false →
    s.runs .ackSend [.phy, .link] [LINK.LOW_ENERGY] (fun t => t.get LINK.LOW_ENERGY = 1 ∧ t.link.ackOwed = none ∧ t.link.cur = none ∧
    t.phy = { s.phy with op := .idle, target := none })) ∧
  (∀ s : State, (s.link.ackOwed = none ∨ s.up .radio = false) → s.runs .ackSend [] [] (fun t => t = s)) ∧
  (∀ (s : State) (d : Disturb) (x : RxFrame) (k : Nat) (z : Slot), s.link.rx = some x → s.sending = some k → s.link.ackWait = true →
    bits x.frame.link 0 3 = 2 → bits x.frame.link 21 7 = s.get LINK.SHORT % 128 → (bits (s.job k).block 0 3 = 4 ∨
    bits x.frame.link 5 16 = s.nbrShort (s.linkNbr k)) → s.ends k z → s.reportable k z → z.cancel = false → d.upset = Upset.none →
    s.runs (.ackReceived d) [.phy, .link, .q, .mem] [QMGR.LINE, QMGR.QERROR] (fun t => s.freed t k z false ∧ t.link.cur = none ∧
      t.link.ackWait = false ∧ t.phy.op = .idle ∧ (∀ e : Fin 64, s.findSender (bits x.frame.link 5 16) = some e.val →
      bits (t.nbr e 4) 16 9 = 256 + x.rssi % 256) ∧
    t.bytesAt z.owner (s.descWord k 3 + 8) 8 = bytesLE 4 (((s.job k).flags ||| 1) + (s.job k).attempts % 16 * 2 ^ 8) ++ bytesLE 4 ((s.job k).seq.getD
      0) ∧ s.outsideBoth t (s.descWord k 3 + 8) 8)) ∧
  (∀ (s : State) (d : Disturb) (x : RxFrame) (k : Nat) (z : Slot), s.link.rx = some x → s.answering = some k → s.link.ackWait = true →
    bits x.frame.link 0 3 = 2 → bits x.frame.link 21 7 = s.get LINK.SHORT % 128 → bits x.frame.link 5 16 = s.nbrShort (s.linkNbr k) → s.ends k z →
    s.runs (.ackReceived d) [.phy, .link, .q, .mem] [QMGR.LINE, QMGR.QERROR, LINK.SOUNDING_DONE] (fun t => s.freed t k z false ∧ t.link.cur = none ∧
      t.link.ackWait = false ∧ t.phy.op = .idle ∧ t.get LINK.SOUNDING_DONE = 1)) ∧
  (∀ (s : State) (d : Disturb) (x : RxFrame) (k : Nat), s.link.rx = some x → s.sending = some k → s.link.ackWait = true →
    (bits x.frame.link 0 3 ≠ 2 ∨ bits x.frame.link 21 7 ≠ s.get LINK.SHORT % 128 ∨ bits (s.job k).block 0 3 ≠ 4 ∧
    bits x.frame.link 5 16 ≠ s.nbrShort (s.linkNbr k)) →
    s.runs (.ackReceived d) [.phy, .link, .mem] [] (fun t => t.link = { s.link with rx := none, rxHeld := none } ∧
      t.phy = { s.phy with op := .rxOpen, frame := none } ∧
    (bits x.frame.link 0 3 = 2 → ∀ e : Fin 64, s.findSender (bits x.frame.link 5 16) = some e.val → bits (t.nbr e 4) 16 9 = 256 + x.rssi % 256))) ∧
  (∀ (s : State) (d : Disturb), (s.link.rx = none ∨ s.link.ackWait = false ∨ s.link.cur = none) → s.runs (.ackReceived d) [] [] (fun t => t = s)) ∧
  (∀ (s : State) (d : Disturb) (k : Nat) (z : Slot), s.sending = some k → s.link.ackWait = true → s.linkOpcode k = 0x40 → s.slotAt k = some z →
    z.cancel = false → (s.job k).attempts ≤ bits (s.job k).block 5 3 → s.runs (.ackTimeout d) [.phy, .link, .fresh] [] (fun t => t.link.cur = none ∧
    t.link.ackWait = false ∧ t.phy.op = .idle ∧
    t.job k = { s.job k with skip := (t.job k).skip } ∧ (t.job k).skip < 2 ^ min (s.job k).attempts 3)) ∧
  (∀ (s : State) (d : Disturb) (k : Nat) (z : Slot), s.sending = some k → s.link.ackWait = true → s.ends k z → s.reportable k z → z.cancel = false →
    bits (s.job k).block 5 3 < (s.job k).attempts → bit (s.job k).block 4 = true → s.linkAny k = false → s.nbrBad (s.linkNbr k) = false →
    d.upset = Upset.none → s.runs (.ackTimeout d) [.phy, .link, .q, .mem] [QMGR.LINE, QMGR.QERROR, LINK.LINE] (fun t =>
    s.freed t k z false ∧ t.link.cur = none ∧ t.phy.op = .idle ∧ t.nbr (s.linkNbr k) 5 = s.nbr (s.linkNbr k) 5 ||| 8 ∧
      t.bytesAt z.owner (s.descWord k 3 + 8) 8 = jobReport (s.job k) ∧ s.outsideBoth t (s.descWord k 3 + 8) 8)) ∧
  (∀ (s : State) (d : Disturb) (k : Nat), s.answering = some k → s.link.ackWait = true → (s.soundingOf k).tries ≤ 3 →
    s.runs (.ackTimeout d) [.phy, .link, .fresh] [] (fun t => t.link.cur = none ∧ t.link.ackWait = false ∧ t.phy.op = .idle ∧
    t.soundingOf k = { s.soundingOf k with skip := (t.soundingOf k).skip } ∧ (t.soundingOf k).skip < 2 ^ min (s.soundingOf k).tries 3)) ∧
  (∀ (s : State) (d : Disturb) (k : Nat) (z : Slot), s.answering = some k → s.link.ackWait = true → 3 < (s.soundingOf k).tries → s.ends k z →
    s.nbrBad (s.linkNbr k) = false → s.runs (.ackTimeout d) [.phy, .link, .q, .mem] [QMGR.LINE, QMGR.QERROR, LINK.LINE, LINK.SOUNDING_DONE] (fun t =>
    s.freed t k z false ∧ t.link.cur = none ∧ t.phy.op = .idle ∧ t.get LINK.SOUNDING_DONE = 1 ∧ t.nbr (s.linkNbr k) 5 = s.nbr (s.linkNbr k) 5 ||| 8 ∧
      s.outside t (nbrAddr (s.linkNbr k) 5) 4)) ∧
  (∀ (s : State) (d : Disturb), (s.link.ackWait = false ∨ s.link.cur = none) → s.runs (.ackTimeout d) [] [] (fun t => t = s))

/-- Chapter 15, the sounding exchange (R622). -/
def Obligations.Soundings : Prop :=
  (∀ (s : State) (x : RxFrame) (k e m : Nat) (z : Slot) (y : Sounding) (d : Disturb), d.upset = Upset.none → s.received x k z d →
    bits x.frame.link 0 5 = 5 → s.findSender (bits x.frame.link 5 16) = some e → s.nbrSecReq e = false → m = s.soundMap k → x.frame.map = m →
    y = s.soundingOf k → y.owed = false → y.codes.length = 48 → 1 < y.left →
    s.runs (.soundReqReceived d) [.phy, .link, .mem] [] (fun t => s.dealt t none ∧
      t.soundingOf k = { y with left := y.left - 1, codes := List.zipWith min y.codes (s.mapCodes m) } ∧ bits (t.nbr e 4) 16 9 = 256 + x.rssi % 256 ∧
      s.outside t (nbrAddr e 4) 4 ∧ t.slotAt k = some z)) ∧
  (∀ (s : State) (x : RxFrame) (k e m : Nat) (z : Slot) (y : Sounding) (d : Disturb), d.upset = Upset.none → s.received x k z d →
    bits x.frame.link 0 5 = 5 → s.findSender (bits x.frame.link 5 16) = some e → s.nbrSecReq e = false → m = s.soundMap k → x.frame.map = m →
    y = s.soundingOf k → y.owed = false → y.codes.length = 48 → (∀ c ∈ y.codes, c ≤ 4) → y.left = 1 →
    s.runs (.soundReqReceived d) [.phy, .link, .mem] [] (fun t => s.dealt t none ∧ (t.soundingOf k).owed = true ∧ (t.soundingOf k).left = 0 ∧
      (∀ i : Fin 48, nth (t.mapCodes m) i = min (nth y.codes i) (nth (s.mapCodes m) i) - bits (s.descWord k 2) 16 2) ∧
      (t.soundingOf k).codes = t.mapCodes m ∧
    ∀ b : Nat, (b < mapAddr m ∨ mapAddr m + 20 ≤ b) → (b < nbrAddr e 4 ∨ nbrAddr e 4 + 4 ≤ b) → t.ramByte b = s.ramByte b)) ∧
  (∀ (s : State) (d : Disturb) (x : RxFrame) (k j e m : Nat) (z w : Slot), s.received x k z d → bits x.frame.link 0 4 = 6 →
    s.findSender (bits x.frame.link 5 16) = some e → s.nbrSecReq e = false → s.ends k z → s.deliverable k z x.frame.payload.length →
    d.upset = Upset.none → s.unheard 0x7A → (∀ b ∈ x.frame.payload, b < 256) →
    x.frame.payload.length = 20 → m = nth x.frame.payload 0 % 32 → s.soundWaiting e m = some j → s.ends j w → j ≠ k → w.queue ≠ z.queue →
      (∀ n : Fin 64, n.val ≠ w.queue → s.queueAt n = [] ∨ s.get (QMGR.Q_CONSUMER n) ≠ 0x30) →
    s.runs (.soundRespReceived d) [.phy, .link, .q, .mem] [QMGR.LINE, QMGR.QERROR, LINK.LINE, LINK.SOUNDING_DONE] (fun t => t.slotAt k = none ∧
      t.slotAt j = none ∧ t.get LINK.SOUNDING_DONE = 1 ∧ t.get QMGR.QERROR = s.get QMGR.QERROR ∧ s.dealt t (s.ackFor x (some e)) ∧
    (∀ i : Fin 48, nth (t.mapCodes m) i = bits (ofBytesLE ((x.frame.payload.drop 2).take 18)) (3 * i) 3) ∧ t.nbrMap e = m ∧
      t.nbrRate e = nth x.frame.payload 1 % 4 ∧ t.nbrOfdm e = true ∧ bit (t.nbr e 5) 5 = true ∧
    t.bytesAt z.owner (s.descWord k 3) 36 = rxReport x.frame.link x.frame.robust (some e) false 20 x.rssi x.chan 0 (x.sync % 2 ^ 32) ++
      x.frame.payload))

/-- Chapter 15, keys and sequence numbers (R607, R608, Table 15.13) and R588. That the staging registers are emptied by LOAD is
notes/assumptions/15.md. -/
def Obligations.LinkKeysAndNumbers : Prop :=
  (∀ (s : State) (m : Master) (k : Nat), s.admits m 0x17 0x24 true → k = s.get LSEC.KEY_SEL → s.get LSEC.LOAD = 0 → s.get LSEC.CLEAR = 0 →
    s.runs (.lsecLoad m) [.link] [LSEC.KEY_VALID] (fun t => bit (t.get LSEC.KEY_VALID) k = true ∧
    t.linkKey k = some ((List.range 16).map (fun i => bits ((s.link.stage.toList.map (·.toNat)).getD (i / 4) 0) (8 * (i % 4)) 8)) ∧
      (∀ j : Fin 16, j.val ≠ k → bit (t.get LSEC.KEY_VALID) j = bit (s.get LSEC.KEY_VALID) j ∧
      Table.find t.link.keys j = Table.find s.link.keys j))) ∧
  (∀ (s : State) (m : Master) (k : Nat), s.admits m 0x17 0x24 true → k = s.get LSEC.KEY_SEL → s.get LSEC.LOAD = 0 → s.get LSEC.CLEAR = 0 →
    s.runs (.lsecClear m) [.link] [LSEC.KEY_VALID] (fun t => bit (t.get LSEC.KEY_VALID) k = false ∧ t.linkKey k = none ∧
    Table.find t.link.keys k = none ∧
    t.link = { s.link with keys := t.link.keys } ∧ (∀ j : Fin 16, j.val ≠ k → bit (t.get LSEC.KEY_VALID) j = bit (s.get LSEC.KEY_VALID) j ∧
      Table.find t.link.keys j = Table.find s.link.keys j))) ∧
  (∀ (s : State) (m : Master) (v : Word), s.admits m 0x17 0x2C true → s.runs (.lsecTxseqWrite m v) [] [LSEC.TXSEQ, LINK.REKEY_DUE] (fun t =>
    t.get LSEC.TXSEQ = (if v.toNat < s.get LSEC.TXSEQ ∧ s.get LSEC.KEY_VALID ≠ 0 then s.get LSEC.TXSEQ else v.toNat) ∧
    t.get LINK.REKEY_DUE = (if s.get LSEC.TXSEQ < s.get LSEC.REKEY_AT ∧ s.get LSEC.REKEY_AT ≤ v.toNat then 1 else s.get LINK.REKEY_DUE))) ∧
  (∀ (s : State) (m : Master) (n : Nat), s.admits m 0x16 0x34 false → n = s.schedule.asn s.now →
    s.runs (.linkAsnLoRead m) [.answer] [LINK.ASN_HI] (fun t => t.answer = BitVec.ofNat 32 n ∧ t.get LINK.ASN_HI = n / 2 ^ 32))

/-- Chapter 16, loop configuration (R643 to R645). Which binding a disabling write refers to is notes/assumptions/16.md. -/
def Obligations.LoopConfiguration : Prop :=
  (∀ (s : State) (m : Master) (n : Fin 16) (v : Word) (c : Nat) (ok : Bool), s.admits m 0x18 (0x100 + 0x10 * n) true → s.on (CTRL.EN n) = false →
    bits v.toNat 8 6 = s.get (CTRL.FIRST n) → c = s.get (CTRL.COUNT n) → bits v.toNat 16 4 = c → c ≤ 8 → bits v.toNat 21 3 ≤ 5 →
    s.srcOwner (104 + bits v.toNat 25 2) = s.owner tblLoop n →
    ok = (decide (1 ≤ c) && (List.range (bits v.toNat 16 4)).all (fun p => decide (1 ≤ bits (s.stageCfg n (s.get (CTRL.FIRST n) + p) 16) 0 3) &&
      decide (bits (s.stageCfg n (s.get (CTRL.FIRST n) + p) 16) 0 3 ≤ 5) && (usedOperands (s.stageCfg n (s.get (CTRL.FIRST n) + p) 16) (s.stageCfg n
      (s.get (CTRL.FIRST n) + p) 17)).all (fun o => s.operandOk n c o)) && (!bit v.toNat 20 || s.owner tblPair (bits v.toNat 21 3) == s.owner tblLoop
      n)) →
    s.runs (.loopEnWrite m n v) [] [CTRL.EN n, CTRL.CFG_REJ n, CTRL.OUT_EN n, CTRL.OUT_PAIR n, CTRL.LINE_EN n, CTRL.LINE_SEL n, CTRL.ON_COMMIT n,
      CTRL.ON_MISS n, CTRL.ON_WRAP n] (fun t => t.get (CTRL.EN n) = (if ok then 1 else 0) ∧
      t.get (CTRL.CFG_REJ n) = (if ok then s.get (CTRL.CFG_REJ n) else 1) ∧
    t.get (CTRL.OUT_EN n) = bits v.toNat 20 1 ∧ t.get (CTRL.OUT_PAIR n) = bits v.toNat 21 3 ∧ t.get (CTRL.LINE_SEL n) = bits v.toNat 25 2 ∧
      t.get (CTRL.ON_COMMIT n) = bits v.toNat 28 1)) ∧
  (∀ (s : State) (m : Master) (n : Fin 16) (v : Word), s.admits m 0x18 (0x100 + 0x10 * n) true → s.on (CTRL.EN n) = true →
    bits v.toNat 8 6 = s.get (CTRL.FIRST n) → bits v.toNat 16 4 = s.get (CTRL.COUNT n) →
    s.runs (.loopDisable m n v) [.ctl, .fresh] ([CTRL.EN n, CTRL.OUT_EN n, CTRL.OUT_PAIR n, CTRL.LINE_EN n, CTRL.LINE_SEL n, CTRL.ON_COMMIT n,
      CTRL.ON_MISS n, CTRL.ON_WRAP n, CTRL.HELD n, PWM.LATCHED (s.get (CTRL.OUT_PAIR n)), PWM.SAFE (s.get (CTRL.OUT_PAIR n))] ++ (List.range 16).map
      CTRL.RUNNING ++ (List.range 16).map CTRL.BIND_DENIED) (fun t =>
    t.get (CTRL.EN n) = 0 ∧ t.sampleAt n = none ∧ t.get (CTRL.HELD n) = 0 ∧ t.get (CTRL.RUNNING n) = 0 ∧ (s.on (CTRL.OUT_EN n) = true →
      t.get (PWM.LATCHED (s.get (CTRL.OUT_PAIR n))) = 1 ∧ t.get (PWM.SAFE (s.get (CTRL.OUT_PAIR n))) = 1) ∧
    (s.on (CTRL.OUT_EN n) = false → t.get (PWM.LATCHED (s.get (CTRL.OUT_PAIR n))) = s.get (PWM.LATCHED (s.get (CTRL.OUT_PAIR n)))))) ∧
  (∀ (s : State) (m : Master) (n : Fin 16) (v : Word) (ok : Bool), s.admits m 0x18 (0x100 + 0x10 * n) true → s.on (CTRL.EN n) = false →
    bit v.toNat 0 = false → bits v.toNat 16 4 ≤ 8 →
    ok = (bits v.toNat 16 4 == 0 || (decide (bits v.toNat 8 6 + bits v.toNat 16 4 ≤ 64) && (List.range 16).all (fun k => k == n.val || s.get
      (CTRL.COUNT k) == 0 || decide (bits v.toNat 8 6 + bits v.toNat 16 4 ≤ s.get (CTRL.FIRST k)) || decide (s.get (CTRL.FIRST k) + s.get (CTRL.COUNT
      k) ≤ bits v.toNat 8 6)))) →
    ¬(bits v.toNat 8 6 = s.get (CTRL.FIRST n) ∧ bits v.toNat 16 4 = s.get (CTRL.COUNT n)) →
    s.runs (.loopRangeWrite m n v) [] [CTRL.FIRST n, CTRL.COUNT n, CTRL.CFG_REJ n, CTRL.OUT_EN n, CTRL.OUT_PAIR n, CTRL.LINE_EN n, CTRL.LINE_SEL n,
      CTRL.ON_COMMIT n, CTRL.ON_MISS n, CTRL.ON_WRAP n] (fun t => t.get (CTRL.FIRST n) = (if ok then bits v.toNat 8 6 else s.get (CTRL.FIRST n)) ∧
    t.get (CTRL.COUNT n) = (if ok then bits v.toNat 16 4 else s.get (CTRL.COUNT n)) ∧
      t.get (CTRL.CFG_REJ n) = (if ok then s.get (CTRL.CFG_REJ n) else 1))) ∧
  (∀ (s : State) (m : Master) (n : Fin 16) (v : Word), s.admits m 0x18 (0x100 + 0x10 * n) true → s.on (CTRL.EN n) = true → bit v.toNat 0 = true →
    s.runs (.loopRangeWrite m n v) [] [CTRL.OUT_EN n, CTRL.OUT_PAIR n, CTRL.LINE_EN n, CTRL.LINE_SEL n, CTRL.ON_COMMIT n, CTRL.ON_MISS n,
    CTRL.ON_WRAP n] (fun t =>
    t.get (CTRL.FIRST n) = s.get (CTRL.FIRST n) ∧ t.get (CTRL.COUNT n) = s.get (CTRL.COUNT n) ∧ t.get (CTRL.EN n) = s.get (CTRL.EN n) ∧
      if s.srcOwner (104 + bits v.toNat 25 2) = s.owner tblLoop n then t.get (CTRL.LINE_EN n) = bits v.toNat 24 1 ∧
      t.get (CTRL.LINE_SEL n) = bits v.toNat 25 2
    else t.get (CTRL.LINE_EN n) = min (bits v.toNat 24 1) (s.get (CTRL.LINE_EN n)) ∧ t.get (CTRL.LINE_SEL n) = s.get (CTRL.LINE_SEL n)))

/-- Chapter 16, samples (R646 to R652). When operands are read and the reserved sign code are notes/assumptions/16.md and 3.md; the idle step is
notes/assumptions/5.md. -/
def Obligations.LoopSamples : Prop :=
  (∀ (s : State) (n : Fin 16), s.sinkReady (8 + n) → s.up .control = true → s.on (CTRL.EN n) = true → s.ctl.samples = [] → s.ctl.stage = none →
    1 ≤ s.get (CTRL.COUNT n) → s.runs (.loopTrigger n) [.ctl, .fresh] [CTRL.RUNNING n, CTRL.BIND_DENIED n] (fun t => t.get (CTRL.RUNNING n) = 1 ∧
    t.ctl = { s.ctl with samples := t.ctl.samples, stage := some n.val } ∧
      t.sampleAt n = some ⟨[], [], [], some ((s.computeStage n 0 []).y, (s.computeStage n 0 []).s0, (s.computeStage n 0 []).s1, (s.computeStage n 0
      []).wrap)⟩ ∧
    (∀ k : Fin 16, k ≠ n → t.sampleAt k = none) ∧
      t.get (CTRL.BIND_DENIED n) = (if (s.computeStage n 0 []).denied then 1 else s.get (CTRL.BIND_DENIED n)))) ∧
  (∀ (s : State) (n k : Fin 16), s.sinkReady (8 + n) → s.up .control = true → s.on (CTRL.EN n) = true → s.ctl.stage = some k.val →
    s.sampleAt n = none → s.runs (.loopTrigger n) [.ctl] [CTRL.RUNNING n] (fun t => t.get (CTRL.RUNNING n) = 1 ∧
    t.sampleAt n = some ⟨[], [], [], none⟩ ∧ t.ctl = { s.ctl with samples := t.ctl.samples } ∧
    ∀ j : Fin 16, j ≠ n → t.sampleAt j = s.sampleAt j)) ∧
  (∀ (s : State) (n : Fin 16) (x : Sample), s.sinkReady (8 + n) → s.up .control = true → s.on (CTRL.EN n) = true → s.sampleAt n = some x →
    s.on (CTRL.HELD n) = false → s.runs (.loopTrigger n) [] [CTRL.HELD n] (fun t => t.get (CTRL.HELD n) = 1)) ∧
  (∀ (s : State) (n : Fin 16) (x : Sample), s.sinkReady (8 + n) → s.up .control = true → s.on (CTRL.EN n) = true → s.sampleAt n = some x →
    s.on (CTRL.HELD n) = true → s.runs (.loopTrigger n) [.post] [CTRL.TRIG_LOST n, CTRL.MISS n, CTRL.DEADLINE_MISS, CTRL.LINE, FAULT.OVERFLOW 0,
    FAULT.OVERFLOW 1, FAULT.OVERFLOW 2, FAULT.OVERFLOW 3] (fun t =>
    t.get (CTRL.TRIG_LOST n) = 1 ∧ t.get (CTRL.MISS n) = 1 ∧ t.get CTRL.DEADLINE_MISS = 1 ∧
      t.post = (s.missRecord (s.owner tblLoop n) 1 n 0x50).post ∧ (s.on (CTRL.LINE_EN n) = true → s.on (CTRL.ON_MISS n) = true →
      bit (t.get CTRL.LINE) (s.get (CTRL.LINE_SEL n)) = true))) ∧
  (∀ (s : State) (n : Fin 16), s.sinkReady (8 + n) → s.up .control = true → s.on (CTRL.EN n) = false →
    s.runs (.loopTrigger n) [] [] (fun t => t = s)) ∧
  (∀ (s : State) (n : Fin 16), s.alive = true → s.power.mode ≠ .calm → s.island .control = .stopped →
    s.runs (.loopTrigger n) [] [EVF.S_PEND (8 + n), EVF.DROPPED (s.get (EVF.S_CHANNEL (8 + n)))] (fun t => t.get (EVF.S_PEND (8 + n)) = 1 ∧
    t.get (EVF.DROPPED (s.get (EVF.S_CHANNEL (8 + n)))) = if s.on (EVF.S_PEND (8 + n)) then 1 else s.get (EVF.DROPPED (s.get (EVF.S_CHANNEL (8 +
      n)))))) ∧
  (∀ (s : State) (n : Fin 16), s.alive = true → (s.power.mode = .calm ∨ s.island .control = .off ∨ s.island .control = .powering ∨
    s.island .control = .lost) → s.runs (.loopTrigger n) [] [EVF.DROPPED (s.get (EVF.S_CHANNEL (8 + n)))] (fun t =>
    t.get (EVF.DROPPED (s.get (EVF.S_CHANNEL (8 + n)))) = 1)) ∧
  (∀ (s : State) (n : Fin 16), s.alive = false → s.runs (.loopTrigger n) [] [] (fun t => t = s)) ∧
  (∀ (s : State) (n : Fin 16) (u : Upset) (x : Sample) (y s0 s1 : Int) (w : Bool) (p : Nat), s.up .control = true → s.ctl.stage = some n.val →
    s.ctl.samples = [(n.val, x)] → x.run = some (y, s0, s1, w) → p = x.outs.length → u.ecc = false → s.stageEcc n p = none → p < 8 →
    s.runs (.loopStageEnd u) [.ctl, .fresh] [CTRL.RUNNING n, CTRL.BIND_DENIED n, CTRL.LWRAP n, CTRL.WRAP, CTRL.LINE] (fun t => t.ctl.stage = some
      n.val ∧ (t.sampleAt n).map (fun z => (z.outs, z.s0, z.s1)) = some (x.outs ++ [y], x.s0 ++ [s0], x.s1 ++ [s1]) ∧
    (s.get (CTRL.COUNT n) ≤ p + 1 → (t.sampleAt n).bind (·.run) = none ∧ t.fresh = s.fresh) ∧
    (p + 1 < s.get (CTRL.COUNT n) → (t.sampleAt n).bind (·.run) = some ((s.computeStage n (p + 1) (x.outs ++ [y])).y, (s.computeStage n (p + 1)
      (x.outs ++ [y])).s0, (s.computeStage n (p + 1) (x.outs ++ [y])).s1, (s.computeStage n (p + 1) (x.outs ++ [y])).wrap)) ∧
    (w = true → bit (t.get (CTRL.LWRAP n)) p = true ∧ t.get CTRL.WRAP = 1) ∧ (w = false → t.get (CTRL.LWRAP n) = s.get (CTRL.LWRAP n) ∧
      t.get CTRL.WRAP = s.get CTRL.WRAP))) ∧
  (∀ (s : State) (n : Fin 16) (u : Upset) (x : Sample) (y s0 s1 : Int) (w : Bool) (p a : Nat), s.up .control = true → s.ctl.stage = some n.val →
    s.ctl.samples = [(n.val, x)] → x.run = some (y, s0, s1, w) → p = x.outs.length →
    (s.stageEcc n p = some a ∨ s.stageEcc n p = none ∧ u.ecc = true ∧ a = stageWord (s.get (CTRL.FIRST n) + p) 16) → s.on (CTRL.HELD n) = false →
    s.runs (.loopStageEnd u) [.ctl, .post, .mem] [CTRL.RUNNING n, FAULT.OVERFLOW 0, FAULT.OVERFLOW 1, FAULT.OVERFLOW 2, FAULT.OVERFLOW 3] (fun t =>
      t.ctl.stage = none ∧ t.ctl.samples = [] ∧ t.get (CTRL.RUNNING n) = 0 ∧
    t.eccBad a = true ∧ s.outside t 0 0 ∧ t.post = (s.eccRecord (s.owner tblLoop n) a 0x50).post)) ∧
  (∀ (s : State) (u : Upset), (s.up .control = false ∨ s.ctl.stage = none) → s.runs (.loopStageEnd u) [] [] (fun t => t = s)) ∧
  (∀ (s : State) (n : Fin 16) (x : Sample) (c f : Nat) (e y : Int), s.up .control = true → s.ctl.samples = [(n.val, x)] → c = s.get (CTRL.COUNT n) →
    1 ≤ c → c ≤ 8 → c ≤ x.outs.length → f = s.get (CTRL.FIRST n) → f + c ≤ 64 → s.on (CTRL.HELD n) = false → s.unheard (0x60 + n) →
    y = x.outs.getD (c - 1) 0 → e = s.stageExp n (f + c - 1) →
    s.runs (.loopCommit n) [.ctl, .mem] [CTRL.RUNNING n, CTRL.LINE] (fun t => t.ctl.samples = [] ∧ t.get (CTRL.RUNNING n) = 0 ∧
      s.outside t (0x33000000 + 128 * f) (128 * c) ∧
    (∀ p : Fin 8, p.val < c → t.stageCfg n (f + p) 28 = ofSigned 24 (x.outs.getD p 0) + ofSigned 6 (s.stageExp n (f + p)) * 2 ^ 24 ∧
      (bits (s.stageCfg n (f + p) 16) 0 3 = 5 → t.stageCfg n (f + p) 24 = ofSigned 24 (x.s0.getD p 0) ∧
      t.stageCfg n (f + p) 25 = ofSigned 18 (x.s1.getD p 0)) ∧
      (bits (s.stageCfg n (f + p) 16) 0 3 = 3 → t.stageCfg n (f + p) 24 = ofSigned 18 (x.s0.getD p 0) ∧
        t.stageCfg n (f + p) 25 = s.stageCfg n (f + p) 25) ∧ (bits (s.stageCfg n (f + p) 16) 0 3 ≤ 2 →
        t.stageCfg n (f + p) 24 = s.stageCfg n (f + p) 24)) ∧
    (s.on (CTRL.OUT_EN n) = true → Table.find t.ctl.out (s.get (CTRL.OUT_PAIR n)) = some (n.val, if 0 ≤ e then y * 2 ^ e.toNat else Int.fdiv y (2 ^
      (-e).toNat)) ∧ ∀ k : Fin 6, k.val ≠ s.get (CTRL.OUT_PAIR n) → Table.find t.ctl.out k = Table.find s.ctl.out k) ∧
    (s.on (CTRL.OUT_EN n) = false → t.ctl.out = s.ctl.out))) ∧
  (∀ (s : State) (n : Fin 16) (k : Fin 6) (v : Int), s.pending = [] → s.power.mode ≠ .off → s.power.phase ≠ .entering → s.power.coarse = false →
    s.up .time = true → s.up .control = true → s.ctl.out = [(k.val, (n.val, v))] → ∃ t, step s = .next t ∧ t.ctl.out = [] ∧
    (s.owner tblPair k = s.owner tblLoop n → (t.get (PWM.CMP k) : Int) = max 0 (min (s.get (PWM.PER k) : Int) v) ∧
      t.get (PWM.CLAMPED k) = (if 0 ≤ v ∧ v ≤ s.get (PWM.PER k) then s.get (PWM.CLAMPED k) else 1) ∧
      t.get (CTRL.BIND_DENIED n) = s.get (CTRL.BIND_DENIED n)) ∧
    (s.owner tblPair k ≠ s.owner tblLoop n → t.get (CTRL.BIND_DENIED n) = 1 ∧ t.get (PWM.CMP k) = s.get (PWM.CMP k))) ∧
  (∀ (s : State) (n : Fin 16), (s.up .control = false ∨ s.sampleAt n = none ∨
    (s.sampleAt n).any (fun x => decide (x.outs.length < s.get (CTRL.COUNT n))) = true) → s.runs (.loopCommit n) [] [] (fun t => t = s)) ∧
  (∀ (s : State) (n : Fin 16) (x : Sample), s.up .control = true → s.ctl.samples = [(n.val, x)] → s.on (CTRL.HELD n) = false →
    (s.ctl.stage = some n.val ∨ s.ctl.stage = none) →
    s.runs (.loopDeadlineMiss n) [.ctl, .post] [CTRL.RUNNING n, CTRL.MISS n, CTRL.DEADLINE_MISS, CTRL.LINE, FAULT.OVERFLOW 0, FAULT.OVERFLOW 1,
    FAULT.OVERFLOW 2, FAULT.OVERFLOW 3] (fun t =>
    t.ctl.samples = [] ∧ t.ctl.stage = none ∧ t.get (CTRL.RUNNING n) = 0 ∧ t.get (CTRL.MISS n) = 1 ∧ t.get CTRL.DEADLINE_MISS = 1 ∧
      t.post = (s.missRecord (s.owner tblLoop n) 1 n 0x50).post)) ∧
  (∀ (s : State) (n : Fin 16), (s.up .control = false ∨ s.sampleAt n = none) → s.runs (.loopDeadlineMiss n) [] [] (fun t => t = s))

/-- Chapter 16, the converters (R653 to R658). The gauge's millivolts, clamped to what the code can say, are notes/assumptions/31.md (DESIGN
CHOICE); the inputs as the command gives them and ideal dividers are notes/assumptions/12.md. -/
def Obligations.AdcSequences : Prop :=
  (∀ s : State, s.sinkReady 0x18 → s.up .control = true → s.on ADC.A_BUSY = false →
    s.runs (.adcaStart none) [.ctl] [ADC.A_BUSY] (fun t => t.get ADC.A_BUSY = 1 ∧ t.ctl = { s.ctl with adcA := some 0 })) ∧
  (∀ s : State, s.sinkReady 0x18 → s.up .control = true → s.on ADC.A_BUSY = true →
    s.runs (.adcaStart none) [] [ADC.ADCA_OVERRUN] (fun t => t.get ADC.ADCA_OVERRUN = 1)) ∧
  (∀ s : State, s.alive = true → s.power.mode ≠ .calm → s.island .control = .stopped → s.on (EVF.S_PEND 0x18) = false →
    s.runs (.adcaStart none) [] [EVF.S_PEND 0x18] (fun t => t.get (EVF.S_PEND 0x18) = 1)) ∧
  (∀ s : State, s.alive = true → s.power.mode ≠ .calm → s.island .control = .off →
    s.runs (.adcaStart none) [] [EVF.DROPPED (s.get (EVF.S_CHANNEL 0x18))] (fun t => t.get (EVF.DROPPED (s.get (EVF.S_CHANNEL 0x18))) = 1)) ∧
  (∀ (s : State) (m : Master), s.admits m 0x19 0x10 true → s.on ADC.A_START = false → s.powered .control = true →
    s.runs (.adcaStart (some m)) [.ctl] [ADC.A_BUSY, ADC.ADCA_OVERRUN] (fun t => t.get ADC.A_BUSY = 1 ∧ t.get ADC.A_LEN = s.get ADC.A_LEN ∧
    if s.on ADC.A_BUSY then t.get ADC.ADCA_OVERRUN = 1 ∧ t.ctl = s.ctl else t.get ADC.ADCA_OVERRUN = s.get ADC.ADCA_OVERRUN ∧
      t.ctl = { s.ctl with adcA := some 0 })) ∧
  (∀ (s : State) (ain : List Int) (k : Nat), s.up .control = true → s.ctl.adcA = some k → k ≤ s.get ADC.A_LEN → s.get (ADC.A_ENTRY k) ≤ 5 →
    s.runs (.adcaConversionDone ain) [.ctl] [ADC.A_RES k] (fun t => (t.get (ADC.A_RES k) : Int) = max 0 (min 4095 (Int.fdiv (ain.getD (s.get
    (ADC.A_ENTRY k)) 0 * 4096) 3300000)) ∧ t.ctl = { s.ctl with adcA := some (k + 1) })) ∧
  (∀ (s : State) (ain : List Int), (s.up .control = false ∨ s.ctl.adcA = none ∨ s.ctl.adcA.any (fun k => decide (s.get ADC.A_LEN < k)) = true) →
    s.runs (.adcaConversionDone ain) [] [] (fun t => t = s)) ∧
  (∀ (s : State) (k : Nat), s.up .control = true → s.ctl.adcA = some k → s.get ADC.A_LEN < k → s.unheard 0x50 →
    s.runs .adcaDone [.ctl] [ADC.A_BUSY, ADC.ADCA_DONE] (fun t => t.get ADC.A_BUSY = 0 ∧ t.get ADC.ADCA_DONE = 1 ∧
    t.ctl = { s.ctl with adcA := none })) ∧
  (∀ s : State, (s.up .control = false ∨ s.ctl.adcA = none ∨ s.ctl.adcA.any (fun k => decide (k ≤ s.get ADC.A_LEN)) = true) →
    s.runs .adcaDone [] [] (fun t => t = s)) ∧
  (∀ s : State, s.sinkReady 0x19 → s.up .ao = true →
    s.runs (.adcbStart none) [.ctl, .supply] [ADC.B_BUSY, ADC.TRIG_LOST, ADC.LAST, ADC.ADCB_DISPLACED] (fun t =>
    if s.on ADC.B_BUSY then t.get ADC.TRIG_LOST = 1 ∧ t.get ADC.B_BUSY = 1 ∧ t.ctl = s.ctl ∧ t.supply = s.supply ∧ t.get ADC.LAST = s.get ADC.LAST
    else if s.on ADC.BG_ACTIVE then t.get ADC.LAST = 3 ∧ t.get ADC.ADCB_DISPLACED = 1 ∧ t.get ADC.B_BUSY = 0 ∧ t.ctl = s.ctl ∧ t.supply = s.supply ∧
      t.get ADC.TRIG_LOST = s.get ADC.TRIG_LOST
    else t.get ADC.B_BUSY = 1 ∧ t.ctl = { s.ctl with adcB := some 0 } ∧
      t.supply = { s.supply with inputOpen := false, gaugeConv := s.supply.sampleDue && !s.supply.inputOpen } ∧ t.get ADC.LAST = s.get ADC.LAST ∧
      t.get ADC.TRIG_LOST = s.get ADC.TRIG_LOST)) ∧
  (∀ (s : State) (m : Master), s.admits m 0x19 0x40 true → s.on ADC.B_START = false → s.on ADC.B_BUSY = false → s.on ADC.BG_ACTIVE = false →
    s.runs (.adcbStart (some m)) [.ctl, .supply] [ADC.B_BUSY] (fun t => t.get ADC.B_BUSY = 1 ∧ t.ctl = { s.ctl with adcB := some 0 } ∧
    t.supply = { s.supply with inputOpen := false, gaugeConv := s.supply.sampleDue && !s.supply.inputOpen })) ∧
  (∀ (s : State) (v : AdcbInputs) (k e d : Nat) (x : Int), s.up .ao = true → s.supply.sampleDue = false ∨ s.supply.inputOpen = true ∨
    s.on ADC.B_BUSY = true ∧ s.supply.gaugeConv = false → s.ctl.adcB = some k → k ≤ s.get ADC.B_LEN → e = s.get (ADC.B_ENTRY k) →
    (e ≤ 5 ∧ x = v.ain.getD e 0 ∧ d = 1 ∨ e = 8 ∧ x = v.vbat ∧ d = 16 ∨ e = 9 ∧ x = v.vstore ∧ d = 2 ∨ e = 10 ∧ x = v.vharv ∧ d = 2 ∨ e = 11 ∧
      x = v.viso ∧ d = 4 ∨ e = 12 ∧ x = 1200000 ∧ d = 1) →
    s.runs (.adcbConversionDone v) [.ctl] [ADC.B_RES k] (fun t => (t.get (ADC.B_RES k) : Int) = max 0 (min 4095 (Int.fdiv (x * 4096) (3300000 * d)))
      ∧ t.ctl = { s.ctl with adcB := some (k + 1) })) ∧
  (∀ (s : State) (v : AdcbInputs), s.up .ao = true → s.supply.sampleDue = true → s.supply.inputOpen = false → (s.on ADC.B_BUSY = false ∨
    s.supply.gaugeConv = true) → (s.on SUPPLY.GAUGE_EN = false ∨ s.supply.inBand = false ∨ s.supply.restElapsed = false) →
    s.runs (.adcbConversionDone v) [.supply] [ADC.BG_ACTIVE] (fun t => t.supply.sampleDue = false ∧
      (t.supply.vstoreMv : Int) = max 0 (min 6600 (Int.fdiv v.vstore 1000)) ∧ (s.supply.mpptDue = false → t.get ADC.BG_ACTIVE = 0))) ∧
  (∀ (s : State) (v : AdcbInputs), s.up .ao = true → s.supply.sampleDue = true → s.supply.inputOpen = false → (s.on ADC.B_BUSY = false ∨
    s.supply.gaugeConv = true) → s.on SUPPLY.GAUGE_EN = true → s.supply.inBand = true → s.supply.restElapsed = true →
    s.runs (.adcbConversionDone v) [.supply] [ADC.BG_ACTIVE, SUPPLY.CHARGE, SUPPLY.REF_VALID, SUPPLY.REST_TAKEN] (fun t => t.supply.sampleDue = false
      ∧ t.supply.restElapsed = false ∧ (t.supply.refMv : Int) = max 0 (min 6600 (Int.fdiv v.vstore 1000)) ∧ t.supply.vstoreMv = t.supply.refMv ∧
    t.supply.age = 0 ∧ t.supply.gross = 0 ∧ t.get SUPPLY.CHARGE = 0 ∧ t.get SUPPLY.REF_VALID = 1 ∧ t.get SUPPLY.REST_TAKEN = 1)) ∧
  (∀ (s : State) (k : Nat), s.up .ao = true → s.ctl.adcB = some k → s.get ADC.B_LEN < k → s.unheard 0x51 →
    s.runs .adcbDone [.ctl, .supply] [ADC.B_BUSY, ADC.LAST, ADC.ADCB_DONE] (fun t => t.get ADC.B_BUSY = 0 ∧ t.get ADC.LAST = 1 ∧
    t.get ADC.ADCB_DONE = 1 ∧ t.ctl = { s.ctl with adcB := none } ∧ (s.supply.mpptDue = false → t.supply = s.supply))) ∧
  (∀ s : State, s.up .ao = true → s.on ADC.B_BUSY = true → (s.supply.mpptDue = true ∨ s.supply.sampleDue = true) →
    s.runs .adcbDisplaced [.ctl, .supply] [ADC.B_BUSY, ADC.LAST, ADC.ADCB_DISPLACED, ADC.BG_ACTIVE] (fun t =>
    t.get ADC.B_BUSY = 0 ∧ t.get ADC.LAST = 3 ∧ t.get ADC.ADCB_DISPLACED = 1 ∧ t.get ADC.BG_ACTIVE = 1 ∧ t.ctl = { s.ctl with adcB := none })) ∧
  (∀ (s : State) (v : AdcbInputs), s.ctl.adcB = none → s.supply.sampleDue = false → s.supply.mpptDue = false →
    s.runs (.adcbConversionDone v) [] [] (fun t => t = s) ∧ s.runs .adcbDone [] [] (fun t => t = s) ∧ s.runs .adcbDisplaced [] [] (fun t => t = s))

/-- Chapter 16, the PWM pairs (R659 to R668). -/
def Obligations.PwmPairs : Prop :=
  (∀ (s : State) (k : Fin 6), s.up .control = true → s.on (PWM.RUN k) = true → s.unheard (0x40 + k) →
    s.runs (.pwmPeriodStart k) [.ctl, .waiting] [PWM.CMP k, PWM.CLAMPED k, PWM.CNT k, PWM.SAFE k, PWM.PERIOD] (fun t => t.get (PWM.CNT k) = 0 ∧
    bit (t.get PWM.PERIOD) k = true ∧ t.get (PWM.SAFE k) = (if s.on (PWM.LATCHED k) then s.get (PWM.SAFE k) else 0) ∧
    Table.find t.ctl.per k = some (s.get (PWM.PER k)) ∧ Table.find t.ctl.cmp k = some (min (s.get (PWM.CMP k)) (s.get (PWM.PER k))) ∧
      Table.find t.ctl.dt k = some (s.get (PWM.DT k)) ∧ Table.find t.ctl.down k = none ∧
    (∀ j : Fin 6, j ≠ k → Table.find t.ctl.per j = Table.find s.ctl.per j ∧ Table.find t.ctl.cmp j = Table.find s.ctl.cmp j ∧
      Table.find t.ctl.dt j = Table.find s.ctl.dt j) ∧
      t.ctl = { s.ctl with per := t.ctl.per, cmp := t.ctl.cmp, dt := t.ctl.dt, down := t.ctl.down, side := t.ctl.side } ∧
    Table.find t.waiting (256 * tblPair + k) = none ∧ (∀ j : Fin 3072, j.val ≠ 256 * tblPair + k → Table.find t.waiting j = Table.find s.waiting j) ∧
      (s.get (PWM.PER k) < s.get (PWM.CMP k) → t.get (PWM.CLAMPED k) = 1))) ∧
  (∀ (s : State) (k : Fin 6) (p : Nat), s.up .control = true → s.on (PWM.RUN k) = true → Table.find s.ctl.per k = some p → p < 65536 →
    s.unheard (0x48 + k) → s.runs (.pwmPeriodCentre k) [.ctl] [PWM.CNT k] (fun t => t.get (PWM.CNT k) = (if s.on (PWM.ALIGN k) then p else p / 2) ∧
    (Table.find t.ctl.down k).isSome = (s.on (PWM.ALIGN k) || (Table.find s.ctl.down k).isSome) ∧ t.ctl = { s.ctl with down := t.ctl.down })) ∧
  (∀ (s : State) (k : Fin 6), (s.up .control = false ∨ s.on (PWM.RUN k) = false) → s.runs (.pwmPeriodStart k) [] [] (fun t => t = s) ∧
    s.runs (.pwmPeriodCentre k) [] [] (fun t => t = s)) ∧
  (∀ (s : State) (m : Master) (k : Fin 6) (v : Word), s.admits m 0x1A (0x100 + 0x20 * k) true → s.on (PWM.CLR k) = false → bit v.toNat 3 = false →
    bit v.toNat 0 = true → s.on (PWM.RUN k) = false → s.unheard (0x40 + k) →
    s.runs (.pwmRunWrite m k v) [.ctl] [PWM.RUN k, PWM.ALIGN k, PWM.MODE k, PWM.DT k, PWM.CMP k, PWM.CLAMPED k, PWM.CNT k, PWM.SAFE k, PWM.LATCHED k,
    PWM.PERIOD] (fun t =>
    t.get (PWM.RUN k) = 1 ∧ t.get (PWM.ALIGN k) = bits v.toNat 1 1 ∧ t.get (PWM.MODE k) = bits v.toNat 2 1 ∧ t.get (PWM.DT k) = bits v.toNat 16 10 ∧
      t.get (PWM.CNT k) = 0 ∧ Table.find t.ctl.per k = some (s.get (PWM.PER k)) ∧ Table.find t.ctl.dt k = some (bits v.toNat 16 10) ∧
    (s.on PWM.FAULT_IN = true → t.get (PWM.LATCHED k) = 1 ∧ t.get (PWM.SAFE k) = 1) ∧ (s.on PWM.FAULT_IN = false →
      t.get (PWM.LATCHED k) = s.get (PWM.LATCHED k) ∧ (s.on (PWM.LATCHED k) = false → t.get (PWM.SAFE k) = 0)))) ∧
  (∀ (s : State) (m : Master) (k : Fin 6) (v : Word), s.admits m 0x1A (0x100 + 0x20 * k) true → s.on (PWM.CLR k) = false → bit v.toNat 3 = false →
    bit v.toNat 0 = false → s.runs (.pwmRunWrite m k v) [] [PWM.RUN k, PWM.ALIGN k, PWM.MODE k, PWM.DT k, PWM.CNT k, PWM.SAFE k] (fun t => t.get
    (PWM.RUN k) = 0 ∧ t.get (PWM.DT k) = bits v.toNat 16 10 ∧
    if s.on (PWM.RUN k) then t.get (PWM.CNT k) = 0 ∧ t.get (PWM.SAFE k) = 1 ∧ t.get (PWM.ALIGN k) = s.get (PWM.ALIGN k) ∧
      t.get (PWM.MODE k) = s.get (PWM.MODE k)
    else t.get (PWM.CNT k) = s.get (PWM.CNT k) ∧ t.get (PWM.SAFE k) = s.get (PWM.SAFE k) ∧ t.get (PWM.ALIGN k) = bits v.toNat 1 1 ∧
      t.get (PWM.MODE k) = bits v.toNat 2 1)) ∧
  (∀ (s : State) (m : Master) (k : Fin 6) (v : Word), s.admits m 0x1A (0x100 + 0x20 * k) true → s.on (PWM.CLR k) = false → bit v.toNat 3 = false →
    bit v.toNat 0 = true → s.on (PWM.RUN k) = true → s.runs (.pwmRunWrite m k v) [] [PWM.DT k] (fun t => t.get (PWM.DT k) = bits v.toNat 16 10)) ∧
  (∀ (s : State) (m : Master) (k : Fin 6), s.admits m 0x1A (0x100 + 0x20 * k) true → s.on (PWM.CLR k) = false →
    s.runs (.pwmClr m k) [] [PWM.LATCHED k] (fun t => t.get (PWM.LATCHED k) = (if s.on PWM.FAULT_IN then s.get (PWM.LATCHED k) else 0))) ∧
  (∀ (s : State) (k : Fin 6), s.sinkReady (0x1A + k) → s.up .control = true →
    s.runs (.pwmForceSafe k) [] [PWM.LATCHED k, PWM.SAFE k] (fun t => t.get (PWM.LATCHED k) = 1 ∧ t.get (PWM.SAFE k) = 1)) ∧
  (∀ (s : State) (k : Fin 6), s.alive = true → s.power.mode ≠ .calm → s.island .control = .stopped → s.on (EVF.S_PEND (0x1A + k)) = false →
    s.runs (.pwmForceSafe k) [] [EVF.S_PEND (0x1A + k)] (fun t => t.get (EVF.S_PEND (0x1A + k)) = 1)) ∧
  (∀ (s : State) (k : Fin 6), s.alive = true → s.power.mode ≠ .calm → s.island .control = .off →
    s.runs (.pwmForceSafe k) [] [EVF.DROPPED (s.get (EVF.S_CHANNEL (0x1A + k)))] (fun t => t.get (EVF.DROPPED (s.get (EVF.S_CHANNEL (0x1A + k)))) =
    1)) ∧
  (∀ s : State, s.alive = true → s.fab.vio = true → s.unheard 0x1E →
    s.runs .pwmFault [.fab] ([PWM.FAULT_IN, PWM.PWM_FAULT, PORT.PAD] ++ (List.range 48).map PORT.IRQ_FLAG ++ (List.range 6).flatMap (fun k =>
    [PWM.LATCHED k, PWM.SAFE k])) (fun t => t.get PWM.FAULT_IN = 1 ∧ t.fab = { s.fab with accepted := t.fab.accepted, signal := t.fab.signal } ∧
    t.padLevel 40 = (if s.get (PORT.FILTER 40) = 0 then false else s.padLevel 40) ∧
    (s.powered .control = true → t.get PWM.PWM_FAULT = 1 ∧ ∀ k : Fin 6, t.get (PWM.SAFE k) = 1 ∧
      t.get (PWM.LATCHED k) = (if s.on (PWM.RUN k) then 1 else s.get (PWM.LATCHED k))) ∧ (s.powered .control = false →
      ∀ k : Fin 6, t.get (PWM.LATCHED k) = s.get (PWM.LATCHED k)))) ∧
  (∀ s : State, s.alive = true → s.fab.vio = true → s.unheard 0x1E →
    s.runs .pwmFaultNRelease [.fab] (PWM.FAULT_IN :: PORT.PAD :: (List.range 48).map PORT.IRQ_FLAG) (fun t => t.get PWM.FAULT_IN = 0 ∧
    t.fab = { s.fab with accepted := t.fab.accepted, signal := t.fab.signal } ∧
    t.padLevel 40 = (if s.get (PORT.FILTER 40) = 0 then true else s.padLevel 40))) ∧
  (∀ s : State, (s.alive = false ∨ s.fab.vio = false) → s.runs .pwmFault [] [] (fun t => t = s) ∧ s.runs .pwmFaultNRelease [] [] (fun t => t = s))

/-- Chapter 17, teeth (R681 to R688). That the first edge in STOPPED counts as an accepted tooth, and what L is after STOPPED, are read from the
spec by inference (DEDUCED, notes/assumptions/27.md). -/
def Obligations.ToothEdges : Prop :=
  (∀ (s : State) (m : Master) (c : Fin 4) (v : Word), s.admits m 0x1B (0x100 + 0x80 * c) true →
    s.runs (.toothEnWrite m c v) [.tooth] [TOOTH.EN c, TOOTH.EDGE c, TOOTH.DIR c, TOOTH.W c, TOOTH.FILT c, TOOTH.ACC_LO c, TOOTH.MISS c, TOOTH.MAXSYN
    c, TOOTH.STATE c, TOOTH.SYN_RUN c, TOOTH.LAST_SYN c] (fun t =>
    t.get (TOOTH.EN c) = bits v.toNat 0 1 ∧ t.get (TOOTH.DIR c) = bits v.toNat 3 1 ∧
      t.get (TOOTH.EDGE c) = (if bits v.toNat 1 2 = 0 then s.get (TOOTH.EDGE c) else bits v.toNat 1 2) ∧
    (bit v.toNat 0 = false → t.get (TOOTH.STATE c) = 0 ∧ t.tooth = s.tooth) ∧ (bit v.toNat 0 = true → s.on (TOOTH.EN c) = true →
      t.get (TOOTH.STATE c) = s.get (TOOTH.STATE c) ∧ t.tooth = s.tooth) ∧
    (bit v.toNat 0 = true → s.on (TOOTH.EN c) = false → t.get (TOOTH.STATE c) = 1 ∧ t.get (TOOTH.SYN_RUN c) = 0 ∧ t.get (TOOTH.LAST_SYN c) = 0 ∧
      t.tooth? c = { s.tooth? c with seen := false } ∧ ∀ d : Fin 4, d ≠ c → t.tooth? d = s.tooth? d))) ∧
  (∀ (s : State) (c : Fin 4) (r : Bool) (age i u : Nat), s.fab.vio = true → s.up .control = true → s.on (TOOTH.EN c) = true →
    bit (s.get (TOOTH.EDGE c)) (if r then 0 else 1) = true → 2 * s.get (TOOTH.FILT c) ≤ age → s.get (TOOTH.STATE c) = 1 →
    (∀ j : Fin 8, s.on (TOOTH.S_ARMED c j) = false) → u = (s.toothTime + 2 ^ 32 - age % 2 ^ 32) % 2 ^ 32 →
    i = (u + 2 ^ 32 - (s.tooth? c).last % 2 ^ 32) % 2 ^ 32 →
      s.runs (.toothEdge c r age) [.tooth] [TOOTH.STATE c, TOOTH.COUNT c, TOOTH.PRED c, TOOTH.LAST_EDGE c, TOOTH.LAST_INTERVAL c, TOOTH.SYN_RUN c,
      TOOTH.LAST_SYN c] (fun t => t.get (TOOTH.COUNT c) = (s.get (TOOTH.COUNT c) + (if s.on (TOOTH.DIR c) then 65535 else 1)) % 65536 ∧
    t.get (TOOTH.LAST_EDGE c) = u ∧ t.get (TOOTH.LAST_INTERVAL c) = i ∧ t.get (TOOTH.SYN_RUN c) = 0 ∧ t.get (TOOTH.LAST_SYN c) = 0 ∧
      t.get (TOOTH.PRED c) = (if s.get (TOOTH.PRED c) = 0 ∧ (s.tooth? c).seen = true then i else s.get (TOOTH.PRED c)) ∧
      t.get (TOOTH.STATE c) = (if t.get (TOOTH.PRED c) = 0 then 1 else 2) ∧
    t.tooth? c = { s.tooth? c with last := u, real := u, seen := true, realCount := t.get (TOOTH.COUNT c) })) ∧
  (∀ (s : State) (c : Fin 4) (r : Bool) (age i u : Nat), s.fab.vio = true → s.up .control = true → s.on (TOOTH.EN c) = true →
    bit (s.get (TOOTH.EDGE c)) (if r then 0 else 1) = true → 2 * s.get (TOOTH.FILT c) ≤ age → s.get (TOOTH.STATE c) = 2 →
    s.get (TOOTH.LAST_SYN c) = 0 → u = (s.toothTime + 2 ^ 32 - age % 2 ^ 32) % 2 ^ 32 → i = (u + 2 ^ 32 - (s.tooth? c).last % 2 ^ 32) % 2 ^ 32 →
    i < s.get (TOOTH.ACC_LO c) * s.get (TOOTH.PRED c) / 16 →
      s.runs (.toothEdge c r age) [] [TOOTH.NOISE c, TOOTH.NOISE_EVT] (fun t => t.get (TOOTH.NOISE c) = 1 ∧ t.get TOOTH.NOISE_EVT = 1)) ∧
  (∀ (s : State) (c : Fin 4) (r : Bool) (age i u : Nat), s.fab.vio = true → s.up .control = true → s.on (TOOTH.EN c) = true →
    bit (s.get (TOOTH.EDGE c)) (if r then 0 else 1) = true → 2 * s.get (TOOTH.FILT c) ≤ age → s.get (TOOTH.STATE c) = 2 →
    s.get (TOOTH.LAST_SYN c) = 0 → (∀ j : Fin 8, s.on (TOOTH.S_ARMED c j) = false) → u = (s.toothTime + 2 ^ 32 - age % 2 ^ 32) % 2 ^ 32 →
    i = (u + 2 ^ 32 - (s.tooth? c).last % 2 ^ 32) % 2 ^ 32 → s.get (TOOTH.ACC_LO c) * s.get (TOOTH.PRED c) / 16 ≤ i →
      s.runs (.toothEdge c r age) [.tooth] [TOOTH.COUNT c, TOOTH.PRED c, TOOTH.LAST_EDGE c, TOOTH.LAST_INTERVAL c, TOOTH.SYN_RUN c] (fun t =>
    t.get (TOOTH.COUNT c) = (s.get (TOOTH.COUNT c) + (if s.on (TOOTH.DIR c) then 65535 else 1)) % 65536 ∧ t.get (TOOTH.LAST_EDGE c) = u ∧
      t.get (TOOTH.LAST_INTERVAL c) = i ∧ t.get (TOOTH.SYN_RUN c) = 0 ∧
    (t.get (TOOTH.PRED c) : Int) = s.get (TOOTH.PRED c) + Int.fdiv ((i : Int) - s.get (TOOTH.PRED c)) (2 ^ (s.get (TOOTH.W c) + 1)) ∧
      t.tooth? c = { s.tooth? c with last := u, real := u, seen := true, realCount := t.get (TOOTH.COUNT c) })) ∧
  (∀ (s : State) (c : Fin 4) (r : Bool) (age i u : Nat), s.fab.vio = true → s.up .control = true → s.on (TOOTH.EN c) = true →
    bit (s.get (TOOTH.EDGE c)) (if r then 0 else 1) = true → 2 * s.get (TOOTH.FILT c) ≤ age → s.get (TOOTH.STATE c) = 2 →
    s.get (TOOTH.LAST_SYN c) = 1 → u = (s.toothTime + 2 ^ 32 - age % 2 ^ 32) % 2 ^ 32 → i = (u + 2 ^ 32 - (s.tooth? c).last % 2 ^ 32) % 2 ^ 32 →
    i < s.get (TOOTH.ACC_LO c) * s.get (TOOTH.PRED c) / 16 →
      s.runs (.toothEdge c r age) [.tooth] [TOOTH.PRED c, TOOTH.LAST_EDGE c, TOOTH.LAST_INTERVAL c, TOOTH.SYN_RUN c, TOOTH.LAST_SYN c,
      TOOTH.RESYNC_ERR c, TOOTH.RESYNC c, TOOTH.RESYNC_EVT] (fun t => t.get (TOOTH.RESYNC_ERR c) = i ∧ t.get (TOOTH.RESYNC c) = 1 ∧
      t.get TOOTH.RESYNC_EVT = 1 ∧
    t.get (TOOTH.LAST_INTERVAL c) = (u + 2 ^ 32 - (s.tooth? c).real % 2 ^ 32) % 2 ^ 32 ∧
      (t.get (TOOTH.PRED c) : Int) = s.get (TOOTH.PRED c) + Int.fdiv ((t.get (TOOTH.LAST_INTERVAL c) : Int) - s.get (TOOTH.PRED c)) (2 ^ (s.get
      (TOOTH.W c) + 1)) ∧ t.get (TOOTH.SYN_RUN c) = 0 ∧ t.get (TOOTH.LAST_SYN c) = 0 ∧
    t.tooth? c = { s.tooth? c with last := u, real := u, seen := true, realCount := s.get (TOOTH.COUNT c) })) ∧
  (∀ (s : State) (c : Fin 4) (r : Bool) (age u : Nat), s.fab.vio = true → s.up .control = true → s.on (TOOTH.EN c) = true →
    bit (s.get (TOOTH.EDGE c)) (if r then 0 else 1) = true → 2 * s.get (TOOTH.FILT c) ≤ age → s.get (TOOTH.STATE c) = 3 →
    (∀ j : Fin 8, s.on (TOOTH.S_ARMED c j) = false) → u = (s.toothTime + 2 ^ 32 - age % 2 ^ 32) % 2 ^ 32 →
    s.runs (.toothEdge c r age) [.tooth] [TOOTH.STATE c, TOOTH.COUNT c, TOOTH.LAST_EDGE c, TOOTH.LAST_INTERVAL c, TOOTH.SYN_RUN c, TOOTH.LAST_SYN c]
      (fun t => t.get (TOOTH.STATE c) = 1 ∧ t.get (TOOTH.COUNT c) = (s.get (TOOTH.COUNT c) + (if s.on (TOOTH.DIR c) then 65535 else 1)) % 65536 ∧
      t.get (TOOTH.LAST_EDGE c) = u ∧ (t.tooth? c).seen = true)) ∧
  (∀ (s : State) (c : Fin 4) (r : Bool) (age : Nat), (s.fab.vio = false ∨ s.up .control = false ∨ s.on (TOOTH.EN c) = false ∨
    bit (s.get (TOOTH.EDGE c)) (if r then 0 else 1) = false ∨ age < 2 * s.get (TOOTH.FILT c)) → s.runs (.toothEdge c r age) [] [] (fun t => t = s)) ∧
  (∀ (s : State) (c : Fin 4) (far : Nat), s.up .control = true → s.get (TOOTH.STATE c) = 2 → far = s.get (TOOTH.MISS c) * s.get (TOOTH.PRED c) / 8 →
    far ≤ (s.toothTime % 2 ^ 32 + 2 ^ 32 - (s.tooth? c).last % 2 ^ 32) % 2 ^ 32 → s.get (TOOTH.SYN_RUN c) < s.get (TOOTH.MAXSYN c) →
    (∀ j : Fin 8, s.on (TOOTH.S_ARMED c j) = false) →
    s.runs (.missed c) [.tooth] [TOOTH.COUNT c, TOOTH.SYN_RUN c, TOOTH.LAST_SYN c, TOOTH.MISSED c, TOOTH.MISSED_EVT] (fun t => t.get (TOOTH.COUNT c)
      = (s.get (TOOTH.COUNT c) + (if s.on (TOOTH.DIR c) then 65535 else 1)) % 65536 ∧ t.get (TOOTH.SYN_RUN c) = s.get (TOOTH.SYN_RUN c) + 1 ∧
      t.get (TOOTH.LAST_SYN c) = 1 ∧
    t.get (TOOTH.MISSED c) = 1 ∧ t.get TOOTH.MISSED_EVT = 1 ∧ t.tooth? c = { s.tooth? c with last := ((s.tooth? c).last + far) % 2 ^ 32 } ∧
      (∀ e : Fin 4, e ≠ c → t.tooth? e = s.tooth? e))) ∧
  (∀ (s : State) (c : Fin 4), s.up .control = true → s.get (TOOTH.STATE c) = 2 →
    s.get (TOOTH.MISS c) * s.get (TOOTH.PRED c) / 8 ≤ (s.toothTime % 2 ^ 32 + 2 ^ 32 - (s.tooth? c).last % 2 ^ 32) % 2 ^ 32 →
    s.get (TOOTH.MAXSYN c) ≤ s.get (TOOTH.SYN_RUN c) → (∀ j : Fin 8, s.on (TOOTH.S_ARMED c j) = false) →
    s.runs (.missed c) [.tooth] [TOOTH.STATE c, TOOTH.COUNT c, TOOTH.SYN_RUN c, TOOTH.LAST_SYN c, TOOTH.PRED c, TOOTH.STOPPED c, TOOTH.STOPPED_EVT]
      (fun t => t.get (TOOTH.STATE c) = 3 ∧ t.get (TOOTH.COUNT c) = (s.tooth? c).realCount % 65536 ∧ t.get (TOOTH.SYN_RUN c) = 0 ∧
      t.get (TOOTH.LAST_SYN c) = 0 ∧ t.get (TOOTH.PRED c) = 0 ∧
    t.get (TOOTH.STOPPED c) = 1 ∧ t.get TOOTH.STOPPED_EVT = 1 ∧ t.tooth? c = { s.tooth? c with last := (s.tooth? c).real } ∧ (∀ e : Fin 4, e ≠ c →
      t.tooth? e = s.tooth? e))) ∧
  (∀ (s : State) (c : Fin 4), (s.up .control = false ∨ s.get (TOOTH.STATE c) ≠ 2) → s.runs (.missed c) [] [] (fun t => t = s))

/-- Chapter 17, schedules (R689 to R692). -/
def Obligations.ToothSchedules : Prop :=
  (∀ (s : State) (m : Master) (c : Fin 4) (j : Fin 8) (v : Word) (d : Int), s.admits m 0x1B (0x144 + 0x80 * c + 8 * j) true →
    s.on (TOOTH.S_ARM c j) = false → bits v.toNat 16 16 < 32768 → bit v.toNat 1 = false → bit v.toNat 9 = false →
    d = toSigned 16 (s.get (TOOTH.COUNT c) + 2 ^ 16 - s.get (TOOTH.TARGET c j) / 65536) →
    (if s.on (TOOTH.DIR c) then 0 < d else d < 0) →
      s.runs (.scheduleArm m c j v) [.tooth] [TOOTH.S_MODE c j, TOOTH.S_ARMED c j, TOOTH.S_STEP c j] (fun t => t.get (TOOTH.S_ARMED c j) = 1 ∧
      t.get (TOOTH.S_MODE c j) = 0 ∧ t.get (TOOTH.S_STEP c j) = bits v.toNat 16 16 ∧
    Table.find (t.tooth? c).est j = none ∧ ∀ k : Fin 8, k ≠ j → Table.find (t.tooth? c).est k = Table.find (s.tooth? c).est k)) ∧
  (∀ (s : State) (m : Master) (c : Fin 4) (j : Fin 8) (v : Word) (d : Int), s.admits m 0x1B (0x144 + 0x80 * c + 8 * j) true →
    s.on (TOOTH.S_ARM c j) = false → bits v.toNat 16 16 < 32768 → bit v.toNat 1 = false → bit v.toNat 9 = false →
    d = toSigned 16 (s.get (TOOTH.COUNT c) + 2 ^ 16 - s.get (TOOTH.TARGET c j) / 65536) →
    (if s.on (TOOTH.DIR c) then d ≤ 0 else 0 ≤ d) → s.unheard (0x70 + c) →
      s.runs (.scheduleArm m c j v) [.tooth] [TOOTH.S_MODE c j, TOOTH.S_ARMED c j, TOOTH.S_STEP c j, TOOTH.S_FIRED c j, TOOTH.S_EST c j, TOOTH.TARGET
      c j, TOOTH.FIRE] (fun t => t.get (TOOTH.S_FIRED c j) = 1 ∧ bit (t.get TOOTH.FIRE) c = true ∧
    t.get (TOOTH.S_EST c j) = s.get (TOOTH.LAST_SYN c) ∧ t.get (TOOTH.S_STEP c j) = bits v.toNat 16 16 ∧
      t.get (TOOTH.S_ARMED c j) = (if bits v.toNat 16 16 = 0 then 0 else 1) ∧
    t.get (TOOTH.TARGET c j) = (s.get (TOOTH.TARGET c j) + (if s.on (TOOTH.DIR c) then 2 ^ 32 - bits v.toNat 16 16 * 65536 else bits v.toNat 16 16 *
      65536)) % 2 ^ 32)) ∧
  (∀ (s : State) (c : Fin 4) (j : Fin 8), s.up .control = true → s.on (TOOTH.S_ARMED c j) = true → s.scheduleReached c j = true →
    (s.on (TOOTH.S_MODE c j) = true ∨ (Table.find (s.tooth? c).due j.val).isSome = true) → s.unheard (0x70 + c) →
    s.runs (.scheduleFire c j) [.tooth] ([TOOTH.FIRE] ++ (List.range 8).flatMap (fun k => [TOOTH.S_FIRED c k, TOOTH.S_EST c k, TOOTH.S_ARMED c k,
      TOOTH.TARGET c k])) (fun t => bit (t.get TOOTH.FIRE) c = true ∧ (∀ d : Fin 4, d ≠ c → bit (t.get TOOTH.FIRE) d = bit (s.get TOOTH.FIRE) d) ∧
    ∀ k : Fin 8, if s.on (TOOTH.S_ARMED c k) = true ∧ s.scheduleReached c k = true ∧ (s.on (TOOTH.S_MODE c k) = true ∨
      (Table.find (s.tooth? c).due k.val).isSome = true) then t.get (TOOTH.S_FIRED c k) = 1 ∧
      (t.get (TOOTH.S_EST c k) = 1 ↔ s.on (TOOTH.LAST_SYN c) = true ∨ (Table.find (s.tooth? c).est k).isSome = true) ∧
      Table.find (t.tooth? c).est k = none ∧
      t.get (TOOTH.S_ARMED c k) = (if s.get (TOOTH.S_STEP c k) = 0 then 0 else s.get (TOOTH.S_ARMED c k)) ∧
        t.get (TOOTH.TARGET c k) = (s.get (TOOTH.TARGET c k) + (if s.on (TOOTH.DIR c) then 2 ^ 32 - s.get (TOOTH.S_STEP c k) * 65536 else s.get
        (TOOTH.S_STEP c k) * 65536)) % 2 ^ 32
    else t.get (TOOTH.S_FIRED c k) = s.get (TOOTH.S_FIRED c k) ∧ t.get (TOOTH.TARGET c k) = s.get (TOOTH.TARGET c k) ∧
      t.get (TOOTH.S_ARMED c k) = s.get (TOOTH.S_ARMED c k))) ∧
  (∀ (s : State) (c : Fin 4) (j : Fin 8) (d : Int), s.up .control = true → s.on (TOOTH.S_ARMED c j) = true → s.on (TOOTH.S_MODE c j) = true →
    s.get (TOOTH.STATE c) = 2 → 0 < s.get (TOOTH.PRED c) → s.on (TOOTH.DIR c) = false → s.unheard (0x70 + c) →
    d = toSigned 32 (s.get (TOOTH.COUNT c) * 65536 + min 65535 (65536 * ((s.toothTime % 2 ^ 32 + 2 ^ 32 - (s.tooth? c).last % 2 ^ 32) % 2 ^ 32) /
      s.get (TOOTH.PRED c)) + 2 ^ 32 - s.get (TOOTH.TARGET c j)) →
    s.runs (.scheduleFire c j) [.tooth] ([TOOTH.FIRE] ++ (List.range 8).flatMap (fun k => [TOOTH.S_FIRED c k, TOOTH.S_EST c k, TOOTH.S_ARMED c k,
      TOOTH.TARGET c k])) (fun t => (0 ≤ d → t.get (TOOTH.S_FIRED c j) = 1) ∧ (d < 0 → t = s))) ∧
  (∀ (s : State) (c : Fin 4) (j : Fin 8), (s.up .control = false ∨ s.on (TOOTH.S_ARMED c j) = false ∨ s.scheduleReached c j = false ∨
    s.on (TOOTH.S_MODE c j) = false ∧ Table.find (s.tooth? c).due j.val = none) → s.runs (.scheduleFire c j) [] [] (fun t => t = s))

/-- R28: T0 alone writes the ownership tables and the quotas. The record is that of R236 and R246. -/
def Obligations.OwnershipWritesByOthers : Prop :=
  (∀ (s : State) (m : Master) (v : Word) (t : Nat), t = s.tidOf m → t ≠ 0 → s.rst.quiescing.contains t = false →
    s.judge m t (pageAddr 5 0x1C) .write Upset.none = .go (.page 5 0x1C) →
    s.runs (.tenOwnDataWrite m v) [.post] [FAULT.OVERFLOW t] (fun u => u.owners = s.owners ∧
      s.recorded u t ⟨1 + 3 * 2 ^ 8 + t * 2 ^ 24, pageAddr 5 0x1C, masterCode m, s.now % 2 ^ 32, false⟩)) ∧
  (∀ (s : State) (m : Master) (v : Word) (t : Nat) (k : Fin 2), t = s.tidOf m → t ≠ 0 → s.rst.quiescing.contains t = false →
    s.judge m t (pageAddr 0xE (0x10 + 4 * k)) .write Upset.none = .go (.page 0xE (0x10 + 4 * k)) →
    s.runs (.quotaWrite m k v) [.post] [FAULT.OVERFLOW t] (fun u => u.owners = s.owners ∧
      s.recorded u t ⟨1 + 0 + t * 2 ^ 24, pageAddr 0xE (0x10 + 4 * k), masterCode m, s.now % 2 ^ 32, false⟩)) ∧
  (∀ (s : State) (m : Master) (v : Word) (t p off : Nat), t = s.tidOf m → t ≠ 0 → (p, off) ∈ [(5, 0x18), (5, 0x1C), (0xE, 0x10), (0xE, 0x14)] →
    s.rst.quiescing.contains t = false → s.judge m t (pageAddr p off) .write Upset.none = .go (.page p off) →
    s.runs (.registerWrite m (BitVec.ofNat 32 (pageAddr p off)) v) [.post] [FAULT.OVERFLOW t] (fun u => u.owners = s.owners ∧
      s.recorded u t ⟨1 + (if p = 5 ∧ off = 0x1C then 3 else 0) * 2 ^ 8 + t * 2 ^ 24, pageAddr p off, masterCode m, s.now % 2 ^ 32, false⟩)) ∧
  (∀ (s : State) (m : Master), s.tidOf m = 0 → s.pageDenies m 0 5 0x1C true = none ∧ s.pageDenies m 0 5 0x18 true = none ∧
    s.pageDenies m 0 0xE 0x10 true = none ∧ s.pageDenies m 0 0xE 0x14 true = none) ∧
  (∀ (s : State) (m : Master) (v : Word) (k : Fin 2), s.tidOf m = 0 → s.rst.quiescing.contains 0 = false →
    s.judge m 0 (pageAddr 0xE (0x10 + 4 * k)) .write Upset.none = .go (.page 0xE (0x10 + 4 * k)) →
    s.runs (.quotaWrite m k v) [] [QMGR.QUOTA 0, QMGR.QUOTA 1, QMGR.QUOTA 2, QMGR.QUOTA 3] (fun u => u.post = s.post))

/-- R648. The disabling of a loop, which discards a held trigger (R645), is LoopConfiguration. -/
def Obligations.HeldTriggers : Prop :=
  (∀ (s : State) (n : Fin 16), s.sinkReady (8 + n) → s.up .control = true → s.on (CTRL.EN n) = true → (s.sampleAt n).isSome = true →
    s.on (CTRL.HELD n) = false → s.runs (.loopTrigger n) [] [CTRL.HELD n] (fun t => t.get (CTRL.HELD n) = 1 ∧ t.sampleAt n = s.sampleAt n)) ∧
  (∀ (s : State) (n : Fin 16), s.sinkReady (8 + n) → s.up .control = true → s.on (CTRL.EN n) = true → (s.sampleAt n).isSome = true →
    s.on (CTRL.HELD n) = true → s.runs (.loopTrigger n) [.post] [CTRL.TRIG_LOST n, CTRL.MISS n, CTRL.DEADLINE_MISS, CTRL.LINE, FAULT.OVERFLOW
    (s.owner tblLoop n)] (fun t =>
    t.get (CTRL.HELD n) = s.get (CTRL.HELD n) ∧ t.sampleAt n = s.sampleAt n ∧ t.get (CTRL.TRIG_LOST n) = 1 ∧ t.get (CTRL.MISS n) = 1 ∧
      t.get CTRL.DEADLINE_MISS = 1 ∧
    ((s.postOf (s.owner tblLoop n)).fifo.length < 16 → s.owner tblLoop n < 4 →
      (t.postOf (s.owner tblLoop n)).fifo = (s.postOf (s.owner tblLoop n)).fifo ++ [⟨recWord0 causeDeadline 1 (s.owner tblLoop n) false, n, 0x50,
      s.tick32, false⟩]))) ∧
  (∀ (s : State) (n : Fin 16) (x : Sample), s.up .control = true → s.sampleAt n = some x → s.get (CTRL.COUNT n) ≤ x.outs.length →
    s.on (CTRL.HELD n) = true → s.unheard (0x60 + n) → ∃ t, exec (.loopCommit n) s = .next t ∧ t.get (CTRL.HELD n) = 0 ∧ t.get (CTRL.RUNNING n) = 1 ∧
    (t.sampleAt n).map (·.outs) = some []) ∧
  (∀ (s : State) (n : Fin 16), s.up .control = true → (s.sampleAt n).isSome = true → s.on (CTRL.HELD n) = true →
    ∃ t, exec (.loopDeadlineMiss n) s = .next t ∧ t.get (CTRL.HELD n) = 0 ∧ t.get (CTRL.RUNNING n) = 1 ∧ (t.sampleAt n).map (·.outs) = some []) ∧
  (∀ (s : State) (n : Fin 16) (u : Upset) (x : Sample), s.up .control = true → s.ctl.stage = some n.val → s.sampleAt n = some x →
    x.run.isSome = true → u.ecc = true → s.on (CTRL.HELD n) = true → ∃ t, exec (.loopStageEnd u) s = .next t ∧ t.get (CTRL.HELD n) = 0 ∧
    t.get (CTRL.RUNNING n) = 1 ∧ (t.sampleAt n).map (·.outs) = some [])

/-- R608, with the three system-level resets of chapter 5. -/
def Obligations.TransmitSequence : Prop :=
  (∀ (s : State) (m : Master) (v : Word), s.admits m 0x17 0x2C true → v.toNat < s.get LSEC.TXSEQ → s.get LSEC.KEY_VALID ≠ 0 →
    s.runs (.lsecTxseqWrite m v) [] [LSEC.TXSEQ, LINK.REKEY_DUE] (fun t => t.get LSEC.TXSEQ = s.get LSEC.TXSEQ)) ∧
  (∀ (s : State) (m : Master) (v : Word), s.admits m 0x17 0x2C true → v.toNat < s.get LSEC.TXSEQ → s.get LSEC.KEY_VALID = 0 →
    s.runs (.lsecTxseqWrite m v) [] [LSEC.TXSEQ, LINK.REKEY_DUE] (fun t => t.get LSEC.TXSEQ = v.toNat)) ∧
  (∀ (s : State) (m : Master) (v : Word), s.admits m 0x17 0x2C true → s.get LSEC.TXSEQ ≤ v.toNat →
    s.runs (.lsecTxseqWrite m v) [] [LSEC.TXSEQ, LINK.REKEY_DUE] (fun t => t.get LSEC.TXSEQ = v.toNat)) ∧
  (∀ (s : State) (r : ResetSource), s.rst.asked = [r] → (∀ b : Bool, r ≠ .brownOut b) → s.alive = true → s.rst.inReset = false →
    s.mem.flashOp = none → s.rst.fuseOp = none → ∃ t, exec .systemReset s = .next t ∧ t.link.keys = [] ∧ t.get LSEC.KEY_VALID = 0 ∧
    t.get LSEC.TXSEQ = 1) ∧
  (∀ s : State, s.rst.porDue = true → ∃ t, exec .por s = .next t ∧ t.link.keys = [] ∧ t.get LSEC.KEY_VALID = 0 ∧ t.get LSEC.TXSEQ = 1) ∧
  (∀ (s : State) (retained : Bool), s.alive = true → s.rst.fuseOp = none → s.noSupplyNow = true → ∃ t, exec (.brownOut retained) s = .next t ∧
    t.link.keys = [] ∧ t.get LSEC.KEY_VALID = 0 ∧ t.get LSEC.TXSEQ = 1)
end

