-- ==== Sys2Proof/Laws/Table.lean ====
section
/-!
SUPPORT. The laws of the sparse tables: a read after a write, and the canonical form under every operation.
-/

namespace Sys2Proof.Machine

variable {β : Type}

theorem Table.find_insert (t : Table β) (a b : Nat) (v : β) :
    Table.find (Table.insert t a v) b = if b = a then some v else Table.find t b := by
  induction t with
  | nil => simp [Table.insert, Table.find, eq_comm]
  | cons e t ih =>
    obtain ⟨k, w⟩ := e
    simp only [Table.insert]
    split
    · simp only [Table.find]
      by_cases hb : b = a
      · simp [hb]
      · simp [hb, Ne.symm hb]
    · split
      · rename_i h
        simp only [Table.find]
        by_cases hb : b = a
        · simp [hb]
        · simp [hb, Ne.symm hb, ← h]
      · simp only [Table.find, ih]
        by_cases hb : b = a
        · subst hb
          rename_i h
          simp [Ne.symm h]
        · simp [hb]

theorem Table.find_erase (t : Table β) (a b : Nat) :
    Table.find (Table.erase t a) b = if b = a then none else Table.find t b := by
  induction t with
  | nil => simp [Table.erase, Table.find]
  | cons e t ih =>
    obtain ⟨k, w⟩ := e
    simp only [Table.erase]
    split
    · rename_i h
      rw [ih]
      by_cases hb : b = a
      · simp [hb]
      · simp [hb, Table.find, h, Ne.symm hb]
    · simp only [Table.find, ih]
      by_cases hb : b = a
      · subst hb
        rename_i h
        simp [h]
      · simp [hb]

theorem Table.find_set [DecidableEq β] (d : β) (t : Table β) (a b : Nat) (v : β) :
    Table.find (Table.set d t a v) b = if b = a then (if v = d then none else some v) else Table.find t b := by
  simp only [Table.set]
  split
  · rw [Table.find_erase]
  · rw [Table.find_insert]

theorem Table.get_set [DecidableEq β] (d : β) (t : Table β) (a b : Nat) (v : β) :
    Table.get d (Table.set d t a v) b = if b = a then v else Table.get d t b := by
  simp only [Table.get, Table.find_set]
  by_cases h : b = a
  · by_cases hv : v = d <;> simp [h, hv]
  · simp [h]

/-- A sorted table's keys after the first are above the first. -/
theorem Table.sorted_cons {k : Nat} {v : β} {t : Table β} :
    Table.sorted ((k, v) :: t) = true ↔ (∀ e ∈ t, k < e.1) ∧ Table.sorted t = true := by
  induction t generalizing k v with
  | nil => simp [Table.sorted]
  | cons e t ih =>
    obtain ⟨k', v'⟩ := e
    simp only [Table.sorted, Bool.and_eq_true, decide_eq_true_eq, List.mem_cons, forall_eq_or_imp]
    constructor
    · rintro ⟨h1, h2⟩
      exact ⟨⟨h1, fun e he => Nat.lt_trans h1 ((ih.mp h2).1 e he)⟩, h2⟩
    · rintro ⟨⟨h1, _⟩, h2⟩
      exact ⟨h1, h2⟩

theorem Table.mem_insert {t : Table β} {a : Nat} {v : β} {e : Nat × β} (h : e ∈ Table.insert t a v) : e = (a, v) ∨ e ∈ t := by
  induction t with
  | nil => simpa [Table.insert] using h
  | cons x t ih =>
    obtain ⟨k, w⟩ := x
    simp only [Table.insert] at h
    split at h
    · simpa using h
    · split at h
      · rcases List.mem_cons.mp h with h | h
        · exact .inl h
        · exact .inr (List.mem_cons_of_mem _ h)
      · rcases List.mem_cons.mp h with h | h
        · exact .inr (h ▸ List.mem_cons_self)
        · rcases ih h with h | h
          · exact .inl h
          · exact .inr (List.mem_cons_of_mem _ h)

theorem Table.mem_erase {t : Table β} {a : Nat} {e : Nat × β} (h : e ∈ Table.erase t a) : e ∈ t := by
  induction t with
  | nil => exact h
  | cons x t ih =>
    obtain ⟨k, w⟩ := x
    simp only [Table.erase] at h
    split at h
    · exact List.mem_cons_of_mem _ (ih h)
    · rcases List.mem_cons.mp h with h | h
      · exact h ▸ List.mem_cons_self
      · exact List.mem_cons_of_mem _ (ih h)

theorem Table.sorted_insert {t : Table β} (h : Table.sorted t = true) (a : Nat) (v : β) :
    Table.sorted (Table.insert t a v) = true := by
  induction t with
  | nil => rfl
  | cons x t ih =>
    obtain ⟨k, w⟩ := x
    obtain ⟨h1, h2⟩ := Table.sorted_cons.mp h
    simp only [Table.insert]
    split
    · rename_i hlt
      refine Table.sorted_cons.mpr ⟨?_, h⟩
      intro e he
      rcases List.mem_cons.mp he with rfl | he
      · exact hlt
      · exact Nat.lt_trans hlt (h1 e he)
    · split
      · rename_i heq
        subst heq
        exact Table.sorted_cons.mpr ⟨h1, h2⟩
      · refine Table.sorted_cons.mpr ⟨?_, ih h2⟩
        intro e he
        rcases Table.mem_insert he with rfl | he
        · simp only
          omega
        · exact h1 e he

theorem Table.sorted_erase {t : Table β} (h : Table.sorted t = true) (a : Nat) : Table.sorted (Table.erase t a) = true := by
  induction t with
  | nil => rfl
  | cons x t ih =>
    obtain ⟨k, w⟩ := x
    obtain ⟨h1, h2⟩ := Table.sorted_cons.mp h
    simp only [Table.erase]
    split
    · exact ih h2
    · exact Table.sorted_cons.mpr ⟨fun e he => h1 e (Table.mem_erase he), ih h2⟩

theorem Table.sorted_filter {t : Table β} (h : Table.sorted t = true) (p : Nat × β → Bool) : Table.sorted (t.filter p) = true := by
  induction t with
  | nil => rfl
  | cons x t ih =>
    obtain ⟨k, w⟩ := x
    obtain ⟨h1, h2⟩ := Table.sorted_cons.mp h
    simp only [List.filter_cons]
    split
    · exact Table.sorted_cons.mpr ⟨fun e he => h1 e ((List.mem_filter.mp he).1), ih h2⟩
    · exact ih h2

theorem Table.wf_iff [DecidableEq β] (d : β) (t : Table β) : Table.wf d t = true ↔ Table.sorted t = true ∧ ∀ e ∈ t, e.2 ≠ d := by
  simp [Table.wf, List.all_eq_true]

/-- Writing keeps the canonical form. -/
theorem Table.wf_set [DecidableEq β] {d : β} {t : Table β} (h : Table.wf d t = true) (a : Nat) (v : β) :
    Table.wf d (Table.set d t a v) = true := by
  obtain ⟨h1, h2⟩ := (Table.wf_iff d t).mp h
  refine (Table.wf_iff d _).mpr ?_
  simp only [Table.set]
  split
  · exact ⟨Table.sorted_erase h1 a, fun e he => h2 e (Table.mem_erase he)⟩
  · rename_i hv
    refine ⟨Table.sorted_insert h1 a v, fun e he => ?_⟩
    rcases Table.mem_insert he with rfl | he
    · exact hv
    · exact h2 e he

/-- Dropping entries keeps the canonical form. -/
theorem Table.wf_filter [DecidableEq β] {d : β} {t : Table β} (h : Table.wf d t = true) (p : Nat × β → Bool) :
    Table.wf d (t.filter p) = true := by
  obtain ⟨h1, h2⟩ := (Table.wf_iff d t).mp h
  exact (Table.wf_iff d _).mpr ⟨Table.sorted_filter h1 p, fun e he => h2 e ((List.mem_filter.mp he).1)⟩

end Sys2Proof.Machine
end

