-- ==== Sys2Proof/Laws/State.lean ====
section
/-!
SUPPORT. One lemma per field of State and per elementary update: what the update leaves alone. No later proof unfolds a record
update.
-/

namespace Sys2Proof.Machine

/-! ### put -/

@[simp] theorem State.put_pending (s : State) (f : Fld) (v : Nat) : (s.put f v).pending = s.pending := rfl
@[simp] theorem State.put_fresh (s : State) (f : Fld) (v : Nat) : (s.put f v).fresh = s.fresh := rfl
@[simp] theorem State.put_answer (s : State) (f : Fld) (v : Nat) : (s.put f v).answer = s.answer := rfl
@[simp] theorem State.put_supply (s : State) (f : Fld) (v : Nat) : (s.put f v).supply = s.supply := rfl
@[simp] theorem State.put_power (s : State) (f : Fld) (v : Nat) : (s.put f v).power = s.power := rfl
@[simp] theorem State.put_rst (s : State) (f : Fld) (v : Nat) : (s.put f v).rst = s.rst := rfl
@[simp] theorem State.put_owners (s : State) (f : Fld) (v : Nat) : (s.put f v).owners = s.owners := rfl
@[simp] theorem State.put_waiting (s : State) (f : Fld) (v : Nat) : (s.put f v).waiting = s.waiting := rfl
@[simp] theorem State.put_service (s : State) (f : Fld) (v : Nat) : (s.put f v).service = s.service := rfl
@[simp] theorem State.put_post (s : State) (f : Fld) (v : Nat) : (s.put f v).post = s.post := rfl
@[simp] theorem State.put_wdt (s : State) (f : Fld) (v : Nat) : (s.put f v).wdt = s.wdt := rfl
@[simp] theorem State.put_harts (s : State) (f : Fld) (v : Nat) : (s.put f v).harts = s.harts := rfl
@[simp] theorem State.put_mem (s : State) (f : Fld) (v : Nat) : (s.put f v).mem = s.mem := rfl
@[simp] theorem State.put_q (s : State) (f : Fld) (v : Nat) : (s.put f v).q = s.q := rfl
@[simp] theorem State.put_dbg (s : State) (f : Fld) (v : Nat) : (s.put f v).dbg = s.dbg := rfl
@[simp] theorem State.put_fab (s : State) (f : Fld) (v : Nat) : (s.put f v).fab = s.fab := rfl
@[simp] theorem State.put_ser (s : State) (f : Fld) (v : Nat) : (s.put f v).ser = s.ser := rfl
@[simp] theorem State.put_ntu (s : State) (f : Fld) (v : Nat) : (s.put f v).ntu = s.ntu := rfl
@[simp] theorem State.put_can (s : State) (f : Fld) (v : Nat) : (s.put f v).can = s.can := rfl
@[simp] theorem State.put_trx (s : State) (f : Fld) (v : Nat) : (s.put f v).trx = s.trx := rfl
@[simp] theorem State.put_phy (s : State) (f : Fld) (v : Nat) : (s.put f v).phy = s.phy := rfl
@[simp] theorem State.put_link (s : State) (f : Fld) (v : Nat) : (s.put f v).link = s.link := rfl
@[simp] theorem State.put_ctl (s : State) (f : Fld) (v : Nat) : (s.put f v).ctl = s.ctl := rfl
@[simp] theorem State.put_tooth (s : State) (f : Fld) (v : Nat) : (s.put f v).tooth = s.tooth := rfl
@[simp] theorem State.put_toothTime (s : State) (f : Fld) (v : Nat) : (s.put f v).toothTime = s.toothTime := rfl

/-! ### putB -/

@[simp] theorem State.putB_pending (s : State) (f : Fld) (b : Bool) : (s.putB f b).pending = s.pending := rfl
@[simp] theorem State.putB_fresh (s : State) (f : Fld) (b : Bool) : (s.putB f b).fresh = s.fresh := rfl
@[simp] theorem State.putB_answer (s : State) (f : Fld) (b : Bool) : (s.putB f b).answer = s.answer := rfl
@[simp] theorem State.putB_supply (s : State) (f : Fld) (b : Bool) : (s.putB f b).supply = s.supply := rfl
@[simp] theorem State.putB_power (s : State) (f : Fld) (b : Bool) : (s.putB f b).power = s.power := rfl
@[simp] theorem State.putB_rst (s : State) (f : Fld) (b : Bool) : (s.putB f b).rst = s.rst := rfl
@[simp] theorem State.putB_owners (s : State) (f : Fld) (b : Bool) : (s.putB f b).owners = s.owners := rfl
@[simp] theorem State.putB_waiting (s : State) (f : Fld) (b : Bool) : (s.putB f b).waiting = s.waiting := rfl
@[simp] theorem State.putB_service (s : State) (f : Fld) (b : Bool) : (s.putB f b).service = s.service := rfl
@[simp] theorem State.putB_post (s : State) (f : Fld) (b : Bool) : (s.putB f b).post = s.post := rfl
@[simp] theorem State.putB_wdt (s : State) (f : Fld) (b : Bool) : (s.putB f b).wdt = s.wdt := rfl
@[simp] theorem State.putB_harts (s : State) (f : Fld) (b : Bool) : (s.putB f b).harts = s.harts := rfl
@[simp] theorem State.putB_mem (s : State) (f : Fld) (b : Bool) : (s.putB f b).mem = s.mem := rfl
@[simp] theorem State.putB_q (s : State) (f : Fld) (b : Bool) : (s.putB f b).q = s.q := rfl
@[simp] theorem State.putB_dbg (s : State) (f : Fld) (b : Bool) : (s.putB f b).dbg = s.dbg := rfl
@[simp] theorem State.putB_fab (s : State) (f : Fld) (b : Bool) : (s.putB f b).fab = s.fab := rfl
@[simp] theorem State.putB_ser (s : State) (f : Fld) (b : Bool) : (s.putB f b).ser = s.ser := rfl
@[simp] theorem State.putB_ntu (s : State) (f : Fld) (b : Bool) : (s.putB f b).ntu = s.ntu := rfl
@[simp] theorem State.putB_can (s : State) (f : Fld) (b : Bool) : (s.putB f b).can = s.can := rfl
@[simp] theorem State.putB_trx (s : State) (f : Fld) (b : Bool) : (s.putB f b).trx = s.trx := rfl
@[simp] theorem State.putB_phy (s : State) (f : Fld) (b : Bool) : (s.putB f b).phy = s.phy := rfl
@[simp] theorem State.putB_link (s : State) (f : Fld) (b : Bool) : (s.putB f b).link = s.link := rfl
@[simp] theorem State.putB_ctl (s : State) (f : Fld) (b : Bool) : (s.putB f b).ctl = s.ctl := rfl
@[simp] theorem State.putB_tooth (s : State) (f : Fld) (b : Bool) : (s.putB f b).tooth = s.tooth := rfl
@[simp] theorem State.putB_toothTime (s : State) (f : Fld) (b : Bool) : (s.putB f b).toothTime = s.toothTime := rfl

/-! ### raise -/

@[simp] theorem State.raise_pending (s : State) (f : Fld) (i : Nat) : (s.raise f i).pending = s.pending := rfl
@[simp] theorem State.raise_fresh (s : State) (f : Fld) (i : Nat) : (s.raise f i).fresh = s.fresh := rfl
@[simp] theorem State.raise_answer (s : State) (f : Fld) (i : Nat) : (s.raise f i).answer = s.answer := rfl
@[simp] theorem State.raise_supply (s : State) (f : Fld) (i : Nat) : (s.raise f i).supply = s.supply := rfl
@[simp] theorem State.raise_power (s : State) (f : Fld) (i : Nat) : (s.raise f i).power = s.power := rfl
@[simp] theorem State.raise_rst (s : State) (f : Fld) (i : Nat) : (s.raise f i).rst = s.rst := rfl
@[simp] theorem State.raise_owners (s : State) (f : Fld) (i : Nat) : (s.raise f i).owners = s.owners := rfl
@[simp] theorem State.raise_waiting (s : State) (f : Fld) (i : Nat) : (s.raise f i).waiting = s.waiting := rfl
@[simp] theorem State.raise_service (s : State) (f : Fld) (i : Nat) : (s.raise f i).service = s.service := rfl
@[simp] theorem State.raise_post (s : State) (f : Fld) (i : Nat) : (s.raise f i).post = s.post := rfl
@[simp] theorem State.raise_wdt (s : State) (f : Fld) (i : Nat) : (s.raise f i).wdt = s.wdt := rfl
@[simp] theorem State.raise_harts (s : State) (f : Fld) (i : Nat) : (s.raise f i).harts = s.harts := rfl
@[simp] theorem State.raise_mem (s : State) (f : Fld) (i : Nat) : (s.raise f i).mem = s.mem := rfl
@[simp] theorem State.raise_q (s : State) (f : Fld) (i : Nat) : (s.raise f i).q = s.q := rfl
@[simp] theorem State.raise_dbg (s : State) (f : Fld) (i : Nat) : (s.raise f i).dbg = s.dbg := rfl
@[simp] theorem State.raise_fab (s : State) (f : Fld) (i : Nat) : (s.raise f i).fab = s.fab := rfl
@[simp] theorem State.raise_ser (s : State) (f : Fld) (i : Nat) : (s.raise f i).ser = s.ser := rfl
@[simp] theorem State.raise_ntu (s : State) (f : Fld) (i : Nat) : (s.raise f i).ntu = s.ntu := rfl
@[simp] theorem State.raise_can (s : State) (f : Fld) (i : Nat) : (s.raise f i).can = s.can := rfl
@[simp] theorem State.raise_trx (s : State) (f : Fld) (i : Nat) : (s.raise f i).trx = s.trx := rfl
@[simp] theorem State.raise_phy (s : State) (f : Fld) (i : Nat) : (s.raise f i).phy = s.phy := rfl
@[simp] theorem State.raise_link (s : State) (f : Fld) (i : Nat) : (s.raise f i).link = s.link := rfl
@[simp] theorem State.raise_ctl (s : State) (f : Fld) (i : Nat) : (s.raise f i).ctl = s.ctl := rfl
@[simp] theorem State.raise_tooth (s : State) (f : Fld) (i : Nat) : (s.raise f i).tooth = s.tooth := rfl
@[simp] theorem State.raise_toothTime (s : State) (f : Fld) (i : Nat) : (s.raise f i).toothTime = s.toothTime := rfl

/-! ### reply -/

@[simp] theorem State.reply_pending (s : State) (v : Nat) : (s.reply v).pending = s.pending := rfl
@[simp] theorem State.reply_fields (s : State) (v : Nat) : (s.reply v).fields = s.fields := rfl
@[simp] theorem State.reply_fresh (s : State) (v : Nat) : (s.reply v).fresh = s.fresh := rfl
@[simp] theorem State.reply_supply (s : State) (v : Nat) : (s.reply v).supply = s.supply := rfl
@[simp] theorem State.reply_power (s : State) (v : Nat) : (s.reply v).power = s.power := rfl
@[simp] theorem State.reply_rst (s : State) (v : Nat) : (s.reply v).rst = s.rst := rfl
@[simp] theorem State.reply_owners (s : State) (v : Nat) : (s.reply v).owners = s.owners := rfl
@[simp] theorem State.reply_waiting (s : State) (v : Nat) : (s.reply v).waiting = s.waiting := rfl
@[simp] theorem State.reply_service (s : State) (v : Nat) : (s.reply v).service = s.service := rfl
@[simp] theorem State.reply_post (s : State) (v : Nat) : (s.reply v).post = s.post := rfl
@[simp] theorem State.reply_wdt (s : State) (v : Nat) : (s.reply v).wdt = s.wdt := rfl
@[simp] theorem State.reply_harts (s : State) (v : Nat) : (s.reply v).harts = s.harts := rfl
@[simp] theorem State.reply_mem (s : State) (v : Nat) : (s.reply v).mem = s.mem := rfl
@[simp] theorem State.reply_q (s : State) (v : Nat) : (s.reply v).q = s.q := rfl
@[simp] theorem State.reply_dbg (s : State) (v : Nat) : (s.reply v).dbg = s.dbg := rfl
@[simp] theorem State.reply_fab (s : State) (v : Nat) : (s.reply v).fab = s.fab := rfl
@[simp] theorem State.reply_ser (s : State) (v : Nat) : (s.reply v).ser = s.ser := rfl
@[simp] theorem State.reply_ntu (s : State) (v : Nat) : (s.reply v).ntu = s.ntu := rfl
@[simp] theorem State.reply_can (s : State) (v : Nat) : (s.reply v).can = s.can := rfl
@[simp] theorem State.reply_trx (s : State) (v : Nat) : (s.reply v).trx = s.trx := rfl
@[simp] theorem State.reply_phy (s : State) (v : Nat) : (s.reply v).phy = s.phy := rfl
@[simp] theorem State.reply_link (s : State) (v : Nat) : (s.reply v).link = s.link := rfl
@[simp] theorem State.reply_ctl (s : State) (v : Nat) : (s.reply v).ctl = s.ctl := rfl
@[simp] theorem State.reply_tooth (s : State) (v : Nat) : (s.reply v).tooth = s.tooth := rfl
@[simp] theorem State.reply_toothTime (s : State) (v : Nat) : (s.reply v).toothTime = s.toothTime := rfl

/-! ### free -/

@[simp] theorem State.free_pending (s : State) (w : Nat) : ((s.free w).2).pending = s.pending := rfl
@[simp] theorem State.free_fields (s : State) (w : Nat) : ((s.free w).2).fields = s.fields := rfl
@[simp] theorem State.free_answer (s : State) (w : Nat) : ((s.free w).2).answer = s.answer := rfl
@[simp] theorem State.free_supply (s : State) (w : Nat) : ((s.free w).2).supply = s.supply := rfl
@[simp] theorem State.free_power (s : State) (w : Nat) : ((s.free w).2).power = s.power := rfl
@[simp] theorem State.free_rst (s : State) (w : Nat) : ((s.free w).2).rst = s.rst := rfl
@[simp] theorem State.free_owners (s : State) (w : Nat) : ((s.free w).2).owners = s.owners := rfl
@[simp] theorem State.free_waiting (s : State) (w : Nat) : ((s.free w).2).waiting = s.waiting := rfl
@[simp] theorem State.free_service (s : State) (w : Nat) : ((s.free w).2).service = s.service := rfl
@[simp] theorem State.free_post (s : State) (w : Nat) : ((s.free w).2).post = s.post := rfl
@[simp] theorem State.free_wdt (s : State) (w : Nat) : ((s.free w).2).wdt = s.wdt := rfl
@[simp] theorem State.free_harts (s : State) (w : Nat) : ((s.free w).2).harts = s.harts := rfl
@[simp] theorem State.free_mem (s : State) (w : Nat) : ((s.free w).2).mem = s.mem := rfl
@[simp] theorem State.free_q (s : State) (w : Nat) : ((s.free w).2).q = s.q := rfl
@[simp] theorem State.free_dbg (s : State) (w : Nat) : ((s.free w).2).dbg = s.dbg := rfl
@[simp] theorem State.free_fab (s : State) (w : Nat) : ((s.free w).2).fab = s.fab := rfl
@[simp] theorem State.free_ser (s : State) (w : Nat) : ((s.free w).2).ser = s.ser := rfl
@[simp] theorem State.free_ntu (s : State) (w : Nat) : ((s.free w).2).ntu = s.ntu := rfl
@[simp] theorem State.free_can (s : State) (w : Nat) : ((s.free w).2).can = s.can := rfl
@[simp] theorem State.free_trx (s : State) (w : Nat) : ((s.free w).2).trx = s.trx := rfl
@[simp] theorem State.free_phy (s : State) (w : Nat) : ((s.free w).2).phy = s.phy := rfl
@[simp] theorem State.free_link (s : State) (w : Nat) : ((s.free w).2).link = s.link := rfl
@[simp] theorem State.free_ctl (s : State) (w : Nat) : ((s.free w).2).ctl = s.ctl := rfl
@[simp] theorem State.free_tooth (s : State) (w : Nat) : ((s.free w).2).tooth = s.tooth := rfl
@[simp] theorem State.free_toothTime (s : State) (w : Nat) : ((s.free w).2).toothTime = s.toothTime := rfl

/-! ### freeBool -/

@[simp] theorem State.freeBool_pending (s : State) : (s.freeBool.2).pending = s.pending := rfl
@[simp] theorem State.freeBool_fields (s : State) : (s.freeBool.2).fields = s.fields := rfl
@[simp] theorem State.freeBool_answer (s : State) : (s.freeBool.2).answer = s.answer := rfl
@[simp] theorem State.freeBool_supply (s : State) : (s.freeBool.2).supply = s.supply := rfl
@[simp] theorem State.freeBool_power (s : State) : (s.freeBool.2).power = s.power := rfl
@[simp] theorem State.freeBool_rst (s : State) : (s.freeBool.2).rst = s.rst := rfl
@[simp] theorem State.freeBool_owners (s : State) : (s.freeBool.2).owners = s.owners := rfl
@[simp] theorem State.freeBool_waiting (s : State) : (s.freeBool.2).waiting = s.waiting := rfl
@[simp] theorem State.freeBool_service (s : State) : (s.freeBool.2).service = s.service := rfl
@[simp] theorem State.freeBool_post (s : State) : (s.freeBool.2).post = s.post := rfl
@[simp] theorem State.freeBool_wdt (s : State) : (s.freeBool.2).wdt = s.wdt := rfl
@[simp] theorem State.freeBool_harts (s : State) : (s.freeBool.2).harts = s.harts := rfl
@[simp] theorem State.freeBool_mem (s : State) : (s.freeBool.2).mem = s.mem := rfl
@[simp] theorem State.freeBool_q (s : State) : (s.freeBool.2).q = s.q := rfl
@[simp] theorem State.freeBool_dbg (s : State) : (s.freeBool.2).dbg = s.dbg := rfl
@[simp] theorem State.freeBool_fab (s : State) : (s.freeBool.2).fab = s.fab := rfl
@[simp] theorem State.freeBool_ser (s : State) : (s.freeBool.2).ser = s.ser := rfl
@[simp] theorem State.freeBool_ntu (s : State) : (s.freeBool.2).ntu = s.ntu := rfl
@[simp] theorem State.freeBool_can (s : State) : (s.freeBool.2).can = s.can := rfl
@[simp] theorem State.freeBool_trx (s : State) : (s.freeBool.2).trx = s.trx := rfl
@[simp] theorem State.freeBool_phy (s : State) : (s.freeBool.2).phy = s.phy := rfl
@[simp] theorem State.freeBool_link (s : State) : (s.freeBool.2).link = s.link := rfl
@[simp] theorem State.freeBool_ctl (s : State) : (s.freeBool.2).ctl = s.ctl := rfl
@[simp] theorem State.freeBool_tooth (s : State) : (s.freeBool.2).tooth = s.tooth := rfl
@[simp] theorem State.freeBool_toothTime (s : State) : (s.freeBool.2).toothTime = s.toothTime := rfl

/-! ### setIsland -/

@[simp] theorem State.setIsland_pending (s : State) (i : Island) (v : IslandState) : (s.setIsland i v).pending = s.pending := rfl
@[simp] theorem State.setIsland_fields (s : State) (i : Island) (v : IslandState) : (s.setIsland i v).fields = s.fields := rfl
@[simp] theorem State.setIsland_fresh (s : State) (i : Island) (v : IslandState) : (s.setIsland i v).fresh = s.fresh := rfl
@[simp] theorem State.setIsland_answer (s : State) (i : Island) (v : IslandState) : (s.setIsland i v).answer = s.answer := rfl
@[simp] theorem State.setIsland_supply (s : State) (i : Island) (v : IslandState) : (s.setIsland i v).supply = s.supply := rfl
@[simp] theorem State.setIsland_rst (s : State) (i : Island) (v : IslandState) : (s.setIsland i v).rst = s.rst := rfl
@[simp] theorem State.setIsland_owners (s : State) (i : Island) (v : IslandState) : (s.setIsland i v).owners = s.owners := rfl
@[simp] theorem State.setIsland_waiting (s : State) (i : Island) (v : IslandState) : (s.setIsland i v).waiting = s.waiting := rfl
@[simp] theorem State.setIsland_service (s : State) (i : Island) (v : IslandState) : (s.setIsland i v).service = s.service := rfl
@[simp] theorem State.setIsland_post (s : State) (i : Island) (v : IslandState) : (s.setIsland i v).post = s.post := rfl
@[simp] theorem State.setIsland_wdt (s : State) (i : Island) (v : IslandState) : (s.setIsland i v).wdt = s.wdt := rfl
@[simp] theorem State.setIsland_harts (s : State) (i : Island) (v : IslandState) : (s.setIsland i v).harts = s.harts := rfl
@[simp] theorem State.setIsland_mem (s : State) (i : Island) (v : IslandState) : (s.setIsland i v).mem = s.mem := rfl
@[simp] theorem State.setIsland_q (s : State) (i : Island) (v : IslandState) : (s.setIsland i v).q = s.q := rfl
@[simp] theorem State.setIsland_dbg (s : State) (i : Island) (v : IslandState) : (s.setIsland i v).dbg = s.dbg := rfl
@[simp] theorem State.setIsland_fab (s : State) (i : Island) (v : IslandState) : (s.setIsland i v).fab = s.fab := rfl
@[simp] theorem State.setIsland_ser (s : State) (i : Island) (v : IslandState) : (s.setIsland i v).ser = s.ser := rfl
@[simp] theorem State.setIsland_ntu (s : State) (i : Island) (v : IslandState) : (s.setIsland i v).ntu = s.ntu := rfl
@[simp] theorem State.setIsland_can (s : State) (i : Island) (v : IslandState) : (s.setIsland i v).can = s.can := rfl
@[simp] theorem State.setIsland_trx (s : State) (i : Island) (v : IslandState) : (s.setIsland i v).trx = s.trx := rfl
@[simp] theorem State.setIsland_phy (s : State) (i : Island) (v : IslandState) : (s.setIsland i v).phy = s.phy := rfl
@[simp] theorem State.setIsland_link (s : State) (i : Island) (v : IslandState) : (s.setIsland i v).link = s.link := rfl
@[simp] theorem State.setIsland_ctl (s : State) (i : Island) (v : IslandState) : (s.setIsland i v).ctl = s.ctl := rfl
@[simp] theorem State.setIsland_tooth (s : State) (i : Island) (v : IslandState) : (s.setIsland i v).tooth = s.tooth := rfl
@[simp] theorem State.setIsland_toothTime (s : State) (i : Island) (v : IslandState) : (s.setIsland i v).toothTime = s.toothTime := rfl

/-! ### modHart -/

@[simp] theorem State.modHart_pending (s : State) (n : Nat) (f : Hart → Hart) : (s.modHart n f).pending = s.pending := rfl
@[simp] theorem State.modHart_fields (s : State) (n : Nat) (f : Hart → Hart) : (s.modHart n f).fields = s.fields := rfl
@[simp] theorem State.modHart_fresh (s : State) (n : Nat) (f : Hart → Hart) : (s.modHart n f).fresh = s.fresh := rfl
@[simp] theorem State.modHart_answer (s : State) (n : Nat) (f : Hart → Hart) : (s.modHart n f).answer = s.answer := rfl
@[simp] theorem State.modHart_supply (s : State) (n : Nat) (f : Hart → Hart) : (s.modHart n f).supply = s.supply := rfl
@[simp] theorem State.modHart_power (s : State) (n : Nat) (f : Hart → Hart) : (s.modHart n f).power = s.power := rfl
@[simp] theorem State.modHart_rst (s : State) (n : Nat) (f : Hart → Hart) : (s.modHart n f).rst = s.rst := rfl
@[simp] theorem State.modHart_owners (s : State) (n : Nat) (f : Hart → Hart) : (s.modHart n f).owners = s.owners := rfl
@[simp] theorem State.modHart_waiting (s : State) (n : Nat) (f : Hart → Hart) : (s.modHart n f).waiting = s.waiting := rfl
@[simp] theorem State.modHart_service (s : State) (n : Nat) (f : Hart → Hart) : (s.modHart n f).service = s.service := rfl
@[simp] theorem State.modHart_post (s : State) (n : Nat) (f : Hart → Hart) : (s.modHart n f).post = s.post := rfl
@[simp] theorem State.modHart_wdt (s : State) (n : Nat) (f : Hart → Hart) : (s.modHart n f).wdt = s.wdt := rfl
@[simp] theorem State.modHart_mem (s : State) (n : Nat) (f : Hart → Hart) : (s.modHart n f).mem = s.mem := rfl
@[simp] theorem State.modHart_q (s : State) (n : Nat) (f : Hart → Hart) : (s.modHart n f).q = s.q := rfl
@[simp] theorem State.modHart_dbg (s : State) (n : Nat) (f : Hart → Hart) : (s.modHart n f).dbg = s.dbg := rfl
@[simp] theorem State.modHart_fab (s : State) (n : Nat) (f : Hart → Hart) : (s.modHart n f).fab = s.fab := rfl
@[simp] theorem State.modHart_ser (s : State) (n : Nat) (f : Hart → Hart) : (s.modHart n f).ser = s.ser := rfl
@[simp] theorem State.modHart_ntu (s : State) (n : Nat) (f : Hart → Hart) : (s.modHart n f).ntu = s.ntu := rfl
@[simp] theorem State.modHart_can (s : State) (n : Nat) (f : Hart → Hart) : (s.modHart n f).can = s.can := rfl
@[simp] theorem State.modHart_trx (s : State) (n : Nat) (f : Hart → Hart) : (s.modHart n f).trx = s.trx := rfl
@[simp] theorem State.modHart_phy (s : State) (n : Nat) (f : Hart → Hart) : (s.modHart n f).phy = s.phy := rfl
@[simp] theorem State.modHart_link (s : State) (n : Nat) (f : Hart → Hart) : (s.modHart n f).link = s.link := rfl
@[simp] theorem State.modHart_ctl (s : State) (n : Nat) (f : Hart → Hart) : (s.modHart n f).ctl = s.ctl := rfl
@[simp] theorem State.modHart_tooth (s : State) (n : Nat) (f : Hart → Hart) : (s.modHart n f).tooth = s.tooth := rfl
@[simp] theorem State.modHart_toothTime (s : State) (n : Nat) (f : Hart → Hart) : (s.modHart n f).toothTime = s.toothTime := rfl

/-! ### modCan -/

@[simp] theorem State.modCan_pending (s : State) (x : Nat) (f : CanCtl → CanCtl) : (s.modCan x f).pending = s.pending := rfl
@[simp] theorem State.modCan_fields (s : State) (x : Nat) (f : CanCtl → CanCtl) : (s.modCan x f).fields = s.fields := rfl
@[simp] theorem State.modCan_fresh (s : State) (x : Nat) (f : CanCtl → CanCtl) : (s.modCan x f).fresh = s.fresh := rfl
@[simp] theorem State.modCan_answer (s : State) (x : Nat) (f : CanCtl → CanCtl) : (s.modCan x f).answer = s.answer := rfl
@[simp] theorem State.modCan_supply (s : State) (x : Nat) (f : CanCtl → CanCtl) : (s.modCan x f).supply = s.supply := rfl
@[simp] theorem State.modCan_power (s : State) (x : Nat) (f : CanCtl → CanCtl) : (s.modCan x f).power = s.power := rfl
@[simp] theorem State.modCan_rst (s : State) (x : Nat) (f : CanCtl → CanCtl) : (s.modCan x f).rst = s.rst := rfl
@[simp] theorem State.modCan_owners (s : State) (x : Nat) (f : CanCtl → CanCtl) : (s.modCan x f).owners = s.owners := rfl
@[simp] theorem State.modCan_waiting (s : State) (x : Nat) (f : CanCtl → CanCtl) : (s.modCan x f).waiting = s.waiting := rfl
@[simp] theorem State.modCan_service (s : State) (x : Nat) (f : CanCtl → CanCtl) : (s.modCan x f).service = s.service := rfl
@[simp] theorem State.modCan_post (s : State) (x : Nat) (f : CanCtl → CanCtl) : (s.modCan x f).post = s.post := rfl
@[simp] theorem State.modCan_wdt (s : State) (x : Nat) (f : CanCtl → CanCtl) : (s.modCan x f).wdt = s.wdt := rfl
@[simp] theorem State.modCan_harts (s : State) (x : Nat) (f : CanCtl → CanCtl) : (s.modCan x f).harts = s.harts := rfl
@[simp] theorem State.modCan_mem (s : State) (x : Nat) (f : CanCtl → CanCtl) : (s.modCan x f).mem = s.mem := rfl
@[simp] theorem State.modCan_q (s : State) (x : Nat) (f : CanCtl → CanCtl) : (s.modCan x f).q = s.q := rfl
@[simp] theorem State.modCan_dbg (s : State) (x : Nat) (f : CanCtl → CanCtl) : (s.modCan x f).dbg = s.dbg := rfl
@[simp] theorem State.modCan_fab (s : State) (x : Nat) (f : CanCtl → CanCtl) : (s.modCan x f).fab = s.fab := rfl
@[simp] theorem State.modCan_ser (s : State) (x : Nat) (f : CanCtl → CanCtl) : (s.modCan x f).ser = s.ser := rfl
@[simp] theorem State.modCan_ntu (s : State) (x : Nat) (f : CanCtl → CanCtl) : (s.modCan x f).ntu = s.ntu := rfl
@[simp] theorem State.modCan_trx (s : State) (x : Nat) (f : CanCtl → CanCtl) : (s.modCan x f).trx = s.trx := rfl
@[simp] theorem State.modCan_phy (s : State) (x : Nat) (f : CanCtl → CanCtl) : (s.modCan x f).phy = s.phy := rfl
@[simp] theorem State.modCan_link (s : State) (x : Nat) (f : CanCtl → CanCtl) : (s.modCan x f).link = s.link := rfl
@[simp] theorem State.modCan_ctl (s : State) (x : Nat) (f : CanCtl → CanCtl) : (s.modCan x f).ctl = s.ctl := rfl
@[simp] theorem State.modCan_tooth (s : State) (x : Nat) (f : CanCtl → CanCtl) : (s.modCan x f).tooth = s.tooth := rfl
@[simp] theorem State.modCan_toothTime (s : State) (x : Nat) (f : CanCtl → CanCtl) : (s.modCan x f).toothTime = s.toothTime := rfl

/-! ### modPhy -/

@[simp] theorem State.modPhy_pending (s : State) (f : Phy → Phy) : (s.modPhy f).pending = s.pending := rfl
@[simp] theorem State.modPhy_fields (s : State) (f : Phy → Phy) : (s.modPhy f).fields = s.fields := rfl
@[simp] theorem State.modPhy_fresh (s : State) (f : Phy → Phy) : (s.modPhy f).fresh = s.fresh := rfl
@[simp] theorem State.modPhy_answer (s : State) (f : Phy → Phy) : (s.modPhy f).answer = s.answer := rfl
@[simp] theorem State.modPhy_supply (s : State) (f : Phy → Phy) : (s.modPhy f).supply = s.supply := rfl
@[simp] theorem State.modPhy_power (s : State) (f : Phy → Phy) : (s.modPhy f).power = s.power := rfl
@[simp] theorem State.modPhy_rst (s : State) (f : Phy → Phy) : (s.modPhy f).rst = s.rst := rfl
@[simp] theorem State.modPhy_owners (s : State) (f : Phy → Phy) : (s.modPhy f).owners = s.owners := rfl
@[simp] theorem State.modPhy_waiting (s : State) (f : Phy → Phy) : (s.modPhy f).waiting = s.waiting := rfl
@[simp] theorem State.modPhy_service (s : State) (f : Phy → Phy) : (s.modPhy f).service = s.service := rfl
@[simp] theorem State.modPhy_post (s : State) (f : Phy → Phy) : (s.modPhy f).post = s.post := rfl
@[simp] theorem State.modPhy_wdt (s : State) (f : Phy → Phy) : (s.modPhy f).wdt = s.wdt := rfl
@[simp] theorem State.modPhy_harts (s : State) (f : Phy → Phy) : (s.modPhy f).harts = s.harts := rfl
@[simp] theorem State.modPhy_mem (s : State) (f : Phy → Phy) : (s.modPhy f).mem = s.mem := rfl
@[simp] theorem State.modPhy_q (s : State) (f : Phy → Phy) : (s.modPhy f).q = s.q := rfl
@[simp] theorem State.modPhy_dbg (s : State) (f : Phy → Phy) : (s.modPhy f).dbg = s.dbg := rfl
@[simp] theorem State.modPhy_fab (s : State) (f : Phy → Phy) : (s.modPhy f).fab = s.fab := rfl
@[simp] theorem State.modPhy_ser (s : State) (f : Phy → Phy) : (s.modPhy f).ser = s.ser := rfl
@[simp] theorem State.modPhy_ntu (s : State) (f : Phy → Phy) : (s.modPhy f).ntu = s.ntu := rfl
@[simp] theorem State.modPhy_can (s : State) (f : Phy → Phy) : (s.modPhy f).can = s.can := rfl
@[simp] theorem State.modPhy_trx (s : State) (f : Phy → Phy) : (s.modPhy f).trx = s.trx := rfl
@[simp] theorem State.modPhy_link (s : State) (f : Phy → Phy) : (s.modPhy f).link = s.link := rfl
@[simp] theorem State.modPhy_ctl (s : State) (f : Phy → Phy) : (s.modPhy f).ctl = s.ctl := rfl
@[simp] theorem State.modPhy_tooth (s : State) (f : Phy → Phy) : (s.modPhy f).tooth = s.tooth := rfl
@[simp] theorem State.modPhy_toothTime (s : State) (f : Phy → Phy) : (s.modPhy f).toothTime = s.toothTime := rfl

/-! ### modLink -/

@[simp] theorem State.modLink_pending (s : State) (f : Link → Link) : (s.modLink f).pending = s.pending := rfl
@[simp] theorem State.modLink_fields (s : State) (f : Link → Link) : (s.modLink f).fields = s.fields := rfl
@[simp] theorem State.modLink_fresh (s : State) (f : Link → Link) : (s.modLink f).fresh = s.fresh := rfl
@[simp] theorem State.modLink_answer (s : State) (f : Link → Link) : (s.modLink f).answer = s.answer := rfl
@[simp] theorem State.modLink_supply (s : State) (f : Link → Link) : (s.modLink f).supply = s.supply := rfl
@[simp] theorem State.modLink_power (s : State) (f : Link → Link) : (s.modLink f).power = s.power := rfl
@[simp] theorem State.modLink_rst (s : State) (f : Link → Link) : (s.modLink f).rst = s.rst := rfl
@[simp] theorem State.modLink_owners (s : State) (f : Link → Link) : (s.modLink f).owners = s.owners := rfl
@[simp] theorem State.modLink_waiting (s : State) (f : Link → Link) : (s.modLink f).waiting = s.waiting := rfl
@[simp] theorem State.modLink_service (s : State) (f : Link → Link) : (s.modLink f).service = s.service := rfl
@[simp] theorem State.modLink_post (s : State) (f : Link → Link) : (s.modLink f).post = s.post := rfl
@[simp] theorem State.modLink_wdt (s : State) (f : Link → Link) : (s.modLink f).wdt = s.wdt := rfl
@[simp] theorem State.modLink_harts (s : State) (f : Link → Link) : (s.modLink f).harts = s.harts := rfl
@[simp] theorem State.modLink_mem (s : State) (f : Link → Link) : (s.modLink f).mem = s.mem := rfl
@[simp] theorem State.modLink_q (s : State) (f : Link → Link) : (s.modLink f).q = s.q := rfl
@[simp] theorem State.modLink_dbg (s : State) (f : Link → Link) : (s.modLink f).dbg = s.dbg := rfl
@[simp] theorem State.modLink_fab (s : State) (f : Link → Link) : (s.modLink f).fab = s.fab := rfl
@[simp] theorem State.modLink_ser (s : State) (f : Link → Link) : (s.modLink f).ser = s.ser := rfl
@[simp] theorem State.modLink_ntu (s : State) (f : Link → Link) : (s.modLink f).ntu = s.ntu := rfl
@[simp] theorem State.modLink_can (s : State) (f : Link → Link) : (s.modLink f).can = s.can := rfl
@[simp] theorem State.modLink_trx (s : State) (f : Link → Link) : (s.modLink f).trx = s.trx := rfl
@[simp] theorem State.modLink_phy (s : State) (f : Link → Link) : (s.modLink f).phy = s.phy := rfl
@[simp] theorem State.modLink_ctl (s : State) (f : Link → Link) : (s.modLink f).ctl = s.ctl := rfl
@[simp] theorem State.modLink_tooth (s : State) (f : Link → Link) : (s.modLink f).tooth = s.tooth := rfl
@[simp] theorem State.modLink_toothTime (s : State) (f : Link → Link) : (s.modLink f).toothTime = s.toothTime := rfl

/-! ### modTooth -/

@[simp] theorem State.modTooth_pending (s : State) (c : Nat) (f : Tooth → Tooth) : (s.modTooth c f).pending = s.pending := rfl
@[simp] theorem State.modTooth_fields (s : State) (c : Nat) (f : Tooth → Tooth) : (s.modTooth c f).fields = s.fields := rfl
@[simp] theorem State.modTooth_fresh (s : State) (c : Nat) (f : Tooth → Tooth) : (s.modTooth c f).fresh = s.fresh := rfl
@[simp] theorem State.modTooth_answer (s : State) (c : Nat) (f : Tooth → Tooth) : (s.modTooth c f).answer = s.answer := rfl
@[simp] theorem State.modTooth_supply (s : State) (c : Nat) (f : Tooth → Tooth) : (s.modTooth c f).supply = s.supply := rfl
@[simp] theorem State.modTooth_power (s : State) (c : Nat) (f : Tooth → Tooth) : (s.modTooth c f).power = s.power := rfl
@[simp] theorem State.modTooth_rst (s : State) (c : Nat) (f : Tooth → Tooth) : (s.modTooth c f).rst = s.rst := rfl
@[simp] theorem State.modTooth_owners (s : State) (c : Nat) (f : Tooth → Tooth) : (s.modTooth c f).owners = s.owners := rfl
@[simp] theorem State.modTooth_waiting (s : State) (c : Nat) (f : Tooth → Tooth) : (s.modTooth c f).waiting = s.waiting := rfl
@[simp] theorem State.modTooth_service (s : State) (c : Nat) (f : Tooth → Tooth) : (s.modTooth c f).service = s.service := rfl
@[simp] theorem State.modTooth_post (s : State) (c : Nat) (f : Tooth → Tooth) : (s.modTooth c f).post = s.post := rfl
@[simp] theorem State.modTooth_wdt (s : State) (c : Nat) (f : Tooth → Tooth) : (s.modTooth c f).wdt = s.wdt := rfl
@[simp] theorem State.modTooth_harts (s : State) (c : Nat) (f : Tooth → Tooth) : (s.modTooth c f).harts = s.harts := rfl
@[simp] theorem State.modTooth_mem (s : State) (c : Nat) (f : Tooth → Tooth) : (s.modTooth c f).mem = s.mem := rfl
@[simp] theorem State.modTooth_q (s : State) (c : Nat) (f : Tooth → Tooth) : (s.modTooth c f).q = s.q := rfl
@[simp] theorem State.modTooth_dbg (s : State) (c : Nat) (f : Tooth → Tooth) : (s.modTooth c f).dbg = s.dbg := rfl
@[simp] theorem State.modTooth_fab (s : State) (c : Nat) (f : Tooth → Tooth) : (s.modTooth c f).fab = s.fab := rfl
@[simp] theorem State.modTooth_ser (s : State) (c : Nat) (f : Tooth → Tooth) : (s.modTooth c f).ser = s.ser := rfl
@[simp] theorem State.modTooth_ntu (s : State) (c : Nat) (f : Tooth → Tooth) : (s.modTooth c f).ntu = s.ntu := rfl
@[simp] theorem State.modTooth_can (s : State) (c : Nat) (f : Tooth → Tooth) : (s.modTooth c f).can = s.can := rfl
@[simp] theorem State.modTooth_trx (s : State) (c : Nat) (f : Tooth → Tooth) : (s.modTooth c f).trx = s.trx := rfl
@[simp] theorem State.modTooth_phy (s : State) (c : Nat) (f : Tooth → Tooth) : (s.modTooth c f).phy = s.phy := rfl
@[simp] theorem State.modTooth_link (s : State) (c : Nat) (f : Tooth → Tooth) : (s.modTooth c f).link = s.link := rfl
@[simp] theorem State.modTooth_ctl (s : State) (c : Nat) (f : Tooth → Tooth) : (s.modTooth c f).ctl = s.ctl := rfl
@[simp] theorem State.modTooth_toothTime (s : State) (c : Nat) (f : Tooth → Tooth) : (s.modTooth c f).toothTime = s.toothTime := rfl

/-! ### setRam -/

@[simp] theorem State.setRam_pending (s : State) (p v : Nat) : (s.setRam p v).pending = s.pending := rfl
@[simp] theorem State.setRam_fields (s : State) (p v : Nat) : (s.setRam p v).fields = s.fields := rfl
@[simp] theorem State.setRam_fresh (s : State) (p v : Nat) : (s.setRam p v).fresh = s.fresh := rfl
@[simp] theorem State.setRam_answer (s : State) (p v : Nat) : (s.setRam p v).answer = s.answer := rfl
@[simp] theorem State.setRam_supply (s : State) (p v : Nat) : (s.setRam p v).supply = s.supply := rfl
@[simp] theorem State.setRam_power (s : State) (p v : Nat) : (s.setRam p v).power = s.power := rfl
@[simp] theorem State.setRam_rst (s : State) (p v : Nat) : (s.setRam p v).rst = s.rst := rfl
@[simp] theorem State.setRam_owners (s : State) (p v : Nat) : (s.setRam p v).owners = s.owners := rfl
@[simp] theorem State.setRam_waiting (s : State) (p v : Nat) : (s.setRam p v).waiting = s.waiting := rfl
@[simp] theorem State.setRam_service (s : State) (p v : Nat) : (s.setRam p v).service = s.service := rfl
@[simp] theorem State.setRam_post (s : State) (p v : Nat) : (s.setRam p v).post = s.post := rfl
@[simp] theorem State.setRam_wdt (s : State) (p v : Nat) : (s.setRam p v).wdt = s.wdt := rfl
@[simp] theorem State.setRam_harts (s : State) (p v : Nat) : (s.setRam p v).harts = s.harts := rfl
@[simp] theorem State.setRam_q (s : State) (p v : Nat) : (s.setRam p v).q = s.q := rfl
@[simp] theorem State.setRam_dbg (s : State) (p v : Nat) : (s.setRam p v).dbg = s.dbg := rfl
@[simp] theorem State.setRam_fab (s : State) (p v : Nat) : (s.setRam p v).fab = s.fab := rfl
@[simp] theorem State.setRam_ser (s : State) (p v : Nat) : (s.setRam p v).ser = s.ser := rfl
@[simp] theorem State.setRam_ntu (s : State) (p v : Nat) : (s.setRam p v).ntu = s.ntu := rfl
@[simp] theorem State.setRam_can (s : State) (p v : Nat) : (s.setRam p v).can = s.can := rfl
@[simp] theorem State.setRam_trx (s : State) (p v : Nat) : (s.setRam p v).trx = s.trx := rfl
@[simp] theorem State.setRam_phy (s : State) (p v : Nat) : (s.setRam p v).phy = s.phy := rfl
@[simp] theorem State.setRam_link (s : State) (p v : Nat) : (s.setRam p v).link = s.link := rfl
@[simp] theorem State.setRam_ctl (s : State) (p v : Nat) : (s.setRam p v).ctl = s.ctl := rfl
@[simp] theorem State.setRam_tooth (s : State) (p v : Nat) : (s.setRam p v).tooth = s.tooth := rfl
@[simp] theorem State.setRam_toothTime (s : State) (p v : Nat) : (s.setRam p v).toothTime = s.toothTime := rfl

/-! ### setFlash -/

@[simp] theorem State.setFlash_pending (s : State) (p v : Nat) : (s.setFlash p v).pending = s.pending := rfl
@[simp] theorem State.setFlash_fields (s : State) (p v : Nat) : (s.setFlash p v).fields = s.fields := rfl
@[simp] theorem State.setFlash_fresh (s : State) (p v : Nat) : (s.setFlash p v).fresh = s.fresh := rfl
@[simp] theorem State.setFlash_answer (s : State) (p v : Nat) : (s.setFlash p v).answer = s.answer := rfl
@[simp] theorem State.setFlash_supply (s : State) (p v : Nat) : (s.setFlash p v).supply = s.supply := rfl
@[simp] theorem State.setFlash_power (s : State) (p v : Nat) : (s.setFlash p v).power = s.power := rfl
@[simp] theorem State.setFlash_rst (s : State) (p v : Nat) : (s.setFlash p v).rst = s.rst := rfl
@[simp] theorem State.setFlash_owners (s : State) (p v : Nat) : (s.setFlash p v).owners = s.owners := rfl
@[simp] theorem State.setFlash_waiting (s : State) (p v : Nat) : (s.setFlash p v).waiting = s.waiting := rfl
@[simp] theorem State.setFlash_service (s : State) (p v : Nat) : (s.setFlash p v).service = s.service := rfl
@[simp] theorem State.setFlash_post (s : State) (p v : Nat) : (s.setFlash p v).post = s.post := rfl
@[simp] theorem State.setFlash_wdt (s : State) (p v : Nat) : (s.setFlash p v).wdt = s.wdt := rfl
@[simp] theorem State.setFlash_harts (s : State) (p v : Nat) : (s.setFlash p v).harts = s.harts := rfl
@[simp] theorem State.setFlash_q (s : State) (p v : Nat) : (s.setFlash p v).q = s.q := rfl
@[simp] theorem State.setFlash_dbg (s : State) (p v : Nat) : (s.setFlash p v).dbg = s.dbg := rfl
@[simp] theorem State.setFlash_fab (s : State) (p v : Nat) : (s.setFlash p v).fab = s.fab := rfl
@[simp] theorem State.setFlash_ser (s : State) (p v : Nat) : (s.setFlash p v).ser = s.ser := rfl
@[simp] theorem State.setFlash_ntu (s : State) (p v : Nat) : (s.setFlash p v).ntu = s.ntu := rfl
@[simp] theorem State.setFlash_can (s : State) (p v : Nat) : (s.setFlash p v).can = s.can := rfl
@[simp] theorem State.setFlash_trx (s : State) (p v : Nat) : (s.setFlash p v).trx = s.trx := rfl
@[simp] theorem State.setFlash_phy (s : State) (p v : Nat) : (s.setFlash p v).phy = s.phy := rfl
@[simp] theorem State.setFlash_link (s : State) (p v : Nat) : (s.setFlash p v).link = s.link := rfl
@[simp] theorem State.setFlash_ctl (s : State) (p v : Nat) : (s.setFlash p v).ctl = s.ctl := rfl
@[simp] theorem State.setFlash_tooth (s : State) (p v : Nat) : (s.setFlash p v).tooth = s.tooth := rfl
@[simp] theorem State.setFlash_toothTime (s : State) (p v : Nat) : (s.setFlash p v).toothTime = s.toothTime := rfl

/-! ### setEvout -/

@[simp] theorem State.setEvout_pending (s : State) (k : Nat) (b : Bool) : (s.setEvout k b).pending = s.pending := rfl
@[simp] theorem State.setEvout_fields (s : State) (k : Nat) (b : Bool) : (s.setEvout k b).fields = s.fields := rfl
@[simp] theorem State.setEvout_fresh (s : State) (k : Nat) (b : Bool) : (s.setEvout k b).fresh = s.fresh := rfl
@[simp] theorem State.setEvout_answer (s : State) (k : Nat) (b : Bool) : (s.setEvout k b).answer = s.answer := rfl
@[simp] theorem State.setEvout_supply (s : State) (k : Nat) (b : Bool) : (s.setEvout k b).supply = s.supply := rfl
@[simp] theorem State.setEvout_power (s : State) (k : Nat) (b : Bool) : (s.setEvout k b).power = s.power := rfl
@[simp] theorem State.setEvout_rst (s : State) (k : Nat) (b : Bool) : (s.setEvout k b).rst = s.rst := rfl
@[simp] theorem State.setEvout_owners (s : State) (k : Nat) (b : Bool) : (s.setEvout k b).owners = s.owners := rfl
@[simp] theorem State.setEvout_waiting (s : State) (k : Nat) (b : Bool) : (s.setEvout k b).waiting = s.waiting := rfl
@[simp] theorem State.setEvout_service (s : State) (k : Nat) (b : Bool) : (s.setEvout k b).service = s.service := rfl
@[simp] theorem State.setEvout_post (s : State) (k : Nat) (b : Bool) : (s.setEvout k b).post = s.post := rfl
@[simp] theorem State.setEvout_wdt (s : State) (k : Nat) (b : Bool) : (s.setEvout k b).wdt = s.wdt := rfl
@[simp] theorem State.setEvout_harts (s : State) (k : Nat) (b : Bool) : (s.setEvout k b).harts = s.harts := rfl
@[simp] theorem State.setEvout_mem (s : State) (k : Nat) (b : Bool) : (s.setEvout k b).mem = s.mem := rfl
@[simp] theorem State.setEvout_q (s : State) (k : Nat) (b : Bool) : (s.setEvout k b).q = s.q := rfl
@[simp] theorem State.setEvout_dbg (s : State) (k : Nat) (b : Bool) : (s.setEvout k b).dbg = s.dbg := rfl
@[simp] theorem State.setEvout_ser (s : State) (k : Nat) (b : Bool) : (s.setEvout k b).ser = s.ser := rfl
@[simp] theorem State.setEvout_ntu (s : State) (k : Nat) (b : Bool) : (s.setEvout k b).ntu = s.ntu := rfl
@[simp] theorem State.setEvout_can (s : State) (k : Nat) (b : Bool) : (s.setEvout k b).can = s.can := rfl
@[simp] theorem State.setEvout_trx (s : State) (k : Nat) (b : Bool) : (s.setEvout k b).trx = s.trx := rfl
@[simp] theorem State.setEvout_phy (s : State) (k : Nat) (b : Bool) : (s.setEvout k b).phy = s.phy := rfl
@[simp] theorem State.setEvout_link (s : State) (k : Nat) (b : Bool) : (s.setEvout k b).link = s.link := rfl
@[simp] theorem State.setEvout_ctl (s : State) (k : Nat) (b : Bool) : (s.setEvout k b).ctl = s.ctl := rfl
@[simp] theorem State.setEvout_tooth (s : State) (k : Nat) (b : Bool) : (s.setEvout k b).tooth = s.tooth := rfl
@[simp] theorem State.setEvout_toothTime (s : State) (k : Nat) (b : Bool) : (s.setEvout k b).toothTime = s.toothTime := rfl

/-! ### setSignal -/

@[simp] theorem State.setSignal_pending (s : State) (c : Nat) (b : Bool) : (s.setSignal c b).pending = s.pending := rfl
@[simp] theorem State.setSignal_fields (s : State) (c : Nat) (b : Bool) : (s.setSignal c b).fields = s.fields := rfl
@[simp] theorem State.setSignal_fresh (s : State) (c : Nat) (b : Bool) : (s.setSignal c b).fresh = s.fresh := rfl
@[simp] theorem State.setSignal_answer (s : State) (c : Nat) (b : Bool) : (s.setSignal c b).answer = s.answer := rfl
@[simp] theorem State.setSignal_supply (s : State) (c : Nat) (b : Bool) : (s.setSignal c b).supply = s.supply := rfl
@[simp] theorem State.setSignal_power (s : State) (c : Nat) (b : Bool) : (s.setSignal c b).power = s.power := rfl
@[simp] theorem State.setSignal_rst (s : State) (c : Nat) (b : Bool) : (s.setSignal c b).rst = s.rst := rfl
@[simp] theorem State.setSignal_owners (s : State) (c : Nat) (b : Bool) : (s.setSignal c b).owners = s.owners := rfl
@[simp] theorem State.setSignal_waiting (s : State) (c : Nat) (b : Bool) : (s.setSignal c b).waiting = s.waiting := rfl
@[simp] theorem State.setSignal_service (s : State) (c : Nat) (b : Bool) : (s.setSignal c b).service = s.service := rfl
@[simp] theorem State.setSignal_post (s : State) (c : Nat) (b : Bool) : (s.setSignal c b).post = s.post := rfl
@[simp] theorem State.setSignal_wdt (s : State) (c : Nat) (b : Bool) : (s.setSignal c b).wdt = s.wdt := rfl
@[simp] theorem State.setSignal_harts (s : State) (c : Nat) (b : Bool) : (s.setSignal c b).harts = s.harts := rfl
@[simp] theorem State.setSignal_mem (s : State) (c : Nat) (b : Bool) : (s.setSignal c b).mem = s.mem := rfl
@[simp] theorem State.setSignal_q (s : State) (c : Nat) (b : Bool) : (s.setSignal c b).q = s.q := rfl
@[simp] theorem State.setSignal_dbg (s : State) (c : Nat) (b : Bool) : (s.setSignal c b).dbg = s.dbg := rfl
@[simp] theorem State.setSignal_ser (s : State) (c : Nat) (b : Bool) : (s.setSignal c b).ser = s.ser := rfl
@[simp] theorem State.setSignal_ntu (s : State) (c : Nat) (b : Bool) : (s.setSignal c b).ntu = s.ntu := rfl
@[simp] theorem State.setSignal_can (s : State) (c : Nat) (b : Bool) : (s.setSignal c b).can = s.can := rfl
@[simp] theorem State.setSignal_trx (s : State) (c : Nat) (b : Bool) : (s.setSignal c b).trx = s.trx := rfl
@[simp] theorem State.setSignal_phy (s : State) (c : Nat) (b : Bool) : (s.setSignal c b).phy = s.phy := rfl
@[simp] theorem State.setSignal_link (s : State) (c : Nat) (b : Bool) : (s.setSignal c b).link = s.link := rfl
@[simp] theorem State.setSignal_ctl (s : State) (c : Nat) (b : Bool) : (s.setSignal c b).ctl = s.ctl := rfl
@[simp] theorem State.setSignal_tooth (s : State) (c : Nat) (b : Bool) : (s.setSignal c b).tooth = s.tooth := rfl
@[simp] theorem State.setSignal_toothTime (s : State) (c : Nat) (b : Bool) : (s.setSignal c b).toothTime = s.toothTime := rfl

/-! ### Values after an update -/

theorem State.get_put (s : State) (f g : Fld) (v : Nat) :
    (s.put f v).get g =
      if g.key = f.key then (if v % 2 ^ f.width = f.reset then g.reset % 2 ^ g.width else v % 2 ^ f.width % 2 ^ g.width) else s.get g := by
  simp only [State.get, State.put, Table.find_set]
  by_cases h : g.key = f.key
  · by_cases hv : v % 2 ^ f.width = f.reset <;> simp [h, hv]
  · simp [h]

@[simp] theorem State.get_put_same (s : State) (f : Fld) (v : Nat) : (s.put f v).get f = v % 2 ^ f.width := by
  rw [State.get_put, if_pos rfl]
  split
  · rename_i h
    rw [← h, Nat.mod_mod]
  · rw [Nat.mod_mod]

/-- A field holds no more than its width admits. -/
theorem State.get_lt (s : State) (f : Fld) : s.get f < 2 ^ f.width := Nat.mod_lt _ (Nat.two_pow_pos _)

theorem State.get_put_ne (s : State) (f g : Fld) (v : Nat) (h : g.key ≠ f.key) : (s.put f v).get g = s.get g := by
  rw [State.get_put, if_neg h]

@[simp] theorem State.reply_answer (s : State) (v : Nat) : (s.reply v).answer = BitVec.ofNat 32 v := rfl

theorem State.get_congr {s t : State} (h : s.fields = t.fields) (f : Fld) : s.get f = t.get f := by
  simp only [State.get, h]

theorem State.on_congr {s t : State} (h : s.fields = t.fields) (f : Fld) : s.on f = t.on f := by
  simp only [State.on, State.get_congr h]

@[simp] theorem State.when_true (s : State) (f : State → State) : s.when true f = f s := rfl
@[simp] theorem State.when_false (s : State) (f : State → State) : s.when false f = s := rfl

end Sys2Proof.Machine
end

