-- ==== Sys2Proof/Laws/Frame.lean ====
section
/-!
SUPPORT. Frames: which parts of State an operation may change, as a set of bits, with the invariant that it keeps; the rules by which the
frames of the operations are put together.
-/

namespace Sys2Proof.Machine

/-- The bit that stands for a part. -/
def Part.bit : Part → Nat
  | .pending => 0 | .fresh => 1 | .answer => 2 | .supply => 3 | .power => 4 | .rst => 5 | .owners => 6 | .waiting => 7
  | .service => 8 | .post => 9 | .wdt => 10 | .harts => 11 | .mem => 12 | .q => 13 | .dbg => 14 | .fab => 15 | .ser => 16
  | .ntu => 17 | .can => 18 | .trx => 19 | .phy => 20 | .link => 21 | .ctl => 22 | .tooth => 23 | .toothTime => 24
  | .page n => 32 + n

/-- From `s` to `t` only parts whose bits are in `m` change, and the invariant is kept. -/
def Frame (m : Nat) (s t : State) : Prop := (∀ p : Part, m.testBit p.bit = false → s.keeps t p) ∧ (s.Inv → t.Inv)

/-- Every bit of `a` is a bit of `b`. -/
abbrev Sub (a b : Nat) : Prop := a ||| b = b

/-- Field `f` may be written under `m`. -/
def Allows (m : Nat) (f : Fld) : Prop := m.testBit (32 + f.page % 64) = true

theorem Sub.trans {a b c : Nat} (h : Sub a b) (k : Sub b c) : Sub a c := by
  rw [Sub, ← k, ← Nat.or_assoc, h]

/-- The bits of `a` are in `c`, because they are in `b`. -/
theorem Sub.of {a b c : Nat} (k : Sub b c) (h : Sub a b) : Sub a c := h.trans k

theorem Sub.bit {k m : Nat} (h : Sub (2 ^ k) m) : m.testBit k = true := by
  have := congrArg (fun n => n.testBit k) h
  simpa [Nat.testBit_or, Nat.testBit_two_pow_self] using this

theorem Sub.bits {a m k : Nat} (h : Sub a m) (ha : a.testBit k = true) : m.testBit k = true := by
  have := congrArg (fun n => n.testBit k) h
  simpa [Nat.testBit_or, ha] using this

theorem State.keeps_rfl (s : State) (p : Part) : s.keeps s p := by
  cases p <;> simp [State.keeps]

theorem State.keeps_trans {s t u : State} {p : Part} (h : s.keeps t p) (k : t.keeps u p) : s.keeps u p := by
  cases p <;> simp only [State.keeps] at * <;> first | exact k.trans h | exact fun f hf => (k f hf).trans (h f hf)

theorem Frame.same {m : Nat} {s : State} : Frame m s s := ⟨fun p _ => s.keeps_rfl p, id⟩

theorem Frame.trans {m : Nat} {s t u : State} (h : Frame m s t) (k : Frame m t u) : Frame m s u :=
  ⟨fun p hp => State.keeps_trans (h.1 p hp) (k.1 p hp), fun i => k.2 (h.2 i)⟩

/-- A change of one component whose part may change. -/
theorem Frame.of {m k : Nat} {s0 s t : State} (hm : Sub (2 ^ k) m) (h : Frame m s0 s) (hp : ∀ p : Part, p.bit ≠ k → s.keeps t p)
    (hi : s.Inv → t.Inv) : Frame m s0 t :=
  h.trans ⟨fun p hf => hp p (fun e => by rw [e, hm.bit] at hf; cases hf), hi⟩

/-- A change of several components whose parts may change. -/
theorem Frame.parts {m k : Nat} {s0 s t : State} (hm : Sub k m) (h : Frame m s0 s) (hp : ∀ p : Part, k.testBit p.bit = false → s.keeps t p)
    (hi : s.Inv → t.Inv) : Frame m s0 t := by
  refine h.trans ⟨fun p hf => hp p ?_, hi⟩
  cases hk : k.testBit p.bit with
  | false => rfl
  | true => rw [hm.bits hk] at hf; cases hf

theorem Frame.ite {m : Nat} {s0 a b : State} {c : Prop} [Decidable c] (ha : c → Frame m s0 a) (hb : ¬c → Frame m s0 b) :
    Frame m s0 (if c then a else b) := by
  split <;> simp_all

theorem Frame.ite1 {β : Type} {m : Nat} {s0 : State} {a b : State × β} {c : Prop} [Decidable c] (ha : c → Frame m s0 a.1)
    (hb : ¬c → Frame m s0 b.1) : Frame m s0 (if c then a else b).1 := by
  split <;> simp_all

theorem Frame.ite2 {β : Type} {m : Nat} {s0 : State} {a b : β × State} {c : Prop} [Decidable c] (ha : c → Frame m s0 a.2)
    (hb : ¬c → Frame m s0 b.2) : Frame m s0 (if c then a else b).2 := by
  split <;> simp_all

theorem Frame.foldl {α : Type} {m : Nat} {s0 s : State} {f : State → α → State} {l : List α}
    (hf : ∀ s x, Frame m s0 s → Frame m s0 (f s x)) (h : Frame m s0 s) : Frame m s0 (l.foldl f s) := by
  induction l generalizing s with
  | nil => exact h
  | cons x l ih => exact ih (hf s x h)

theorem Frame.foldl1 {α β : Type} {m : Nat} {s0 : State} {r : State × β} {f : State × β → α → State × β} {l : List α}
    (hf : ∀ r x, Frame m s0 r.1 → Frame m s0 (f r x).1) (h : Frame m s0 r.1) : Frame m s0 (l.foldl f r).1 := by
  induction l generalizing r with
  | nil => exact h
  | cons x l ih => exact ih (hf r x h)

theorem Frame.fst {β : Type} {m : Nat} {s0 a : State} {b : β} (h : Frame m s0 a) : Frame m s0 (a, b).1 := h

theorem Frame.snd {β : Type} {m : Nat} {s0 a : State} {b : β} (h : Frame m s0 a) : Frame m s0 (b, a).2 := h

/-- A fact about a value is one about whatever it equals. -/
theorem of_eq_rev {α : Type} {p : α → Prop} {a b : α} (e : a = b) (h : p a) : p b := e ▸ h

/-! ### Results that may hold a state -/

/-- Such a frame of the state in an answer, where there is one. -/
def OptIn (m : Nat) (s0 : State) : Option State → Prop
  | some t => Frame m s0 t
  | none => True

/-- The same of a state with a value beside it. -/
def OptIn1 {β : Type} (m : Nat) (s0 : State) : Option (State × β) → Prop
  | some r => Frame m s0 r.1
  | none => True

/-- The same of a fetch. -/
def FetchedIn (m : Nat) (s0 : State) : Fetched → Prop
  | .waits => True
  | .barred _ => True
  | .failed t => Frame m s0 t
  | .got t _ => Frame m s0 t

/-- The same of an action of the debug module. -/
def DbgIn (m : Nat) (s0 : State) : DbgOut → Prop
  | .done t => Frame m s0 t
  | .raised t => Frame m s0 t
  | .waits => True

theorem ite_in {α : Type} {p : α → Prop} {c : Prop} [Decidable c] {a b : α} (ha : c → p a) (hb : ¬c → p b) : p (if c then a else b) := by
  split <;> simp_all

theorem OptIn.map {α : Type} {m : Nat} {s0 : State} {f : α → State} {o : Option α} (h : ∀ x, Frame m s0 (f x)) : OptIn m s0 (o.map f) := by
  cases o with
  | none => trivial
  | some x => exact h x

theorem OptIn1.map {α β : Type} {m : Nat} {s0 : State} {f : α → State × β} {o : Option α} (h : ∀ x, Frame m s0 (f x).1) :
    OptIn1 m s0 (o.map f) := by
  cases o with
  | none => trivial
  | some x => exact h x

theorem OptIn.map1 {α : Type} {m : Nat} {s0 : State} {f : State × α → State} {o : Option (State × α)}
    (h : ∀ x, Frame m s0 x.1 → Frame m s0 (f x)) (k : OptIn1 m s0 o) : OptIn m s0 (o.map f) := by
  cases o with
  | none => trivial
  | some x => exact h x k

theorem OptIn.getD {m : Nat} {s0 s : State} {o : Option State} (h : OptIn m s0 o) (k : Frame m s0 s) : Frame m s0 (o.getD s) := by
  cases o with
  | none => exact k
  | some x => exact h

/-! ### Fields -/

theorem Allows.page {m p : Nat} {f : Fld} (hp : f.page % 64 = p) (h : Sub (2 ^ (32 + p)) m) : Allows m f := by
  subst hp
  exact h.bit

theorem Allows.fault {m n : Nat} {f : Fld} (hp : f.page = 6 + n % 4) (h : Sub (2 ^ 38 + 2 ^ 39 + 2 ^ 40 + 2 ^ 41) m) : Allows m f := by
  have : n % 4 < 4 := Nat.mod_lt _ (by omega)
  refine h.bits (k := 32 + f.page % 64) ?_
  rw [hp]
  exact (by decide : ∀ k < 4, (2 ^ 38 + 2 ^ 39 + 2 ^ 40 + 2 ^ 41).testBit (32 + (6 + k) % 64) = true) _ this

theorem Allows.irq {m n : Nat} {f : Fld} (hp : f.page = 0xA + n % 4) (h : Sub (2 ^ 42 + 2 ^ 43 + 2 ^ 44 + 2 ^ 45) m) : Allows m f := by
  have : n % 4 < 4 := Nat.mod_lt _ (by omega)
  refine h.bits (k := 32 + f.page % 64) ?_
  rw [hp]
  exact (by decide : ∀ k < 4, (2 ^ 42 + 2 ^ 43 + 2 ^ 44 + 2 ^ 45).testBit (32 + (0xA + k) % 64) = true) _ this

theorem Allows.can {m n : Nat} {f : Fld} (hp : f.page = 0x12 + n % 2) (h : Sub (2 ^ 50 + 2 ^ 51) m) : Allows m f := by
  have : n % 2 < 2 := Nat.mod_lt _ (by omega)
  refine h.bits (k := 32 + f.page % 64) ?_
  rw [hp]
  exact (by decide : ∀ k < 2, (2 ^ 50 + 2 ^ 51).testBit (32 + (0x12 + k) % 64) = true) _ this

theorem Allows.all {m : Nat} (f : Fld) (h : Sub (2 ^ 96 - 2 ^ 32) m) : Allows m f := by
  have : f.page % 64 < 64 := Nat.mod_lt _ (by omega)
  refine h.bits (k := 32 + f.page % 64) ?_
  exact (by decide : ∀ k < 64, (2 ^ 96 - 2 ^ 32).testBit (32 + k) = true) _ this

theorem allows_srcField {m : Nat} {x : Source} (h : Sub (2 ^ 35) m) : Allows m (srcField x) := by
  cases x <;> exact Allows.page rfl h

theorem allows_railFlag {m : Nat} {x : Rail} (h : Sub (2 ^ 35) m) : Allows m (railFlag x) := by
  cases x <;> exact Allows.page rfl h

/-- The invariant depends on four parts only. -/
theorem State.inv_of {s t : State} (i : s.Inv) (hm : t.mem = s.mem) (hp : t.post = s.post) (hh : t.harts = s.harts) (hn : t.ntu = s.ntu) :
    t.Inv :=
  ⟨hm ▸ i.mem, fun n => by simpa [State.postOf, hp] using i.fifo n, fun n => by simpa [State.hart, hh] using i.posts n, hn ▸ i.ns⟩

theorem State.Inv.of_same {s : State} (i : s.Inv) {x : Table Nat} : ({ s with fields := x } : State).Inv :=
  ⟨i.mem, i.fifo, i.posts, i.ns⟩

theorem State.put_frame {m : Nat} {s0 s : State} {f : Fld} {v : Nat} (_ : Sub 0 m) (hf : Allows m f) (h : Frame m s0 s) : Frame m s0 (s.put f v) := by
  refine h.trans ⟨fun p hp => ?_, fun i => s.inv_of i rfl rfl rfl rfl⟩
  cases p <;> try rfl
  intro g hg
  refine State.get_put_ne _ _ _ _ ?_
  intro e
  simp only [Fld.key] at e
  have e' : g.page % 64 = f.page % 64 := by omega
  rw [Part.bit, ← hg, e', hf] at hp
  cases hp

/-! ### Components -/

theorem Frame.pending {m : Nat} {s0 s : State} {v : List Instr} (hm : Sub (2 ^ 0) m) (h : Frame m s0 s) : Frame m s0 { s with pending := v } :=
  h.of hm (fun p hp => by cases p <;> first | rfl | exact fun _ _ => rfl | exact absurd rfl hp) (fun i => s.inv_of i rfl rfl rfl rfl)

theorem Frame.fresh {m : Nat} {s0 s : State} {v : Nat} (hm : Sub (2 ^ 1) m) (h : Frame m s0 s) : Frame m s0 { s with fresh := v } :=
  h.of hm (fun p hp => by cases p <;> first | rfl | exact fun _ _ => rfl | exact absurd rfl hp) (fun i => s.inv_of i rfl rfl rfl rfl)

theorem Frame.answer {m : Nat} {s0 s : State} {v : Word} (hm : Sub (2 ^ 2) m) (h : Frame m s0 s) : Frame m s0 { s with answer := v } :=
  h.of hm (fun p hp => by cases p <;> first | rfl | exact fun _ _ => rfl | exact absurd rfl hp) (fun i => s.inv_of i rfl rfl rfl rfl)

theorem Frame.supply {m : Nat} {s0 s : State} {v : Supply} (hm : Sub (2 ^ 3) m) (h : Frame m s0 s) : Frame m s0 { s with supply := v } :=
  h.of hm (fun p hp => by cases p <;> first | rfl | exact fun _ _ => rfl | exact absurd rfl hp) (fun i => s.inv_of i rfl rfl rfl rfl)

theorem Frame.power {m : Nat} {s0 s : State} {v : Power} (hm : Sub (2 ^ 4) m) (h : Frame m s0 s) : Frame m s0 { s with power := v } :=
  h.of hm (fun p hp => by cases p <;> first | rfl | exact fun _ _ => rfl | exact absurd rfl hp) (fun i => s.inv_of i rfl rfl rfl rfl)

theorem Frame.rst {m : Nat} {s0 s : State} {v : Reset} (hm : Sub (2 ^ 5) m) (h : Frame m s0 s) : Frame m s0 { s with rst := v } :=
  h.of hm (fun p hp => by cases p <;> first | rfl | exact fun _ _ => rfl | exact absurd rfl hp) (fun i => s.inv_of i rfl rfl rfl rfl)

theorem Frame.owners {m : Nat} {s0 s : State} {v : Table Nat} (hm : Sub (2 ^ 6) m) (h : Frame m s0 s) : Frame m s0 { s with owners := v } :=
  h.of hm (fun p hp => by cases p <;> first | rfl | exact fun _ _ => rfl | exact absurd rfl hp) (fun i => s.inv_of i rfl rfl rfl rfl)

theorem Frame.waiting {m : Nat} {s0 s : State} {v : Table Nat} (hm : Sub (2 ^ 7) m) (h : Frame m s0 s) : Frame m s0 { s with waiting := v } :=
  h.of hm (fun p hp => by cases p <;> first | rfl | exact fun _ _ => rfl | exact absurd rfl hp) (fun i => s.inv_of i rfl rfl rfl rfl)

theorem Frame.service {m : Nat} {s0 s : State} {v : Table Unit} (hm : Sub (2 ^ 8) m) (h : Frame m s0 s) : Frame m s0 { s with service := v } :=
  h.of hm (fun p hp => by cases p <;> first | rfl | exact fun _ _ => rfl | exact absurd rfl hp) (fun i => s.inv_of i rfl rfl rfl rfl)

theorem Frame.post {m : Nat} {s0 s : State} {v : Vector Post 4} (hm : Sub (2 ^ 9) m) (hi : s.Inv → ∀ n, (vget v n noPost).fifo.length ≤ 16) (h : Frame m s0 s) : Frame m s0 { s with post := v } :=
  h.of hm (fun p hp => by cases p <;> first | rfl | exact fun _ _ => rfl | exact absurd rfl hp) (fun i => ⟨i.mem, hi i, i.posts, i.ns⟩)

theorem Frame.wdt {m : Nat} {s0 s : State} {v : Vector Wdt 4} (hm : Sub (2 ^ 10) m) (h : Frame m s0 s) : Frame m s0 { s with wdt := v } :=
  h.of hm (fun p hp => by cases p <;> first | rfl | exact fun _ _ => rfl | exact absurd rfl hp) (fun i => s.inv_of i rfl rfl rfl rfl)

theorem Frame.harts {m : Nat} {s0 s : State} {v : Vector Hart 4} (hm : Sub (2 ^ 11) m) (hi : s.Inv → ∀ n, (vget v n noHart).posts.length ≤ 64) (h : Frame m s0 s) : Frame m s0 { s with harts := v } :=
  h.of hm (fun p hp => by cases p <;> first | rfl | exact fun _ _ => rfl | exact absurd rfl hp) (fun i => ⟨i.mem, i.fifo, hi i, i.ns⟩)

theorem Frame.mem {m : Nat} {s0 s : State} {v : Mem} (hm : Sub (2 ^ 12) m) (hi : Memory.wf s.mem = true → Memory.wf v = true) (h : Frame m s0 s) : Frame m s0 { s with mem := v } :=
  h.of hm (fun p hp => by cases p <;> first | rfl | exact fun _ _ => rfl | exact absurd rfl hp) (fun i => ⟨hi i.mem, i.fifo, i.posts, i.ns⟩)

theorem Frame.q {m : Nat} {s0 s : State} {v : Queues} (hm : Sub (2 ^ 13) m) (h : Frame m s0 s) : Frame m s0 { s with q := v } :=
  h.of hm (fun p hp => by cases p <;> first | rfl | exact fun _ _ => rfl | exact absurd rfl hp) (fun i => s.inv_of i rfl rfl rfl rfl)

theorem Frame.dbg {m : Nat} {s0 s : State} {v : Debug} (hm : Sub (2 ^ 14) m) (h : Frame m s0 s) : Frame m s0 { s with dbg := v } :=
  h.of hm (fun p hp => by cases p <;> first | rfl | exact fun _ _ => rfl | exact absurd rfl hp) (fun i => s.inv_of i rfl rfl rfl rfl)

theorem Frame.fab {m : Nat} {s0 s : State} {v : Fabric} (hm : Sub (2 ^ 15) m) (h : Frame m s0 s) : Frame m s0 { s with fab := v } :=
  h.of hm (fun p hp => by cases p <;> first | rfl | exact fun _ _ => rfl | exact absurd rfl hp) (fun i => s.inv_of i rfl rfl rfl rfl)

theorem Frame.ser {m : Nat} {s0 s : State} {v : Serial} (hm : Sub (2 ^ 16) m) (h : Frame m s0 s) : Frame m s0 { s with ser := v } :=
  h.of hm (fun p hp => by cases p <;> first | rfl | exact fun _ _ => rfl | exact absurd rfl hp) (fun i => s.inv_of i rfl rfl rfl rfl)

theorem Frame.ntu {m : Nat} {s0 s : State} {v : Ntu} (hm : Sub (2 ^ 17) m) (hi : s.Inv → v.ns < nsPerSec) (h : Frame m s0 s) : Frame m s0 { s with ntu := v } :=
  h.of hm (fun p hp => by cases p <;> first | rfl | exact fun _ _ => rfl | exact absurd rfl hp) (fun i => ⟨i.mem, i.fifo, i.posts, hi i⟩)

theorem Frame.can {m : Nat} {s0 s : State} {v : Vector CanCtl 2} (hm : Sub (2 ^ 18) m) (h : Frame m s0 s) : Frame m s0 { s with can := v } :=
  h.of hm (fun p hp => by cases p <;> first | rfl | exact fun _ _ => rfl | exact absurd rfl hp) (fun i => s.inv_of i rfl rfl rfl rfl)

theorem Frame.trx {m : Nat} {s0 s : State} {v : Trx} (hm : Sub (2 ^ 19) m) (h : Frame m s0 s) : Frame m s0 { s with trx := v } :=
  h.of hm (fun p hp => by cases p <;> first | rfl | exact fun _ _ => rfl | exact absurd rfl hp) (fun i => s.inv_of i rfl rfl rfl rfl)

theorem Frame.phy {m : Nat} {s0 s : State} {v : Phy} (hm : Sub (2 ^ 20) m) (h : Frame m s0 s) : Frame m s0 { s with phy := v } :=
  h.of hm (fun p hp => by cases p <;> first | rfl | exact fun _ _ => rfl | exact absurd rfl hp) (fun i => s.inv_of i rfl rfl rfl rfl)

theorem Frame.link {m : Nat} {s0 s : State} {v : Link} (hm : Sub (2 ^ 21) m) (h : Frame m s0 s) : Frame m s0 { s with link := v } :=
  h.of hm (fun p hp => by cases p <;> first | rfl | exact fun _ _ => rfl | exact absurd rfl hp) (fun i => s.inv_of i rfl rfl rfl rfl)

theorem Frame.ctl {m : Nat} {s0 s : State} {v : Control} (hm : Sub (2 ^ 22) m) (h : Frame m s0 s) : Frame m s0 { s with ctl := v } :=
  h.of hm (fun p hp => by cases p <;> first | rfl | exact fun _ _ => rfl | exact absurd rfl hp) (fun i => s.inv_of i rfl rfl rfl rfl)

theorem Frame.tooth {m : Nat} {s0 s : State} {v : Vector Tooth 4} (hm : Sub (2 ^ 23) m) (h : Frame m s0 s) : Frame m s0 { s with tooth := v } :=
  h.of hm (fun p hp => by cases p <;> first | rfl | exact fun _ _ => rfl | exact absurd rfl hp) (fun i => s.inv_of i rfl rfl rfl rfl)

theorem Frame.toothTime {m : Nat} {s0 s : State} {v : Nat} (hm : Sub (2 ^ 24) m) (h : Frame m s0 s) : Frame m s0 { s with toothTime := v } :=
  h.of hm (fun p hp => by cases p <;> first | rfl | exact fun _ _ => rfl | exact absurd rfl hp) (fun i => s.inv_of i rfl rfl rfl rfl)

/-- The register fields go back to those of another state in the frame. -/
theorem Frame.fields {m : Nat} {s0 s old : State} (h : Frame m s0 s) (k : Frame m s0 old) : Frame m s0 { s with fields := old.fields } := by
  refine ⟨fun p hp => ?_, fun i => (h.2 i).of_same⟩
  cases p with
  | page n => exact fun f hf => k.1 (.page n) hp f hf
  | _ => exact h.1 _ hp

/-- Register fields of any page may change. -/
theorem Frame.fieldsAll {m : Nat} {s0 s : State} {v : Table Nat} (hm : Sub (2 ^ 96 - 2 ^ 32) m) (h : Frame m s0 s) :
    Frame m s0 { s with fields := v } := by
  refine h.trans ⟨fun p hp => ?_, fun i => i.of_same⟩
  cases p with
  | page n =>
    intro f hf
    have := Allows.all f hm
    rw [Allows, hf] at this
    rw [Part.bit, this] at hp
    cases hp
  | _ => rfl

theorem State.dropFields_frame {m : Nat} {s0 s : State} {ks : List Keep} (hm : Sub 0xffffffffffffffff00000000 m) (h : Frame m s0 s) :
    Frame m s0 (s.dropFields ks) := Frame.fieldsAll (hm.of rfl) h

theorem State.resetPage_frame {m : Nat} {s0 s : State} {p : Nat} (hm : Sub 0xffffffffffffffff00000000 m) (h : Frame m s0 s) :
    Frame m s0 (s.resetPage p) := Frame.fieldsAll (hm.of rfl) h

/-- The NTU changes; nothing is said of the invariant. -/
theorem Frame.ntu0 {m : Nat} {s0 s : State} {v : Ntu} (hm : Sub (2 ^ 17) m) (h : Frame m s0 s) :
    (∀ p : Part, m.testBit p.bit = false → s0.keeps { s with ntu := v } p) ∧ True := by
  refine ⟨fun p hp => ?_, trivial⟩
  cases p with
  | ntu =>
    have : m.testBit 17 = true := hm.bit
    rw [Part.bit, this] at hp
    cases hp
  | _ => exact h.1 _ hp

/-! ### The parts that the invariant speaks of -/

theorem vget_vput {α : Type} {n : Nat} (v : Vector α n) (i j : Nat) (x d : α) :
    vget (vput v i x) j d = if j = i ∧ i < n then x else vget v j d := by
  simp only [vget, vput, vmod]
  split
  · rename_i h
    by_cases hj : j = i
    · subst hj
      simp [h]
    · simp only [hj, false_and, if_false]
      by_cases hn : j < n
      · simp [hn, Ne.symm hj]
      · simp [hn]
  · rename_i h
    simp [h]

theorem vmod_eq_vput {α : Type} {n : Nat} (v : Vector α n) (i : Nat) (f : α → α) (d : α) : vmod v i f = vput v i (f (vget v i d)) := by
  simp only [vmod, vput, vget]
  split
  · rename_i h
    simp [h]
  · rfl

theorem Memory.wf_ram {m : Mem} (h : Memory.wf m = true) (p : Nat) (v : BitVec 8) :
    Memory.wf { m with ram := Table.set (0 : BitVec 8) m.ram p v } = true := by
  simp only [Memory.wf, Bool.and_eq_true] at *
  exact ⟨Table.wf_set h.1 p v, h.2⟩

theorem Memory.wf_flash {m : Mem} (h : Memory.wf m = true) (p : Nat) (v : BitVec 8) :
    Memory.wf { m with flash := Table.set (0xFF : BitVec 8) m.flash p v } = true := by
  simp only [Memory.wf, Bool.and_eq_true] at *
  exact ⟨h.1, Table.wf_set h.2 p v⟩

theorem Memory.wf_filter {m : Mem} (h : Memory.wf m = true) (k : Nat × BitVec 8 → Bool) {x y z w : Table Unit} :
    Memory.wf { m with flash := m.flash.filter k, programmed := x, broken := y, ecc := z, single := w } = true := by
  simp only [Memory.wf, Bool.and_eq_true] at *
  exact ⟨h.1, Table.wf_filter h.2 k⟩

theorem Memory.wf_ramFilter {m : Mem} (h : Memory.wf m = true) (k : Nat × BitVec 8 → Bool) {x y : Table Unit} :
    Memory.wf { m with ram := m.ram.filter k, ecc := x, single := y } = true := by
  simp only [Memory.wf, Bool.and_eq_true] at *
  exact ⟨Table.wf_filter h.1 k, h.2⟩

theorem Memory.wf_blank {m : Mem} (h : Memory.wf m = true) {p b e g : Table Unit} {k : Vector (BitVec 128) 5} {d : Nat} :
    Memory.wf (blankMem m.flash p b e g k d) = true := by
  simp only [Memory.wf, blankMem, Bool.and_eq_true] at *
  exact ⟨rfl, h.2⟩

theorem State.modMem_frame {m : Nat} {s0 s : State} {f : Mem → Mem} (hm : Sub 0x1000 m)
    (hf : ∀ x, Memory.wf x = true → Memory.wf (f x) = true) (h : Frame m s0 s) : Frame m s0 (s.modMem f) :=
  Frame.mem (hm.of rfl) (hf _) h

theorem vget_map {α : Type} {n : Nat} (v : Vector α n) (f : α → α) (d : α) (j : Nat) :
    vget (v.map f) j d = if j < n then f (vget v j d) else d := by
  by_cases h : j < n <;> simp [vget, h]

theorem vget_replicate {α : Type} {n : Nat} (a d : α) (j : Nat) : vget (Vector.replicate n a) j d = if j < n then a else d := by
  by_cases h : j < n <;> simp [vget, h]

/-- A lost hart has nothing in its posting buffer. -/
theorem posts_lost (v : Vector Hart 4) (n : Nat) : (vget (v.map Hart.lost) n noHart).posts.length ≤ 64 := by
  rw [vget_map]
  split
  · exact Nat.zero_le _
  · exact Nat.zero_le _

theorem posts_none (n : Nat) : (vget (Vector.replicate 4 noHart) n noHart).posts.length ≤ 64 := by
  rw [vget_replicate]
  split <;> exact Nat.zero_le _

theorem fifo_none (n : Nat) : (vget (Vector.replicate 4 noPost) n noPost).fifo.length ≤ 16 := by
  rw [vget_replicate]
  split <;> exact Nat.zero_le _

@[simp] theorem Hart.setReg_posts (h : Hart) (r : Nat) (v : Word) : (h.setReg r v).posts = h.posts := by
  unfold Hart.setReg
  split <;> rfl

@[simp] theorem Hart.csrWrite_posts (h : Hart) (n r v : Nat) (b : Bool) : (h.csrWrite n r v b).posts = h.posts := by
  have e : ∀ r v, (h.setCsr r v).posts = h.posts := fun _ _ => rfl
  unfold Hart.csrWrite
  simp [apply_ite Hart.posts, e]

@[simp] theorem Hart.setCsr_posts (h : Hart) (r v : Nat) : (h.setCsr r v).posts = h.posts := rfl

@[simp] theorem Hart.fsDirty_posts (h : Hart) : h.fsDirty.posts = h.posts := by
  simp [Hart.fsDirty]

@[simp] theorem Hart.halt_posts (h : Hart) (c : Nat) : (h.halt c).posts = h.posts := by
  simp [Hart.halt]

@[simp] theorem Hart.resume_posts (h : Hart) (n : Nat) : (h.resume n).posts = h.posts := by
  simp [Hart.resume]

@[simp] theorem Hart.metHalt_posts (h : Hart) : h.metHalt.posts = h.posts := by
  unfold Hart.metHalt
  split <;> simp

@[simp] theorem Hart.trapped_posts (h : Hart) (n c v : Nat) : (h.trapped n c v).posts = h.posts := by
  simp [Hart.trapped]

@[simp] theorem Hart.stepped_posts (h : Hart) : h.stepped.posts = h.posts := by
  unfold Hart.stepped
  split <;> simp

@[simp] theorem Hart.retired_posts (h : Hart) : h.retired.posts = h.posts := by
  unfold Hart.retired
  rw [Hart.stepped_posts]
  split <;> rfl

@[simp] theorem Hart.interrupted_posts (h : Hart) (n i : Nat) : (h.interrupted n i).posts = h.posts := by
  unfold Hart.interrupted
  dsimp only
  split <;> simp

@[simp] theorem Hart.goesTo_posts (h : Hart) (a : Word) : (h.goesTo a).posts = h.posts := Hart.stepped_posts _

@[simp] theorem Hart.returned_posts (h : Hart) (n : Nat) : (h.returned n).posts = h.posts := by
  unfold Hart.returned
  simp

theorem posts_ofFn {v : Vector Hart 4} {f : Fin 4 → Hart} (i : ∀ n, (vget v n noHart).posts.length ≤ 64)
    (h : ∀ k : Fin 4, (f k).posts = v[k].posts) (n : Nat) : (vget (Vector.ofFn f) n noHart).posts.length ≤ 64 := by
  by_cases hn : n < 4
  · have j := i n
    have k := h ⟨n, hn⟩
    simp only [vget, getElem?_pos, Option.getD_some, Vector.getElem_ofFn, hn] at j ⊢
    rw [k]
    exact j
  · simp [vget, hn, noHart]

theorem dropPost_length (i : Island) (l : List Posted) : (dropPost i l).length ≤ l.length := by
  induction l with
  | nil => exact Nat.le_refl _
  | cons p l ih =>
    unfold dropPost
    split
    · exact Nat.le_succ _
    · exact Nat.succ_le_succ ih

theorem holdPosts_length (k : Nat) (l : List Posted) : (holdPosts k l).length = l.length := by
  induction l generalizing k with
  | nil => cases k <;> rfl
  | cons p l ih => cases k <;> unfold holdPosts <;> split <;> simp [ih]

/-- A hart may change so that its posting buffer does not grow. -/
theorem State.modHart_frame {m : Nat} {s0 s : State} {n : Nat} {f : Hart → Hart} (hm : Sub 0x800 m)
    (hf : ∀ h, (f h).posts.length ≤ h.posts.length) (h : Frame m s0 s) : Frame m s0 (s.modHart n f) := by
  unfold State.modHart
  refine Frame.harts (hm.of rfl) (fun i k => ?_) h
  rw [vmod_eq_vput _ _ _ noHart, vget_vput]
  split
  · exact Nat.le_trans (hf _) (i.posts n)
  · exact i.posts k

/-- What is kept for posted stores may change so that the fault FIFO does not grow. -/
theorem State.modPost_frame {m : Nat} {s0 s : State} {n : Nat} {f : Post → Post} (hm : Sub 0x200 m)
    (hf : ∀ p, (f p).fifo.length ≤ p.fifo.length) (h : Frame m s0 s) : Frame m s0 (s.modPost n f) := by
  unfold State.modPost
  refine Frame.post (hm.of rfl) (fun i k => ?_) h
  rw [vmod_eq_vput _ _ _ noPost, vget_vput]
  split
  · exact Nat.le_trans (hf _) (i.fifo n)
  · exact i.fifo k

/-! ### Several components at once -/

theorem Frame.fresh_ctl {m : Nat} {s0 s : State} {v0 : Nat} {v1 : Control} (hm : Sub 0x400002 m) (h : Frame m s0 s) :
    Frame m s0 { s with fresh := v0, ctl := v1 } :=
  h.parts hm (fun p hp => by cases p <;> first | rfl | exact fun _ _ => rfl | exact absurd hp (by decide)) (fun i => ⟨i.mem, i.fifo, i.posts, i.ns⟩)

theorem Frame.harts_dbg_fab_ntu {m : Nat} {s0 s : State} {v0 : Vector Hart 4} {v1 : Debug} {v2 : Fabric} {v3 : Ntu} (hm : Sub 0x2c800 m) (ih : s.Inv → ∀ n, (vget v0 n noHart).posts.length ≤ 64) (it : s.Inv → v3.ns < nsPerSec) (h : Frame m s0 s) :
    Frame m s0 { s with harts := v0, dbg := v1, fab := v2, ntu := v3 } :=
  h.parts hm (fun p hp => by cases p <;> first | rfl | exact fun _ _ => rfl | exact absurd hp (by decide)) (fun i => ⟨i.mem, i.fifo, ih i, it i⟩)

theorem Frame.harts_mem {m : Nat} {s0 s : State} {v0 : Vector Hart 4} {v1 : Mem} (hm : Sub 0x1800 m) (ih : s.Inv → ∀ n, (vget v0 n noHart).posts.length ≤ 64) (im : Memory.wf s.mem = true → Memory.wf v1 = true) (h : Frame m s0 s) :
    Frame m s0 { s with harts := v0, mem := v1 } :=
  h.parts hm (fun p hp => by cases p <;> first | rfl | exact fun _ _ => rfl | exact absurd hp (by decide)) (fun i => ⟨im i.mem, i.fifo, ih i, i.ns⟩)

theorem Frame.harts_cache {m : Nat} {s0 s : State} {v : Vector Hart 4} {k : Mem} {x : Vector (Table (List Word)) 4} (hm : Sub 0x1800 m)
    (hk : k = s.mem) (ih : ∀ n, (vget v n noHart).posts.length ≤ 64) (h : Frame m s0 s) :
    Frame m s0 { s with harts := v, mem := { k with cache := x } } :=
  Frame.harts_mem (hm.of rfl) (fun _ => ih) (fun w => by subst hk; exact w) h

theorem Frame.owners_waiting_service_post_wdt_harts_mem_q_fab_ser_ntu_can_phy_link_ctl_tooth_toothTime {m : Nat} {s0 s : State} {v0 : Table Nat} {v1 : Table Nat} {v2 : Table Unit} {v3 : Vector Post 4} {v4 : Vector Wdt 4} {v5 : Vector Hart 4} {v6 : Mem} {v7 : Queues} {v8 : Fabric} {v9 : Serial} {v10 : Ntu} {v11 : Vector CanCtl 2} {v12 : Phy} {v13 : Link} {v14 : Control} {v15 : Vector Tooth 4} {v16 : Nat} (hm : Sub 0x1f7bfc0 m) (ip : s.Inv → ∀ n, (vget v3 n noPost).fifo.length ≤ 16) (ih : s.Inv → ∀ n, (vget v5 n noHart).posts.length ≤ 64) (im : Memory.wf s.mem = true → Memory.wf v6 = true) (it : s.Inv → v10.ns < nsPerSec) (h : Frame m s0 s) :
    Frame m s0 { s with owners := v0, waiting := v1, service := v2, post := v3, wdt := v4, harts := v5, mem := v6, q := v7, fab := v8, ser := v9, ntu := v10, can := v11, phy := v12, link := v13, ctl := v14, tooth := v15, toothTime := v16 } :=
  h.parts hm (fun p hp => by cases p <;> first | rfl | exact fun _ _ => rfl | exact absurd hp (by decide)) (fun i => ⟨im i.mem, ip i, ih i, it i⟩)

theorem Frame.power_fab {m : Nat} {s0 s : State} {v0 : Power} {v1 : Fabric} (hm : Sub 0x8010 m) (h : Frame m s0 s) :
    Frame m s0 { s with power := v0, fab := v1 } :=
  h.parts hm (fun p hp => by cases p <;> first | rfl | exact fun _ _ => rfl | exact absurd hp (by decide)) (fun i => ⟨i.mem, i.fifo, i.posts, i.ns⟩)

theorem Frame.power_harts_dbg_trx {m : Nat} {s0 s : State} {v0 : Power} {v1 : Vector Hart 4} {v2 : Debug} {v3 : Trx} (hm : Sub 0x84810 m) (ih : s.Inv → ∀ n, (vget v1 n noHart).posts.length ≤ 64) (h : Frame m s0 s) :
    Frame m s0 { s with power := v0, harts := v1, dbg := v2, trx := v3 } :=
  h.parts hm (fun p hp => by cases p <;> first | rfl | exact fun _ _ => rfl | exact absurd hp (by decide)) (fun i => ⟨i.mem, i.fifo, ih i, i.ns⟩)

theorem Frame.power_link {m : Nat} {s0 s : State} {v0 : Power} {v1 : Link} (hm : Sub 0x200010 m) (h : Frame m s0 s) :
    Frame m s0 { s with power := v0, link := v1 } :=
  h.parts hm (fun p hp => by cases p <;> first | rfl | exact fun _ _ => rfl | exact absurd hp (by decide)) (fun i => ⟨i.mem, i.fifo, i.posts, i.ns⟩)

theorem Frame.power_mem {m : Nat} {s0 s : State} {v0 : Power} {v1 : Mem} (hm : Sub 0x1010 m) (im : Memory.wf s.mem = true → Memory.wf v1 = true) (h : Frame m s0 s) :
    Frame m s0 { s with power := v0, mem := v1 } :=
  h.parts hm (fun p hp => by cases p <;> first | rfl | exact fun _ _ => rfl | exact absurd hp (by decide)) (fun i => ⟨im i.mem, i.fifo, i.posts, i.ns⟩)

theorem Frame.power_ntu {m : Nat} {s0 s : State} {v0 : Power} {v1 : Ntu} (hm : Sub 0x20010 m) (it : s.Inv → v1.ns < nsPerSec) (h : Frame m s0 s) :
    Frame m s0 { s with power := v0, ntu := v1 } :=
  h.parts hm (fun p hp => by cases p <;> first | rfl | exact fun _ _ => rfl | exact absurd hp (by decide)) (fun i => ⟨i.mem, i.fifo, i.posts, it i⟩)

theorem Frame.power_ntu_link {m : Nat} {s0 s : State} {v0 : Power} {v1 : Ntu} {v2 : Link} (hm : Sub 0x220010 m) (it : s.Inv → v1.ns < nsPerSec)
    (h : Frame m s0 s) : Frame m s0 { s with power := v0, ntu := v1, link := v2 } :=
  h.parts hm (fun p hp => by cases p <;> first | rfl | exact fun _ _ => rfl | exact absurd hp (by decide)) (fun i => ⟨i.mem, i.fifo, i.posts, it i⟩)

theorem Frame.fab_ser {m : Nat} {s0 s : State} {v0 : Fabric} {v1 : Serial} (hm : Sub 0x18000 m) (h : Frame m s0 s) :
    Frame m s0 { s with fab := v0, ser := v1 } :=
  h.parts hm (fun p hp => by cases p <;> first | rfl | exact fun _ _ => rfl | exact absurd hp (by decide)) (fun i => ⟨i.mem, i.fifo, i.posts, i.ns⟩)

theorem Frame.power_trx {m : Nat} {s0 s : State} {v0 : Power} {v1 : Trx} (hm : Sub 0x80010 m) (h : Frame m s0 s) :
    Frame m s0 { s with power := v0, trx := v1 } :=
  h.parts hm (fun p hp => by cases p <;> first | rfl | exact fun _ _ => rfl | exact absurd hp (by decide)) (fun i => ⟨i.mem, i.fifo, i.posts, i.ns⟩)

theorem Frame.supply_ctl {m : Nat} {s0 s : State} {v0 : Supply} {v1 : Control} (hm : Sub 0x400008 m) (h : Frame m s0 s) :
    Frame m s0 { s with supply := v0, ctl := v1 } :=
  h.parts hm (fun p hp => by cases p <;> first | rfl | exact fun _ _ => rfl | exact absurd hp (by decide)) (fun i => ⟨i.mem, i.fifo, i.posts, i.ns⟩)

theorem Frame.supply_power_rst_mem_fab_ntu {m : Nat} {s0 s : State} {v0 : Supply} {v1 : Power} {v2 : Reset} {v3 : Mem} {v4 : Fabric} {v5 : Ntu} (hm : Sub 0x29038 m) (im : Memory.wf s.mem = true → Memory.wf v3 = true) (it : s.Inv → v5.ns < nsPerSec) (h : Frame m s0 s) :
    Frame m s0 { s with supply := v0, power := v1, rst := v2, mem := v3, fab := v4, ntu := v5 } :=
  h.parts hm (fun p hp => by cases p <;> first | rfl | exact fun _ _ => rfl | exact absurd hp (by decide)) (fun i => ⟨im i.mem, i.fifo, i.posts, it i⟩)

theorem Frame.wdt_mem {m : Nat} {s0 s : State} {v0 : Vector Wdt 4} {v1 : Mem} (hm : Sub 0x1400 m) (im : Memory.wf s.mem = true → Memory.wf v1 = true) (h : Frame m s0 s) :
    Frame m s0 { s with wdt := v0, mem := v1 } :=
  h.parts hm (fun p hp => by cases p <;> first | rfl | exact fun _ _ => rfl | exact absurd hp (by decide)) (fun i => ⟨im i.mem, i.fifo, i.posts, i.ns⟩)

end Sys2Proof.Machine
end

