-- ==== Sys2Proof/Laws/FrameOps.lean ====
section
/-!
SUPPORT. The frames of the operations of Machine/Ops to Machine/Fabric. `Sub k m` says that the parts in `k` may change; `Allows` says it of a field given by the caller.
-/

namespace Sys2Proof.Machine

/-! ### Machine/Ops -/

theorem State.clear_frame {m : Nat} {s0 : State} {x0 : State} {x1 : Fld} {x2 : Nat} (hm : Sub 0x0 m) (a1 : Allows m x1) (h0 : Frame m s0 x0) :
    Frame m s0 (State.clear x0 x1 x2) := by
  unfold State.clear
  refine Frame.ite (fun _ => ?_) (fun _ => ?_)
  · exact State.put_frame (hm.of rfl) a1 h0
  · exact h0

theorem State.drawKey_frame {m : Nat} {s0 : State} {x0 : State} {x1 : Nat} (hm : Sub 0x1000 m) (h0 : Frame m s0 x0) :
    Frame m s0 (State.drawKey x0 x1) := by
  unfold State.drawKey
  exact Frame.mem (hm.of rfl) (fun w => by first | exact w | exact Memory.wf_blank w | exact Memory.wf_ramFilter w _) h0

theorem State.raise_frame {m : Nat} {s0 : State} {x0 : State} {x1 : Fld} {x2 : Nat} (hm : Sub 0x0 m) (a1 : Allows m x1) (h0 : Frame m s0 x0) :
    Frame m s0 (State.raise x0 x1 x2) := by
  unfold State.raise
  exact State.put_frame (hm.of rfl) a1 h0

theorem State.record_frame {m : Nat} {s0 : State} {x0 : State} {x1 : Nat} {x2 : Rec} (hm : Sub 0x3c000000200 m) (h0 : Frame m s0 x0) :
    Frame m s0 (State.record x0 x1 x2) := by
  unfold State.record
  extract_lets y0
  have g : ∀ q : Post, q.fifo.length ≤ 16 → x0.Inv → ∀ n, (vget (vput x0.post x1 q) n noPost).fifo.length ≤ 16 := fun q hq i n => by
    rw [vget_vput]
    split
    · exact hq
    · exact i.fifo n
  have e : ∀ f : Post → Post, vmod x0.post x1 f = vput x0.post x1 (f (vget x0.post x1 noPost)) := fun f => vmod_eq_vput _ _ _ _
  simp only [e]
  refine Frame.ite (fun c => ?_) (fun _ => ?_)
  · refine Frame.post (hm.of rfl) (fun i => g _ ?_ i) h0
    have : (vget x0.post x1 noPost).fifo.length < 16 := c
    simp only [List.length_append, List.length_singleton]
    omega
  · exact State.raise_frame (hm.of rfl) (Allows.fault rfl (hm.of rfl)) (Frame.post (hm.of rfl) (fun i => g _ (i.fifo x1) i) h0)

theorem State.fault_frame {m : Nat} {s0 : State} {x0 : State} {x1 x2 x3 x4 x5 x6 : Nat} (hm : Sub 0x3c000000200 m) (h0 : Frame m s0 x0) :
    Frame m s0 (State.fault x0 x1 x2 x3 x4 x5 x6) := by
  unfold State.fault
  exact State.record_frame (hm.of rfl) h0

theorem State.eccRecord_frame {m : Nat} {s0 : State} {x0 : State} {x1 x2 x3 : Nat} (hm : Sub 0x3c000000200 m) (h0 : Frame m s0 x0) :
    Frame m s0 (State.eccRecord x0 x1 x2 x3) := by
  unfold State.eccRecord
  exact State.fault_frame (hm.of rfl) h0

theorem State.eraseFlash_frame {m : Nat} {s0 : State} {x0 : State} {x1 x2 : Nat} (hm : Sub 0x1000 m) (h0 : Frame m s0 x0) :
    Frame m s0 (State.eraseFlash x0 x1 x2) := by
  unfold State.eraseFlash
  exact Frame.mem (hm.of rfl) (fun w => Memory.wf_filter w _) h0

theorem State.free_frame {m : Nat} {s0 : State} {x0 : State} {x1 : Nat} (hm : Sub 0x2 m) (h0 : Frame m s0 x0) : Frame m s0 (State.free x0 x1).2 := by
  unfold State.free
  exact Frame.snd (Frame.fresh (hm.of rfl) h0)

theorem State.freeBool_frame {m : Nat} {s0 : State} {x0 : State} (hm : Sub 0x2 m) (h0 : Frame m s0 x0) : Frame m s0 (State.freeBool x0).2 := by
  unfold State.freeBool
  exact Frame.snd (Frame.fresh (hm.of rfl) h0)

theorem State.loseReservations_frame {m : Nat} {s0 : State} {x0 : State} {x1 : Master} {x2 : Nat} (hm : Sub 0x800 m) (h0 : Frame m s0 x0) :
    Frame m s0 (State.loseReservations x0 x1 x2) := by
  unfold State.loseReservations
  refine Frame.harts (hm.of rfl) (fun i n => ?_) h0
  simp only [vget]
  by_cases hn : n < 4
  · have := i.posts n
    simp only [State.hart, vget, hn, getElem?_pos, Option.getD_some, Vector.getElem_ofFn] at *
    split <;> exact this
  · simp [hn, noHart]

theorem State.missRecord_frame {m : Nat} {s0 : State} {x0 : State} {x1 x2 x3 x4 : Nat} (hm : Sub 0x3c000000200 m) (h0 : Frame m s0 x0) :
    Frame m s0 (State.missRecord x0 x1 x2 x3 x4) := by
  unfold State.missRecord
  exact State.fault_frame (hm.of rfl) h0

theorem State.setFlash_frame {m : Nat} {s0 : State} {x0 : State} {x1 x2 : Nat} (hm : Sub 0x1000 m) (h0 : Frame m s0 x0) :
    Frame m s0 (State.setFlash x0 x1 x2) := by
  unfold State.setFlash
  exact Frame.mem (hm.of rfl) (fun w => Memory.wf_flash w _ _) h0

theorem State.programFlash_frame {m : Nat} {s0 : State} {x0 : State} {x1 : Nat} {x2 : List Nat} (hm : Sub 0x1000 m) (h0 : Frame m s0 x0) :
    Frame m s0 (State.programFlash x0 x1 x2) := by
  unfold State.programFlash
  extract_lets +onlyGivenNames -underBinder -merge y0
  try clear_value y0
  extract_lets +onlyGivenNames -underBinder -merge y1
  try clear_value y1
  extract_lets +onlyGivenNames -underBinder -merge y2
  have g2 : Frame m s0 y2 := by
    refine Frame.foldl ?_ ?_
    · intro y3 y4 g3
      exact State.setFlash_frame (hm.of rfl) g3
    · exact h0
  try clear_value y2
  exact Frame.mem (hm.of rfl) (fun w => by first | exact w | exact Memory.wf_blank w | exact Memory.wf_ramFilter w _) g2

theorem State.putB_frame {m : Nat} {s0 : State} {x0 : State} {x1 : Fld} {x2 : Bool} (hm : Sub 0x0 m) (a1 : Allows m x1) (h0 : Frame m s0 x0) :
    Frame m s0 (State.putB x0 x1 x2) := by
  unfold State.putB
  exact State.put_frame (hm.of rfl) a1 h0

theorem State.setRam_frame {m : Nat} {s0 : State} {x0 : State} {x1 x2 : Nat} (hm : Sub 0x1000 m) (h0 : Frame m s0 x0) :
    Frame m s0 (State.setRam x0 x1 x2) := by
  unfold State.setRam
  exact Frame.mem (hm.of rfl) (fun w => Memory.wf_ram w _ _) h0

theorem State.ramWrite_frame {m : Nat} {s0 : State} {x0 : State} {x1 x2 x3 x4 : Nat} (hm : Sub 0x1000 m) (h0 : Frame m s0 x0) :
    Frame m s0 (State.ramWrite x0 x1 x2 x3 x4) := by
  unfold State.ramWrite
  extract_lets +onlyGivenNames -underBinder -merge y0
  try clear_value y0
  refine Frame.foldl ?_ ?_
  · intro y1 y2 g1
    exact State.setRam_frame (hm.of rfl) g1
  · exact h0

theorem State.reply_frame {m : Nat} {s0 : State} {x0 : State} {x1 : Nat} (hm : Sub 0x4 m) (h0 : Frame m s0 x0) : Frame m s0 (State.reply x0 x1) := by
  unfold State.reply
  exact Frame.answer (hm.of rfl) h0

theorem State.setEcc_frame {m : Nat} {s0 : State} {x0 : State} {x1 : Nat} (hm : Sub 0x1000 m) (h0 : Frame m s0 x0) :
    Frame m s0 (State.setEcc x0 x1) := by
  unfold State.setEcc
  exact Frame.mem (hm.of rfl) (fun w => by first | exact w | exact Memory.wf_blank w | exact Memory.wf_ramFilter w _) h0

theorem State.setIsland_frame {m : Nat} {s0 : State} {x0 : State} {x1 : Island} {x2 : IslandState} (hm : Sub 0x10 m) (h0 : Frame m s0 x0) :
    Frame m s0 (State.setIsland x0 x1 x2) := by
  unfold State.setIsland
  exact Frame.power (hm.of rfl) h0

theorem State.setSingle_frame {m : Nat} {s0 : State} {x0 : State} {x1 : Nat} (hm : Sub 0x1000 m) (h0 : Frame m s0 x0) :
    Frame m s0 (State.setSingle x0 x1) := by
  unfold State.setSingle
  exact Frame.mem (hm.of rfl) (fun w => by first | exact w | exact Memory.wf_blank w | exact Memory.wf_ramFilter w _) h0

theorem State.setWord_frame {m : Nat} {s0 : State} {x0 : State} {x1 x2 x3 : Nat} (hm : Sub 0x1000 m) (h0 : Frame m s0 x0) :
    Frame m s0 (State.setWord x0 x1 x2 x3) := by
  unfold State.setWord
  extract_lets +onlyGivenNames -underBinder -merge y0
  have g0 : Frame m s0 y0 := by
    exact State.ramWrite_frame (hm.of rfl) h0
  try clear_value y0
  exact Frame.mem (hm.of rfl) (fun w => by first | exact w | exact Memory.wf_blank w | exact Memory.wf_ramFilter w _) g0

theorem State.setWords_frame {m : Nat} {s0 : State} {x0 : State} {x1 x2 : Nat} {x3 : List Nat} (hm : Sub 0x1000 m) (h0 : Frame m s0 x0) :
    Frame m s0 (State.setWords x0 x1 x2 x3) := by
  unfold State.setWords
  refine Frame.foldl ?_ ?_
  · intro y0 y1 g0
    exact State.setWord_frame (hm.of rfl) g0
  · exact h0

theorem State.when_frame {m : Nat} {s0 : State} {x0 : State} {x1 : Bool} {x2 : State → State}
    (_ : Sub 0x0 m) (f2 : ∀ z0, Frame m s0 z0 → Frame m s0 (x2 z0)) (h0 : Frame m s0 x0) : Frame m s0 (State.when x0 x1 x2) := by
  unfold State.when
  refine Frame.ite (fun _ => ?_) (fun _ => ?_)
  · exact f2 _ h0
  · exact h0

/-! ### Machine/Flags -/

theorem State.claim_frame {m : Nat} {s0 : State} {x0 : State} {x1 : Nat} (hm : Sub 0x100 m) (h0 : Frame m s0 x0) :
    Frame m s0 (State.claim x0 x1).1 := by
  unfold State.claim
  refine Frame.ite1 (fun _ => ?_) (fun _ => ?_)
  · exact Frame.fst h0
  · split
    · exact Frame.fst (Frame.service (hm.of rfl) h0)
    · exact Frame.fst h0

theorem State.endService_frame {m : Nat} {s0 : State} {x0 : State} {x1 x2 : Nat} (hm : Sub 0x100 m) (h0 : Frame m s0 x0) :
    Frame m s0 (State.endService x0 x1 x2) := by
  unfold State.endService
  exact Frame.service (hm.of rfl) h0

/-! ### Machine/Queue -/

theorem State.setSlot_frame {m : Nat} {s0 : State} {x0 : State} {x1 : Nat} {x2 : Option Slot} (hm : Sub 0x2000 m) (h0 : Frame m s0 x0) :
    Frame m s0 (State.setSlot x0 x1 x2) := by
  unfold State.setSlot
  exact Frame.q (hm.of rfl) h0

theorem State.alloc_frame {m : Nat} {s0 : State} {x0 : State} {x1 : Nat} (hm : Sub 0x400000002002 m) (h0 : Frame m s0 x0) :
    Frame m s0 (State.alloc x0 x1).1 := by
  unfold State.alloc
  extract_lets +onlyGivenNames -underBinder -merge y0
  try clear_value y0
  refine Frame.ite1 (fun _ => ?_) (fun _ => ?_)
  · exact Frame.fst (State.raise_frame (hm.of rfl) (Allows.page (p := 14) rfl (hm.of rfl)) h0)
  · extract_lets +onlyGivenNames -underBinder -merge y1
    try clear_value y1
    exact Frame.fst (State.setSlot_frame (hm.of rfl) (Frame.fresh (hm.of rfl) h0))

theorem State.descRead_frame {m : Nat} {s0 : State} {x0 : State} {x1 : Nat} {x2 : List Nat} {x3 : Nat}
    (hm : Sub 0x3c000000200 m) (h0 : Frame m s0 x0) : Frame m s0 (State.descRead x0 x1 x2 x3) := by
  unfold State.descRead
  split
  · exact State.eccRecord_frame (hm.of rfl) h0
  · exact h0

theorem State.setQueue_frame {m : Nat} {s0 : State} {x0 : State} {x1 : Nat} {x2 : List Nat} (hm : Sub 0x2000 m) (h0 : Frame m s0 x0) :
    Frame m s0 (State.setQueue x0 x1 x2) := by
  unfold State.setQueue
  exact Frame.q (hm.of rfl) h0

theorem State.unhook_frame {m : Nat} {s0 : State} {x0 : State} {x1 : Nat} {x2 : Slot} (hm : Sub 0x2000 m) (h0 : Frame m s0 x0) :
    Frame m s0 (State.unhook x0 x1 x2) := by
  unfold State.unhook
  extract_lets +onlyGivenNames -underBinder -merge y0
  have g0 : Frame m s0 y0 := by
    exact State.setQueue_frame (hm.of rfl) h0
  try clear_value y0
  exact Frame.q (hm.of rfl) g0

theorem State.ringWord_frame {m : Nat} {s0 : State} {x0 : State} {x1 x2 x3 : Nat} (hm : Sub 0x3c000001a00 m) (h0 : Frame m s0 x0) :
    Frame m s0 (State.ringWord x0 x1 x2 x3) := by
  unfold State.ringWord
  split
  · exact State.fault_frame (hm.of rfl) h0
  · exact State.loseReservations_frame (hm.of rfl) (State.setWord_frame (hm.of rfl) h0)

theorem State.ringEntry_frame {m : Nat} {s0 : State} {x0 : State} {x1 x2 x3 : Nat} (hm : Sub 0x43c000001a00 m) (h0 : Frame m s0 x0) :
    Frame m s0 (State.ringEntry x0 x1 x2 x3) := by
  unfold State.ringEntry
  extract_lets +onlyGivenNames -underBinder -merge y0
  try clear_value y0
  extract_lets +onlyGivenNames -underBinder -merge y1
  try clear_value y1
  extract_lets +onlyGivenNames -underBinder -merge y2
  try clear_value y2
  refine Frame.ite (fun _ => ?_) (fun _ => ?_)
  · exact h0
  · refine Frame.ite (fun _ => ?_) (fun _ => ?_)
    · refine State.raise_frame (hm.of rfl) (Allows.page (p := 14) rfl (hm.of rfl)) ?_
      exact State.raise_frame (hm.of rfl) (Allows.page (p := 14) rfl (hm.of rfl)) h0
    · extract_lets +onlyGivenNames -underBinder -merge y3
      try clear_value y3
      refine State.put_frame (hm.of rfl) (Allows.page (p := 14) rfl (hm.of rfl)) ?_
      exact State.ringWord_frame (hm.of rfl) (State.ringWord_frame (hm.of rfl) h0)

theorem State.report_frame {m : Nat} {s0 : State} {x0 : State} {x1 x2 : Nat} {x3 : Slot} {x4 : Bool}
    (hm : Sub 0x43c000001a00 m) (h0 : Frame m s0 x0) : Frame m s0 (State.report x0 x1 x2 x3 x4) := by
  unfold State.report
  refine Frame.ite (fun _ => ?_) (fun _ => ?_)
  · exact h0
  · extract_lets +onlyGivenNames -underBinder -merge y0
    have g0 : Frame m s0 y0 := by
      exact State.descRead_frame (hm.of rfl) h0
    try clear_value y0
    extract_lets +onlyGivenNames -underBinder -merge y1
    try clear_value y1
    extract_lets +onlyGivenNames -underBinder -merge y2
    try clear_value y2
    extract_lets +onlyGivenNames -underBinder -merge y3
    have g3 : Frame m s0 y3 := by
      refine State.when_frame (hm.of rfl) ?_ ?_
      · intro y4 g4
        exact State.ringEntry_frame (hm.of rfl) g4
      · exact g0
    try clear_value y3
    extract_lets +onlyGivenNames -underBinder -merge y5
    have g5 : Frame m s0 y5 := by
      refine State.when_frame (hm.of rfl) ?_ ?_
      · intro y6 g6
        exact State.raise_frame (hm.of rfl) (Allows.page (p := 14) rfl (hm.of rfl)) g6
      · exact g3
    try clear_value y5
    refine State.when_frame (hm.of rfl) ?_ ?_
    · intro y7 g7
      exact State.raise_frame (hm.of rfl) (Allows.page (p := 14) rfl (hm.of rfl)) g7
    · exact g5

theorem State.markDisplaced_frame {m : Nat} {s0 : State} {x0 : State} {x1 x2 x3 : Nat} (hm : Sub 0x2000 m) (h0 : Frame m s0 x0) :
    Frame m s0 (State.markDisplaced x0 x1 x2 x3) := by
  unfold State.markDisplaced
  exact Frame.q (hm.of rfl) h0

theorem State.completeFree_frame {m : Nat} {s0 : State} {x0 : State} {x1 x2 : Nat} (hm : Sub 0x43c000003a00 m) (h0 : Frame m s0 x0) :
    Frame m s0 (State.completeFree x0 x1 x2) := by
  unfold State.completeFree
  split
  · exact h0
  · exact State.markDisplaced_frame (hm.of rfl) (State.setSlot_frame (hm.of rfl) (State.unhook_frame (hm.of rfl) (State.report_frame (hm.of rfl) h0)))

theorem State.missDescriptor_frame {m : Nat} {s0 : State} {x0 : State} {x1 : Nat} (hm : Sub 0x43c000000200 m) (h0 : Frame m s0 x0) :
    Frame m s0 (State.missDescriptor x0 x1) := by
  unfold State.missDescriptor
  split
  · exact h0
  · extract_lets +onlyGivenNames -underBinder -merge y0
    try clear_value y0
    exact State.raise_frame (hm.of rfl) (Allows.page (p := 14) rfl (hm.of rfl)) (State.missRecord_frame (hm.of rfl) h0)

theorem State.completeMissed_frame {m : Nat} {s0 : State} {x0 : State} {x1 : Nat} (hm : Sub 0x43c000003a00 m) (h0 : Frame m s0 x0) :
    Frame m s0 (State.completeMissed x0 x1) := by
  unfold State.completeMissed
  exact State.completeFree_frame (hm.of rfl) (State.missDescriptor_frame (hm.of rfl) h0)

theorem State.enqueue_frame {m : Nat} {s0 : State} {x0 : State} {x1 x2 x3 : Nat} (hm : Sub 0x43c000003a00 m) (h0 : Frame m s0 x0) :
    Frame m s0 (State.enqueue x0 x1 x2 x3) := by
  unfold State.enqueue
  split
  · exact h0
  · extract_lets +onlyGivenNames -underBinder -merge y0
    have g0 : Frame m s0 y0 := by
      exact State.setSlot_frame (hm.of rfl) h0
    try clear_value y0
    extract_lets +onlyGivenNames -underBinder -merge y1
    have g1 : Frame m s0 y1 := by
      exact State.descRead_frame (hm.of rfl) (State.setQueue_frame (hm.of rfl) g0)
    try clear_value y1
    refine State.when_frame (hm.of rfl) ?_ ?_
    · intro y2 g2
      exact State.completeMissed_frame (hm.of rfl) g2
    · exact g1

theorem State.complete_frame {m : Nat} {s0 : State} {x0 : State} {x1 x2 : Nat} (hm : Sub 0x43c000003a00 m) (h0 : Frame m s0 x0) :
    Frame m s0 (State.complete x0 x1 x2) := by
  unfold State.complete
  split
  · exact h0
  · extract_lets +onlyGivenNames -underBinder -merge y0
    have g0 : Frame m s0 y0 := by
      exact State.descRead_frame (hm.of rfl) h0
    try clear_value y0
    extract_lets +onlyGivenNames -underBinder -merge y1
    try clear_value y1
    extract_lets +onlyGivenNames -underBinder -merge y2
    try clear_value y2
    refine Frame.ite (fun _ => ?_) (fun _ => ?_)
    · extract_lets +onlyGivenNames -underBinder -merge y3
      try clear_value y3
      extract_lets +onlyGivenNames -underBinder -merge y4
      have g4 : Frame m s0 y4 := by
        exact State.unhook_frame (hm.of rfl) (State.report_frame (hm.of rfl) g0)
      try clear_value y4
      extract_lets +onlyGivenNames -underBinder -merge y5
      have g5 : Frame m s0 y5 := by
        exact State.setSlot_frame (hm.of rfl) g4
      try clear_value y5
      refine State.when_frame (hm.of rfl) ?_ ?_
      · intro y6 g6
        exact State.enqueue_frame (hm.of rfl) g6
      · exact g5
    · exact State.completeFree_frame (hm.of rfl) g0

theorem State.completeCancelled_frame {m : Nat} {s0 : State} {x0 : State} {x1 : Nat} (hm : Sub 0x43c000003a00 m) (h0 : Frame m s0 x0) :
    Frame m s0 (State.completeCancelled x0 x1) := by
  unfold State.completeCancelled
  refine Frame.ite (fun _ => ?_) (fun _ => ?_)
  · exact State.completeMissed_frame (hm.of rfl) h0
  · exact State.completeFree_frame (hm.of rfl) h0

theorem State.freeSlot_frame {m : Nat} {s0 : State} {x0 : State} {x1 x2 : Nat} (hm : Sub 0x2000 m) (h0 : Frame m s0 x0) :
    Frame m s0 (State.freeSlot x0 x1 x2) := by
  unfold State.freeSlot
  split
  · refine Frame.ite (fun _ => ?_) (fun _ => ?_)
    · exact State.setSlot_frame (hm.of rfl) h0
    · exact h0
  · exact h0

theorem State.noteCancel_frame {m : Nat} {s0 : State} {x0 : State} {x1 : Nat} (hm : Sub 0x2000 m) (h0 : Frame m s0 x0) :
    Frame m s0 (State.noteCancel x0 x1) := by
  unfold State.noteCancel
  split
  · exact State.setSlot_frame (hm.of rfl) h0
  · exact h0

theorem State.setActive_frame {m : Nat} {s0 : State} {x0 : State} {x1 : Nat} {x2 : Option Active} (hm : Sub 0x2000 m) (h0 : Frame m s0 x0) :
    Frame m s0 (State.setActive x0 x1 x2) := by
  unfold State.setActive
  exact Frame.q (hm.of rfl) h0

theorem State.outcome_frame {m : Nat} {s0 : State} {x0 : State} {x1 x2 : Nat} (hm : Sub 0x2000 m) (h0 : Frame m s0 x0) :
    Frame m s0 (State.outcome x0 x1 x2) := by
  unfold State.outcome
  split
  · exact State.setActive_frame (hm.of rfl) h0
  · exact h0

theorem State.push_frame {m : Nat} {s0 : State} {x0 : State} {x1 x2 x3 : Nat} (hm : Sub 0x43c000003a00 m) (h0 : Frame m s0 x0) :
    Frame m s0 (State.push x0 x1 x2 x3).1 := by
  unfold State.push
  split
  · refine Frame.ite1 (fun _ => ?_) (fun _ => ?_)
    · exact Frame.fst (State.enqueue_frame (hm.of rfl) h0)
    · exact Frame.fst h0
  · exact Frame.fst h0

theorem State.queueStart_frame {m : Nat} {s0 : State} {x0 : State} {x1 : Nat} (hm : Sub 0x2000 m) (h0 : Frame m s0 x0) :
    Frame m s0 (State.queueStart x0 x1) := by
  unfold State.queueStart
  refine Frame.foldl ?_ ?_
  · intro y0 y1 g0
    refine Frame.ite (fun _ => ?_) (fun _ => ?_)
    · exact Frame.q (hm.of rfl) g0
    · exact g0
  · exact h0

theorem State.takeFrom_frame {m : Nat} {s0 : State} {x0 : State} {x1 x2 : Nat} (hm : Sub 0x2000 m) (h0 : Frame m s0 x0) :
    Frame m s0 (State.takeFrom x0 x1 x2) := by
  unfold State.takeFrom
  split
  · exact h0
  · split
    · exact h0
    · extract_lets +onlyGivenNames -underBinder -merge y0
      have g0 : Frame m s0 y0 := by
        exact State.setSlot_frame (hm.of rfl) (State.setQueue_frame (hm.of rfl) h0)
      try clear_value y0
      extract_lets +onlyGivenNames -underBinder -merge y1
      have g1 : Frame m s0 y1 := by
        exact State.markDisplaced_frame (hm.of rfl) (State.setActive_frame (hm.of rfl) g0)
      try clear_value y1
      refine Frame.ite (fun _ => ?_) (fun _ => ?_)
      · exact Frame.q (hm.of rfl) g1
      · exact g1

/-! ### Machine/Sinks -/

theorem State.setSample_frame {m : Nat} {s0 : State} {x0 : State} {x1 : Nat} {x2 : Option Sample}
    (hm : Sub 0x100000000400000 m) (h0 : Frame m s0 x0) : Frame m s0 (State.setSample x0 x1 x2) := by
  unfold State.setSample
  exact State.putB_frame (hm.of rfl) (Allows.page (p := 24) rfl (hm.of rfl)) (Frame.ctl (hm.of rfl) h0)

theorem State.startStage_frame {m : Nat} {s0 : State} {x0 : State} {x1 : Nat} (hm : Sub 0x100000000400002 m) (h0 : Frame m s0 x0) :
    Frame m s0 (State.startStage x0 x1) := by
  unfold State.startStage
  split
  · exact h0
  · refine Frame.ite (fun _ => ?_) (fun _ => ?_)
    · exact h0
    · extract_lets +onlyGivenNames -underBinder -merge y0
      try clear_value y0
      extract_lets +onlyGivenNames -underBinder -merge y1
      have g1 : Frame m s0 y1 := by
        exact State.setSample_frame (hm.of rfl) h0
      try clear_value y1
      extract_lets +onlyGivenNames -underBinder -merge y2
      try clear_value y2
      extract_lets +onlyGivenNames -underBinder -merge y3
      have g3 : Frame m s0 y3 := by
        exact Frame.fresh_ctl (hm.of rfl) g1
      try clear_value y3
      refine State.when_frame (hm.of rfl) ?_ ?_
      · intro y4 g4
        exact State.raise_frame (hm.of rfl) (Allows.page (p := 24) rfl (hm.of rfl)) g4
      · exact g3

theorem State.engineNext_frame {m : Nat} {s0 : State} {x0 : State} (hm : Sub 0x100000000400002 m) (h0 : Frame m s0 x0) :
    Frame m s0 (State.engineNext x0) := by
  unfold State.engineNext
  refine Frame.ite (fun _ => ?_) (fun _ => ?_)
  · exact h0
  · split
    · exact State.startStage_frame (hm.of rfl) h0
    · exact h0

theorem State.endSample_frame {m : Nat} {s0 : State} {x0 : State} {x1 : Nat} (hm : Sub 0x100000000400000 m) (h0 : Frame m s0 x0) :
    Frame m s0 (State.endSample x0 x1) := by
  unfold State.endSample
  extract_lets +onlyGivenNames -underBinder -merge y0
  have g0 : Frame m s0 y0 := by
    exact State.setSample_frame (hm.of rfl) h0
  try clear_value y0
  extract_lets +onlyGivenNames -underBinder -merge y1
  have g1 : Frame m s0 y1 := by
    refine State.when_frame (hm.of rfl) ?_ ?_
    · intro y2 g2
      exact Frame.ctl (hm.of rfl) g2
    · exact g0
  try clear_value y1
  refine Frame.ite (fun _ => ?_) (fun _ => ?_)
  · exact State.setSample_frame (hm.of rfl) (State.clear_frame (hm.of rfl) (Allows.page (p := 24) rfl (hm.of rfl)) g1)
  · exact g1

theorem State.abandonSample_frame {m : Nat} {s0 : State} {x0 : State} {x1 : Nat} (hm : Sub 0x100000000400002 m) (h0 : Frame m s0 x0) :
    Frame m s0 (State.abandonSample x0 x1) := by
  unfold State.abandonSample
  exact State.engineNext_frame (hm.of rfl) (State.endSample_frame (hm.of rfl) h0)

theorem State.abortEntry_frame {m : Nat} {s0 : State} {x0 : State} (hm : Sub 0x1400008810 m) (h0 : Frame m s0 x0) :
    Frame m s0 (State.abortEntry x0) := by
  unfold State.abortEntry
  extract_lets +onlyGivenNames -underBinder -merge y0
  try clear_value y0
  extract_lets +onlyGivenNames -underBinder -merge y1
  extract_lets +onlyGivenNames -underBinder -merge y2
  have g2 : Frame m s0 y2 := by
    exact Frame.power_fab (hm.of rfl) h0
  try clear_value y2
  extract_lets +onlyGivenNames -underBinder -merge y3
  have g3 : Frame m s0 y3 := by
    exact State.putB_frame (hm.of rfl) (Allows.page (p := 4) rfl (hm.of rfl)) (State.put_frame (hm.of rfl) (Allows.page (p := 4) rfl (hm.of rfl)) g2)
  try clear_value y3
  extract_lets +onlyGivenNames -underBinder -merge y4
  have g4 : Frame m s0 y4 := by
    refine State.modHart_frame (hm.of rfl) (fun _ => by first | ((try dsimp only) <;> (repeat' split) <;> simp; done) | exact Nat.zero_le _ | exact Nat.le_refl _) ?_
    exact g3
  try clear_value y4
  refine State.raise_frame (hm.of rfl) (Allows.page (p := 2) rfl (hm.of rfl)) ?_
  refine Frame.harts (hm.of rfl) (fun i n => by first | exact posts_lost _ n | exact posts_none n | exact posts_ofFn i.posts (fun _ => by first | (split <;> simp; done) | simp) n) ?_
  exact g4

theorem State.adcaStart_frame {m : Nat} {s0 : State} {x0 : State} (hm : Sub 0x200000000400000 m) (h0 : Frame m s0 x0) :
    Frame m s0 (State.adcaStart x0) := by
  unfold State.adcaStart
  refine Frame.ite (fun _ => ?_) (fun _ => ?_)
  · exact h0
  · refine Frame.ite (fun _ => ?_) (fun _ => ?_)
    · exact State.raise_frame (hm.of rfl) (Allows.page (p := 25) rfl (hm.of rfl)) h0
    · exact State.raise_frame (hm.of rfl) (Allows.page (p := 25) rfl (hm.of rfl)) (Frame.ctl (hm.of rfl) h0)

theorem State.adcbStart_frame {m : Nat} {s0 : State} {x0 : State} (hm : Sub 0x200000000400008 m) (h0 : Frame m s0 x0) :
    Frame m s0 (State.adcbStart x0) := by
  unfold State.adcbStart
  refine Frame.ite (fun _ => ?_) (fun _ => ?_)
  · exact State.raise_frame (hm.of rfl) (Allows.page (p := 25) rfl (hm.of rfl)) h0
  · refine Frame.ite (fun _ => ?_) (fun _ => ?_)
    · refine State.raise_frame (hm.of rfl) (Allows.page (p := 25) rfl (hm.of rfl)) ?_
      exact State.put_frame (hm.of rfl) (Allows.page (p := 25) rfl (hm.of rfl)) h0
    · exact State.raise_frame (hm.of rfl) (Allows.page (p := 25) rfl (hm.of rfl)) (Frame.supply_ctl (hm.of rfl) h0)

theorem State.beginExit_frame {m : Nat} {s0 : State} {x0 : State} (hm : Sub 0x1400020010 m) (h0 : Frame m s0 x0) :
    Frame m s0 (State.beginExit x0) := by
  unfold State.beginExit
  refine Frame.ite (fun _ => ?_) (fun _ => ?_)
  · extract_lets y0 y1
    have g1 : Frame m s0 y1 := by
      exact State.put_frame (hm.of rfl) (Allows.page (p := 4) rfl (hm.of rfl)) h0
    exact Frame.power_ntu (hm.of rfl) (fun i => i.ns) g1
  · extract_lets y2
    have g2 : Frame m s0 y2 := by
      exact State.put_frame (hm.of rfl) (Allows.page (p := 2) rfl (hm.of rfl)) h0
    clear_value y2
    exact Frame.power (hm.of rfl) g2

theorem State.beginSample_frame {m : Nat} {s0 : State} {x0 : State} {x1 : Nat} (hm : Sub 0x100000000400002 m) (h0 : Frame m s0 x0) :
    Frame m s0 (State.beginSample x0 x1) := by
  unfold State.beginSample
  extract_lets +onlyGivenNames -underBinder -merge y0
  have g0 : Frame m s0 y0 := by
    exact State.setSample_frame (hm.of rfl) h0
  try clear_value y0
  exact State.engineNext_frame (hm.of rfl) g0

theorem State.modCan_frame {m : Nat} {s0 : State} {x0 : State} {x1 : Nat} {x2 : CanCtl → CanCtl} (hm : Sub 0x40000 m) (h0 : Frame m s0 x0) :
    Frame m s0 (State.modCan x0 x1 x2) := by
  unfold State.modCan
  exact Frame.can (hm.of rfl) h0

theorem State.setWord1_frame {m : Nat} {s0 : State} {x0 : State} {x1 x2 x3 : Nat} (hm : Sub 0x40000 m) (h0 : Frame m s0 x0) :
    Frame m s0 (State.setWord1 x0 x1 x2 x3) := by
  unfold State.setWord1
  exact State.modCan_frame (hm.of rfl) h0

theorem State.setObjState_frame {m : Nat} {s0 : State} {x0 : State} {x1 x2 x3 : Nat} (hm : Sub 0x40000 m) (h0 : Frame m s0 x0) :
    Frame m s0 (State.setObjState x0 x1 x2 x3) := by
  unfold State.setObjState
  exact State.setWord1_frame (hm.of rfl) h0

theorem State.canRequest_frame {m : Nat} {s0 : State} {x0 : State} {x1 x2 : Nat} (hm : Sub 0x40000 m) (h0 : Frame m s0 x0) :
    Frame m s0 (State.canRequest x0 x1 x2) := by
  unfold State.canRequest
  refine Frame.ite (fun _ => ?_) (fun _ => ?_)
  · exact State.setObjState_frame (hm.of rfl) h0
  · exact h0

theorem State.capture_frame {m : Nat} {s0 : State} {x0 : State} {x1 : Nat} (hm : Sub 0x2000000000000 m) (h0 : Frame m s0 x0) :
    Frame m s0 (State.capture x0 x1) := by
  unfold State.capture
  refine Frame.ite (fun _ => ?_) (fun _ => ?_)
  · exact h0
  · extract_lets +onlyGivenNames -underBinder -merge y0
    have g0 : Frame m s0 y0 := by
      refine State.when_frame (hm.of rfl) ?_ ?_
      · intro y1 g1
        exact State.raise_frame (hm.of rfl) (Allows.page (p := 17) rfl (hm.of rfl)) g1
      · exact h0
    try clear_value y0
    extract_lets +onlyGivenNames -underBinder -merge y2
    have g2 : Frame m s0 y2 := by
      refine State.put_frame (hm.of rfl) (Allows.page (p := 17) rfl (hm.of rfl)) ?_
      refine State.put_frame (hm.of rfl) (Allows.page (p := 17) rfl (hm.of rfl)) ?_
      exact State.put_frame (hm.of rfl) (Allows.page (p := 17) rfl (hm.of rfl)) g0
    try clear_value y2
    extract_lets +onlyGivenNames -underBinder -merge y3
    have g3 : Frame m s0 y3 := by
      exact State.raise_frame (hm.of rfl) (Allows.page (p := 17) rfl (hm.of rfl)) g2
    try clear_value y3
    refine State.when_frame (hm.of rfl) ?_ ?_
    · intro y4 g4
      exact State.raise_frame (hm.of rfl) (Allows.page (p := 17) rfl (hm.of rfl)) g4
    · exact g3

theorem State.forceSafe_frame {m : Nat} {s0 : State} {x0 : State} {x1 : Nat} (hm : Sub 0x400000000000000 m) (h0 : Frame m s0 x0) :
    Frame m s0 (State.forceSafe x0 x1) := by
  unfold State.forceSafe
  refine State.raise_frame (hm.of rfl) (Allows.page (p := 26) rfl (hm.of rfl)) ?_
  exact State.raise_frame (hm.of rfl) (Allows.page (p := 26) rfl (hm.of rfl)) h0

theorem State.loopLine_frame {m : Nat} {s0 : State} {x0 : State} {x1 : Nat} {x2 : Fld} (hm : Sub 0x100000000000000 m) (h0 : Frame m s0 x0) :
    Frame m s0 (State.loopLine x0 x1 x2) := by
  unfold State.loopLine
  refine State.when_frame (hm.of rfl) ?_ ?_
  · intro y0 g0
    exact State.raise_frame (hm.of rfl) (Allows.page (p := 24) rfl (hm.of rfl)) g0
  · exact h0

theorem State.loopMiss_frame {m : Nat} {s0 : State} {x0 : State} {x1 : Nat} (hm : Sub 0x10003c000000200 m) (h0 : Frame m s0 x0) :
    Frame m s0 (State.loopMiss x0 x1) := by
  unfold State.loopMiss
  refine State.loopLine_frame (hm.of rfl) ?_
  refine State.raise_frame (hm.of rfl) (Allows.page (p := 24) rfl (hm.of rfl)) ?_
  exact State.raise_frame (hm.of rfl) (Allows.page (p := 24) rfl (hm.of rfl)) (State.missRecord_frame (hm.of rfl) h0)

theorem State.loopTrigger_frame {m : Nat} {s0 : State} {x0 : State} {x1 : Nat} (hm : Sub 0x10003c000400202 m) (h0 : Frame m s0 x0) :
    Frame m s0 (State.loopTrigger x0 x1) := by
  unfold State.loopTrigger
  refine Frame.ite (fun _ => ?_) (fun _ => ?_)
  · exact h0
  · refine Frame.ite (fun _ => ?_) (fun _ => ?_)
    · exact State.beginSample_frame (hm.of rfl) h0
    · refine Frame.ite (fun _ => ?_) (fun _ => ?_)
      · exact State.raise_frame (hm.of rfl) (Allows.page (p := 24) rfl (hm.of rfl)) h0
      · exact State.loopMiss_frame (hm.of rfl) (State.raise_frame (hm.of rfl) (Allows.page (p := 24) rfl (hm.of rfl)) h0)

theorem State.wake_frame {m : Nat} {s0 : State} {x0 : State} {x1 : Nat} (hm : Sub 0x1400028810 m) (h0 : Frame m s0 x0) :
    Frame m s0 (State.wake x0 x1) := by
  unfold State.wake
  extract_lets +onlyGivenNames -underBinder -merge y0
  try clear_value y0
  refine Frame.ite (fun _ => ?_) (fun _ => ?_)
  · exact h0
  · extract_lets +onlyGivenNames -underBinder -merge y1
    have g1 : Frame m s0 y1 := by
      exact State.raise_frame (hm.of rfl) (Allows.page (p := 2) rfl (hm.of rfl)) h0
    try clear_value y1
    split
    · exact g1
    · refine Frame.ite (fun _ => ?_) (fun _ => ?_)
      · exact Frame.power (hm.of rfl) g1
      · exact State.abortEntry_frame (hm.of rfl) g1
    · exact State.beginExit_frame (hm.of rfl) g1
    · exact g1

/-! ### Machine/Fabric -/

theorem State.setEvout_frame {m : Nat} {s0 : State} {x0 : State} {x1 : Nat} {x2 : Bool} (hm : Sub 0x8000 m) (h0 : Frame m s0 x0) :
    Frame m s0 (State.setEvout x0 x1 x2) := by
  unfold State.setEvout
  exact Frame.fab (hm.of rfl) h0

theorem State.channelFall_frame {m : Nat} {s0 : State} {x0 : State} {x1 : Nat} (hm : Sub 0x8000 m) (h0 : Frame m s0 x0) :
    Frame m s0 (State.channelFall x0 x1) := by
  unfold State.channelFall
  refine Frame.ite (fun _ => ?_) (fun _ => ?_)
  · exact h0
  · refine Frame.foldl ?_ ?_
    · intro y0 y1 g0
      refine Frame.ite (fun _ => ?_) (fun _ => ?_)
      · exact State.setEvout_frame (hm.of rfl) g0
      · exact g0
    · exact h0

theorem State.evoutRise_frame {m : Nat} {s0 : State} {x0 : State} {x1 : Nat} (hm : Sub 0x8000 m) (h0 : Frame m s0 x0) :
    Frame m s0 (State.evoutRise x0 x1) := by
  unfold State.evoutRise
  split
  · extract_lets +onlyGivenNames -underBinder -merge y0
    have g0 : Frame m s0 y0 := by
      exact State.setEvout_frame (hm.of rfl) h0
    try clear_value y0
    exact Frame.fab (hm.of rfl) g0
  · exact State.setEvout_frame (hm.of rfl) h0
  · exact State.setEvout_frame (hm.of rfl) h0

theorem State.sinkAct_frame {m : Nat} {s0 : State} {x0 : State} {x1 : Nat} (hm : Sub 0x70303d40046aa1a m) (h0 : Frame m s0 x0) :
    Frame m s0 (State.sinkAct x0 x1) := by
  unfold State.sinkAct
  refine Frame.ite (fun _ => ?_) (fun _ => ?_)
  · exact State.queueStart_frame (hm.of rfl) h0
  · refine Frame.ite (fun _ => ?_) (fun _ => ?_)
    · exact State.loopTrigger_frame (hm.of rfl) h0
    · refine Frame.ite (fun _ => ?_) (fun _ => ?_)
      · exact State.adcaStart_frame (hm.of rfl) h0
      · refine Frame.ite (fun _ => ?_) (fun _ => ?_)
        · exact State.adcbStart_frame (hm.of rfl) h0
        · refine Frame.ite (fun _ => ?_) (fun _ => ?_)
          · exact State.forceSafe_frame (hm.of rfl) h0
          · refine Frame.ite (fun _ => ?_) (fun _ => ?_)
            · refine State.when_frame (hm.of rfl) ?_ ?_
              · intro y0 g0
                exact State.capture_frame (hm.of rfl) g0
              · exact h0
            · refine Frame.ite (fun _ => ?_) (fun _ => ?_)
              · exact State.evoutRise_frame (hm.of rfl) h0
              · refine Frame.ite (fun _ => ?_) (fun _ => ?_)
                · exact State.raise_frame (hm.of rfl) (Allows.page (p := 16) rfl (hm.of rfl)) h0
                · refine Frame.ite (fun _ => ?_) (fun _ => ?_)
                  · exact State.wake_frame (hm.of rfl) h0
                  · refine Frame.ite (fun _ => ?_) (fun _ => ?_)
                    · exact State.canRequest_frame (hm.of rfl) h0
                    · exact State.canRequest_frame (hm.of rfl) h0

theorem State.sinkTake_frame {m : Nat} {s0 : State} {x0 : State} {x1 x2 : Nat} (hm : Sub 0x70303d40046aa1a m) (h0 : Frame m s0 x0) :
    Frame m s0 (State.sinkTake x0 x1 x2) := by
  unfold State.sinkTake
  refine Frame.ite (fun _ => ?_) (fun _ => ?_)
  · exact State.raise_frame (hm.of rfl) (Allows.page (p := 16) rfl (hm.of rfl)) h0
  · split
    · refine Frame.ite (fun _ => ?_) (fun _ => ?_)
      · exact State.raise_frame (hm.of rfl) (Allows.page (p := 16) rfl (hm.of rfl)) h0
      · exact State.sinkAct_frame (hm.of rfl) h0
    · refine Frame.ite (fun _ => ?_) (fun _ => ?_)
      · exact State.raise_frame (hm.of rfl) (Allows.page (p := 16) rfl (hm.of rfl)) h0
      · exact State.raise_frame (hm.of rfl) (Allows.page (p := 16) rfl (hm.of rfl)) h0
    · exact State.raise_frame (hm.of rfl) (Allows.page (p := 16) rfl (hm.of rfl)) h0

theorem State.deliver_frame {m : Nat} {s0 : State} {x0 : Nat} {x1 : State} {x2 : Nat} (hm : Sub 0x70303d40046aa1a m) (h1 : Frame m s0 x1) :
    Frame m s0 (State.deliver x0 x1 x2) := by
  unfold State.deliver
  refine Frame.ite (fun _ => ?_) (fun _ => ?_)
  · refine Frame.ite (fun _ => ?_) (fun _ => ?_)
    · exact State.sinkTake_frame (hm.of rfl) h1
    · exact State.raise_frame (hm.of rfl) (Allows.page (p := 16) rfl (hm.of rfl)) h1
  · exact h1

theorem State.channelRise_frame {m : Nat} {s0 : State} {x0 : State} {x1 : Nat} (hm : Sub 0x70303d40046aa1a m) (h0 : Frame m s0 x0) :
    Frame m s0 (State.channelRise x0 x1) := by
  unfold State.channelRise
  refine Frame.foldl ?_ ?_
  · intro y0 y1 g0
    exact State.deliver_frame (hm.of rfl) g0
  · exact State.raise_frame (hm.of rfl) (Allows.page (p := 16) rfl (hm.of rfl)) h0

theorem State.setSignal_frame {m : Nat} {s0 : State} {x0 : State} {x1 : Nat} {x2 : Bool} (hm : Sub 0x8000 m) (h0 : Frame m s0 x0) :
    Frame m s0 (State.setSignal x0 x1 x2) := by
  unfold State.setSignal
  exact Frame.fab (hm.of rfl) h0

theorem State.channelLevel_frame {m : Nat} {s0 : State} {x0 : State} {x1 : Nat} {x2 : Bool} (hm : Sub 0x70303d40046aa1a m) (h0 : Frame m s0 x0) :
    Frame m s0 (State.channelLevel x0 x1 x2) := by
  unfold State.channelLevel
  refine Frame.ite (fun _ => ?_) (fun _ => ?_)
  · exact h0
  · refine Frame.ite (fun _ => ?_) (fun _ => ?_)
    · exact State.channelRise_frame (hm.of rfl) (State.setSignal_frame (hm.of rfl) h0)
    · exact State.channelFall_frame (hm.of rfl) (State.setSignal_frame (hm.of rfl) h0)

theorem State.dropLatches_frame {m : Nat} {s0 : State} {x0 : State} {x1 : Island} (hm : Sub 0x1000000000000 m) (h0 : Frame m s0 x0) :
    Frame m s0 (State.dropLatches x0 x1) := by
  unfold State.dropLatches
  refine Frame.foldl ?_ ?_
  · intro y0 y1 g0
    refine Frame.ite (fun _ => ?_) (fun _ => ?_)
    · refine State.raise_frame (hm.of rfl) (Allows.page (p := 16) rfl (hm.of rfl)) ?_
      exact State.clear_frame (hm.of rfl) (Allows.page (p := 16) rfl (hm.of rfl)) g0
    · exact g0
  · exact h0

theorem State.sourceEnd_frame {m : Nat} {s0 : State} {x0 : State} {x1 : Nat} {x2 : State → Nat → State} {x3 : Nat}
    (hm : Sub 0x1000000000000 m) (f2 : ∀ z0 z1, Frame m s0 z0 → Frame m s0 (x2 z0 z1)) (h0 : Frame m s0 x0) :
    Frame m s0 (State.sourceEnd x0 x1 x2 x3) := by
  unfold State.sourceEnd
  refine Frame.ite (fun _ => ?_) (fun _ => ?_)
  · refine Frame.ite (fun _ => ?_) (fun _ => ?_)
    · exact f2 _ _ h0
    · exact State.raise_frame (hm.of rfl) (Allows.page (p := 16) rfl (hm.of rfl)) h0
  · exact h0

theorem State.fire_frame {m : Nat} {s0 : State} {x0 : State} {x1 : Nat} (hm : Sub 0x70303d40046aa1a m) (h0 : Frame m s0 x0) :
    Frame m s0 (State.fire x0 x1) := by
  unfold State.fire
  refine Frame.ite (fun _ => ?_) (fun _ => ?_)
  · exact h0
  · refine Frame.foldl ?_ ?_
    · intro y0 y1 g0
      refine State.sourceEnd_frame (hm.of rfl) ?_ ?_
      · intro y2 y3 g2
        exact State.channelRise_frame (hm.of rfl) g2
      · exact g0
    · exact h0

theorem State.padFlag_frame {m : Nat} {s0 : State} {x0 : State} {x1 : Nat} (hm : Sub 0x20000000000000000 m) (h0 : Frame m s0 x0) :
    Frame m s0 (State.padFlag x0 x1) := by
  unfold State.padFlag
  exact State.raise_frame (hm.of rfl) (Allows.page (p := 33) rfl (hm.of rfl)) (State.put_frame (hm.of rfl) (Allows.page (p := 33) rfl (hm.of rfl)) h0)

theorem State.judgePads_frame {m : Nat} {s0 : State} {x0 : State} (hm : Sub 0x20000000000000000 m) (h0 : Frame m s0 x0) :
    Frame m s0 (State.judgePads x0) := by
  unfold State.judgePads
  refine Frame.foldl ?_ ?_
  · intro y0 y1 g0
    extract_lets +onlyGivenNames -underBinder -merge y2
    try clear_value y2
    refine State.when_frame (hm.of rfl) ?_ ?_
    · intro y3 g3
      exact State.padFlag_frame (hm.of rfl) g3
    · exact g0
  · exact h0

theorem State.padTransition_frame {m : Nat} {s0 : State} {x0 : Nat} {x1 : Bool} {x2 : State} {x3 : Nat}
    (hm : Sub 0x70303d40046aa1a m) (h2 : Frame m s0 x2) : Frame m s0 (State.padTransition x0 x1 x2 x3) := by
  unfold State.padTransition
  extract_lets +onlyGivenNames -underBinder -merge y0
  have g0 : ∀ s, Frame m s0 s → Frame m s0 (y0 s) := by
    intro y1 g1
    refine State.sourceEnd_frame (hm.of rfl) ?_ ?_
    · intro y2 y3 g2
      exact State.channelRise_frame (hm.of rfl) g2
    · exact g1
  try clear_value y0
  split
  · refine Frame.ite (fun _ => ?_) (fun _ => ?_)
    · refine State.sourceEnd_frame (hm.of rfl) ?_ ?_
      · intro y4 y5 g4
        exact State.channelLevel_frame (hm.of rfl) g4
      · exact h2
    · refine State.when_frame (hm.of rfl) ?_ ?_
      · intro y6 g6
        exact State.channelLevel_frame (hm.of rfl) g6
      · exact h2
  · refine State.when_frame (hm.of rfl) ?_ ?_
    · exact g0
    · exact h2
  · refine State.when_frame (hm.of rfl) ?_ ?_
    · exact g0
    · exact h2
  · exact g0 _ h2

theorem State.padEvent_frame {m : Nat} {s0 : State} {x0 : State} {x1 : Nat} {x2 : Bool} (hm : Sub 0x70303d40046aa1a m) (h0 : Frame m s0 x0) :
    Frame m s0 (State.padEvent x0 x1 x2) := by
  unfold State.padEvent
  refine Frame.foldl ?_ ?_
  · intro y0 y1 g0
    exact State.padTransition_frame (hm.of rfl) g0
  · exact h0

theorem State.padAccept_frame {m : Nat} {s0 : State} {x0 : State} {x1 : Nat} {x2 : Bool} (hm : Sub 0x2070303d40046aa1a m) (h0 : Frame m s0 x0) :
    Frame m s0 (State.padAccept x0 x1 x2) := by
  unfold State.padAccept
  refine Frame.ite (fun _ => ?_) (fun _ => ?_)
  · exact h0
  · extract_lets +onlyGivenNames -underBinder -merge y0
    extract_lets +onlyGivenNames -underBinder -merge y1
    have g1 : Frame m s0 y1 := by
      exact Frame.fab (hm.of rfl) h0
    try clear_value y1
    extract_lets +onlyGivenNames -underBinder -merge y2
    try clear_value y2
    extract_lets +onlyGivenNames -underBinder -merge y3
    try clear_value y3
    extract_lets +onlyGivenNames -underBinder -merge y4
    have g4 : Frame m s0 y4 := by
      refine State.judgePads_frame (hm.of rfl) ?_
      refine State.when_frame (hm.of rfl) ?_ ?_
      · intro y5 g5
        exact State.padFlag_frame (hm.of rfl) g5
      · exact g1
    try clear_value y4
    split
    · exact State.padEvent_frame (hm.of rfl) g4
    · exact g4

theorem State.pendingAct_frame {m : Nat} {s0 : State} {x0 : State} {x1 : Nat} (hm : Sub 0x70303d40046aa1a m) (h0 : Frame m s0 x0) :
    Frame m s0 (State.pendingAct x0 x1) := by
  unfold State.pendingAct
  refine Frame.ite (fun _ => ?_) (fun _ => ?_)
  · exact State.sinkAct_frame (hm.of rfl) (State.clear_frame (hm.of rfl) (Allows.page (p := 16) rfl (hm.of rfl)) h0)
  · exact h0

theorem State.reshape_frame {m : Nat} {s0 : State} {x0 : State} {x1 : Nat} (hm : Sub 0x70303d40046aa1a m) (h0 : Frame m s0 x0) :
    Frame m s0 (State.reshape x0 x1) := by
  unfold State.reshape
  exact State.channelLevel_frame (hm.of rfl) h0

theorem State.reshapeAll_frame {m : Nat} {s0 : State} {x0 : State} (hm : Sub 0x70303d40046aa1a m) (h0 : Frame m s0 x0) :
    Frame m s0 (State.reshapeAll x0) := by
  unfold State.reshapeAll
  refine Frame.foldl ?_ ?_
  · intro y0 y1 g0
    exact State.reshape_frame (hm.of rfl) g0
  · exact h0

theorem State.swtrig_frame {m : Nat} {s0 : State} {x0 : State} {x1 : Nat} (hm : Sub 0x70303d40046aa1a m) (h0 : Frame m s0 x0) :
    Frame m s0 (State.swtrig x0 x1) := by
  unfold State.swtrig
  refine State.when_frame (hm.of rfl) ?_ ?_
  · intro y0 g0
    exact State.channelRise_frame (hm.of rfl) g0
  · exact h0

end Sys2Proof.Machine
end

