-- ==== Sys2Proof/Laws/FrameUnits.lean ====
section
/-!
SUPPORT. The frames of the blocks: time, supply, CAN, radio PHY, control, tooth tracker, memories. `Sub k m` says that the parts in `k` may change; `Allows` says it of a field given by the caller.
-/

namespace Sys2Proof.Machine

/-! ### Machine/Ntu -/

theorem State.aheadTarget_frame {m : Nat} {s0 : State} {x0 : State} {x1 : Nat} (hm : Sub 0x2000000020000 m) (h0 : Frame m s0 x0) :
    Frame m s0 (State.aheadTarget x0 x1) := by
  unfold State.aheadTarget
  extract_lets +onlyGivenNames -underBinder -merge y0
  try clear_value y0
  extract_lets +onlyGivenNames -underBinder -merge y1
  have g1 : Frame m s0 y1 := by
    exact State.put_frame (hm.of rfl) (Allows.page (p := 17) rfl (hm.of rfl)) (State.put_frame (hm.of rfl) (Allows.page (p := 17) rfl (hm.of rfl)) h0)
  try clear_value y1
  exact Frame.ntu (hm.of rfl) (fun i => by first | exact i.ns | exact Nat.mod_lt _ (by decide) | exact (by decide : 0 < nsPerSec)) g1

theorem State.compareEvent_frame {m : Nat} {s0 : State} {x0 : State} {x1 : Nat} (hm : Sub 0x70303d40046aa1a m) (h0 : Frame m s0 x0) :
    Frame m s0 (State.compareEvent x0 x1) := by
  unfold State.compareEvent
  extract_lets +onlyGivenNames -underBinder -merge y0
  have g0 : Frame m s0 y0 := by
    exact State.raise_frame (hm.of rfl) (Allows.page (p := 17) rfl (hm.of rfl)) h0
  try clear_value y0
  extract_lets +onlyGivenNames -underBinder -merge y1
  have g1 : Frame m s0 y1 := by
    refine State.when_frame (hm.of rfl) ?_ ?_
    · intro y2 g2
      exact State.raise_frame (hm.of rfl) (Allows.page (p := 17) rfl (hm.of rfl)) g2
    · exact g0
  try clear_value y1
  extract_lets +onlyGivenNames -underBinder -merge y3
  have g3 : Frame m s0 y3 := by
    refine State.when_frame (hm.of rfl) ?_ ?_
    · intro y4 g4
      exact State.wake_frame (hm.of rfl) g4
    · exact g1
  try clear_value y3
  exact State.fire_frame (hm.of rfl) g3

theorem State.fireOnce_frame {m : Nat} {s0 : State} {x0 : State} {x1 : Nat} (hm : Sub 0x70303d40046aa1a m) (h0 : Frame m s0 x0) :
    Frame m s0 (State.fireOnce x0 x1) := by
  unfold State.fireOnce
  extract_lets +onlyGivenNames -underBinder -merge y0
  try clear_value y0
  extract_lets +onlyGivenNames -underBinder -merge y1
  have g1 : Frame m s0 y1 := by
    refine Frame.ite (fun _ => ?_) (fun _ => ?_)
    · exact State.clear_frame (hm.of rfl) (Allows.page (p := 17) rfl (hm.of rfl)) h0
    · exact State.put_frame (hm.of rfl) (Allows.page (p := 17) rfl (hm.of rfl)) h0
  try clear_value y1
  exact State.compareEvent_frame (hm.of rfl) g1

theorem State.fireRelative_frame {m : Nat} {s0 : State} {x0 : State} {x1 : Nat} (hm : Sub 0x70303d40046aa1a m) (h0 : Frame m s0 x0) :
    Frame m s0 (State.fireRelative x0 x1) := by
  unfold State.fireRelative
  extract_lets +onlyGivenNames -underBinder -merge y0
  try clear_value y0
  extract_lets +onlyGivenNames -underBinder -merge y1
  try clear_value y1
  refine Frame.foldl ?_ ?_
  · intro y2 y3 g2
    exact State.fireOnce_frame (hm.of rfl) g2
  · exact h0

theorem State.judgeRelative_frame {m : Nat} {s0 : State} {x0 : State} {x1 : Nat} (hm : Sub 0x70303d40046aa1a m) (h0 : Frame m s0 x0) :
    Frame m s0 (State.judgeRelative x0 x1) := by
  unfold State.judgeRelative
  refine Frame.ite (fun _ => ?_) (fun _ => ?_)
  · exact State.fireRelative_frame (hm.of rfl) h0
  · exact h0

theorem State.plainTarget_frame {m : Nat} {s0 : State} {x0 : State} {x1 : Nat} (hm : Sub 0x20000 m) (h0 : Frame m s0 x0) :
    Frame m s0 (State.plainTarget x0 x1) := by
  unfold State.plainTarget
  refine Frame.ite (fun _ => ?_) (fun _ => ?_)
  · exact h0
  · exact Frame.ntu (hm.of rfl) (fun i => by first | exact i.ns | exact Nat.mod_lt _ (by decide) | exact (by decide : 0 < nsPerSec)) h0

theorem State.fireAbsolute_frame {m : Nat} {s0 : State} {x0 : State} {x1 : Nat} (hm : Sub 0x70303d40046aa1a m) (h0 : Frame m s0 x0) :
    Frame m s0 (State.fireAbsolute x0 x1) := by
  unfold State.fireAbsolute
  exact State.compareEvent_frame (hm.of rfl) (State.clear_frame (hm.of rfl) (Allows.page (p := 17) rfl (hm.of rfl)) h0)

theorem State.judgeAbsolute_frame {m : Nat} {s0 : State} {x0 : State} {x1 x2 : Nat} (hm : Sub 0x70303d40046aa1a m) (h0 : Frame m s0 x0) :
    Frame m s0 (State.judgeAbsolute x0 x1 x2) := by
  unfold State.judgeAbsolute
  refine Frame.ite (fun _ => ?_) (fun _ => ?_)
  · exact State.fireAbsolute_frame (hm.of rfl) h0
  · exact h0

theorem State.armCompare_frame {m : Nat} {s0 : State} {x0 : State} {x1 : Nat} (hm : Sub 0x70303d40046aa1a m) (h0 : Frame m s0 x0) :
    Frame m s0 (State.armCompare x0 x1) := by
  unfold State.armCompare
  split
  · exact State.judgeRelative_frame (hm.of rfl) (State.raise_frame (hm.of rfl) (Allows.page (p := 17) rfl (hm.of rfl)) h0)
  · extract_lets +onlyGivenNames -underBinder -merge y0
    have g0 : Frame m s0 y0 := by
      refine Frame.ite (fun _ => ?_) (fun _ => ?_)
      · exact State.aheadTarget_frame (hm.of rfl) h0
      · exact State.plainTarget_frame (hm.of rfl) h0
    try clear_value y0
    exact State.judgeAbsolute_frame (hm.of rfl) (State.raise_frame (hm.of rfl) (Allows.page (p := 17) rfl (hm.of rfl)) g0)
  · exact h0

theorem State.captureEdge_frame {m : Nat} {s0 : State} {x0 : State} {x1 : Nat} {x2 : Bool} (hm : Sub 0x2000000000000 m) (h0 : Frame m s0 x0) :
    Frame m s0 (State.captureEdge x0 x1 x2) := by
  unfold State.captureEdge
  split
  · refine State.when_frame (hm.of rfl) ?_ ?_
    · intro y0 g0
      exact State.capture_frame (hm.of rfl) g0
    · exact h0
  · refine State.when_frame (hm.of rfl) ?_ ?_
    · intro y1 g1
      exact State.capture_frame (hm.of rfl) g1
    · exact h0
  · exact State.capture_frame (hm.of rfl) h0
  · exact State.capture_frame (hm.of rfl) h0
  · exact State.capture_frame (hm.of rfl) h0
  · exact h0

theorem State.captureInput_frame {m : Nat} {s0 : State} {x0 : State} {x1 : Nat} (hm : Sub 0x2000000000000 m) (h0 : Frame m s0 x0) :
    Frame m s0 (State.captureInput x0 x1) := by
  unfold State.captureInput
  refine Frame.foldl ?_ ?_
  · intro y0 y1 g0
    refine State.when_frame (hm.of rfl) ?_ ?_
    · intro y2 g2
      exact State.capture_frame (hm.of rfl) g2
    · exact g0
  · exact h0

theorem State.captureInputAt_frame {m : Nat} {s0 : State} {x0 : State} {x1 x2 : Nat} (hm : Sub 0x2000000020000 m) (h0 : Frame m s0 x0) :
    Frame m s0 (State.captureInputAt x0 x1 x2) := by
  unfold State.captureInputAt
  extract_lets +onlyGivenNames -underBinder -merge y0
  extract_lets +onlyGivenNames -underBinder -merge y1
  extract_lets +onlyGivenNames -underBinder -merge y2
  have g2 : Frame m s0 y2 := State.captureInput_frame (hm.of rfl) (Frame.ntu (hm.of rfl) (fun _ => Nat.mod_lt _ (by decide)) h0)
  try clear_value y2
  exact ⟨(Frame.ntu0 (hm.of rfl) g2).1, fun i => ⟨(g2.2 i).mem, (g2.2 i).fifo, (g2.2 i).posts, (h0.2 i).ns⟩⟩

theorem State.forgetTarget_frame {m : Nat} {s0 : State} {x0 : State} {x1 : Nat} (hm : Sub 0x20000 m) (h0 : Frame m s0 x0) :
    Frame m s0 (State.forgetTarget x0 x1) := by
  unfold State.forgetTarget
  exact Frame.ntu (hm.of rfl) (fun i => by first | exact i.ns | exact Nat.mod_lt _ (by decide) | exact (by decide : 0 < nsPerSec)) h0

theorem State.channelReset_frame {m : Nat} {s0 : State} {x0 : State} {x1 : Nat} (hm : Sub 0x2000000020000 m) (h0 : Frame m s0 x0) :
    Frame m s0 (State.channelReset x0 x1) := by
  unfold State.channelReset
  extract_lets +onlyGivenNames -underBinder -merge y0
  have g0 : Frame m s0 y0 := by
    refine State.clear_frame (hm.of rfl) (Allows.page (p := 17) rfl (hm.of rfl)) ?_
    exact State.clear_frame (hm.of rfl) (Allows.page (p := 17) rfl (hm.of rfl)) (State.forgetTarget_frame (hm.of rfl) h0)
  try clear_value y0
  refine State.put_frame (hm.of rfl) (Allows.page (p := 17) rfl (hm.of rfl)) ?_
  refine State.put_frame (hm.of rfl) (Allows.page (p := 17) rfl (hm.of rfl)) ?_
  exact State.put_frame (hm.of rfl) (Allows.page (p := 17) rfl (hm.of rfl)) (State.clear_frame (hm.of rfl) (Allows.page (p := 17) rfl (hm.of rfl)) g0)

theorem State.countMtime_frame {m : Nat} {s0 : State} {x0 : State} {x1 : Nat} (hm : Sub 0x20000 m) (h0 : Frame m s0 x0) :
    Frame m s0 (State.countMtime x0 x1) := by
  unfold State.countMtime
  extract_lets +onlyGivenNames -underBinder -merge y0
  try clear_value y0
  exact Frame.ntu (hm.of rfl) (fun i => by first | exact i.ns | exact Nat.mod_lt _ (by decide) | exact (by decide : 0 < nsPerSec)) h0

theorem State.timeIs_frame {m : Nat} {s0 : State} {x0 : State} {x1 x2 : Nat} {x3 : Bool} (hm : Sub 0x20000 m) (h0 : Frame m s0 x0) :
    Frame m s0 (State.timeIs x0 x1 x2 x3) := by
  unfold State.timeIs
  extract_lets +onlyGivenNames -underBinder -merge y0
  try clear_value y0
  exact Frame.ntu (hm.of rfl) (fun i => by first | exact i.ns | exact Nat.mod_lt _ (by decide) | exact (by decide : 0 < nsPerSec)) h0

theorem State.countTime_frame {m : Nat} {s0 : State} {x0 : State} (hm : Sub 0x20000 m) (h0 : Frame m s0 x0) : Frame m s0 (State.countTime x0) := by
  unfold State.countTime
  extract_lets +onlyGivenNames -underBinder -merge y0
  try clear_value y0
  exact State.timeIs_frame (hm.of rfl) h0

theorem State.discardCapture_frame {m : Nat} {s0 : State} {x0 : State} {x1 : Nat} (hm : Sub 0x2000000000000 m) (h0 : Frame m s0 x0) :
    Frame m s0 (State.discardCapture x0 x1) := by
  unfold State.discardCapture
  refine Frame.ite (fun _ => ?_) (fun _ => ?_)
  · refine State.put_frame (hm.of rfl) (Allows.page (p := 17) rfl (hm.of rfl)) ?_
    refine State.put_frame (hm.of rfl) (Allows.page (p := 17) rfl (hm.of rfl)) ?_
    refine State.put_frame (hm.of rfl) (Allows.page (p := 17) rfl (hm.of rfl)) ?_
    exact State.clear_frame (hm.of rfl) (Allows.page (p := 17) rfl (hm.of rfl)) h0
  · exact h0

theorem State.dropSync_frame {m : Nat} {s0 : State} {x0 : State} {x1 : Nat} (hm : Sub 0x20000 m) (h0 : Frame m s0 x0) :
    Frame m s0 (State.dropSync x0 x1) := by
  unfold State.dropSync
  split
  · refine Frame.ite (fun _ => ?_) (fun _ => ?_)
    · exact Frame.ntu (hm.of rfl) (fun i => by first | exact i.ns | exact Nat.mod_lt _ (by decide) | exact (by decide : 0 < nsPerSec)) h0
    · exact h0
  · exact h0

theorem State.followUpSeen_frame {m : Nat} {s0 : State} {x0 : State} {x1 : Nat} {x2 : Bool} {x3 : List Nat}
    (hm : Sub 0x20002 m) (h0 : Frame m s0 x0) : Frame m s0 (State.followUpSeen x0 x1 x2 x3) := by
  unfold State.followUpSeen
  split
  · exact h0
  · extract_lets +onlyGivenNames -underBinder -merge y0
    try clear_value y0
    extract_lets +onlyGivenNames -underBinder -merge y1
    try clear_value y1
    extract_lets +onlyGivenNames -underBinder -merge y2
    try clear_value y2
    extract_lets +onlyGivenNames -underBinder -merge y3
    have g3 : Frame m s0 y3.2 := by
      exact State.freeBool_frame (hm.of rfl) h0
    try clear_value y3
    extract_lets +onlyGivenNames -underBinder -merge y4
    try clear_value y4
    extract_lets +onlyGivenNames -underBinder -merge y5
    have g5 : Frame m s0 y5 := by
      refine Frame.ite (fun _ => ?_) (fun _ => ?_)
      · exact h0
      · exact g3
    try clear_value y5
    refine Frame.ite (fun _ => ?_) (fun _ => ?_)
    · exact Frame.ntu (hm.of rfl) (fun i => by first | exact i.ns | exact Nat.mod_lt _ (by decide) | exact (by decide : 0 < nsPerSec)) g5
    · exact g5

theorem State.judgeTick_frame {m : Nat} {s0 : State} {x0 : State} {x1 : Nat} (hm : Sub 0x70303d40046aa1a m) (h0 : Frame m s0 x0) :
    Frame m s0 (State.judgeTick x0 x1) := by
  unfold State.judgeTick
  refine Frame.ite (fun _ => ?_) (fun _ => ?_)
  · exact h0
  · exact State.judgeAbsolute_frame (hm.of rfl) h0

theorem State.latchTime_frame {m : Nat} {s0 : State} {x0 : State} {x1 : Nat} (hm : Sub 0x20000 m) (h0 : Frame m s0 x0) :
    Frame m s0 (State.latchTime x0 x1) := by
  unfold State.latchTime
  exact Frame.ntu (hm.of rfl) (fun i => by first | exact i.ns | exact Nat.mod_lt _ (by decide) | exact (by decide : 0 < nsPerSec)) h0

theorem State.modeChanged_frame {m : Nat} {s0 : State} {x0 : State} {x1 : Nat} (hm : Sub 0x2000000020000 m) (h0 : Frame m s0 x0) :
    Frame m s0 (State.modeChanged x0 x1) := by
  unfold State.modeChanged
  refine State.discardCapture_frame (hm.of rfl) ?_
  exact State.clear_frame (hm.of rfl) (Allows.page (p := 17) rfl (hm.of rfl)) (State.forgetTarget_frame (hm.of rfl) h0)

theorem State.noteMaster_frame {m : Nat} {s0 : State} {x0 : State} {x1 : Nat} (hm : Sub 0x2000000020000 m) (h0 : Frame m s0 x0) :
    Frame m s0 (State.noteMaster x0 x1) := by
  unfold State.noteMaster
  extract_lets +onlyGivenNames -underBinder -merge y0
  try clear_value y0
  extract_lets +onlyGivenNames -underBinder -merge y1
  have g1 : Frame m s0 y1 := by
    refine State.when_frame (hm.of rfl) ?_ ?_
    · intro y2 g2
      refine State.put_frame (hm.of rfl) (Allows.page (p := 17) rfl (hm.of rfl)) ?_
      exact State.raise_frame (hm.of rfl) (Allows.page (p := 17) rfl (hm.of rfl)) g2
    · exact h0
  try clear_value y1
  exact Frame.ntu (hm.of rfl) (fun i => by first | exact i.ns | exact Nat.mod_lt _ (by decide) | exact (by decide : 0 < nsPerSec)) g1

theorem State.stepTo_frame {m : Nat} {s0 : State} {x0 : State} {x1 : Int} (hm : Sub 0x220010 m) (h0 : Frame m s0 x0) :
    Frame m s0 (State.stepTo x0 x1) := by
  unfold State.stepTo
  extract_lets +onlyGivenNames -underBinder -merge y0
  try clear_value y0
  extract_lets +onlyGivenNames -underBinder -merge y1
  have g1 : Frame m s0 y1 := by
    exact State.timeIs_frame (hm.of rfl) h0
  try clear_value y1
  exact Frame.power_ntu_link (hm.of rfl) (fun i => by first | exact i.ns | exact Nat.mod_lt _ (by decide) | exact (by decide : 0 < nsPerSec)) g1

theorem State.servoJudge_frame {m : Nat} {s0 : State} {x0 : State} {x1 : Nat} {x2 : Int} (hm : Sub 0x2000000220010 m) (h0 : Frame m s0 x0) :
    Frame m s0 (State.servoJudge x0 x1 x2) := by
  unfold State.servoJudge
  refine Frame.ite (fun _ => ?_) (fun _ => ?_)
  · refine State.clear_frame (hm.of rfl) (Allows.page (p := 17) rfl (hm.of rfl)) ?_
    refine State.raise_frame (hm.of rfl) (Allows.page (p := 17) rfl (hm.of rfl)) ?_
    exact State.clear_frame (hm.of rfl) (Allows.page (p := 17) rfl (hm.of rfl)) (State.stepTo_frame (hm.of rfl) h0)
  · refine Frame.ite (fun _ => ?_) (fun _ => ?_)
    · extract_lets +onlyGivenNames -underBinder -merge y0
      have g0 : Frame m s0 y0 := by
        refine State.put_frame (hm.of rfl) (Allows.page (p := 17) rfl (hm.of rfl)) ?_
        exact State.put_frame (hm.of rfl) (Allows.page (p := 17) rfl (hm.of rfl)) h0
      try clear_value y0
      refine State.raise_frame (hm.of rfl) (Allows.page (p := 17) rfl (hm.of rfl)) ?_
      exact State.put_frame (hm.of rfl) (Allows.page (p := 17) rfl (hm.of rfl)) g0
    · refine Frame.ite (fun _ => ?_) (fun _ => ?_)
      · exact h0
      · extract_lets +onlyGivenNames -underBinder -merge y1
        try clear_value y1
        extract_lets +onlyGivenNames -underBinder -merge y2
        try clear_value y2
        extract_lets +onlyGivenNames -underBinder -merge y3
        extract_lets +onlyGivenNames -underBinder -merge y4
        have g4 : Frame m s0 y4 := by
          exact Frame.ntu (hm.of rfl) (fun i => by first | exact i.ns | exact Nat.mod_lt _ (by decide) | exact (by decide : 0 < nsPerSec)) h0
        try clear_value y4
        refine State.clear_frame (hm.of rfl) (Allows.page (p := 17) rfl (hm.of rfl)) ?_
        exact State.raise_frame (hm.of rfl) (Allows.page (p := 17) rfl (hm.of rfl)) g4

theorem State.servoSample_frame {m : Nat} {s0 : State} {x0 : State} {x1 : Nat} {x2 : Int} {x3 : Nat}
    (hm : Sub 0x2000000220010 m) (h0 : Frame m s0 x0) : Frame m s0 (State.servoSample x0 x1 x2 x3) := by
  unfold State.servoSample
  refine Frame.ite (fun _ => ?_) (fun _ => ?_)
  · exact State.servoJudge_frame (hm.of rfl) (State.noteMaster_frame (hm.of rfl) h0)
  · exact h0

theorem State.pairSync_frame {m : Nat} {s0 : State} {x0 : State} {x1 : Nat} (hm : Sub 0xe000000220010 m) (h0 : Frame m s0 x0) :
    Frame m s0 (State.pairSync x0 x1) := by
  unfold State.pairSync
  split
  · extract_lets +onlyGivenNames -underBinder -merge y0
    extract_lets +onlyGivenNames -underBinder -merge y1
    have g1 : Frame m s0 y1 := by
      exact Frame.ntu (hm.of rfl) (fun i => by first | exact i.ns | exact Nat.mod_lt _ (by decide) | exact (by decide : 0 < nsPerSec)) h0
    try clear_value y1
    extract_lets +onlyGivenNames -underBinder -merge y2
    have g2 : Frame m s0 y2 := by
      exact State.raise_frame (hm.of rfl) (Allows.can rfl (hm.of rfl)) g1
    try clear_value y2
    refine Frame.ite (fun _ => ?_) (fun _ => ?_)
    · exact g2
    · exact State.servoSample_frame (hm.of rfl) g2
  · exact h0

theorem State.ppsOffset_frame {m : Nat} {s0 : State} {x0 : State} (hm : Sub 0x2 m) (h0 : Frame m s0 x0) : Frame m s0 (State.ppsOffset x0).2 := by
  unfold State.ppsOffset
  refine Frame.ite2 (fun _ => ?_) (fun _ => ?_)
  · exact Frame.snd h0
  · refine Frame.ite2 (fun _ => ?_) (fun _ => ?_)
    · exact Frame.snd h0
    · extract_lets +onlyGivenNames -underBinder -merge y0
      have g0 : Frame m s0 y0.2 := by
        exact State.freeBool_frame (hm.of rfl) h0
      try clear_value y0
      exact Frame.snd g0

theorem State.ppsEdge_frame {m : Nat} {s0 : State} {x0 : State} (hm : Sub 0x2000000220012 m) (h0 : Frame m s0 x0) :
    Frame m s0 (State.ppsEdge x0) := by
  unfold State.ppsEdge
  refine Frame.ite (fun _ => ?_) (fun _ => ?_)
  · extract_lets +onlyGivenNames -underBinder -merge y0
    have g0 : Frame m s0 y0.2 := by
      exact State.ppsOffset_frame (hm.of rfl) h0
    try clear_value y0
    exact State.servoSample_frame (hm.of rfl) g0
  · exact h0

theorem State.ppsRise_frame {m : Nat} {s0 : State} {x0 : State} (hm : Sub 0x20000 m) (h0 : Frame m s0 x0) : Frame m s0 (State.ppsRise x0) := by
  unfold State.ppsRise
  extract_lets +onlyGivenNames -underBinder -merge y0
  extract_lets +onlyGivenNames -underBinder -merge y1
  have g1 : Frame m s0 y1 := by
    exact Frame.ntu (hm.of rfl) (fun i => by first | exact i.ns | exact Nat.mod_lt _ (by decide) | exact (by decide : 0 < nsPerSec)) h0
  try clear_value y1
  refine Frame.ite (fun _ => ?_) (fun _ => ?_)
  · exact Frame.ntu (hm.of rfl) (fun i => by first | exact i.ns | exact Nat.mod_lt _ (by decide) | exact (by decide : 0 < nsPerSec)) g1
  · exact g1

theorem State.servoWritten_frame {m : Nat} {s0 : State} {x0 : State} {x1 : Bool} (hm : Sub 0x2000000020000 m) (h0 : Frame m s0 x0) :
    Frame m s0 (State.servoWritten x0 x1) := by
  unfold State.servoWritten
  extract_lets +onlyGivenNames -underBinder -merge y0
  extract_lets +onlyGivenNames -underBinder -merge y1
  have g1 : Frame m s0 y1 := by
    exact Frame.ntu (hm.of rfl) (fun i => by first | exact i.ns | exact Nat.mod_lt _ (by decide) | exact (by decide : 0 < nsPerSec)) h0
  try clear_value y1
  extract_lets +onlyGivenNames -underBinder -merge y2
  have g2 : Frame m s0 y2 := by
    refine State.when_frame (hm.of rfl) ?_ ?_
    · intro y3 g3
      exact Frame.ntu (hm.of rfl) (fun i => by first | exact i.ns | exact Nat.mod_lt _ (by decide) | exact (by decide : 0 < nsPerSec)) g3
    · exact g1
  try clear_value y2
  refine State.when_frame (hm.of rfl) ?_ ?_
  · intro y4 g4
    exact State.clear_frame (hm.of rfl) (Allows.page (p := 17) rfl (hm.of rfl)) g4
  · exact g2

theorem State.setTime_frame {m : Nat} {s0 : State} {x0 : State} (hm : Sub 0x2000000220010 m) (h0 : Frame m s0 x0) :
    Frame m s0 (State.setTime x0) := by
  unfold State.setTime
  extract_lets +onlyGivenNames -underBinder -merge y0
  try clear_value y0
  refine State.raise_frame (hm.of rfl) (Allows.page (p := 17) rfl (hm.of rfl)) ?_
  refine State.stepTo_frame (hm.of rfl) ?_
  exact Frame.ntu (hm.of rfl) (fun i => by first | exact i.ns | exact Nat.mod_lt _ (by decide) | exact (by decide : 0 < nsPerSec)) h0

theorem State.syncSeen_frame {m : Nat} {s0 : State} {x0 : State} {x1 x2 x3 x4 : Nat} (hm : Sub 0x20000 m) (h0 : Frame m s0 x0) :
    Frame m s0 (State.syncSeen x0 x1 x2 x3 x4) := by
  unfold State.syncSeen
  exact Frame.ntu (hm.of rfl) (fun i => by first | exact i.ns | exact Nat.mod_lt _ (by decide) | exact (by decide : 0 < nsPerSec)) h0

theorem State.targetWritten_frame {m : Nat} {s0 : State} {x0 : State} {x1 : Nat} (hm : Sub 0x20000 m) (h0 : Frame m s0 x0) :
    Frame m s0 (State.targetWritten x0 x1) := by
  unfold State.targetWritten
  exact Frame.ntu (hm.of rfl) (fun i => by first | exact i.ns | exact Nat.mod_lt _ (by decide) | exact (by decide : 0 < nsPerSec)) h0

/-! ### Machine/Supply -/

theorem State.tryMppt_frame {m : Nat} {s0 : State} {x0 : State} (hm : Sub 0x8 m) (h0 : Frame m s0 x0) : Frame m s0 (State.tryMppt x0) := by
  unfold State.tryMppt
  refine Frame.ite (fun _ => ?_) (fun _ => ?_)
  · exact Frame.supply (hm.of rfl) h0
  · exact h0

theorem State.bgStep_frame {m : Nat} {s0 : State} {x0 : State} (hm : Sub 0x200000000000008 m) (h0 : Frame m s0 x0) :
    Frame m s0 (State.bgStep x0) := by
  unfold State.bgStep
  refine Frame.ite (fun _ => ?_) (fun _ => ?_)
  · exact State.tryMppt_frame (hm.of rfl) h0
  · exact State.put_frame (hm.of rfl) (Allows.page (p := 25) rfl (hm.of rfl)) h0

theorem State.judgePgood_frame {m : Nat} {s0 : State} {x0 : State} (hm : Sub 0x1c00028810 m) (h0 : Frame m s0 x0) :
    Frame m s0 (State.judgePgood x0) := by
  unfold State.judgePgood
  refine Frame.ite (fun _ => ?_) (fun _ => ?_)
  · refine State.wake_frame (hm.of rfl) ?_
    exact State.raise_frame (hm.of rfl) (Allows.page (p := 3) rfl (hm.of rfl)) (State.put_frame (hm.of rfl) (Allows.page (p := 3) rfl (hm.of rfl)) h0)
  · refine Frame.ite (fun _ => ?_) (fun _ => ?_)
    · refine State.raise_frame (hm.of rfl) (Allows.page (p := 3) rfl (hm.of rfl)) ?_
      exact State.put_frame (hm.of rfl) (Allows.page (p := 3) rfl (hm.of rfl)) h0
    · exact h0

theorem State.changeSource_frame {m : Nat} {s0 : State} {x0 : State} (hm : Sub 0x1c00028810 m) (h0 : Frame m s0 x0) :
    Frame m s0 (State.changeSource x0) := by
  unfold State.changeSource
  refine Frame.ite (fun _ => ?_) (fun _ => ?_)
  · exact h0
  · refine State.judgePgood_frame (hm.of rfl) ?_
    exact State.raise_frame (hm.of rfl) (Allows.page (p := 3) rfl (hm.of rfl)) (State.put_frame (hm.of rfl) (Allows.page (p := 3) rfl (hm.of rfl)) h0)

theorem State.dropMppt_frame {m : Nat} {s0 : State} {x0 : State} (hm : Sub 0x8 m) (h0 : Frame m s0 x0) : Frame m s0 (State.dropMppt x0) := by
  unfold State.dropMppt
  exact Frame.supply (hm.of rfl) h0

theorem State.exitOff_frame {m : Nat} {s0 : State} {x0 : State} (hm : Sub 0x20 m) (h0 : Frame m s0 x0) : Frame m s0 (State.exitOff x0) := by
  unfold State.exitOff
  refine Frame.ite (fun _ => ?_) (fun _ => ?_)
  · exact h0
  · exact Frame.rst (hm.of rfl) h0

theorem State.gaugeCount_frame {m : Nat} {s0 : State} {x0 : State} {x1 : GaugeCount} (hm : Sub 0x800000008 m) (h0 : Frame m s0 x0) :
    Frame m s0 (State.gaugeCount x0 x1) := by
  unfold State.gaugeCount
  refine Frame.ite (fun _ => ?_) (fun _ => ?_)
  · exact h0
  · extract_lets +onlyGivenNames -underBinder -merge y0
    try clear_value y0
    extract_lets +onlyGivenNames -underBinder -merge y1
    have g1 : Frame m s0 y1 := by
      refine State.when_frame (hm.of rfl) ?_ ?_
      · intro y2 g2
        exact State.put_frame (hm.of rfl) (Allows.page (p := 3) rfl (hm.of rfl)) g2
      · exact h0
    try clear_value y1
    exact Frame.supply (hm.of rfl) g1

theorem State.takeReference_frame {m : Nat} {s0 : State} {x0 : State} {x1 : Nat} (hm : Sub 0x800000008 m) (h0 : Frame m s0 x0) :
    Frame m s0 (State.takeReference x0 x1) := by
  unfold State.takeReference
  extract_lets +onlyGivenNames -underBinder -merge y0
  have g0 : Frame m s0 y0 := by
    exact State.put_frame (hm.of rfl) (Allows.page (p := 3) rfl (hm.of rfl)) (State.put_frame (hm.of rfl) (Allows.page (p := 3) rfl (hm.of rfl)) h0)
  try clear_value y0
  extract_lets +onlyGivenNames -underBinder -merge y1
  extract_lets +onlyGivenNames -underBinder -merge y2
  have g2 : Frame m s0 y2 := by
    exact Frame.supply (hm.of rfl) g0
  try clear_value y2
  extract_lets +onlyGivenNames -underBinder -merge y3
  try clear_value y3
  extract_lets +onlyGivenNames -underBinder -merge y4
  extract_lets +onlyGivenNames -underBinder -merge y5
  have g5 : Frame m s0 y5 := by
    exact Frame.supply (hm.of rfl) g2
  try clear_value y5
  exact State.raise_frame (hm.of rfl) (Allows.page (p := 3) rfl (hm.of rfl)) g5

theorem State.gaugeSampled_frame {m : Nat} {s0 : State} {x0 : State} {x1 : Nat} (hm : Sub 0x200000800000008 m) (h0 : Frame m s0 x0) :
    Frame m s0 (State.gaugeSampled x0 x1) := by
  unfold State.gaugeSampled
  refine State.bgStep_frame (hm.of rfl) ?_
  refine Frame.ite (fun _ => ?_) (fun _ => ?_)
  · exact State.takeReference_frame (hm.of rfl) h0
  · exact Frame.supply (hm.of rfl) h0

theorem State.judgeRails_frame {m : Nat} {s0 : State} {x0 : State} (hm : Sub 0x800000000 m) (h0 : Frame m s0 x0) :
    Frame m s0 (State.judgeRails x0) := by
  unfold State.judgeRails
  extract_lets +onlyGivenNames -underBinder -merge y0
  have g0 : Frame m s0 y0 := by
    refine State.when_frame (hm.of rfl) ?_ ?_
    · intro y1 g1
      exact State.put_frame (hm.of rfl) (Allows.page (p := 3) rfl (hm.of rfl)) g1
    · exact h0
  try clear_value y0
  refine State.when_frame (hm.of rfl) ?_ ?_
  · intro y2 g2
    exact State.put_frame (hm.of rfl) (Allows.page (p := 3) rfl (hm.of rfl)) g2
  · exact g0

theorem State.judgeUnc_frame {m : Nat} {s0 : State} {x0 : State} (hm : Sub 0x800000008 m) (h0 : Frame m s0 x0) : Frame m s0 (State.judgeUnc x0) := by
  unfold State.judgeUnc
  extract_lets +onlyGivenNames -underBinder -merge y0
  try clear_value y0
  extract_lets +onlyGivenNames -underBinder -merge y1
  try clear_value y1
  extract_lets +onlyGivenNames -underBinder -merge y2
  extract_lets +onlyGivenNames -underBinder -merge y3
  have g3 : Frame m s0 y3 := by
    exact Frame.supply (hm.of rfl) h0
  try clear_value y3
  refine State.when_frame (hm.of rfl) ?_ ?_
  · intro y4 g4
    exact State.raise_frame (hm.of rfl) (Allows.page (p := 3) rfl (hm.of rfl)) g4
  · exact g3

theorem State.latchGauge_frame {m : Nat} {s0 : State} {x0 : State} (hm : Sub 0x800000000 m) (h0 : Frame m s0 x0) :
    Frame m s0 (State.latchGauge x0) := by
  unfold State.latchGauge
  refine State.put_frame (hm.of rfl) (Allows.page (p := 3) rfl (hm.of rfl)) ?_
  refine State.put_frame (hm.of rfl) (Allows.page (p := 3) rfl (hm.of rfl)) ?_
  exact State.put_frame (hm.of rfl) (Allows.page (p := 3) rfl (hm.of rfl)) (State.put_frame (hm.of rfl) (Allows.page (p := 3) rfl (hm.of rfl)) h0)

theorem State.setComp_frame {m : Nat} {s0 : State} {x0 : State} {x1 : Bool} (hm : Sub 0x1c00028818 m) (h0 : Frame m s0 x0) :
    Frame m s0 (State.setComp x0 x1) := by
  unfold State.setComp
  exact State.judgePgood_frame (hm.of rfl) (Frame.supply (hm.of rfl) h0)

theorem State.suppliedPgood_frame {m : Nat} {s0 : State} {x0 : State} (hm : Sub 0x800000000 m) (h0 : Frame m s0 x0) :
    Frame m s0 (State.suppliedPgood x0) := by
  unfold State.suppliedPgood
  exact State.putB_frame (hm.of rfl) (Allows.page (p := 3) rfl (hm.of rfl)) h0

theorem State.supplyWrote_frame {m : Nat} {s0 : State} {x0 : State} {x1 : Nat} {x2 : State} (hm : Sub 0x200000800000008 m) (h0 : Frame m s0 x0) :
    Frame m s0 (State.supplyWrote x0 x1 x2) := by
  unfold State.supplyWrote
  refine Frame.ite (fun _ => ?_) (fun _ => ?_)
  · refine Frame.ite (fun _ => ?_) (fun _ => ?_)
    · exact h0
    · refine State.raise_frame (hm.of rfl) (Allows.page (p := 3) rfl (hm.of rfl)) ?_
      exact State.put_frame (hm.of rfl) (Allows.page (p := 3) rfl (hm.of rfl)) (State.put_frame (hm.of rfl) (Allows.page (p := 3) rfl (hm.of rfl)) h0)
  · refine Frame.ite (fun _ => ?_) (fun _ => ?_)
    · exact State.judgeRails_frame (hm.of rfl) h0
    · refine Frame.ite (fun _ => ?_) (fun _ => ?_)
      · refine Frame.ite (fun _ => ?_) (fun _ => ?_)
        · exact h0
        · exact State.bgStep_frame (hm.of rfl) (Frame.supply (hm.of rfl) h0)
      · refine Frame.ite (fun _ => ?_) (fun _ => ?_)
        · refine State.when_frame (hm.of rfl) ?_ ?_
          · intro y0 g0
            exact Frame.supply (hm.of rfl) g0
          · exact h0
        · refine Frame.ite (fun _ => ?_) (fun _ => ?_)
          · exact State.judgeUnc_frame (hm.of rfl) h0
          · exact h0

theorem State.takeVoc_frame {m : Nat} {s0 : State} {x0 : State} {x1 : Nat} (hm : Sub 0x8 m) (h0 : Frame m s0 x0) :
    Frame m s0 (State.takeVoc x0 x1) := by
  unfold State.takeVoc
  extract_lets +onlyGivenNames -underBinder -merge y0
  try clear_value y0
  exact Frame.supply (hm.of rfl) h0

theorem State.vbatReturn_frame {m : Nat} {s0 : State} {x0 : State} (hm : Sub 0x20 m) (h0 : Frame m s0 x0) : Frame m s0 (State.vbatReturn x0) := by
  unfold State.vbatReturn
  refine Frame.ite (fun _ => ?_) (fun _ => ?_)
  · exact h0
  · exact Frame.rst (hm.of rfl) h0

/-! ### Machine/Trx -/

theorem State.trxWake_frame {m : Nat} {s0 : State} {x0 : State} {x1 : Fld} {x2 : Nat}
    (hm : Sub 0x100014000a8830 m) (a1 : Allows m x1) (h0 : Frame m s0 x0) : Frame m s0 (State.trxWake x0 x1 x2) := by
  unfold State.trxWake
  extract_lets +onlyGivenNames -underBinder -merge y0
  try clear_value y0
  extract_lets +onlyGivenNames -underBinder -merge y1
  have g1 : Frame m s0 y1 := by
    exact Frame.trx (hm.of rfl) h0
  try clear_value y1
  refine Frame.ite (fun _ => ?_) (fun _ => ?_)
  · exact State.exitOff_frame (hm.of rfl) (State.raise_frame (hm.of rfl) a1 g1)
  · exact State.wake_frame (hm.of rfl) (State.raise_frame (hm.of rfl) (Allows.page (p := 20) rfl (hm.of rfl)) (State.raise_frame (hm.of rfl) a1 g1))

theorem State.decoderError_frame {m : Nat} {s0 : State} {x0 : State} (hm : Sub 0x100014000a8830 m) (h0 : Frame m s0 x0) :
    Frame m s0 (State.decoderError x0) := by
  unfold State.decoderError
  extract_lets +onlyGivenNames -underBinder -merge y0
  try clear_value y0
  refine Frame.ite (fun _ => ?_) (fun _ => ?_)
  · exact State.trxWake_frame (hm.of rfl) (Allows.page (p := 20) rfl (hm.of rfl)) h0
  · exact Frame.trx (hm.of rfl) h0

theorem State.decoderBadFrame_frame {m : Nat} {s0 : State} {x0 : State} {x1 : Bool} (hm : Sub 0x100014000a8830 m) (h0 : Frame m s0 x0) :
    Frame m s0 (State.decoderBadFrame x0 x1) := by
  unfold State.decoderBadFrame
  refine Frame.ite (fun _ => ?_) (fun _ => ?_)
  · exact h0
  · exact State.decoderError_frame (hm.of rfl) h0

theorem State.decoderFrame_frame {m : Nat} {s0 : State} {x0 : State} {x1 : CanFrame} (hm : Sub 0x100014000a8830 m) (h0 : Frame m s0 x0) :
    Frame m s0 (State.decoderFrame x0 x1) := by
  unfold State.decoderFrame
  refine Frame.ite (fun _ => ?_) (fun _ => ?_)
  · exact h0
  · refine Frame.ite (fun _ => ?_) (fun _ => ?_)
    · refine Frame.ite (fun _ => ?_) (fun _ => ?_)
      · exact h0
      · exact State.decoderError_frame (hm.of rfl) h0
    · refine Frame.ite (fun _ => ?_) (fun _ => ?_)
      · exact State.trxWake_frame (hm.of rfl) (Allows.page (p := 20) rfl (hm.of rfl)) h0
      · exact Frame.trx (hm.of rfl) h0

theorem State.decoderOff_frame {m : Nat} {s0 : State} {x0 : State} (hm : Sub 0x80000 m) (h0 : Frame m s0 x0) : Frame m s0 (State.decoderOff x0) := by
  unfold State.decoderOff
  exact Frame.trx (hm.of rfl) h0

theorem State.fsExpire_frame {m : Nat} {s0 : State} {x0 : State} (hm : Sub 0x10000000080000 m) (h0 : Frame m s0 x0) :
    Frame m s0 (State.fsExpire x0) := by
  unfold State.fsExpire
  refine Frame.ite (fun _ => ?_) (fun _ => ?_)
  · extract_lets +onlyGivenNames -underBinder -merge y0
    have g0 : Frame m s0 y0 := by
      exact State.put_frame (hm.of rfl) (Allows.page (p := 20) rfl (hm.of rfl)) h0
    try clear_value y0
    exact Frame.trx (hm.of rfl) g0
  · exact h0

theorem State.fsStart_frame {m : Nat} {s0 : State} {x0 : State} (hm : Sub 0x10000000000000 m) (h0 : Frame m s0 x0) :
    Frame m s0 (State.fsStart x0) := by
  unfold State.fsStart
  refine Frame.ite (fun _ => ?_) (fun _ => ?_)
  · exact h0
  · refine State.raise_frame (hm.of rfl) (Allows.page (p := 20) rfl (hm.of rfl)) ?_
    exact State.put_frame (hm.of rfl) (Allows.page (p := 20) rfl (hm.of rfl)) h0

theorem State.trxModeWritten_frame {m : Nat} {s0 : State} {x0 : State} {x1 : Nat} (hm : Sub 0x10000000000000 m) (h0 : Frame m s0 x0) :
    Frame m s0 (State.trxModeWritten x0 x1) := by
  unfold State.trxModeWritten
  refine Frame.ite (fun _ => ?_) (fun _ => ?_)
  · extract_lets +onlyGivenNames -underBinder -merge y0
    have g0 : Frame m s0 y0 := by
      exact State.fsStart_frame (hm.of rfl) h0
    try clear_value y0
    refine Frame.ite (fun _ => ?_) (fun _ => ?_)
    · exact State.put_frame (hm.of rfl) (Allows.page (p := 20) rfl (hm.of rfl)) g0
    · refine State.raise_frame (hm.of rfl) (Allows.page (p := 20) rfl (hm.of rfl)) ?_
      exact State.put_frame (hm.of rfl) (Allows.page (p := 20) rfl (hm.of rfl)) g0
  · exact State.put_frame (hm.of rfl) (Allows.page (p := 20) rfl (hm.of rfl)) h0

theorem State.trxMove_frame {m : Nat} {s0 : State} {x0 : State} (hm : Sub 0x10000000080000 m) (h0 : Frame m s0 x0) :
    Frame m s0 (State.trxMove x0) := by
  unfold State.trxMove
  extract_lets +onlyGivenNames -underBinder -merge y0
  try clear_value y0
  refine Frame.ite (fun _ => ?_) (fun _ => ?_)
  · exact h0
  · extract_lets +onlyGivenNames -underBinder -merge y1
    have g1 : Frame m s0 y1 := by
      refine State.raise_frame (hm.of rfl) (Allows.page (p := 20) rfl (hm.of rfl)) ?_
      exact State.put_frame (hm.of rfl) (Allows.page (p := 20) rfl (hm.of rfl)) h0
    try clear_value y1
    refine State.when_frame (hm.of rfl) ?_ ?_
    · intro y2 g2
      exact State.put_frame (hm.of rfl) (Allows.page (p := 20) rfl (hm.of rfl)) g2
    · exact State.decoderOff_frame (hm.of rfl) g1

theorem State.txdRecessive_frame {m : Nat} {s0 : State} {x0 : State} {x1 : Nat} (hm : Sub 0x10000000000000 m) (h0 : Frame m s0 x0) :
    Frame m s0 (State.txdRecessive x0 x1) := by
  unfold State.txdRecessive
  refine State.when_frame (hm.of rfl) ?_ ?_
  · intro y0 g0
    exact State.put_frame (hm.of rfl) (Allows.page (p := 20) rfl (hm.of rfl)) g0
  · exact h0

theorem State.vbatLost_frame {m : Nat} {s0 : State} {x0 : State} (hm : Sub 0x10000000080000 m) (h0 : Frame m s0 x0) :
    Frame m s0 (State.vbatLost x0) := by
  unfold State.vbatLost
  refine Frame.trx (hm.of rfl) ?_
  refine State.decoderOff_frame (hm.of rfl) ?_
  exact State.put_frame (hm.of rfl) (Allows.page (p := 20) rfl (hm.of rfl)) (State.put_frame (hm.of rfl) (Allows.page (p := 20) rfl (hm.of rfl)) h0)

theorem State.vbatStart_frame {m : Nat} {s0 : State} {x0 : State} (hm : Sub 0xffffffffffffffff00080000 m) (h0 : Frame m s0 x0) :
    Frame m s0 (State.vbatStart x0) := by
  unfold State.vbatStart
  refine Frame.ite (fun _ => ?_) (fun _ => ?_)
  · exact h0
  · extract_lets +onlyGivenNames -underBinder -merge y0
    have g0 : Frame m s0 y0 := by
      refine Frame.foldl ?_ ?_
      · intro y1 y2 g1
        exact State.put_frame (hm.of rfl) (Allows.all _ (hm.of rfl)) g1
      · exact h0
    try clear_value y0
    exact Frame.trx (hm.of rfl) g0

theorem State.wakePad_frame {m : Nat} {s0 : State} {x0 : State} {x1 : Bool} (hm : Sub 0x71303d4004eaa3a m) (h0 : Frame m s0 x0) :
    Frame m s0 (State.wakePad x0 x1) := by
  unfold State.wakePad
  refine Frame.ite (fun _ => ?_) (fun _ => ?_)
  · exact h0
  · extract_lets +onlyGivenNames -underBinder -merge y0
    extract_lets +onlyGivenNames -underBinder -merge y1
    have g1 : Frame m s0 y1 := by
      exact Frame.fab (hm.of rfl) h0
    try clear_value y1
    extract_lets +onlyGivenNames -underBinder -merge y2
    have g2 : Frame m s0 y2 := by
      refine State.when_frame (hm.of rfl) ?_ ?_
      · intro y3 g3
        exact State.padEvent_frame (hm.of rfl) g3
      · exact g1
    try clear_value y2
    refine State.when_frame (hm.of rfl) ?_ ?_
    · intro y4 g4
      exact State.trxWake_frame (hm.of rfl) (Allows.page (p := 20) rfl (hm.of rfl)) g4
    · exact g2

theorem State.wakePattern_frame {m : Nat} {s0 : State} {x0 : State} (hm : Sub 0x100014000a8830 m) (h0 : Frame m s0 x0) :
    Frame m s0 (State.wakePattern x0) := by
  unfold State.wakePattern
  refine Frame.ite (fun _ => ?_) (fun _ => ?_)
  · exact h0
  · refine Frame.ite (fun _ => ?_) (fun _ => ?_)
    · refine Frame.ite (fun _ => ?_) (fun _ => ?_)
      · exact h0
      · exact Frame.trx (hm.of rfl) h0
    · refine Frame.ite (fun _ => ?_) (fun _ => ?_)
      · exact State.trxWake_frame (hm.of rfl) (Allows.page (p := 20) rfl (hm.of rfl)) h0
      · exact h0

/-! ### Machine/Can -/

theorem State.objEvent_frame {m : Nat} {s0 : State} {x0 : State} {x1 x2 : Nat} (hm : Sub 0x70f03d40046aa1a m) (h0 : Frame m s0 x0) :
    Frame m s0 (State.objEvent x0 x1 x2) := by
  unfold State.objEvent
  extract_lets +onlyGivenNames -underBinder -merge y0
  try clear_value y0
  extract_lets +onlyGivenNames -underBinder -merge y1
  try clear_value y1
  extract_lets +onlyGivenNames -underBinder -merge y2
  try clear_value y2
  refine Frame.ite (fun _ => ?_) (fun _ => ?_)
  · exact State.fire_frame (hm.of rfl) (State.raise_frame (hm.of rfl) (Allows.can rfl (hm.of rfl)) h0)
  · exact h0

theorem State.objEnd_frame {m : Nat} {s0 : State} {x0 : State} {x1 x2 x3 : Nat} (hm : Sub 0x70f43d40046ba1a m) (h0 : Frame m s0 x0) :
    Frame m s0 (State.objEnd x0 x1 x2 x3) := by
  unfold State.objEnd
  extract_lets +onlyGivenNames -underBinder -merge y0
  try clear_value y0
  extract_lets +onlyGivenNames -underBinder -merge y1
  have g1 : Frame m s0 y1 := by
    exact State.objEvent_frame (hm.of rfl) (State.setObjState_frame (hm.of rfl) h0)
  try clear_value y1
  split
  · refine Frame.ite (fun _ => ?_) (fun _ => ?_)
    · exact State.completeMissed_frame (hm.of rfl) g1
    · exact State.complete_frame (hm.of rfl) g1
  · exact g1

theorem State.objReset_frame {m : Nat} {s0 : State} {x0 : State} {x1 x2 : Nat} (hm : Sub 0x40000 m) (h0 : Frame m s0 x0) :
    Frame m s0 (State.objReset x0 x1 x2) := by
  unfold State.objReset
  exact State.modCan_frame (hm.of rfl) (State.setWord1_frame (hm.of rfl) h0)

theorem State.frameOver_frame {m : Nat} {s0 : State} {x0 : State} {x1 : Nat} {x2 : CanSend} {x3 : Nat}
    (hm : Sub 0x71f43d40046ba1a m) (h0 : Frame m s0 x0) : Frame m s0 (State.frameOver x0 x1 x2 x3) := by
  unfold State.frameOver
  extract_lets +onlyGivenNames -underBinder -merge y0
  have g0 : Frame m s0 y0 := by
    exact State.txdRecessive_frame (hm.of rfl) (State.put_frame (hm.of rfl) (Allows.can rfl (hm.of rfl)) (State.modCan_frame (hm.of rfl) h0))
  try clear_value y0
  extract_lets +onlyGivenNames -underBinder -merge y1
  have g1 : Frame m s0 y1 := by
    refine Frame.ite (fun _ => ?_) (fun _ => ?_)
    · exact State.setObjState_frame (hm.of rfl) g0
    · exact State.objEnd_frame (hm.of rfl) g0
  try clear_value y1
  refine State.when_frame (hm.of rfl) ?_ ?_
  · intro y2 g2
    exact State.objReset_frame (hm.of rfl) g2
  · exact g1

theorem State.arbLost_frame {m : Nat} {s0 : State} {x0 : State} {x1 : Nat} (hm : Sub 0x71f43d40046ba1a m) (h0 : Frame m s0 x0) :
    Frame m s0 (State.arbLost x0 x1) := by
  unfold State.arbLost
  split
  · exact State.put_frame (hm.of rfl) (Allows.can rfl (hm.of rfl)) (State.frameOver_frame (hm.of rfl) h0)
  · exact h0

theorem State.beginFrame_frame {m : Nat} {s0 : State} {x0 : State} {x1 x2 : Nat} (hm : Sub 0x70f43d40046ba1a m) (h0 : Frame m s0 x0) :
    Frame m s0 (State.beginFrame x0 x1 x2) := by
  unfold State.beginFrame
  split
  · exact State.objEnd_frame (hm.of rfl) (State.eccRecord_frame (hm.of rfl) h0)
  · refine Frame.ite (fun _ => ?_) (fun _ => ?_)
    · exact State.objEnd_frame (hm.of rfl) h0
    · extract_lets +onlyGivenNames -underBinder -merge y0
      try clear_value y0
      extract_lets +onlyGivenNames -underBinder -merge y1
      try clear_value y1
      extract_lets +onlyGivenNames -underBinder -merge y2
      try clear_value y2
      extract_lets +onlyGivenNames -underBinder -merge y3
      try clear_value y3
      extract_lets +onlyGivenNames -underBinder -merge y4
      try clear_value y4
      extract_lets +onlyGivenNames -underBinder -merge y5
      have g5 : Frame m s0 y5 := by
        exact State.put_frame (hm.of rfl) (Allows.can rfl (hm.of rfl)) (State.setObjState_frame (hm.of rfl) h0)
      try clear_value y5
      exact State.modCan_frame (hm.of rfl) g5

theorem State.busBusy_frame {m : Nat} {s0 : State} {x0 : State} {x1 : Nat} (hm : Sub 0x2 m) (h0 : Frame m s0 x0) :
    Frame m s0 (State.busBusy x0 x1).2 := by
  unfold State.busBusy
  refine Frame.ite2 (fun _ => ?_) (fun _ => ?_)
  · exact Frame.snd h0
  · refine Frame.ite2 (fun _ => ?_) (fun _ => ?_)
    · exact Frame.snd h0
    · exact State.freeBool_frame (hm.of rfl) h0

theorem State.cancelObj_frame {m : Nat} {s0 : State} {x0 : State} {x1 x2 : Nat} (hm : Sub 0x42000 m) (h0 : Frame m s0 x0) :
    Frame m s0 (State.cancelObj x0 x1 x2) := by
  unfold State.cancelObj
  extract_lets +onlyGivenNames -underBinder -merge y0
  have g0 : Frame m s0 y0 := by
    unfold y0
    split
    · exact State.noteCancel_frame (hm.of rfl) h0
    · exact h0
  try clear_value y0
  exact State.modCan_frame (hm.of rfl) g0

theorem State.setW1_frame {m : Nat} {s0 : State} {x0 : State} {x1 x2 x3 x4 x5 : Nat} (hm : Sub 0x40000 m) (h0 : Frame m s0 x0) :
    Frame m s0 (State.setW1 x0 x1 x2 x3 x4 x5) := by
  unfold State.setW1
  exact State.setWord1_frame (hm.of rfl) h0

theorem State.objStore_frame {m : Nat} {s0 : State} {x0 : State} {x1 x2 : Nat} {x3 : CanStore} (hm : Sub 0x70f03d40046ba1a m) (h0 : Frame m s0 x0) :
    Frame m s0 (State.objStore x0 x1 x2 x3) := by
  unfold State.objStore
  extract_lets +onlyGivenNames -underBinder -merge y0
  try clear_value y0
  extract_lets +onlyGivenNames -underBinder -merge y1
  have g1 : Frame m s0 y1 := by
    exact State.setWords_frame (hm.of rfl) (State.setWord_frame (hm.of rfl) (State.setWord_frame (hm.of rfl) h0))
  try clear_value y1
  exact State.objEvent_frame (hm.of rfl) (State.setW1_frame (hm.of rfl) (State.setW1_frame (hm.of rfl) (State.setW1_frame (hm.of rfl) g1)))

theorem State.objRelease_frame {m : Nat} {s0 : State} {x0 : State} {x1 x2 : Nat} (hm : Sub 0x70f03d40046ba1a m) (h0 : Frame m s0 x0) :
    Frame m s0 (State.objRelease x0 x1 x2) := by
  unfold State.objRelease
  refine Frame.ite (fun _ => ?_) (fun _ => ?_)
  · exact h0
  · extract_lets +onlyGivenNames -underBinder -merge y0
    try clear_value y0
    extract_lets +onlyGivenNames -underBinder -merge y1
    try clear_value y1
    extract_lets +onlyGivenNames -underBinder -merge y2
    have g2 : Frame m s0 y2 := by
      exact State.setWord1_frame (hm.of rfl) h0
    try clear_value y2
    extract_lets +onlyGivenNames -underBinder -merge y3
    have g3 : Frame m s0 y3 := by
      exact State.modCan_frame (hm.of rfl) g2
    try clear_value y3
    split
    · refine State.objStore_frame (hm.of rfl) ?_
      refine State.when_frame (hm.of rfl) ?_ ?_
      · intro y4 g4
        exact State.setW1_frame (hm.of rfl) g4
      · exact g3
    · exact g3

theorem State.canCommand_frame {m : Nat} {s0 : State} {x0 : State} {x1 x2 x3 : Nat} (hm : Sub 0x70f03d40046ba1a m) (h0 : Frame m s0 x0) :
    Frame m s0 (State.canCommand x0 x1 x2 x3) := by
  unfold State.canCommand
  refine Frame.ite (fun _ => ?_) (fun _ => ?_)
  · exact State.canRequest_frame (hm.of rfl) h0
  · refine Frame.ite (fun _ => ?_) (fun _ => ?_)
    · exact State.cancelObj_frame (hm.of rfl) h0
    · exact State.objRelease_frame (hm.of rfl) h0

theorem State.judgePassive_frame {m : Nat} {s0 : State} {x0 : State} {x1 : Nat} (hm : Sub 0xc000000000000 m) (h0 : Frame m s0 x0) :
    Frame m s0 (State.judgePassive x0 x1) := by
  unfold State.judgePassive
  extract_lets +onlyGivenNames -underBinder -merge y0
  try clear_value y0
  refine Frame.ite (fun _ => ?_) (fun _ => ?_)
  · exact h0
  · exact State.raise_frame (hm.of rfl) (Allows.can rfl (hm.of rfl)) (State.putB_frame (hm.of rfl) (Allows.can rfl (hm.of rfl)) h0)

theorem State.enterBusOff_frame {m : Nat} {s0 : State} {x0 : State} {x1 : Nat} (hm : Sub 0x71f43d40046ba1a m) (h0 : Frame m s0 x0) :
    Frame m s0 (State.enterBusOff x0 x1) := by
  unfold State.enterBusOff
  refine Frame.ite (fun _ => ?_) (fun _ => ?_)
  · exact h0
  · extract_lets +onlyGivenNames -underBinder -merge y0
    have g0 : Frame m s0 y0 := by
      exact State.txdRecessive_frame (hm.of rfl) (State.arbLost_frame (hm.of rfl) h0)
    try clear_value y0
    extract_lets +onlyGivenNames -underBinder -merge y1
    have g1 : Frame m s0 y1 := by
      refine State.judgePassive_frame (hm.of rfl) ?_
      refine State.raise_frame (hm.of rfl) (Allows.can rfl (hm.of rfl)) ?_
      exact State.put_frame (hm.of rfl) (Allows.can rfl (hm.of rfl)) (State.put_frame (hm.of rfl) (Allows.can rfl (hm.of rfl)) g0)
    try clear_value y1
    exact State.put_frame (hm.of rfl) (Allows.can rfl (hm.of rfl)) g1

theorem State.canCount_frame {m : Nat} {s0 : State} {x0 : State} {x1 : Nat} {x2 : CanErr} (hm : Sub 0x71f43d40046ba1a m) (h0 : Frame m s0 x0) :
    Frame m s0 (State.canCount x0 x1 x2) := by
  unfold State.canCount
  refine Frame.ite (fun _ => ?_) (fun _ => ?_)
  · exact h0
  · split
    · exact State.judgePassive_frame (hm.of rfl) (State.put_frame (hm.of rfl) (Allows.can rfl (hm.of rfl)) h0)
    · exact State.judgePassive_frame (hm.of rfl) (State.put_frame (hm.of rfl) (Allows.can rfl (hm.of rfl)) h0)
    · refine Frame.ite (fun _ => ?_) (fun _ => ?_)
      · exact State.enterBusOff_frame (hm.of rfl) h0
      · exact State.judgePassive_frame (hm.of rfl) (State.put_frame (hm.of rfl) (Allows.can rfl (hm.of rfl)) h0)

theorem State.scanHeads_frame {m : Nat} {s0 : State} {x0 x1 : Nat} {x2 : State} {x3 : List Nat} (hm : Sub 0x3c000000200 m) (h2 : Frame m s0 x2) :
    Frame m s0 (State.scanHeads x0 x1 x2 x3).1 := by
  induction x3 generalizing x2 with
  | nil => exact h2
  | cons o os ih =>
    unfold State.scanHeads
    refine Frame.ite1 (fun _ => ih (State.eccRecord_frame (hm.of rfl) h2)) (fun _ => ?_)
    exact Frame.ite1 (fun _ => h2) (fun _ => ih h2)

theorem State.objStoring_frame {m : Nat} {s0 : State} {x0 : State} {x1 x2 : Nat} {x3 : CanStore} (hm : Sub 0x40000 m) (h0 : Frame m s0 x0) :
    Frame m s0 (State.objStoring x0 x1 x2 x3) := by
  unfold State.objStoring
  exact State.modCan_frame (hm.of rfl) h0

theorem State.objTake_frame {m : Nat} {s0 : State} {x0 : State} {x1 x2 : Nat} {x3 : CanStore} {x4 : Bool}
    (hm : Sub 0x70f03d40046ba1a m) (h0 : Frame m s0 x0) : Frame m s0 (State.objTake x0 x1 x2 x3 x4) := by
  unfold State.objTake
  refine Frame.ite (fun _ => ?_) (fun _ => ?_)
  · exact State.objStore_frame (hm.of rfl) h0
  · exact State.objStoring_frame (hm.of rfl) h0

theorem State.plainTake_frame {m : Nat} {s0 : State} {x0 : State} {x1 x2 : Nat} {x3 : CanStore} {x4 : Bool}
    (hm : Sub 0x70f03d40046ba1a m) (h0 : Frame m s0 x0) : Frame m s0 (State.plainTake x0 x1 x2 x3 x4) := by
  unfold State.plainTake
  extract_lets +onlyGivenNames -underBinder -merge y0
  try clear_value y0
  refine Frame.ite (fun _ => ?_) (fun _ => ?_)
  · extract_lets +onlyGivenNames -underBinder -merge y1
    try clear_value y1
    extract_lets +onlyGivenNames -underBinder -merge y2
    have g2 : Frame m s0 y2 := by
      exact State.modCan_frame (hm.of rfl) h0
    try clear_value y2
    refine Frame.ite (fun _ => ?_) (fun _ => ?_)
    · exact State.raise_frame (hm.of rfl) (Allows.can rfl (hm.of rfl)) (State.setW1_frame (hm.of rfl) g2)
    · exact State.setW1_frame (hm.of rfl) g2
  · extract_lets +onlyGivenNames -underBinder -merge y3
    have g3 : Frame m s0 y3 := by
      refine State.when_frame (hm.of rfl) ?_ ?_
      · intro y4 g4
        exact State.raise_frame (hm.of rfl) (Allows.can rfl (hm.of rfl)) (State.setW1_frame (hm.of rfl) g4)
      · exact h0
    try clear_value y3
    exact State.objTake_frame (hm.of rfl) g3

theorem State.groupTake_frame {m : Nat} {s0 : State} {x0 : State} {x1 x2 : Nat} {x3 : CanStore} {x4 : Bool}
    (hm : Sub 0x70f03d40046ba1a m) (h0 : Frame m s0 x0) : Frame m s0 (State.groupTake x0 x1 x2 x3 x4) := by
  unfold State.groupTake
  extract_lets +onlyGivenNames -underBinder -merge y0
  try clear_value y0
  extract_lets +onlyGivenNames -underBinder -merge y1
  try clear_value y1
  extract_lets +onlyGivenNames -underBinder -merge y2
  try clear_value y2
  extract_lets +onlyGivenNames -underBinder -merge y3
  try clear_value y3
  refine Frame.ite (fun _ => ?_) (fun _ => ?_)
  · exact State.raise_frame (hm.of rfl) (Allows.can rfl (hm.of rfl)) (State.setW1_frame (hm.of rfl) (State.setW1_frame (hm.of rfl) h0))
  · extract_lets +onlyGivenNames -underBinder -merge y4
    have g4 : Frame m s0 y4 := by
      exact State.modCan_frame (hm.of rfl) h0
    try clear_value y4
    exact State.objTake_frame (hm.of rfl) g4

theorem State.canFilter_frame {m : Nat} {s0 : State} {x0 : State} {x1 : Nat} {x2 : CanStore} {x3 : Bool}
    (hm : Sub 0x70f03d40046ba1a m) (h0 : Frame m s0 x0) : Frame m s0 (State.canFilter x0 x1 x2 x3) := by
  unfold State.canFilter
  have g : Frame m s0 (State.scanHeads x1 x2.word0 x0 (List.range 128)).1 := State.scanHeads_frame (hm.of rfl) h0
  split
  · rename_i e
    rw [e] at g
    exact Frame.ite (fun _ => State.plainTake_frame (hm.of rfl) g) (fun _ => State.groupTake_frame (hm.of rfl) g)
  · rename_i e
    rw [e] at g
    exact g

theorem State.canForget_frame {m : Nat} {s0 : State} {x0 : State} {x1 : Nat} (hm : Sub 0x40000 m) (h0 : Frame m s0 x0) :
    Frame m s0 (State.canForget x0 x1) := by
  unfold State.canForget
  exact State.modCan_frame (hm.of rfl) h0

theorem State.sleepCommand_frame {m : Nat} {s0 : State} {x0 : State} {x1 : Nat} (hm : Sub 0x71f03d40046aa1a m) (h0 : Frame m s0 x0) :
    Frame m s0 (State.sleepCommand x0 x1) := by
  unfold State.sleepCommand
  extract_lets +onlyGivenNames -underBinder -merge y0
  have g0 : Frame m s0 y0 := by
    exact State.raise_frame (hm.of rfl) (Allows.can rfl (hm.of rfl)) h0
  try clear_value y0
  refine Frame.ite (fun _ => ?_) (fun _ => ?_)
  · exact State.fsStart_frame (hm.of rfl) (State.fire_frame (hm.of rfl) g0)
  · exact g0

theorem State.canReceive_frame {m : Nat} {s0 : State} {x0 : State} {x1 x2 x3 x4 : Nat} {x5 : List Nat} {x6 : Nat} {x7 : Bool}
    (hm : Sub 0x71f03d40046ba1a m) (h0 : Frame m s0 x0) : Frame m s0 (State.canReceive x0 x1 x2 x3 x4 x5 x6 x7) := by
  unfold State.canReceive
  extract_lets +onlyGivenNames -underBinder -merge y0
  try clear_value y0
  extract_lets +onlyGivenNames -underBinder -merge y1
  try clear_value y1
  extract_lets +onlyGivenNames -underBinder -merge y2
  have g2 : Frame m s0 y2 := by
    exact State.canFilter_frame (hm.of rfl) h0
  try clear_value y2
  extract_lets +onlyGivenNames -underBinder -merge y3
  have g3 : Frame m s0 y3 := by
    refine State.when_frame (hm.of rfl) ?_ ?_
    · intro y4 g4
      exact State.syncSeen_frame (hm.of rfl) g4
    · exact g2
  try clear_value y3
  extract_lets +onlyGivenNames -underBinder -merge y5
  have g5 : Frame m s0 y5 := by
    refine State.when_frame (hm.of rfl) ?_ ?_
    · intro y6 g6
      exact State.followUpSeen_frame (hm.of rfl) g6
    · exact g3
  try clear_value y5
  refine State.when_frame (hm.of rfl) ?_ ?_
  · intro y7 g7
    exact State.sleepCommand_frame (hm.of rfl) g7
  · exact g5

theorem State.storeEnd_frame {m : Nat} {s0 : State} {x0 : State} {x1 : Nat} (hm : Sub 0x70f03d40046ba1a m) (h0 : Frame m s0 x0) :
    Frame m s0 (State.storeEnd x0 x1) := by
  unfold State.storeEnd
  split
  · exact State.objStore_frame (hm.of rfl) (State.modCan_frame (hm.of rfl) h0)
  · exact h0

theorem State.recDown_frame {m : Nat} {s0 : State} {x0 : State} {x1 : Nat} (hm : Sub 0xc000000000002 m) (h0 : Frame m s0 x0) :
    Frame m s0 (State.recDown x0 x1) := by
  unfold State.recDown
  extract_lets +onlyGivenNames -underBinder -merge y0
  try clear_value y0
  refine Frame.ite (fun _ => ?_) (fun _ => ?_)
  · extract_lets +onlyGivenNames -underBinder -merge y1
    have g1 : Frame m s0 y1.2 := by
      exact State.free_frame (hm.of rfl) h0
    try clear_value y1
    exact State.judgePassive_frame (hm.of rfl) (State.put_frame (hm.of rfl) (Allows.can rfl (hm.of rfl)) g1)
  · exact State.judgePassive_frame (hm.of rfl) (State.put_frame (hm.of rfl) (Allows.can rfl (hm.of rfl)) h0)

theorem State.canFrame_frame {m : Nat} {s0 : State} {x0 : State} {x1 : Nat} {x2 : CanFrame} {x3 : Bool}
    (hm : Sub 0x71f03d40046ba1a m) (h0 : Frame m s0 x0) : Frame m s0 (State.canFrame x0 x1 x2 x3) := by
  unfold State.canFrame
  refine Frame.ite (fun _ => ?_) (fun _ => ?_)
  · exact h0
  · extract_lets +onlyGivenNames -underBinder -merge y0
    have g0 : Frame m s0 y0 := by
      refine State.canReceive_frame (hm.of rfl) ?_
      exact State.txdRecessive_frame (hm.of rfl) (State.put_frame (hm.of rfl) (Allows.can rfl (hm.of rfl)) (State.storeEnd_frame (hm.of rfl) h0))
    try clear_value y0
    refine State.when_frame (hm.of rfl) ?_ ?_
    · intro y1 g1
      exact State.recDown_frame (hm.of rfl) g1
    · exact g0

theorem State.canStop_frame {m : Nat} {s0 : State} {x0 : State} {x1 : Nat} (hm : Sub 0x1c000000040000 m) (h0 : Frame m s0 x0) :
    Frame m s0 (State.canStop x0 x1) := by
  unfold State.canStop
  extract_lets +onlyGivenNames -underBinder -merge y0
  have g0 : Frame m s0 y0 := by
    exact State.modCan_frame (hm.of rfl) h0
  try clear_value y0
  exact State.txdRecessive_frame (hm.of rfl) (State.put_frame (hm.of rfl) (Allows.can rfl (hm.of rfl)) g0)

theorem State.canStopAsked_frame {m : Nat} {s0 : State} {x0 : State} {x1 x2 : Nat} (hm : Sub 0x1c000000040002 m) (h0 : Frame m s0 x0) :
    Frame m s0 (State.canStopAsked x0 x1 x2) := by
  unfold State.canStopAsked
  extract_lets +onlyGivenNames -underBinder -merge y0
  have g0 : Frame m s0 y0 := by
    exact State.modCan_frame (hm.of rfl) h0
  try clear_value y0
  extract_lets +onlyGivenNames -underBinder -merge y1
  have g1 : Frame m s0 y1.2 := by
    exact State.busBusy_frame (hm.of rfl) g0
  try clear_value y1
  refine Frame.ite (fun _ => ?_) (fun _ => ?_)
  · exact g1
  · exact State.canStop_frame (hm.of rfl) g1

theorem State.canModeWritten_frame {m : Nat} {s0 : State} {x0 : State} {x1 x2 : Nat} (hm : Sub 0x1c000000040002 m) (h0 : Frame m s0 x0) :
    Frame m s0 (State.canModeWritten x0 x1 x2) := by
  unfold State.canModeWritten
  extract_lets +onlyGivenNames -underBinder -merge y0
  try clear_value y0
  refine Frame.ite (fun _ => ?_) (fun _ => ?_)
  · refine Frame.ite (fun _ => ?_) (fun _ => ?_)
    · exact State.raise_frame (hm.of rfl) (Allows.can rfl (hm.of rfl)) (State.put_frame (hm.of rfl) (Allows.can rfl (hm.of rfl)) h0)
    · extract_lets +onlyGivenNames -underBinder -merge y1
      try clear_value y1
      extract_lets +onlyGivenNames -underBinder -merge y2
      have g2 : Frame m s0 y2 := by
        refine State.when_frame (hm.of rfl) ?_ ?_
        · intro y3 g3
          refine State.judgePassive_frame (hm.of rfl) ?_
          exact State.put_frame (hm.of rfl) (Allows.can rfl (hm.of rfl)) (State.put_frame (hm.of rfl) (Allows.can rfl (hm.of rfl)) g3)
        · exact h0
      try clear_value y2
      extract_lets +onlyGivenNames -underBinder -merge y4
      have g4 : Frame m s0 y4 := by
        refine State.when_frame (hm.of rfl) ?_ ?_
        · intro y5 g5
          exact State.put_frame (hm.of rfl) (Allows.can rfl (hm.of rfl)) g5
        · exact g2
      try clear_value y4
      exact State.modCan_frame (hm.of rfl) g4
  · refine Frame.ite (fun _ => ?_) (fun _ => ?_)
    · refine Frame.ite (fun _ => ?_) (fun _ => ?_)
      · exact h0
      · exact State.canStopAsked_frame (hm.of rfl) h0
    · exact h0

theorem State.objWithdraw_frame {m : Nat} {s0 : State} {x0 : State} {x1 x2 : Nat} (hm : Sub 0x70f43d40046ba1a m) (h0 : Frame m s0 x0) :
    Frame m s0 (State.objWithdraw x0 x1 x2) := by
  unfold State.objWithdraw
  refine Frame.ite (fun _ => ?_) (fun _ => ?_)
  · exact State.objEnd_frame (hm.of rfl) h0
  · exact State.objEnd_frame (hm.of rfl) (State.raise_frame (hm.of rfl) (Allows.can rfl (hm.of rfl)) (State.missRecord_frame (hm.of rfl) h0))

theorem State.judgeStarts_frame {m : Nat} {s0 : State} {x0 : State} {x1 : Nat} (hm : Sub 0x70f43d40046ba1a m) (h0 : Frame m s0 x0) :
    Frame m s0 (State.judgeStarts x0 x1) := by
  unfold State.judgeStarts
  refine Frame.foldl ?_ ?_
  · intro y0 y1 g0
    refine State.when_frame (hm.of rfl) ?_ ?_
    · intro y2 g2
      exact State.objWithdraw_frame (hm.of rfl) g2
    · exact g0
  · exact h0

theorem State.canPick_frame {m : Nat} {s0 : State} {x0 : State} {x1 : Nat} {x2 : Bool} (hm : Sub 0x71f43d40046ba1a m) (h0 : Frame m s0 x0) :
    Frame m s0 (State.canPick x0 x1 x2) := by
  unfold State.canPick
  refine Frame.ite (fun _ => ?_) (fun _ => ?_)
  · exact h0
  · extract_lets +onlyGivenNames -underBinder -merge y0
    have g0 : Frame m s0 y0 := by
      refine State.judgeStarts_frame (hm.of rfl) ?_
      refine State.when_frame (hm.of rfl) ?_ ?_
      · intro y1 g1
        exact State.put_frame (hm.of rfl) (Allows.can rfl (hm.of rfl)) g1
      · exact h0
    try clear_value y0
    refine Frame.ite (fun _ => ?_) (fun _ => ?_)
    · exact g0
    · split
      · exact g0
      · extract_lets +onlyGivenNames -underBinder -merge y2
        have g2 : Frame m s0 y2 := by
          exact State.txdRecessive_frame (hm.of rfl) g0
        try clear_value y2
        refine State.beginFrame_frame (hm.of rfl) ?_
        refine State.when_frame (hm.of rfl) ?_ ?_
        · intro y3 g3
          exact State.setEcc_frame (hm.of rfl) g3
        · exact g2

theorem State.canQuiesce_frame {m : Nat} {s0 : State} {x0 : State} {x1 : Nat} (hm : Sub 0x40000 m) (h0 : Frame m s0 x0) :
    Frame m s0 (State.canQuiesce x0 x1) := by
  unfold State.canQuiesce
  refine Frame.foldl ?_ ?_
  · intro y0 y1 g0
    refine Frame.foldl ?_ ?_
    · intro y2 y3 g2
      refine Frame.ite (fun _ => ?_) (fun _ => ?_)
      · exact g2
      · split
        · refine Frame.ite (fun _ => ?_) (fun _ => ?_)
          · exact State.modCan_frame (hm.of rfl) g2
          · exact State.objReset_frame (hm.of rfl) g2
        · exact State.objReset_frame (hm.of rfl) g2
    · exact g0
  · exact h0

theorem State.canSeen_frame {m : Nat} {s0 : State} {x0 : State} {x1 : Nat} {x2 : CanSeen} (hm : Sub 0x71f03d40046ba1a m) (h0 : Frame m s0 x0) :
    Frame m s0 (State.canSeen x0 x1 x2) := by
  unfold State.canSeen
  split
  · refine State.when_frame (hm.of rfl) ?_ ?_
    · intro y0 g0
      exact State.put_frame (hm.of rfl) (Allows.can rfl (hm.of rfl)) g0
    · exact h0
  · exact State.canFrame_frame (hm.of rfl) h0
  · exact State.canFrame_frame (hm.of rfl) h0
  · refine State.when_frame (hm.of rfl) ?_ ?_
    · intro y1 g1
      exact State.storeEnd_frame (hm.of rfl) g1
    · exact h0

theorem State.canSilence_frame {m : Nat} {s0 : State} {x0 : State} {x1 : Nat} (hm : Sub 0x71f43d40046ba1a m) (h0 : Frame m s0 x0) :
    Frame m s0 (State.canSilence x0 x1) := by
  unfold State.canSilence
  split
  · refine Frame.ite (fun _ => ?_) (fun _ => ?_)
    · exact State.frameOver_frame (hm.of rfl) h0
    · exact h0
  · refine State.when_frame (hm.of rfl) ?_ ?_
    · intro y0 g0
      exact State.put_frame (hm.of rfl) (Allows.can rfl (hm.of rfl)) g0
    · exact h0

theorem State.startRecovery_frame {m : Nat} {s0 : State} {x0 : State} {x1 : Nat} (hm : Sub 0xc000000000000 m) (h0 : Frame m s0 x0) :
    Frame m s0 (State.startRecovery x0 x1) := by
  unfold State.startRecovery
  refine State.when_frame (hm.of rfl) ?_ ?_
  · intro y0 g0
    exact State.put_frame (hm.of rfl) (Allows.can rfl (hm.of rfl)) g0
  · exact h0

theorem State.canWrote_frame {m : Nat} {s0 : State} {x0 : State} {x1 x2 : Nat} {x3 : State}
    (hm : Sub 0x71f43d40046ba1a m) (h0 : Frame m s0 x0) (h3 : Frame m s0 x3) : Frame m s0 (State.canWrote x0 x1 x2 x3) := by
  unfold State.canWrote
  refine Frame.ite (fun _ => ?_) (fun _ => ?_)
  · extract_lets +onlyGivenNames -underBinder -merge y0
    have g0 : Frame m s0 y0 := by
      refine State.when_frame (hm.of rfl) ?_ ?_
      · intro y1 g1
        exact State.put_frame (hm.of rfl) (Allows.can rfl (hm.of rfl)) g1
      · exact h0
    try clear_value y0
    exact State.canSilence_frame (hm.of rfl) (State.canModeWritten_frame (hm.of rfl) g0)
  · refine Frame.ite (fun _ => ?_) (fun _ => ?_)
    · extract_lets +onlyGivenNames -underBinder -merge y2
      try clear_value y2
      extract_lets +onlyGivenNames -underBinder -merge y3
      have g3 : Frame m s0 y3 := by
        exact State.put_frame (hm.of rfl) (Allows.can rfl (hm.of rfl)) h0
      try clear_value y3
      refine State.when_frame (hm.of rfl) ?_ ?_
      · intro y4 g4
        exact State.startRecovery_frame (hm.of rfl) g4
      · exact g3
    · refine Frame.ite (fun _ => ?_) (fun _ => ?_)
      · refine State.raise_frame (hm.of rfl) (Allows.can rfl (hm.of rfl)) ?_
        refine Frame.fields ?_ ?_
        · exact h0
        · exact h3
      · exact h0

theorem State.endRecovery_frame {m : Nat} {s0 : State} {x0 : State} {x1 : Nat} (hm : Sub 0xc000000000000 m) (h0 : Frame m s0 x0) :
    Frame m s0 (State.endRecovery x0 x1) := by
  unfold State.endRecovery
  refine Frame.ite (fun _ => ?_) (fun _ => ?_)
  · extract_lets +onlyGivenNames -underBinder -merge y0
    have g0 : Frame m s0 y0 := by
      refine State.judgePassive_frame (hm.of rfl) ?_
      exact State.put_frame (hm.of rfl) (Allows.can rfl (hm.of rfl)) (State.put_frame (hm.of rfl) (Allows.can rfl (hm.of rfl)) h0)
    try clear_value y0
    refine State.raise_frame (hm.of rfl) (Allows.can rfl (hm.of rfl)) ?_
    exact State.put_frame (hm.of rfl) (Allows.can rfl (hm.of rfl)) (State.put_frame (hm.of rfl) (Allows.can rfl (hm.of rfl)) g0)
  · exact h0

theorem State.txError_frame {m : Nat} {s0 : State} {x0 : State} {x1 : Nat} {x2 : Bool} (hm : Sub 0x71f43d40046ba1a m) (h0 : Frame m s0 x0) :
    Frame m s0 (State.txError x0 x1 x2) := by
  unfold State.txError
  split
  · exact h0
  · refine Frame.ite (fun _ => ?_) (fun _ => ?_)
    · exact State.canSilence_frame (hm.of rfl) h0
    · extract_lets +onlyGivenNames -underBinder -merge y0
      try clear_value y0
      refine Frame.ite (fun _ => ?_) (fun _ => ?_)
      · exact State.enterBusOff_frame (hm.of rfl) h0
      · exact State.judgePassive_frame (hm.of rfl) (State.frameOver_frame (hm.of rfl) (State.put_frame (hm.of rfl) (Allows.can rfl (hm.of rfl)) h0))

theorem State.frameSent_frame {m : Nat} {s0 : State} {x0 : State} {x1 x2 : Nat} (hm : Sub 0x71f43d40046ba1a m) (h0 : Frame m s0 x0) :
    Frame m s0 (State.frameSent x0 x1 x2) := by
  unfold State.frameSent
  split
  · exact h0
  · refine Frame.ite (fun _ => ?_) (fun _ => ?_)
    · exact State.canSilence_frame (hm.of rfl) h0
    · refine Frame.ite (fun _ => ?_) (fun _ => ?_)
      · exact State.txError_frame (hm.of rfl) h0
      · extract_lets +onlyGivenNames -underBinder -merge y0
        have g0 : Frame m s0 y0 := by
          exact State.judgePassive_frame (hm.of rfl) (State.put_frame (hm.of rfl) (Allows.can rfl (hm.of rfl)) h0)
        try clear_value y0
        extract_lets +onlyGivenNames -underBinder -merge y1
        have g1 : Frame m s0 y1 := by
          refine State.when_frame (hm.of rfl) ?_ ?_
          · intro y2 g2
            exact State.captureInputAt_frame (hm.of rfl) g2
          · exact g0
        try clear_value y1
        extract_lets +onlyGivenNames -underBinder -merge y3
        have g3 : Frame m s0 y3 := by
          refine State.when_frame (hm.of rfl) ?_ ?_
          · intro y4 g4
            exact State.canReceive_frame (hm.of rfl) g4
          · exact g1
        try clear_value y3
        exact State.frameOver_frame (hm.of rfl) g3

theorem State.lockLate_frame {m : Nat} {s0 : State} {x0 : State} {x1 x2 : Nat} (hm : Sub 0xc03c000040200 m) (h0 : Frame m s0 x0) :
    Frame m s0 (State.lockLate x0 x1 x2) := by
  unfold State.lockLate
  split
  · exact State.modCan_frame (hm.of rfl) (State.raise_frame (hm.of rfl) (Allows.can rfl (hm.of rfl)) (State.missRecord_frame (hm.of rfl) h0))
  · exact h0

theorem State.objLock_frame {m : Nat} {s0 : State} {x0 : State} {x1 x2 : Nat} (hm : Sub 0x40000 m) (h0 : Frame m s0 x0) :
    Frame m s0 (State.objLock x0 x1 x2) := by
  unfold State.objLock
  refine Frame.ite (fun _ => ?_) (fun _ => ?_)
  · exact State.modCan_frame (hm.of rfl) (State.setW1_frame (hm.of rfl) h0)
  · exact h0

theorem State.sampleCancel_frame {m : Nat} {s0 : State} {x0 : State} {x1 x2 : Nat} {x3 : Bool} (hm : Sub 0x71f43d40046ba1a m) (h0 : Frame m s0 x0) :
    Frame m s0 (State.sampleCancel x0 x1 x2 x3) := by
  unfold State.sampleCancel
  refine Frame.ite (fun _ => ?_) (fun _ => ?_)
  · exact h0
  · extract_lets +onlyGivenNames -underBinder -merge y0
    have g0 : Frame m s0 y0 := by
      exact State.modCan_frame (hm.of rfl) h0
    try clear_value y0
    refine Frame.ite (fun _ => ?_) (fun _ => ?_)
    · exact State.objWithdraw_frame (hm.of rfl) g0
    · refine Frame.ite (fun _ => ?_) (fun _ => ?_)
      · exact State.objEnd_frame (hm.of rfl) g0
      · split
        · refine Frame.ite (fun _ => ?_) (fun _ => ?_)
          · exact g0
          · refine Frame.ite (fun _ => ?_) (fun _ => ?_)
            · exact State.modCan_frame (hm.of rfl) g0
            · exact State.put_frame (hm.of rfl) (Allows.can rfl (hm.of rfl)) (State.frameOver_frame (hm.of rfl) g0)
        · exact g0

theorem State.writeWord1_frame {m : Nat} {s0 : State} {x0 : State} {x1 x2 x3 : Nat} (hm : Sub 0x40000 m) (h0 : Frame m s0 x0) :
    Frame m s0 (State.writeWord1 x0 x1 x2 x3).1 := by
  unfold State.writeWord1
  extract_lets +onlyGivenNames -underBinder -merge y0
  try clear_value y0
  extract_lets +onlyGivenNames -underBinder -merge y1
  try clear_value y1
  refine Frame.ite1 (fun _ => ?_) (fun _ => ?_)
  · exact Frame.fst h0
  · extract_lets +onlyGivenNames -underBinder -merge y2
    try clear_value y2
    extract_lets +onlyGivenNames -underBinder -merge y3
    try clear_value y3
    refine Frame.ite1 (fun _ => ?_) (fun _ => ?_)
    · exact Frame.fst (State.setWord1_frame (hm.of rfl) h0)
    · refine Frame.ite1 (fun _ => ?_) (fun _ => ?_)
      · exact Frame.fst (State.setWord1_frame (hm.of rfl) h0)
      · exact Frame.fst (State.setWord1_frame (hm.of rfl) (State.objReset_frame (hm.of rfl) h0))

/-! ### Machine/Phy -/

theorem State.modPhy_frame {m : Nat} {s0 : State} {x0 : State} {x1 : Phy → Phy} (hm : Sub 0x100000 m) (h0 : Frame m s0 x0) :
    Frame m s0 (State.modPhy x0 x1) := by
  unfold State.modPhy
  exact Frame.phy (hm.of rfl) h0

theorem State.calDue_frame {m : Nat} {s0 : State} {x0 : State} (hm : Sub 0x100000 m) (h0 : Frame m s0 x0) : Frame m s0 (State.calDue x0) := by
  unfold State.calDue
  refine Frame.ite (fun _ => ?_) (fun _ => ?_)
  · exact h0
  · exact State.modPhy_frame (hm.of rfl) h0

theorem State.calEnd_frame {m : Nat} {s0 : State} {x0 : State} (hm : Sub 0x20000000100000 m) (h0 : Frame m s0 x0) : Frame m s0 (State.calEnd x0) := by
  unfold State.calEnd
  refine Frame.ite (fun _ => ?_) (fun _ => ?_)
  · extract_lets +onlyGivenNames -underBinder -merge y0
    try clear_value y0
    refine State.raise_frame (hm.of rfl) (Allows.page (p := 21) rfl (hm.of rfl)) ?_
    exact State.put_frame (hm.of rfl) (Allows.page (p := 21) rfl (hm.of rfl)) (State.modPhy_frame (hm.of rfl) h0)
  · exact h0

theorem State.calInterval_frame {m : Nat} {s0 : State} {x0 : State} (hm : Sub 0x100000 m) (h0 : Frame m s0 x0) :
    Frame m s0 (State.calInterval x0) := by
  unfold State.calInterval
  refine Frame.ite (fun _ => ?_) (fun _ => ?_)
  · exact State.calDue_frame (hm.of rfl) h0
  · exact h0

theorem State.calStart_frame {m : Nat} {s0 : State} {x0 : State} (hm : Sub 0x20000000100000 m) (h0 : Frame m s0 x0) :
    Frame m s0 (State.calStart x0) := by
  unfold State.calStart
  refine State.put_frame (hm.of rfl) (Allows.page (p := 21) rfl (hm.of rfl)) ?_
  exact State.put_frame (hm.of rfl) (Allows.page (p := 21) rfl (hm.of rfl)) (State.modPhy_frame (hm.of rfl) h0)

theorem State.latchRssi_frame {m : Nat} {s0 : State} {x0 : State} {x1 : Int} (hm : Sub 0x20000000000000 m) (h0 : Frame m s0 x0) :
    Frame m s0 (State.latchRssi x0 x1) := by
  unfold State.latchRssi
  refine State.put_frame (hm.of rfl) (Allows.page (p := 21) rfl (hm.of rfl)) ?_
  exact State.putB_frame (hm.of rfl) (Allows.page (p := 21) rfl (hm.of rfl)) (State.put_frame (hm.of rfl) (Allows.page (p := 21) rfl (hm.of rfl)) h0)

theorem State.noteMap_frame {m : Nat} {s0 : State} {x0 : State} {x1 : Nat} (hm : Sub 0x3c000000200 m) (h0 : Frame m s0 x0) :
    Frame m s0 (State.noteMap x0 x1) := by
  unfold State.noteMap
  refine Frame.foldl ?_ ?_
  · intro y0 y1 g0
    refine State.when_frame (hm.of rfl) ?_ ?_
    · intro y2 g2
      exact State.eccRecord_frame (hm.of rfl) g2
    · exact g0
  · exact h0

theorem State.setMap_frame {m : Nat} {s0 : State} {x0 : State} {x1 : Nat} {x2 : List Nat} (hm : Sub 0x1000 m) (h0 : Frame m s0 x0) :
    Frame m s0 (State.setMap x0 x1 x2) := by
  unfold State.setMap
  exact State.setWords_frame (hm.of rfl) h0

theorem State.ofdmSync_frame {m : Nat} {s0 : State} {x0 : State} {x1 : Nat} {x2 : Int} {x3 : List Int}
    (hm : Sub 0x20000000101000 m) (h0 : Frame m s0 x0) : Frame m s0 (State.ofdmSync x0 x1 x2 x3) := by
  unfold State.ofdmSync
  refine Frame.ite (fun _ => ?_) (fun _ => ?_)
  · extract_lets +onlyGivenNames -underBinder -merge y0
    have g0 : Frame m s0 y0 := by
      exact State.modPhy_frame (hm.of rfl) (State.latchRssi_frame (hm.of rfl) h0)
    try clear_value y0
    split
    · exact State.setMap_frame (hm.of rfl) (State.modPhy_frame (hm.of rfl) g0)
    · exact g0
  · exact h0

theorem State.phyDrop_frame {m : Nat} {s0 : State} {x0 : State} (hm : Sub 0x100000 m) (h0 : Frame m s0 x0) : Frame m s0 (State.phyDrop x0) := by
  unfold State.phyDrop
  exact State.modPhy_frame (hm.of rfl) h0

theorem State.phyIdle_frame {m : Nat} {s0 : State} {x0 : State} (hm : Sub 0x100000 m) (h0 : Frame m s0 x0) : Frame m s0 (State.phyIdle x0) := by
  unfold State.phyIdle
  exact State.modPhy_frame (hm.of rfl) h0

theorem State.phySet_frame {m : Nat} {s0 : State} {x0 : State} {x1 : PhyOp} {x2 : Nat} {x3 : Bool} {x4 : Nat} {x5 : Option AirFrame} {x6 : Option Nat}
    (hm : Sub 0x20000000100000 m) (h0 : Frame m s0 x0) : Frame m s0 (State.phySet x0 x1 x2 x3 x4 x5 x6) := by
  unfold State.phySet
  refine State.put_frame (hm.of rfl) (Allows.page (p := 21) rfl (hm.of rfl)) ?_
  exact State.put_frame (hm.of rfl) (Allows.page (p := 21) rfl (hm.of rfl)) (State.modPhy_frame (hm.of rfl) h0)

theorem State.phyStart_frame {m : Nat} {s0 : State} {x0 : State} (hm : Sub 0x3c000100200 m) (h0 : Frame m s0 x0) :
    Frame m s0 (State.phyStart x0) := by
  unfold State.phyStart
  split
  · exact h0
  · refine Frame.ite (fun _ => ?_) (fun _ => ?_)
    · exact State.modPhy_frame (hm.of rfl) h0
    · extract_lets +onlyGivenNames -underBinder -merge y0
      try clear_value y0
      extract_lets +onlyGivenNames -underBinder -merge y1
      try clear_value y1
      refine State.modPhy_frame (hm.of rfl) ?_
      refine State.when_frame (hm.of rfl) ?_ ?_
      · intro y2 g2
        exact State.noteMap_frame (hm.of rfl) g2
      · exact h0

theorem State.phyWrote_frame {m : Nat} {s0 : State} {x0 : State} {x1 : Nat} (hm : Sub 0x100000 m) (h0 : Frame m s0 x0) :
    Frame m s0 (State.phyWrote x0 x1) := by
  unfold State.phyWrote
  refine Frame.ite (fun _ => ?_) (fun _ => ?_)
  · exact State.modPhy_frame (hm.of rfl) (State.calDue_frame (hm.of rfl) h0)
  · exact h0

theorem State.radioReleased_frame {m : Nat} {s0 : State} {x0 : State} (hm : Sub 0x20000000100000 m) (h0 : Frame m s0 x0) :
    Frame m s0 (State.radioReleased x0) := by
  unfold State.radioReleased
  refine State.put_frame (hm.of rfl) (Allows.page (p := 21) rfl (hm.of rfl)) ?_
  refine Frame.ite (fun _ => ?_) (fun _ => ?_)
  · exact h0
  · exact State.calDue_frame (hm.of rfl) h0

theorem State.robustSync_frame {m : Nat} {s0 : State} {x0 : State} {x1 : Nat} {x2 : Int} (hm : Sub 0x20000000100000 m) (h0 : Frame m s0 x0) :
    Frame m s0 (State.robustSync x0 x1 x2) := by
  unfold State.robustSync
  refine Frame.ite (fun _ => ?_) (fun _ => ?_)
  · exact State.modPhy_frame (hm.of rfl) (State.latchRssi_frame (hm.of rfl) h0)
  · exact h0

/-! ### Machine/Control -/

theorem State.adcWrote_frame {m : Nat} {s0 : State} {x0 : State} {x1 : Nat} (hm : Sub 0x200000000400008 m) (h0 : Frame m s0 x0) :
    Frame m s0 (State.adcWrote x0 x1) := by
  unfold State.adcWrote
  refine Frame.ite (fun _ => ?_) (fun _ => ?_)
  · exact State.adcaStart_frame (hm.of rfl) (State.put_frame (hm.of rfl) (Allows.page (p := 25) rfl (hm.of rfl)) h0)
  · refine Frame.ite (fun _ => ?_) (fun _ => ?_)
    · exact State.adcbStart_frame (hm.of rfl) (State.put_frame (hm.of rfl) (Allows.page (p := 25) rfl (hm.of rfl)) h0)
    · exact h0

theorem State.adcaCode_frame {m : Nat} {s0 : State} {x0 : State} {x1 : Nat} {x2 : List Int} (hm : Sub 0x2 m) (h0 : Frame m s0 x0) :
    Frame m s0 (State.adcaCode x0 x1 x2).2 := by
  unfold State.adcaCode
  extract_lets +onlyGivenNames -underBinder -merge y0
  try clear_value y0
  refine Frame.ite2 (fun _ => ?_) (fun _ => ?_)
  · exact Frame.snd h0
  · exact State.free_frame (hm.of rfl) h0

theorem State.adcaConverted_frame {m : Nat} {s0 : State} {x0 : State} {x1 : List Int} (hm : Sub 0x200000000400002 m) (h0 : Frame m s0 x0) :
    Frame m s0 (State.adcaConverted x0 x1) := by
  unfold State.adcaConverted
  split
  · refine Frame.ite (fun _ => ?_) (fun _ => ?_)
    · extract_lets +onlyGivenNames -underBinder -merge y0
      have g0 : Frame m s0 y0.2 := by
        exact State.adcaCode_frame (hm.of rfl) h0
      try clear_value y0
      extract_lets +onlyGivenNames -underBinder -merge y1
      have g1 : Frame m s0 y1 := by
        exact State.put_frame (hm.of rfl) (Allows.page (p := 25) rfl (hm.of rfl)) g0
      try clear_value y1
      exact Frame.ctl (hm.of rfl) g1
    · exact h0
  · exact h0

theorem State.adcaFinish_frame {m : Nat} {s0 : State} {x0 : State} (hm : Sub 0x70303d40046aa1a m) (h0 : Frame m s0 x0) :
    Frame m s0 (State.adcaFinish x0) := by
  unfold State.adcaFinish
  split
  · refine Frame.ite (fun _ => ?_) (fun _ => ?_)
    · refine State.fire_frame (hm.of rfl) ?_
      refine State.raise_frame (hm.of rfl) (Allows.page (p := 25) rfl (hm.of rfl)) ?_
      exact State.put_frame (hm.of rfl) (Allows.page (p := 25) rfl (hm.of rfl)) (Frame.ctl (hm.of rfl) h0)
    · exact h0
  · exact h0

theorem State.adcbCode_frame {m : Nat} {s0 : State} {x0 : State} {x1 : Nat} {x2 : AdcbInputs} (hm : Sub 0x2 m) (h0 : Frame m s0 x0) :
    Frame m s0 (State.adcbCode x0 x1 x2).2 := by
  unfold State.adcbCode
  split
  · exact Frame.snd h0
  · exact Frame.snd h0
  · exact Frame.snd h0
  · exact Frame.snd h0
  · exact Frame.snd h0
  · refine Frame.ite2 (fun _ => ?_) (fun _ => ?_)
    · exact Frame.snd h0
    · exact State.free_frame (hm.of rfl) h0

theorem State.adcbConverted_frame {m : Nat} {s0 : State} {x0 : State} {x1 : AdcbInputs} (hm : Sub 0x20000080040000a m) (h0 : Frame m s0 x0) :
    Frame m s0 (State.adcbConverted x0 x1) := by
  unfold State.adcbConverted
  refine Frame.ite (fun _ => ?_) (fun _ => ?_)
  · exact State.gaugeSampled_frame (hm.of rfl) h0
  · split
    · refine Frame.ite (fun _ => ?_) (fun _ => ?_)
      · extract_lets +onlyGivenNames -underBinder -merge y0
        have g0 : Frame m s0 y0.2 := by
          exact State.adcbCode_frame (hm.of rfl) h0
        try clear_value y0
        extract_lets +onlyGivenNames -underBinder -merge y1
        have g1 : Frame m s0 y1 := by
          exact State.put_frame (hm.of rfl) (Allows.page (p := 25) rfl (hm.of rfl)) g0
        try clear_value y1
        exact Frame.ctl (hm.of rfl) g1
      · exact h0
    · exact h0

theorem State.adcbFinish_frame {m : Nat} {s0 : State} {x0 : State} (hm : Sub 0x70303d40046aa1a m) (h0 : Frame m s0 x0) :
    Frame m s0 (State.adcbFinish x0) := by
  unfold State.adcbFinish
  split
  · refine Frame.ite (fun _ => ?_) (fun _ => ?_)
    · refine State.tryMppt_frame (hm.of rfl) ?_
      refine State.fire_frame (hm.of rfl) ?_
      refine State.raise_frame (hm.of rfl) (Allows.page (p := 25) rfl (hm.of rfl)) ?_
      refine State.put_frame (hm.of rfl) (Allows.page (p := 25) rfl (hm.of rfl)) ?_
      exact State.put_frame (hm.of rfl) (Allows.page (p := 25) rfl (hm.of rfl)) (Frame.ctl (hm.of rfl) h0)
    · exact h0
  · exact h0

theorem State.adcbTakeover_frame {m : Nat} {s0 : State} {x0 : State} (hm : Sub 0x200000000400008 m) (h0 : Frame m s0 x0) :
    Frame m s0 (State.adcbTakeover x0) := by
  unfold State.adcbTakeover
  refine Frame.ite (fun _ => ?_) (fun _ => ?_)
  · extract_lets +onlyGivenNames -underBinder -merge y0
    have g0 : Frame m s0 y0 := by
      refine State.when_frame (hm.of rfl) ?_ ?_
      · intro y1 g1
        refine State.tryMppt_frame (hm.of rfl) ?_
        refine State.raise_frame (hm.of rfl) (Allows.page (p := 25) rfl (hm.of rfl)) ?_
        refine State.put_frame (hm.of rfl) (Allows.page (p := 25) rfl (hm.of rfl)) ?_
        exact State.put_frame (hm.of rfl) (Allows.page (p := 25) rfl (hm.of rfl)) (Frame.supply_ctl (hm.of rfl) g1)
      · exact h0
    try clear_value y0
    exact State.put_frame (hm.of rfl) (Allows.page (p := 25) rfl (hm.of rfl)) g0
  · exact h0

theorem State.clampCmp_frame {m : Nat} {s0 : State} {x0 : State} {x1 : Nat} {x2 : Int} (hm : Sub 0x400000000000000 m) (h0 : Frame m s0 x0) :
    Frame m s0 (State.clampCmp x0 x1 x2) := by
  unfold State.clampCmp
  extract_lets +onlyGivenNames -underBinder -merge y0
  try clear_value y0
  refine State.when_frame (hm.of rfl) ?_ ?_
  · intro y1 g1
    exact State.raise_frame (hm.of rfl) (Allows.page (p := 26) rfl (hm.of rfl)) g1
  · exact State.put_frame (hm.of rfl) (Allows.page (p := 26) rfl (hm.of rfl)) h0

theorem State.commitStage_frame {m : Nat} {s0 : State} {x0 : Nat} {x1 : Sample} {x2 : State} {x3 : Nat} (hm : Sub 0x1000 m) (h2 : Frame m s0 x2) :
    Frame m s0 (State.commitStage x0 x1 x2 x3) := by
  unfold State.commitStage
  extract_lets +onlyGivenNames -underBinder -merge y0
  try clear_value y0
  extract_lets +onlyGivenNames -underBinder -merge y1
  try clear_value y1
  extract_lets +onlyGivenNames -underBinder -merge y2
  try clear_value y2
  extract_lets +onlyGivenNames -underBinder -merge y3
  have g3 : Frame m s0 y3 := by
    refine State.when_frame (hm.of rfl) ?_ ?_
    · intro y4 g4
      exact State.setWord_frame (hm.of rfl) g4
    · exact h2
  try clear_value y3
  extract_lets +onlyGivenNames -underBinder -merge y5
  have g5 : Frame m s0 y5 := by
    refine State.when_frame (hm.of rfl) ?_ ?_
    · intro y6 g6
      exact State.setWord_frame (hm.of rfl) g6
    · exact g3
  try clear_value y5
  exact State.setWord_frame (hm.of rfl) g5

theorem State.writeOutput_frame {m : Nat} {s0 : State} {x0 : State} {x1 : Nat} {x2 x3 : Int} (hm : Sub 0x400000 m) (h0 : Frame m s0 x0) :
    Frame m s0 (State.writeOutput x0 x1 x2 x3) := by
  unfold State.writeOutput
  refine Frame.ite (fun _ => ?_) (fun _ => ?_)
  · exact h0
  · exact Frame.ctl (hm.of rfl) h0

theorem State.commit_frame {m : Nat} {s0 : State} {x0 : State} {x1 : Nat} (hm : Sub 0x70303d40046ba1a m) (h0 : Frame m s0 x0) :
    Frame m s0 (State.commit x0 x1) := by
  unfold State.commit
  split
  · exact h0
  · extract_lets +onlyGivenNames -underBinder -merge y0
    try clear_value y0
    refine Frame.ite (fun _ => ?_) (fun _ => ?_)
    · exact h0
    · extract_lets +onlyGivenNames -underBinder -merge y1
      try clear_value y1
      extract_lets +onlyGivenNames -underBinder -merge y2
      have g2 : Frame m s0 y2 := by
        refine Frame.foldl ?_ ?_
        · intro y3 y4 g3
          exact State.commitStage_frame (hm.of rfl) g3
        · exact h0
      try clear_value y2
      extract_lets +onlyGivenNames -underBinder -merge y5
      have g5 : Frame m s0 y5 := by
        exact State.writeOutput_frame (hm.of rfl) g2
      try clear_value y5
      extract_lets +onlyGivenNames -underBinder -merge y6
      have g6 : Frame m s0 y6 := by
        exact State.abandonSample_frame (hm.of rfl) (State.loopLine_frame (hm.of rfl) g5)
      try clear_value y6
      exact State.fire_frame (hm.of rfl) g6

theorem State.keepRange_frame {m : Nat} {s0 : State} {x0 : State} {x1 : Nat} {x2 : State} (hm : Sub 0x100000000000000 m) (h0 : Frame m s0 x0) :
    Frame m s0 (State.keepRange x0 x1 x2) := by
  unfold State.keepRange
  exact State.put_frame (hm.of rfl) (Allows.page (p := 24) rfl (hm.of rfl)) (State.put_frame (hm.of rfl) (Allows.page (p := 24) rfl (hm.of rfl)) h0)

theorem State.dropSample_frame {m : Nat} {s0 : State} {x0 : State} {x1 : Nat} (hm : Sub 0x100000000400002 m) (h0 : Frame m s0 x0) :
    Frame m s0 (State.dropSample x0 x1) := by
  unfold State.dropSample
  extract_lets +onlyGivenNames -underBinder -merge y0
  have g0 : Frame m s0 y0 := by
    exact State.setSample_frame (hm.of rfl) (State.clear_frame (hm.of rfl) (Allows.page (p := 24) rfl (hm.of rfl)) h0)
  try clear_value y0
  refine State.when_frame (hm.of rfl) ?_ ?_
  · intro y1 g1
    exact State.engineNext_frame (hm.of rfl) (Frame.ctl (hm.of rfl) g1)
  · exact g0

theorem State.loopOff_frame {m : Nat} {s0 : State} {x0 : State} {x1 : Nat} {x2 : State} (hm : Sub 0x500000000400002 m) (h0 : Frame m s0 x0) :
    Frame m s0 (State.loopOff x0 x1 x2) := by
  unfold State.loopOff
  refine State.when_frame (hm.of rfl) ?_ ?_
  · intro y0 g0
    exact State.forceSafe_frame (hm.of rfl) g0
  · exact State.dropSample_frame (hm.of rfl) h0

theorem State.loopCfgWritten_frame {m : Nat} {s0 : State} {x0 : State} {x1 : Nat} {x2 : State} (hm : Sub 0x500000000400002 m) (h0 : Frame m s0 x0) :
    Frame m s0 (State.loopCfgWritten x0 x1 x2) := by
  unfold State.loopCfgWritten
  extract_lets +onlyGivenNames -underBinder -merge y0
  have g0 : Frame m s0 y0 := by
    refine Frame.ite (fun _ => ?_) (fun _ => ?_)
    · exact h0
    · refine Frame.ite (fun _ => ?_) (fun _ => ?_)
      · exact State.keepRange_frame (hm.of rfl) h0
      · refine Frame.ite (fun _ => ?_) (fun _ => ?_)
        · exact h0
        · exact State.raise_frame (hm.of rfl) (Allows.page (p := 24) rfl (hm.of rfl)) (State.keepRange_frame (hm.of rfl) h0)
  try clear_value y0
  extract_lets +onlyGivenNames -underBinder -merge y1
  have g1 : Frame m s0 y1 := by
    refine State.when_frame (hm.of rfl) ?_ ?_
    · intro y2 g2
      refine State.putB_frame (hm.of rfl) (Allows.page (p := 24) rfl (hm.of rfl)) ?_
      exact State.put_frame (hm.of rfl) (Allows.page (p := 24) rfl (hm.of rfl)) g2
    · exact g0
  try clear_value y1
  refine Frame.ite (fun _ => ?_) (fun _ => ?_)
  · refine Frame.ite (fun _ => ?_) (fun _ => ?_)
    · exact g1
    · refine State.raise_frame (hm.of rfl) (Allows.page (p := 24) rfl (hm.of rfl)) ?_
      exact State.put_frame (hm.of rfl) (Allows.page (p := 24) rfl (hm.of rfl)) g1
  · refine Frame.ite (fun _ => ?_) (fun _ => ?_)
    · exact State.loopOff_frame (hm.of rfl) g1
    · exact g1

theorem State.ctrlWrote_frame {m : Nat} {s0 : State} {x0 : State} {x1 : Nat} {x2 : State} (hm : Sub 0x500000000400002 m) (h0 : Frame m s0 x0) :
    Frame m s0 (State.ctrlWrote x0 x1 x2) := by
  unfold State.ctrlWrote
  refine Frame.ite (fun _ => ?_) (fun _ => ?_)
  · exact State.loopCfgWritten_frame (hm.of rfl) h0
  · exact h0

theorem State.faultPad_frame {m : Nat} {s0 : State} {x0 : State} {x1 : Bool} (hm : Sub 0x2070303d40046aa1a m) (h0 : Frame m s0 x0) :
    Frame m s0 (State.faultPad x0 x1) := by
  unfold State.faultPad
  refine State.when_frame (hm.of rfl) ?_ ?_
  · intro y0 g0
    exact State.padAccept_frame (hm.of rfl) g0
  · exact h0

theorem State.pwmFault_frame {m : Nat} {s0 : State} {x0 : State} (hm : Sub 0x2070303d40046aa1a m) (h0 : Frame m s0 x0) :
    Frame m s0 (State.pwmFault x0) := by
  unfold State.pwmFault
  extract_lets +onlyGivenNames -underBinder -merge y0
  have g0 : Frame m s0 y0 := by
    exact State.put_frame (hm.of rfl) (Allows.page (p := 26) rfl (hm.of rfl)) h0
  try clear_value y0
  extract_lets +onlyGivenNames -underBinder -merge y1
  have g1 : Frame m s0 y1 := by
    refine State.when_frame (hm.of rfl) ?_ ?_
    · intro y2 g2
      refine State.raise_frame (hm.of rfl) (Allows.page (p := 26) rfl (hm.of rfl)) ?_
      refine Frame.foldl ?_ ?_
      · intro y3 y4 g3
        refine State.put_frame (hm.of rfl) (Allows.page (p := 26) rfl (hm.of rfl)) ?_
        refine State.when_frame (hm.of rfl) ?_ ?_
        · intro y5 g5
          exact State.raise_frame (hm.of rfl) (Allows.page (p := 26) rfl (hm.of rfl)) g5
        · exact g3
      · exact g2
    · exact g0
  try clear_value y1
  exact State.faultPad_frame (hm.of rfl) g1

theorem State.faultJudge_frame {m : Nat} {s0 : State} {x0 : State} (hm : Sub 0x2070303d40046aa1a m) (h0 : Frame m s0 x0) :
    Frame m s0 (State.faultJudge x0) := by
  unfold State.faultJudge
  refine State.when_frame (hm.of rfl) ?_ ?_
  · intro y0 g0
    exact State.pwmFault_frame (hm.of rfl) g0
  · exact h0

theorem State.loopDeadline_frame {m : Nat} {s0 : State} {x0 : State} {x1 : Nat} (hm : Sub 0x10003c000400202 m) (h0 : Frame m s0 x0) :
    Frame m s0 (State.loopDeadline x0 x1) := by
  unfold State.loopDeadline
  refine Frame.ite (fun _ => ?_) (fun _ => ?_)
  · exact State.abandonSample_frame (hm.of rfl) (State.loopMiss_frame (hm.of rfl) h0)
  · exact h0

theorem State.noteWrap_frame {m : Nat} {s0 : State} {x0 : State} {x1 x2 : Nat} (hm : Sub 0x100000000000000 m) (h0 : Frame m s0 x0) :
    Frame m s0 (State.noteWrap x0 x1 x2) := by
  unfold State.noteWrap
  refine State.loopLine_frame (hm.of rfl) ?_
  refine State.raise_frame (hm.of rfl) (Allows.page (p := 24) rfl (hm.of rfl)) ?_
  exact State.raise_frame (hm.of rfl) (Allows.page (p := 24) rfl (hm.of rfl)) h0

theorem State.outputWritten_frame {m : Nat} {s0 : State} {x0 : State} {x1 x2 : Nat} {x3 : Int} (hm : Sub 0x500000000000000 m) (h0 : Frame m s0 x0) :
    Frame m s0 (State.outputWritten x0 x1 x2 x3) := by
  unfold State.outputWritten
  refine Frame.ite (fun _ => ?_) (fun _ => ?_)
  · exact State.raise_frame (hm.of rfl) (Allows.page (p := 24) rfl (hm.of rfl)) h0
  · exact State.clampCmp_frame (hm.of rfl) h0

theorem State.sideCount_frame {m : Nat} {s0 : State} {x0 x1 : State} {x2 x3 : Nat} (hm : Sub 0x400000 m) (h0 : Frame m s0 x0) :
    Frame m s0 (State.sideCount x0 x1 x2 x3) := by
  unfold State.sideCount
  extract_lets +onlyGivenNames -underBinder -merge y0
  try clear_value y0
  exact Frame.ctl (hm.of rfl) h0

theorem State.pairCount_frame {m : Nat} {s0 : State} {x0 : State} {x1 : Nat} (hm : Sub 0x400000000400000 m) (h0 : Frame m s0 x0) :
    Frame m s0 (State.pairCount x0 x1) := by
  unfold State.pairCount
  refine Frame.ite (fun _ => ?_) (fun _ => ?_)
  · exact h0
  · refine State.sideCount_frame (hm.of rfl) ?_
    extract_lets +onlyGivenNames -underBinder -merge y0
    try clear_value y0
    extract_lets +onlyGivenNames -underBinder -merge y1
    try clear_value y1
    refine Frame.ite (fun _ => ?_) (fun _ => ?_)
    · exact State.put_frame (hm.of rfl) (Allows.page (p := 26) rfl (hm.of rfl)) h0
    · refine Frame.ite (fun _ => ?_) (fun _ => ?_)
      · exact State.put_frame (hm.of rfl) (Allows.page (p := 26) rfl (hm.of rfl)) h0
      · exact State.put_frame (hm.of rfl) (Allows.page (p := 26) rfl (hm.of rfl)) h0

theorem State.pairForce_frame {m : Nat} {s0 : State} {x0 : State} {x1 x2 x3 x4 : Nat} (hm : Sub 0x400000 m) (h0 : Frame m s0 x0) :
    Frame m s0 (State.pairForce x0 x1 x2 x3 x4) := by
  unfold State.pairForce
  exact Frame.ctl (hm.of rfl) h0

theorem State.pairOff_frame {m : Nat} {s0 : State} {x0 : State} {x1 : Nat} (hm : Sub 0x400000000000000 m) (h0 : Frame m s0 x0) :
    Frame m s0 (State.pairOff x0 x1) := by
  unfold State.pairOff
  refine State.put_frame (hm.of rfl) (Allows.page (p := 26) rfl (hm.of rfl)) ?_
  exact State.put_frame (hm.of rfl) (Allows.page (p := 26) rfl (hm.of rfl)) (State.put_frame (hm.of rfl) (Allows.page (p := 26) rfl (hm.of rfl)) h0)

theorem State.periodStart_frame {m : Nat} {s0 : State} {x0 : State} {x1 : Nat} (hm : Sub 0x70303d40046aa1a m) (h0 : Frame m s0 x0) :
    Frame m s0 (State.periodStart x0 x1) := by
  unfold State.periodStart
  extract_lets +onlyGivenNames -underBinder -merge y0
  have g0 : Frame m s0 y0 := by
    exact h0
  try clear_value y0
  extract_lets +onlyGivenNames -underBinder -merge y1
  have g1 : Frame m s0 y1 := by
    exact State.clampCmp_frame (hm.of rfl) h0
  try clear_value y1
  extract_lets +onlyGivenNames -underBinder -merge y2
  have g2 : Frame m s0 y2 := by
    refine State.sideCount_frame (hm.of rfl) ?_
    exact State.put_frame (hm.of rfl) (Allows.page (p := 26) rfl (hm.of rfl)) (State.pairForce_frame (hm.of rfl) g1)
  try clear_value y2
  extract_lets +onlyGivenNames -underBinder -merge y3
  have g3 : Frame m s0 y3 := by
    refine State.when_frame (hm.of rfl) ?_ ?_
    · intro y4 g4
      exact State.put_frame (hm.of rfl) (Allows.page (p := 26) rfl (hm.of rfl)) g4
    · exact g2
  try clear_value y3
  exact State.fire_frame (hm.of rfl) (State.raise_frame (hm.of rfl) (Allows.page (p := 26) rfl (hm.of rfl)) g3)

theorem State.pairOn_frame {m : Nat} {s0 : State} {x0 : State} {x1 : Nat} (hm : Sub 0x70303d40046aa1a m) (h0 : Frame m s0 x0) :
    Frame m s0 (State.pairOn x0 x1) := by
  unfold State.pairOn
  extract_lets +onlyGivenNames -underBinder -merge y0
  have g0 : Frame m s0 y0 := by
    refine State.periodStart_frame (hm.of rfl) ?_
    refine State.when_frame (hm.of rfl) ?_ ?_
    · intro y1 g1
      exact State.forceSafe_frame (hm.of rfl) g1
    · exact h0
  try clear_value y0
  exact Frame.ctl (hm.of rfl) g0

theorem State.pairWritten_frame {m : Nat} {s0 : State} {x0 : State} {x1 : Nat} {x2 : State} (hm : Sub 0x70303d40046aa1a m) (h0 : Frame m s0 x0) :
    Frame m s0 (State.pairWritten x0 x1 x2) := by
  unfold State.pairWritten
  extract_lets +onlyGivenNames -underBinder -merge y0
  have g0 : Frame m s0 y0 := by
    refine State.when_frame (hm.of rfl) ?_ ?_
    · intro y1 g1
      refine State.put_frame (hm.of rfl) (Allows.page (p := 26) rfl (hm.of rfl)) ?_
      exact State.put_frame (hm.of rfl) (Allows.page (p := 26) rfl (hm.of rfl)) g1
    · exact h0
  try clear_value y0
  extract_lets +onlyGivenNames -underBinder -merge y2
  have g2 : Frame m s0 y2 := by
    refine State.when_frame (hm.of rfl) ?_ ?_
    · intro y3 g3
      refine State.when_frame (hm.of rfl) ?_ ?_
      · intro y4 g4
        exact State.put_frame (hm.of rfl) (Allows.page (p := 26) rfl (hm.of rfl)) g4
      · exact State.put_frame (hm.of rfl) (Allows.page (p := 26) rfl (hm.of rfl)) g3
    · exact g0
  try clear_value y2
  refine Frame.ite (fun _ => ?_) (fun _ => ?_)
  · exact State.pairOn_frame (hm.of rfl) g2
  · refine Frame.ite (fun _ => ?_) (fun _ => ?_)
    · exact State.pairOff_frame (hm.of rfl) g2
    · exact g2

theorem State.pairsSafe_frame {m : Nat} {s0 : State} {x0 : State} {x1 : Bool} (hm : Sub 0x400000000000000 m) (h0 : Frame m s0 x0) :
    Frame m s0 (State.pairsSafe x0 x1) := by
  unfold State.pairsSafe
  refine Frame.foldl ?_ ?_
  · intro y0 y1 g0
    refine Frame.ite (fun _ => ?_) (fun _ => ?_)
    · exact State.pairOff_frame (hm.of rfl) g0
    · exact State.put_frame (hm.of rfl) (Allows.page (p := 26) rfl (hm.of rfl)) g0
  · exact h0

theorem State.periodCentre_frame {m : Nat} {s0 : State} {x0 : State} {x1 : Nat} (hm : Sub 0x70303d40046aa1a m) (h0 : Frame m s0 x0) :
    Frame m s0 (State.periodCentre x0 x1) := by
  unfold State.periodCentre
  extract_lets +onlyGivenNames -underBinder -merge y0
  try clear_value y0
  extract_lets +onlyGivenNames -underBinder -merge y1
  have g1 : Frame m s0 y1 := by
    exact State.put_frame (hm.of rfl) (Allows.page (p := 26) rfl (hm.of rfl)) h0
  try clear_value y1
  extract_lets +onlyGivenNames -underBinder -merge y2
  have g2 : Frame m s0 y2 := by
    refine State.when_frame (hm.of rfl) ?_ ?_
    · intro y3 g3
      exact Frame.ctl (hm.of rfl) g3
    · exact g1
  try clear_value y2
  exact State.fire_frame (hm.of rfl) g2

theorem State.pwmFaultEnd_frame {m : Nat} {s0 : State} {x0 : State} (hm : Sub 0x2070303d40046aa1a m) (h0 : Frame m s0 x0) :
    Frame m s0 (State.pwmFaultEnd x0) := by
  unfold State.pwmFaultEnd
  refine Frame.ite (fun _ => ?_) (fun _ => ?_)
  · exact h0
  · exact State.faultPad_frame (hm.of rfl) (State.put_frame (hm.of rfl) (Allows.page (p := 26) rfl (hm.of rfl)) h0)

theorem State.pwmWrote_frame {m : Nat} {s0 : State} {x0 : State} {x1 : Nat} {x2 : State} (hm : Sub 0x70303d40046aa1a m) (h0 : Frame m s0 x0) :
    Frame m s0 (State.pwmWrote x0 x1 x2) := by
  unfold State.pwmWrote
  refine Frame.ite (fun _ => ?_) (fun _ => ?_)
  · extract_lets +onlyGivenNames -underBinder -merge y0
    try clear_value y0
    refine Frame.ite (fun _ => ?_) (fun _ => ?_)
    · exact State.pairWritten_frame (hm.of rfl) h0
    · refine Frame.ite (fun _ => ?_) (fun _ => ?_)
      · exact State.clampCmp_frame (hm.of rfl) h0
      · exact h0
  · exact h0

theorem State.stageSpoilt_frame {m : Nat} {s0 : State} {x0 : State} {x1 x2 : Nat} (hm : Sub 0x10003c000400202 m) (h0 : Frame m s0 x0) :
    Frame m s0 (State.stageSpoilt x0 x1 x2) := by
  unfold State.stageSpoilt
  exact State.abandonSample_frame (hm.of rfl) (State.eccRecord_frame (hm.of rfl) h0)

theorem State.stageEnd_frame {m : Nat} {s0 : State} {x0 : State} {x1 : Bool} (hm : Sub 0x10003c000401202 m) (h0 : Frame m s0 x0) :
    Frame m s0 (State.stageEnd x0 x1) := by
  unfold State.stageEnd
  split
  · exact h0
  · split
    · exact h0
    · split
      · exact h0
      · extract_lets +onlyGivenNames -underBinder -merge y0
        try clear_value y0
        extract_lets +onlyGivenNames -underBinder -merge y1
        try clear_value y1
        split
        · exact State.stageSpoilt_frame (hm.of rfl) h0
        · exact State.stageSpoilt_frame (hm.of rfl) (State.setEcc_frame (hm.of rfl) h0)
        · extract_lets +onlyGivenNames -underBinder -merge y2
          have g2 : Frame m s0 y2 := by
            refine State.when_frame (hm.of rfl) ?_ ?_
            · intro y3 g3
              exact State.noteWrap_frame (hm.of rfl) g3
            · exact h0
          try clear_value y2
          extract_lets +onlyGivenNames -underBinder -merge y4
          have g4 : Frame m s0 y4 := by
            exact State.setSample_frame (hm.of rfl) g2
          try clear_value y4
          refine Frame.ite (fun _ => ?_) (fun _ => ?_)
          · exact State.engineNext_frame (hm.of rfl) (Frame.ctl (hm.of rfl) g4)
          · exact g4

theorem State.stopLoops_frame {m : Nat} {s0 : State} {x0 : State} (hm : Sub 0x10003c000400200 m) (h0 : Frame m s0 x0) :
    Frame m s0 (State.stopLoops x0) := by
  unfold State.stopLoops
  refine Frame.foldl ?_ ?_
  · intro y0 y1 g0
    extract_lets +onlyGivenNames -underBinder -merge y2
    have g2 : Frame m s0 y2 := by
      refine State.when_frame (hm.of rfl) ?_ ?_
      · intro y3 g3
        exact State.loopMiss_frame (hm.of rfl) g3
      · exact g0
    try clear_value y2
    extract_lets +onlyGivenNames -underBinder -merge y4
    have g4 : Frame m s0 y4 := by
      refine State.when_frame (hm.of rfl) ?_ ?_
      · intro y5 g5
        exact State.loopMiss_frame (hm.of rfl) g5
      · exact g2
    try clear_value y4
    exact State.setSample_frame (hm.of rfl) (State.clear_frame (hm.of rfl) (Allows.page (p := 24) rfl (hm.of rfl)) g4)
  · exact Frame.ctl (hm.of rfl) h0

theorem State.writeOutputs_frame {m : Nat} {s0 : State} {x0 : State} (hm : Sub 0x500000000400000 m) (h0 : Frame m s0 x0) :
    Frame m s0 (State.writeOutputs x0) := by
  unfold State.writeOutputs
  refine Frame.foldl ?_ ?_
  · intro y0 y1 g0
    exact State.outputWritten_frame (hm.of rfl) g0
  · exact Frame.ctl (hm.of rfl) h0

/-! ### Machine/Tooth -/

theorem State.modTooth_frame {m : Nat} {s0 : State} {x0 : State} {x1 : Nat} {x2 : Tooth → Tooth} (hm : Sub 0x800000 m) (h0 : Frame m s0 x0) :
    Frame m s0 (State.modTooth x0 x1 x2) := by
  unfold State.modTooth
  exact Frame.tooth (hm.of rfl) h0

theorem State.targetMoved_frame {m : Nat} {s0 : State} {x0 : State} {x1 x2 : Nat} (hm : Sub 0x800000 m) (h0 : Frame m s0 x0) :
    Frame m s0 (State.targetMoved x0 x1 x2) := by
  unfold State.targetMoved
  extract_lets +onlyGivenNames -underBinder -merge y0
  try clear_value y0
  exact State.modTooth_frame (hm.of rfl) h0

theorem State.scheduleHit_frame {m : Nat} {s0 : State} {x0 : State} {x1 x2 : Nat} (hm : Sub 0x800000000800000 m) (h0 : Frame m s0 x0) :
    Frame m s0 (State.scheduleHit x0 x1 x2) := by
  unfold State.scheduleHit
  extract_lets +onlyGivenNames -underBinder -merge y0
  try clear_value y0
  extract_lets +onlyGivenNames -underBinder -merge y1
  have g1 : Frame m s0 y1 := by
    refine State.putB_frame (hm.of rfl) (Allows.page (p := 27) rfl (hm.of rfl)) ?_
    refine State.raise_frame (hm.of rfl) (Allows.page (p := 27) rfl (hm.of rfl)) ?_
    exact State.raise_frame (hm.of rfl) (Allows.page (p := 27) rfl (hm.of rfl)) h0
  try clear_value y1
  extract_lets +onlyGivenNames -underBinder -merge y2
  have g2 : Frame m s0 y2 := by
    exact State.modTooth_frame (hm.of rfl) g1
  try clear_value y2
  extract_lets +onlyGivenNames -underBinder -merge y3
  try clear_value y3
  extract_lets +onlyGivenNames -underBinder -merge y4
  have g4 : Frame m s0 y4 := by
    refine Frame.ite (fun _ => ?_) (fun _ => ?_)
    · exact State.put_frame (hm.of rfl) (Allows.page (p := 27) rfl (hm.of rfl)) g2
    · exact State.put_frame (hm.of rfl) (Allows.page (p := 27) rfl (hm.of rfl)) g2
  try clear_value y4
  exact State.targetMoved_frame (hm.of rfl) g4

theorem State.judgeSchedules_frame {m : Nat} {s0 : State} {x0 : State} {x1 : Nat} {x2 : List Nat}
    (hm : Sub 0xf0303d400c6aa1a m) (h0 : Frame m s0 x0) : Frame m s0 (State.judgeSchedules x0 x1 x2) := by
  unfold State.judgeSchedules
  extract_lets +onlyGivenNames -underBinder -merge y0
  try clear_value y0
  refine Frame.ite (fun _ => ?_) (fun _ => ?_)
  · exact h0
  · refine State.fire_frame (hm.of rfl) ?_
    refine Frame.foldl ?_ ?_
    · intro y1 y2 g1
      exact State.scheduleHit_frame (hm.of rfl) g1
    · exact h0

theorem State.predict_frame {m : Nat} {s0 : State} {x0 : State} {x1 x2 : Nat} (hm : Sub 0x800000000000000 m) (h0 : Frame m s0 x0) :
    Frame m s0 (State.predict x0 x1 x2) := by
  unfold State.predict
  extract_lets +onlyGivenNames -underBinder -merge y0
  try clear_value y0
  exact State.put_frame (hm.of rfl) (Allows.page (p := 27) rfl (hm.of rfl)) h0

theorem State.toothMark_frame {m : Nat} {s0 : State} {x0 : State} {x1 x2 : Nat} (hm : Sub 0x800000000800000 m) (h0 : Frame m s0 x0) :
    Frame m s0 (State.toothMark x0 x1 x2) := by
  unfold State.toothMark
  extract_lets +onlyGivenNames -underBinder -merge y0
  have g0 : Frame m s0 y0 := by
    refine State.put_frame (hm.of rfl) (Allows.page (p := 27) rfl (hm.of rfl)) ?_
    exact State.put_frame (hm.of rfl) (Allows.page (p := 27) rfl (hm.of rfl)) (State.put_frame (hm.of rfl) (Allows.page (p := 27) rfl (hm.of rfl)) h0)
  try clear_value y0
  exact State.modTooth_frame (hm.of rfl) g0

theorem State.toothStep_frame {m : Nat} {s0 : State} {x0 : State} {x1 : Nat} (hm : Sub 0x800000000000000 m) (h0 : Frame m s0 x0) :
    Frame m s0 (State.toothStep x0 x1) := by
  unfold State.toothStep
  exact State.put_frame (hm.of rfl) (Allows.page (p := 27) rfl (hm.of rfl)) h0

theorem State.toothAccept_frame {m : Nat} {s0 : State} {x0 : State} {x1 x2 x3 : Nat} (hm : Sub 0x800000000800000 m) (h0 : Frame m s0 x0) :
    Frame m s0 (State.toothAccept x0 x1 x2 x3) := by
  unfold State.toothAccept
  exact State.put_frame (hm.of rfl) (Allows.page (p := 27) rfl (hm.of rfl)) (State.toothMark_frame (hm.of rfl) (State.toothStep_frame (hm.of rfl) h0))

theorem State.toothAcquired_frame {m : Nat} {s0 : State} {x0 : State} {x1 x2 x3 : Nat} (hm : Sub 0x800000000800000 m) (h0 : Frame m s0 x0) :
    Frame m s0 (State.toothAcquired x0 x1 x2 x3) := by
  unfold State.toothAcquired
  extract_lets +onlyGivenNames -underBinder -merge y0
  have g0 : Frame m s0 y0 := by
    refine State.when_frame (hm.of rfl) ?_ ?_
    · intro y1 g1
      exact State.put_frame (hm.of rfl) (Allows.page (p := 27) rfl (hm.of rfl)) g1
    · exact h0
  try clear_value y0
  extract_lets +onlyGivenNames -underBinder -merge y2
  have g2 : Frame m s0 y2 := by
    exact State.toothAccept_frame (hm.of rfl) g0
  try clear_value y2
  refine State.when_frame (hm.of rfl) ?_ ?_
  · intro y3 g3
    exact State.put_frame (hm.of rfl) (Allows.page (p := 27) rfl (hm.of rfl)) g3
  · exact g2

theorem State.toothTracked_frame {m : Nat} {s0 : State} {x0 : State} {x1 x2 x3 : Nat} (hm : Sub 0x800000000800000 m) (h0 : Frame m s0 x0) :
    Frame m s0 (State.toothTracked x0 x1 x2 x3) := by
  unfold State.toothTracked
  refine Frame.ite (fun _ => ?_) (fun _ => ?_)
  · refine Frame.ite (fun _ => ?_) (fun _ => ?_)
    · extract_lets +onlyGivenNames -underBinder -merge y0
      try clear_value y0
      extract_lets +onlyGivenNames -underBinder -merge y1
      have g1 : Frame m s0 y1 := by
        refine State.put_frame (hm.of rfl) (Allows.page (p := 27) rfl (hm.of rfl)) ?_
        exact State.toothMark_frame (hm.of rfl) (State.predict_frame (hm.of rfl) h0)
      try clear_value y1
      refine State.raise_frame (hm.of rfl) (Allows.page (p := 27) rfl (hm.of rfl)) ?_
      refine State.raise_frame (hm.of rfl) (Allows.page (p := 27) rfl (hm.of rfl)) ?_
      exact State.put_frame (hm.of rfl) (Allows.page (p := 27) rfl (hm.of rfl)) g1
    · exact State.toothAccept_frame (hm.of rfl) h0
  · refine Frame.ite (fun _ => ?_) (fun _ => ?_)
    · refine State.raise_frame (hm.of rfl) (Allows.page (p := 27) rfl (hm.of rfl)) ?_
      exact State.raise_frame (hm.of rfl) (Allows.page (p := 27) rfl (hm.of rfl)) h0
    · exact State.toothAccept_frame (hm.of rfl) (State.predict_frame (hm.of rfl) h0)

theorem State.toothEdge_frame {m : Nat} {s0 : State} {x0 : State} {x1 : Nat} {x2 : Bool} {x3 : Nat}
    (hm : Sub 0xf0303d400c6aa1a m) (h0 : Frame m s0 x0) : Frame m s0 (State.toothEdge x0 x1 x2 x3) := by
  unfold State.toothEdge
  refine Frame.ite (fun _ => ?_) (fun _ => ?_)
  · exact h0
  · extract_lets +onlyGivenNames -underBinder -merge y0
    try clear_value y0
    extract_lets +onlyGivenNames -underBinder -merge y1
    try clear_value y1
    extract_lets +onlyGivenNames -underBinder -merge y2
    try clear_value y2
    extract_lets +onlyGivenNames -underBinder -merge y3
    have g3 : Frame m s0 y3 := by
      unfold y3
      split
      · exact State.toothAcquired_frame (hm.of rfl) h0
      · exact State.toothTracked_frame (hm.of rfl) h0
      · exact State.put_frame (hm.of rfl) (Allows.page (p := 27) rfl (hm.of rfl)) (State.toothAccept_frame (hm.of rfl) h0)
      · exact h0
    try clear_value y3
    refine State.when_frame (hm.of rfl) ?_ ?_
    · intro y4 g4
      exact State.judgeSchedules_frame (hm.of rfl) g4
    · exact g3

theorem State.toothEnter_frame {m : Nat} {s0 : State} {x0 : State} {x1 : Nat} {x2 : Bool} (hm : Sub 0x800000000800000 m) (h0 : Frame m s0 x0) :
    Frame m s0 (State.toothEnter x0 x1 x2) := by
  unfold State.toothEnter
  extract_lets +onlyGivenNames -underBinder -merge y0
  have g0 : Frame m s0 y0 := by
    exact State.put_frame (hm.of rfl) (Allows.page (p := 27) rfl (hm.of rfl)) h0
  try clear_value y0
  extract_lets +onlyGivenNames -underBinder -merge y1
  have g1 : Frame m s0 y1 := by
    refine State.when_frame (hm.of rfl) ?_ ?_
    · intro y2 g2
      exact State.put_frame (hm.of rfl) (Allows.page (p := 27) rfl (hm.of rfl)) g2
    · exact g0
  try clear_value y1
  refine State.modTooth_frame (hm.of rfl) ?_
  exact State.put_frame (hm.of rfl) (Allows.page (p := 27) rfl (hm.of rfl)) (State.put_frame (hm.of rfl) (Allows.page (p := 27) rfl (hm.of rfl)) g1)

theorem State.toothStop_frame {m : Nat} {s0 : State} {x0 : State} {x1 : Nat} (hm : Sub 0x800000000800000 m) (h0 : Frame m s0 x0) :
    Frame m s0 (State.toothStop x0 x1) := by
  unfold State.toothStop
  extract_lets +onlyGivenNames -underBinder -merge y0
  have g0 : Frame m s0 y0 := by
    exact State.modTooth_frame (hm.of rfl) h0
  try clear_value y0
  extract_lets +onlyGivenNames -underBinder -merge y1
  have g1 : Frame m s0 y1 := by
    refine State.put_frame (hm.of rfl) (Allows.page (p := 27) rfl (hm.of rfl)) ?_
    exact State.put_frame (hm.of rfl) (Allows.page (p := 27) rfl (hm.of rfl)) (State.put_frame (hm.of rfl) (Allows.page (p := 27) rfl (hm.of rfl)) g0)
  try clear_value y1
  refine State.raise_frame (hm.of rfl) (Allows.page (p := 27) rfl (hm.of rfl)) ?_
  refine State.raise_frame (hm.of rfl) (Allows.page (p := 27) rfl (hm.of rfl)) ?_
  exact State.put_frame (hm.of rfl) (Allows.page (p := 27) rfl (hm.of rfl)) (State.put_frame (hm.of rfl) (Allows.page (p := 27) rfl (hm.of rfl)) g1)

theorem State.toothMissed_frame {m : Nat} {s0 : State} {x0 : State} {x1 : Nat} (hm : Sub 0xf0303d400c6aa1a m) (h0 : Frame m s0 x0) :
    Frame m s0 (State.toothMissed x0 x1) := by
  unfold State.toothMissed
  extract_lets +onlyGivenNames -underBinder -merge y0
  try clear_value y0
  refine Frame.ite (fun _ => ?_) (fun _ => ?_)
  · exact h0
  · refine Frame.ite (fun _ => ?_) (fun _ => ?_)
    · extract_lets +onlyGivenNames -underBinder -merge y1
      have g1 : Frame m s0 y1 := by
        exact State.toothStop_frame (hm.of rfl) h0
      try clear_value y1
      refine State.when_frame (hm.of rfl) ?_ ?_
      · intro y2 g2
        exact State.judgeSchedules_frame (hm.of rfl) g2
      · exact g1
    · extract_lets +onlyGivenNames -underBinder -merge y3
      try clear_value y3
      extract_lets +onlyGivenNames -underBinder -merge y4
      try clear_value y4
      extract_lets +onlyGivenNames -underBinder -merge y5
      have g5 : Frame m s0 y5 := by
        refine State.put_frame (hm.of rfl) (Allows.page (p := 27) rfl (hm.of rfl)) ?_
        exact State.put_frame (hm.of rfl) (Allows.page (p := 27) rfl (hm.of rfl)) (State.toothStep_frame (hm.of rfl) h0)
      try clear_value y5
      extract_lets +onlyGivenNames -underBinder -merge y6
      have g6 : Frame m s0 y6 := by
        exact State.modTooth_frame (hm.of rfl) g5
      try clear_value y6
      refine State.judgeSchedules_frame (hm.of rfl) ?_
      refine State.raise_frame (hm.of rfl) (Allows.page (p := 27) rfl (hm.of rfl)) ?_
      exact State.raise_frame (hm.of rfl) (Allows.page (p := 27) rfl (hm.of rfl)) g6

theorem State.toothReleased_frame {m : Nat} {s0 : State} {x0 : State} (hm : Sub 0x800000000800000 m) (h0 : Frame m s0 x0) :
    Frame m s0 (State.toothReleased x0) := by
  unfold State.toothReleased
  refine Frame.foldl ?_ ?_
  · intro y0 y1 g0
    refine State.when_frame (hm.of rfl) ?_ ?_
    · intro y2 g2
      exact State.toothEnter_frame (hm.of rfl) g2
    · exact g0
  · exact h0

theorem State.toothWrote_frame {m : Nat} {s0 : State} {x0 : State} {x1 : Nat} {x2 : State} (hm : Sub 0xf0303d400c6aa1a m) (h0 : Frame m s0 x0) :
    Frame m s0 (State.toothWrote x0 x1 x2) := by
  unfold State.toothWrote
  refine Frame.ite (fun _ => ?_) (fun _ => ?_)
  · exact h0
  · extract_lets +onlyGivenNames -underBinder -merge y0
    try clear_value y0
    extract_lets +onlyGivenNames -underBinder -merge y1
    try clear_value y1
    refine Frame.ite (fun _ => ?_) (fun _ => ?_)
    · refine Frame.ite (fun _ => ?_) (fun _ => ?_)
      · exact State.toothEnter_frame (hm.of rfl) h0
      · refine State.when_frame (hm.of rfl) ?_ ?_
        · intro y2 g2
          exact State.put_frame (hm.of rfl) (Allows.page (p := 27) rfl (hm.of rfl)) g2
        · exact h0
    · refine Frame.ite (fun _ => ?_) (fun _ => ?_)
      · refine Frame.ite (fun _ => ?_) (fun _ => ?_)
        · exact State.put_frame (hm.of rfl) (Allows.page (p := 27) rfl (hm.of rfl)) h0
        · refine State.when_frame (hm.of rfl) ?_ ?_
          · intro y3 g3
            exact State.judgeSchedules_frame (hm.of rfl) g3
          · exact h0
      · refine Frame.ite (fun _ => ?_) (fun _ => ?_)
        · refine State.when_frame (hm.of rfl) ?_ ?_
          · intro y4 g4
            exact State.put_frame (hm.of rfl) (Allows.page (p := 27) rfl (hm.of rfl)) g4
          · exact h0
        · refine Frame.ite (fun _ => ?_) (fun _ => ?_)
          · exact State.targetMoved_frame (hm.of rfl) h0
          · refine Frame.ite (fun _ => ?_) (fun _ => ?_)
            · extract_lets +onlyGivenNames -underBinder -merge y5
              try clear_value y5
              refine Frame.ite (fun _ => ?_) (fun _ => ?_)
              · extract_lets +onlyGivenNames -underBinder -merge y6
                have g6 : Frame m s0 y6 := by
                  refine State.put_frame (hm.of rfl) (Allows.page (p := 27) rfl (hm.of rfl)) ?_
                  exact State.put_frame (hm.of rfl) (Allows.page (p := 27) rfl (hm.of rfl)) h0
                try clear_value y6
                exact State.judgeSchedules_frame (hm.of rfl) (State.modTooth_frame (hm.of rfl) g6)
              · exact h0
            · exact h0

/-! ### Machine/Memory -/

theorem State.brokenWord_frame {m : Nat} {s0 : State} {x0 : State} {x1 : Nat} (hm : Sub 0x2 m) (h0 : Frame m s0 x0) :
    Frame m s0 (State.brokenWord x0 x1).1 := by
  unfold State.brokenWord
  extract_lets +onlyGivenNames -underBinder -merge y0
  have g0 : Frame m s0 y0.2 := by
    exact State.freeBool_frame (hm.of rfl) h0
  try clear_value y0
  extract_lets +onlyGivenNames -underBinder -merge y1
  have g1 : Frame m s0 y1.2 := by
    exact State.free_frame (hm.of rfl) g0
  try clear_value y1
  refine Frame.ite1 (fun _ => ?_) (fun _ => ?_)
  · exact Frame.fst g1
  · exact Frame.fst h0

theorem State.failRecord_frame {m : Nat} {s0 : State} {x0 : State} {x1 : Fail} {x2 : Nat} {x3 : Option Nat}
    (hm : Sub 0x3c000000200 m) (h0 : Frame m s0 x0) : Frame m s0 (State.failRecord x0 x1 x2 x3) := by
  unfold State.failRecord
  exact State.record_frame (hm.of rfl) h0

theorem State.struck_frame {m : Nat} {s0 : State} {x0 : State} {x1 : Nat} {x2 : Upset} (hm : Sub 0x1000 m) (h0 : Frame m s0 x0) :
    Frame m s0 (State.struck x0 x1 x2) := by
  unfold State.struck
  refine Frame.ite (fun _ => ?_) (fun _ => ?_)
  · exact h0
  · refine Frame.ite (fun _ => ?_) (fun _ => ?_)
    · exact State.setEcc_frame (hm.of rfl) h0
    · refine State.when_frame (hm.of rfl) ?_ ?_
      · intro y0 g0
        exact State.setSingle_frame (hm.of rfl) g0
      · exact h0

theorem State.storageMet_frame {m : Nat} {s0 : State} {x0 : State} {x1 : Nat} (hm : Sub 0x70f03d40046ba1a m) (h0 : Frame m s0 x0) :
    Frame m s0 (State.storageMet x0 x1) := by
  unfold State.storageMet
  split
  · refine Frame.ite (fun _ => ?_) (fun _ => ?_)
    · exact h0
    · refine Frame.ite (fun _ => ?_) (fun _ => ?_)
      · exact State.storeEnd_frame (hm.of rfl) h0
      · extract_lets +onlyGivenNames -underBinder -merge y0
        have g0 : Frame m s0 y0.2 := by
          exact State.freeBool_frame (hm.of rfl) h0
        try clear_value y0
        refine Frame.ite (fun _ => ?_) (fun _ => ?_)
        · exact State.storeEnd_frame (hm.of rfl) g0
        · exact g0
  · exact h0

theorem State.memTouched_frame {m : Nat} {s0 : State} {x0 : State} {x1 : Nat} (hm : Sub 0x70f03d40046ba1a m) (h0 : Frame m s0 x0) :
    Frame m s0 (State.memTouched x0 x1) := by
  unfold State.memTouched
  split
  · exact State.objLock_frame (hm.of rfl) h0
  · exact State.objRelease_frame (hm.of rfl) h0
  · exact h0

theorem State.memRead_frame {m : Nat} {s0 : State} {x0 : State} {x1 x2 x3 : Nat} {x4 : Upset} (hm : Sub 0x70f03d40046ba1a m) (h0 : Frame m s0 x0) :
    Frame m s0 (State.memRead x0 x1 x2 x3 x4).1 := by
  unfold State.memRead
  extract_lets +onlyGivenNames -underBinder -merge y0
  have g0 : Frame m s0 y0 := by
    exact State.struck_frame (hm.of rfl) (State.storageMet_frame (hm.of rfl) h0)
  try clear_value y0
  extract_lets +onlyGivenNames -underBinder -merge y1
  have g1 : Frame m s0 y1.1 := by
    exact State.brokenWord_frame (hm.of rfl) g0
  try clear_value y1
  refine Frame.ite1 (fun _ => ?_) (fun _ => ?_)
  · refine Frame.ite1 (fun _ => ?_) (fun _ => ?_)
    · exact Frame.fst g1
    · exact Frame.fst g1
  · refine Frame.ite1 (fun _ => ?_) (fun _ => ?_)
    · exact Frame.fst (State.memTouched_frame (hm.of rfl) g0)
    · exact Frame.fst (State.memTouched_frame (hm.of rfl) g0)

theorem State.memWrite_frame {m : Nat} {s0 : State} {x0 : State} {x1 : Master} {x2 x3 x4 x5 : Nat} {x6 : Upset}
    (hm : Sub 0x41800 m) (h0 : Frame m s0 x0) : Frame m s0 (State.memWrite x0 x1 x2 x3 x4 x5 x6).1 := by
  unfold State.memWrite
  refine Frame.ite1 (fun _ => ?_) (fun _ => ?_)
  · exact Frame.fst h0
  · split
    · extract_lets +onlyGivenNames -underBinder -merge y0
      have g0 : Frame m s0 y0.1 := by
        exact State.writeWord1_frame (hm.of rfl) h0
      try clear_value y0
      exact Frame.fst g0
    · extract_lets +onlyGivenNames -underBinder -merge y1
      try clear_value y1
      refine Frame.ite1 (fun _ => ?_) (fun _ => ?_)
      · exact Frame.fst h0
      · extract_lets +onlyGivenNames -underBinder -merge y2
        have g2 : Frame m s0 y2 := by
          refine State.when_frame (hm.of rfl) ?_ ?_
          · intro y3 g3
            exact State.struck_frame (hm.of rfl) g3
          · exact h0
        try clear_value y2
        refine Frame.ite1 (fun _ => ?_) (fun _ => ?_)
        · exact Frame.fst g2
        · extract_lets +onlyGivenNames -underBinder -merge y4
          have g4 : Frame m s0 y4 := by
            exact State.loseReservations_frame (hm.of rfl) (State.ramWrite_frame (hm.of rfl) g2)
          try clear_value y4
          exact Frame.fst (Frame.mem (hm.of rfl) (fun w => by first | exact w | exact Memory.wf_blank w | exact Memory.wf_ramFilter w _) g4)

end Sys2Proof.Machine
end

