-- ==== Sys2Proof/Laws/FrameSystem.lean ====
section
/-!
SUPPORT. The frames of the link controller's pages, power, resets, flash, serial units, harts and register accesses. `Sub k m` says that the parts in `k` may change; `Allows` says it of a field given by the caller.
-/

namespace Sys2Proof.Machine

/-! ### Machine/Link -/

theorem State.modLink_frame {m : Nat} {s0 : State} {x0 : State} {x1 : Link → Link} (hm : Sub 0x200000 m) (h0 : Frame m s0 x0) :
    Frame m s0 (State.modLink x0 x1) := by
  unfold State.modLink
  exact Frame.link (hm.of rfl) h0

theorem State.clearKey_frame {m : Nat} {s0 : State} {x0 : State} (hm : Sub 0x80000000200000 m) (h0 : Frame m s0 x0) :
    Frame m s0 (State.clearKey x0) := by
  unfold State.clearKey
  extract_lets +onlyGivenNames -underBinder -merge y0
  try clear_value y0
  exact State.clear_frame (hm.of rfl) (Allows.page (p := 23) rfl (hm.of rfl)) (State.modLink_frame (hm.of rfl) h0)

theorem State.dropLinkKeys_frame {m : Nat} {s0 : State} {x0 : State} (hm : Sub 0x80000000200000 m) (h0 : Frame m s0 x0) :
    Frame m s0 (State.dropLinkKeys x0) := by
  unfold State.dropLinkKeys
  exact State.put_frame (hm.of rfl) (Allows.page (p := 23) rfl (hm.of rfl)) (State.modLink_frame (hm.of rfl) h0)

theorem State.judgeRekey_frame {m : Nat} {s0 : State} {x0 : State} {x1 : Nat} (hm : Sub 0x40000000000000 m) (h0 : Frame m s0 x0) :
    Frame m s0 (State.judgeRekey x0 x1) := by
  unfold State.judgeRekey
  extract_lets +onlyGivenNames -underBinder -merge y0
  try clear_value y0
  extract_lets +onlyGivenNames -underBinder -merge y1
  try clear_value y1
  refine State.when_frame (hm.of rfl) ?_ ?_
  · intro y2 g2
    exact State.raise_frame (hm.of rfl) (Allows.page (p := 22) rfl (hm.of rfl)) g2
  · exact h0

theorem State.latchAsn_frame {m : Nat} {s0 : State} {x0 : State} (hm : Sub 0x40000000000000 m) (h0 : Frame m s0 x0) :
    Frame m s0 (State.latchAsn x0) := by
  unfold State.latchAsn
  exact State.put_frame (hm.of rfl) (Allows.page (p := 22) rfl (hm.of rfl)) h0

theorem State.linkStop_frame {m : Nat} {s0 : State} {x0 : State} (hm : Sub 0x300000 m) (h0 : Frame m s0 x0) : Frame m s0 (State.linkStop x0) := by
  unfold State.linkStop
  extract_lets +onlyGivenNames -underBinder -merge y0
  have g0 : Frame m s0 y0 := by
    exact State.modLink_frame (hm.of rfl) h0
  try clear_value y0
  refine Frame.ite (fun _ => ?_) (fun _ => ?_)
  · exact g0
  · exact State.phyIdle_frame (hm.of rfl) (State.modLink_frame (hm.of rfl) g0)

theorem State.linkStart_frame {m : Nat} {s0 : State} {x0 : State} (hm : Sub 0x200000 m) (h0 : Frame m s0 x0) : Frame m s0 (State.linkStart x0) := by
  unfold State.linkStart
  exact State.modLink_frame (hm.of rfl) h0

theorem State.linkFollow_frame {m : Nat} {s0 : State} {x0 x1 : State} (hm : Sub 0x300000 m) (h0 : Frame m s0 x0) :
    Frame m s0 (State.linkFollow x0 x1) := by
  unfold State.linkFollow
  extract_lets +onlyGivenNames -underBinder -merge y0
  have g0 : Frame m s0 y0 := by
    refine State.when_frame (hm.of rfl) ?_ ?_
    · intro y1 g1
      exact State.linkStop_frame (hm.of rfl) g1
    · exact h0
  try clear_value y0
  refine State.when_frame (hm.of rfl) ?_ ?_
  · intro y2 g2
    exact State.linkStart_frame (hm.of rfl) g2
  · exact g0

theorem State.linkQuiesce_frame {m : Nat} {s0 : State} {x0 : State} (hm : Sub 0x40000000300000 m) (h0 : Frame m s0 x0) :
    Frame m s0 (State.linkQuiesce x0) := by
  unfold State.linkQuiesce
  exact State.linkStop_frame (hm.of rfl) (State.put_frame (hm.of rfl) (Allows.page (p := 22) rfl (hm.of rfl)) h0)

theorem State.linkReleased_frame {m : Nat} {s0 : State} {x0 : State} (hm : Sub 0x200000 m) (h0 : Frame m s0 x0) :
    Frame m s0 (State.linkReleased x0) := by
  unfold State.linkReleased
  refine State.when_frame (hm.of rfl) ?_ ?_
  · intro y0 g0
    exact State.linkStart_frame (hm.of rfl) g0
  · exact h0

theorem State.setNbr_frame {m : Nat} {s0 : State} {x0 : State} {x1 x2 x3 : Nat} (hm : Sub 0x1000 m) (h0 : Frame m s0 x0) :
    Frame m s0 (State.setNbr x0 x1 x2 x3) := by
  unfold State.setNbr
  exact State.setWord_frame (hm.of rfl) h0

theorem State.nbrChange_frame {m : Nat} {s0 : State} {x0 : State} {x1 x2 : Nat} {x3 : Nat → Nat} (hm : Sub 0x3c000001200 m) (h0 : Frame m s0 x0) :
    Frame m s0 (State.nbrChange x0 x1 x2 x3) := by
  unfold State.nbrChange
  refine Frame.ite (fun _ => ?_) (fun _ => ?_)
  · exact State.eccRecord_frame (hm.of rfl) h0
  · exact State.setNbr_frame (hm.of rfl) h0

theorem State.linkWrote_frame {m : Nat} {s0 : State} {x0 : State} {x1 : Nat} {x2 : State} (hm : Sub 0x3c000301200 m) (h0 : Frame m s0 x0) :
    Frame m s0 (State.linkWrote x0 x1 x2) := by
  unfold State.linkWrote
  refine Frame.ite (fun _ => ?_) (fun _ => ?_)
  · exact State.linkFollow_frame (hm.of rfl) h0
  · refine Frame.ite (fun _ => ?_) (fun _ => ?_)
    · refine Frame.foldl ?_ ?_
      · intro y0 y1 g0
        extract_lets +onlyGivenNames -underBinder -merge y2
        try clear_value y2
        refine Frame.ite (fun _ => ?_) (fun _ => ?_)
        · exact State.nbrChange_frame (hm.of rfl) g0
        · exact g0
      · exact h0
    · exact h0

theorem State.loadKey_frame {m : Nat} {s0 : State} {x0 : State} (hm : Sub 0x80000000200000 m) (h0 : Frame m s0 x0) :
    Frame m s0 (State.loadKey x0) := by
  unfold State.loadKey
  extract_lets +onlyGivenNames -underBinder -merge y0
  try clear_value y0
  extract_lets +onlyGivenNames -underBinder -merge y1
  try clear_value y1
  exact State.raise_frame (hm.of rfl) (Allows.page (p := 23) rfl (hm.of rfl)) (State.modLink_frame (hm.of rfl) h0)

theorem State.lsecWrote_frame {m : Nat} {s0 : State} {x0 : State} {x1 x2 x3 : Nat} {x4 : State} (hm : Sub 0xc0000000200002 m) (h0 : Frame m s0 x0) :
    Frame m s0 (State.lsecWrote x0 x1 x2 x3 x4) := by
  unfold State.lsecWrote
  refine Frame.ite (fun _ => ?_) (fun _ => ?_)
  · exact State.modLink_frame (hm.of rfl) h0
  · refine Frame.ite (fun _ => ?_) (fun _ => ?_)
    · extract_lets +onlyGivenNames -underBinder -merge y0
      try clear_value y0
      extract_lets +onlyGivenNames -underBinder -merge y1
      try clear_value y1
      extract_lets +onlyGivenNames -underBinder -merge y2
      have g2 : Frame m s0 y2 := by
        refine State.put_frame (hm.of rfl) (Allows.page (p := 23) rfl (hm.of rfl)) ?_
        exact State.put_frame (hm.of rfl) (Allows.page (p := 23) rfl (hm.of rfl)) h0
      try clear_value y2
      refine Frame.ite (fun _ => ?_) (fun _ => ?_)
      · extract_lets +onlyGivenNames -underBinder -merge y3
        have g3 : Frame m s0 y3.2 := by
          exact State.freeBool_frame (hm.of rfl) g2
        try clear_value y3
        refine Frame.ite (fun _ => ?_) (fun _ => ?_)
        · exact State.clearKey_frame (hm.of rfl) (State.loadKey_frame (hm.of rfl) g3)
        · exact State.loadKey_frame (hm.of rfl) (State.clearKey_frame (hm.of rfl) g3)
      · refine Frame.ite (fun _ => ?_) (fun _ => ?_)
        · exact State.loadKey_frame (hm.of rfl) g2
        · refine Frame.ite (fun _ => ?_) (fun _ => ?_)
          · exact State.clearKey_frame (hm.of rfl) g2
          · exact g2
    · refine Frame.ite (fun _ => ?_) (fun _ => ?_)
      · extract_lets +onlyGivenNames -underBinder -merge y4
        try clear_value y4
        refine Frame.ite (fun _ => ?_) (fun _ => ?_)
        · exact State.put_frame (hm.of rfl) (Allows.page (p := 23) rfl (hm.of rfl)) h0
        · exact State.judgeRekey_frame (hm.of rfl) h0
      · exact h0

theorem State.nbrFlag_frame {m : Nat} {s0 : State} {x0 : State} {x1 x2 : Nat} (hm : Sub 0x4003c000001200 m) (h0 : Frame m s0 x0) :
    Frame m s0 (State.nbrFlag x0 x1 x2) := by
  unfold State.nbrFlag
  extract_lets +onlyGivenNames -underBinder -merge y0
  have g0 : Frame m s0 y0 := by
    exact State.nbrChange_frame (hm.of rfl) h0
  try clear_value y0
  refine Frame.ite (fun _ => ?_) (fun _ => ?_)
  · exact State.eccRecord_frame (hm.of rfl) g0
  · refine State.when_frame (hm.of rfl) ?_ ?_
    · intro y1 g1
      exact State.raise_frame (hm.of rfl) (Allows.page (p := 22) rfl (hm.of rfl)) g1
    · exact g0

theorem State.nbrOut_frame {m : Nat} {s0 : State} {x0 : State} {x1 : Nat} (hm : Sub 0x40000000000000 m) (h0 : Frame m s0 x0) :
    Frame m s0 (State.nbrOut x0 x1) := by
  unfold State.nbrOut
  exact State.put_frame (hm.of rfl) (Allows.page (p := 22) rfl (hm.of rfl)) h0

theorem State.nbrRecord_frame {m : Nat} {s0 : State} {x0 : State} {x1 : Nat} (hm : Sub 0x3c000000200 m) (h0 : Frame m s0 x0) :
    Frame m s0 (State.nbrRecord x0 x1) := by
  unfold State.nbrRecord
  split
  · exact State.eccRecord_frame (hm.of rfl) h0
  · exact h0

theorem State.nbrRssi_frame {m : Nat} {s0 : State} {x0 : State} {x1 x2 : Nat} (hm : Sub 0x3c000001200 m) (h0 : Frame m s0 x0) :
    Frame m s0 (State.nbrRssi x0 x1 x2) := by
  unfold State.nbrRssi
  exact State.nbrChange_frame (hm.of rfl) h0

theorem State.slotEntry_frame {m : Nat} {s0 : State} {x0 : State} {x1 : Nat} (hm : Sub 0x3c000000200 m) (h0 : Frame m s0 x0) :
    Frame m s0 (State.slotEntry x0 x1).1 := by
  unfold State.slotEntry
  refine Frame.ite1 (fun _ => ?_) (fun _ => ?_)
  · exact Frame.fst (State.eccRecord_frame (hm.of rfl) h0)
  · exact Frame.fst h0

theorem State.takeSeq_frame {m : Nat} {s0 : State} {x0 : State} (hm : Sub 0xc0000000000000 m) (h0 : Frame m s0 x0) :
    Frame m s0 (State.takeSeq x0).2 := by
  unfold State.takeSeq
  extract_lets +onlyGivenNames -underBinder -merge y0
  try clear_value y0
  exact Frame.snd (State.judgeRekey_frame (hm.of rfl) (State.put_frame (hm.of rfl) (Allows.page (p := 23) rfl (hm.of rfl)) h0))

/-! ### Machine/Power -/

theorem State.modPower_frame {m : Nat} {s0 : State} {x0 : State} {x1 : Power → Power} (hm : Sub 0x10 m) (h0 : Frame m s0 x0) :
    Frame m s0 (State.modPower x0 x1) := by
  unfold State.modPower
  exact Frame.power (hm.of rfl) h0

theorem State.enterCoarse_frame {m : Nat} {s0 : State} {x0 : State} (hm : Sub 0x2000000000010 m) (h0 : Frame m s0 x0) :
    Frame m s0 (State.enterCoarse x0) := by
  unfold State.enterCoarse
  refine Frame.ite (fun _ => ?_) (fun _ => ?_)
  · exact h0
  · exact State.put_frame (hm.of rfl) (Allows.page (p := 17) rfl (hm.of rfl)) (State.modPower_frame (hm.of rfl) h0)

theorem State.loopsOff_frame {m : Nat} {s0 : State} {x0 : State} (hm : Sub 0x500000000400000 m) (h0 : Frame m s0 x0) :
    Frame m s0 (State.loopsOff x0) := by
  unfold State.loopsOff
  refine Frame.foldl ?_ ?_
  · intro y0 y1 g0
    extract_lets +onlyGivenNames -underBinder -merge y2
    have g2 : Frame m s0 y2 := by
      refine State.setSample_frame (hm.of rfl) ?_
      refine State.clear_frame (hm.of rfl) (Allows.page (p := 24) rfl (hm.of rfl)) ?_
      exact State.put_frame (hm.of rfl) (Allows.page (p := 24) rfl (hm.of rfl)) g0
    try clear_value y2
    refine State.when_frame (hm.of rfl) ?_ ?_
    · intro y3 g3
      exact State.forceSafe_frame (hm.of rfl) g3
    · exact g2
  · exact Frame.ctl (hm.of rfl) h0

theorem State.loseBlocks_frame {m : Nat} {s0 : State} {x0 : State} {x1 : Island} (hm : Sub 0x10 m) (h0 : Frame m s0 x0) :
    Frame m s0 (State.loseBlocks x0 x1) := by
  unfold State.loseBlocks
  extract_lets +onlyGivenNames -underBinder -merge y0
  try clear_value y0
  exact State.modPower_frame (hm.of rfl) h0

theorem State.controlStops_frame {m : Nat} {s0 : State} {x0 : State} {x1 : Bool} (hm : Sub 0x50003c000400200 m) (h0 : Frame m s0 x0) :
    Frame m s0 (State.controlStops x0 x1) := by
  unfold State.controlStops
  exact State.pairsSafe_frame (hm.of rfl) (State.stopLoops_frame (hm.of rfl) h0)

theorem State.loseKeys_frame {m : Nat} {s0 : State} {x0 : State} (hm : Sub 0x80000000200000 m) (h0 : Frame m s0 x0) :
    Frame m s0 (State.loseKeys x0) := by
  unfold State.loseKeys
  refine State.when_frame (hm.of rfl) ?_ ?_
  · intro y0 g0
    exact State.dropLinkKeys_frame (hm.of rfl) g0
  · exact h0

theorem State.radioStops_frame {m : Nat} {s0 : State} {x0 : State} (hm : Sub 0x300000 m) (h0 : Frame m s0 x0) : Frame m s0 (State.radioStops x0) := by
  unfold State.radioStops
  extract_lets +onlyGivenNames -underBinder -merge y0
  try clear_value y0
  extract_lets +onlyGivenNames -underBinder -merge y1
  have g1 : Frame m s0 y1 := by
    exact State.modLink_frame (hm.of rfl) (State.modPhy_frame (hm.of rfl) h0)
  try clear_value y1
  refine State.when_frame (hm.of rfl) ?_ ?_
  · intro y2 g2
    exact State.calDue_frame (hm.of rfl) g2
  · exact g1

theorem State.islandDown_frame {m : Nat} {s0 : State} {x0 : State} {x1 : Island} (hm : Sub 0x78103c000700210 m) (h0 : Frame m s0 x0) :
    Frame m s0 (State.islandDown x0 x1) := by
  unfold State.islandDown
  extract_lets +onlyGivenNames -underBinder -merge y0
  have g0 : Frame m s0 y0 := by
    exact State.loseBlocks_frame (hm.of rfl) (State.dropLatches_frame (hm.of rfl) (State.setIsland_frame (hm.of rfl) h0))
  try clear_value y0
  split
  · extract_lets +onlyGivenNames -underBinder -merge y1
    have g1 : Frame m s0 y1 := by
      exact State.put_frame (hm.of rfl) (Allows.page (p := 25) rfl (hm.of rfl)) (State.controlStops_frame (hm.of rfl) g0)
    try clear_value y1
    exact Frame.ctl (hm.of rfl) g1
  · exact State.loseKeys_frame (hm.of rfl) (State.radioStops_frame (hm.of rfl) g0)
  · exact g0

theorem State.wdtRestart_frame {m : Nat} {s0 : State} {x0 : State} (hm : Sub 0x400 m) (h0 : Frame m s0 x0) : Frame m s0 (State.wdtRestart x0) := by
  unfold State.wdtRestart
  exact Frame.wdt (hm.of rfl) h0

theorem State.calmReached_frame {m : Nat} {s0 : State} {x0 : State} (hm : Sub 0x78303de00721e10 m) (h0 : Frame m s0 x0) :
    Frame m s0 (State.calmReached x0) := by
  unfold State.calmReached
  refine Frame.ite (fun _ => ?_) (fun _ => ?_)
  · exact h0
  · extract_lets +onlyGivenNames -underBinder -merge y0
    have g0 : Frame m s0 y0 := by
      exact State.enterCoarse_frame (hm.of rfl) (State.loopsOff_frame (hm.of rfl) h0)
    try clear_value y0
    extract_lets +onlyGivenNames -underBinder -merge y1
    have g1 : Frame m s0 y1 := by
      refine Frame.foldl ?_ ?_
      · intro y2 y3 g2
        exact State.islandDown_frame (hm.of rfl) g2
      · exact g0
    try clear_value y1
    extract_lets +onlyGivenNames -underBinder -merge y4
    have g4 : Frame m s0 y4 := by
      refine State.put_frame (hm.of rfl) (Allows.page (p := 2) rfl (hm.of rfl)) ?_
      refine State.put_frame (hm.of rfl) (Allows.page (p := 4) rfl (hm.of rfl)) ?_
      exact State.put_frame (hm.of rfl) (Allows.page (p := 4) rfl (hm.of rfl)) (State.put_frame (hm.of rfl) (Allows.page (p := 4) rfl (hm.of rfl)) g1)
    try clear_value y4
    extract_lets +onlyGivenNames -underBinder -merge y5
    have g5 : Frame m s0 y5 := by
      exact State.put_frame (hm.of rfl) (Allows.page (p := 1) rfl (hm.of rfl)) (State.put_frame (hm.of rfl) (Allows.page (p := 2) rfl (hm.of rfl)) g4)
    try clear_value y5
    extract_lets +onlyGivenNames -underBinder -merge y6
    extract_lets +onlyGivenNames -underBinder -merge y7
    have g7 : Frame m s0 y7 := by
      exact Frame.harts_cache (k := y6) (hm.of rfl) rfl (posts_lost _) g5
    try clear_value y7
    extract_lets +onlyGivenNames -underBinder -merge y8
    have g8 : Frame m s0 y8 := by
      exact State.judgeRails_frame (hm.of rfl) (State.wdtRestart_frame (hm.of rfl) (State.modPower_frame (hm.of rfl) g7))
    try clear_value y8
    refine State.when_frame (hm.of rfl) ?_ ?_
    · intro y9 g9
      exact State.beginExit_frame (hm.of rfl) g9
    · exact g8

theorem State.coarseSwitch_frame {m : Nat} {s0 : State} {x0 : State} (hm : Sub 0x2000000000010 m) (h0 : Frame m s0 x0) :
    Frame m s0 (State.coarseSwitch x0) := by
  unfold State.coarseSwitch
  refine Frame.ite (fun _ => ?_) (fun _ => ?_)
  · refine Frame.ite (fun _ => ?_) (fun _ => ?_)
    · exact State.modPower_frame (hm.of rfl) h0
    · exact h0
  · refine State.when_frame (hm.of rfl) ?_ ?_
    · intro y0 g0
      exact State.enterCoarse_frame (hm.of rfl) g0
    · exact h0

theorem State.refuseEntry_frame {m : Nat} {s0 : State} {x0 : State} {x1 : Nat} (hm : Sub 0x400000010 m) (h0 : Frame m s0 x0) :
    Frame m s0 (State.refuseEntry x0 x1) := by
  unfold State.refuseEntry
  refine State.raise_frame (hm.of rfl) (Allows.page (p := 2) rfl (hm.of rfl)) ?_
  refine State.put_frame (hm.of rfl) (Allows.page (p := 2) rfl (hm.of rfl)) ?_
  refine State.put_frame (hm.of rfl) (Allows.page (p := 2) rfl (hm.of rfl)) ?_
  exact State.put_frame (hm.of rfl) (Allows.page (p := 2) rfl (hm.of rfl)) (State.modPower_frame (hm.of rfl) h0)

theorem State.scrubTo_frame {m : Nat} {s0 : State} {x0 : State} {x1 : Nat} (hm : Sub 0x3c000001200 m) (h0 : Frame m s0 x0) :
    Frame m s0 (State.scrubTo x0 x1) := by
  unfold State.scrubTo
  extract_lets +onlyGivenNames -underBinder -merge y0
  try clear_value y0
  extract_lets +onlyGivenNames -underBinder -merge y1
  have g1 : Frame m s0 y1 := by
    refine Frame.foldl ?_ ?_
    · intro y2 y3 g2
      exact State.eccRecord_frame (hm.of rfl) g2
    · exact h0
  try clear_value y1
  exact Frame.mem (hm.of rfl) (fun w => by first | exact w | exact Memory.wf_blank w | exact Memory.wf_ramFilter w _) g1

theorem State.scrubPause_frame {m : Nat} {s0 : State} {x0 : State} (hm : Sub 0x3c000001202 m) (h0 : Frame m s0 x0) :
    Frame m s0 (State.scrubPause x0) := by
  unfold State.scrubPause
  refine Frame.ite (fun _ => ?_) (fun _ => ?_)
  · extract_lets +onlyGivenNames -underBinder -merge y0
    have g0 : Frame m s0 y0.2 := by
      exact State.free_frame (hm.of rfl) h0
    try clear_value y0
    exact State.scrubTo_frame (hm.of rfl) g0
  · exact h0

theorem State.stopClocks_frame {m : Nat} {s0 : State} {x0 : State} {x1 : Bool} (hm : Sub 0x10 m) (h0 : Frame m s0 x0) :
    Frame m s0 (State.stopClocks x0 x1) := by
  unfold State.stopClocks
  exact State.modPower_frame (hm.of rfl) h0

theorem State.slew_frame {m : Nat} {s0 : State} {x0 : State} {x1 : Nat} (hm : Sub 0x400000010 m) (h0 : Frame m s0 x0) :
    Frame m s0 (State.slew x0 x1) := by
  unfold State.slew
  exact State.put_frame (hm.of rfl) (Allows.page (p := 2) rfl (hm.of rfl)) (State.modPower_frame (hm.of rfl) h0)

theorem State.drained_frame {m : Nat} {s0 : State} {x0 : State} (hm : Sub 0x50003d400409212 m) (h0 : Frame m s0 x0) :
    Frame m s0 (State.drained x0) := by
  unfold State.drained
  refine Frame.ite (fun _ => ?_) (fun _ => ?_)
  · exact h0
  · split
    · exact State.refuseEntry_frame (hm.of rfl) h0
    · extract_lets +onlyGivenNames -underBinder -merge y0
      have g0 : Frame m s0 y0 := by
        exact State.scrubPause_frame (hm.of rfl) (State.put_frame (hm.of rfl) (Allows.page (p := 2) rfl (hm.of rfl)) h0)
      try clear_value y0
      refine Frame.ite (fun _ => ?_) (fun _ => ?_)
      · extract_lets +onlyGivenNames -underBinder -merge y1
        have g1 : Frame m s0 y1 := by
          refine State.put_frame (hm.of rfl) (Allows.page (p := 4) rfl (hm.of rfl)) ?_
          refine State.put_frame (hm.of rfl) (Allows.page (p := 4) rfl (hm.of rfl)) ?_
          exact State.modPower_frame (hm.of rfl) (State.stopClocks_frame (hm.of rfl) g0)
        try clear_value y1
        refine State.slew_frame (hm.of rfl) ?_
        exact State.controlStops_frame (hm.of rfl) (State.put_frame (hm.of rfl) (Allows.page (p := 2) rfl (hm.of rfl)) g1)
      · extract_lets +onlyGivenNames -underBinder -merge y2
        have g2 : Frame m s0 y2 := by
          exact State.modPower_frame (hm.of rfl) (State.stopClocks_frame (hm.of rfl) g0)
        try clear_value y2
        exact State.pairsSafe_frame (hm.of rfl) (Frame.fab (hm.of rfl) g2)

theorem State.entryBegins_frame {m : Nat} {s0 : State} {x0 : State} (hm : Sub 0x400000010 m) (h0 : Frame m s0 x0) :
    Frame m s0 (State.entryBegins x0) := by
  unfold State.entryBegins
  refine Frame.ite (fun _ => ?_) (fun _ => ?_)
  · exact h0
  · refine Frame.ite (fun _ => ?_) (fun _ => ?_)
    · exact State.refuseEntry_frame (hm.of rfl) h0
    · exact State.put_frame (hm.of rfl) (Allows.page (p := 2) rfl (hm.of rfl)) (State.modPower_frame (hm.of rfl) h0)

theorem State.initBlock_frame {m : Nat} {s0 : State} {x0 : State} {x1 : MemBlock} (hm : Sub 0x43010 m) (h0 : Frame m s0 x0) :
    Frame m s0 (State.initBlock x0 x1) := by
  unfold State.initBlock
  refine Frame.ite (fun _ => ?_) (fun _ => ?_)
  · exact h0
  · extract_lets +onlyGivenNames -underBinder -merge y0
    try clear_value y0
    extract_lets +onlyGivenNames -underBinder -merge y1
    have _ := y1
    extract_lets +onlyGivenNames -underBinder -merge y2
    try clear_value y2
    extract_lets +onlyGivenNames -underBinder -merge y3
    extract_lets +onlyGivenNames -underBinder -merge y4
    have g4 : Frame m s0 y4 := by
      exact Frame.power_mem (hm.of rfl) (fun w => by first | exact w | exact Memory.wf_blank w | exact Memory.wf_ramFilter w _) h0
    try clear_value y4
    split
    · exact State.canForget_frame (hm.of rfl) g4
    · exact Frame.q (hm.of rfl) g4
    · exact g4

theorem State.islandWritten_frame {m : Nat} {s0 : State} {x0 x1 : State} {x2 : Island} (hm : Sub 0xffffffffffffffff00700210 m) (h1 : Frame m s0 x1) :
    Frame m s0 (State.islandWritten x0 x1 x2) := by
  unfold State.islandWritten
  split
  · exact h1
  · refine Frame.ite (fun _ => ?_) (fun _ => ?_)
    · refine State.when_frame (hm.of rfl) ?_ ?_
      · intro y0 g0
        exact State.setIsland_frame (hm.of rfl) g0
      · exact h1
    · refine Frame.ite (fun _ => ?_) (fun _ => ?_)
      · split
        · extract_lets +onlyGivenNames -underBinder -merge y1
          try clear_value y1
          refine State.raise_frame (hm.of rfl) (Allows.page (p := 2) rfl (hm.of rfl)) ?_
          exact State.put_frame (hm.of rfl) (Allows.page (p := 2) rfl (hm.of rfl)) (State.put_frame (hm.of rfl) (Allows.all _ (hm.of rfl)) h1)
        · refine Frame.ite (fun _ => ?_) (fun _ => ?_)
          · exact h1
          · exact State.islandDown_frame (hm.of rfl) h1
      · exact h1

theorem State.judgeQueued_frame {m : Nat} {s0 : State} {x0 : State} (hm : Sub 0x43c000003a00 m) (h0 : Frame m s0 x0) :
    Frame m s0 (State.judgeQueued x0) := by
  unfold State.judgeQueued
  refine Frame.foldl ?_ ?_
  · intro y0 y1 g0
    refine State.when_frame (hm.of rfl) ?_ ?_
    · intro y2 g2
      exact State.completeMissed_frame (hm.of rfl) g2
    · exact g0
  · exact h0

theorem State.lfWindow_frame {m : Nat} {s0 : State} {x0 : State} {x1 : Nat} (hm : Sub 0x1000000010 m) (h0 : Frame m s0 x0) :
    Frame m s0 (State.lfWindow x0 x1) := by
  unfold State.lfWindow
  refine Frame.ite (fun _ => ?_) (fun _ => ?_)
  · exact h0
  · extract_lets +onlyGivenNames -underBinder -merge y0
    have g0 : Frame m s0 y0 := by
      exact State.modPower_frame (hm.of rfl) h0
    try clear_value y0
    split
    · exact g0
    · extract_lets +onlyGivenNames -underBinder -merge y1
      try clear_value y1
      exact State.put_frame (hm.of rfl) (Allows.page (p := 4) rfl (hm.of rfl)) (State.put_frame (hm.of rfl) (Allows.page (p := 4) rfl (hm.of rfl)) g0)

theorem State.lullResume_frame {m : Nat} {s0 : State} {x0 : State} (hm : Sub 0x800000000800810 m) (h0 : Frame m s0 x0) :
    Frame m s0 (State.lullResume x0) := by
  unfold State.lullResume
  extract_lets +onlyGivenNames -underBinder -merge y0
  try clear_value y0
  refine Frame.ite (fun _ => ?_) (fun _ => ?_)
  · extract_lets +onlyGivenNames -underBinder -merge y1
    try clear_value y1
    extract_lets +onlyGivenNames -underBinder -merge y2
    have g2 : Frame m s0 y2 := by
      exact State.modPower_frame (hm.of rfl) h0
    try clear_value y2
    extract_lets +onlyGivenNames -underBinder -merge y3
    have g3 : Frame m s0 y3 := by
      refine Frame.harts (hm.of rfl) (fun i n => by first | exact posts_lost _ n | exact posts_none n | exact posts_ofFn i.posts (fun _ => by first | (split <;> simp; done) | simp) n) ?_
      exact g2
    try clear_value y3
    refine State.when_frame (hm.of rfl) ?_ ?_
    · intro y4 g4
      exact State.toothReleased_frame (hm.of rfl) g4
    · exact g3
  · exact h0

theorem State.opMove_frame {m : Nat} {s0 : State} {x0 : State} (hm : Sub 0x400000010 m) (h0 : Frame m s0 x0) : Frame m s0 (State.opMove x0) := by
  unfold State.opMove
  extract_lets +onlyGivenNames -underBinder -merge y0
  try clear_value y0
  refine Frame.ite (fun _ => ?_) (fun _ => ?_)
  · exact State.raise_frame (hm.of rfl) (Allows.page (p := 2) rfl (hm.of rfl)) h0
  · exact State.slew_frame (hm.of rfl) (State.put_frame (hm.of rfl) (Allows.page (p := 2) rfl (hm.of rfl)) h0)

theorem State.opReturn_frame {m : Nat} {s0 : State} {x0 : State} (hm : Sub 0x400000010 m) (h0 : Frame m s0 x0) : Frame m s0 (State.opReturn x0) := by
  unfold State.opReturn
  refine Frame.ite (fun _ => ?_) (fun _ => ?_)
  · exact h0
  · refine State.when_frame (hm.of rfl) ?_ ?_
    · intro y0 g0
      exact State.opMove_frame (hm.of rfl) g0
    · exact State.modPower_frame (hm.of rfl) h0

theorem State.modeWritten_frame {m : Nat} {s0 : State} {x0 : State} (hm : Sub 0x1400000010 m) (h0 : Frame m s0 x0) :
    Frame m s0 (State.modeWritten x0) := by
  unfold State.modeWritten
  extract_lets +onlyGivenNames -underBinder -merge y0
  try clear_value y0
  split
  · extract_lets +onlyGivenNames -underBinder -merge y1
    have g1 : Frame m s0 y1 := by
      exact State.put_frame (hm.of rfl) (Allows.page (p := 2) rfl (hm.of rfl)) (State.put_frame (hm.of rfl) (Allows.page (p := 2) rfl (hm.of rfl)) h0)
    try clear_value y1
    refine Frame.ite (fun _ => ?_) (fun _ => ?_)
    · exact State.opReturn_frame (hm.of rfl) (State.modPower_frame (hm.of rfl) g1)
    · exact g1
  · extract_lets +onlyGivenNames -underBinder -merge y2
    have g2 : Frame m s0 y2 := by
      exact State.put_frame (hm.of rfl) (Allows.page (p := 2) rfl (hm.of rfl)) (State.put_frame (hm.of rfl) (Allows.page (p := 2) rfl (hm.of rfl)) h0)
    try clear_value y2
    refine Frame.ite (fun _ => ?_) (fun _ => ?_)
    · extract_lets +onlyGivenNames -underBinder -merge y3
      have g3 : Frame m s0 y3 := by
        refine State.when_frame (hm.of rfl) ?_ ?_
        · intro y4 g4
          exact State.put_frame (hm.of rfl) (Allows.page (p := 4) rfl (hm.of rfl)) g4
        · exact State.put_frame (hm.of rfl) (Allows.page (p := 2) rfl (hm.of rfl)) (State.modPower_frame (hm.of rfl) g2)
      try clear_value y3
      refine State.when_frame (hm.of rfl) ?_ ?_
      · intro y5 g5
        exact State.slew_frame (hm.of rfl) g5
      · exact g3
    · exact g2
  · exact State.put_frame (hm.of rfl) (Allows.page (p := 2) rfl (hm.of rfl)) (State.modPower_frame (hm.of rfl) h0)

theorem State.opRaise_frame {m : Nat} {s0 : State} {x0 : State} (hm : Sub 0x400000000 m) (h0 : Frame m s0 x0) : Frame m s0 (State.opRaise x0) := by
  unfold State.opRaise
  refine Frame.ite (fun _ => ?_) (fun _ => ?_)
  · exact State.raise_frame (hm.of rfl) (Allows.page (p := 2) rfl (hm.of rfl)) (State.put_frame (hm.of rfl) (Allows.page (p := 2) rfl (hm.of rfl)) h0)
  · exact h0

theorem State.opWritten_frame {m : Nat} {s0 : State} {x0 : State} (hm : Sub 0x400000010 m) (h0 : Frame m s0 x0) :
    Frame m s0 (State.opWritten x0) := by
  unfold State.opWritten
  extract_lets +onlyGivenNames -underBinder -merge y0
  try clear_value y0
  refine Frame.ite (fun _ => ?_) (fun _ => ?_)
  · exact State.modPower_frame (hm.of rfl) h0
  · refine Frame.ite (fun _ => ?_) (fun _ => ?_)
    · refine Frame.ite (fun _ => ?_) (fun _ => ?_)
      · exact h0
      · exact State.raise_frame (hm.of rfl) (Allows.page (p := 2) rfl (hm.of rfl)) (State.opMove_frame (hm.of rfl) h0)
    · refine Frame.ite (fun _ => ?_) (fun _ => ?_)
      · exact h0
      · exact State.opMove_frame (hm.of rfl) h0

theorem State.pllLock_frame {m : Nat} {s0 : State} {x0 : State} (hm : Sub 0x1000000010 m) (h0 : Frame m s0 x0) : Frame m s0 (State.pllLock x0) := by
  unfold State.pllLock
  extract_lets +onlyGivenNames -underBinder -merge y0
  try clear_value y0
  refine Frame.ite (fun _ => ?_) (fun _ => ?_)
  · exact h0
  · extract_lets +onlyGivenNames -underBinder -merge y1
    have g1 : Frame m s0 y1 := by
      refine State.put_frame (hm.of rfl) (Allows.page (p := 4) rfl (hm.of rfl)) ?_
      refine State.when_frame (hm.of rfl) ?_ ?_
      · intro y2 g2
        exact State.put_frame (hm.of rfl) (Allows.page (p := 4) rfl (hm.of rfl)) g2
      · exact State.put_frame (hm.of rfl) (Allows.page (p := 4) rfl (hm.of rfl)) h0
    try clear_value y1
    refine Frame.ite (fun _ => ?_) (fun _ => ?_)
    · exact State.modPower_frame (hm.of rfl) g1
    · exact g1

theorem State.retWritten_frame {m : Nat} {s0 : State} {x0 : State} (hm : Sub 0x80000000200010 m) (h0 : Frame m s0 x0) :
    Frame m s0 (State.retWritten x0) := by
  unfold State.retWritten
  extract_lets +onlyGivenNames -underBinder -merge y0
  have g0 : Frame m s0 y0 := by
    refine Frame.foldl ?_ ?_
    · intro y1 y2 g1
      refine State.when_frame (hm.of rfl) ?_ ?_
      · intro y3 g3
        exact State.loseBlocks_frame (hm.of rfl) g3
      · exact g1
    · exact h0
  try clear_value y0
  refine State.when_frame (hm.of rfl) ?_ ?_
  · intro y4 g4
    exact State.loseKeys_frame (hm.of rfl) g4
  · exact g0

theorem State.pwrWrote_frame {m : Nat} {s0 : State} {x0 : State} {x1 : Nat} {x2 : State}
    (hm : Sub 0xffffffffffffffff00700210 m) (h0 : Frame m s0 x0) : Frame m s0 (State.pwrWrote x0 x1 x2) := by
  unfold State.pwrWrote
  refine Frame.ite (fun _ => ?_) (fun _ => ?_)
  · exact State.modeWritten_frame (hm.of rfl) h0
  · refine Frame.ite (fun _ => ?_) (fun _ => ?_)
    · exact State.opWritten_frame (hm.of rfl) h0
    · refine Frame.ite (fun _ => ?_) (fun _ => ?_)
      · refine Frame.foldl ?_ ?_
        · intro y0 y1 g0
          exact State.islandWritten_frame (hm.of rfl) g0
        · exact h0
      · refine Frame.ite (fun _ => ?_) (fun _ => ?_)
        · exact State.retWritten_frame (hm.of rfl) h0
        · exact h0

theorem State.release_frame {m : Nat} {s0 : State} {x0 : State} {x1 : Island} (hm : Sub 0x82043c000b0ba10 m) (h0 : Frame m s0 x0) :
    Frame m s0 (State.release x0 x1) := by
  unfold State.release
  extract_lets +onlyGivenNames -underBinder -merge y0
  try clear_value y0
  refine Frame.ite (fun _ => ?_) (fun _ => ?_)
  · extract_lets +onlyGivenNames -underBinder -merge y1
    have g1 : Frame m s0 y1 := by
      exact State.setIsland_frame (hm.of rfl) h0
    try clear_value y1
    split
    · exact State.judgeQueued_frame (hm.of rfl) (Frame.fab (hm.of rfl) g1)
    · exact State.toothReleased_frame (hm.of rfl) g1
    · exact State.linkReleased_frame (hm.of rfl) (State.radioReleased_frame (hm.of rfl) g1)
    · exact g1
  · exact h0

theorem State.slewSettled_frame {m : Nat} {s0 : State} {x0 : State} (hm : Sub 0x400000010 m) (h0 : Frame m s0 x0) :
    Frame m s0 (State.slewSettled x0) := by
  unfold State.slewSettled
  refine Frame.ite (fun _ => ?_) (fun _ => ?_)
  · exact h0
  · extract_lets +onlyGivenNames -underBinder -merge y0
    have g0 : Frame m s0 y0 := by
      exact State.put_frame (hm.of rfl) (Allows.page (p := 2) rfl (hm.of rfl)) (State.modPower_frame (hm.of rfl) h0)
    try clear_value y0
    refine State.when_frame (hm.of rfl) ?_ ?_
    · intro y1 g1
      exact State.raise_frame (hm.of rfl) (Allows.page (p := 2) rfl (hm.of rfl)) g1
    · exact g0

theorem State.thermClear_frame {m : Nat} {s0 : State} {x0 : State} {x1 : Bool} (hm : Sub 0x400000010 m) (h0 : Frame m s0 x0) :
    Frame m s0 (State.thermClear x0 x1) := by
  unfold State.thermClear
  exact State.modPower_frame (hm.of rfl) (State.put_frame (hm.of rfl) (Allows.page (p := 2) rfl (hm.of rfl)) h0)

theorem State.thermWarn_frame {m : Nat} {s0 : State} {x0 : State} (hm : Sub 0x400000010 m) (h0 : Frame m s0 x0) :
    Frame m s0 (State.thermWarn x0) := by
  unfold State.thermWarn
  refine State.modPower_frame (hm.of rfl) ?_
  refine State.when_frame (hm.of rfl) ?_ ?_
  · intro y0 g0
    exact State.raise_frame (hm.of rfl) (Allows.page (p := 2) rfl (hm.of rfl)) g0
  · exact State.put_frame (hm.of rfl) (Allows.page (p := 2) rfl (hm.of rfl)) h0

theorem State.wakeDone_frame {m : Nat} {s0 : State} {x0 : State} (hm : Sub 0x1400000410 m) (h0 : Frame m s0 x0) : Frame m s0 (State.wakeDone x0) := by
  unfold State.wakeDone
  extract_lets +onlyGivenNames -underBinder -merge y0
  try clear_value y0
  refine Frame.ite (fun _ => ?_) (fun _ => ?_)
  · extract_lets +onlyGivenNames -underBinder -merge y1
    have g1 : Frame m s0 y1 := by
      refine State.when_frame (hm.of rfl) ?_ ?_
      · intro y2 g2
        exact State.wdtRestart_frame (hm.of rfl) g2
      · exact h0
    try clear_value y1
    extract_lets +onlyGivenNames -underBinder -merge y3
    have g3 : Frame m s0 y3 := by
      exact State.raise_frame (hm.of rfl) (Allows.page (p := 2) rfl (hm.of rfl)) (State.modPower_frame (hm.of rfl) g1)
    try clear_value y3
    extract_lets +onlyGivenNames -underBinder -merge y4
    have g4 : Frame m s0 y4 := by
      refine State.when_frame (hm.of rfl) ?_ ?_
      · intro y5 g5
        exact State.put_frame (hm.of rfl) (Allows.page (p := 4) rfl (hm.of rfl)) g5
      · exact g3
    try clear_value y4
    exact State.opReturn_frame (hm.of rfl) g4
  · exact h0

theorem State.warmStart_frame {m : Nat} {s0 : State} {x0 : State} (hm : Sub 0x82043c000b0ba30 m) (h0 : Frame m s0 x0) :
    Frame m s0 (State.warmStart x0) := by
  unfold State.warmStart
  extract_lets +onlyGivenNames -underBinder -merge y0
  have g0 : Frame m s0 y0 := by
    exact State.release_frame (hm.of rfl) h0
  try clear_value y0
  refine Frame.ite (fun _ => ?_) (fun _ => ?_)
  · extract_lets +onlyGivenNames -underBinder -merge y1
    try clear_value y1
    refine Frame.ite (fun _ => ?_) (fun _ => ?_)
    · refine State.modHart_frame (hm.of rfl) (fun _ => by first | ((try dsimp only) <;> (repeat' split) <;> simp; done) | exact Nat.zero_le _ | exact Nat.le_refl _) ?_
      exact State.modPower_frame (hm.of rfl) g0
    · exact Frame.rst (hm.of rfl) g0
  · exact g0

theorem State.xo32Fails_frame {m : Nat} {s0 : State} {x0 : State} (hm : Sub 0x1000000010 m) (h0 : Frame m s0 x0) :
    Frame m s0 (State.xo32Fails x0) := by
  unfold State.xo32Fails
  refine State.modPower_frame (hm.of rfl) ?_
  refine State.raise_frame (hm.of rfl) (Allows.page (p := 4) rfl (hm.of rfl)) ?_
  exact State.put_frame (hm.of rfl) (Allows.page (p := 4) rfl (hm.of rfl)) (State.put_frame (hm.of rfl) (Allows.page (p := 4) rfl (hm.of rfl)) h0)

theorem State.xo32Loss_frame {m : Nat} {s0 : State} {x0 : State} (hm : Sub 0x1000000010 m) (h0 : Frame m s0 x0) : Frame m s0 (State.xo32Loss x0) := by
  unfold State.xo32Loss
  refine Frame.ite (fun _ => ?_) (fun _ => ?_)
  · exact State.xo32Fails_frame (hm.of rfl) h0
  · exact h0

theorem State.xo32LossCalm_frame {m : Nat} {s0 : State} {x0 : State} (hm : Sub 0x1400028810 m) (h0 : Frame m s0 x0) :
    Frame m s0 (State.xo32LossCalm x0) := by
  unfold State.xo32LossCalm
  extract_lets +onlyGivenNames -underBinder -merge y0
  try clear_value y0
  refine Frame.ite (fun _ => ?_) (fun _ => ?_)
  · extract_lets +onlyGivenNames -underBinder -merge y1
    have g1 : Frame m s0 y1 := by
      exact State.put_frame (hm.of rfl) (Allows.page (p := 4) rfl (hm.of rfl)) (State.xo32Fails_frame (hm.of rfl) h0)
    try clear_value y1
    refine Frame.ite (fun _ => ?_) (fun _ => ?_)
    · exact State.beginExit_frame (hm.of rfl) g1
    · refine Frame.ite (fun _ => ?_) (fun _ => ?_)
      · exact State.modPower_frame (hm.of rfl) g1
      · exact State.abortEntry_frame (hm.of rfl) g1
  · exact h0

theorem State.xo32Return_frame {m : Nat} {s0 : State} {x0 : State} (hm : Sub 0x1000000010 m) (h0 : Frame m s0 x0) :
    Frame m s0 (State.xo32Return x0) := by
  unfold State.xo32Return
  refine Frame.ite (fun _ => ?_) (fun _ => ?_)
  · exact h0
  · extract_lets +onlyGivenNames -underBinder -merge y0
    have g0 : Frame m s0 y0 := by
      exact State.put_frame (hm.of rfl) (Allows.page (p := 4) rfl (hm.of rfl)) (State.put_frame (hm.of rfl) (Allows.page (p := 4) rfl (hm.of rfl)) h0)
    try clear_value y0
    exact State.modPower_frame (hm.of rfl) g0

theorem State.xo40Fails_frame {m : Nat} {s0 : State} {x0 : State} (hm : Sub 0x50303d400748e10 m) (h0 : Frame m s0 x0) :
    Frame m s0 (State.xo40Fails x0) := by
  unfold State.xo40Fails
  extract_lets +onlyGivenNames -underBinder -merge y0
  have g0 : Frame m s0 y0 := by
    exact State.modPower_frame (hm.of rfl) h0
  try clear_value y0
  extract_lets +onlyGivenNames -underBinder -merge y1
  have g1 : Frame m s0 y1 := by
    refine Frame.ite (fun _ => ?_) (fun _ => ?_)
    · refine State.when_frame (hm.of rfl) ?_ ?_
      · intro y2 g2
        exact State.wdtRestart_frame (hm.of rfl) g2
      · exact State.modPower_frame (hm.of rfl) g0
    · refine Frame.ite (fun _ => ?_) (fun _ => ?_)
      · exact State.abortEntry_frame (hm.of rfl) g0
      · exact g0
  try clear_value y1
  extract_lets +onlyGivenNames -underBinder -merge y3
  have g3 : Frame m s0 y3 := by
    refine State.put_frame (hm.of rfl) (Allows.page (p := 4) rfl (hm.of rfl)) ?_
    refine State.put_frame (hm.of rfl) (Allows.page (p := 4) rfl (hm.of rfl)) ?_
    exact State.put_frame (hm.of rfl) (Allows.page (p := 4) rfl (hm.of rfl)) (State.put_frame (hm.of rfl) (Allows.page (p := 4) rfl (hm.of rfl)) g1)
  try clear_value y3
  extract_lets +onlyGivenNames -underBinder -merge y4
  have g4 : Frame m s0 y4 := by
    exact State.enterCoarse_frame (hm.of rfl) (State.radioStops_frame (hm.of rfl) (State.controlStops_frame (hm.of rfl) g3))
  try clear_value y4
  extract_lets +onlyGivenNames -underBinder -merge y5
  have g5 : Frame m s0 y5 := by
    refine Frame.foldl ?_ ?_
    · intro y6 y7 g6
      exact State.dropLatches_frame (hm.of rfl) g6
    · exact g4
  try clear_value y5
  extract_lets +onlyGivenNames -underBinder -merge y8
  have g8 : Frame m s0 y8 := by
    exact Frame.can (hm.of rfl) g5
  try clear_value y8
  exact State.raise_frame (hm.of rfl) (Allows.page (p := 4) rfl (hm.of rfl)) g8

theorem State.xo40Loss_frame {m : Nat} {s0 : State} {x0 : State} (hm : Sub 0x50303d400748e10 m) (h0 : Frame m s0 x0) :
    Frame m s0 (State.xo40Loss x0) := by
  unfold State.xo40Loss
  refine Frame.ite (fun _ => ?_) (fun _ => ?_)
  · exact State.xo40Fails_frame (hm.of rfl) h0
  · exact h0

theorem State.xo40Stable_frame {m : Nat} {s0 : State} {x0 : State} (hm : Sub 0x1000000000 m) (h0 : Frame m s0 x0) :
    Frame m s0 (State.xo40Stable x0) := by
  unfold State.xo40Stable
  refine Frame.ite (fun _ => ?_) (fun _ => ?_)
  · exact State.put_frame (hm.of rfl) (Allows.page (p := 4) rfl (hm.of rfl)) h0
  · exact h0

theorem State.xo40Timeout_frame {m : Nat} {s0 : State} {x0 : State} (hm : Sub 0x50303d400748e10 m) (h0 : Frame m s0 x0) :
    Frame m s0 (State.xo40Timeout x0) := by
  unfold State.xo40Timeout
  refine Frame.ite (fun _ => ?_) (fun _ => ?_)
  · exact State.xo40Fails_frame (hm.of rfl) h0
  · exact h0

/-! ### Machine/Reset -/

theorem State.modRst_frame {m : Nat} {s0 : State} {x0 : State} {x1 : Reset → Reset} (hm : Sub 0x20 m) (h0 : Frame m s0 x0) :
    Frame m s0 (State.modRst x0 x1) := by
  unfold State.modRst
  exact Frame.rst (hm.of rfl) h0

theorem State.askReset_frame {m : Nat} {s0 : State} {x0 : State} {x1 : ResetSource} (hm : Sub 0x20 m) (h0 : Frame m s0 x0) :
    Frame m s0 (State.askReset x0 x1) := by
  unfold State.askReset
  refine Frame.ite (fun _ => ?_) (fun _ => ?_)
  · exact h0
  · exact State.modRst_frame (hm.of rfl) h0

theorem State.reportFailsafe_frame {m : Nat} {s0 : State} {x0 : State} (hm : Sub 0x3c000080200 m) (h0 : Frame m s0 x0) :
    Frame m s0 (State.reportFailsafe x0) := by
  unfold State.reportFailsafe
  refine Frame.ite (fun _ => ?_) (fun _ => ?_)
  · extract_lets +onlyGivenNames -underBinder -merge y0
    have g0 : Frame m s0 y0 := by
      exact State.fault_frame (hm.of rfl) h0
    try clear_value y0
    exact Frame.trx (hm.of rfl) g0
  · exact h0

theorem State.bootFetch_frame {m : Nat} {s0 : State} {x0 : State} {x1 : Nat} (hm : Sub 0x3c000000202 m) (h0 : Frame m s0 x0) :
    Frame m s0 (State.bootFetch x0 x1).2 := by
  unfold State.bootFetch
  refine Frame.ite2 (fun _ => ?_) (fun _ => ?_)
  · extract_lets +onlyGivenNames -underBinder -merge y0
    have g0 : Frame m s0 y0.2 := by
      exact State.freeBool_frame (hm.of rfl) h0
    try clear_value y0
    extract_lets +onlyGivenNames -underBinder -merge y1
    have g1 : Frame m s0 y1.2 := by
      exact State.free_frame (hm.of rfl) g0
    try clear_value y1
    refine Frame.ite2 (fun _ => ?_) (fun _ => ?_)
    · exact Frame.snd (State.eccRecord_frame (hm.of rfl) g0)
    · exact Frame.snd g1
  · refine Frame.ite2 (fun _ => ?_) (fun _ => ?_)
    · exact Frame.snd (State.eccRecord_frame (hm.of rfl) h0)
    · exact Frame.snd h0

theorem State.bootRead_frame {m : Nat} {s0 : State} {x0 : State} {x1 : Nat} {x2 : Disturb} {x3 : Nat}
    (hm : Sub 0x3c000001202 m) (h0 : Frame m s0 x0) : Frame m s0 (State.bootRead x0 x1 x2 x3).2 := by
  unfold State.bootRead
  extract_lets +onlyGivenNames -underBinder -merge y0
  have g0 : Frame m s0 y0 := by
    refine Frame.foldl ?_ ?_
    · intro y1 y2 g1
      exact State.struck_frame (hm.of rfl) g1
    · exact h0
  try clear_value y0
  extract_lets +onlyGivenNames -underBinder -merge y3
  have g3 : Frame m s0 y3.2 := by
    exact State.bootFetch_frame (hm.of rfl) g0
  try clear_value y3
  refine Frame.snd ?_
  refine Frame.foldl ?_ ?_
  · intro y4 y5 g4
    split
    · exact State.failRecord_frame (hm.of rfl) g4
    · exact g4
  · exact g3

theorem State.startHart_frame {m : Nat} {s0 : State} {x0 : State} {x1 x2 : Nat} (hm : Sub 0x800 m) (h0 : Frame m s0 x0) :
    Frame m s0 (State.startHart x0 x1 x2) := by
  unfold State.startHart
  refine State.modHart_frame (hm.of rfl) (fun _ => by first | ((try dsimp only) <;> (repeat' split) <;> simp; done) | exact Nat.zero_le _ | exact Nat.le_refl _) ?_
  exact h0

theorem State.bootCheck_frame {m : Nat} {s0 : State} {x0 : State} {x1 : Disturb} (hm : Sub 0x3c200081a32 m) (h0 : Frame m s0 x0) :
    Frame m s0 (State.bootCheck x0 x1) := by
  unfold State.bootCheck
  refine Frame.ite (fun _ => ?_) (fun _ => ?_)
  · exact h0
  · extract_lets +onlyGivenNames -underBinder -merge y0
    try clear_value y0
    extract_lets +onlyGivenNames -underBinder -merge y1
    have g1 : Frame m s0 y1 := by
      exact State.modPower_frame (hm.of rfl) (State.modRst_frame (hm.of rfl) (State.reportFailsafe_frame (hm.of rfl) h0))
    try clear_value y1
    extract_lets +onlyGivenNames -underBinder -merge y2
    have g2 : Frame m s0 y2.2 := by
      exact State.bootRead_frame (hm.of rfl) g1
    try clear_value y2
    extract_lets +onlyGivenNames -underBinder -merge y3
    have g3 : Frame m s0 y3.2 := by
      exact State.bootRead_frame (hm.of rfl) g2
    try clear_value y3
    extract_lets +onlyGivenNames -underBinder -merge y4
    try clear_value y4
    extract_lets +onlyGivenNames -underBinder -merge y5
    have g5 : Frame m s0 y5 := by
      exact g3
    try clear_value y5
    extract_lets +onlyGivenNames -underBinder -merge y6
    try clear_value y6
    refine Frame.ite (fun _ => ?_) (fun _ => ?_)
    · refine State.modHart_frame (hm.of rfl) (fun _ => by first | ((try dsimp only) <;> (repeat' split) <;> simp; done) | exact Nat.zero_le _ | exact Nat.le_refl _) ?_
      exact State.put_frame (hm.of rfl) (Allows.page (p := 1) rfl (hm.of rfl)) (State.put_frame (hm.of rfl) (Allows.page (p := 1) rfl (hm.of rfl)) g5)
    · extract_lets +onlyGivenNames -underBinder -merge y7
      have g7 : Frame m s0 y7 := by
        refine State.put_frame (hm.of rfl) (Allows.page (p := 1) rfl (hm.of rfl)) ?_
        exact State.put_frame (hm.of rfl) (Allows.page (p := 1) rfl (hm.of rfl)) g5
      try clear_value y7
      refine Frame.ite (fun _ => ?_) (fun _ => ?_)
      · exact State.startHart_frame (hm.of rfl) g7
      · exact State.modRst_frame (hm.of rfl) g7

theorem copyUnit_frame {m : Nat} {s0 : State} {x0 x1 : Nat} {x2 : Disturb} {x3 : State} {x4 : Nat} (hm : Sub 0x3c000001202 m) (h3 : Frame m s0 x3) :
    Frame m s0 (copyUnit x0 x1 x2 x3 x4) := by
  unfold copyUnit
  extract_lets +onlyGivenNames -underBinder -merge y0
  have g0 : Frame m s0 y0.2 := by
    exact State.bootRead_frame (hm.of rfl) h3
  try clear_value y0
  refine Frame.foldl ?_ ?_
  · intro y1 y2 g1
    exact State.setWord_frame (hm.of rfl) g1
  · exact g0

theorem State.bootCopied_frame {m : Nat} {s0 : State} {x0 : State} {x1 : Disturb} (hm : Sub 0x3c000001a22 m) (h0 : Frame m s0 x0) :
    Frame m s0 (State.bootCopied x0 x1) := by
  unfold State.bootCopied
  refine Frame.ite (fun _ => ?_) (fun _ => ?_)
  · exact h0
  · extract_lets +onlyGivenNames -underBinder -merge y0
    try clear_value y0
    extract_lets +onlyGivenNames -underBinder -merge y1
    try clear_value y1
    extract_lets +onlyGivenNames -underBinder -merge y2
    have g2 : Frame m s0 y2 := by
      refine Frame.foldl ?_ ?_
      · intro y3 y4 g3
        exact copyUnit_frame (hm.of rfl) g3
      · exact h0
    try clear_value y2
    exact State.startHart_frame (hm.of rfl) (State.modRst_frame (hm.of rfl) g2)

theorem State.breakFlash_frame {m : Nat} {s0 : State} {x0 : State} (hm : Sub 0x1000 m) (h0 : Frame m s0 x0) : Frame m s0 (State.breakFlash x0) := by
  unfold State.breakFlash
  split
  · exact h0
  · extract_lets +onlyGivenNames -underBinder -merge y0
    try clear_value y0
    extract_lets +onlyGivenNames -underBinder -merge y1
    try clear_value y1
    exact Frame.mem (hm.of rfl) (fun w => by first | exact w | exact Memory.wf_blank w | exact Memory.wf_ramFilter w _) h0

theorem State.breakFuse_frame {m : Nat} {s0 : State} {x0 : State} (hm : Sub 0x22 m) (h0 : Frame m s0 x0) : Frame m s0 (State.breakFuse x0) := by
  unfold State.breakFuse
  split
  · exact h0
  · extract_lets +onlyGivenNames -underBinder -merge y0
    have g0 : Frame m s0 y0.2 := by
      exact State.free_frame (hm.of rfl) h0
    try clear_value y0
    exact State.modRst_frame (hm.of rfl) g0

theorem State.breakGen_frame {m : Nat} {s0 : State} {x0 : State} (hm : Sub 0x1000000000000002 m) (h0 : Frame m s0 x0) :
    Frame m s0 (State.breakGen x0) := by
  unfold State.breakGen
  split
  · exact h0
  · refine Frame.ite (fun _ => ?_) (fun _ => ?_)
    · extract_lets +onlyGivenNames -underBinder -merge y0
      try clear_value y0
      extract_lets +onlyGivenNames -underBinder -merge y1
      have g1 : Frame m s0 y1.2 := by
        exact State.freeBool_frame (hm.of rfl) h0
      try clear_value y1
      refine State.when_frame (hm.of rfl) ?_ ?_
      · intro y2 g2
        exact State.put_frame (hm.of rfl) (Allows.page (p := 28) rfl (hm.of rfl)) g2
      · exact g1
    · exact h0

theorem State.powerBack_frame {m : Nat} {s0 : State} {x0 : State} (hm : Sub 0xa00000030 m) (h0 : Frame m s0 x0) :
    Frame m s0 (State.powerBack x0) := by
  unfold State.powerBack
  refine Frame.ite (fun _ => ?_) (fun _ => ?_)
  · refine Frame.ite (fun _ => ?_) (fun _ => ?_)
    · extract_lets +onlyGivenNames -underBinder -merge y0
      have g0 : Frame m s0 y0 := by
        exact State.put_frame (hm.of rfl) (Allows.page (p := 3) rfl (hm.of rfl)) (State.modRst_frame (hm.of rfl) h0)
      try clear_value y0
      refine State.suppliedPgood_frame (hm.of rfl) ?_
      exact State.modPower_frame (hm.of rfl) (State.put_frame (hm.of rfl) (Allows.page (p := 1) rfl (hm.of rfl)) g0)
    · exact State.modRst_frame (hm.of rfl) h0
  · exact h0

theorem State.clearBlocks_frame {m : Nat} {s0 : State} {x0 : State} (hm : Sub 0x1f7bfc0 m) (h0 : Frame m s0 x0) :
    Frame m s0 (State.clearBlocks x0) := by
  unfold State.clearBlocks
  refine Frame.owners_waiting_service_post_wdt_harts_mem_q_fab_ser_ntu_can_phy_link_ctl_tooth_toothTime (hm.of rfl) (fun _ => fifo_none) (fun i n => by first | exact posts_lost _ n | exact posts_none n | exact posts_ofFn i.posts (fun _ => by first | (split <;> simp; done) | simp) n) (fun w => by first | exact w | exact Memory.wf_blank w | exact Memory.wf_ramFilter w _) (fun i => by first | exact i.ns | exact Nat.mod_lt _ (by decide) | exact (by decide : 0 < nsPerSec)) ?_
  exact h0

theorem State.unpowered_frame {m : Nat} {s0 : State} {x0 : State} (hm : Sub 0xffffffffffffffff01ffbff8 m) (h0 : Frame m s0 x0) :
    Frame m s0 (State.unpowered x0) := by
  unfold State.unpowered
  extract_lets +onlyGivenNames -underBinder -merge y0
  have g0 : Frame m s0 y0 := by
    exact State.clearBlocks_frame (hm.of rfl) (State.dropFields_frame (hm.of rfl) h0)
  try clear_value y0
  extract_lets +onlyGivenNames -underBinder -merge y1
  extract_lets +onlyGivenNames -underBinder -merge y2
  try clear_value y2
  extract_lets +onlyGivenNames -underBinder -merge y3
  extract_lets +onlyGivenNames -underBinder -merge y4
  extract_lets +onlyGivenNames -underBinder -merge y5
  have g5 : Frame m s0 y5 := by
    refine Frame.supply_power_rst_mem_fab_ntu (hm.of rfl) (fun w => by first | exact w | exact Memory.wf_blank w | exact Memory.wf_ramFilter w _) (fun i => by first | exact i.ns | exact Nat.mod_lt _ (by decide) | exact (by decide : 0 < nsPerSec)) ?_
    exact g0
  try clear_value y5
  extract_lets +onlyGivenNames -underBinder -merge y6
  have g6 : Frame m s0 y6 := by
    refine Frame.foldl ?_ ?_
    · intro y7 y8 g7
      exact State.put_frame (hm.of rfl) (Allows.all _ (hm.of rfl)) g7
    · exact g5
  try clear_value y6
  refine State.when_frame (hm.of rfl) ?_ ?_
  · intro y9 g9
    exact State.put_frame (hm.of rfl) (Allows.page (p := 20) rfl (hm.of rfl)) (State.decoderOff_frame (hm.of rfl) g9)
  · exact g6

theorem State.brownStart_frame {m : Nat} {s0 : State} {x0 : State} {x1 : Bool} (hm : Sub 0xffffffffffffffff01ffbff8 m) (h0 : Frame m s0 x0) :
    Frame m s0 (State.brownStart x0 x1) := by
  unfold State.brownStart
  extract_lets +onlyGivenNames -underBinder -merge y0
  try clear_value y0
  extract_lets +onlyGivenNames -underBinder -merge y1
  try clear_value y1
  extract_lets +onlyGivenNames -underBinder -merge y2
  try clear_value y2
  extract_lets +onlyGivenNames -underBinder -merge y3
  try clear_value y3
  extract_lets +onlyGivenNames -underBinder -merge y4
  have g4 : Frame m s0 y4 := by
    exact State.unpowered_frame (hm.of rfl) h0
  try clear_value y4
  extract_lets +onlyGivenNames -underBinder -merge y5
  have g5 : Frame m s0 y5 := by
    refine State.modRst_frame (hm.of rfl) ?_
    refine Frame.foldl ?_ ?_
    · intro y6 y7 g6
      exact State.put_frame (hm.of rfl) (Allows.page (p := 1) rfl (hm.of rfl)) g6
    · exact g4
  try clear_value y5
  refine Frame.ite (fun _ => ?_) (fun _ => ?_)
  · extract_lets +onlyGivenNames -underBinder -merge y8
    have g8 : Frame m s0 y8 := by
      refine State.put_frame (hm.of rfl) (Allows.page (p := 28) rfl (hm.of rfl)) ?_
      refine State.put_frame (hm.of rfl) (Allows.page (p := 28) rfl (hm.of rfl)) ?_
      refine State.put_frame (hm.of rfl) (Allows.page (p := 28) rfl (hm.of rfl)) ?_
      exact State.put_frame (hm.of rfl) (Allows.page (p := 28) rfl (hm.of rfl)) g5
    try clear_value y8
    extract_lets +onlyGivenNames -underBinder -merge y9
    have g9 : Frame m s0 y9 := by
      refine State.put_frame (hm.of rfl) (Allows.page (p := 28) rfl (hm.of rfl)) ?_
      refine State.put_frame (hm.of rfl) (Allows.page (p := 28) rfl (hm.of rfl)) ?_
      refine State.put_frame (hm.of rfl) (Allows.page (p := 28) rfl (hm.of rfl)) ?_
      exact State.put_frame (hm.of rfl) (Allows.page (p := 28) rfl (hm.of rfl)) g8
    try clear_value y9
    exact Frame.mem (hm.of rfl) (fun w => by first | exact w | exact Memory.wf_blank w | exact Memory.wf_ramFilter w _) g9
  · refine State.when_frame (hm.of rfl) ?_ ?_
    · intro y10 g10
      exact State.put_frame (hm.of rfl) (Allows.page (p := 1) rfl (hm.of rfl)) g10
    · exact g5

theorem State.brownTaken_frame {m : Nat} {s0 : State} {x0 : State} {x1 : Bool} (hm : Sub 0xffffffffffffffff01ffbff8 m) (h0 : Frame m s0 x0) :
    Frame m s0 (State.brownTaken x0 x1) := by
  unfold State.brownTaken
  exact State.powerBack_frame (hm.of rfl) (State.brownStart_frame (hm.of rfl) h0)

theorem State.brownOut_frame {m : Nat} {s0 : State} {x0 : State} {x1 : Bool} (hm : Sub 0xffffffffffffffff01ffbff8 m) (h0 : Frame m s0 x0) :
    Frame m s0 (State.brownOut x0 x1) := by
  unfold State.brownOut
  refine Frame.ite (fun _ => ?_) (fun _ => ?_)
  · exact h0
  · refine Frame.ite (fun _ => ?_) (fun _ => ?_)
    · exact State.modRst_frame (hm.of rfl) h0
    · refine Frame.ite (fun _ => ?_) (fun _ => ?_)
      · exact h0
      · refine Frame.ite (fun _ => ?_) (fun _ => ?_)
        · exact State.modRst_frame (hm.of rfl) h0
        · exact State.brownTaken_frame (hm.of rfl) h0

theorem State.enterOff_frame {m : Nat} {s0 : State} {x0 : State} (hm : Sub 0xffffffffffffffff01fffffa m) (h0 : Frame m s0 x0) :
    Frame m s0 (State.enterOff x0) := by
  unfold State.enterOff
  extract_lets +onlyGivenNames -underBinder -merge y0
  try clear_value y0
  extract_lets +onlyGivenNames -underBinder -merge y1
  try clear_value y1
  extract_lets +onlyGivenNames -underBinder -merge y2
  try clear_value y2
  extract_lets +onlyGivenNames -underBinder -merge y3
  have g3 : Frame m s0 y3 := by
    refine State.put_frame (hm.of rfl) (Allows.page (p := 20) rfl (hm.of rfl)) ?_
    exact State.dropFields_frame (hm.of rfl) (State.unpowered_frame (hm.of rfl) (State.breakFuse_frame (hm.of rfl) h0))
  try clear_value y3
  extract_lets +onlyGivenNames -underBinder -merge y4
  have g4 : Frame m s0 y4 := by
    exact State.put_frame (hm.of rfl) (Allows.page (p := 3) rfl (hm.of rfl)) (State.put_frame (hm.of rfl) (Allows.page (p := 20) rfl (hm.of rfl)) g3)
  try clear_value y4
  extract_lets +onlyGivenNames -underBinder -merge y5
  try clear_value y5
  extract_lets +onlyGivenNames -underBinder -merge y6
  try clear_value y6
  extract_lets +onlyGivenNames -underBinder -merge y7
  have g7 : Frame m s0 y7 := by
    refine Frame.power_harts_dbg_trx (hm.of rfl) (fun i n => by first | exact posts_lost _ n | exact posts_none n | exact posts_ofFn i.posts (fun _ => by first | (split <;> simp; done) | simp) n) ?_
    exact g4
  try clear_value y7
  refine State.when_frame (hm.of rfl) ?_ ?_
  · intro y8 g8
    exact State.exitOff_frame (hm.of rfl) g8
  · exact State.modRst_frame (hm.of rfl) g7

theorem State.fuseCommand_frame {m : Nat} {s0 : State} {x0 : State} {x1 : Nat} (hm : Sub 0x200000020 m) (h0 : Frame m s0 x0) :
    Frame m s0 (State.fuseCommand x0 x1) := by
  unfold State.fuseCommand
  extract_lets +onlyGivenNames -underBinder -merge y0
  try clear_value y0
  refine Frame.ite (fun _ => ?_) (fun _ => ?_)
  · exact h0
  · refine Frame.ite (fun _ => ?_) (fun _ => ?_)
    · refine Frame.ite (fun _ => ?_) (fun _ => ?_)
      · refine State.raise_frame (hm.of rfl) (Allows.page (p := 1) rfl (hm.of rfl)) ?_
        exact State.put_frame (hm.of rfl) (Allows.page (p := 1) rfl (hm.of rfl)) h0
      · refine Frame.ite (fun _ => ?_) (fun _ => ?_)
        · refine State.raise_frame (hm.of rfl) (Allows.page (p := 1) rfl (hm.of rfl)) ?_
          exact State.put_frame (hm.of rfl) (Allows.page (p := 1) rfl (hm.of rfl)) h0
        · exact State.modRst_frame (hm.of rfl) (State.put_frame (hm.of rfl) (Allows.page (p := 1) rfl (hm.of rfl)) h0)
    · refine Frame.ite (fun _ => ?_) (fun _ => ?_)
      · refine State.raise_frame (hm.of rfl) (Allows.page (p := 1) rfl (hm.of rfl)) ?_
        refine State.put_frame (hm.of rfl) (Allows.page (p := 1) rfl (hm.of rfl)) ?_
        exact State.put_frame (hm.of rfl) (Allows.page (p := 1) rfl (hm.of rfl)) h0
      · exact h0

theorem State.noteCauses_frame {m : Nat} {s0 : State} {x0 : State} {x1 : List ResetSource}
    (hm : Sub 0xffffffffffffffff00000000 m) (h0 : Frame m s0 x0) : Frame m s0 (State.noteCauses x0 x1) := by
  unfold State.noteCauses
  refine Frame.foldl ?_ ?_
  · intro y0 y1 g0
    split
    · exact State.put_frame (hm.of rfl) (Allows.all _ (hm.of rfl)) g0
    · exact g0
  · exact h0

theorem State.resetAgain_frame {m : Nat} {s0 : State} {x0 : State} (hm : Sub 0xffffffffffffffff00000020 m) (h0 : Frame m s0 x0) :
    Frame m s0 (State.resetAgain x0) := by
  unfold State.resetAgain
  exact State.modRst_frame (hm.of rfl) (State.noteCauses_frame (hm.of rfl) h0)

theorem State.newKey_frame {m : Nat} {s0 : State} {x0 : State} {x1 : Nat} (hm : Sub 0x2000000000001000 m) (h0 : Frame m s0 x0) :
    Frame m s0 (State.newKey x0 x1) := by
  unfold State.newKey
  refine State.when_frame (hm.of rfl) ?_ ?_
  · intro y0 g0
    refine State.put_frame (hm.of rfl) (Allows.page (p := 29) rfl (hm.of rfl)) ?_
    exact State.raise_frame (hm.of rfl) (Allows.page (p := 29) rfl (hm.of rfl)) g0
  · exact State.drawKey_frame (hm.of rfl) h0

theorem State.newKeys_frame {m : Nat} {s0 : State} {x0 : State} (hm : Sub 0x2000000000001020 m) (h0 : Frame m s0 x0) :
    Frame m s0 (State.newKeys x0) := by
  unfold State.newKeys
  refine State.modRst_frame (hm.of rfl) ?_
  refine Frame.foldl ?_ ?_
  · intro y0 y1 g0
    exact State.newKey_frame (hm.of rfl) g0
  · exact h0

theorem State.systemReset_frame {m : Nat} {s0 : State} {x0 : State} (hm : Sub 0xffffffffffffffff01ffbffa m) (h0 : Frame m s0 x0) :
    Frame m s0 (State.systemReset x0) := by
  unfold State.systemReset
  extract_lets +onlyGivenNames -underBinder -merge y0
  try clear_value y0
  extract_lets +onlyGivenNames -underBinder -merge y1
  try clear_value y1
  extract_lets +onlyGivenNames -underBinder -merge y2
  have g2 : Frame m s0 y2 := by
    exact State.noteCauses_frame (hm.of rfl) h0
  try clear_value y2
  extract_lets +onlyGivenNames -underBinder -merge y3
  have g3 : Frame m s0 y3 := by
    exact State.clearBlocks_frame (hm.of rfl) (State.dropFields_frame (hm.of rfl) g2)
  try clear_value y3
  extract_lets +onlyGivenNames -underBinder -merge y4
  have g4 : Frame m s0 y4 := by
    refine State.when_frame (hm.of rfl) ?_ ?_
    · intro y5 g5
      exact State.put_frame (hm.of rfl) (Allows.page (p := 1) rfl (hm.of rfl)) g5
    · exact g3
  try clear_value y4
  extract_lets +onlyGivenNames -underBinder -merge y6
  have g6 : Frame m s0 y6 := by
    refine State.when_frame (hm.of rfl) ?_ ?_
    · intro y7 g7
      refine State.put_frame (hm.of rfl) (Allows.page (p := 4) rfl (hm.of rfl)) ?_
      exact State.put_frame (hm.of rfl) (Allows.page (p := 4) rfl (hm.of rfl)) (State.put_frame (hm.of rfl) (Allows.page (p := 4) rfl (hm.of rfl)) g7)
    · exact g4
  try clear_value y6
  extract_lets +onlyGivenNames -underBinder -merge y8
  have g8 : Frame m s0 y8 := by
    exact State.modPower_frame (hm.of rfl) g6
  try clear_value y8
  extract_lets +onlyGivenNames -underBinder -merge y9
  extract_lets +onlyGivenNames -underBinder -merge y10
  have g10 : Frame m s0 y10 := by
    exact Frame.supply (hm.of rfl) g8
  try clear_value y10
  extract_lets +onlyGivenNames -underBinder -merge y11
  have g11 : Frame m s0 y11 := by
    exact State.modRst_frame (hm.of rfl) g10
  try clear_value y11
  extract_lets +onlyGivenNames -underBinder -merge y12
  have g12 : Frame m s0 y12 := by
    refine State.put_frame (hm.of rfl) (Allows.page (p := 20) rfl (hm.of rfl)) ?_
    exact State.put_frame (hm.of rfl) (Allows.page (p := 20) rfl (hm.of rfl)) (State.decoderOff_frame (hm.of rfl) g11)
  try clear_value y12
  refine State.faultJudge_frame (hm.of rfl) ?_
  refine State.newKeys_frame (hm.of rfl) ?_
  refine Frame.foldl ?_ ?_
  · intro y13 y14 g13
    exact State.put_frame (hm.of rfl) (Allows.page (p := 1) rfl (hm.of rfl)) g13
  · exact g12

theorem State.takeReset_frame {m : Nat} {s0 : State} {x0 : State} (hm : Sub 0xffffffffffffffff01ffbffa m) (h0 : Frame m s0 x0) :
    Frame m s0 (State.takeReset x0) := by
  unfold State.takeReset
  refine Frame.ite (fun _ => ?_) (fun _ => ?_)
  · exact h0
  · split
    · exact State.brownTaken_frame (hm.of rfl) h0
    · refine Frame.ite (fun _ => ?_) (fun _ => ?_)
      · exact State.modRst_frame (hm.of rfl) h0
      · refine Frame.ite (fun _ => ?_) (fun _ => ?_)
        · exact State.resetAgain_frame (hm.of rfl) h0
        · exact State.systemReset_frame (hm.of rfl) h0

theorem State.resetDue_frame {m : Nat} {s0 : State} {x0 : State} (hm : Sub 0xffffffffffffffff01ffbffa m) (h0 : Frame m s0 x0) :
    Frame m s0 (State.resetDue x0) := by
  unfold State.resetDue
  refine Frame.ite (fun _ => ?_) (fun _ => ?_)
  · exact h0
  · exact State.takeReset_frame (hm.of rfl) h0

theorem State.fuseDone_frame {m : Nat} {s0 : State} {x0 : State} {x1 : Word} (hm : Sub 0xffffffffffffffff01ffbffa m) (h0 : Frame m s0 x0) :
    Frame m s0 (State.fuseDone x0 x1) := by
  unfold State.fuseDone
  split
  · exact h0
  · extract_lets +onlyGivenNames -underBinder -merge y0
    try clear_value y0
    extract_lets +onlyGivenNames -underBinder -merge y1
    have g1 : Frame m s0 y1 := by
      exact State.modRst_frame (hm.of rfl) h0
    try clear_value y1
    refine State.resetDue_frame (hm.of rfl) ?_
    refine State.raise_frame (hm.of rfl) (Allows.page (p := 1) rfl (hm.of rfl)) ?_
    exact State.put_frame (hm.of rfl) (Allows.page (p := 1) rfl (hm.of rfl)) (State.put_frame (hm.of rfl) (Allows.page (p := 1) rfl (hm.of rfl)) g1)

theorem State.fuseLoad_frame {m : Nat} {s0 : State} {x0 : State} (hm : Sub 0x2071343f60046aa3a m) (h0 : Frame m s0 x0) :
    Frame m s0 (State.fuseLoad x0) := by
  unfold State.fuseLoad
  refine Frame.ite (fun _ => ?_) (fun _ => ?_)
  · exact h0
  · extract_lets +onlyGivenNames -underBinder -merge y0
    have g0 : Frame m s0 y0 := by
      exact State.modRst_frame (hm.of rfl) h0
    try clear_value y0
    extract_lets +onlyGivenNames -underBinder -merge y1
    try clear_value y1
    extract_lets +onlyGivenNames -underBinder -merge y2
    try clear_value y2
    extract_lets +onlyGivenNames -underBinder -merge y3
    try clear_value y3
    extract_lets +onlyGivenNames -underBinder -merge y4
    have g4 : Frame m s0 y4 := by
      refine Frame.foldl ?_ ?_
      · intro y5 y6 g5
        exact State.put_frame (hm.of rfl) (Allows.page (p := 14) rfl (hm.of rfl)) g5
      · exact g0
    try clear_value y4
    extract_lets +onlyGivenNames -underBinder -merge y7
    have g7 : Frame m s0 y7 := by
      refine State.putB_frame (hm.of rfl) (Allows.page (p := 1) rfl (hm.of rfl)) ?_
      exact State.putB_frame (hm.of rfl) (Allows.page (p := 1) rfl (hm.of rfl)) g4
    try clear_value y7
    extract_lets +onlyGivenNames -underBinder -merge y8
    have g8 : Frame m s0 y8 := by
      exact State.put_frame (hm.of rfl) (Allows.page (p := 1) rfl (hm.of rfl)) (State.put_frame (hm.of rfl) (Allows.page (p := 1) rfl (hm.of rfl)) g7)
    try clear_value y8
    extract_lets +onlyGivenNames -underBinder -merge y9
    have g9 : Frame m s0 y9 := by
      refine State.put_frame (hm.of rfl) (Allows.page (p := 20) rfl (hm.of rfl)) ?_
      exact State.put_frame (hm.of rfl) (Allows.page (p := 5) rfl (hm.of rfl)) g8
    try clear_value y9
    extract_lets +onlyGivenNames -underBinder -merge y10
    have g10 : Frame m s0 y10 := by
      exact State.put_frame (hm.of rfl) (Allows.page (p := 20) rfl (hm.of rfl)) g9
    try clear_value y10
    exact State.faultJudge_frame (hm.of rfl) (Frame.fab (hm.of rfl) g10)

theorem State.judgeDrive_frame {m : Nat} {s0 : State} {x0 : State} (hm : Sub 0x20 m) (h0 : Frame m s0 x0) : Frame m s0 (State.judgeDrive x0) := by
  unfold State.judgeDrive
  refine State.when_frame (hm.of rfl) ?_ ?_
  · intro y0 g0
    exact State.modRst_frame (hm.of rfl) g0
  · exact h0

theorem State.leaveReset_frame {m : Nat} {s0 : State} {x0 : State} (hm : Sub 0x820000000b00030 m) (h0 : Frame m s0 x0) :
    Frame m s0 (State.leaveReset x0) := by
  unfold State.leaveReset
  refine Frame.ite (fun _ => ?_) (fun _ => ?_)
  · exact h0
  · extract_lets +onlyGivenNames -underBinder -merge y0
    have g0 : Frame m s0 y0 := by
      exact State.modRst_frame (hm.of rfl) h0
    try clear_value y0
    extract_lets +onlyGivenNames -underBinder -merge y1
    have g1 : Frame m s0 y1 := by
      exact State.modPower_frame (hm.of rfl) g0
    try clear_value y1
    exact State.toothReleased_frame (hm.of rfl) (State.linkReleased_frame (hm.of rfl) (State.radioReleased_frame (hm.of rfl) g1))

theorem State.padHigh_frame {m : Nat} {s0 : State} {x0 : State} (hm : Sub 0x820000000b00030 m) (h0 : Frame m s0 x0) :
    Frame m s0 (State.padHigh x0) := by
  unfold State.padHigh
  refine Frame.ite (fun _ => ?_) (fun _ => ?_)
  · exact State.leaveReset_frame (hm.of rfl) (State.modRst_frame (hm.of rfl) h0)
  · exact h0

theorem State.padLow_frame {m : Nat} {s0 : State} {x0 : State} (hm : Sub 0x20 m) (h0 : Frame m s0 x0) : Frame m s0 (State.padLow x0) := by
  unfold State.padLow
  extract_lets +onlyGivenNames -underBinder -merge y0
  try clear_value y0
  refine Frame.ite (fun _ => ?_) (fun _ => ?_)
  · exact h0
  · exact State.askReset_frame (hm.of rfl) h0

theorem State.porEnd_frame {m : Nat} {s0 : State} {x0 : State} (hm : Sub 0xa00080030 m) (h0 : Frame m s0 x0) : Frame m s0 (State.porEnd x0) := by
  unfold State.porEnd
  refine Frame.ite (fun _ => ?_) (fun _ => ?_)
  · exact h0
  · extract_lets +onlyGivenNames -underBinder -merge y0
    try clear_value y0
    extract_lets +onlyGivenNames -underBinder -merge y1
    have g1 : Frame m s0 y1 := by
      exact State.put_frame (hm.of rfl) (Allows.page (p := 3) rfl (hm.of rfl)) (State.modRst_frame (hm.of rfl) h0)
    try clear_value y1
    extract_lets +onlyGivenNames -underBinder -merge y2
    have g2 : Frame m s0 y2 := by
      exact State.put_frame (hm.of rfl) (Allows.page (p := 1) rfl (hm.of rfl)) g1
    try clear_value y2
    extract_lets +onlyGivenNames -underBinder -merge y3
    have g3 : Frame m s0 y3 := by
      refine State.putB_frame (hm.of rfl) (Allows.page (p := 1) rfl (hm.of rfl)) ?_
      exact State.putB_frame (hm.of rfl) (Allows.page (p := 1) rfl (hm.of rfl)) g2
    try clear_value y3
    extract_lets +onlyGivenNames -underBinder -merge y4
    have g4 : Frame m s0 y4 := by
      exact State.suppliedPgood_frame (hm.of rfl) g3
    try clear_value y4
    exact Frame.power_trx (hm.of rfl) g4

theorem State.porStart_frame {m : Nat} {s0 : State} {x0 : State} (hm : Sub 0xffffffffffffffff01fffffa m) (h0 : Frame m s0 x0) :
    Frame m s0 (State.porStart x0) := by
  unfold State.porStart
  refine Frame.ite (fun _ => ?_) (fun _ => ?_)
  · exact h0
  · extract_lets +onlyGivenNames -underBinder -merge y0
    have g0 : Frame m s0 y0 := by
      refine State.dropFields_frame (hm.of rfl) ?_
      refine State.unpowered_frame (hm.of rfl) ?_
      exact State.breakFuse_frame (hm.of rfl) (State.breakGen_frame (hm.of rfl) (State.breakFlash_frame (hm.of rfl) h0))
    try clear_value y0
    extract_lets +onlyGivenNames -underBinder -merge y1
    have g1 : Frame m s0 y1 := by
      exact State.put_frame (hm.of rfl) (Allows.page (p := 26) rfl (hm.of rfl)) (State.modRst_frame (hm.of rfl) g0)
    try clear_value y1
    refine Frame.harts_dbg_fab_ntu (hm.of rfl) (fun i n => by first | exact posts_lost _ n | exact posts_none n | exact posts_ofFn i.posts (fun _ => by first | (split <;> simp; done) | simp) n) (fun i => by first | exact i.ns | exact Nat.mod_lt _ (by decide) | exact (by decide : 0 < nsPerSec)) ?_
    exact g1

theorem State.quiesceControl_frame {m : Nat} {s0 : State} {x0 : State} {x1 : Nat} (hm : Sub 0x500000000400002 m) (h0 : Frame m s0 x0) :
    Frame m s0 (State.quiesceControl x0 x1) := by
  unfold State.quiesceControl
  extract_lets +onlyGivenNames -underBinder -merge y0
  have g0 : Frame m s0 y0 := by
    refine Frame.foldl ?_ ?_
    · intro y1 y2 g1
      refine State.when_frame (hm.of rfl) ?_ ?_
      · intro y3 g3
        exact State.dropSample_frame (hm.of rfl) (State.put_frame (hm.of rfl) (Allows.page (p := 24) rfl (hm.of rfl)) g3)
      · exact g1
    · exact h0
  try clear_value y0
  refine Frame.foldl ?_ ?_
  · intro y4 y5 g4
    refine State.when_frame (hm.of rfl) ?_ ?_
    · intro y6 g6
      exact State.pairOff_frame (hm.of rfl) g6
    · exact g4
  · exact g0

theorem State.releaseHart_frame {m : Nat} {s0 : State} {x0 : State} {x1 : Nat} (hm : Sub 0x200000c00 m) (h0 : Frame m s0 x0) :
    Frame m s0 (State.releaseHart x0 x1) := by
  unfold State.releaseHart
  refine Frame.ite (fun _ => ?_) (fun _ => ?_)
  · exact h0
  · split
    · refine State.raise_frame (hm.of rfl) (Allows.page (p := 1) rfl (hm.of rfl)) ?_
      exact State.put_frame (hm.of rfl) (Allows.page (p := 1) rfl (hm.of rfl)) h0
    · extract_lets +onlyGivenNames -underBinder -merge y0
      have g0 : Frame m s0 y0 := by
        exact Frame.wdt (hm.of rfl) h0
      try clear_value y0
      exact State.raise_frame (hm.of rfl) (Allows.page (p := 1) rfl (hm.of rfl)) (State.startHart_frame (hm.of rfl) g0)

theorem State.quiesceDone_frame {m : Nat} {s0 : State} {x0 : State} {x1 : Nat} (hm : Sub 0x2000000200001c20 m) (h0 : Frame m s0 x0) :
    Frame m s0 (State.quiesceDone x0 x1) := by
  unfold State.quiesceDone
  refine Frame.ite (fun _ => ?_) (fun _ => ?_)
  · exact h0
  · extract_lets +onlyGivenNames -underBinder -merge y0
    have g0 : Frame m s0 y0 := by
      exact State.clear_frame (hm.of rfl) (Allows.page (p := 1) rfl (hm.of rfl)) (State.modRst_frame (hm.of rfl) h0)
    try clear_value y0
    extract_lets +onlyGivenNames -underBinder -merge y1
    have g1 : Frame m s0 y1 := by
      refine State.raise_frame (hm.of rfl) (Allows.page (p := 1) rfl (hm.of rfl)) ?_
      exact State.newKey_frame (hm.of rfl) (State.put_frame (hm.of rfl) (Allows.page (p := 1) rfl (hm.of rfl)) g0)
    try clear_value y1
    refine State.when_frame (hm.of rfl) ?_ ?_
    · intro y2 g2
      exact State.releaseHart_frame (hm.of rfl) g2
    · exact g1

theorem State.quiesceFlash_frame {m : Nat} {s0 : State} {x0 : State} {x1 : Nat} (hm : Sub 0x1000000000001000 m) (h0 : Frame m s0 x0) :
    Frame m s0 (State.quiesceFlash x0 x1) := by
  unfold State.quiesceFlash
  extract_lets +onlyGivenNames -underBinder -merge y0
  extract_lets +onlyGivenNames -underBinder -merge y1
  have g1 : Frame m s0 y1 := by
    refine Frame.ite (fun _ => ?_) (fun _ => ?_)
    · refine State.raise_frame (hm.of rfl) (Allows.page (p := 28) rfl (hm.of rfl)) ?_
      refine State.put_frame (hm.of rfl) (Allows.page (p := 28) rfl (hm.of rfl)) ?_
      exact Frame.mem (hm.of rfl) (fun w => by first | exact w | exact Memory.wf_blank w | exact Memory.wf_ramFilter w _) h0
    · exact h0
  try clear_value y1
  split
  · refine Frame.ite (fun _ => ?_) (fun _ => ?_)
    · exact Frame.mem (hm.of rfl) (fun w => by first | exact w | exact Memory.wf_blank w | exact Memory.wf_ramFilter w _) g1
    · exact g1
  · exact g1

theorem State.quiesceLink_frame {m : Nat} {s0 : State} {x0 : State} {x1 : Nat} (hm : Sub 0x40000000300000 m) (h0 : Frame m s0 x0) :
    Frame m s0 (State.quiesceLink x0 x1) := by
  unfold State.quiesceLink
  extract_lets +onlyGivenNames -underBinder -merge y0
  try clear_value y0
  extract_lets +onlyGivenNames -underBinder -merge y1
  have g1 : Frame m s0 y1 := by
    exact State.modLink_frame (hm.of rfl) h0
  try clear_value y1
  extract_lets +onlyGivenNames -underBinder -merge y2
  have g2 : Frame m s0 y2 := by
    refine Frame.foldl ?_ ?_
    · intro y3 y4 g3
      refine State.when_frame (hm.of rfl) ?_ ?_
      · intro y5 g5
        exact State.nbrOut_frame (hm.of rfl) g5
      · exact g3
    · exact g1
  try clear_value y2
  refine State.when_frame (hm.of rfl) ?_ ?_
  · intro y6 g6
    exact State.linkQuiesce_frame (hm.of rfl) g6
  · exact g2

theorem State.quiesceQueues_frame {m : Nat} {s0 : State} {x0 : State} {x1 : Nat} (hm : Sub 0x43c000003a00 m) (h0 : Frame m s0 x0) :
    Frame m s0 (State.quiesceQueues x0 x1) := by
  unfold State.quiesceQueues
  extract_lets +onlyGivenNames -underBinder -merge y0
  have g0 : Frame m s0 y0 := by
    refine State.put_frame (hm.of rfl) (Allows.page (p := 14) rfl (hm.of rfl)) ?_
    refine State.put_frame (hm.of rfl) (Allows.page (p := 14) rfl (hm.of rfl)) ?_
    exact State.put_frame (hm.of rfl) (Allows.page (p := 14) rfl (hm.of rfl)) (State.put_frame (hm.of rfl) (Allows.page (p := 14) rfl (hm.of rfl)) h0)
  try clear_value y0
  extract_lets +onlyGivenNames -underBinder -merge y1
  have g1 : Frame m s0 y1 := by
    exact State.put_frame (hm.of rfl) (Allows.page (p := 14) rfl (hm.of rfl)) g0
  try clear_value y1
  extract_lets +onlyGivenNames -underBinder -merge y2
  try clear_value y2
  extract_lets +onlyGivenNames -underBinder -merge y3
  have g3 : Frame m s0 y3 := by
    exact Frame.q (hm.of rfl) g1
  try clear_value y3
  refine Frame.foldl ?_ ?_
  · intro y4 y5 g4
    refine Frame.ite (fun _ => ?_) (fun _ => ?_)
    · exact g4
    · refine Frame.ite (fun _ => ?_) (fun _ => ?_)
      · exact State.setSlot_frame (hm.of rfl) g4
      · exact State.completeFree_frame (hm.of rfl) g4
  · exact g3

theorem State.quiesceViews_frame {m : Nat} {s0 : State} {x0 : State} {x1 : Nat} (hm : Sub 0xffffffffffffffff00028100 m) (h0 : Frame m s0 x0) :
    Frame m s0 (State.quiesceViews x0 x1) := by
  unfold State.quiesceViews
  extract_lets +onlyGivenNames -underBinder -merge y0
  have g0 : Frame m s0 y0 := by
    refine Frame.foldl ?_ ?_
    · intro y1 y2 g1
      refine State.when_frame (hm.of rfl) ?_ ?_
      · intro y3 g3
        refine State.setSignal_frame (hm.of rfl) ?_
        refine State.put_frame (hm.of rfl) (Allows.page (p := 16) rfl (hm.of rfl)) ?_
        exact State.put_frame (hm.of rfl) (Allows.page (p := 16) rfl (hm.of rfl)) g3
      · exact g1
    · exact h0
  try clear_value y0
  extract_lets +onlyGivenNames -underBinder -merge y4
  have g4 : Frame m s0 y4 := by
    exact State.resetPage_frame (hm.of rfl) g0
  try clear_value y4
  extract_lets +onlyGivenNames -underBinder -merge y5
  have g5 : Frame m s0 y5 := by
    exact Frame.service (hm.of rfl) g4
  try clear_value y5
  extract_lets +onlyGivenNames -underBinder -merge y6
  have g6 : Frame m s0 y6 := by
    refine Frame.foldl ?_ ?_
    · intro y7 y8 g7
      refine State.when_frame (hm.of rfl) ?_ ?_
      · intro y9 g9
        exact State.modeChanged_frame (hm.of rfl) (State.put_frame (hm.of rfl) (Allows.page (p := 17) rfl (hm.of rfl)) g9)
      · exact g7
    · exact g5
  try clear_value y6
  refine Frame.foldl ?_ ?_
  · intro y10 y11 g10
    refine State.when_frame (hm.of rfl) ?_ ?_
    · intro y12 g12
      exact State.put_frame (hm.of rfl) (Allows.all _ (hm.of rfl)) g12
    · exact g10
  · exact g6

theorem State.readiness_frame {m : Nat} {s0 : State} {x0 : State} (hm : Sub 0x20 m) (h0 : Frame m s0 x0) : Frame m s0 (State.readiness x0) := by
  unfold State.readiness
  refine Frame.ite (fun _ => ?_) (fun _ => ?_)
  · exact State.judgeDrive_frame (hm.of rfl) (State.modRst_frame (hm.of rfl) h0)
  · exact h0

theorem State.tenantReset_frame {m : Nat} {s0 : State} {x0 : State} {x1 : Nat} {x2 : TenantCause}
    (hm : Sub 0xffffffffffffffff0076bf22 m) (h0 : Frame m s0 x0) : Frame m s0 (State.tenantReset x0 x1 x2) := by
  unfold State.tenantReset
  refine Frame.ite (fun _ => ?_) (fun _ => ?_)
  · exact h0
  · extract_lets +onlyGivenNames -underBinder -merge y0
    have g0 : Frame m s0 y0 := by
      exact State.put_frame (hm.of rfl) (Allows.all _ (hm.of rfl)) h0
    try clear_value y0
    refine Frame.ite (fun _ => ?_) (fun _ => ?_)
    · exact g0
    · extract_lets +onlyGivenNames -underBinder -merge y1
      have g1 : Frame m s0 y1 := by
        exact State.raise_frame (hm.of rfl) (Allows.page (p := 1) rfl (hm.of rfl)) (State.modRst_frame (hm.of rfl) g0)
      try clear_value y1
      extract_lets +onlyGivenNames -underBinder -merge y2
      have e2 : y2.mem = y1.mem := rfl
      have g2 : Frame m s0 y2 := by
        refine State.modHart_frame (hm.of rfl) (fun _ => by first | ((try dsimp only) <;> (repeat' split) <;> simp; done) | exact Nat.zero_le _ | exact Nat.le_refl _) ?_
        exact g1
      try clear_value y2
      extract_lets +onlyGivenNames -underBinder -merge y3
      extract_lets +onlyGivenNames -underBinder -merge y4
      have g4 : Frame m s0 y4 := by
        exact Frame.wdt_mem (hm.of rfl) (fun w => by rw [e2] at w; exact w) g2
      try clear_value y4
      extract_lets +onlyGivenNames -underBinder -merge y5
      have g5 : Frame m s0 y5 := by
        exact State.clear_frame (hm.of rfl) (Allows.page (p := 1) rfl (hm.of rfl)) g4
      try clear_value y5
      refine State.quiesceControl_frame (hm.of rfl) ?_
      refine State.quiesceViews_frame (hm.of rfl) ?_
      refine State.quiesceFlash_frame (hm.of rfl) ?_
      exact State.canQuiesce_frame (hm.of rfl) (State.quiesceQueues_frame (hm.of rfl) (State.quiesceLink_frame (hm.of rfl) g5))

theorem State.rstcWrote_frame {m : Nat} {s0 : State} {x0 : State} {x1 x2 : Nat} (hm : Sub 0xffffffffffffffff0076bf22 m) (h0 : Frame m s0 x0) :
    Frame m s0 (State.rstcWrote x0 x1 x2) := by
  unfold State.rstcWrote
  refine Frame.ite (fun _ => ?_) (fun _ => ?_)
  · refine Frame.ite (fun _ => ?_) (fun _ => ?_)
    · extract_lets +onlyGivenNames -underBinder -merge y0
      have g0 : Frame m s0 y0 := by
        refine State.when_frame (hm.of rfl) ?_ ?_
        · intro y1 g1
          exact State.askReset_frame (hm.of rfl) g1
        · exact h0
      try clear_value y0
      refine Frame.foldl ?_ ?_
      · intro y2 y3 g2
        refine State.when_frame (hm.of rfl) ?_ ?_
        · intro y4 g4
          exact State.tenantReset_frame (hm.of rfl) g4
        · exact g2
      · exact g0
    · exact h0
  · refine Frame.ite (fun _ => ?_) (fun _ => ?_)
    · refine Frame.foldl ?_ ?_
      · intro y5 y6 g5
        refine State.when_frame (hm.of rfl) ?_ ?_
        · intro y7 g7
          exact State.releaseHart_frame (hm.of rfl) g7
        · exact g5
      · exact h0
    · refine Frame.ite (fun _ => ?_) (fun _ => ?_)
      · exact State.fuseCommand_frame (hm.of rfl) h0
      · exact h0

theorem State.sleepEntry_frame {m : Nat} {s0 : State} {x0 : State} (hm : Sub 0xffffffffffffffff01fffffa m) (h0 : Frame m s0 x0) :
    Frame m s0 (State.sleepEntry x0) := by
  unfold State.sleepEntry
  refine Frame.ite (fun _ => ?_) (fun _ => ?_)
  · exact State.enterOff_frame (hm.of rfl) h0
  · exact h0

theorem State.stretchEnd_frame {m : Nat} {s0 : State} {x0 : State} (hm : Sub 0x20 m) (h0 : Frame m s0 x0) : Frame m s0 (State.stretchEnd x0) := by
  unfold State.stretchEnd
  refine Frame.ite (fun _ => ?_) (fun _ => ?_)
  · exact State.judgeDrive_frame (hm.of rfl) (State.modRst_frame (hm.of rfl) h0)
  · exact h0

theorem State.supplyTree_frame {m : Nat} {s0 : State} {x0 : State} (hm : Sub 0x30 m) (h0 : Frame m s0 x0) : Frame m s0 (State.supplyTree x0) := by
  unfold State.supplyTree
  refine Frame.ite (fun _ => ?_) (fun _ => ?_)
  · exact State.modPower_frame (hm.of rfl) (State.modRst_frame (hm.of rfl) h0)
  · exact h0

theorem State.trngTests_frame {m : Nat} {s0 : State} {x0 : State} {x1 : Bool} (hm : Sub 0x2000000000001020 m) (h0 : Frame m s0 x0) :
    Frame m s0 (State.trngTests x0 x1) := by
  unfold State.trngTests
  refine Frame.ite (fun _ => ?_) (fun _ => ?_)
  · refine State.newKeys_frame (hm.of rfl) ?_
    exact Frame.mem (hm.of rfl) (fun w => by first | exact w | exact Memory.wf_blank w | exact Memory.wf_ramFilter w _) h0
  · exact h0

theorem State.wdtExpire_frame {m : Nat} {s0 : State} {x0 : State} {x1 x2 : Nat} (hm : Sub 0xffffffffffffffff0076bf22 m) (h0 : Frame m s0 x0) :
    Frame m s0 (State.wdtExpire x0 x1 x2) := by
  unfold State.wdtExpire
  refine Frame.ite (fun _ => ?_) (fun _ => ?_)
  · exact State.askReset_frame (hm.of rfl) h0
  · exact State.tenantReset_frame (hm.of rfl) (State.fault_frame (hm.of rfl) h0)

/-! ### Machine/Flash -/

theorem State.crcSet_frame {m : Nat} {s0 : State} {x0 : State} {x1 : Nat} (hm : Sub 0x4000000000001000 m) (h0 : Frame m s0 x0) :
    Frame m s0 (State.crcSet x0 x1) := by
  unfold State.crcSet
  exact State.put_frame (hm.of rfl) (Allows.page (p := 30) rfl (hm.of rfl)) (State.modMem_frame (hm.of rfl) (fun _ w => w) h0)

theorem State.crcRestart_frame {m : Nat} {s0 : State} {x0 : State} (hm : Sub 0x4000000000001000 m) (h0 : Frame m s0 x0) :
    Frame m s0 (State.crcRestart x0) := by
  unfold State.crcRestart
  exact State.crcSet_frame (hm.of rfl) h0

theorem State.crcTake_frame {m : Nat} {s0 : State} {x0 : State} {x1 : List Nat} (hm : Sub 0x4000000000001000 m) (h0 : Frame m s0 x0) :
    Frame m s0 (State.crcTake x0 x1) := by
  unfold State.crcTake
  exact State.crcSet_frame (hm.of rfl) h0

theorem State.crcWrote_frame {m : Nat} {s0 : State} {x0 : State} {x1 x2 x3 : Nat} (hm : Sub 0x4000000000001000 m) (h0 : Frame m s0 x0) :
    Frame m s0 (State.crcWrote x0 x1 x2 x3) := by
  unfold State.crcWrote
  refine Frame.ite (fun _ => ?_) (fun _ => ?_)
  · exact State.crcRestart_frame (hm.of rfl) h0
  · refine Frame.ite (fun _ => ?_) (fun _ => ?_)
    · exact State.crcTake_frame (hm.of rfl) h0
    · exact h0

theorem State.suspend_frame {m : Nat} {s0 : State} {x0 : State} {x1 : Bool} (hm : Sub 0x1000000000001000 m) (h0 : Frame m s0 x0) :
    Frame m s0 (State.suspend x0 x1) := by
  unfold State.suspend
  split
  · refine Frame.ite (fun _ => ?_) (fun _ => ?_)
    · exact State.modMem_frame (hm.of rfl) (fun _ w => w) (State.put_frame (hm.of rfl) (Allows.page (p := 28) rfl (hm.of rfl)) h0)
    · exact h0
  · exact h0

theorem State.flashAsked_frame {m : Nat} {s0 : State} {x0 : State} {x1 : Nat} (hm : Sub 0x1000000000001000 m) (h0 : Frame m s0 x0) :
    Frame m s0 (State.flashAsked x0 x1) := by
  unfold State.flashAsked
  refine Frame.ite (fun _ => ?_) (fun _ => ?_)
  · exact State.suspend_frame (hm.of rfl) h0
  · exact h0

theorem State.spoil_frame {m : Nat} {s0 : State} {x0 : State} {x1 : List Nat} (hm : Sub 0x1000 m) (h0 : Frame m s0 x0) :
    Frame m s0 (State.spoil x0 x1) := by
  unfold State.spoil
  exact State.modMem_frame (hm.of rfl) (fun _ w => w) h0

theorem State.flashBegin_frame {m : Nat} {s0 : State} {x0 : State} {x1 : Nat} (hm : Sub 0x1000000000001000 m) (h0 : Frame m s0 x0) :
    Frame m s0 (State.flashBegin x0 x1) := by
  unfold State.flashBegin
  extract_lets +onlyGivenNames -underBinder -merge y0
  try clear_value y0
  extract_lets +onlyGivenNames -underBinder -merge y1
  have g1 : Frame m s0 y1 := by
    exact State.put_frame (hm.of rfl) (Allows.page (p := 28) rfl (hm.of rfl)) h0
  try clear_value y1
  split
  · exact State.modMem_frame (hm.of rfl) (fun _ w => w) (State.spoil_frame (hm.of rfl) (State.programFlash_frame (hm.of rfl) g1))
  · exact State.modMem_frame (hm.of rfl) (fun _ w => w) (State.spoil_frame (hm.of rfl) g1)
  · exact State.modMem_frame (hm.of rfl) (fun _ w => w) g1

theorem State.flashBoundary_frame {m : Nat} {s0 : State} {x0 : State} (hm : Sub 0xffffffffffffffff01fffffa m) (h0 : Frame m s0 x0) :
    Frame m s0 (State.flashBoundary x0) := by
  unfold State.flashBoundary
  refine Frame.ite (fun _ => ?_) (fun _ => ?_)
  · extract_lets +onlyGivenNames -underBinder -merge y0
    have g0 : Frame m s0 y0 := by
      refine Frame.foldl ?_ ?_
      · intro y1 y2 g1
        refine State.put_frame (hm.of rfl) (Allows.page (p := 28) rfl (hm.of rfl)) ?_
        exact State.put_frame (hm.of rfl) (Allows.page (p := 28) rfl (hm.of rfl)) g1
      · exact h0
    try clear_value y0
    exact State.modMem_frame (hm.of rfl) (fun _ w => w) (State.put_frame (hm.of rfl) (Allows.page (p := 1) rfl (hm.of rfl)) g0)
  · refine Frame.ite (fun _ => ?_) (fun _ => ?_)
    · exact State.takeReset_frame (hm.of rfl) h0
    · exact State.sleepEntry_frame (hm.of rfl) (State.modMem_frame (hm.of rfl) (fun _ w => w) h0)

theorem State.flashEffect_frame {m : Nat} {s0 : State} {x0 : State} {x1 : Nat} {x2 : Bool} (hm : Sub 0x1000000000001000 m) (h0 : Frame m s0 x0) :
    Frame m s0 (State.flashEffect x0 x1 x2) := by
  unfold State.flashEffect
  extract_lets +onlyGivenNames -underBinder -merge y0
  try clear_value y0
  refine Frame.ite (fun _ => ?_) (fun _ => ?_)
  · exact h0
  · split
    · exact State.modMem_frame (hm.of rfl) (fun _ w => w) h0
    · exact State.eraseFlash_frame (hm.of rfl) h0
    · exact State.put_frame (hm.of rfl) (Allows.page (p := 28) rfl (hm.of rfl)) h0

theorem State.flashEnd_frame {m : Nat} {s0 : State} {x0 : State} {x1 x2 : Nat} (hm : Sub 0x1000000000000000 m) (h0 : Frame m s0 x0) :
    Frame m s0 (State.flashEnd x0 x1 x2) := by
  unfold State.flashEnd
  exact State.raise_frame (hm.of rfl) (Allows.page (p := 28) rfl (hm.of rfl)) (State.put_frame (hm.of rfl) (Allows.page (p := 28) rfl (hm.of rfl)) h0)

theorem State.flashIssue_frame {m : Nat} {s0 : State} {x0 : State} {x1 : Nat} (hm : Sub 0x1000000000001000 m) (h0 : Frame m s0 x0) :
    Frame m s0 (State.flashIssue x0 x1) := by
  unfold State.flashIssue
  refine State.put_frame (hm.of rfl) (Allows.page (p := 28) rfl (hm.of rfl)) ?_
  exact State.put_frame (hm.of rfl) (Allows.page (p := 28) rfl (hm.of rfl)) (State.modMem_frame (hm.of rfl) (fun _ w => w) h0)

theorem State.flashOver_frame {m : Nat} {s0 : State} {x0 : State} {x1 : Nat} {x2 : Bool} (hm : Sub 0x1000000200001000 m) (h0 : Frame m s0 x0) :
    Frame m s0 (State.flashOver x0 x1 x2) := by
  unfold State.flashOver
  extract_lets +onlyGivenNames -underBinder -merge y0
  have g0 : Frame m s0 y0 := by
    exact State.modMem_frame (hm.of rfl) (fun _ w => w) h0
  try clear_value y0
  refine Frame.ite (fun _ => ?_) (fun _ => ?_)
  · exact State.put_frame (hm.of rfl) (Allows.page (p := 1) rfl (hm.of rfl)) (State.flashEnd_frame (hm.of rfl) g0)
  · exact State.flashEnd_frame (hm.of rfl) g0

theorem State.flashStart_frame {m : Nat} {s0 : State} {x0 : State} (hm : Sub 0x1000000000001000 m) (h0 : Frame m s0 x0) :
    Frame m s0 (State.flashStart x0) := by
  unfold State.flashStart
  refine Frame.ite (fun _ => ?_) (fun _ => ?_)
  · exact h0
  · split
    · exact h0
    · extract_lets +onlyGivenNames -underBinder -merge y0
      have g0 : Frame m s0 y0 := by
        exact State.modMem_frame (hm.of rfl) (fun _ w => w) h0
      try clear_value y0
      split
      · exact State.flashEnd_frame (hm.of rfl) g0
      · exact State.flashBegin_frame (hm.of rfl) g0

theorem State.flashWrote_frame {m : Nat} {s0 : State} {x0 : State} {x1 x2 x3 : Nat} {x4 : State}
    (hm : Sub 0x1000000000001000 m) (h0 : Frame m s0 x0) (h4 : Frame m s0 x4) : Frame m s0 (State.flashWrote x0 x1 x2 x3 x4) := by
  unfold State.flashWrote
  extract_lets +onlyGivenNames -underBinder -merge y0
  try clear_value y0
  refine Frame.ite (fun _ => ?_) (fun _ => ?_)
  · exact h0
  · refine Frame.ite (fun _ => ?_) (fun _ => ?_)
    · refine Frame.ite (fun _ => ?_) (fun _ => ?_)
      · exact h4
      · refine Frame.ite (fun _ => ?_) (fun _ => ?_)
        · exact State.flashIssue_frame (hm.of rfl) h0
        · exact h0
    · refine Frame.ite (fun _ => ?_) (fun _ => ?_)
      · extract_lets +onlyGivenNames -underBinder -merge y1
        try clear_value y1
        refine Frame.ite (fun _ => ?_) (fun _ => ?_)
        · exact State.put_frame (hm.of rfl) (Allows.page (p := 28) rfl (hm.of rfl)) (State.modMem_frame (hm.of rfl) (fun _ w => w) h0)
        · exact h0
      · exact h0

theorem State.healthFail_frame {m : Nat} {s0 : State} {x0 : State} (hm : Sub 0x10000000000001000 m) (h0 : Frame m s0 x0) :
    Frame m s0 (State.healthFail x0) := by
  unfold State.healthFail
  refine Frame.ite (fun _ => ?_) (fun _ => ?_)
  · refine State.modMem_frame (hm.of rfl) (fun _ w => w) ?_
    refine State.put_frame (hm.of rfl) (Allows.page (p := 32) rfl (hm.of rfl)) ?_
    refine State.put_frame (hm.of rfl) (Allows.page (p := 32) rfl (hm.of rfl)) ?_
    exact State.raise_frame (hm.of rfl) (Allows.page (p := 32) rfl (hm.of rfl)) h0
  · exact h0

theorem State.scrubOver_frame {m : Nat} {s0 : State} {x0 : State} (hm : Sub 0x2000000000001000 m) (h0 : Frame m s0 x0) :
    Frame m s0 (State.scrubOver x0) := by
  unfold State.scrubOver
  refine State.modMem_frame (hm.of rfl) (fun _ w => w) ?_
  exact State.put_frame (hm.of rfl) (Allows.page (p := 29) rfl (hm.of rfl)) (State.put_frame (hm.of rfl) (Allows.page (p := 29) rfl (hm.of rfl)) h0)

theorem State.memcWrote_frame {m : Nat} {s0 : State} {x0 : State} (hm : Sub 0x2000000000001000 m) (h0 : Frame m s0 x0) :
    Frame m s0 (State.memcWrote x0) := by
  unfold State.memcWrote
  refine State.when_frame (hm.of rfl) ?_ ?_
  · intro y0 g0
    exact State.scrubOver_frame (hm.of rfl) g0
  · exact h0

theorem State.pulseEnd_frame {m : Nat} {s0 : State} {x0 : State} {x1 : Bool} (hm : Sub 0xffffffffffffffff01fffffa m) (h0 : Frame m s0 x0) :
    Frame m s0 (State.pulseEnd x0 x1) := by
  unfold State.pulseEnd
  split
  · refine Frame.ite (fun _ => ?_) (fun _ => ?_)
    · exact h0
    · extract_lets +onlyGivenNames -underBinder -merge y0
      have g0 : Frame m s0 y0 := by
        exact State.flashEffect_frame (hm.of rfl) h0
      try clear_value y0
      refine Frame.ite (fun _ => ?_) (fun _ => ?_)
      · exact State.flashBoundary_frame (hm.of rfl) g0
      · exact State.flashOver_frame (hm.of rfl) g0
  · exact h0

theorem State.scrubDone_frame {m : Nat} {s0 : State} {x0 : State} {x1 x2 : List (Fin 262144)} (hm : Sub 0x200003c000001200 m) (h0 : Frame m s0 x0) :
    Frame m s0 (State.scrubDone x0 x1 x2) := by
  unfold State.scrubDone
  refine Frame.ite (fun _ => ?_) (fun _ => ?_)
  · extract_lets +onlyGivenNames -underBinder -merge y0
    have g0 : Frame m s0 y0 := by
      refine Frame.foldl ?_ ?_
      · intro y1 y2 g1
        exact State.setSingle_frame (hm.of rfl) g1
      · exact h0
    try clear_value y0
    extract_lets +onlyGivenNames -underBinder -merge y3
    have g3 : Frame m s0 y3 := by
      refine Frame.foldl ?_ ?_
      · intro y4 y5 g4
        exact State.setEcc_frame (hm.of rfl) g4
      · exact g0
    try clear_value y3
    refine State.raise_frame (hm.of rfl) (Allows.page (p := 29) rfl (hm.of rfl)) ?_
    exact State.scrubOver_frame (hm.of rfl) (State.scrubTo_frame (hm.of rfl) g3)
  · exact h0

theorem State.scrubStart_frame {m : Nat} {s0 : State} {x0 : State} (hm : Sub 0x2000000000001000 m) (h0 : Frame m s0 x0) :
    Frame m s0 (State.scrubStart x0) := by
  unfold State.scrubStart
  refine Frame.ite (fun _ => ?_) (fun _ => ?_)
  · exact State.modMem_frame (hm.of rfl) (fun _ w => w) (State.put_frame (hm.of rfl) (Allows.page (p := 29) rfl (hm.of rfl)) h0)
  · exact h0

theorem State.scrubSteals_frame {m : Nat} {s0 : State} {x0 : State} (hm : Sub 0x2000000000000000 m) (h0 : Frame m s0 x0) :
    Frame m s0 (State.scrubSteals x0) := by
  unfold State.scrubSteals
  refine Frame.ite (fun _ => ?_) (fun _ => ?_)
  · refine State.raise_frame (hm.of rfl) (Allows.page (p := 29) rfl (hm.of rfl)) ?_
    exact State.put_frame (hm.of rfl) (Allows.page (p := 29) rfl (hm.of rfl)) h0
  · exact h0

theorem State.segmentEnd_frame {m : Nat} {s0 : State} {x0 : State} {x1 : Bool} (hm : Sub 0xffffffffffffffff01fffffa m) (h0 : Frame m s0 x0) :
    Frame m s0 (State.segmentEnd x0 x1) := by
  unfold State.segmentEnd
  split
  · refine Frame.ite (fun _ => ?_) (fun _ => ?_)
    · exact h0
    · extract_lets +onlyGivenNames -underBinder -merge y0
      have g0 : Frame m s0 y0 := by
        refine State.when_frame (hm.of rfl) ?_ ?_
        · intro y1 g1
          exact State.flashEffect_frame (hm.of rfl) g1
        · exact h0
      try clear_value y0
      refine Frame.ite (fun _ => ?_) (fun _ => ?_)
      · exact State.flashBoundary_frame (hm.of rfl) g0
      · refine Frame.ite (fun _ => ?_) (fun _ => ?_)
        · exact State.flashOver_frame (hm.of rfl) g0
        · exact State.modMem_frame (hm.of rfl) (fun _ w => w) g0
  · exact h0

theorem State.trngRead_frame {m : Nat} {s0 : State} {x0 : State} (hm : Sub 0x10000000000000002 m) (h0 : Frame m s0 x0) :
    Frame m s0 (State.trngRead x0).1 := by
  unfold State.trngRead
  refine Frame.ite1 (fun _ => ?_) (fun _ => ?_)
  · extract_lets +onlyGivenNames -underBinder -merge y0
    have g0 : Frame m s0 y0.2 := by
      exact State.free_frame (hm.of rfl) h0
    try clear_value y0
    exact Frame.fst (State.put_frame (hm.of rfl) (Allows.page (p := 32) rfl (hm.of rfl)) g0)
  · exact Frame.fst h0

theorem State.trngValid_frame {m : Nat} {s0 : State} {x0 : State} (hm : Sub 0x10000000000001000 m) (h0 : Frame m s0 x0) :
    Frame m s0 (State.trngValid x0) := by
  unfold State.trngValid
  refine Frame.ite (fun _ => ?_) (fun _ => ?_)
  · refine State.modMem_frame (hm.of rfl) (fun _ w => w) ?_
    exact State.put_frame (hm.of rfl) (Allows.page (p := 32) rfl (hm.of rfl)) (State.put_frame (hm.of rfl) (Allows.page (p := 32) rfl (hm.of rfl)) h0)
  · exact h0

theorem State.unsuspend_frame {m : Nat} {s0 : State} {x0 : State} (hm : Sub 0x1000000000000000 m) (h0 : Frame m s0 x0) :
    Frame m s0 (State.unsuspend x0) := by
  unfold State.unsuspend
  exact State.put_frame (hm.of rfl) (Allows.page (p := 28) rfl (hm.of rfl)) h0

/-! ### Machine/Serial -/

theorem State.modSer_frame {m : Nat} {s0 : State} {x0 : State} {x1 : Serial → Serial} (hm : Sub 0x10000 m) (h0 : Frame m s0 x0) :
    Frame m s0 (State.modSer x0 x1) := by
  unfold State.modSer
  exact Frame.ser (hm.of rfl) h0

theorem State.i2cAddressed_frame {m : Nat} {s0 : State} {x0 : State} {x1 : Nat} {x2 : Bool} (hm : Sub 0x40000000000010000 m) (h0 : Frame m s0 x0) :
    Frame m s0 (State.i2cAddressed x0 x1 x2) := by
  unfold State.i2cAddressed
  refine Frame.ite (fun _ => ?_) (fun _ => ?_)
  · refine State.modSer_frame (hm.of rfl) ?_
    refine State.putB_frame (hm.of rfl) (Allows.page (p := 34) rfl (hm.of rfl)) ?_
    exact State.put_frame (hm.of rfl) (Allows.page (p := 34) rfl (hm.of rfl)) h0
  · exact h0

theorem State.i2cByte_frame {m : Nat} {s0 : State} {x0 : State} {x1 : Nat} (hm : Sub 0x40000000000010004 m) (h0 : Frame m s0 x0) :
    Frame m s0 (State.i2cByte x0 x1) := by
  unfold State.i2cByte
  refine Frame.ite (fun _ => ?_) (fun _ => ?_)
  · exact h0
  · refine Frame.ite (fun _ => ?_) (fun _ => ?_)
    · exact State.reply_frame (hm.of rfl) h0
    · extract_lets +onlyGivenNames -underBinder -merge y0
      have g0 : Frame m s0 y0 := by
        exact State.modSer_frame (hm.of rfl) h0
      try clear_value y0
      refine Frame.ite (fun _ => ?_) (fun _ => ?_)
      · exact State.reply_frame (hm.of rfl) g0
      · exact State.reply_frame (hm.of rfl) (State.put_frame (hm.of rfl) (Allows.page (p := 34) rfl (hm.of rfl)) g0)

theorem State.i2cCommand_frame {m : Nat} {s0 : State} {x0 : State} {x1 x2 : Nat} (hm : Sub 0x40000000000010000 m) (h0 : Frame m s0 x0) :
    Frame m s0 (State.i2cCommand x0 x1 x2) := by
  unfold State.i2cCommand
  refine Frame.ite (fun _ => ?_) (fun _ => ?_)
  · exact State.put_frame (hm.of rfl) (Allows.page (p := 34) rfl (hm.of rfl)) (State.modSer_frame (hm.of rfl) h0)
  · exact h0

theorem State.i2cIdle_frame {m : Nat} {s0 : State} {x0 : State} (hm : Sub 0x40000000000010000 m) (h0 : Frame m s0 x0) :
    Frame m s0 (State.i2cIdle x0) := by
  unfold State.i2cIdle
  exact State.put_frame (hm.of rfl) (Allows.page (p := 34) rfl (hm.of rfl)) (State.modSer_frame (hm.of rfl) h0)

theorem State.i2cEnd_frame {m : Nat} {s0 : State} {x0 : State} {x1 : Bool} {x2 : Nat} (hm : Sub 0x40000000000010000 m) (h0 : Frame m s0 x0) :
    Frame m s0 (State.i2cEnd x0 x1 x2) := by
  unfold State.i2cEnd
  extract_lets +onlyGivenNames -underBinder -merge y0
  try clear_value y0
  extract_lets +onlyGivenNames -underBinder -merge y1
  try clear_value y1
  split
  · exact h0
  · refine Frame.ite (fun _ => ?_) (fun _ => ?_)
    · exact h0
    · extract_lets +onlyGivenNames -underBinder -merge y2
      have g2 : Frame m s0 y2 := by
        exact State.put_frame (hm.of rfl) (Allows.page (p := 34) rfl (hm.of rfl)) (State.i2cIdle_frame (hm.of rfl) h0)
      try clear_value y2
      refine Frame.ite (fun _ => ?_) (fun _ => ?_)
      · refine State.when_frame (hm.of rfl) ?_ ?_
        · intro y3 g3
          exact State.put_frame (hm.of rfl) (Allows.page (p := 34) rfl (hm.of rfl)) g3
        · exact State.put_frame (hm.of rfl) (Allows.page (p := 34) rfl (hm.of rfl)) g2
      · refine Frame.ite (fun _ => ?_) (fun _ => ?_)
        · refine State.when_frame (hm.of rfl) ?_ ?_
          · intro y4 g4
            exact State.put_frame (hm.of rfl) (Allows.page (p := 34) rfl (hm.of rfl)) g4
          · exact g2
        · refine Frame.ite (fun _ => ?_) (fun _ => ?_)
          · exact State.put_frame (hm.of rfl) (Allows.page (p := 34) rfl (hm.of rfl)) g2
          · exact State.put_frame (hm.of rfl) (Allows.page (p := 34) rfl (hm.of rfl)) g2

theorem State.i2cLeave_frame {m : Nat} {s0 : State} {x0 : State} (hm : Sub 0x10000 m) (h0 : Frame m s0 x0) : Frame m s0 (State.i2cLeave x0) := by
  unfold State.i2cLeave
  exact State.modSer_frame (hm.of rfl) h0

theorem State.i2cLost_frame {m : Nat} {s0 : State} {x0 : State} {x1 : Nat} {x2 : Bool} (hm : Sub 0x40000000000010000 m) (h0 : Frame m s0 x0) :
    Frame m s0 (State.i2cLost x0 x1 x2) := by
  unfold State.i2cLost
  refine Frame.ite (fun _ => ?_) (fun _ => ?_)
  · refine State.i2cAddressed_frame (hm.of rfl) ?_
    refine State.put_frame (hm.of rfl) (Allows.page (p := 34) rfl (hm.of rfl)) ?_
    exact State.put_frame (hm.of rfl) (Allows.page (p := 34) rfl (hm.of rfl)) (State.i2cIdle_frame (hm.of rfl) h0)
  · exact h0

theorem State.i2cRelease_frame {m : Nat} {s0 : State} {x0 : State} (hm : Sub 0x10000 m) (h0 : Frame m s0 x0) : Frame m s0 (State.i2cRelease x0) := by
  unfold State.i2cRelease
  exact State.modSer_frame (hm.of rfl) h0

theorem State.i2cStopSeen_frame {m : Nat} {s0 : State} {x0 : State} (hm : Sub 0x40000000000010000 m) (h0 : Frame m s0 x0) :
    Frame m s0 (State.i2cStopSeen x0) := by
  unfold State.i2cStopSeen
  refine Frame.ite (fun _ => ?_) (fun _ => ?_)
  · exact State.put_frame (hm.of rfl) (Allows.page (p := 34) rfl (hm.of rfl)) (State.i2cLeave_frame (hm.of rfl) h0)
  · exact h0

theorem State.i2cStuck_frame {m : Nat} {s0 : State} {x0 : State} {x1 : Bool} (hm : Sub 0x40000000000010000 m) (h0 : Frame m s0 x0) :
    Frame m s0 (State.i2cStuck x0 x1) := by
  unfold State.i2cStuck
  refine Frame.ite (fun _ => ?_) (fun _ => ?_)
  · exact h0
  · extract_lets +onlyGivenNames -underBinder -merge y0
    try clear_value y0
    extract_lets +onlyGivenNames -underBinder -merge y1
    have g1 : Frame m s0 y1 := by
      exact State.modSer_frame (hm.of rfl) (State.i2cIdle_frame (hm.of rfl) h0)
    try clear_value y1
    refine State.when_frame (hm.of rfl) ?_ ?_
    · intro y2 g2
      exact State.put_frame (hm.of rfl) (Allows.page (p := 34) rfl (hm.of rfl)) g2
    · exact State.put_frame (hm.of rfl) (Allows.page (p := 34) rfl (hm.of rfl)) g1

theorem State.serMarks_frame {m : Nat} {s0 : State} {x0 : State} (hm : Sub 0x40000000000000000 m) (h0 : Frame m s0 x0) :
    Frame m s0 (State.serMarks x0) := by
  unfold State.serMarks
  refine Frame.foldl ?_ ?_
  · intro y0 y1 g0
    extract_lets +onlyGivenNames -underBinder -merge y2
    have g2 : Frame m s0 y2 := by
      refine State.when_frame (hm.of rfl) ?_ ?_
      · intro y3 g3
        refine State.when_frame (hm.of rfl) ?_ ?_
        · intro y4 g4
          exact State.put_frame (hm.of rfl) (Allows.page (p := 34) rfl (hm.of rfl)) g4
        · refine State.when_frame (hm.of rfl) ?_ ?_
          · intro y5 g5
            exact State.put_frame (hm.of rfl) (Allows.page (p := 34) rfl (hm.of rfl)) g5
          · exact g3
      · exact g0
    try clear_value y2
    refine State.when_frame (hm.of rfl) ?_ ?_
    · intro y6 g6
      refine State.when_frame (hm.of rfl) ?_ ?_
      · intro y7 g7
        exact State.put_frame (hm.of rfl) (Allows.page (p := 34) rfl (hm.of rfl)) g7
      · refine State.when_frame (hm.of rfl) ?_ ?_
        · intro y8 g8
          exact State.put_frame (hm.of rfl) (Allows.page (p := 34) rfl (hm.of rfl)) g8
        · exact g6
    · exact g2
  · exact h0

theorem State.spiPop_frame {m : Nat} {s0 : State} {x0 : State} {x1 : Nat} (hm : Sub 0x40000000000010000 m) (h0 : Frame m s0 x0) :
    Frame m s0 (State.spiPop x0 x1).1 := by
  unfold State.spiPop
  split
  · exact Frame.fst (State.serMarks_frame (hm.of rfl) (State.modSer_frame (hm.of rfl) h0))
  · exact Frame.fst h0

theorem State.uartPop_frame {m : Nat} {s0 : State} {x0 : State} {x1 : Nat} (hm : Sub 0x40000000000010000 m) (h0 : Frame m s0 x0) :
    Frame m s0 (State.uartPop x0 x1).1 := by
  unfold State.uartPop
  split
  · exact Frame.fst (State.serMarks_frame (hm.of rfl) (State.modSer_frame (hm.of rfl) h0))
  · exact Frame.fst h0

theorem State.serRead_frame {m : Nat} {s0 : State} {x0 : State} {x1 x2 : Nat} (hm : Sub 0x40000000000010000 m) (h0 : Frame m s0 x0) :
    Frame m s0 (State.serRead x0 x1 x2).1 := by
  unfold State.serRead
  refine Frame.ite1 (fun _ => ?_) (fun _ => ?_)
  · exact State.spiPop_frame (hm.of rfl) h0
  · refine Frame.ite1 (fun _ => ?_) (fun _ => ?_)
    · exact State.uartPop_frame (hm.of rfl) h0
    · refine Frame.ite1 (fun _ => ?_) (fun _ => ?_)
      · exact Frame.fst (State.i2cRelease_frame (hm.of rfl) h0)
      · refine Frame.ite1 (fun _ => ?_) (fun _ => ?_)
        · extract_lets +onlyGivenNames -underBinder -merge y0
          try clear_value y0
          exact Frame.fst h0
        · refine Frame.ite1 (fun _ => ?_) (fun _ => ?_)
          · extract_lets +onlyGivenNames -underBinder -merge y1
            try clear_value y1
            extract_lets +onlyGivenNames -underBinder -merge y2
            try clear_value y2
            exact Frame.fst h0
          · exact Frame.fst h0

theorem State.spiNext_frame {m : Nat} {s0 : State} {x0 : State} {x1 : Nat} (hm : Sub 0x10000 m) (h0 : Frame m s0 x0) :
    Frame m s0 (State.spiNext x0 x1) := by
  unfold State.spiNext
  refine Frame.ite (fun _ => ?_) (fun _ => ?_)
  · split
    · exact State.modSer_frame (hm.of rfl) h0
    · exact h0
  · exact h0

theorem State.spiPush_frame {m : Nat} {s0 : State} {x0 : State} {x1 x2 : Nat} (hm : Sub 0x40000000000010000 m) (h0 : Frame m s0 x0) :
    Frame m s0 (State.spiPush x0 x1 x2) := by
  unfold State.spiPush
  extract_lets +onlyGivenNames -underBinder -merge y0
  try clear_value y0
  refine Frame.ite (fun _ => ?_) (fun _ => ?_)
  · exact State.put_frame (hm.of rfl) (Allows.page (p := 34) rfl (hm.of rfl)) (State.put_frame (hm.of rfl) (Allows.page (p := 34) rfl (hm.of rfl)) h0)
  · exact State.spiNext_frame (hm.of rfl) (State.modSer_frame (hm.of rfl) h0)

theorem State.uartNext_frame {m : Nat} {s0 : State} {x0 : State} {x1 : Nat} (hm : Sub 0x10000 m) (h0 : Frame m s0 x0) :
    Frame m s0 (State.uartNext x0 x1) := by
  unfold State.uartNext
  refine Frame.ite (fun _ => ?_) (fun _ => ?_)
  · exact h0
  · refine Frame.ite (fun _ => ?_) (fun _ => ?_)
    · exact State.modSer_frame (hm.of rfl) h0
    · split
      · exact State.modSer_frame (hm.of rfl) h0
      · exact h0

theorem State.uartPush_frame {m : Nat} {s0 : State} {x0 : State} {x1 x2 : Nat} (hm : Sub 0x40000000000010000 m) (h0 : Frame m s0 x0) :
    Frame m s0 (State.uartPush x0 x1 x2) := by
  unfold State.uartPush
  extract_lets +onlyGivenNames -underBinder -merge y0
  try clear_value y0
  refine Frame.ite (fun _ => ?_) (fun _ => ?_)
  · exact State.put_frame (hm.of rfl) (Allows.page (p := 34) rfl (hm.of rfl)) h0
  · exact State.uartNext_frame (hm.of rfl) (State.modSer_frame (hm.of rfl) h0)

theorem State.serWrote_frame {m : Nat} {s0 : State} {x0 : State} {x1 x2 : Nat} (hm : Sub 0x40000000000010000 m) (h0 : Frame m s0 x0) :
    Frame m s0 (State.serWrote x0 x1 x2) := by
  unfold State.serWrote
  extract_lets +onlyGivenNames -underBinder -merge y0
  have g0 : Frame m s0 y0 := by
    exact State.i2cRelease_frame (hm.of rfl) h0
  try clear_value y0
  extract_lets +onlyGivenNames -underBinder -merge y1
  try clear_value y1
  extract_lets +onlyGivenNames -underBinder -merge y2
  have g2 : Frame m s0 y2 := by
    refine Frame.ite (fun _ => ?_) (fun _ => ?_)
    · exact State.spiPush_frame (hm.of rfl) h0
    · refine Frame.ite (fun _ => ?_) (fun _ => ?_)
      · exact State.uartPush_frame (hm.of rfl) h0
      · refine Frame.ite (fun _ => ?_) (fun _ => ?_)
        · exact State.i2cCommand_frame (hm.of rfl) h0
        · refine Frame.ite (fun _ => ?_) (fun _ => ?_)
          · exact Frame.ser (hm.of rfl) g0
          · refine Frame.foldl ?_ ?_
            · intro y3 y4 g3
              exact State.uartNext_frame (hm.of rfl) (State.spiNext_frame (hm.of rfl) g3)
            · exact h0
  try clear_value y2
  exact State.serMarks_frame (hm.of rfl) g2

theorem State.spiBegin_frame {m : Nat} {s0 : State} {x0 : State} {x1 : Nat} (hm : Sub 0x40000000000010000 m) (h0 : Frame m s0 x0) :
    Frame m s0 (State.spiBegin x0 x1) := by
  unfold State.spiBegin
  refine Frame.ite (fun _ => ?_) (fun _ => ?_)
  · exact h0
  · split
    · exact State.serMarks_frame (hm.of rfl) (State.modSer_frame (hm.of rfl) h0)
    · refine State.put_frame (hm.of rfl) (Allows.page (p := 34) rfl (hm.of rfl)) ?_
      exact State.put_frame (hm.of rfl) (Allows.page (p := 34) rfl (hm.of rfl)) (State.modSer_frame (hm.of rfl) h0)

theorem State.spiTake_frame {m : Nat} {s0 : State} {x0 : State} {x1 x2 : Nat} (hm : Sub 0x40000000000010000 m) (h0 : Frame m s0 x0) :
    Frame m s0 (State.spiTake x0 x1 x2) := by
  unfold State.spiTake
  extract_lets +onlyGivenNames -underBinder -merge y0
  try clear_value y0
  refine Frame.ite (fun _ => ?_) (fun _ => ?_)
  · exact State.put_frame (hm.of rfl) (Allows.page (p := 34) rfl (hm.of rfl)) (State.put_frame (hm.of rfl) (Allows.page (p := 34) rfl (hm.of rfl)) h0)
  · exact State.modSer_frame (hm.of rfl) h0

theorem State.spiEnd_frame {m : Nat} {s0 : State} {x0 : State} {x1 x2 : Nat} (hm : Sub 0x40000000000010000 m) (h0 : Frame m s0 x0) :
    Frame m s0 (State.spiEnd x0 x1 x2) := by
  unfold State.spiEnd
  refine Frame.ite (fun _ => ?_) (fun _ => ?_)
  · exact h0
  · refine Frame.ite (fun _ => ?_) (fun _ => ?_)
    · extract_lets +onlyGivenNames -underBinder -merge y0
      have g0 : Frame m s0 y0 := by
        exact State.spiBegin_frame (hm.of rfl) h0
      try clear_value y0
      refine Frame.ite (fun _ => ?_) (fun _ => ?_)
      · exact g0
      · exact State.serMarks_frame (hm.of rfl) (State.spiTake_frame (hm.of rfl) (State.modSer_frame (hm.of rfl) g0))
    · refine Frame.ite (fun _ => ?_) (fun _ => ?_)
      · exact h0
      · extract_lets +onlyGivenNames -underBinder -merge y1
        have g1 : Frame m s0 y1 := by
          exact State.spiTake_frame (hm.of rfl) (State.modSer_frame (hm.of rfl) h0)
        try clear_value y1
        extract_lets +onlyGivenNames -underBinder -merge y2
        have g2 : Frame m s0 y2 := by
          refine State.when_frame (hm.of rfl) ?_ ?_
          · intro y3 g3
            exact State.put_frame (hm.of rfl) (Allows.page (p := 34) rfl (hm.of rfl)) g3
          · exact g1
        try clear_value y2
        exact State.serMarks_frame (hm.of rfl) (State.spiNext_frame (hm.of rfl) g2)

theorem State.uartBreakSeen_frame {m : Nat} {s0 : State} {x0 : State} {x1 : Nat} (hm : Sub 0x40000000000000000 m) (h0 : Frame m s0 x0) :
    Frame m s0 (State.uartBreakSeen x0 x1) := by
  unfold State.uartBreakSeen
  refine State.when_frame (hm.of rfl) ?_ ?_
  · intro y0 g0
    exact State.put_frame (hm.of rfl) (Allows.page (p := 34) rfl (hm.of rfl)) g0
  · exact h0

theorem State.uartBroke_frame {m : Nat} {s0 : State} {x0 : State} {x1 : Nat} (hm : Sub 0x40000000000010000 m) (h0 : Frame m s0 x0) :
    Frame m s0 (State.uartBroke x0 x1) := by
  unfold State.uartBroke
  refine Frame.ite (fun _ => ?_) (fun _ => ?_)
  · refine State.serMarks_frame (hm.of rfl) ?_
    refine State.uartNext_frame (hm.of rfl) ?_
    refine State.put_frame (hm.of rfl) (Allows.page (p := 34) rfl (hm.of rfl)) ?_
    exact State.put_frame (hm.of rfl) (Allows.page (p := 34) rfl (hm.of rfl)) (State.modSer_frame (hm.of rfl) h0)
  · exact h0

theorem State.uartSent_frame {m : Nat} {s0 : State} {x0 : State} {x1 : Nat} (hm : Sub 0x40000000000010000 m) (h0 : Frame m s0 x0) :
    Frame m s0 (State.uartSent x0 x1) := by
  unfold State.uartSent
  refine Frame.ite (fun _ => ?_) (fun _ => ?_)
  · exact State.serMarks_frame (hm.of rfl) (State.uartNext_frame (hm.of rfl) (State.modSer_frame (hm.of rfl) h0))
  · exact h0

theorem State.uartTake_frame {m : Nat} {s0 : State} {x0 : State} {x1 x2 : Nat} {x3 x4 : Bool} (hm : Sub 0x40000000000010000 m) (h0 : Frame m s0 x0) :
    Frame m s0 (State.uartTake x0 x1 x2 x3 x4) := by
  unfold State.uartTake
  refine Frame.ite (fun _ => ?_) (fun _ => ?_)
  · exact h0
  · extract_lets +onlyGivenNames -underBinder -merge y0
    try clear_value y0
    extract_lets +onlyGivenNames -underBinder -merge y1
    have g1 : Frame m s0 y1 := by
      exact State.modSer_frame (hm.of rfl) h0
    try clear_value y1
    extract_lets +onlyGivenNames -underBinder -merge y2
    try clear_value y2
    refine Frame.ite (fun _ => ?_) (fun _ => ?_)
    · exact State.put_frame (hm.of rfl) (Allows.page (p := 34) rfl (hm.of rfl)) g1
    · extract_lets +onlyGivenNames -underBinder -merge y3
      try clear_value y3
      refine State.serMarks_frame (hm.of rfl) ?_
      refine State.when_frame (hm.of rfl) ?_ ?_
      · intro y4 g4
        exact State.put_frame (hm.of rfl) (Allows.page (p := 34) rfl (hm.of rfl)) g4
      · exact State.modSer_frame (hm.of rfl) g1

/-! ### Machine/Pads -/

theorem State.holdPad_frame {m : Nat} {s0 : State} {x0 x1 : State} {x2 : Nat} (hm : Sub 0x8002 m) (h1 : Frame m s0 x1) :
    Frame m s0 (State.holdPad x0 x1 x2) := by
  unfold State.holdPad
  extract_lets +onlyGivenNames -underBinder -merge y0
  try clear_value y0
  extract_lets +onlyGivenNames -underBinder -merge y1
  have g1 : Frame m s0 y1.2 := by
    exact State.freeBool_frame (hm.of rfl) h1
  try clear_value y1
  extract_lets +onlyGivenNames -underBinder -merge y2
  try clear_value y2
  extract_lets +onlyGivenNames -underBinder -merge y3
  have g3 : Frame m s0 y3 := by
    refine Frame.ite (fun _ => ?_) (fun _ => ?_)
    · exact g1
    · exact h1
  try clear_value y3
  exact Frame.fab (hm.of rfl) g3

theorem State.holdPads_frame {m : Nat} {s0 : State} {x0 x1 : State} (hm : Sub 0x8002 m) (h0 : Frame m s0 x0) : Frame m s0 (State.holdPads x0 x1) := by
  unfold State.holdPads
  refine Frame.foldl ?_ ?_
  · intro y0 y1 g0
    exact State.holdPad_frame (hm.of rfl) g0
  · exact Frame.fab (hm.of rfl) h0

theorem padBits_frame {m : Nat} {s0 : State} {x0 : State} {x1 x2 : Nat} {x3 : State → Nat → State}
    (hm : Sub 0x0 m) (f3 : ∀ z0 z1, Frame m s0 z0 → Frame m s0 (x3 z0 z1)) (h0 : Frame m s0 x0) : Frame m s0 (padBits x0 x1 x2 x3) := by
  unfold padBits
  refine Frame.foldl ?_ ?_
  · intro y0 y1 g0
    refine State.when_frame (hm.of rfl) ?_ ?_
    · intro y2 g2
      exact f3 _ _ g2
    · exact g0
  · exact h0

theorem State.portWrote_frame {m : Nat} {s0 : State} {x0 : State} {x1 x2 : Nat} {x3 : State} (hm : Sub 0x2070303d40046aa1a m) (h0 : Frame m s0 x0) :
    Frame m s0 (State.portWrote x0 x1 x2 x3) := by
  unfold State.portWrote
  extract_lets +onlyGivenNames -underBinder -merge y0
  try clear_value y0
  extract_lets +onlyGivenNames -underBinder -merge y1
  have g1 : Frame m s0 y1 := by
    refine State.when_frame (hm.of rfl) ?_ ?_
    · intro y2 g2
      exact State.put_frame (hm.of rfl) (Allows.page (p := 33) rfl (hm.of rfl)) g2
    · exact h0
  try clear_value y1
  extract_lets +onlyGivenNames -underBinder -merge y3
  have g3 : Frame m s0 y3 := by
    refine Frame.ite (fun _ => ?_) (fun _ => ?_)
    · refine padBits_frame (hm.of rfl) ?_ ?_
      · intro y4 y5 g4
        exact State.put_frame (hm.of rfl) (Allows.page (p := 33) rfl (hm.of rfl)) g4
      · exact h0
    · refine Frame.ite (fun _ => ?_) (fun _ => ?_)
      · refine padBits_frame (hm.of rfl) ?_ ?_
        · intro y6 y7 g6
          exact State.put_frame (hm.of rfl) (Allows.page (p := 33) rfl (hm.of rfl)) g6
        · exact h0
      · refine Frame.ite (fun _ => ?_) (fun _ => ?_)
        · exact State.put_frame (hm.of rfl) (Allows.page (p := 33) rfl (hm.of rfl)) g1
        · exact h0
  try clear_value y3
  exact State.faultJudge_frame (hm.of rfl) (State.judgePads_frame (hm.of rfl) g3)

theorem State.vioOff_frame {m : Nat} {s0 : State} {x0 : State} (hm : Sub 0x400000000018000 m) (h0 : Frame m s0 x0) :
    Frame m s0 (State.vioOff x0) := by
  unfold State.vioOff
  refine Frame.ite (fun _ => ?_) (fun _ => ?_)
  · exact h0
  · extract_lets +onlyGivenNames -underBinder -merge y0
    have g0 : Frame m s0 y0 := by
      exact State.putB_frame (hm.of rfl) (Allows.page (p := 26) rfl (hm.of rfl)) h0
    try clear_value y0
    exact Frame.fab_ser (hm.of rfl) g0

theorem State.vioOn_frame {m : Nat} {s0 : State} {x0 : State} {x1 : BitVec 48} (hm : Sub 0x2070303d40047aa1a m) (h0 : Frame m s0 x0) :
    Frame m s0 (State.vioOn x0 x1) := by
  unfold State.vioOn
  refine Frame.ite (fun _ => ?_) (fun _ => ?_)
  · exact h0
  · refine State.faultJudge_frame (hm.of rfl) ?_
    refine Frame.foldl ?_ ?_
    · intro y0 y1 g0
      refine State.when_frame (hm.of rfl) ?_ ?_
      · intro y2 g2
        exact State.padAccept_frame (hm.of rfl) g2
      · exact g0
    · exact Frame.fab_ser (hm.of rfl) h0

/-! ### Machine/Hart -/

theorem State.csrInsn_frame {m : Nat} {s0 : State} {x0 : State} {x1 x2 x3 x4 x5 : Nat} {x6 : Bool} (hm : Sub 0x800 m) (h0 : Frame m s0 x0) :
    OptIn m s0 (State.csrInsn x0 x1 x2 x3 x4 x5 x6) := by
  unfold State.csrInsn
  extract_lets +onlyGivenNames -underBinder -merge y0
  try clear_value y0
  extract_lets +onlyGivenNames -underBinder -merge y1
  try clear_value y1
  refine ite_in (p := OptIn m s0) (fun _ => ?_) (fun _ => ?_)
  · trivial
  · extract_lets +onlyGivenNames -underBinder -merge y2
    try clear_value y2
    extract_lets +onlyGivenNames -underBinder -merge y3
    try clear_value y3
    change Frame m s0 _
    refine State.modHart_frame (hm.of rfl) (fun _ => by first | ((try dsimp only) <;> (repeat' split) <;> simp; done) | exact Nat.zero_le _ | exact Nat.le_refl _) ?_
    refine State.when_frame (hm.of rfl) ?_ ?_
    · intro y4 g4
      refine State.modHart_frame (hm.of rfl) (fun _ => by first | ((try dsimp only) <;> (repeat' split) <;> simp; done) | exact Nat.zero_le _ | exact Nat.le_refl _) ?_
      exact g4
    · exact h0

theorem State.execute_frame {m : Nat} {s0 : State} {x0 : State} {x1 : Nat} {x2 : State → State}
    (hm : Sub 0x800 m) (f2 : ∀ z0, Frame m s0 z0 → Frame m s0 (x2 z0)) (h0 : Frame m s0 x0) : Frame m s0 (State.execute x0 x1 x2) := by
  unfold State.execute
  refine Frame.ite (fun _ => ?_) (fun _ => ?_)
  · refine f2 _ ?_
    refine State.modHart_frame (hm.of rfl) (fun _ => by first | ((try dsimp only) <;> (repeat' split) <;> simp; done) | exact Nat.zero_le _ | exact Nat.le_refl _) ?_
    exact h0
  · exact h0

theorem State.haltHart_frame {m : Nat} {s0 : State} {x0 : State} {x1 : Nat} (hm : Sub 0x800 m) (h0 : Frame m s0 x0) :
    Frame m s0 (State.haltHart x0 x1) := by
  unfold State.haltHart
  refine Frame.ite (fun _ => ?_) (fun _ => ?_)
  · exact h0
  · refine Frame.ite (fun _ => ?_) (fun _ => ?_)
    · refine Frame.ite (fun _ => ?_) (fun _ => ?_)
      · exact h0
      · refine State.modHart_frame (hm.of rfl) (fun _ => by first | ((try dsimp only) <;> (repeat' split) <;> simp; done) | exact Nat.zero_le _ | exact Nat.le_refl _) ?_
        exact h0
    · refine State.modHart_frame (hm.of rfl) (fun _ => by first | ((try dsimp only) <;> (repeat' split) <;> simp; done) | exact Nat.zero_le _ | exact Nat.le_refl _) ?_
      exact h0

theorem State.resumeHart_frame {m : Nat} {s0 : State} {x0 : State} {x1 : Nat} (hm : Sub 0x800 m) (h0 : Frame m s0 x0) :
    Frame m s0 (State.resumeHart x0 x1) := by
  unfold State.resumeHart
  refine Frame.ite (fun _ => ?_) (fun _ => ?_)
  · refine State.modHart_frame (hm.of rfl) (fun _ => by first | ((try dsimp only) <;> (repeat' split) <;> simp; done) | exact Nat.zero_le _ | exact Nat.le_refl _) ?_
    exact h0
  · exact h0

theorem State.retire_frame {m : Nat} {s0 : State} {x0 : State} {x1 : Nat} (hm : Sub 0x800 m) (h0 : Frame m s0 x0) :
    Frame m s0 (State.retire x0 x1) := by
  unfold State.retire
  refine State.modHart_frame (hm.of rfl) (fun _ => by first | ((try dsimp only) <;> (repeat' split) <;> simp; done) | exact Nat.zero_le _ | exact Nat.le_refl _) ?_
  exact h0

theorem State.trap_frame {m : Nat} {s0 : State} {x0 : State} {x1 x2 x3 : Nat} (hm : Sub 0x800 m) (h0 : Frame m s0 x0) :
    Frame m s0 (State.trap x0 x1 x2 x3) := by
  unfold State.trap
  refine State.modHart_frame (hm.of rfl) (fun _ => by first | ((try dsimp only) <;> (repeat' split) <;> simp; done) | exact Nat.zero_le _ | exact Nat.le_refl _) ?_
  exact h0

theorem State.triggered_frame {m : Nat} {s0 : State} {x0 : State} {x1 x2 : Nat} {x3 : TrigKind} {x4 x5 : Nat}
    (hm : Sub 0x800 m) (h0 : Frame m s0 x0) : Frame m s0 (State.triggered x0 x1 x2 x3 x4 x5) := by
  unfold State.triggered
  refine Frame.ite (fun _ => ?_) (fun _ => ?_)
  · extract_lets +onlyGivenNames -underBinder -merge y0
    try clear_value y0
    extract_lets +onlyGivenNames -underBinder -merge y1
    have g1 : Frame m s0 y1 := by
      refine State.modHart_frame (hm.of rfl) (fun _ => by first | ((try dsimp only) <;> (repeat' split) <;> simp; done) | exact Nat.zero_le _ | exact Nat.le_refl _) ?_
      exact h0
    try clear_value y1
    refine Frame.ite (fun _ => ?_) (fun _ => ?_)
    · refine State.modHart_frame (hm.of rfl) (fun _ => by first | ((try dsimp only) <;> (repeat' split) <;> simp; done) | exact Nat.zero_le _ | exact Nat.le_refl _) ?_
      exact g1
    · exact State.trap_frame (hm.of rfl) g1
  · exact h0

/-! ### Machine/Access -/

theorem State.cancelSlot_frame {m : Nat} {s0 : State} {x0 : State} {x1 x2 : Nat} (hm : Sub 0x43c000043a00 m) (h0 : Frame m s0 x0) :
    Frame m s0 (State.cancelSlot x0 x1 x2) := by
  unfold State.cancelSlot
  split
  · exact h0
  · refine Frame.ite (fun _ => ?_) (fun _ => ?_)
    · exact h0
    · refine Frame.ite (fun _ => ?_) (fun _ => ?_)
      · exact State.completeCancelled_frame (hm.of rfl) h0
      · split
        · refine Frame.ite (fun _ => ?_) (fun _ => ?_)
          · exact State.completeCancelled_frame (hm.of rfl) h0
          · refine Frame.ite (fun _ => ?_) (fun _ => ?_)
            · exact State.cancelObj_frame (hm.of rfl) (State.noteCancel_frame (hm.of rfl) h0)
            · exact State.noteCancel_frame (hm.of rfl) h0
        · exact State.noteCancel_frame (hm.of rfl) h0

theorem State.channelCfgWrote_frame {m : Nat} {s0 : State} {x0 : State} {x1 : Nat} {x2 : State} (hm : Sub 0x70303d40046aa1a m) (h0 : Frame m s0 x0) :
    Frame m s0 (State.channelCfgWrote x0 x1 x2) := by
  unfold State.channelCfgWrote
  extract_lets +onlyGivenNames -underBinder -merge y0
  have g0 : Frame m s0 y0 := by
    refine State.when_frame (hm.of rfl) ?_ ?_
    · intro y1 g1
      exact State.put_frame (hm.of rfl) (Allows.page (p := 17) rfl (hm.of rfl)) g1
    · exact h0
  try clear_value y0
  extract_lets +onlyGivenNames -underBinder -merge y2
  have g2 : Frame m s0 y2 := by
    refine State.when_frame (hm.of rfl) ?_ ?_
    · intro y3 g3
      exact State.modeChanged_frame (hm.of rfl) g3
    · exact g0
  try clear_value y2
  extract_lets +onlyGivenNames -underBinder -merge y4
  try clear_value y4
  refine State.when_frame (hm.of rfl) ?_ ?_
  · intro y5 g5
    exact State.armCompare_frame (hm.of rfl) g5
  · exact State.put_frame (hm.of rfl) (Allows.page (p := 17) rfl (hm.of rfl)) g2

theorem State.channelWrote_frame {m : Nat} {s0 : State} {x0 : State} {x1 : Nat} {x2 : State} (hm : Sub 0x70303d40046aa1a m) (h0 : Frame m s0 x0) :
    Frame m s0 (State.channelWrote x0 x1 x2) := by
  unfold State.channelWrote
  extract_lets +onlyGivenNames -underBinder -merge y0
  try clear_value y0
  extract_lets +onlyGivenNames -underBinder -merge y1
  try clear_value y1
  extract_lets +onlyGivenNames -underBinder -merge y2
  try clear_value y2
  extract_lets +onlyGivenNames -underBinder -merge y3
  have g3 : Frame m s0 y3 := by
    refine State.when_frame (hm.of rfl) ?_ ?_
    · intro y4 g4
      exact State.channelFall_frame (hm.of rfl) (State.setSignal_frame (hm.of rfl) g4)
    · exact h0
  try clear_value y3
  refine State.when_frame (hm.of rfl) ?_ ?_
  · intro y5 g5
    exact State.raise_frame (hm.of rfl) (Allows.page (p := 16) rfl (hm.of rfl)) g5
  · exact State.reshape_frame (hm.of rfl) g3

theorem State.evoutFollow_frame {m : Nat} {s0 : State} {x0 : State} {x1 : Nat} (hm : Sub 0x8000 m) (h0 : Frame m s0 x0) :
    Frame m s0 (State.evoutFollow x0 x1) := by
  unfold State.evoutFollow
  extract_lets +onlyGivenNames -underBinder -merge y0
  try clear_value y0
  refine State.when_frame (hm.of rfl) ?_ ?_
  · intro y1 g1
    exact State.setEvout_frame (hm.of rfl) g1
  · exact h0

theorem State.sinkWrote_frame {m : Nat} {s0 : State} {x0 : State} {x1 x2 : Nat} {x3 : State}
    (hm : Sub 0x1000000008000 m) (h0 : Frame m s0 x0) (h3 : Frame m s0 x3) : Frame m s0 (State.sinkWrote x0 x1 x2 x3).1 := by
  unfold State.sinkWrote
  extract_lets +onlyGivenNames -underBinder -merge y0
  have g0 : Frame m s0 y0 := by
    refine State.when_frame (hm.of rfl) ?_ ?_
    · intro y1 g1
      exact State.put_frame (hm.of rfl) (Allows.page (p := 16) rfl (hm.of rfl)) g1
    · exact h0
  try clear_value y0
  extract_lets +onlyGivenNames -underBinder -merge y2
  have g2 : Frame m s0 y2 := by
    refine State.when_frame (hm.of rfl) ?_ ?_
    · intro y3 g3
      exact State.put_frame (hm.of rfl) (Allows.page (p := 16) rfl (hm.of rfl)) g3
    · exact g0
  try clear_value y2
  extract_lets +onlyGivenNames -underBinder -merge y4
  try clear_value y4
  extract_lets +onlyGivenNames -underBinder -merge y5
  try clear_value y5
  extract_lets +onlyGivenNames -underBinder -merge y6
  try clear_value y6
  refine Frame.ite1 (fun _ => ?_) (fun _ => ?_)
  · exact Frame.fst h3
  · refine Frame.ite1 (fun _ => ?_) (fun _ => ?_)
    · exact Frame.fst h3
    · refine Frame.ite1 (fun _ => ?_) (fun _ => ?_)
      · exact Frame.fst (State.evoutFollow_frame (hm.of rfl) g2)
      · exact Frame.fst g2

theorem State.evfWrote_frame {m : Nat} {s0 : State} {x0 : State} {x1 x2 x3 : Nat} {x4 : State}
    (hm : Sub 0x70303d40046aa1a m) (h0 : Frame m s0 x0) (h4 : Frame m s0 x4) : Frame m s0 (State.evfWrote x0 x1 x2 x3 x4).1 := by
  unfold State.evfWrote
  refine Frame.ite1 (fun _ => ?_) (fun _ => ?_)
  · extract_lets +onlyGivenNames -underBinder -merge y0
    try clear_value y0
    refine Frame.ite1 (fun _ => ?_) (fun _ => ?_)
    · exact Frame.fst (State.swtrig_frame (hm.of rfl) h0)
    · exact Frame.fst h0
  · refine Frame.ite1 (fun _ => ?_) (fun _ => ?_)
    · refine State.sinkWrote_frame (hm.of rfl) ?_ ?_
      · exact h0
      · exact h4
    · refine Frame.ite1 (fun _ => ?_) (fun _ => ?_)
      · exact Frame.fst (State.channelWrote_frame (hm.of rfl) h0)
      · exact Frame.fst h0

theorem State.judgeHeld_frame {m : Nat} {s0 : State} {x0 : State} {x1 : Nat} (hm : Sub 0x3c000000800 m) (h0 : Frame m s0 x0) :
    Frame m s0 (State.judgeHeld x0 x1) := by
  unfold State.judgeHeld
  extract_lets +onlyGivenNames -underBinder -merge y0
  try clear_value y0
  refine State.when_frame (hm.of rfl) ?_ ?_
  · intro y1 g1
    refine State.modHart_frame (hm.of rfl) (fun _ => by first | ((try dsimp only) <;> (repeat' split) <;> simp; done) | exact Nat.zero_le _ | exact Nat.le_refl _) ?_
    exact State.put_frame (hm.of rfl) (Allows.fault rfl (hm.of rfl)) g1
  · exact h0

theorem State.popRecord_frame {m : Nat} {s0 : State} {x0 : State} {x1 : Nat} (hm : Sub 0x3c000000a00 m) (h0 : Frame m s0 x0) :
    Frame m s0 (State.popRecord x0 x1) := by
  unfold State.popRecord
  refine State.judgeHeld_frame (hm.of rfl) ?_
  refine State.modPost_frame (hm.of rfl) (fun _ => by first | ((try dsimp only) <;> (repeat' split) <;> simp; done) | exact Nat.zero_le _ | exact Nat.le_refl _) ?_
  exact h0

theorem State.fenceWord_frame {m : Nat} {s0 : State} {x0 : State} {x1 : Nat} {x2 : Bool} (hm : Sub 0xa00 m) (h0 : Frame m s0 x0) :
    Frame m s0 (State.fenceWord x0 x1 x2).1 := by
  unfold State.fenceWord
  extract_lets +onlyGivenNames -underBinder -merge y0
  try clear_value y0
  refine Frame.ite1 (fun _ => ?_) (fun _ => ?_)
  · refine Frame.fst ?_
    refine State.modHart_frame (hm.of rfl) (fun _ => by first | ((try dsimp only) <;> (repeat' split) <;> simp; done) | exact Nat.zero_le _ | exact Nat.le_refl _) ?_
    refine State.modPost_frame (hm.of rfl) (fun _ => by first | ((try dsimp only) <;> (repeat' split) <;> simp; done) | exact Nat.zero_le _ | exact Nat.le_refl _) ?_
    exact h0
  · exact Frame.fst h0

theorem State.faultRead_frame {m : Nat} {s0 : State} {x0 : State} {x1 : Master} {x2 x3 x4 x5 : Nat} (hm : Sub 0x3c000000a00 m) (h0 : Frame m s0 x0) :
    Frame m s0 (State.faultRead x0 x1 x2 x3 x4 x5).1 := by
  unfold State.faultRead
  extract_lets +onlyGivenNames -underBinder -merge y0
  try clear_value y0
  refine Frame.ite1 (fun _ => ?_) (fun _ => ?_)
  · exact Frame.fst h0
  · refine Frame.ite1 (fun _ => ?_) (fun _ => ?_)
    · exact Frame.fst h0
    · refine Frame.ite1 (fun _ => ?_) (fun _ => ?_)
      · exact Frame.fst h0
      · refine Frame.ite1 (fun _ => ?_) (fun _ => ?_)
        · refine Frame.fst ?_
          refine State.when_frame (hm.of rfl) ?_ ?_
          · intro y1 g1
            exact State.popRecord_frame (hm.of rfl) g1
          · exact h0
        · refine Frame.ite1 (fun _ => ?_) (fun _ => ?_)
          · exact Frame.fst h0
          · refine Frame.ite1 (fun _ => ?_) (fun _ => ?_)
            · refine Frame.ite1 (fun _ => ?_) (fun _ => ?_)
              · exact Frame.fst h0
              · exact State.fenceWord_frame (hm.of rfl) h0
            · exact Frame.fst h0

theorem State.faultWrote_frame {m : Nat} {s0 : State} {x0 : State} {x1 : Nat} (hm : Sub 0x3c000000a00 m) (h0 : Frame m s0 x0) :
    Frame m s0 (State.faultWrote x0 x1) := by
  unfold State.faultWrote
  refine State.when_frame (hm.of rfl) ?_ ?_
  · intro y0 g0
    refine State.judgeHeld_frame (hm.of rfl) ?_
    refine State.modPost_frame (hm.of rfl) (fun _ => by first | ((try dsimp only) <;> (repeat' split) <;> simp; done) | exact Nat.zero_le _ | exact Nat.le_refl _) ?_
    exact g0
  · exact h0

theorem State.irqRead_frame {m : Nat} {s0 : State} {x0 : State} {x1 x2 x3 : Nat} (hm : Sub 0x100 m) (h0 : Frame m s0 x0) :
    Frame m s0 (State.irqRead x0 x1 x2 x3).1 := by
  unfold State.irqRead
  refine Frame.ite1 (fun _ => ?_) (fun _ => ?_)
  · extract_lets +onlyGivenNames -underBinder -merge y0
    try clear_value y0
    exact Frame.fst h0
  · refine Frame.ite1 (fun _ => ?_) (fun _ => ?_)
    · extract_lets +onlyGivenNames -underBinder -merge y1
      try clear_value y1
      exact Frame.fst h0
    · refine Frame.ite1 (fun _ => ?_) (fun _ => ?_)
      · exact State.claim_frame (hm.of rfl) h0
      · exact Frame.fst h0

theorem State.irqWrote_frame {m : Nat} {s0 : State} {x0 : State} {x1 x2 x3 x4 : Nat} {x5 : State} (hm : Sub 0x3c0000000100 m) (h0 : Frame m s0 x0) :
    Frame m s0 (State.irqWrote x0 x1 x2 x3 x4 x5) := by
  unfold State.irqWrote
  refine Frame.ite (fun _ => ?_) (fun _ => ?_)
  · extract_lets +onlyGivenNames -underBinder -merge y0
    try clear_value y0
    refine Frame.foldl ?_ ?_
    · intro y1 y2 g1
      refine Frame.ite (fun _ => ?_) (fun _ => ?_)
      · exact g1
      · exact State.put_frame (hm.of rfl) (Allows.irq rfl (hm.of rfl)) g1
    · exact h0
  · refine Frame.ite (fun _ => ?_) (fun _ => ?_)
    · exact State.endService_frame (hm.of rfl) h0
    · exact h0

theorem State.ntuRead_frame {m : Nat} {s0 : State} {x0 : State} {x1 x2 x3 : Nat} (hm : Sub 0x2000000020000 m) (h0 : Frame m s0 x0) :
    Frame m s0 (State.ntuRead x0 x1 x2 x3).1 := by
  unfold State.ntuRead
  extract_lets +onlyGivenNames -underBinder -merge y0
  try clear_value y0
  refine Frame.ite1 (fun _ => ?_) (fun _ => ?_)
  · exact Frame.fst (State.latchTime_frame (hm.of rfl) h0)
  · refine Frame.ite1 (fun _ => ?_) (fun _ => ?_)
    · exact Frame.fst h0
    · refine Frame.ite1 (fun _ => ?_) (fun _ => ?_)
      · exact Frame.fst h0
      · refine Frame.ite1 (fun _ => ?_) (fun _ => ?_)
        · exact Frame.fst h0
        · refine Frame.ite1 (fun _ => ?_) (fun _ => ?_)
          · exact Frame.fst h0
          · refine Frame.ite1 (fun _ => ?_) (fun _ => ?_)
            · exact Frame.fst h0
            · refine Frame.ite1 (fun _ => ?_) (fun _ => ?_)
              · exact Frame.fst h0
              · refine Frame.ite1 (fun _ => ?_) (fun _ => ?_)
                · exact Frame.fst (State.clear_frame (hm.of rfl) (Allows.page (p := 17) rfl (hm.of rfl)) h0)
                · exact Frame.fst h0

theorem State.ntuWrote_frame {m : Nat} {s0 : State} {x0 : State} {x1 : Nat} {x2 : State}
    (hm : Sub 0x70303d40066aa1a m) (h0 : Frame m s0 x0) (h2 : Frame m s0 x2) : Frame m s0 (State.ntuWrote x0 x1 x2) := by
  unfold State.ntuWrote
  refine Frame.ite (fun _ => ?_) (fun _ => ?_)
  · exact State.servoWritten_frame (hm.of rfl) h0
  · refine Frame.ite (fun _ => ?_) (fun _ => ?_)
    · extract_lets +onlyGivenNames -underBinder -merge y0
      try clear_value y0
      refine State.when_frame (hm.of rfl) ?_ ?_
      · intro y1 g1
        exact State.setTime_frame (hm.of rfl) g1
      · exact State.put_frame (hm.of rfl) (Allows.page (p := 17) rfl (hm.of rfl)) h0
    · refine Frame.ite (fun _ => ?_) (fun _ => ?_)
      · exact State.channelCfgWrote_frame (hm.of rfl) h0
      · refine Frame.ite (fun _ => ?_) (fun _ => ?_)
        · exact h2
        · refine Frame.ite (fun _ => ?_) (fun _ => ?_)
          · exact State.targetWritten_frame (hm.of rfl) h0
          · exact h0

theorem State.ownerTaken_frame {m : Nat} {s0 : State} {x0 : State} {x1 x2 x3 x4 : Nat} (hm : Sub 0x7437fd40076bb1a m) (h0 : Frame m s0 x0) :
    Frame m s0 (State.ownerTaken x0 x1 x2 x3 x4) := by
  unfold State.ownerTaken
  refine Frame.ite (fun _ => ?_) (fun _ => ?_)
  · refine State.when_frame (hm.of rfl) ?_ ?_
    · intro y0 g0
      exact State.reshapeAll_frame (hm.of rfl) g0
    · refine State.when_frame (hm.of rfl) ?_ ?_
      · intro y1 g1
        exact State.linkQuiesce_frame (hm.of rfl) g1
      · exact h0
  · refine Frame.ite (fun _ => ?_) (fun _ => ?_)
    · exact State.objReset_frame (hm.of rfl) h0
    · refine Frame.ite (fun _ => ?_) (fun _ => ?_)
      · exact State.put_frame (hm.of rfl) (Allows.irq rfl (hm.of rfl)) (Frame.service (hm.of rfl) h0)
      · refine Frame.ite (fun _ => ?_) (fun _ => ?_)
        · refine Frame.foldl ?_ ?_
          · intro y2 y3 g2
            exact State.completeFree_frame (hm.of rfl) g2
          · exact h0
        · refine Frame.ite (fun _ => ?_) (fun _ => ?_)
          · exact State.nbrOut_frame (hm.of rfl) h0
          · refine Frame.ite (fun _ => ?_) (fun _ => ?_)
            · exact State.channelReset_frame (hm.of rfl) h0
            · refine Frame.ite (fun _ => ?_) (fun _ => ?_)
              · exact State.reshape_frame (hm.of rfl) h0
              · exact h0

theorem State.ownerSwitch_frame {m : Nat} {s0 : State} {x0 : State} {x1 x2 : Nat} (hm : Sub 0x7437fd40076bb9a m) (h0 : Frame m s0 x0) :
    Frame m s0 (State.ownerSwitch x0 x1 x2) := by
  unfold State.ownerSwitch
  split
  · exact h0
  · extract_lets +onlyGivenNames -underBinder -merge y0
    have g0 : Frame m s0 y0 := by
      exact Frame.waiting (hm.of rfl) h0
    try clear_value y0
    exact State.ownerTaken_frame (hm.of rfl) g0

theorem State.ownEntry_frame {m : Nat} {s0 : State} {x0 : State} {x1 x2 x3 : Nat} (hm : Sub 0x7437ff40076bbda m) (h0 : Frame m s0 x0) :
    Frame m s0 (State.ownEntry x0 x1 x2 x3) := by
  unfold State.ownEntry
  refine Frame.ite (fun _ => ?_) (fun _ => ?_)
  · exact h0
  · refine Frame.ite (fun _ => ?_) (fun _ => ?_)
    · exact State.put_frame (hm.of rfl) (Allows.page (p := 5) rfl (hm.of rfl)) h0
    · extract_lets +onlyGivenNames -underBinder -merge y0
      try clear_value y0
      extract_lets +onlyGivenNames -underBinder -merge y1
      have g1 : Frame m s0 y1 := by
        exact Frame.owners (hm.of rfl) h0
      try clear_value y1
      refine Frame.ite (fun _ => ?_) (fun _ => ?_)
      · exact Frame.waiting (hm.of rfl) g1
      · extract_lets +onlyGivenNames -underBinder -merge y2
        have g2 : Frame m s0 y2 := by
          exact Frame.waiting (hm.of rfl) g1
        try clear_value y2
        refine State.when_frame (hm.of rfl) ?_ ?_
        · intro y3 g3
          exact State.ownerSwitch_frame (hm.of rfl) g3
        · exact g2

theorem State.ownWritten_frame {m : Nat} {s0 : State} {x0 : State} {x1 x2 : Nat} (hm : Sub 0x7437ff40076bbda m) (h0 : Frame m s0 x0) :
    Frame m s0 (State.ownWritten x0 x1 x2) := by
  unfold State.ownWritten
  refine Frame.foldl ?_ ?_
  · intro y0 y1 g0
    refine State.when_frame (hm.of rfl) ?_ ?_
    · intro y2 g2
      exact State.ownEntry_frame (hm.of rfl) g2
    · exact g0
  · exact h0

theorem State.qmgrRead_frame {m : Nat} {s0 : State} {x0 : State} {x1 x2 x3 : Nat} (hm : Sub 0x400000002002 m) (h0 : Frame m s0 x0) :
    Frame m s0 (State.qmgrRead x0 x1 x2 x3).1 := by
  unfold State.qmgrRead
  refine Frame.ite1 (fun _ => ?_) (fun _ => ?_)
  · exact Frame.fst h0
  · refine Frame.ite1 (fun _ => ?_) (fun _ => ?_)
    · exact State.alloc_frame (hm.of rfl) h0
    · refine Frame.ite1 (fun _ => ?_) (fun _ => ?_)
      · extract_lets +onlyGivenNames -underBinder -merge y0
        try clear_value y0
        exact Frame.fst h0
      · exact Frame.fst h0

theorem State.qmgrWrote_frame {m : Nat} {s0 : State} {x0 : State} {x1 x2 x3 : Nat} {x4 : State}
    (hm : Sub 0x43c000043a00 m) (h0 : Frame m s0 x0) (h4 : Frame m s0 x4) : Frame m s0 (State.qmgrWrote x0 x1 x2 x3 x4).1 := by
  unfold State.qmgrWrote
  refine Frame.ite1 (fun _ => ?_) (fun _ => ?_)
  · refine Frame.ite1 (fun _ => ?_) (fun _ => ?_)
    · exact Frame.fst h4
    · exact Frame.fst h0
  · refine Frame.ite1 (fun _ => ?_) (fun _ => ?_)
    · exact Frame.fst (State.freeSlot_frame (hm.of rfl) h0)
    · refine Frame.ite1 (fun _ => ?_) (fun _ => ?_)
      · exact Frame.fst (State.cancelSlot_frame (hm.of rfl) h0)
      · refine Frame.ite1 (fun _ => ?_) (fun _ => ?_)
        · exact Frame.fst h0
        · refine Frame.ite1 (fun _ => ?_) (fun _ => ?_)
          · extract_lets +onlyGivenNames -underBinder -merge y0
            have g0 : Frame m s0 y0.1 := by
              exact State.push_frame (hm.of rfl) h0
            try clear_value y0
            exact Frame.fst g0
          · extract_lets +onlyGivenNames -underBinder -merge y1
            try clear_value y1
            extract_lets +onlyGivenNames -underBinder -merge y2
            try clear_value y2
            extract_lets +onlyGivenNames -underBinder -merge y3
            have g3 : Frame m s0 y3 := by
              refine State.when_frame (hm.of rfl) ?_ ?_
              · intro y4 g4
                exact State.put_frame (hm.of rfl) (Allows.page (p := 14) rfl (hm.of rfl)) g4
              · exact h0
            try clear_value y3
            refine Frame.fst ?_
            refine State.when_frame (hm.of rfl) ?_ ?_
            · intro y5 g5
              exact State.put_frame (hm.of rfl) (Allows.page (p := 14) rfl (hm.of rfl)) g5
            · exact g3

theorem State.sysRead_frame {m : Nat} {s0 : State} {x0 : State} {x1 : Master} {x2 x3 x4 : Nat} (hm : Sub 0x20000 m) (h0 : Frame m s0 x0) :
    Frame m s0 (State.sysRead x0 x1 x2 x3 x4).1 := by
  unfold State.sysRead
  refine Frame.ite1 (fun _ => ?_) (fun _ => ?_)
  · exact Frame.fst h0
  · refine Frame.ite1 (fun _ => ?_) (fun _ => ?_)
    · exact Frame.fst (Frame.ntu (hm.of rfl) (fun i => by first | exact i.ns | exact Nat.mod_lt _ (by decide) | exact (by decide : 0 < nsPerSec)) h0)
    · refine Frame.ite1 (fun _ => ?_) (fun _ => ?_)
      · exact Frame.fst h0
      · exact Frame.fst h0

theorem State.sysWrote_frame {m : Nat} {s0 : State} {x0 : State} {x1 x2 x3 : Nat} (hm : Sub 0x20000 m) (h0 : Frame m s0 x0) :
    Frame m s0 (State.sysWrote x0 x1 x2 x3) := by
  unfold State.sysWrote
  extract_lets +onlyGivenNames -underBinder -merge y0
  try clear_value y0
  refine Frame.ite (fun _ => ?_) (fun _ => ?_)
  · exact Frame.ntu (hm.of rfl) (fun i => by first | exact i.ns | exact Nat.mod_lt _ (by decide) | exact (by decide : 0 < nsPerSec)) h0
  · refine Frame.ite (fun _ => ?_) (fun _ => ?_)
    · exact Frame.ntu (hm.of rfl) (fun i => by first | exact i.ns | exact Nat.mod_lt _ (by decide) | exact (by decide : 0 < nsPerSec)) h0
    · exact h0

theorem State.wdtService_frame {m : Nat} {s0 : State} {x0 : State} {x1 x2 x3 : Nat} (hm : Sub 0xffffffffffffffff0076bf22 m) (h0 : Frame m s0 x0) :
    Frame m s0 (State.wdtService x0 x1 x2 x3) := by
  unfold State.wdtService
  refine Frame.ite (fun _ => ?_) (fun _ => ?_)
  · exact h0
  · refine Frame.ite (fun _ => ?_) (fun _ => ?_)
    · exact State.wdtExpire_frame (hm.of rfl) h0
    · refine Frame.ite (fun _ => ?_) (fun _ => ?_)
      · exact Frame.wdt (hm.of rfl) h0
      · refine Frame.ite (fun _ => ?_) (fun _ => ?_)
        · exact State.wdtExpire_frame (hm.of rfl) h0
        · split
          · exact h0
          · extract_lets +onlyGivenNames -underBinder -merge y0
            have g0 : Frame m s0 y0 := by
              exact Frame.wdt (hm.of rfl) h0
            try clear_value y0
            refine Frame.ite (fun _ => ?_) (fun _ => ?_)
            · exact g0
            · refine State.when_frame (hm.of rfl) ?_ ?_
              · intro y1 g1
                exact State.wdtExpire_frame (hm.of rfl) g1
              · exact g0

theorem State.wdtWrote_frame {m : Nat} {s0 : State} {x0 : State} {x1 : Nat} {x2 : State} (hm : Sub 0x80000000000000400 m) (h0 : Frame m s0 x0) :
    Frame m s0 (State.wdtWrote x0 x1 x2) := by
  unfold State.wdtWrote
  extract_lets +onlyGivenNames -underBinder -merge y0
  try clear_value y0
  refine Frame.ite (fun _ => ?_) (fun _ => ?_)
  · exact h0
  · extract_lets +onlyGivenNames -underBinder -merge y1
    have g1 : Frame m s0 y1 := by
      refine Frame.ite (fun _ => ?_) (fun _ => ?_)
      · refine State.put_frame (hm.of rfl) (Allows.page (p := 35) rfl (hm.of rfl)) ?_
        refine State.put_frame (hm.of rfl) (Allows.page (p := 35) rfl (hm.of rfl)) ?_
        exact State.put_frame (hm.of rfl) (Allows.page (p := 35) rfl (hm.of rfl)) h0
      · exact h0
    try clear_value y1
    refine State.when_frame (hm.of rfl) ?_ ?_
    · intro y2 g2
      exact Frame.wdt (hm.of rfl) g2
    · exact g1

/-! ### Machine/Regs -/

theorem State.noted_frame {m : Nat} {s0 : State} {x0 : State × Res} {x1 : Master} (hm : Sub 0x3c000000200 m) (h0 : Frame m s0 x0.1) :
    Frame m s0 (State.noted x0 x1).1 := by
  unfold State.noted
  split
  · exact Frame.fst (State.failRecord_frame (hm.of rfl) h0)
  · exact h0

theorem State.regRead_frame {m : Nat} {s0 : State} {x0 : State} {x1 : Master} {x2 x3 x4 : Nat} (hm : Sub 0x5004243c800032b02 m) (h0 : Frame m s0 x0) :
    Frame m s0 (State.regRead x0 x1 x2 x3 x4).1 := by
  unfold State.regRead
  extract_lets +onlyGivenNames -underBinder -merge y0
  try clear_value y0
  refine Frame.ite1 (fun _ => ?_) (fun _ => ?_)
  · exact Frame.fst h0
  · refine Frame.ite1 (fun _ => ?_) (fun _ => ?_)
    · exact Frame.fst h0
    · refine Frame.ite1 (fun _ => ?_) (fun _ => ?_)
      · exact Frame.fst h0
      · split
        · exact State.sysRead_frame (hm.of rfl) h0
        · refine Frame.fst ?_
          refine State.when_frame (hm.of rfl) ?_ ?_
          · intro y1 g1
            exact State.latchGauge_frame (hm.of rfl) g1
          · exact h0
        · exact Frame.fst h0
        · exact State.faultRead_frame (hm.of rfl) h0
        · exact State.faultRead_frame (hm.of rfl) h0
        · exact State.faultRead_frame (hm.of rfl) h0
        · exact State.faultRead_frame (hm.of rfl) h0
        · exact State.irqRead_frame (hm.of rfl) h0
        · exact State.irqRead_frame (hm.of rfl) h0
        · exact State.irqRead_frame (hm.of rfl) h0
        · exact State.irqRead_frame (hm.of rfl) h0
        · exact State.qmgrRead_frame (hm.of rfl) h0
        · exact Frame.fst h0
        · exact State.ntuRead_frame (hm.of rfl) h0
        · exact Frame.fst h0
        · exact Frame.fst h0
        · exact Frame.fst h0
        · refine Frame.ite1 (fun _ => ?_) (fun _ => ?_)
          · exact Frame.fst h0
          · refine Frame.fst ?_
            refine State.when_frame (hm.of rfl) ?_ ?_
            · intro y2 g2
              exact State.latchAsn_frame (hm.of rfl) g2
            · exact h0
        · exact Frame.fst h0
        · exact Frame.fst h0
        · exact Frame.fst h0
        · exact Frame.fst h0
        · exact Frame.fst h0
        · refine Frame.ite1 (fun _ => ?_) (fun _ => ?_)
          · exact State.trngRead_frame (hm.of rfl) h0
          · exact Frame.fst h0
        · exact Frame.fst h0
        · exact State.serRead_frame (hm.of rfl) h0
        · exact Frame.fst h0
        · exact Frame.fst h0

theorem State.readAs_frame {m : Nat} {s0 : State} {x0 : State} {x1 : Reach} {x2 : Master} {x3 x4 x5 : Nat} {x6 : Upset}
    (hm : Sub 0x5174f43dc0047bb1a m) (h0 : Frame m s0 x0) : Frame m s0 (State.readAs x0 x1 x2 x3 x4 x5 x6).1 := by
  unfold State.readAs
  refine Frame.ite1 (fun _ => ?_) (fun _ => ?_)
  · exact Frame.fst h0
  · split
    · exact Frame.fst h0
    · exact Frame.fst h0
    · refine Frame.ite1 (fun _ => ?_) (fun _ => ?_)
      · exact Frame.fst h0
      · extract_lets +onlyGivenNames -underBinder -merge y0
        have g0 : Frame m s0 y0.1 := by
          exact State.memRead_frame (hm.of rfl) (State.flashAsked_frame (hm.of rfl) h0)
        try clear_value y0
        exact Frame.fst g0
    · exact Frame.fst h0
    · exact Frame.fst (State.free_frame (hm.of rfl) h0)
    · split
      · exact Frame.fst h0
      · extract_lets +onlyGivenNames -underBinder -merge y1
        have g1 : Frame m s0 y1.1 := by
          exact State.regRead_frame (hm.of rfl) h0
        try clear_value y1
        exact Frame.fst g1

theorem State.busFetch_frame {m : Nat} {s0 : State} {x0 : State} {x1 : Master} {x2 x3 x4 : Nat} {x5 : Upset}
    (hm : Sub 0x5174f43dc0047bb1a m) (h0 : Frame m s0 x0) : Frame m s0 (State.busFetch x0 x1 x2 x3 x4 x5).1 := by
  unfold State.busFetch
  exact State.noted_frame (hm.of rfl) (State.readAs_frame (hm.of rfl) h0)

theorem State.putLegal_frame {m : Nat} {s0 : State} {x0 : State} {x1 : Fld} {x2 : Nat} (hm : Sub 0x0 m) (a1 : Allows m x1) (h0 : Frame m s0 x0) :
    Frame m s0 (State.putLegal x0 x1 x2) := by
  unfold State.putLegal
  refine Frame.ite (fun _ => ?_) (fun _ => ?_)
  · exact State.put_frame (hm.of rfl) a1 h0
  · exact h0

theorem State.writeField_frame {m : Nat} {s0 : State} {x0 : State} {x1 : Option Nat} {x2 x3 : Nat} {x4 : Fld}
    (hm : Sub 0x0 m) (a4 : Allows m x4) (h0 : Frame m s0 x0) : Frame m s0 (State.writeField x0 x1 x2 x3 x4).1 := by
  unfold State.writeField
  extract_lets +onlyGivenNames -underBinder -merge y0
  try clear_value y0
  refine Frame.ite1 (fun _ => ?_) (fun _ => ?_)
  · exact Frame.fst h0
  · extract_lets +onlyGivenNames -underBinder -merge y1
    try clear_value y1
    extract_lets +onlyGivenNames -underBinder -merge y2
    try clear_value y2
    extract_lets +onlyGivenNames -underBinder -merge y3
    try clear_value y3
    split
    · exact Frame.fst (State.putLegal_frame (hm.of rfl) a4 h0)
    · split
      · exact Frame.fst h0
      · exact Frame.fst (State.putLegal_frame (hm.of rfl) a4 h0)
    · exact Frame.fst (State.put_frame (hm.of rfl) a4 h0)
    · exact Frame.fst (State.put_frame (hm.of rfl) a4 h0)
    · exact Frame.fst h0

theorem State.writeFields_frame {m : Nat} {s0 : State} {x0 : State} {x1 x2 x3 x4 : Nat} (hm : Sub 0xffffffffffffffff00000000 m) (h0 : Frame m s0 x0) :
    Frame m s0 (State.writeFields x0 x1 x2 x3 x4).1 := by
  unfold State.writeFields
  extract_lets +onlyGivenNames -underBinder -merge y0
  try clear_value y0
  refine Frame.foldl1 ?_ ?_
  · intro y1 y2 g1
    extract_lets +onlyGivenNames -underBinder -merge y3
    have g3 : Frame m s0 y3.1 := by
      exact State.writeField_frame (hm.of rfl) (Allows.all _ (hm.of rfl)) g1
    try clear_value y3
    exact Frame.fst g3
  · exact Frame.fst h0

theorem State.objCommand_frame {m : Nat} {s0 : State} {x0 : State} {x1 x2 x3 x4 : Nat} {x5 : Bool}
    (hm : Sub 0x70f03d40046ba1a m) (h0 : Frame m s0 x0) : Frame m s0 (State.objCommand x0 x1 x2 x3 x4 x5).1 := by
  unfold State.objCommand
  refine Frame.ite1 (fun _ => ?_) (fun _ => ?_)
  · exact Frame.fst h0
  · refine Frame.ite1 (fun _ => ?_) (fun _ => ?_)
    · exact Frame.fst (State.canCommand_frame (hm.of rfl) h0)
    · exact Frame.fst h0

theorem State.serviced_frame {m : Nat} {s0 : State} {x0 : State} {x1 x2 : Nat} {x3 : Option Nat}
    (hm : Sub 0xffffffffffffffff0076bf22 m) (h0 : Frame m s0 x0) : Frame m s0 (State.serviced x0 x1 x2 x3) := by
  unfold State.serviced
  split
  · exact State.wdtService_frame (hm.of rfl) h0
  · exact State.wdtService_frame (hm.of rfl) (State.free_frame (hm.of rfl) h0)

theorem State.pageWrote_frame {m : Nat} {s0 : State} {x0 : State} {x1 x2 x3 x4 x5 : Nat} {x6 : Option Nat} {x7 : State}
    (hm : Sub 0xffffffffffffffff00f7bffa m) (h0 : Frame m s0 x0) (h7 : Frame m s0 x7) : Frame m s0 (State.pageWrote x0 x1 x2 x3 x4 x5 x6 x7).1 := by
  unfold State.pageWrote
  extract_lets +onlyGivenNames -underBinder -merge y0
  try clear_value y0
  split
  · exact Frame.fst (State.sysWrote_frame (hm.of rfl) h0)
  · refine Frame.fst ?_
    refine State.rstcWrote_frame (hm.of rfl) ?_
    refine State.when_frame (hm.of rfl) ?_ ?_
    · intro y1 g1
      exact State.put_frame (hm.of rfl) (Allows.page (p := 1) rfl (hm.of rfl)) g1
    · exact h0
  · refine Frame.fst ?_
    refine State.when_frame (hm.of rfl) ?_ ?_
    · intro y2 g2
      exact State.pwrWrote_frame (hm.of rfl) g2
    · exact h0
  · exact Frame.fst (State.supplyWrote_frame (hm.of rfl) h0)
  · refine Frame.fst ?_
    refine State.when_frame (hm.of rfl) ?_ ?_
    · intro y3 g3
      exact State.ownWritten_frame (hm.of rfl) g3
    · exact h0
  · exact Frame.fst (State.faultWrote_frame (hm.of rfl) h0)
  · exact Frame.fst (State.faultWrote_frame (hm.of rfl) h0)
  · exact Frame.fst (State.faultWrote_frame (hm.of rfl) h0)
  · exact Frame.fst (State.faultWrote_frame (hm.of rfl) h0)
  · exact Frame.fst (State.irqWrote_frame (hm.of rfl) h0)
  · exact Frame.fst (State.irqWrote_frame (hm.of rfl) h0)
  · exact Frame.fst (State.irqWrote_frame (hm.of rfl) h0)
  · exact Frame.fst (State.irqWrote_frame (hm.of rfl) h0)
  · refine State.qmgrWrote_frame (hm.of rfl) ?_ ?_
    · exact h0
    · exact h7
  · refine State.evfWrote_frame (hm.of rfl) ?_ ?_
    · exact h0
    · exact h7
  · refine Frame.fst ?_
    refine State.ntuWrote_frame (hm.of rfl) ?_ ?_
    · exact h0
    · exact h7
  · refine Frame.ite1 (fun _ => ?_) (fun _ => ?_)
    · exact State.objCommand_frame (hm.of rfl) h0
    · refine Frame.fst ?_
      refine State.when_frame (hm.of rfl) ?_ ?_
      · intro y4 g4
        refine State.canWrote_frame (hm.of rfl) ?_ ?_
        · exact g4
        · exact h7
      · exact h0
  · refine Frame.ite1 (fun _ => ?_) (fun _ => ?_)
    · exact State.objCommand_frame (hm.of rfl) h0
    · refine Frame.fst ?_
      refine State.when_frame (hm.of rfl) ?_ ?_
      · intro y5 g5
        refine State.canWrote_frame (hm.of rfl) ?_ ?_
        · exact g5
        · exact h7
      · exact h0
  · refine Frame.fst ?_
    refine State.when_frame (hm.of rfl) ?_ ?_
    · intro y6 g6
      exact State.trxModeWritten_frame (hm.of rfl) g6
    · exact h0
  · exact Frame.fst (State.phyWrote_frame (hm.of rfl) h0)
  · exact Frame.fst (State.linkWrote_frame (hm.of rfl) h0)
  · exact Frame.fst (State.lsecWrote_frame (hm.of rfl) h0)
  · exact Frame.fst (State.ctrlWrote_frame (hm.of rfl) h0)
  · exact Frame.fst (State.adcWrote_frame (hm.of rfl) h0)
  · exact Frame.fst (State.pwmWrote_frame (hm.of rfl) h0)
  · exact Frame.fst (State.toothWrote_frame (hm.of rfl) h0)
  · refine Frame.fst ?_
    refine State.flashWrote_frame (hm.of rfl) ?_ ?_
    · exact h0
    · exact h7
  · exact Frame.fst (State.memcWrote_frame (hm.of rfl) h0)
  · exact Frame.fst (State.portWrote_frame (hm.of rfl) h0)
  · exact Frame.fst (State.serWrote_frame (hm.of rfl) h0)
  · refine Frame.ite1 (fun _ => ?_) (fun _ => ?_)
    · exact Frame.fst (State.serviced_frame (hm.of rfl) h0)
    · exact Frame.fst (State.wdtWrote_frame (hm.of rfl) h0)
  · exact Frame.fst h0

theorem State.regWrite_frame {m : Nat} {s0 : State} {x0 : State} {x1 x2 x3 x4 x5 x6 : Nat} {x7 : Option Nat}
    (hm : Sub 0xffffffffffffffff00f7bffa m) (h0 : Frame m s0 x0) : Frame m s0 (State.regWrite x0 x1 x2 x3 x4 x5 x6 x7).1 := by
  unfold State.regWrite
  extract_lets +onlyGivenNames -underBinder -merge y0
  try clear_value y0
  extract_lets +onlyGivenNames -underBinder -merge y1
  try clear_value y1
  extract_lets +onlyGivenNames -underBinder -merge y2
  try clear_value y2
  refine Frame.ite1 (fun _ => ?_) (fun _ => ?_)
  · extract_lets +onlyGivenNames -underBinder -merge y3
    have g3 : Frame m s0 y3 := by
      exact State.writeFields_frame (hm.of rfl) h0
    try clear_value y3
    refine Frame.fst ?_
    split
    · exact State.judgePads_frame (hm.of rfl) g3
    · exact State.serMarks_frame (hm.of rfl) g3
    · exact g3
  · extract_lets +onlyGivenNames -underBinder -merge y4
    try clear_value y4
    extract_lets +onlyGivenNames -underBinder -merge y5
    have g5 : Frame m s0 y5.1 := by
      exact State.writeFields_frame (hm.of rfl) h0
    try clear_value y5
    extract_lets +onlyGivenNames -underBinder -merge y6
    have g6 : Frame m s0 y6.1 := by
      refine Frame.ite1 (fun _ => ?_) (fun _ => ?_)
      · exact Frame.fst g5
      · refine Frame.ite1 (fun _ => ?_) (fun _ => ?_)
        · exact Frame.fst (State.crcWrote_frame (hm.of rfl) g5)
        · refine State.pageWrote_frame (hm.of rfl) ?_ ?_
          · exact g5
          · exact h0
    try clear_value y6
    exact Frame.fst g6

theorem State.writeAt_frame {m : Nat} {s0 : State} {x0 : State} {x1 : Master} {x2 x3 x4 x5 : Nat} {x6 : Upset} {x7 : Option Nat}
    (hm : Sub 0xffffffffffffffff00f7bffa m) (h0 : Frame m s0 x0) : Frame m s0 (State.writeAt x0 x1 x2 x3 x4 x5 x6 x7).1 := by
  unfold State.writeAt
  refine Frame.ite1 (fun _ => ?_) (fun _ => ?_)
  · exact Frame.fst h0
  · split
    · exact Frame.fst h0
    · exact Frame.fst h0
    · extract_lets +onlyGivenNames -underBinder -merge y0
      have g0 : Frame m s0 y0.1 := by
        exact State.memWrite_frame (hm.of rfl) h0
      try clear_value y0
      exact Frame.fst g0
    · split
      · exact Frame.fst h0
      · extract_lets +onlyGivenNames -underBinder -merge y1
        have g1 : Frame m s0 y1.1 := by
          exact State.regWrite_frame (hm.of rfl) h0
        try clear_value y1
        exact Frame.fst g1
    · exact Frame.fst h0

theorem State.busPut_frame {m : Nat} {s0 : State} {x0 : State} {x1 : Master} {x2 x3 x4 x5 : Nat} {x6 : Upset}
    (hm : Sub 0xffffffffffffffff00f7bffa m) (h0 : Frame m s0 x0) : Frame m s0 (State.busPut x0 x1 x2 x3 x4 x5 x6).1 := by
  unfold State.busPut
  exact State.noted_frame (hm.of rfl) (State.writeAt_frame (hm.of rfl) h0)

theorem State.readAt_frame {m : Nat} {s0 : State} {x0 : State} {x1 : Master} {x2 x3 x4 : Nat} {x5 : Upset}
    (hm : Sub 0x5174f43dc0047bb1a m) (h0 : Frame m s0 x0) : Frame m s0 (State.readAt x0 x1 x2 x3 x4 x5).1 := by
  unfold State.readAt
  exact State.readAs_frame (hm.of rfl) h0

theorem State.busRead_frame {m : Nat} {s0 : State} {x0 : State} {x1 : Master} {x2 x3 x4 : Nat} {x5 : Upset}
    (hm : Sub 0x5174f43dc0047bb1a m) (h0 : Frame m s0 x0) : Frame m s0 (State.busRead x0 x1 x2 x3 x4 x5).1 := by
  unfold State.busRead
  exact State.noted_frame (hm.of rfl) (State.readAt_frame (hm.of rfl) h0)

/-! ### Machine/Burst -/

theorem State.readRun_frame {m : Nat} {s0 : State} {x0 : Master} {x1 : Nat} {x2 : Disturb} {x3 : Nat} {x4 : List (Nat × Nat)} {x5 : State}
    (hm : Sub 0x5174f43dc0047bb1a m) (h5 : Frame m s0 x5) : Frame m s0 (State.readRun x0 x1 x2 x3 x4 x5).1 := by
  induction x4 generalizing x3 x5 with
  | nil => exact h5
  | cons e l ih =>
    unfold State.readRun
    extract_lets +onlyGivenNames -underBinder -merge r
    have g : Frame m s0 r.1 := State.busRead_frame (hm.of rfl) h5
    clear_value r
    exact Frame.ite1 (fun _ => ih g) (fun _ => g)

theorem State.readBytes_frame {m : Nat} {s0 : State} {x0 : State} {x1 : Master} {x2 x3 x4 : Nat} {x5 : Disturb} {x6 : Nat}
    (hm : Sub 0x5174f43dc0047bb1a m) (h0 : Frame m s0 x0) : Frame m s0 (State.readBytes x0 x1 x2 x3 x4 x5 x6).1 := by
  unfold State.readBytes
  exact State.readRun_frame (hm.of rfl) h0

theorem State.opEnd_frame {m : Nat} {s0 : State} {x0 x1 : State} {x2 : Nat} {x3 : Option Res} {x4 : Nat}
    (hm : Sub 0x2000 m) (h0 : Frame m s0 x0) (h1 : Frame m s0 x1) : Frame m s0 (State.opEnd x0 x1 x2 x3 x4) := by
  unfold State.opEnd
  split
  · exact State.outcome_frame (hm.of rfl) h1
  · refine Frame.ite (fun _ => ?_) (fun _ => ?_)
    · exact h0
    · exact State.outcome_frame (hm.of rfl) h1

theorem State.aesEnd_frame {m : Nat} {s0 : State} {x0 : State} {x1 : Active} {x2 : Nat} {x3 : AesRun} {x4 : Disturb}
    (hm : Sub 0x5174f43dc0047bb1a m) (h0 : Frame m s0 x0) : Frame m s0 (State.aesEnd x0 x1 x2 x3 x4) := by
  unfold State.aesEnd
  refine Frame.ite (fun _ => ?_) (fun _ => ?_)
  · extract_lets +onlyGivenNames -underBinder -merge y0
    have g0 : Frame m s0 y0.1 := by
      exact State.readBytes_frame (hm.of rfl) h0
    try clear_value y0
    refine State.opEnd_frame (hm.of rfl) ?_ ?_
    · exact h0
    · exact g0
  · exact State.outcome_frame (hm.of rfl) h0

theorem State.aesFetch_frame {m : Nat} {s0 : State} {x0 : State} {x1 : Active} {x2 : Nat} {x3 : Disturb}
    (hm : Sub 0x5174f43dc0047bb1a m) (h0 : Frame m s0 x0) : Frame m s0 (State.aesFetch x0 x1 x2 x3) := by
  unfold State.aesFetch
  extract_lets +onlyGivenNames -underBinder -merge y0
  try clear_value y0
  extract_lets +onlyGivenNames -underBinder -merge y1
  try clear_value y1
  extract_lets +onlyGivenNames -underBinder -merge y2
  have g2 : Frame m s0 y2.1 := by
    exact State.readBytes_frame (hm.of rfl) h0
  try clear_value y2
  extract_lets +onlyGivenNames -underBinder -merge y3
  try clear_value y3
  extract_lets +onlyGivenNames -underBinder -merge y4
  try clear_value y4
  extract_lets +onlyGivenNames -underBinder -merge y5
  try clear_value y5
  extract_lets +onlyGivenNames -underBinder -merge y6
  try clear_value y6
  extract_lets +onlyGivenNames -underBinder -merge y7
  try clear_value y7
  split
  · refine State.opEnd_frame (hm.of rfl) ?_ ?_
    · exact h0
    · exact g2
  · refine Frame.ite (fun _ => ?_) (fun _ => ?_)
    · exact State.outcome_frame (hm.of rfl) g2
    · extract_lets +onlyGivenNames -underBinder -merge y8
      have g8 : Frame m s0 y8.1 := by
        exact State.readBytes_frame (hm.of rfl) g2
      try clear_value y8
      split
      · refine State.opEnd_frame (hm.of rfl) ?_ ?_
        · exact h0
        · exact g8
      · extract_lets +onlyGivenNames -underBinder -merge y9
        have g9 : Frame m s0 y9.1 := by
          exact State.readBytes_frame (hm.of rfl) g8
        try clear_value y9
        split
        · refine State.opEnd_frame (hm.of rfl) ?_ ?_
          · exact h0
          · exact g9
        · extract_lets +onlyGivenNames -underBinder -merge y10
          try clear_value y10
          exact State.setActive_frame (hm.of rfl) g9

theorem State.jobSpoilt_frame {m : Nat} {s0 : State} {x0 : State} {x1 x2 : Nat} (hm : Sub 0x3c000002200 m) (h0 : Frame m s0 x0) :
    Frame m s0 (State.jobSpoilt x0 x1 x2) := by
  unfold State.jobSpoilt
  split
  · refine State.when_frame (hm.of rfl) ?_ ?_
    · intro y0 g0
      exact State.outcome_frame (hm.of rfl) (State.descRead_frame (hm.of rfl) g0)
    · exact h0
  · exact h0

theorem State.writeRun_frame {m : Nat} {s0 : State} {x0 : Master} {x1 : Nat} {x2 : Disturb} {x3 : Nat} {x4 : List (Nat × Nat)} {x5 : List Nat} {x6 : State}
    (hm : Sub 0xffffffffffffffff00f7bffa m) (h6 : Frame m s0 x6) : Frame m s0 (State.writeRun x0 x1 x2 x3 x4 x5 x6).1 := by
  induction x4 generalizing x3 x5 x6 with
  | nil => exact h6
  | cons e l ih =>
    unfold State.writeRun
    extract_lets +onlyGivenNames -underBinder -merge r
    have g : Frame m s0 r.1 := State.busPut_frame (hm.of rfl) h6
    clear_value r
    exact Frame.ite1 (fun _ => ih g) (fun _ => g)

theorem State.progress_frame {m : Nat} {s0 : State} {x0 : State} {x1 x2 : Nat} (hm : Sub 0x2000 m) (h0 : Frame m s0 x0) :
    Frame m s0 (State.progress x0 x1 x2) := by
  unfold State.progress
  split
  · exact State.setActive_frame (hm.of rfl) h0
  · exact h0

theorem State.aesRun_frame {m : Nat} {s0 : State} {x0 : State} {x1 x2 : Nat} {x3 : Disturb}
    (hm : Sub 0xffffffffffffffff00f7bffa m) (h0 : Frame m s0 x0) : Frame m s0 (State.aesRun x0 x1 x2 x3) := by
  unfold State.aesRun
  split
  · exact State.jobSpoilt_frame (hm.of rfl) h0
  · extract_lets +onlyGivenNames -underBinder -merge y0
    have g0 : Frame m s0 y0 := by
      refine Frame.ite (fun _ => ?_) (fun _ => ?_)
      · exact State.aesFetch_frame (hm.of rfl) h0
      · exact h0
    try clear_value y0
    split
    · exact g0
    · split
      · exact g0
      · extract_lets +onlyGivenNames -underBinder -merge y1
        try clear_value y1
        extract_lets +onlyGivenNames -underBinder -merge y2
        try clear_value y2
        extract_lets +onlyGivenNames -underBinder -merge y3
        try clear_value y3
        extract_lets +onlyGivenNames -underBinder -merge y4
        have g4 : Frame m s0 y4.1 := by
          exact State.writeRun_frame (hm.of rfl) g0
        try clear_value y4
        split
        · refine State.opEnd_frame (hm.of rfl) ?_ ?_
          · exact g0
          · exact g4
        · extract_lets +onlyGivenNames -underBinder -merge y5
          have g5 : Frame m s0 y5 := by
            exact State.progress_frame (hm.of rfl) g4
          try clear_value y5
          refine Frame.ite (fun _ => ?_) (fun _ => ?_)
          · exact State.aesEnd_frame (hm.of rfl) g5
          · exact g5

theorem State.copyUnits_frame {m : Nat} {s0 : State} {x0 : Master} {x1 x2 x3 x4 : Nat} {x5 : Disturb} {x6 x7 : Nat} {x8 : State}
    (hm : Sub 0xffffffffffffffff00f7bffa m) (h8 : Frame m s0 x8) : Frame m s0 (State.copyUnits x0 x1 x2 x3 x4 x5 x6 x7 x8).1 := by
  induction x6 generalizing x7 x8 with
  | zero => exact h8
  | succ n ih =>
    unfold State.copyUnits
    extract_lets +onlyGivenNames -underBinder -merge u
    extract_lets +onlyGivenNames -underBinder -merge r
    have g : Frame m s0 r.1 := State.busRead_frame (hm.of rfl) h8
    clear_value r
    refine Frame.ite1 (fun _ => ?_) (fun _ => g)
    extract_lets +onlyGivenNames -underBinder -merge q
    have k : Frame m s0 q.1 := State.busPut_frame (hm.of rfl) g
    clear_value q
    exact Frame.ite1 (fun _ => ih k) (fun _ => k)

theorem State.writeBytes_frame {m : Nat} {s0 : State} {x0 : State} {x1 : Master} {x2 x3 : Nat} {x4 : List Nat} {x5 : Disturb} {x6 : Nat}
    (hm : Sub 0xffffffffffffffff00f7bffa m) (h0 : Frame m s0 x0) : Frame m s0 (State.writeBytes x0 x1 x2 x3 x4 x5 x6).1 := by
  unfold State.writeBytes
  exact State.writeRun_frame (hm.of rfl) h0

theorem State.crcRun_frame {m : Nat} {s0 : State} {x0 : State} {x1 : Disturb} (hm : Sub 0xffffffffffffffff00f7bffa m) (h0 : Frame m s0 x0) :
    Frame m s0 (State.crcRun x0 x1) := by
  unfold State.crcRun
  split
  · exact State.jobSpoilt_frame (hm.of rfl) h0
  · extract_lets +onlyGivenNames -underBinder -merge y0
    try clear_value y0
    extract_lets +onlyGivenNames -underBinder -merge y1
    try clear_value y1
    extract_lets +onlyGivenNames -underBinder -merge y2
    try clear_value y2
    extract_lets +onlyGivenNames -underBinder -merge y3
    have g3 : Frame m s0 y3.1 := by
      refine Frame.ite1 (fun _ => ?_) (fun _ => ?_)
      · exact State.readBytes_frame (hm.of rfl) h0
      · exact Frame.fst h0
    try clear_value y3
    split
    · refine State.opEnd_frame (hm.of rfl) ?_ ?_
      · exact h0
      · exact g3
    · extract_lets +onlyGivenNames -underBinder -merge y4
      have g4 : Frame m s0 y4.1 := by
        exact State.readBytes_frame (hm.of rfl) g3
      try clear_value y4
      split
      · refine State.opEnd_frame (hm.of rfl) ?_ ?_
        · exact h0
        · exact g4
      · extract_lets +onlyGivenNames -underBinder -merge y5
        have g5 : Frame m s0 y5.1 := by
          exact State.writeBytes_frame (hm.of rfl) g4
        try clear_value y5
        refine State.opEnd_frame (hm.of rfl) ?_ ?_
        · exact h0
        · exact g5

theorem State.fillUnits_frame {m : Nat} {s0 : State} {x0 : Master} {x1 x2 x3 x4 : Nat} {x5 : Disturb} {x6 x7 : Nat} {x8 : State}
    (hm : Sub 0xffffffffffffffff00f7bffa m) (h8 : Frame m s0 x8) : Frame m s0 (State.fillUnits x0 x1 x2 x3 x4 x5 x6 x7 x8).1 := by
  induction x6 generalizing x7 x8 with
  | zero => exact h8
  | succ n ih =>
    unfold State.fillUnits
    extract_lets +onlyGivenNames -underBinder -merge u
    extract_lets +onlyGivenNames -underBinder -merge q
    have k : Frame m s0 q.1 := State.busPut_frame (hm.of rfl) h8
    clear_value q
    exact Frame.ite1 (fun _ => ih k) (fun _ => k)

theorem State.dmaRun_frame {m : Nat} {s0 : State} {x0 : State} {x1 : Fin 16} {x2 : Bool} {x3 : Nat} {x4 : Disturb}
    (hm : Sub 0xffffffffffffffff00f7bffa m) (h0 : Frame m s0 x0) : Frame m s0 (State.dmaRun x0 x1 x2 x3 x4) := by
  unfold State.dmaRun
  split
  · exact State.jobSpoilt_frame (hm.of rfl) h0
  · extract_lets +onlyGivenNames -underBinder -merge y0
    try clear_value y0
    extract_lets +onlyGivenNames -underBinder -merge y1
    try clear_value y1
    extract_lets +onlyGivenNames -underBinder -merge y2
    try clear_value y2
    extract_lets +onlyGivenNames -underBinder -merge y3
    try clear_value y3
    extract_lets +onlyGivenNames -underBinder -merge y4
    have g4 : Frame m s0 y4.1 := by
      refine Frame.ite1 (fun _ => ?_) (fun _ => ?_)
      · exact State.fillUnits_frame (hm.of rfl) h0
      · exact State.copyUnits_frame (hm.of rfl) h0
    try clear_value y4
    extract_lets +onlyGivenNames -underBinder -merge y5
    have g5 : Frame m s0 y5 := by
      exact State.progress_frame (hm.of rfl) g4
    try clear_value y5
    split
    · refine Frame.ite (fun _ => ?_) (fun _ => ?_)
      · exact State.outcome_frame (hm.of rfl) g5
      · exact g5
    · refine State.opEnd_frame (hm.of rfl) ?_ ?_
      · exact g5
      · exact g5

end Sys2Proof.Machine
end

