-- ==== Sys2Proof/Laws/FrameLink.lean ====
section
/-!
SUPPORT. The frames of the link controller's slots and frames, and the accesses of Machine/Bus; the harts and the debug module. `Sub k m` says that the parts in `k` may change; `Allows` says it of a field given by the caller.
-/

namespace Sys2Proof.Machine

/-! ### Machine/LinkRun -/

theorem State.endOp_frame {m : Nat} {s0 : State} {x0 : State} (hm : Sub 0x300000 m) (h0 : Frame m s0 x0) : Frame m s0 (State.endOp x0) := by
  unfold State.endOp
  exact State.phyIdle_frame (hm.of rfl) (State.modLink_frame (hm.of rfl) h0)

theorem State.modJob_frame {m : Nat} {s0 : State} {x0 : State} {x1 : Nat} {x2 : LinkJob → LinkJob} (hm : Sub 0x200000 m) (h0 : Frame m s0 x0) :
    Frame m s0 (State.modJob x0 x1 x2) := by
  unfold State.modJob
  exact State.modLink_frame (hm.of rfl) h0

theorem State.jobFlags_frame {m : Nat} {s0 : State} {x0 : State} {x1 x2 : Nat} (hm : Sub 0x200000 m) (h0 : Frame m s0 x0) :
    Frame m s0 (State.jobFlags x0 x1 x2) := by
  unfold State.jobFlags
  exact State.modJob_frame (hm.of rfl) h0

theorem State.maskedOp_frame {m : Nat} {s0 : State} {x0 : State} {x1 : Prep} (hm : Sub 0x40000000300000 m) (h0 : Frame m s0 x0) :
    Frame m s0 (State.maskedOp x0 x1) := by
  unfold State.maskedOp
  extract_lets +onlyGivenNames -underBinder -merge y0
  have g0 : Frame m s0 y0 := by
    exact State.put_frame (hm.of rfl) (Allows.page (p := 22) rfl (hm.of rfl)) (State.endOp_frame (hm.of rfl) h0)
  try clear_value y0
  split
  · exact State.jobFlags_frame (hm.of rfl) g0
  · exact g0

theorem State.linkForget_frame {m : Nat} {s0 : State} {x0 : State} {x1 : Nat} (hm : Sub 0x200000 m) (h0 : Frame m s0 x0) :
    Frame m s0 (State.linkForget x0 x1) := by
  unfold State.linkForget
  exact State.modLink_frame (hm.of rfl) h0

theorem State.linkComplete_frame {m : Nat} {s0 : State} {x0 : State} {x1 x2 : Nat} (hm : Sub 0x43c000203a00 m) (h0 : Frame m s0 x0) :
    Frame m s0 (State.linkComplete x0 x1 x2) := by
  unfold State.linkComplete
  extract_lets +onlyGivenNames -underBinder -merge y0
  have g0 : Frame m s0 y0 := by
    exact State.linkForget_frame (hm.of rfl) h0
  try clear_value y0
  refine Frame.ite (fun _ => ?_) (fun _ => ?_)
  · exact State.completeMissed_frame (hm.of rfl) g0
  · exact State.complete_frame (hm.of rfl) g0

theorem State.linkOut_frame {m : Nat} {s0 : State} {x0 : State} {x1 x2 : Nat} {x3 : List Nat} {x4 : Disturb} {x5 : Nat}
    (hm : Sub 0xffffffffffffffff00f7bffa m) (h0 : Frame m s0 x0) : Frame m s0 (State.linkOut x0 x1 x2 x3 x4 x5).1 := by
  unfold State.linkOut
  exact State.writeBytes_frame (hm.of rfl) h0

theorem State.txComplete_frame {m : Nat} {s0 : State} {x0 : State} {x1 x2 : Nat} {x3 : Disturb} {x4 : Nat}
    (hm : Sub 0xffffffffffffffff00f7bffa m) (h0 : Frame m s0 x0) : Frame m s0 (State.txComplete x0 x1 x2 x3 x4) := by
  unfold State.txComplete
  refine Frame.ite (fun _ => ?_) (fun _ => ?_)
  · exact State.linkComplete_frame (hm.of rfl) (State.descRead_frame (hm.of rfl) h0)
  · refine Frame.ite (fun _ => ?_) (fun _ => ?_)
    · extract_lets +onlyGivenNames -underBinder -merge y0
      have g0 : Frame m s0 y0.1 := by
        exact State.linkOut_frame (hm.of rfl) h0
      try clear_value y0
      split
      · exact State.linkComplete_frame (hm.of rfl) g0
      · refine Frame.ite (fun _ => ?_) (fun _ => ?_)
        · exact State.linkComplete_frame (hm.of rfl) g0
        · exact State.linkComplete_frame (hm.of rfl) g0
    · exact State.linkComplete_frame (hm.of rfl) h0

theorem State.withhold_frame {m : Nat} {s0 : State} {x0 : State} {x1 : Disturb} (hm : Sub 0xffffffffffffffff00f7bffa m) (h0 : Frame m s0 x0) :
    Frame m s0 (State.withhold x0 x1) := by
  unfold State.withhold
  extract_lets +onlyGivenNames -underBinder -merge y0
  try clear_value y0
  extract_lets +onlyGivenNames -underBinder -merge y1
  have g1 : Frame m s0 y1 := by
    exact State.raise_frame (hm.of rfl) (Allows.page (p := 22) rfl (hm.of rfl)) (State.endOp_frame (hm.of rfl) h0)
  try clear_value y1
  split
  · exact State.txComplete_frame (hm.of rfl) g1
  · exact g1

theorem State.beginOp_frame {m : Nat} {s0 : State} {x0 : State} {x1 : Prep} {x2 : Disturb}
    (hm : Sub 0xffffffffffffffff00f7bffa m) (h0 : Frame m s0 x0) : Frame m s0 (State.beginOp x0 x1 x2) := by
  unfold State.beginOp
  split
  · exact h0
  · refine Frame.ite (fun _ => ?_) (fun _ => ?_)
    · exact State.maskedOp_frame (hm.of rfl) h0
    · extract_lets +onlyGivenNames -underBinder -merge y0
      have g0 : Frame m s0 y0 := by
        exact State.phySet_frame (hm.of rfl) h0
      try clear_value y0
      exact State.modLink_frame (hm.of rfl) g0
  · refine Frame.ite (fun _ => ?_) (fun _ => ?_)
    · exact State.maskedOp_frame (hm.of rfl) h0
    · refine Frame.ite (fun _ => ?_) (fun _ => ?_)
      · exact State.withhold_frame (hm.of rfl) h0
      · exact State.phySet_frame (hm.of rfl) h0

theorem State.linkIn_frame {m : Nat} {s0 : State} {x0 : State} {x1 x2 x3 : Nat} {x4 : Disturb} {x5 : Nat}
    (hm : Sub 0x5174f43dc0047bb1a m) (h0 : Frame m s0 x0) : Frame m s0 (State.linkIn x0 x1 x2 x3 x4 x5).1 := by
  unfold State.linkIn
  exact State.readBytes_frame (hm.of rfl) h0

theorem State.blockFails_frame {m : Nat} {s0 : State} {x0 : State} {x1 : Nat} {x2 : Disturb} (hm : Sub 0x5174f43dc0047bb1a m) (h0 : Frame m s0 x0) :
    OptIn1 m s0 (State.blockFails x0 x1 x2) := by
  unfold State.blockFails
  refine ite_in (p := OptIn1 m s0) (fun _ => ?_) (fun _ => ?_)
  · extract_lets +onlyGivenNames -underBinder -merge y0
    have g0 : Frame m s0 y0.1 := by
      exact State.linkIn_frame (hm.of rfl) h0
    try clear_value y0
    split
    · refine ite_in (p := OptIn1 m s0) (fun _ => ?_) (fun _ => ?_)
      · trivial
      · change Frame m s0 (Prod.fst _)
        exact Frame.fst g0
    · trivial
  · trivial

theorem State.bufPut_frame {m : Nat} {s0 : State} {x0 : State} {x1 : BufRef} {x2 : List Nat} (hm : Sub 0x1000 m) (h0 : Frame m s0 x0) :
    Frame m s0 (State.bufPut x0 x1 x2).1 := by
  unfold State.bufPut
  exact Frame.fst (State.setWords_frame (hm.of rfl) h0)

theorem State.bufRecord_frame {m : Nat} {s0 : State} {x0 : State} {x1 : BufRef} {x2 : Nat} (hm : Sub 0x3c000001200 m) (h0 : Frame m s0 x0) :
    Frame m s0 (State.bufRecord x0 x1 x2) := by
  unfold State.bufRecord
  exact State.eccRecord_frame (hm.of rfl) (State.setEcc_frame (hm.of rfl) h0)

theorem State.bufTake_frame {m : Nat} {s0 : State} {x0 : State} {x1 : Nat} (hm : Sub 0x2 m) (h0 : Frame m s0 x0) :
    OptIn1 m s0 (State.bufTake x0 x1) := by
  unfold State.bufTake
  split
  · trivial
  · change Frame m s0 (Prod.fst _)
    exact Frame.fst (Frame.fresh (hm.of rfl) h0)

theorem State.setSounding_frame {m : Nat} {s0 : State} {x0 : State} {x1 : Nat} {x2 : Sounding} (hm : Sub 0x200000 m) (h0 : Frame m s0 x0) :
    Frame m s0 (State.setSounding x0 x1 x2) := by
  unfold State.setSounding
  exact State.modLink_frame (hm.of rfl) h0

theorem State.countPasses_frame {m : Nat} {s0 : State} {x0 : State} {x1 x2 : Nat} (hm : Sub 0x200000 m) (h0 : Frame m s0 x0) :
    Frame m s0 (State.countPasses x0 x1 x2) := by
  unfold State.countPasses
  extract_lets +onlyGivenNames -underBinder -merge y0
  have g0 : Frame m s0 y0 := by
    refine Frame.foldl ?_ ?_
    · intro y1 y2 g1
      exact State.modJob_frame (hm.of rfl) g1
    · exact h0
  try clear_value y0
  split
  · refine State.when_frame (hm.of rfl) ?_ ?_
    · intro y3 g3
      exact State.setSounding_frame (hm.of rfl) g3
    · exact g0
  · exact g0

theorem State.displace_frame {m : Nat} {s0 : State} {x0 : State} {x1 : Nat} {x2 : LinkOp} {x3 : Disturb}
    (hm : Sub 0xffffffffffffffff00f7bffa m) (h0 : Frame m s0 x0) : Frame m s0 (State.displace x0 x1 x2 x3) := by
  unfold State.displace
  refine Frame.foldl ?_ ?_
  · intro y0 y1 g0
    exact State.txComplete_frame (hm.of rfl) g0
  · exact State.raise_frame (hm.of rfl) (Allows.page (p := 21) rfl (hm.of rfl)) h0

theorem State.dropNext_frame {m : Nat} {s0 : State} {x0 : State} (hm : Sub 0x200000 m) (h0 : Frame m s0 x0) : Frame m s0 (State.dropNext x0) := by
  unfold State.dropNext
  exact State.modLink_frame (hm.of rfl) h0

theorem State.holdFrame_frame {m : Nat} {s0 : State} {x0 : State} {x1 : Nat} {x2 : Option BufRef} {x3 : AirFrame}
    (hm : Sub 0x1002 m) (h0 : Frame m s0 x0) : OptIn1 m s0 (State.holdFrame x0 x1 x2 x3) := by
  unfold State.holdFrame
  split
  · change Frame m s0 (Prod.fst _)
    exact Frame.fst h0
  · split
    · have g0 := of_eq_rev (p := OptIn1 m s0) ‹_ = some _› (by
        exact State.bufTake_frame (hm.of rfl) h0)
      change Frame m s0 (Prod.fst _)
      exact State.bufPut_frame (hm.of rfl) g0
    · trivial

theorem State.judgeHead_frame {m : Nat} {s0 : State} {x0 : Nat} {x1 : Disturb} {x2 : State} {x3 : Nat}
    (hm : Sub 0xffffffffffffffff00f7bffa m) (h2 : Frame m s0 x2) : Frame m s0 (State.judgeHead x0 x1 x2 x3) := by
  unfold State.judgeHead
  split
  · exact h2
  · refine Frame.ite (fun _ => ?_) (fun _ => ?_)
    · exact State.linkComplete_frame (hm.of rfl) (State.descRead_frame (hm.of rfl) h2)
    · refine Frame.ite (fun _ => ?_) (fun _ => ?_)
      · exact State.linkComplete_frame (hm.of rfl) h2
      · refine Frame.ite (fun _ => ?_) (fun _ => ?_)
        · exact State.txComplete_frame (hm.of rfl) (State.fault_frame (hm.of rfl) h2)
        · refine Frame.ite (fun _ => ?_) (fun _ => ?_)
          · exact State.linkComplete_frame (hm.of rfl) h2
          · split
            · have g0 := of_eq_rev (p := OptIn1 m s0) ‹_ = some _› (by
                exact State.blockFails_frame (hm.of rfl) h2)
              exact State.txComplete_frame (hm.of rfl) g0
            · exact h2

theorem State.judgeHeads_frame {m : Nat} {s0 : State} {x0 : State} {x1 : Disturb} (hm : Sub 0xffffffffffffffff00f7bffa m) (h0 : Frame m s0 x0) :
    Frame m s0 (State.judgeHeads x0 x1) := by
  unfold State.judgeHeads
  refine Frame.foldl ?_ ?_
  · intro y0 y1 g0
    refine Frame.foldl ?_ ?_
    · intro y2 y3 g2
      exact State.judgeHead_frame (hm.of rfl) (State.judgeHead_frame (hm.of rfl) g2)
    · exact g0
  · exact h0

theorem State.linkActivate_frame {m : Nat} {s0 : State} {x0 : State} {x1 : Nat} (hm : Sub 0x2000 m) (h0 : Frame m s0 x0) :
    Frame m s0 (State.linkActivate x0 x1) := by
  unfold State.linkActivate
  split
  · exact h0
  · refine Frame.ite (fun _ => ?_) (fun _ => ?_)
    · exact h0
    · extract_lets +onlyGivenNames -underBinder -merge y0
      have g0 : Frame m s0 y0 := by
        exact State.markDisplaced_frame (hm.of rfl) (State.setSlot_frame (hm.of rfl) h0)
      try clear_value y0
      refine Frame.ite (fun _ => ?_) (fun _ => ?_)
      · exact Frame.q (hm.of rfl) g0
      · exact g0

theorem State.linkDeadline_frame {m : Nat} {s0 : State} {x0 : State} {x1 : Nat} {x2 : Disturb}
    (hm : Sub 0xffffffffffffffff00f7bffa m) (h0 : Frame m s0 x0) : Frame m s0 (State.linkDeadline x0 x1 x2) := by
  unfold State.linkDeadline
  extract_lets +onlyGivenNames -underBinder -merge y0
  try clear_value y0
  refine Frame.ite (fun _ => ?_) (fun _ => ?_)
  · extract_lets +onlyGivenNames -underBinder -merge y1
    have g1 : Frame m s0 y1 := by
      refine State.when_frame (hm.of rfl) ?_ ?_
      · intro y2 g2
        exact State.endOp_frame (hm.of rfl) g2
      · exact h0
    try clear_value y1
    exact State.txComplete_frame (hm.of rfl) g1
  · exact h0

theorem State.makeFails_frame {m : Nat} {s0 : State} {x0 : State} {x1 : Nat} {x2 : Bool} {x3 : Disturb}
    (hm : Sub 0x3c000001200 m) (h0 : Frame m s0 x0) : OptIn m s0 (State.makeFails x0 x1 x2 x3) := by
  unfold State.makeFails
  refine ite_in (p := OptIn m s0) (fun _ => ?_) (fun _ => ?_)
  · trivial
  · refine OptIn.map ?_
    intro y0
    exact State.eccRecord_frame (hm.of rfl) (State.setEcc_frame (hm.of rfl) h0)

theorem State.makeFrame_frame {m : Nat} {s0 : State} {x0 : State} {x1 x2 : Nat} {x3 x4 x5 x6 : Bool} {x7 : List Nat} {x8 : Option Nat} {x9 : Option BufRef} {x10 : Disturb}
    (hm : Sub 0xc003c000001200 m) (h0 : Frame m s0 x0) : Frame m s0 (State.makeFrame x0 x1 x2 x3 x4 x5 x6 x7 x8 x9 x10).2 := by
  unfold State.makeFrame
  extract_lets +onlyGivenNames -underBinder -merge y0
  try clear_value y0
  extract_lets +onlyGivenNames -underBinder -merge y1
  try clear_value y1
  extract_lets +onlyGivenNames -underBinder -merge y2
  try clear_value y2
  extract_lets +onlyGivenNames -underBinder -merge y3
  try clear_value y3
  extract_lets +onlyGivenNames -underBinder -merge y4
  try clear_value y4
  extract_lets +onlyGivenNames -underBinder -merge y5
  try clear_value y5
  extract_lets +onlyGivenNames -underBinder -merge y6
  try clear_value y6
  extract_lets +onlyGivenNames -underBinder -merge y7
  try clear_value y7
  split
  · have g8 := of_eq_rev (p := OptIn m s0) ‹_ = some _› (by
      exact State.makeFails_frame (hm.of rfl) h0)
    exact Frame.snd g8
  · refine Frame.ite2 (fun _ => ?_) (fun _ => ?_)
    · exact Frame.snd h0
    · extract_lets +onlyGivenNames -underBinder -merge y9
      try clear_value y9
      split
      · exact Frame.snd h0
      · refine Frame.ite2 (fun _ => ?_) (fun _ => ?_)
        · exact Frame.snd h0
        · split
          · exact Frame.snd h0
          · extract_lets +onlyGivenNames -underBinder -merge y10
            have g10 : Frame m s0 y10.2 := by
              exact State.takeSeq_frame (hm.of rfl) h0
            try clear_value y10
            exact Frame.snd g10

theorem State.nextFrame_frame {m : Nat} {s0 : State} {x0 : State} {x1 : List Nat} (hm : Sub 0x201002 m) (h0 : Frame m s0 x0) :
    Frame m s0 (State.nextFrame x0 x1) := by
  unfold State.nextFrame
  split
  · exact h0
  · have g0 := of_eq_rev (p := OptIn1 m s0) ‹_ = some (_, _)› (by
      exact State.bufTake_frame (hm.of rfl) h0)
    extract_lets +onlyGivenNames -underBinder -merge y1
    have g1 : Frame m s0 y1.1 := by
      exact State.bufPut_frame (hm.of rfl) g0
    try clear_value y1
    exact State.modLink_frame (hm.of rfl) g1

theorem State.ownFrame_frame {m : Nat} {s0 : State} {x0 : State} {x1 : List Nat} (hm : Sub 0x201002 m) (h0 : Frame m s0 x0) :
    Frame m s0 (State.ownFrame x0 x1) := by
  unfold State.ownFrame
  split
  · exact h0
  · have g0 := of_eq_rev (p := OptIn1 m s0) ‹_ = some (_, _)› (by
      exact State.bufTake_frame (hm.of rfl) (State.modLink_frame (hm.of rfl) h0))
    extract_lets +onlyGivenNames -underBinder -merge y1
    have g1 : Frame m s0 y1.1 := by
      exact State.bufPut_frame (hm.of rfl) g0
    try clear_value y1
    exact State.modLink_frame (hm.of rfl) g1

theorem State.setNextFrame_frame {m : Nat} {s0 : State} {x0 : State} {x1 : AirFrame} (hm : Sub 0x200000 m) (h0 : Frame m s0 x0) :
    Frame m s0 (State.setNextFrame x0 x1) := by
  unfold State.setNextFrame
  exact State.modLink_frame (hm.of rfl) h0

theorem State.prepareResponse_frame {m : Nat} {s0 : State} {x0 : State} {x1 : Prep} {x2 : Nat} {x3 : Disturb}
    (hm : Sub 0xc043c000203a02 m) (h0 : Frame m s0 x0) : Frame m s0 (State.prepareResponse x0 x1 x2 x3) := by
  unfold State.prepareResponse
  extract_lets +onlyGivenNames -underBinder -merge y0
  try clear_value y0
  extract_lets +onlyGivenNames -underBinder -merge y1
  try clear_value y1
  extract_lets +onlyGivenNames -underBinder -merge y2
  have g2 : Frame m s0 y2.2 := by
    exact State.makeFrame_frame (hm.of rfl) h0
  try clear_value y2
  refine Frame.ite (fun _ => ?_) (fun _ => ?_)
  · exact State.dropNext_frame (hm.of rfl) h0
  · refine Frame.ite (fun _ => ?_) (fun _ => ?_)
    · exact State.linkComplete_frame (hm.of rfl) (State.dropNext_frame (hm.of rfl) (State.nbrRecord_frame (hm.of rfl) h0))
    · split
      · exact State.linkComplete_frame (hm.of rfl) (State.dropNext_frame (hm.of rfl) g2)
      · split
        · have g3 := of_eq_rev (p := OptIn1 m s0) ‹_ = some _› (by
            exact State.holdFrame_frame (hm.of rfl) g2)
          exact State.setNextFrame_frame (hm.of rfl) (State.setSounding_frame (hm.of rfl) g3)
        · exact State.dropNext_frame (hm.of rfl) h0

theorem State.selectOp_frame {m : Nat} {s0 : State} {x0 : State} {x1 x2 : Nat} {x3 : LinkOp} {x4 : Disturb}
    (hm : Sub 0xc043c000203a02 m) (h0 : Frame m s0 x0) : Frame m s0 (State.selectOp x0 x1 x2 x3 x4) := by
  unfold State.selectOp
  extract_lets +onlyGivenNames -underBinder -merge y0
  try clear_value y0
  extract_lets +onlyGivenNames -underBinder -merge y1
  try clear_value y1
  extract_lets +onlyGivenNames -underBinder -merge y2
  try clear_value y2
  refine Frame.ite (fun _ => ?_) (fun _ => ?_)
  · split
    · exact State.jobFlags_frame (hm.of rfl) (State.linkActivate_frame (hm.of rfl) h0)
    · exact h0
  · extract_lets +onlyGivenNames -underBinder -merge y3
    have g3 : Frame m s0 y3 := by
      exact State.modLink_frame (hm.of rfl) h0
    try clear_value y3
    split
    · exact State.setNextFrame_frame (hm.of rfl) (State.nextFrame_frame (hm.of rfl) g3)
    · exact State.prepareResponse_frame (hm.of rfl) g3
    · exact State.modJob_frame (hm.of rfl) (State.linkActivate_frame (hm.of rfl) g3)
    · exact g3

theorem State.prepareSlot_frame {m : Nat} {s0 : State} {x0 : State} {x1 : Nat} {x2 : Disturb}
    (hm : Sub 0xffffffffffffffff00f7bffa m) (h0 : Frame m s0 x0) : Frame m s0 (State.prepareSlot x0 x1 x2) := by
  unfold State.prepareSlot
  extract_lets +onlyGivenNames -underBinder -merge y0
  have g0 : Frame m s0 y0 := by
    exact State.modLink_frame (hm.of rfl) h0
  try clear_value y0
  extract_lets +onlyGivenNames -underBinder -merge y1
  have g1 : Frame m s0 y1 := by
    exact State.judgeHeads_frame (hm.of rfl) g0
  try clear_value y1
  extract_lets +onlyGivenNames -underBinder -merge y2
  have g2 : Frame m s0 y2 := by
    refine State.when_frame (hm.of rfl) ?_ ?_
    · intro y3 g3
      exact State.setEcc_frame (hm.of rfl) g3
    · exact g1
  try clear_value y2
  extract_lets +onlyGivenNames -underBinder -merge y4
  have g4 : Frame m s0 y4.1 := by
    exact State.slotEntry_frame (hm.of rfl) g2
  try clear_value y4
  extract_lets +onlyGivenNames -underBinder -merge y5
  try clear_value y5
  extract_lets +onlyGivenNames -underBinder -merge y6
  try clear_value y6
  extract_lets +onlyGivenNames -underBinder -merge y7
  have g7 : Frame m s0 y7 := by
    refine State.when_frame (hm.of rfl) ?_ ?_
    · intro y8 g8
      exact State.put_frame (hm.of rfl) (Allows.page (p := 22) rfl (hm.of rfl)) g8
    · exact State.countPasses_frame (hm.of rfl) g4
  try clear_value y7
  split
  · refine Frame.ite (fun _ => ?_) (fun _ => ?_)
    · exact State.modLink_frame (hm.of rfl) g7
    · exact g7
  · refine Frame.ite (fun _ => ?_) (fun _ => ?_)
    · exact State.modLink_frame (hm.of rfl) (State.displace_frame (hm.of rfl) g7)
    · exact State.selectOp_frame (hm.of rfl) g7

theorem State.preparation_frame {m : Nat} {s0 : State} {x0 : State} {x1 : Disturb} (hm : Sub 0xffffffffffffffff00f7bffa m) (h0 : Frame m s0 x0) :
    Frame m s0 (State.preparation x0 x1) := by
  unfold State.preparation
  extract_lets +onlyGivenNames -underBinder -merge y0
  try clear_value y0
  extract_lets +onlyGivenNames -underBinder -merge y1
  try clear_value y1
  refine Frame.ite (fun _ => ?_) (fun _ => ?_)
  · exact State.prepareSlot_frame (hm.of rfl) h0
  · exact h0

theorem State.prepareFailed_frame {m : Nat} {s0 : State} {x0 x1 : State} {x2 : Nat} {x3 : Res} {x4 : Disturb}
    (hm : Sub 0xffffffffffffffff00f7bffa m) (h0 : Frame m s0 x0) (h1 : Frame m s0 x1) : Frame m s0 (State.prepareFailed x0 x1 x2 x3 x4) := by
  unfold State.prepareFailed
  refine Frame.ite (fun _ => ?_) (fun _ => ?_)
  · exact h0
  · exact State.txComplete_frame (hm.of rfl) (State.dropNext_frame (hm.of rfl) h1)

theorem State.prepareSound_frame {m : Nat} {s0 : State} {x0 : State} {x1 : Nat} (hm : Sub 0x43c000203a02 m) (h0 : Frame m s0 x0) :
    Frame m s0 (State.prepareSound x0 x1) := by
  unfold State.prepareSound
  extract_lets +onlyGivenNames -underBinder -merge y0
  try clear_value y0
  refine Frame.ite (fun _ => ?_) (fun _ => ?_)
  · exact State.dropNext_frame (hm.of rfl) h0
  · refine Frame.ite (fun _ => ?_) (fun _ => ?_)
    · exact State.linkComplete_frame (hm.of rfl) (State.dropNext_frame (hm.of rfl) (State.nbrRecord_frame (hm.of rfl) h0))
    · refine Frame.ite (fun _ => ?_) (fun _ => ?_)
      · exact State.linkComplete_frame (hm.of rfl) (State.dropNext_frame (hm.of rfl) h0)
      · exact State.setNextFrame_frame (hm.of rfl) (State.nextFrame_frame (hm.of rfl) h0)

theorem State.prepareTx_frame {m : Nat} {s0 : State} {x0 : State} {x1 : Prep} {x2 : Nat} {x3 : Disturb}
    (hm : Sub 0xffffffffffffffff00f7bffa m) (h0 : Frame m s0 x0) : Frame m s0 (State.prepareTx x0 x1 x2 x3) := by
  unfold State.prepareTx
  extract_lets +onlyGivenNames -underBinder -merge y0
  try clear_value y0
  extract_lets +onlyGivenNames -underBinder -merge y1
  try clear_value y1
  extract_lets +onlyGivenNames -underBinder -merge y2
  try clear_value y2
  extract_lets +onlyGivenNames -underBinder -merge y3
  have g3 : Frame m s0 y3.1 := by
    exact State.linkIn_frame (hm.of rfl) h0
  try clear_value y3
  split
  · refine State.prepareFailed_frame (hm.of rfl) ?_ ?_
    · exact h0
    · exact g3
  · extract_lets +onlyGivenNames -underBinder -merge y4
    try clear_value y4
    extract_lets +onlyGivenNames -underBinder -merge y5
    try clear_value y5
    extract_lets +onlyGivenNames -underBinder -merge y6
    have g6 : Frame m s0 y6 := by
      exact State.modJob_frame (hm.of rfl) g3
    try clear_value y6
    refine Frame.ite (fun _ => ?_) (fun _ => ?_)
    · exact State.dropNext_frame (hm.of rfl) g6
    · refine Frame.ite (fun _ => ?_) (fun _ => ?_)
      · exact State.txComplete_frame (hm.of rfl) (State.dropNext_frame (hm.of rfl) (State.nbrRecord_frame (hm.of rfl) g6))
      · refine Frame.ite (fun _ => ?_) (fun _ => ?_)
        · exact State.txComplete_frame (hm.of rfl) (State.dropNext_frame (hm.of rfl) g6)
        · extract_lets +onlyGivenNames -underBinder -merge y7
          try clear_value y7
          extract_lets +onlyGivenNames -underBinder -merge y8
          try clear_value y8
          extract_lets +onlyGivenNames -underBinder -merge y9
          try clear_value y9
          extract_lets +onlyGivenNames -underBinder -merge y10
          have g10 : Frame m s0 y10.1 := by
            exact State.linkIn_frame (hm.of rfl) g6
          try clear_value y10
          split
          · refine State.prepareFailed_frame (hm.of rfl) ?_ ?_
            · exact h0
            · exact g10
          · extract_lets +onlyGivenNames -underBinder -merge y11
            have g11 : Frame m s0 y11.2 := by
              exact State.makeFrame_frame (hm.of rfl) g10
            try clear_value y11
            split
            · exact State.txComplete_frame (hm.of rfl) (State.dropNext_frame (hm.of rfl) (State.jobFlags_frame (hm.of rfl) g11))
            · split
              · have g12 := of_eq_rev (p := OptIn1 m s0) ‹_ = some _› (by
                  exact State.holdFrame_frame (hm.of rfl) g11)
                exact State.setNextFrame_frame (hm.of rfl) (State.modJob_frame (hm.of rfl) g12)
              · exact State.dropNext_frame (hm.of rfl) g6

theorem State.serveRx_frame {m : Nat} {s0 : State} {x0 : State} {x1 : Bool} (hm : Sub 0x202000 m) (h0 : Frame m s0 x0) :
    Frame m s0 (State.serveRx x0 x1) := by
  unfold State.serveRx
  split
  · split
    · refine Frame.ite (fun _ => ?_) (fun _ => ?_)
      · split
        · exact State.setSounding_frame (hm.of rfl) (State.linkActivate_frame (hm.of rfl) h0)
        · exact h0
      · refine Frame.foldl ?_ ?_
        · intro y0 y1 g0
          exact State.linkActivate_frame (hm.of rfl) g0
        · exact h0
    · exact h0
  · exact h0

theorem State.serveTx_frame {m : Nat} {s0 : State} {x0 : State} {x1 : Bool} {x2 : Disturb}
    (hm : Sub 0xffffffffffffffff00f7bffa m) (h0 : Frame m s0 x0) : Frame m s0 (State.serveTx x0 x1 x2) := by
  unfold State.serveTx
  split
  · split
    · refine Frame.ite (fun _ => ?_) (fun _ => ?_)
      · exact h0
      · refine Frame.ite (fun _ => ?_) (fun _ => ?_)
        · exact State.linkComplete_frame (hm.of rfl) (State.dropNext_frame (hm.of rfl) (State.descRead_frame (hm.of rfl) h0))
        · refine Frame.ite (fun _ => ?_) (fun _ => ?_)
          · exact h0
          · refine Frame.ite (fun _ => ?_) (fun _ => ?_)
            · exact State.prepareSound_frame (hm.of rfl) (State.linkActivate_frame (hm.of rfl) h0)
            · exact State.prepareTx_frame (hm.of rfl) (State.linkActivate_frame (hm.of rfl) h0)
    · exact h0
  · exact h0

theorem State.slotOwners_frame {m : Nat} {s0 : State} {x0 : State} (hm : Sub 0x7437fd40076bb9a m) (h0 : Frame m s0 x0) :
    Frame m s0 (State.slotOwners x0) := by
  unfold State.slotOwners
  refine Frame.foldl ?_ ?_
  · intro y0 y1 g0
    exact State.ownerSwitch_frame (hm.of rfl) g0
  · exact h0

theorem State.slotBegins_frame {m : Nat} {s0 : State} {x0 : State} {x1 : Disturb} (hm : Sub 0xffffffffffffffff00f7bffa m) (h0 : Frame m s0 x0) :
    Frame m s0 (State.slotBegins x0 x1) := by
  unfold State.slotBegins
  extract_lets +onlyGivenNames -underBinder -merge y0
  try clear_value y0
  refine Frame.ite (fun _ => ?_) (fun _ => ?_)
  · extract_lets +onlyGivenNames -underBinder -merge y1
    have g1 : Frame m s0 y1 := by
      exact State.slotOwners_frame (hm.of rfl) h0
    try clear_value y1
    extract_lets +onlyGivenNames -underBinder -merge y2
    try clear_value y2
    extract_lets +onlyGivenNames -underBinder -merge y3
    try clear_value y3
    extract_lets +onlyGivenNames -underBinder -merge y4
    have g4 : Frame m s0 y4 := by
      exact State.modLink_frame (hm.of rfl) g1
    try clear_value y4
    extract_lets +onlyGivenNames -underBinder -merge y5
    have g5 : Frame m s0 y5 := by
      refine Frame.ite (fun _ => ?_) (fun _ => ?_)
      · exact g4
      · exact State.phyIdle_frame (hm.of rfl) g4
    try clear_value y5
    extract_lets +onlyGivenNames -underBinder -merge y6
    have g6 : Frame m s0 y6 := by
      refine State.when_frame (hm.of rfl) ?_ ?_
      · intro y7 g7
        exact State.raise_frame (hm.of rfl) (Allows.page (p := 22) rfl (hm.of rfl)) g7
      · exact State.fire_frame (hm.of rfl) g5
    try clear_value y6
    split
    · refine Frame.ite (fun _ => ?_) (fun _ => ?_)
      · exact g6
      · exact State.beginOp_frame (hm.of rfl) g6
    · exact g6
  · exact h0

theorem State.slotLate_frame {m : Nat} {s0 : State} {x0 : State} {x1 : Nat} {x2 : Disturb}
    (hm : Sub 0xffffffffffffffff00f7bffa m) (h0 : Frame m s0 x0) : Frame m s0 (State.slotLate x0 x1 x2) := by
  unfold State.slotLate
  split
  · extract_lets +onlyGivenNames -underBinder -merge y0
    try clear_value y0
    refine Frame.ite (fun _ => ?_) (fun _ => ?_)
    · refine State.txComplete_frame (hm.of rfl) ?_
      exact State.raise_frame (hm.of rfl) (Allows.page (p := 22) rfl (hm.of rfl)) (State.missRecord_frame (hm.of rfl) h0)
    · exact h0
  · exact h0

theorem State.slotTimer_frame {m : Nat} {s0 : State} {x0 : State} (hm : Sub 0x4003d400228a10 m) (h0 : Frame m s0 x0) :
    Frame m s0 (State.slotTimer x0) := by
  unfold State.slotTimer
  extract_lets +onlyGivenNames -underBinder -merge y0
  try clear_value y0
  extract_lets +onlyGivenNames -underBinder -merge y1
  try clear_value y1
  refine Frame.ite (fun _ => ?_) (fun _ => ?_)
  · extract_lets +onlyGivenNames -underBinder -merge y2
    have g2 : Frame m s0 y2 := by
      exact State.modLink_frame (hm.of rfl) h0
    try clear_value y2
    extract_lets +onlyGivenNames -underBinder -merge y3
    have g3 : Frame m s0 y3.1 := by
      exact State.slotEntry_frame (hm.of rfl) g2
    try clear_value y3
    refine State.when_frame (hm.of rfl) ?_ ?_
    · intro y4 g4
      exact State.wake_frame (hm.of rfl) (State.raise_frame (hm.of rfl) (Allows.page (p := 22) rfl (hm.of rfl)) g4)
    · exact g3
  · exact h0

theorem State.txDone_frame {m : Nat} {s0 : State} {x0 : State} {x1 x2 : Nat} {x3 : Disturb} {x4 : Nat}
    (hm : Sub 0xffffffffffffffff00f7bffa m) (h0 : Frame m s0 x0) : Frame m s0 (State.txDone x0 x1 x2 x3 x4) := by
  unfold State.txDone
  exact State.txComplete_frame (hm.of rfl) h0

/-! ### Machine/LinkAir -/

theorem State.ackSeen_frame {m : Nat} {s0 : State} {x0 : State} {x1 : RxFrame} (hm : Sub 0x3c000001200 m) (h0 : Frame m s0 x0) :
    Frame m s0 (State.ackSeen x0 x1) := by
  unfold State.ackSeen
  split
  · refine State.when_frame (hm.of rfl) ?_ ?_
    · intro y0 g0
      exact State.nbrRssi_frame (hm.of rfl) g0
    · exact h0
  · exact h0

theorem State.soundingDone_frame {m : Nat} {s0 : State} {x0 : State} {x1 : Nat} (hm : Sub 0x4043c000203a00 m) (h0 : Frame m s0 x0) :
    Frame m s0 (State.soundingDone x0 x1) := by
  unfold State.soundingDone
  exact State.raise_frame (hm.of rfl) (Allows.page (p := 22) rfl (hm.of rfl)) (State.linkComplete_frame (hm.of rfl) h0)

theorem State.ackReceived_frame {m : Nat} {s0 : State} {x0 : State} {x1 : Disturb} (hm : Sub 0xffffffffffffffff00f7bffa m) (h0 : Frame m s0 x0) :
    Frame m s0 (State.ackReceived x0 x1) := by
  unfold State.ackReceived
  split
  · refine Frame.ite (fun _ => ?_) (fun _ => ?_)
    · exact h0
    · refine Frame.ite (fun _ => ?_) (fun _ => ?_)
      · exact State.phyDrop_frame (hm.of rfl) (State.modLink_frame (hm.of rfl) (State.ackSeen_frame (hm.of rfl) h0))
      · extract_lets +onlyGivenNames -underBinder -merge y0
        have g0 : Frame m s0 y0 := by
          exact State.ackSeen_frame (hm.of rfl) (State.endOp_frame (hm.of rfl) h0)
        try clear_value y0
        split
        · exact State.txDone_frame (hm.of rfl) (State.jobFlags_frame (hm.of rfl) g0)
        · exact State.soundingDone_frame (hm.of rfl) g0
        · exact g0
  · exact h0

theorem State.ackSend_frame {m : Nat} {s0 : State} {x0 : State} (hm : Sub 0x6003c000301202 m) (h0 : Frame m s0 x0) :
    Frame m s0 (State.ackSend x0) := by
  unfold State.ackSend
  split
  · exact h0
  · refine Frame.ite (fun _ => ?_) (fun _ => ?_)
    · exact h0
    · refine Frame.ite (fun _ => ?_) (fun _ => ?_)
      · exact State.endOp_frame (hm.of rfl) (State.raise_frame (hm.of rfl) (Allows.page (p := 22) rfl (hm.of rfl)) h0)
      · extract_lets +onlyGivenNames -underBinder -merge y0
        have g0 : Frame m s0 y0 := by
          exact State.modLink_frame (hm.of rfl) (State.phySet_frame (hm.of rfl) (State.ownFrame_frame (hm.of rfl) h0))
        try clear_value y0
        exact State.phyStart_frame (hm.of rfl) g0

theorem State.attemptFailed_frame {m : Nat} {s0 : State} {x0 : State} {x1 : Nat} {x2 : Disturb}
    (hm : Sub 0xffffffffffffffff00f7bffa m) (h0 : Frame m s0 x0) : Frame m s0 (State.attemptFailed x0 x1 x2) := by
  unfold State.attemptFailed
  extract_lets +onlyGivenNames -underBinder -merge y0
  try clear_value y0
  extract_lets +onlyGivenNames -underBinder -merge y1
  try clear_value y1
  refine Frame.ite (fun _ => ?_) (fun _ => ?_)
  · extract_lets +onlyGivenNames -underBinder -merge y2
    have g2 : Frame m s0 y2.2 := by
      exact State.free_frame (hm.of rfl) h0
    try clear_value y2
    exact State.modJob_frame (hm.of rfl) g2
  · extract_lets +onlyGivenNames -underBinder -merge y3
    try clear_value y3
    extract_lets +onlyGivenNames -underBinder -merge y4
    have g4 : Frame m s0 y4 := by
      refine State.when_frame (hm.of rfl) ?_ ?_
      · intro y5 g5
        exact State.nbrFlag_frame (hm.of rfl) g5
      · exact h0
    try clear_value y4
    exact State.txDone_frame (hm.of rfl) g4

theorem State.responseFailed_frame {m : Nat} {s0 : State} {x0 : State} {x1 : Nat} (hm : Sub 0x4043c000203a02 m) (h0 : Frame m s0 x0) :
    Frame m s0 (State.responseFailed x0 x1) := by
  unfold State.responseFailed
  extract_lets +onlyGivenNames -underBinder -merge y0
  try clear_value y0
  refine Frame.ite (fun _ => ?_) (fun _ => ?_)
  · extract_lets +onlyGivenNames -underBinder -merge y1
    have g1 : Frame m s0 y1.2 := by
      exact State.free_frame (hm.of rfl) h0
    try clear_value y1
    exact State.setSounding_frame (hm.of rfl) g1
  · exact State.soundingDone_frame (hm.of rfl) (State.nbrFlag_frame (hm.of rfl) h0)

theorem State.opFailed_frame {m : Nat} {s0 : State} {x0 : State} {x1 : LinkOp} {x2 : Disturb}
    (hm : Sub 0xffffffffffffffff00f7bffa m) (h0 : Frame m s0 x0) : Frame m s0 (State.opFailed x0 x1 x2) := by
  unfold State.opFailed
  split
  · refine Frame.ite (fun _ => ?_) (fun _ => ?_)
    · exact h0
    · exact State.attemptFailed_frame (hm.of rfl) h0
  · exact State.responseFailed_frame (hm.of rfl) h0
  · exact h0

theorem State.ackTimeout_frame {m : Nat} {s0 : State} {x0 : State} {x1 : Disturb} (hm : Sub 0xffffffffffffffff00f7bffa m) (h0 : Frame m s0 x0) :
    Frame m s0 (State.ackTimeout x0 x1) := by
  unfold State.ackTimeout
  split
  · refine Frame.ite (fun _ => ?_) (fun _ => ?_)
    · exact State.opFailed_frame (hm.of rfl) (State.endOp_frame (hm.of rfl) h0)
    · exact h0
  · exact h0

theorem State.adopt_frame {m : Nat} {s0 : State} {x0 : State} {x1 : List Nat} (hm : Sub 0x40000000300000 m) (h0 : Frame m s0 x0) :
    Frame m s0 (State.adopt x0 x1) := by
  unfold State.adopt
  extract_lets +onlyGivenNames -underBinder -merge y0
  have g0 : Frame m s0 y0 := by
    exact h0
  try clear_value y0
  extract_lets +onlyGivenNames -underBinder -merge y1
  have g1 : Frame m s0 y1 := by
    refine State.putLegal_frame (hm.of rfl) (Allows.page (p := 22) rfl (hm.of rfl)) ?_
    refine State.putLegal_frame (hm.of rfl) (Allows.page (p := 22) rfl (hm.of rfl)) ?_
    exact State.putLegal_frame (hm.of rfl) (Allows.page (p := 22) rfl (hm.of rfl)) h0
  try clear_value y1
  extract_lets +onlyGivenNames -underBinder -merge y2
  have g2 : Frame m s0 y2 := by
    refine Frame.foldl ?_ ?_
    · intro y3 y4 g3
      exact State.putLegal_frame (hm.of rfl) (Allows.page (p := 22) rfl (hm.of rfl)) g3
    · exact g1
  try clear_value y2
  extract_lets +onlyGivenNames -underBinder -merge y5
  try clear_value y5
  extract_lets +onlyGivenNames -underBinder -merge y6
  try clear_value y6
  extract_lets +onlyGivenNames -underBinder -merge y7
  have g7 : Frame m s0 y7 := by
    refine State.put_frame (hm.of rfl) (Allows.page (p := 22) rfl (hm.of rfl)) ?_
    exact State.put_frame (hm.of rfl) (Allows.page (p := 22) rfl (hm.of rfl)) (State.put_frame (hm.of rfl) (Allows.page (p := 22) rfl (hm.of rfl)) g2)
  try clear_value y7
  refine State.linkFollow_frame (hm.of rfl) ?_
  exact State.put_frame (hm.of rfl) (Allows.page (p := 22) rfl (hm.of rfl)) (State.put_frame (hm.of rfl) (Allows.page (p := 22) rfl (hm.of rfl)) g7)

theorem State.afterFrame_frame {m : Nat} {s0 : State} {x0 : State} (hm : Sub 0x300000 m) (h0 : Frame m s0 x0) : Frame m s0 (State.afterFrame x0) := by
  unfold State.afterFrame
  refine Frame.ite (fun _ => ?_) (fun _ => ?_)
  · exact State.phyDrop_frame (hm.of rfl) (State.modLink_frame (hm.of rfl) h0)
  · exact State.endOp_frame (hm.of rfl) h0

theorem State.awaitAck_frame {m : Nat} {s0 : State} {x0 : State} (hm : Sub 0x300000 m) (h0 : Frame m s0 x0) : Frame m s0 (State.awaitAck x0) := by
  unfold State.awaitAck
  exact State.modPhy_frame (hm.of rfl) (State.modLink_frame (hm.of rfl) h0)

theorem State.beaconMissed_frame {m : Nat} {s0 : State} {x0 : State} (hm : Sub 0x40000000200000 m) (h0 : Frame m s0 x0) :
    Frame m s0 (State.beaconMissed x0) := by
  unfold State.beaconMissed
  refine Frame.ite (fun _ => ?_) (fun _ => ?_)
  · exact State.raise_frame (hm.of rfl) (Allows.page (p := 22) rfl (hm.of rfl)) (State.modLink_frame (hm.of rfl) h0)
  · exact h0

theorem State.frameHandled_frame {m : Nat} {s0 : State} {x0 : State} (hm : Sub 0x300000 m) (h0 : Frame m s0 x0) :
    Frame m s0 (State.frameHandled x0) := by
  unfold State.frameHandled
  extract_lets +onlyGivenNames -underBinder -merge y0
  have g0 : Frame m s0 y0 := by
    exact State.modLink_frame (hm.of rfl) h0
  try clear_value y0
  refine Frame.ite (fun _ => ?_) (fun _ => ?_)
  · exact g0
  · exact State.afterFrame_frame (hm.of rfl) g0

theorem State.rxSpoilt_frame {m : Nat} {s0 : State} {x0 : State} {x1 : Nat} {x2 : Disturb} (hm : Sub 0x43c000303a00 m) (h0 : Frame m s0 x0) :
    OptIn m s0 (State.rxSpoilt x0 x1 x2) := by
  unfold State.rxSpoilt
  refine ite_in (p := OptIn m s0) (fun _ => ?_) (fun _ => ?_)
  · change Frame m s0 _
    exact State.frameHandled_frame (hm.of rfl) (State.linkComplete_frame (hm.of rfl) (State.descRead_frame (hm.of rfl) h0))
  · split
    · refine OptIn.map ?_
      intro y0
      exact State.frameHandled_frame (hm.of rfl) (State.linkComplete_frame (hm.of rfl) (State.bufRecord_frame (hm.of rfl) h0))
    · trivial

theorem State.senderSeen_frame {m : Nat} {s0 : State} {x0 : State} {x1 x2 : Option Nat} {x3 : Nat} (hm : Sub 0x3c000001200 m) (h0 : Frame m s0 x0) :
    Frame m s0 (State.senderSeen x0 x1 x2 x3) := by
  unfold State.senderSeen
  split
  · exact h0
  · extract_lets +onlyGivenNames -underBinder -merge y0
    have g0 : Frame m s0 y0 := by
      unfold y0
      split
      · exact State.setNbr_frame (hm.of rfl) h0
      · exact h0
    try clear_value y0
    exact State.nbrRssi_frame (hm.of rfl) g0

theorem State.deliverFrame_frame {m : Nat} {s0 : State} {x0 : State} {x1 : RxFrame} {x2 : Nat} {x3 x4 : Option Nat} {x5 : List Nat} {x6 : Disturb}
    (hm : Sub 0xffffffffffffffff00f7bffa m) (h0 : Frame m s0 x0) : Frame m s0 (State.deliverFrame x0 x1 x2 x3 x4 x5 x6) := by
  unfold State.deliverFrame
  extract_lets +onlyGivenNames -underBinder -merge y0
  try clear_value y0
  extract_lets +onlyGivenNames -underBinder -merge y1
  try clear_value y1
  extract_lets +onlyGivenNames -underBinder -merge y2
  try clear_value y2
  extract_lets +onlyGivenNames -underBinder -merge y3
  try clear_value y3
  extract_lets +onlyGivenNames -underBinder -merge y4
  have g4 : Frame m s0 y4 := by
    exact State.senderSeen_frame (hm.of rfl) h0
  try clear_value y4
  extract_lets +onlyGivenNames -underBinder -merge y5
  try clear_value y5
  extract_lets +onlyGivenNames -underBinder -merge y6
  have g6 : Frame m s0 y6.1 := by
    exact State.linkOut_frame (hm.of rfl) g4
  try clear_value y6
  extract_lets +onlyGivenNames -underBinder -merge y7
  try clear_value y7
  extract_lets +onlyGivenNames -underBinder -merge y8
  have g8 : Frame m s0 y8 := by
    refine State.when_frame (hm.of rfl) ?_ ?_
    · intro y9 g9
      exact State.raise_frame (hm.of rfl) (Allows.page (p := 22) rfl (hm.of rfl)) g9
    · exact State.linkComplete_frame (hm.of rfl) g6
  try clear_value y8
  exact State.fire_frame (hm.of rfl) g8

theorem State.beaconTaken_frame {m : Nat} {s0 : State} {x0 : State} {x1 : RxFrame} {x2 : Nat} {x3 : Disturb}
    (hm : Sub 0xffffffffffffffff00f7bffa m) (h0 : Frame m s0 x0) : Frame m s0 (State.beaconTaken x0 x1 x2 x3) := by
  unfold State.beaconTaken
  extract_lets +onlyGivenNames -underBinder -merge y0
  try clear_value y0
  extract_lets +onlyGivenNames -underBinder -merge y1
  try clear_value y1
  extract_lets +onlyGivenNames -underBinder -merge y2
  have g2 : Frame m s0 y2 := by
    exact State.raise_frame (hm.of rfl) (Allows.page (p := 22) rfl (hm.of rfl)) h0
  try clear_value y2
  extract_lets +onlyGivenNames -underBinder -merge y3
  have g3 : Frame m s0 y3 := by
    refine State.when_frame (hm.of rfl) ?_ ?_
    · intro y4 g4
      exact State.put_frame (hm.of rfl) (Allows.page (p := 22) rfl (hm.of rfl)) g4
    · exact g2
  try clear_value y3
  extract_lets +onlyGivenNames -underBinder -merge y5
  have g5 : Frame m s0 y5 := by
    exact State.modLink_frame (hm.of rfl) g3
  try clear_value y5
  extract_lets +onlyGivenNames -underBinder -merge y6
  have g6 : Frame m s0 y6 := by
    exact State.deliverFrame_frame (hm.of rfl) g5
  try clear_value y6
  exact State.servoSample_frame (hm.of rfl) g6

theorem State.beaconReceived_frame {m : Nat} {s0 : State} {x0 : State} {x1 : Disturb} (hm : Sub 0xffffffffffffffff00f7bffa m) (h0 : Frame m s0 x0) :
    Frame m s0 (State.beaconReceived x0 x1) := by
  unfold State.beaconReceived
  split
  · refine Frame.ite (fun _ => ?_) (fun _ => ?_)
    · exact h0
    · refine Frame.ite (fun _ => ?_) (fun _ => ?_)
      · refine OptIn.getD ?_ ?_
        · exact State.rxSpoilt_frame (hm.of rfl) h0
        · exact State.frameHandled_frame (hm.of rfl) (State.beaconTaken_frame (hm.of rfl) h0)
      · refine Frame.ite (fun _ => ?_) (fun _ => ?_)
        · exact State.frameHandled_frame (hm.of rfl) h0
        · exact h0
  · exact h0

theorem State.calDone_frame {m : Nat} {s0 : State} {x0 : State} (hm : Sub 0x20000000300000 m) (h0 : Frame m s0 x0) :
    Frame m s0 (State.calDone x0) := by
  unfold State.calDone
  refine Frame.ite (fun _ => ?_) (fun _ => ?_)
  · exact State.modLink_frame (hm.of rfl) (State.calEnd_frame (hm.of rfl) h0)
  · exact h0

theorem State.calTakeover_frame {m : Nat} {s0 : State} {x0 : State} (hm : Sub 0x20000000100000 m) (h0 : Frame m s0 x0) :
    Frame m s0 (State.calTakeover x0) := by
  unfold State.calTakeover
  extract_lets +onlyGivenNames -underBinder -merge y0
  try clear_value y0
  refine Frame.ite (fun _ => ?_) (fun _ => ?_)
  · exact State.calStart_frame (hm.of rfl) h0
  · exact h0

theorem State.rxHandOver_frame {m : Nat} {s0 : State} {x0 : State} {x1 : Nat} (hm : Sub 0x201000 m) (h0 : Frame m s0 x0) :
    Frame m s0 (State.rxHandOver x0 x1) := by
  unfold State.rxHandOver
  split
  · extract_lets +onlyGivenNames -underBinder -merge y0
    have g0 : Frame m s0 y0.1 := by
      exact State.bufPut_frame (hm.of rfl) h0
    try clear_value y0
    exact State.modLink_frame (hm.of rfl) g0
  · exact h0

theorem State.cancelActs_frame {m : Nat} {s0 : State} {x0 : Disturb} {x1 : State} {x2 : Nat}
    (hm : Sub 0xffffffffffffffff00f7bffa m) (h1 : Frame m s0 x1) : Frame m s0 (State.cancelActs x0 x1 x2) := by
  unfold State.cancelActs
  extract_lets +onlyGivenNames -underBinder -merge y0
  try clear_value y0
  refine Frame.ite (fun _ => ?_) (fun _ => ?_)
  · exact h1
  · refine Frame.ite (fun _ => ?_) (fun _ => ?_)
    · refine Frame.ite (fun _ => ?_) (fun _ => ?_)
      · exact h1
      · refine State.txComplete_frame (hm.of rfl) ?_
        refine State.when_frame (hm.of rfl) ?_ ?_
        · intro y1 g1
          exact State.endOp_frame (hm.of rfl) g1
        · exact h1
    · extract_lets +onlyGivenNames -underBinder -merge y2
      try clear_value y2
      extract_lets +onlyGivenNames -underBinder -merge y3
      try clear_value y3
      extract_lets +onlyGivenNames -underBinder -merge y4
      have g4 : Frame m s0 y4 := by
        exact State.linkComplete_frame (hm.of rfl) h1
      try clear_value y4
      refine Frame.ite (fun _ => ?_) (fun _ => ?_)
      · split
        · split
          · exact State.modLink_frame (hm.of rfl) (State.rxHandOver_frame (hm.of rfl) (State.linkActivate_frame (hm.of rfl) g4))
          · refine Frame.ite (fun _ => ?_) (fun _ => ?_)
            · exact State.frameHandled_frame (hm.of rfl) g4
            · exact State.phyDrop_frame (hm.of rfl) g4
        · exact g4
      · refine Frame.ite (fun _ => ?_) (fun _ => ?_)
        · exact State.modLink_frame (hm.of rfl) g4
        · refine State.when_frame (hm.of rfl) ?_ ?_
          · intro y5 g5
            exact State.endOp_frame (hm.of rfl) g5
          · exact g4

theorem State.takeFrame_frame {m : Nat} {s0 : State} {x0 : State} {x1 : Nat} (hm : Sub 0x202002 m) (h0 : Frame m s0 x0) :
    OptIn m s0 (State.takeFrame x0 x1) := by
  unfold State.takeFrame
  refine ite_in (p := OptIn m s0) (fun _ => ?_) (fun _ => ?_)
  · refine OptIn.map1 ?_ ?_
    · intro y0 g0
      exact State.modLink_frame (hm.of rfl) g0
    · exact State.bufTake_frame (hm.of rfl) h0
  · split
    · trivial
    · refine OptIn.map1 ?_ ?_
      · intro y1 g1
        exact State.modLink_frame (hm.of rfl) (State.linkActivate_frame (hm.of rfl) g1)
      · exact State.bufTake_frame (hm.of rfl) h0

theorem State.headerReceived_frame {m : Nat} {s0 : State} {x0 : State} {x1 : Nat} {x2 : Disturb} (hm : Sub 0x3c000303202 m) (h0 : Frame m s0 x0) :
    Frame m s0 (State.headerReceived x0 x1 x2) := by
  unfold State.headerReceived
  refine Frame.ite (fun _ => ?_) (fun _ => ?_)
  · extract_lets +onlyGivenNames -underBinder -merge y0
    try clear_value y0
    extract_lets +onlyGivenNames -underBinder -merge y1
    try clear_value y1
    refine Frame.ite (fun _ => ?_) (fun _ => ?_)
    · exact State.phyDrop_frame (hm.of rfl) h0
    · split
      · exact State.phyDrop_frame (hm.of rfl) (State.eccRecord_frame (hm.of rfl) (State.setEcc_frame (hm.of rfl) h0))
      · refine Frame.ite (fun _ => ?_) (fun _ => ?_)
        · exact State.phyDrop_frame (hm.of rfl) h0
        · split
          · exact State.phyDrop_frame (hm.of rfl) h0
          · have g2 := of_eq_rev (p := OptIn m s0) ‹_ = some _› (by
              exact State.takeFrame_frame (hm.of rfl) h0)
            extract_lets +onlyGivenNames -underBinder -merge y3
            have g3 : Frame m s0 y3 := by
              exact State.modPhy_frame (hm.of rfl) g2
            try clear_value y3
            refine Frame.ite (fun _ => ?_) (fun _ => ?_)
            · exact State.modPhy_frame (hm.of rfl) (State.modLink_frame (hm.of rfl) g3)
            · exact g3
  · exact h0

theorem State.noteBadEntries_frame {m : Nat} {s0 : State} {x0 : State} (hm : Sub 0x3c000000200 m) (h0 : Frame m s0 x0) :
    Frame m s0 (State.noteBadEntries x0) := by
  unfold State.noteBadEntries
  refine Frame.foldl ?_ ?_
  · intro y0 y1 g0
    refine State.when_frame (hm.of rfl) ?_ ?_
    · intro y2 g2
      exact State.nbrRecord_frame (hm.of rfl) g2
    · exact g0
  · exact h0

theorem State.oweAck_frame {m : Nat} {s0 : State} {x0 : State} {x1 : RxFrame} {x2 : Option Nat} (hm : Sub 0x200000 m) (h0 : Frame m s0 x0) :
    Frame m s0 (State.oweAck x0 x1 x2) := by
  unfold State.oweAck
  extract_lets +onlyGivenNames -underBinder -merge y0
  try clear_value y0
  refine Frame.ite (fun _ => ?_) (fun _ => ?_)
  · extract_lets +onlyGivenNames -underBinder -merge y1
    try clear_value y1
    extract_lets +onlyGivenNames -underBinder -merge y2
    try clear_value y2
    exact State.modLink_frame (hm.of rfl) h0
  · exact h0

theorem State.securitySteps_frame {m : Nat} {s0 : State} {x0 : State} {x1 : RxFrame} {x2 : Option Nat}
    (hm : Sub 0x4003c000201200 m) (h0 : Frame m s0 x0) : Frame m s0 (State.securitySteps x0 x1 x2).1 := by
  unfold State.securitySteps
  extract_lets +onlyGivenNames -underBinder -merge y0
  try clear_value y0
  extract_lets +onlyGivenNames -underBinder -merge y1
  try clear_value y1
  split
  · refine Frame.ite1 (fun _ => ?_) (fun _ => ?_)
    · exact Frame.fst (State.oweAck_frame (hm.of rfl) h0)
    · exact Frame.fst (State.oweAck_frame (hm.of rfl) h0)
  · refine Frame.ite1 (fun _ => ?_) (fun _ => ?_)
    · exact Frame.fst (State.nbrFlag_frame (hm.of rfl) h0)
    · refine Frame.ite1 (fun _ => ?_) (fun _ => ?_)
      · exact Frame.fst (State.oweAck_frame (hm.of rfl) h0)
      · refine Frame.ite1 (fun _ => ?_) (fun _ => ?_)
        · exact Frame.fst (State.fault_frame (hm.of rfl) (State.nbrFlag_frame (hm.of rfl) h0))
        · refine Frame.ite1 (fun _ => ?_) (fun _ => ?_)
          · exact Frame.fst (State.oweAck_frame (hm.of rfl) (State.nbrFlag_frame (hm.of rfl) h0))
          · extract_lets +onlyGivenNames -underBinder -merge y2
            have g2 : Frame m s0 y2 := by
              exact State.oweAck_frame (hm.of rfl) h0
            try clear_value y2
            split
            · exact Frame.fst g2
            · split
              · exact Frame.fst g2
              · exact Frame.fst (State.nbrFlag_frame (hm.of rfl) g2)

theorem State.receiveFrame_frame {m : Nat} {s0 : State} {x0 : State} {x1 : Nat → Bool} {x2 : Disturb} {x3 : State → RxFrame → Nat → Option Nat → Option Nat → List Nat → State}
    (hm : Sub 0x4043c000303a00 m) (f3 : ∀ z0 z1 z2 z3 z4 z5, Frame m s0 z0 → Frame m s0 (x3 z0 z1 z2 z3 z4 z5)) (h0 : Frame m s0 x0) :
    Frame m s0 (State.receiveFrame x0 x1 x2 x3) := by
  unfold State.receiveFrame
  split
  · refine Frame.ite (fun _ => ?_) (fun _ => ?_)
    · exact h0
    · split
      · have g0 := of_eq_rev (p := OptIn m s0) ‹_ = some _› (by
          exact State.rxSpoilt_frame (hm.of rfl) h0)
        exact g0
      · extract_lets +onlyGivenNames -underBinder -merge y1
        have g1 : Frame m s0 y1 := by
          exact State.noteBadEntries_frame (hm.of rfl) h0
        try clear_value y1
        extract_lets +onlyGivenNames -underBinder -merge y2
        try clear_value y2
        extract_lets +onlyGivenNames -underBinder -merge y3
        have g3 : Frame m s0 y3.1 := by
          exact State.securitySteps_frame (hm.of rfl) g1
        try clear_value y3
        split
        · exact State.frameHandled_frame (hm.of rfl) g3
        · exact State.frameHandled_frame (hm.of rfl) (f3 _ _ _ _ _ _ g3)
  · exact h0

theorem State.linkFrame_frame {m : Nat} {s0 : State} {x0 : State} {x1 : Disturb} (hm : Sub 0xffffffffffffffff00f7bffa m) (h0 : Frame m s0 x0) :
    Frame m s0 (State.linkFrame x0 x1) := by
  unfold State.linkFrame
  refine State.receiveFrame_frame (hm.of rfl) ?_ ?_
  · intro y0 y1 y2 y3 y4 y5 g0
    exact State.deliverFrame_frame (hm.of rfl) g0
  · exact h0

theorem State.linkSweepBy_frame {m : Nat} {s0 : State} {x0 : State} {x1 : Disturb} (hm : Sub 0xffffffffffffffff00f7bffa m) (h0 : Frame m s0 x0) :
    Frame m s0 (State.linkSweepBy x0 x1) := by
  unfold State.linkSweepBy
  refine Frame.foldl ?_ ?_
  · intro y0 y1 g0
    exact State.cancelActs_frame (hm.of rfl) g0
  · exact h0

theorem State.linkSweep_frame {m : Nat} {s0 : State} {x0 : State} (hm : Sub 0xffffffffffffffff00f7bffa m) (h0 : Frame m s0 x0) :
    Frame m s0 (State.linkSweep x0) := by
  unfold State.linkSweep
  exact State.linkSweepBy_frame (hm.of rfl) h0

theorem State.soundSent_frame {m : Nat} {s0 : State} {x0 : State} {x1 : Nat} {x2 : Disturb}
    (hm : Sub 0xffffffffffffffff00f7bffa m) (h0 : Frame m s0 x0) : Frame m s0 (State.soundSent x0 x1 x2) := by
  unfold State.soundSent
  refine State.when_frame (hm.of rfl) ?_ ?_
  · intro y0 g0
    exact State.txDone_frame (hm.of rfl) g0
  · exact h0

theorem State.pllUnlock_frame {m : Nat} {s0 : State} {x0 : State} {x1 : Disturb} (hm : Sub 0xffffffffffffffff00f7bffa m) (h0 : Frame m s0 x0) :
    Frame m s0 (State.pllUnlock x0 x1) := by
  unfold State.pllUnlock
  refine Frame.ite (fun _ => ?_) (fun _ => ?_)
  · exact h0
  · extract_lets +onlyGivenNames -underBinder -merge y0
    try clear_value y0
    extract_lets +onlyGivenNames -underBinder -merge y1
    try clear_value y1
    extract_lets +onlyGivenNames -underBinder -merge y2
    try clear_value y2
    extract_lets +onlyGivenNames -underBinder -merge y3
    have g3 : Frame m s0 y3 := by
      refine State.raise_frame (hm.of rfl) (Allows.page (p := 21) rfl (hm.of rfl)) ?_
      exact State.put_frame (hm.of rfl) (Allows.page (p := 21) rfl (hm.of rfl)) h0
    try clear_value y3
    refine Frame.ite (fun _ => ?_) (fun _ => ?_)
    · exact State.calDue_frame (hm.of rfl) (State.endOp_frame (hm.of rfl) g3)
    · extract_lets +onlyGivenNames -underBinder -merge y4
      have g4 : Frame m s0 y4 := by
        exact State.endOp_frame (hm.of rfl) g3
      try clear_value y4
      split
      · refine Frame.ite (fun _ => ?_) (fun _ => ?_)
        · exact State.soundSent_frame (hm.of rfl) g4
        · refine Frame.ite (fun _ => ?_) (fun _ => ?_)
          · exact State.opFailed_frame (hm.of rfl) (State.jobFlags_frame (hm.of rfl) g4)
          · refine Frame.ite (fun _ => ?_) (fun _ => ?_)
            · exact State.opFailed_frame (hm.of rfl) g4
            · exact g4
      · refine Frame.ite (fun _ => ?_) (fun _ => ?_)
        · exact State.opFailed_frame (hm.of rfl) g4
        · exact g4
      · exact g4

theorem State.rxStore_frame {m : Nat} {s0 : State} {x0 : State} {x1 : List Nat} (hm : Sub 0x201000 m) (h0 : Frame m s0 x0) :
    Frame m s0 (State.rxStore x0 x1) := by
  unfold State.rxStore
  split
  · extract_lets +onlyGivenNames -underBinder -merge y0
    have g0 : Frame m s0 y0.1 := by
      exact State.bufPut_frame (hm.of rfl) h0
    try clear_value y0
    exact State.modLink_frame (hm.of rfl) g0
  · exact h0

theorem State.ppduDecoded_frame {m : Nat} {s0 : State} {x0 : State} {x1 : List Int} {x2 : Option (Fin 1024 × Byte)}
    (hm : Sub 0x301000 m) (h0 : Frame m s0 x0) : Frame m s0 (State.ppduDecoded x0 x1 x2) := by
  unfold State.ppduDecoded
  refine Frame.ite (fun _ => ?_) (fun _ => ?_)
  · split
    · exact State.modPhy_frame (hm.of rfl) (State.modLink_frame (hm.of rfl) (State.rxStore_frame (hm.of rfl) h0))
    · exact State.phyDrop_frame (hm.of rfl) (State.modLink_frame (hm.of rfl) h0)
    · exact State.phyDrop_frame (hm.of rfl) h0
  · exact h0

theorem State.rampUp_frame {m : Nat} {s0 : State} {x0 : State} (hm : Sub 0x3c000300200 m) (h0 : Frame m s0 x0) : Frame m s0 (State.rampUp x0) := by
  unfold State.rampUp
  extract_lets +onlyGivenNames -underBinder -merge y0
  have g0 : Frame m s0 y0 := by
    unfold y0
    split
    · exact State.modPhy_frame (hm.of rfl) h0
    · exact h0
  try clear_value y0
  extract_lets +onlyGivenNames -underBinder -merge y1
  have g1 : Frame m s0 y1 := by
    exact State.phyStart_frame (hm.of rfl) g0
  try clear_value y1
  split
  · exact State.modJob_frame (hm.of rfl) g1
  · exact State.setSounding_frame (hm.of rfl) g1
  · exact g1

theorem State.robustReceived_frame {m : Nat} {s0 : State} {x0 : State} {x1 : List Bool} (hm : Sub 0x303002 m) (h0 : Frame m s0 x0) :
    Frame m s0 (State.robustReceived x0 x1) := by
  unfold State.robustReceived
  refine Frame.ite (fun _ => ?_) (fun _ => ?_)
  · split
    · exact State.phyDrop_frame (hm.of rfl) h0
    · split
      · exact State.phyDrop_frame (hm.of rfl) h0
      · have g0 := of_eq_rev (p := OptIn m s0) ‹_ = some _› (by
          exact State.takeFrame_frame (hm.of rfl) h0)
        extract_lets +onlyGivenNames -underBinder -merge y1
        try clear_value y1
        exact State.modPhy_frame (hm.of rfl) (State.modLink_frame (hm.of rfl) (State.rxStore_frame (hm.of rfl) g0))
  · exact h0

theorem State.scanAdopt_frame {m : Nat} {s0 : State} {x0 : State} {x1 : Disturb} (hm : Sub 0xffffffffffffffff00f7bffa m) (h0 : Frame m s0 x0) :
    Frame m s0 (State.scanAdopt x0 x1) := by
  unfold State.scanAdopt
  split
  · refine Frame.ite (fun _ => ?_) (fun _ => ?_)
    · refine OptIn.getD ?_ ?_
      · exact State.rxSpoilt_frame (hm.of rfl) h0
      · exact State.adopt_frame (hm.of rfl) (State.frameHandled_frame (hm.of rfl) (State.beaconTaken_frame (hm.of rfl) h0))
    · exact h0
  · exact h0

theorem State.soundRequest_frame {m : Nat} {s0 : State} {x0 : State} {x1 : Disturb} (hm : Sub 0x4043c000303a00 m) (h0 : Frame m s0 x0) :
    Frame m s0 (State.soundRequest x0 x1) := by
  unfold State.soundRequest
  refine State.receiveFrame_frame (hm.of rfl) ?_ ?_
  · intro y0 y1 y2 y3 y4 y5 g0
    extract_lets +onlyGivenNames -underBinder -merge y6
    try clear_value y6
    extract_lets +onlyGivenNames -underBinder -merge y7
    have g7 : Frame m s0 y7 := by
      exact State.senderSeen_frame (hm.of rfl) g0
    try clear_value y7
    refine Frame.ite (fun _ => ?_) (fun _ => ?_)
    · exact g7
    · extract_lets +onlyGivenNames -underBinder -merge y8
      try clear_value y8
      refine Frame.ite (fun _ => ?_) (fun _ => ?_)
      · exact g7
      · extract_lets +onlyGivenNames -underBinder -merge y9
        try clear_value y9
        refine Frame.ite (fun _ => ?_) (fun _ => ?_)
        · exact State.setSounding_frame (hm.of rfl) g7
        · extract_lets +onlyGivenNames -underBinder -merge y10
          try clear_value y10
          exact State.setSounding_frame (hm.of rfl) (State.setMap_frame (hm.of rfl) g7)
  · exact h0

theorem State.soundResponse_frame {m : Nat} {s0 : State} {x0 : State} {x1 : Disturb} (hm : Sub 0xffffffffffffffff00f7bffa m) (h0 : Frame m s0 x0) :
    Frame m s0 (State.soundResponse x0 x1) := by
  unfold State.soundResponse
  refine State.receiveFrame_frame (hm.of rfl) ?_ ?_
  · intro y0 y1 y2 y3 y4 y5 g0
    extract_lets +onlyGivenNames -underBinder -merge y6
    have g6 : Frame m s0 y6 := by
      exact State.deliverFrame_frame (hm.of rfl) g0
    try clear_value y6
    extract_lets +onlyGivenNames -underBinder -merge y7
    try clear_value y7
    split
    · exact g6
    · split
      · exact g6
      · extract_lets +onlyGivenNames -underBinder -merge y8
        have g8 : Frame m s0 y8 := by
          exact State.setMap_frame (hm.of rfl) g6
        try clear_value y8
        extract_lets +onlyGivenNames -underBinder -merge y9
        have g9 : Frame m s0 y9 := by
          exact State.nbrChange_frame (hm.of rfl) g8
        try clear_value y9
        exact State.soundingDone_frame (hm.of rfl) (State.nbrFlag_frame (hm.of rfl) g9)
  · exact h0

theorem State.txEnd_frame {m : Nat} {s0 : State} {x0 : State} {x1 : Disturb} (hm : Sub 0xffffffffffffffff00f7bffa m) (h0 : Frame m s0 x0) :
    Frame m s0 (State.txEnd x0 x1) := by
  unfold State.txEnd
  refine Frame.ite (fun _ => ?_) (fun _ => ?_)
  · extract_lets +onlyGivenNames -underBinder -merge y0
    have g0 : Frame m s0 y0 := by
      exact State.fire_frame (hm.of rfl) h0
    try clear_value y0
    extract_lets +onlyGivenNames -underBinder -merge y1
    try clear_value y1
    split
    · exact State.endOp_frame (hm.of rfl) (State.captureInputAt_frame (hm.of rfl) g0)
    · exact State.awaitAck_frame (hm.of rfl) g0
    · refine Frame.ite (fun _ => ?_) (fun _ => ?_)
      · exact State.soundSent_frame (hm.of rfl) (State.endOp_frame (hm.of rfl) (State.modJob_frame (hm.of rfl) g0))
      · refine Frame.ite (fun _ => ?_) (fun _ => ?_)
        · exact State.awaitAck_frame (hm.of rfl) g0
        · exact State.txDone_frame (hm.of rfl) (State.endOp_frame (hm.of rfl) g0)
    · exact State.endOp_frame (hm.of rfl) g0
  · exact h0

theorem State.txSpoilt_frame {m : Nat} {s0 : State} {x0 : State} {x1 : BufRef} {x2 : Nat} {x3 : Disturb}
    (hm : Sub 0xffffffffffffffff00f7bffa m) (h0 : Frame m s0 x0) : Frame m s0 (State.txSpoilt x0 x1 x2 x3) := by
  unfold State.txSpoilt
  extract_lets +onlyGivenNames -underBinder -merge y0
  try clear_value y0
  extract_lets +onlyGivenNames -underBinder -merge y1
  have g1 : Frame m s0 y1 := by
    exact State.endOp_frame (hm.of rfl) (State.bufRecord_frame (hm.of rfl) h0)
  try clear_value y1
  split
  · exact State.txComplete_frame (hm.of rfl) g1
  · exact State.linkComplete_frame (hm.of rfl) g1
  · exact g1

theorem State.txStart_frame {m : Nat} {s0 : State} {x0 : State} {x1 : Disturb} (hm : Sub 0xffffffffffffffff00f7bffa m) (h0 : Frame m s0 x0) :
    Frame m s0 (State.txStart x0 x1) := by
  unfold State.txStart
  refine Frame.ite (fun _ => ?_) (fun _ => ?_)
  · refine Frame.ite (fun _ => ?_) (fun _ => ?_)
    · exact State.withhold_frame (hm.of rfl) h0
    · split
      · split
        · exact State.txSpoilt_frame (hm.of rfl) h0
        · exact State.rampUp_frame (hm.of rfl) h0
      · exact State.rampUp_frame (hm.of rfl) h0
  · exact h0

theorem State.windowClose_frame {m : Nat} {s0 : State} {x0 : State} (hm : Sub 0x300000 m) (h0 : Frame m s0 x0) :
    Frame m s0 (State.windowClose x0) := by
  unfold State.windowClose
  refine Frame.ite (fun _ => ?_) (fun _ => ?_)
  · exact State.endOp_frame (hm.of rfl) h0
  · exact h0

theorem State.windowOpen_frame {m : Nat} {s0 : State} {x0 : State} (hm : Sub 0x20000000100000 m) (h0 : Frame m s0 x0) :
    Frame m s0 (State.windowOpen x0) := by
  unfold State.windowOpen
  refine Frame.ite (fun _ => ?_) (fun _ => ?_)
  · exact h0
  · refine Frame.ite (fun _ => ?_) (fun _ => ?_)
    · exact State.modPhy_frame (hm.of rfl) h0
    · refine Frame.ite (fun _ => ?_) (fun _ => ?_)
      · exact State.phySet_frame (hm.of rfl) h0
      · exact h0

/-! ### Machine/Bus -/

theorem State.atomic_frame {m : Nat} {s0 : State} {x0 : State} {x1 : Fin 4} {x2 x3 x4 : Nat} {x5 : List Nat} {x6 : State → State}
    (hm : Sub 0x800 m) (f6 : ∀ z0, Frame m s0 z0 → Frame m s0 (x6 z0)) (h0 : Frame m s0 x0) : Frame m s0 (State.atomic x0 x1 x2 x3 x4 x5 x6) := by
  unfold State.atomic
  refine State.execute_frame (hm.of rfl) ?_ ?_
  · intro y0 g0
    refine Frame.ite (fun _ => ?_) (fun _ => ?_)
    · exact State.trap_frame (hm.of rfl) g0
    · refine Frame.ite (fun _ => ?_) (fun _ => ?_)
      · exact State.trap_frame (hm.of rfl) g0
      · refine Frame.ite (fun _ => ?_) (fun _ => ?_)
        · exact State.trap_frame (hm.of rfl) g0
        · refine Frame.ite (fun _ => ?_) (fun _ => ?_)
          · exact State.trap_frame (hm.of rfl) g0
          · exact f6 _ g0
  · exact h0

theorem State.cancelSwept_frame {m : Nat} {s0 : State} {x0 : State} {x1 : Nat} (hm : Sub 0xffffffffffffffff00f7bffa m) (h0 : Frame m s0 x0) :
    Frame m s0 (State.cancelSwept x0 x1) := by
  unfold State.cancelSwept
  refine State.when_frame (hm.of rfl) ?_ ?_
  · intro y0 g0
    exact State.linkSweep_frame (hm.of rfl) g0
  · exact h0

theorem State.busWrite_frame {m : Nat} {s0 : State} {x0 : State} {x1 : Master} {x2 x3 x4 x5 : Nat} {x6 : Upset}
    (hm : Sub 0xffffffffffffffff00f7bffa m) (h0 : Frame m s0 x0) : Frame m s0 (State.busWrite x0 x1 x2 x3 x4 x5 x6).1 := by
  unfold State.busWrite
  extract_lets +onlyGivenNames -underBinder -merge y0
  have g0 : Frame m s0 y0.1 := by
    exact State.busPut_frame (hm.of rfl) h0
  try clear_value y0
  exact Frame.fst (State.cancelSwept_frame (hm.of rfl) g0)

theorem State.loaded_frame {m : Nat} {s0 : State} {x0 : State} {x1 x2 : Nat} {x3 : Word} (hm : Sub 0x800 m) (h0 : Frame m s0 x0) :
    Frame m s0 (State.loaded x0 x1 x2 x3) := by
  unfold State.loaded
  refine State.modHart_frame (hm.of rfl) (fun _ => by first | ((try dsimp only) <;> (repeat' split) <;> simp; done) | exact Nat.zero_le _ | exact Nat.le_refl _) ?_
  exact h0

theorem State.amo_frame {m : Nat} {s0 : State} {x0 : State} {x1 : Fin 4} {x2 : AmoOp} {x3 x4 : Nat} {x5 : Word} {x6 : Upset}
    (hm : Sub 0xffffffffffffffff00f7bffa m) (h0 : Frame m s0 x0) : Frame m s0 (State.amo x0 x1 x2 x3 x4 x5 x6) := by
  unfold State.amo
  refine State.atomic_frame (hm.of rfl) ?_ ?_
  · intro y0 g0
    extract_lets +onlyGivenNames -underBinder -merge y1
    have g1 : Frame m s0 y1.1 := by
      exact State.busRead_frame (hm.of rfl) g0
    try clear_value y1
    refine Frame.ite (fun _ => ?_) (fun _ => ?_)
    · extract_lets +onlyGivenNames -underBinder -merge y2
      try clear_value y2
      extract_lets +onlyGivenNames -underBinder -merge y3
      have g3 : Frame m s0 y3.1 := by
        exact State.busWrite_frame (hm.of rfl) g1
      try clear_value y3
      exact State.retire_frame (hm.of rfl) (State.loaded_frame (hm.of rfl) g3)
    · refine Frame.ite (fun _ => ?_) (fun _ => ?_)
      · exact g0
      · exact State.retire_frame (hm.of rfl) (State.loaded_frame (hm.of rfl) g1)
  · exact h0

theorem State.cmdRead_frame {m : Nat} {s0 : State} {x0 : State} {x1 : Master} {x2 x3 : Nat} {x4 : Upset}
    (hm : Sub 0x5174f43dc0047bb1e m) (h0 : Frame m s0 x0) : Frame m s0 (State.cmdRead x0 x1 x2 x3 x4) := by
  unfold State.cmdRead
  extract_lets +onlyGivenNames -underBinder -merge y0
  have g0 : Frame m s0 y0.1 := by
    exact State.busRead_frame (hm.of rfl) h0
  try clear_value y0
  refine Frame.ite (fun _ => ?_) (fun _ => ?_)
  · exact h0
  · exact State.reply_frame (hm.of rfl) g0

theorem State.cmdService_frame {m : Nat} {s0 : State} {x0 : State} {x1 : Master} {x2 x3 x4 : Nat}
    (hm : Sub 0xffffffffffffffff00f7bffa m) (h0 : Frame m s0 x0) : Frame m s0 (State.cmdService x0 x1 x2 x3 x4) := by
  unfold State.cmdService
  exact State.noted_frame (hm.of rfl) (State.writeAt_frame (hm.of rfl) h0)

theorem State.cmdWrite_frame {m : Nat} {s0 : State} {x0 : State} {x1 : Master} {x2 x3 x4 : Nat}
    (hm : Sub 0xffffffffffffffff00f7bffa m) (h0 : Frame m s0 x0) : Frame m s0 (State.cmdWrite x0 x1 x2 x3 x4) := by
  unfold State.cmdWrite
  exact State.busWrite_frame (hm.of rfl) h0

theorem State.controlCycle_frame {m : Nat} {s0 : State} {x0 : State} (hm : Sub 0x500000001400000 m) (h0 : Frame m s0 x0) :
    Frame m s0 (State.controlCycle x0) := by
  unfold State.controlCycle
  extract_lets +onlyGivenNames -underBinder -merge y0
  have g0 : Frame m s0 y0 := by
    exact State.writeOutputs_frame (hm.of rfl) h0
  try clear_value y0
  refine Frame.foldl ?_ ?_
  · intro y1 y2 g1
    exact State.pairCount_frame (hm.of rfl) g1
  · exact Frame.toothTime (hm.of rfl) g0

theorem State.coarseTick_frame {m : Nat} {s0 : State} {x0 : State} (hm : Sub 0x500000001420000 m) (h0 : Frame m s0 x0) :
    Frame m s0 (State.coarseTick x0) := by
  unfold State.coarseTick
  extract_lets +onlyGivenNames -underBinder -merge y0
  have g0 : Frame m s0 y0 := by
    exact State.countTime_frame (hm.of rfl) h0
  try clear_value y0
  extract_lets +onlyGivenNames -underBinder -merge y1
  try clear_value y1
  refine Frame.ite (fun _ => ?_) (fun _ => ?_)
  · exact Frame.ntu (hm.of rfl) (fun i => by first | exact i.ns | exact Nat.mod_lt _ (by decide) | exact (by decide : 0 < nsPerSec)) g0
  · extract_lets +onlyGivenNames -underBinder -merge y2
    have g2 : Frame m s0 y2 := by
      refine State.when_frame (hm.of rfl) ?_ ?_
      · intro y3 g3
        exact State.countMtime_frame (hm.of rfl) g3
      · exact g0
    try clear_value y2
    refine State.when_frame (hm.of rfl) ?_ ?_
    · intro y4 g4
      refine Frame.foldl ?_ ?_
      · intro y5 y6 g5
        exact State.controlCycle_frame (hm.of rfl) g5
      · exact g4
    · exact g2

theorem State.conditional_frame {m : Nat} {s0 : State} {x0 : State} {x1 x2 : Nat} {x3 : Bool} (hm : Sub 0x802 m) (h0 : Frame m s0 x0) :
    Frame m s0 (State.conditional x0 x1 x2 x3) := by
  unfold State.conditional
  refine Frame.ite (fun _ => ?_) (fun _ => ?_)
  · exact State.loaded_frame (hm.of rfl) h0
  · extract_lets +onlyGivenNames -underBinder -merge y0
    have g0 : Frame m s0 y0.2 := by
      exact State.free_frame (hm.of rfl) h0
    try clear_value y0
    exact State.loaded_frame (hm.of rfl) g0

theorem State.entryTick_frame {m : Nat} {s0 : State} {x0 : State} (hm : Sub 0x500000001420010 m) (h0 : Frame m s0 x0) :
    Frame m s0 (State.entryTick x0) := by
  unfold State.entryTick
  extract_lets +onlyGivenNames -underBinder -merge y0
  have g0 : Frame m s0 y0 := by
    exact State.modPower_frame (hm.of rfl) h0
  try clear_value y0
  refine Frame.ite (fun _ => ?_) (fun _ => ?_)
  · exact State.coarseTick_frame (hm.of rfl) (State.modPower_frame (hm.of rfl) g0)
  · refine State.when_frame (hm.of rfl) ?_ ?_
    · intro y1 g1
      exact State.countMtime_frame (hm.of rfl) g1
    · exact g0

theorem State.fenceI_frame {m : Nat} {s0 : State} {x0 : State} {x1 : Fin 4} (hm : Sub 0x1800 m) (h0 : Frame m s0 x0) :
    Frame m s0 (State.fenceI x0 x1) := by
  unfold State.fenceI
  refine State.execute_frame (hm.of rfl) ?_ ?_
  · intro y0 g0
    refine State.retire_frame (hm.of rfl) ?_
    exact Frame.mem (hm.of rfl) (fun w => by first | exact w | exact Memory.wf_blank w | exact Memory.wf_ramFilter w _) g0
  · exact h0

theorem State.fenceRead_frame {m : Nat} {s0 : State} {x0 : State} {x1 : Master} {x2 : Fin 4} (hm : Sub 0x5174f43dc0047bb1e m) (h0 : Frame m s0 x0) :
    Frame m s0 (State.fenceRead x0 x1 x2) := by
  unfold State.fenceRead
  refine Frame.ite (fun _ => ?_) (fun _ => ?_)
  · refine State.execute_frame (hm.of rfl) ?_ ?_
    · intro y0 g0
      refine State.modHart_frame (hm.of rfl) (fun _ => by first | ((try dsimp only) <;> (repeat' split) <;> simp; done) | exact Nat.zero_le _ | exact Nat.le_refl _) ?_
      exact g0
    · exact h0
  · exact State.cmdRead_frame (hm.of rfl) h0

theorem State.fenceReturn_frame {m : Nat} {s0 : State} {x0 : State} {x1 : Fin 4} (hm : Sub 0xa04 m) (h0 : Frame m s0 x0) :
    Frame m s0 (State.fenceReturn x0 x1) := by
  unfold State.fenceReturn
  extract_lets +onlyGivenNames -underBinder -merge y0
  try clear_value y0
  refine Frame.ite (fun _ => ?_) (fun _ => ?_)
  · exact h0
  · extract_lets +onlyGivenNames -underBinder -merge y1
    have g1 : Frame m s0 y1.1 := by
      exact State.fenceWord_frame (hm.of rfl) h0
    try clear_value y1
    extract_lets +onlyGivenNames -underBinder -merge y2
    have g2 : Frame m s0 y2 := by
      refine State.reply_frame (hm.of rfl) ?_
      refine State.modHart_frame (hm.of rfl) (fun _ => by first | ((try dsimp only) <;> (repeat' split) <;> simp; done) | exact Nat.zero_le _ | exact Nat.le_refl _) ?_
      exact g1
    try clear_value y2
    split
    · exact State.retire_frame (hm.of rfl) (State.loaded_frame (hm.of rfl) g2)
    · exact State.retire_frame (hm.of rfl) g2

theorem State.hartLoad_frame {m : Nat} {s0 : State} {x0 : State} {x1 : Fin 4} {x2 x3 x4 : Nat} {x5 : Bool} {x6 : Upset}
    (hm : Sub 0x5174f43dc0047bb1a m) (h0 : Frame m s0 x0) : Frame m s0 (State.hartLoad x0 x1 x2 x3 x4 x5 x6) := by
  unfold State.hartLoad
  refine State.execute_frame (hm.of rfl) ?_ ?_
  · intro y0 g0
    refine Frame.ite (fun _ => ?_) (fun _ => ?_)
    · exact State.trap_frame (hm.of rfl) g0
    · refine Frame.ite (fun _ => ?_) (fun _ => ?_)
      · exact State.trap_frame (hm.of rfl) g0
      · refine Frame.ite (fun _ => ?_) (fun _ => ?_)
        · exact State.trap_frame (hm.of rfl) g0
        · refine Frame.ite (fun _ => ?_) (fun _ => ?_)
          · exact g0
          · refine Frame.ite (fun _ => ?_) (fun _ => ?_)
            · refine State.modHart_frame (hm.of rfl) (fun _ => by first | ((try dsimp only) <;> (repeat' split) <;> simp; done) | exact Nat.zero_le _ | exact Nat.le_refl _) ?_
              exact g0
            · extract_lets +onlyGivenNames -underBinder -merge y1
              have g1 : Frame m s0 y1.1 := by
                exact State.busRead_frame (hm.of rfl) g0
              try clear_value y1
              refine Frame.ite (fun _ => ?_) (fun _ => ?_)
              · exact g0
              · exact State.retire_frame (hm.of rfl) (State.loaded_frame (hm.of rfl) g1)
  · exact h0

theorem State.loadReserved_frame {m : Nat} {s0 : State} {x0 : State} {x1 : Fin 4} {x2 x3 : Nat} {x4 : Upset}
    (hm : Sub 0x5174f43dc0047bb1a m) (h0 : Frame m s0 x0) : Frame m s0 (State.loadReserved x0 x1 x2 x3 x4) := by
  unfold State.loadReserved
  refine State.atomic_frame (hm.of rfl) ?_ ?_
  · intro y0 g0
    extract_lets +onlyGivenNames -underBinder -merge y1
    have g1 : Frame m s0 y1.1 := by
      exact State.busRead_frame (hm.of rfl) g0
    try clear_value y1
    refine Frame.ite (fun _ => ?_) (fun _ => ?_)
    · exact g0
    · refine State.retire_frame (hm.of rfl) ?_
      refine State.modHart_frame (hm.of rfl) (fun _ => by first | ((try dsimp only) <;> (repeat' split) <;> simp; done) | exact Nat.zero_le _ | exact Nat.le_refl _) ?_
      exact State.loaded_frame (hm.of rfl) g1
  · exact h0

theorem State.postFailed_frame {m : Nat} {s0 : State} {x0 : State} {x1 : Nat} {x2 : Posted} {x3 : Fail} {x4 : Nat}
    (hm : Sub 0x3c400000a10 m) (h0 : Frame m s0 x0) : Frame m s0 (State.postFailed x0 x1 x2 x3 x4) := by
  unfold State.postFailed
  extract_lets +onlyGivenNames -underBinder -merge y0
  try clear_value y0
  extract_lets +onlyGivenNames -underBinder -merge y1
  try clear_value y1
  extract_lets +onlyGivenNames -underBinder -merge y2
  try clear_value y2
  extract_lets +onlyGivenNames -underBinder -merge y3
  have g3 : Frame m s0 y3 := by
    exact State.record_frame (hm.of rfl) h0
  try clear_value y3
  extract_lets +onlyGivenNames -underBinder -merge y4
  have g4 : Frame m s0 y4 := by
    refine State.modPost_frame (hm.of rfl) (fun _ => by first | exact Nat.le_refl _ | simp [holdPosts_length]) ?_
    exact State.raise_frame (hm.of rfl) (Allows.fault rfl (hm.of rfl)) g3
  try clear_value y4
  extract_lets +onlyGivenNames -underBinder -merge y5
  have g5 : Frame m s0 y5 := by
    refine State.when_frame (hm.of rfl) ?_ ?_
    · intro y6 g6
      exact State.put_frame (hm.of rfl) (Allows.fault rfl (hm.of rfl)) g6
    · exact g4
  try clear_value y5
  extract_lets +onlyGivenNames -underBinder -merge y7
  have g7 : Frame m s0 y7 := by
    refine State.when_frame (hm.of rfl) ?_ ?_
    · intro y8 g8
      exact State.modHart_frame (hm.of rfl) (fun _ => by first | exact Nat.le_refl _ | simp [holdPosts_length]) g8
    · exact g5
  try clear_value y7
  refine State.when_frame (hm.of rfl) ?_ ?_
  · intro y9 g9
    exact State.refuseEntry_frame (hm.of rfl) g9
  · exact g7

theorem State.postDone_frame {m : Nat} {s0 : State} {x0 : State} {x1 : Fin 4} {x2 : Island} {x3 : Nat} {x4 : Upset}
    (hm : Sub 0xffffffffffffffff00f7bffa m) (h0 : Frame m s0 x0) : Frame m s0 (State.postDone x0 x1 x2 x3 x4) := by
  unfold State.postDone
  split
  · exact h0
  · extract_lets +onlyGivenNames -underBinder -merge y0
    have g0 : Frame m s0 y0.1 := by
      exact State.writeAt_frame (hm.of rfl) h0
    try clear_value y0
    refine Frame.ite (fun _ => ?_) (fun _ => ?_)
    · exact h0
    · extract_lets +onlyGivenNames -underBinder -merge y1
      have g1 : Frame m s0 y1 := by
        exact State.modHart_frame (hm.of rfl) (fun _ => dropPost_length _ _) g0
      try clear_value y1
      split
      · exact State.postFailed_frame (hm.of rfl) g1
      · exact State.cancelSwept_frame (hm.of rfl) g1

theorem State.storeChecked_frame {m : Nat} {s0 : State} {x0 : State} {x1 x2 x3 : Nat} {x4 : State → State}
    (hm : Sub 0x800 m) (f4 : ∀ z0, Frame m s0 z0 → Frame m s0 (x4 z0)) (h0 : Frame m s0 x0) : Frame m s0 (State.storeChecked x0 x1 x2 x3 x4) := by
  unfold State.storeChecked
  refine Frame.ite (fun _ => ?_) (fun _ => ?_)
  · exact State.trap_frame (hm.of rfl) h0
  · refine Frame.ite (fun _ => ?_) (fun _ => ?_)
    · exact State.trap_frame (hm.of rfl) h0
    · exact f4 _ h0

theorem State.postStore_frame {m : Nat} {s0 : State} {x0 : State} {x1 : Fin 4} {x2 : Nat} {x3 : Width} {x4 : Word}
    (hm : Sub 0x3c000000800 m) (h0 : Frame m s0 x0) : Frame m s0 (State.postStore x0 x1 x2 x3 x4) := by
  unfold State.postStore
  refine Frame.ite (fun _ => h0) (fun _ => State.execute_frame (hm.of rfl) (fun y0 g0 => ?_) h0)
  refine State.storeChecked_frame (hm.of rfl) (fun y1 g1 => ?_) g0
  refine Frame.ite (fun _ => g1) (fun c => ?_)
  extract_lets tag
  refine State.retire_frame (hm.of rfl) ?_
  have b : ¬ 64 ≤ (y1.hart x1).posts.length := by
    intro k
    simp [k] at c
  unfold State.modHart
  refine Frame.harts (hm.of rfl) (fun i k => ?_) (State.put_frame (hm.of rfl) (Allows.fault rfl (hm.of rfl)) g1)
  rw [vmod_eq_vput _ _ _ noHart, vget_vput]
  split
  · simp only [List.length_append, List.length_singleton]
    simp only [State.hart] at b
    show (vget y1.harts x1 noHart).posts.length + 1 ≤ 64
    omega
  · exact i.posts k

theorem State.storeConditional_frame {m : Nat} {s0 : State} {x0 : State} {x1 : Fin 4} {x2 x3 x4 x5 : Nat} {x6 : Upset}
    (hm : Sub 0xffffffffffffffff00f7bffa m) (h0 : Frame m s0 x0) : Frame m s0 (State.storeConditional x0 x1 x2 x3 x4 x5 x6) := by
  unfold State.storeConditional
  refine State.atomic_frame (hm.of rfl) ?_ ?_
  · intro y0 g0
    extract_lets +onlyGivenNames -underBinder -merge y1
    try clear_value y1
    extract_lets +onlyGivenNames -underBinder -merge y2
    have g2 : Frame m s0 y2 := by
      refine State.modHart_frame (hm.of rfl) (fun _ => by first | ((try dsimp only) <;> (repeat' split) <;> simp; done) | exact Nat.zero_le _ | exact Nat.le_refl _) ?_
      exact g0
    try clear_value y2
    refine Frame.ite (fun _ => ?_) (fun _ => ?_)
    · exact State.retire_frame (hm.of rfl) (State.loaded_frame (hm.of rfl) g2)
    · extract_lets +onlyGivenNames -underBinder -merge y3
      have g3 : Frame m s0 y3.1 := by
        exact State.busWrite_frame (hm.of rfl) g2
      try clear_value y3
      exact State.retire_frame (hm.of rfl) (State.conditional_frame (hm.of rfl) g3)
  · exact h0

theorem State.storeLocal_frame {m : Nat} {s0 : State} {x0 : State} {x1 : Fin 4} {x2 x3 x4 : Nat} {x5 : Upset}
    (hm : Sub 0xffffffffffffffff00f7bffa m) (h0 : Frame m s0 x0) : Frame m s0 (State.storeLocal x0 x1 x2 x3 x4 x5) := by
  unfold State.storeLocal
  refine Frame.ite (fun _ => ?_) (fun _ => ?_)
  · exact h0
  · refine State.execute_frame (hm.of rfl) ?_ ?_
    · intro y0 g0
      refine State.storeChecked_frame (hm.of rfl) ?_ ?_
      · intro y1 g1
        extract_lets +onlyGivenNames -underBinder -merge y2
        have g2 : Frame m s0 y2.1 := by
          exact State.busWrite_frame (hm.of rfl) g1
        try clear_value y2
        refine Frame.ite (fun _ => ?_) (fun _ => ?_)
        · exact g1
        · exact State.retire_frame (hm.of rfl) g2
      · exact g0
    · exact h0

theorem State.tick_frame {m : Nat} {s0 : State} {x0 : State} (hm : Sub 0x500000001420010 m) (h0 : Frame m s0 x0) : Frame m s0 (State.tick x0) := by
  unfold State.tick
  refine Frame.ite (fun _ => ?_) (fun _ => ?_)
  · exact h0
  · refine Frame.ite (fun _ => ?_) (fun _ => ?_)
    · exact State.entryTick_frame (hm.of rfl) h0
    · refine Frame.ite (fun _ => ?_) (fun _ => ?_)
      · exact State.coarseTick_frame (hm.of rfl) h0
      · refine Frame.ite (fun _ => ?_) (fun _ => ?_)
        · extract_lets +onlyGivenNames -underBinder -merge y0
          have g0 : Frame m s0 y0 := by
            exact State.countMtime_frame (hm.of rfl) (State.countTime_frame (hm.of rfl) h0)
          try clear_value y0
          refine State.when_frame (hm.of rfl) ?_ ?_
          · intro y1 g1
            exact State.controlCycle_frame (hm.of rfl) (State.controlCycle_frame (hm.of rfl) g1)
          · exact g0
        · exact h0

theorem State.waitForInterrupt_frame {m : Nat} {s0 : State} {x0 : State} {x1 : Fin 4} (hm : Sub 0x400000810 m) (h0 : Frame m s0 x0) :
    Frame m s0 (State.waitForInterrupt x0 x1) := by
  unfold State.waitForInterrupt
  refine State.execute_frame (hm.of rfl) ?_ ?_
  · intro y0 g0
    refine Frame.ite (fun _ => ?_) (fun _ => ?_)
    · exact State.trap_frame (hm.of rfl) g0
    · refine Frame.ite (fun _ => ?_) (fun _ => ?_)
      · exact State.retire_frame (hm.of rfl) g0
      · refine State.when_frame (hm.of rfl) ?_ ?_
        · intro y1 g1
          exact State.entryBegins_frame (hm.of rfl) g1
        · refine State.modHart_frame (hm.of rfl) (fun _ => by first | ((try dsimp only) <;> (repeat' split) <;> simp; done) | exact Nat.zero_le _ | exact Nat.le_refl _) ?_
          exact State.retire_frame (hm.of rfl) g0
  · exact h0

/-! ### Machine/HartRun -/

theorem State.breakpoint_frame {m : Nat} {s0 : State} {x0 : State} {x1 : Nat} (hm : Sub 0x800 m) (h0 : Frame m s0 x0) :
    Frame m s0 (State.breakpoint x0 x1) := by
  unfold State.breakpoint
  extract_lets +onlyGivenNames -underBinder -merge y0
  try clear_value y0
  refine Frame.ite (fun _ => ?_) (fun _ => ?_)
  · refine State.modHart_frame (hm.of rfl) (fun _ => by first | ((try dsimp only) <;> (repeat' split) <;> simp; done) | exact Nat.zero_le _ | exact Nat.le_refl _) ?_
    exact h0
  · exact State.trap_frame (hm.of rfl) h0

theorem State.modCache_frame {m : Nat} {s0 : State} {x0 : State} {x1 : Nat} {x2 : Table (List Word) → Table (List Word)}
    (hm : Sub 0x1000 m) (h0 : Frame m s0 x0) : Frame m s0 (State.modCache x0 x1 x2) := by
  unfold State.modCache
  exact Frame.mem (hm.of rfl) (fun w => by first | exact w | exact Memory.wf_blank w | exact Memory.wf_ramFilter w _) h0

theorem State.fillLine_frame {m : Nat} {s0 : State} {x0 : State} {x1 x2 : Nat} (hm : Sub 0x1002 m) (h0 : Frame m s0 x0) :
    Frame m s0 (State.fillLine x0 x1 x2) := by
  unfold State.fillLine
  extract_lets +onlyGivenNames -underBinder -merge y0
  try clear_value y0
  split
  · extract_lets +onlyGivenNames -underBinder -merge y1
    have g1 : Frame m s0 y1.2 := by
      exact State.freeBool_frame (hm.of rfl) h0
    try clear_value y1
    exact State.modCache_frame (hm.of rfl) g1
  · exact State.modCache_frame (hm.of rfl) h0

theorem State.fetchMiss_frame {m : Nat} {s0 : State} {x0 : State} {x1 : Fin 4} {x2 x3 : Nat} {x4 : Upset}
    (hm : Sub 0x5174f43dc0047bb1a m) (h0 : Frame m s0 x0) : Frame m s0 (State.fetchMiss x0 x1 x2 x3 x4).1 := by
  unfold State.fetchMiss
  extract_lets +onlyGivenNames -underBinder -merge y0
  have g0 : Frame m s0 y0.1 := by
    exact State.busFetch_frame (hm.of rfl) h0
  try clear_value y0
  refine Frame.ite1 (fun _ => ?_) (fun _ => ?_)
  · exact g0
  · extract_lets +onlyGivenNames -underBinder -merge y1
    have g1 : Frame m s0 y1.1 := by
      exact State.busFetch_frame (hm.of rfl) g0
    try clear_value y1
    refine Frame.fst ?_
    refine Frame.ite (fun _ => ?_) (fun _ => ?_)
    · exact State.fillLine_frame (hm.of rfl) g1
    · exact g1

theorem State.fetchPart_frame {m : Nat} {s0 : State} {x0 : State} {x1 : Fin 4} {x2 x3 : Nat} {x4 : Upset}
    (hm : Sub 0x5174f43dc0047bb1a m) (h0 : Frame m s0 x0) : Frame m s0 (State.fetchPart x0 x1 x2 x3 x4).1 := by
  unfold State.fetchPart
  refine Frame.ite1 (fun _ => ?_) (fun _ => ?_)
  · exact State.busFetch_frame (hm.of rfl) h0
  · split
    · exact State.fetchMiss_frame (hm.of rfl) h0
    · refine Frame.ite1 (fun _ => ?_) (fun _ => ?_)
      · exact State.fetchMiss_frame (hm.of rfl) (State.modCache_frame (hm.of rfl) h0)
      · exact Frame.fst h0

theorem State.fetchInsn_frame {m : Nat} {s0 : State} {x0 : State} {x1 : Fin 4} {x2 : Nat} {x3 : Upset}
    (hm : Sub 0x5174f43dc0047bb1a m) (h0 : Frame m s0 x0) : FetchedIn m s0 (State.fetchInsn x0 x1 x2 x3) := by
  unfold State.fetchInsn
  extract_lets +onlyGivenNames -underBinder -merge y0
  try clear_value y0
  extract_lets +onlyGivenNames -underBinder -merge y1
  have g1 : Frame m s0 y1.1 := by
    exact State.fetchPart_frame (hm.of rfl) h0
  try clear_value y1
  refine ite_in (p := FetchedIn m s0) (fun _ => ?_) (fun _ => ?_)
  · trivial
  · refine ite_in (p := FetchedIn m s0) (fun _ => ?_) (fun _ => ?_)
    · trivial
    · refine ite_in (p := FetchedIn m s0) (fun _ => ?_) (fun _ => ?_)
      · change Frame m s0 _
        exact g1
      · refine ite_in (p := FetchedIn m s0) (fun _ => ?_) (fun _ => ?_)
        · change Frame m s0 _
          exact g1
        · refine ite_in (p := FetchedIn m s0) (fun _ => ?_) (fun _ => ?_)
          · trivial
          · refine ite_in (p := FetchedIn m s0) (fun _ => ?_) (fun _ => ?_)
            · change Frame m s0 _
              exact g1
            · extract_lets +onlyGivenNames -underBinder -merge y2
              have g2 : Frame m s0 y2.1 := by
                exact State.fetchPart_frame (hm.of rfl) g1
              try clear_value y2
              refine ite_in (p := FetchedIn m s0) (fun _ => ?_) (fun _ => ?_)
              · trivial
              · refine ite_in (p := FetchedIn m s0) (fun _ => ?_) (fun _ => ?_)
                · change Frame m s0 _
                  exact g2
                · change Frame m s0 _
                  exact g2

theorem State.fpInsn_frame {m : Nat} {s0 : State} {x0 : State} {x1 : Nat} {x2 : FpOp} {x3 x4 x5 x6 x7 : Nat} (hm : Sub 0x800 m) (h0 : Frame m s0 x0) :
    OptIn m s0 (State.fpInsn x0 x1 x2 x3 x4 x5 x6 x7) := by
  unfold State.fpInsn
  extract_lets +onlyGivenNames -underBinder -merge y0
  try clear_value y0
  refine ite_in (p := OptIn m s0) (fun _ => ?_) (fun _ => ?_)
  · trivial
  · split
    · trivial
    · extract_lets +onlyGivenNames -underBinder -merge y1
      try clear_value y1
      extract_lets +onlyGivenNames -underBinder -merge y2
      try clear_value y2
      extract_lets +onlyGivenNames -underBinder -merge y3
      have g3 : Frame m s0 y3 := by
        refine State.when_frame (hm.of rfl) ?_ ?_
        · intro y4 g4
          refine State.modHart_frame (hm.of rfl) (fun _ => by first | ((try dsimp only) <;> (repeat' split) <;> simp; done) | exact Nat.zero_le _ | exact Nat.le_refl _) ?_
          exact g4
        · exact h0
      try clear_value y3
      change Frame m s0 _
      exact State.loaded_frame (hm.of rfl) g3

theorem State.plainInsn_frame {m : Nat} {s0 : State} {x0 : State} {x1 : Nat} {x2 : Bool} {x3 : Insn} (hm : Sub 0x800 m) (h0 : Frame m s0 x0) :
    OptIn m s0 (State.plainInsn x0 x1 x2 x3) := by
  unfold State.plainInsn
  split
  · change Frame m s0 _
    refine State.modHart_frame (hm.of rfl) (fun _ => by first | ((try dsimp only) <;> (repeat' split) <;> simp; done) | exact Nat.zero_le _ | exact Nat.le_refl _) ?_
    exact h0
  · refine ite_in (p := OptIn m s0) (fun _ => ?_) (fun _ => ?_)
    · trivial
    · change Frame m s0 _
      refine State.modHart_frame (hm.of rfl) (fun _ => by first | ((try dsimp only) <;> (repeat' split) <;> simp; done) | exact Nat.zero_le _ | exact Nat.le_refl _) ?_
      exact h0
  · refine ite_in (p := OptIn m s0) (fun _ => ?_) (fun _ => ?_)
    · trivial
    · change Frame m s0 _
      refine State.modHart_frame (hm.of rfl) (fun _ => by first | ((try dsimp only) <;> (repeat' split) <;> simp; done) | exact Nat.zero_le _ | exact Nat.le_refl _) ?_
      exact h0
  · exact State.csrInsn_frame (hm.of rfl) h0
  · exact State.fpInsn_frame (hm.of rfl) h0
  · change Frame m s0 _
    exact h0
  · trivial

theorem State.runInsn_frame {m : Nat} {s0 : State} {x0 : State} {x1 x2 : Nat} (hm : Sub 0x800 m) (h0 : Frame m s0 x0) :
    Frame m s0 (State.runInsn x0 x1 x2) := by
  unfold State.runInsn
  extract_lets +onlyGivenNames -underBinder -merge y0
  try clear_value y0
  extract_lets +onlyGivenNames -underBinder -merge y1
  try clear_value y1
  extract_lets +onlyGivenNames -underBinder -merge y2
  try clear_value y2
  split
  · refine State.modHart_frame (hm.of rfl) (fun _ => by first | ((try dsimp only) <;> (repeat' split) <;> simp; done) | exact Nat.zero_le _ | exact Nat.le_refl _) ?_
    exact h0
  · refine State.modHart_frame (hm.of rfl) (fun _ => by first | ((try dsimp only) <;> (repeat' split) <;> simp; done) | exact Nat.zero_le _ | exact Nat.le_refl _) ?_
    exact h0
  · refine State.modHart_frame (hm.of rfl) (fun _ => by first | ((try dsimp only) <;> (repeat' split) <;> simp; done) | exact Nat.zero_le _ | exact Nat.le_refl _) ?_
    exact h0
  · refine State.modHart_frame (hm.of rfl) (fun _ => by first | ((try dsimp only) <;> (repeat' split) <;> simp; done) | exact Nat.zero_le _ | exact Nat.le_refl _) ?_
    exact h0
  · exact State.trap_frame (hm.of rfl) h0
  · exact State.breakpoint_frame (hm.of rfl) h0
  · refine Frame.ite (fun _ => ?_) (fun _ => ?_)
    · exact State.trap_frame (hm.of rfl) h0
    · refine State.modHart_frame (hm.of rfl) (fun _ => by first | ((try dsimp only) <;> (repeat' split) <;> simp; done) | exact Nat.zero_le _ | exact Nat.le_refl _) ?_
      exact h0
  · refine Frame.ite (fun _ => ?_) (fun _ => ?_)
    · refine State.modHart_frame (hm.of rfl) (fun _ => by first | ((try dsimp only) <;> (repeat' split) <;> simp; done) | exact Nat.zero_le _ | exact Nat.le_refl _) ?_
      exact h0
    · split
      · have g3 := of_eq_rev (p := OptIn m s0) ‹_ = some _› (by
          exact State.plainInsn_frame (hm.of rfl) h0)
        refine State.modHart_frame (hm.of rfl) (fun _ => by first | ((try dsimp only) <;> (repeat' split) <;> simp; done) | exact Nat.zero_le _ | exact Nat.le_refl _) ?_
        exact g3
      · exact State.trap_frame (hm.of rfl) h0

theorem State.hartFetch_frame {m : Nat} {s0 : State} {x0 : State} {x1 : Fin 4} {x2 : Nat} {x3 : Upset}
    (hm : Sub 0x5174f43dc0047bb1a m) (h0 : Frame m s0 x0) : Frame m s0 (State.hartFetch x0 x1 x2 x3) := by
  unfold State.hartFetch
  refine State.execute_frame (hm.of rfl) ?_ ?_
  · intro y0 g0
    extract_lets +onlyGivenNames -underBinder -merge y1
    have g1 : ∀ s, Frame m s0 s → Frame m s0 (y1 s) := by
      intro y2 g2
      refine State.modHart_frame (hm.of rfl) (fun _ => by first | ((try dsimp only) <;> (repeat' split) <;> simp; done) | exact Nat.zero_le _ | exact Nat.le_refl _) ?_
      exact g2
    try clear_value y1
    split
    · refine State.modHart_frame (hm.of rfl) (fun _ => by first | ((try dsimp only) <;> (repeat' split) <;> simp; done) | exact Nat.zero_le _ | exact Nat.le_refl _) ?_
      exact g1 _ g0
    · refine Frame.ite (fun _ => ?_) (fun _ => ?_)
      · exact State.trap_frame (hm.of rfl) (g1 _ g0)
      · split
        · exact g0
        · exact State.trap_frame (hm.of rfl) (g1 _ g0)
        · have g3 := of_eq_rev (p := FetchedIn m s0) ‹_ = .failed _› (by
            exact State.fetchInsn_frame (hm.of rfl) g0)
          exact State.trap_frame (hm.of rfl) (g1 _ g3)
        · have g4 := of_eq_rev (p := FetchedIn m s0) ‹_ = .got _ _› (by
            exact State.fetchInsn_frame (hm.of rfl) g0)
          exact State.runInsn_frame (hm.of rfl) (g1 _ g4)
  · exact h0

/-! ### Machine/DebugModule -/

theorem State.modDbg_frame {m : Nat} {s0 : State} {x0 : State} {x1 : Debug → Debug} (hm : Sub 0x4000 m) (h0 : Frame m s0 x0) :
    Frame m s0 (State.modDbg x0 x1) := by
  unfold State.modDbg
  exact Frame.dbg (hm.of rfl) h0

theorem State.abstractCmd_frame {m : Nat} {s0 : State} {x0 : State} {x1 : Fin 4} {x2 : State → DbgOut}
    (hm : Sub 0x4000 m) (f2 : ∀ z0, Frame m s0 z0 → DbgIn m s0 (x2 z0)) (h0 : Frame m s0 x0) : Frame m s0 (State.abstractCmd x0 x1 x2) := by
  unfold State.abstractCmd
  extract_lets +onlyGivenNames -underBinder -merge y0
  have g0 : Frame m s0 y0 := by
    exact State.modDbg_frame (hm.of rfl) h0
  try clear_value y0
  refine Frame.ite (fun _ => ?_) (fun _ => ?_)
  · exact g0
  · refine Frame.ite (fun _ => ?_) (fun _ => ?_)
    · exact State.modDbg_frame (hm.of rfl) g0
    · split
      · have g1 := of_eq_rev (p := DbgIn m s0) ‹_ = .done _› (by
          exact f2 _ g0)
        exact g1
      · have g2 := of_eq_rev (p := DbgIn m s0) ‹_ = .raised _› (by
          exact f2 _ g0)
        exact State.modDbg_frame (hm.of rfl) g2
      · exact g0

theorem State.dbgWrite_frame {m : Nat} {s0 : State} {x0 : State} {x1 : Fin 4} {x2 x3 x4 : Nat} {x5 : Upset} {x6 : State → Res → State}
    (hm : Sub 0xffffffffffffffff00f7bffa m) (f6 : ∀ z0 z1, Frame m s0 z0 → Frame m s0 (x6 z0 z1)) (h0 : Frame m s0 x0) :
    DbgIn m s0 (State.dbgWrite x0 x1 x2 x3 x4 x5 x6) := by
  unfold State.dbgWrite
  refine ite_in (p := DbgIn m s0) (fun _ => ?_) (fun _ => ?_)
  · change Frame m s0 _
    exact h0
  · extract_lets +onlyGivenNames -underBinder -merge y0
    have g0 : Frame m s0 y0.1 := by
      exact State.busWrite_frame (hm.of rfl) h0
    try clear_value y0
    refine ite_in (p := DbgIn m s0) (fun _ => ?_) (fun _ => ?_)
    · trivial
    · change Frame m s0 _
      exact f6 _ _ g0

theorem State.dbgStore_frame {m : Nat} {s0 : State} {x0 : State} {x1 : Fin 4} {x2 x3 x4 : Nat} {x5 : Upset}
    (hm : Sub 0xffffffffffffffff00f7bffa m) (h0 : Frame m s0 x0) : DbgIn m s0 (State.dbgStore x0 x1 x2 x3 x4 x5) := by
  unfold State.dbgStore
  refine State.dbgWrite_frame (hm.of rfl) ?_ ?_
  · intro y0 y1 g0
    exact g0
  · exact h0

theorem State.data1Inc_frame {m : Nat} {s0 : State} {x0 : State} {x1 : Bool} {x2 : Nat} (hm : Sub 0x4000 m) (h0 : Frame m s0 x0) :
    Frame m s0 (State.data1Inc x0 x1 x2) := by
  unfold State.data1Inc
  refine State.when_frame (hm.of rfl) ?_ ?_
  · intro y0 g0
    exact State.modDbg_frame (hm.of rfl) g0
  · exact h0

theorem State.dbgRead_frame {m : Nat} {s0 : State} {x0 : State} {x1 : Fin 4} {x2 x3 : Nat} {x4 : Upset} {x5 : State → Res → State}
    (hm : Sub 0x5174f43dc0047bb1a m) (f5 : ∀ z0 z1, Frame m s0 z0 → Frame m s0 (x5 z0 z1)) (h0 : Frame m s0 x0) :
    DbgIn m s0 (State.dbgRead x0 x1 x2 x3 x4 x5) := by
  unfold State.dbgRead
  refine ite_in (p := DbgIn m s0) (fun _ => ?_) (fun _ => ?_)
  · change Frame m s0 _
    exact h0
  · extract_lets +onlyGivenNames -underBinder -merge y0
    have g0 : Frame m s0 y0.1 := by
      exact State.busRead_frame (hm.of rfl) h0
    try clear_value y0
    refine ite_in (p := DbgIn m s0) (fun _ => ?_) (fun _ => ?_)
    · trivial
    · change Frame m s0 _
      exact f5 _ _ g0

theorem State.dbgLoad_frame {m : Nat} {s0 : State} {x0 : State} {x1 : Fin 4} {x2 x3 : Nat} {x4 : Upset} {x5 : State → Nat → State}
    (hm : Sub 0x5174f43dc0047bb1a m) (f5 : ∀ z0 z1, Frame m s0 z0 → Frame m s0 (x5 z0 z1)) (h0 : Frame m s0 x0) :
    DbgIn m s0 (State.dbgLoad x0 x1 x2 x3 x4 x5) := by
  unfold State.dbgLoad
  refine State.dbgRead_frame (hm.of rfl) ?_ ?_
  · intro y0 y1 g0
    exact f5 _ _ g0
  · exact h0

theorem State.accessMemory_frame {m : Nat} {s0 : State} {x0 : State} {x1 : Fin 4} {x2 : Bool} {x3 : Nat} {x4 : Bool} {x5 : Upset}
    (hm : Sub 0xffffffffffffffff00f7fffa m) (h0 : Frame m s0 x0) : Frame m s0 (State.accessMemory x0 x1 x2 x3 x4 x5) := by
  unfold State.accessMemory
  refine State.abstractCmd_frame (hm.of rfl) ?_ ?_
  · intro y0 g0
    extract_lets +onlyGivenNames -underBinder -merge y1
    try clear_value y1
    refine ite_in (p := DbgIn m s0) (fun _ => ?_) (fun _ => ?_)
    · split
      · have g2 := of_eq_rev (p := DbgIn m s0) ‹_ = .done _› (by
          exact State.dbgStore_frame (hm.of rfl) g0)
        change Frame m s0 _
        exact State.data1Inc_frame (hm.of rfl) g2
      · exact State.dbgStore_frame (hm.of rfl) g0
    · refine State.dbgLoad_frame (hm.of rfl) ?_ ?_
      · intro y4 y5 g4
        exact State.data1Inc_frame (hm.of rfl) (State.modDbg_frame (hm.of rfl) g4)
      · exact g0
  · exact h0

theorem State.dbgAtomic_frame {m : Nat} {s0 : State} {x0 : State} {x1 : Fin 4} {x2 : Nat} {x3 : DbgOut}
    (_ : Sub 0x0 m) (h0 : Frame m s0 x0) (h3 : DbgIn m s0 x3) : DbgIn m s0 (State.dbgAtomic x0 x1 x2 x3) := by
  unfold State.dbgAtomic
  refine ite_in (p := DbgIn m s0) (fun _ => ?_) (fun _ => ?_)
  · change Frame m s0 _
    exact h0
  · exact h3

theorem State.dbgInsn_frame {m : Nat} {s0 : State} {x0 : State} {x1 : Fin 4} {x2 : Insn} {x3 : Upset}
    (hm : Sub 0xffffffffffffffff00f7bffa m) (h0 : Frame m s0 x0) : DbgIn m s0 (State.dbgInsn x0 x1 x2 x3) := by
  unfold State.dbgInsn
  extract_lets +onlyGivenNames -underBinder -merge y0
  try clear_value y0
  extract_lets +onlyGivenNames -underBinder -merge y1
  try clear_value y1
  refine ite_in (p := DbgIn m s0) (fun _ => ?_) (fun _ => ?_)
  · change Frame m s0 _
    exact h0
  · split
    · refine State.dbgLoad_frame (hm.of rfl) ?_ ?_
      · intro y2 y3 g2
        exact State.loaded_frame (hm.of rfl) g2
      · exact h0
    · refine State.dbgLoad_frame (hm.of rfl) ?_ ?_
      · intro y4 y5 g4
        exact State.loaded_frame (hm.of rfl) g4
      · exact h0
    · exact State.dbgStore_frame (hm.of rfl) h0
    · exact State.dbgStore_frame (hm.of rfl) h0
    · refine State.dbgAtomic_frame (hm.of rfl) ?_ ?_
      · exact h0
      · refine State.dbgRead_frame (hm.of rfl) ?_ ?_
        · intro y6 y7 g6
          refine State.modHart_frame (hm.of rfl) (fun _ => by first | ((try dsimp only) <;> (repeat' split) <;> simp; done) | exact Nat.zero_le _ | exact Nat.le_refl _) ?_
          exact State.loaded_frame (hm.of rfl) g6
        · exact h0
    · extract_lets +onlyGivenNames -underBinder -merge y8
      try clear_value y8
      extract_lets +onlyGivenNames -underBinder -merge y9
      have g9 : Frame m s0 y9 := by
        refine State.modHart_frame (hm.of rfl) (fun _ => by first | ((try dsimp only) <;> (repeat' split) <;> simp; done) | exact Nat.zero_le _ | exact Nat.le_refl _) ?_
        exact h0
      try clear_value y9
      refine ite_in (p := DbgIn m s0) (fun _ => ?_) (fun _ => ?_)
      · refine State.dbgAtomic_frame (hm.of rfl) ?_ ?_
        · exact h0
        · change Frame m s0 _
          exact State.loaded_frame (hm.of rfl) g9
      · refine State.dbgAtomic_frame (hm.of rfl) ?_ ?_
        · exact h0
        · refine State.dbgWrite_frame (hm.of rfl) ?_ ?_
          · intro y10 y11 g10
            exact State.conditional_frame (hm.of rfl) g10
          · exact g9
    · extract_lets +onlyGivenNames -underBinder -merge y12
      try clear_value y12
      refine State.dbgAtomic_frame (hm.of rfl) ?_ ?_
      · exact h0
      · refine State.dbgRead_frame (hm.of rfl) ?_ ?_
        · intro y13 y14 g13
          extract_lets +onlyGivenNames -underBinder -merge y15
          try clear_value y15
          refine State.loaded_frame (hm.of rfl) ?_
          refine Frame.ite (fun _ => ?_) (fun _ => ?_)
          · exact State.busWrite_frame (hm.of rfl) g13
          · exact g13
        · exact h0
    · change Frame m s0 _
      exact Frame.mem (hm.of rfl) (fun w => by first | exact w | exact Memory.wf_blank w | exact Memory.wf_ramFilter w _) h0
    · split
      · have g16 := of_eq_rev (p := OptIn m s0) ‹_ = some _› (by
          exact State.plainInsn_frame (hm.of rfl) h0)
        change Frame m s0 _
        exact g16
      · change Frame m s0 _
        exact h0

theorem State.progRun_frame {m : Nat} {s0 : State} {x0 : Fin 4} {x1 : Disturb} {x2 x3 x4 : Nat} {x5 : State}
    (hm : Sub 0xffffffffffffffff00f7bffa m) (h5 : Frame m s0 x5) : DbgIn m s0 (State.progRun x0 x1 x2 x3 x4 x5) := by
  induction x2 generalizing x3 x4 x5 with
  | zero => exact h5
  | succ n ih =>
    unfold State.progRun
    refine ite_in (p := DbgIn m s0) (fun _ => h5) (fun _ => ?_)
    extract_lets lo w insn
    clear_value lo insn
    refine ite_in (p := DbgIn m s0) (fun _ => h5) (fun _ => ?_)
    refine ite_in (p := DbgIn m s0) (fun _ => h5) (fun _ => ?_)
    have g : DbgIn m s0 (x5.dbgInsn x0 insn (disturbAt x1 x4)) := State.dbgInsn_frame (hm.of rfl) h5
    split
    · have k := of_eq_rev (p := DbgIn m s0) ‹_ = .done _› g
      exact ih k
    · exact g

theorem State.progBuffer_frame {m : Nat} {s0 : State} {x0 : State} {x1 : Fin 4} {x2 : Disturb}
    (hm : Sub 0xffffffffffffffff00f7bffa m) (h0 : Frame m s0 x0) : DbgIn m s0 (State.progBuffer x0 x1 x2) := by
  unfold State.progBuffer
  refine State.progRun_frame (hm.of rfl) ?_
  refine State.modHart_frame (hm.of rfl) (fun _ => by first | ((try dsimp only) <;> (repeat' split) <;> simp; done) | exact Nat.zero_le _ | exact Nat.le_refl _) ?_
  exact h0

theorem State.setDebugReg_frame {m : Nat} {s0 : State} {x0 : State} {x1 x2 : Nat} {x3 : Word} (hm : Sub 0x800 m) (h0 : Frame m s0 x0) :
    Frame m s0 (State.setDebugReg x0 x1 x2 x3) := by
  unfold State.setDebugReg
  exact State.modHart_frame (hm.of rfl) (fun _ => by split <;> (try split) <;> simp [Hart.csrWrite_posts]) h0

theorem State.accessRegister_frame {m : Nat} {s0 : State} {x0 : State} {x1 : Fin 4} {x2 x3 : Bool} {x4 : Nat} {x5 : Bool} {x6 : Disturb}
    (hm : Sub 0xffffffffffffffff00f7fffa m) (h0 : Frame m s0 x0) : Frame m s0 (State.accessRegister x0 x1 x2 x3 x4 x5 x6) := by
  unfold State.accessRegister
  refine State.abstractCmd_frame (hm.of rfl) ?_ ?_
  · intro y0 g0
    split
    · refine ite_in (p := DbgIn m s0) (fun _ => ?_) (fun _ => ?_)
      · change Frame m s0 _
        exact g0
      · refine ite_in (p := DbgIn m s0) (fun _ => ?_) (fun _ => ?_)
        · exact State.progBuffer_frame (hm.of rfl) g0
        · change Frame m s0 _
          exact g0
    · extract_lets +onlyGivenNames -underBinder -merge y1
      have g1 : Frame m s0 y1 := by
        refine Frame.ite (fun _ => ?_) (fun _ => ?_)
        · exact g0
        · refine Frame.ite (fun _ => ?_) (fun _ => ?_)
          · exact State.setDebugReg_frame (hm.of rfl) g0
          · exact State.modDbg_frame (hm.of rfl) g0
      try clear_value y1
      refine ite_in (p := DbgIn m s0) (fun _ => ?_) (fun _ => ?_)
      · exact State.progBuffer_frame (hm.of rfl) g1
      · change Frame m s0 _
        exact g1
  · exact h0

theorem State.sbAccess_frame {m : Nat} {s0 : State} {x0 : State} {x1 : Fin 4} {x2 : Bool} {x3 : Nat} {x4 : Upset}
    (hm : Sub 0xffffffffffffffff00f7fffe m) (h0 : Frame m s0 x0) : Frame m s0 (State.sbAccess x0 x1 x2 x3 x4) := by
  unfold State.sbAccess
  extract_lets +onlyGivenNames -underBinder -merge y0
  try clear_value y0
  refine Frame.ite (fun _ => ?_) (fun _ => ?_)
  · exact h0
  · refine Frame.ite (fun _ => ?_) (fun _ => ?_)
    · exact State.modDbg_frame (hm.of rfl) h0
    · extract_lets +onlyGivenNames -underBinder -merge y1
      try clear_value y1
      refine Frame.ite (fun _ => ?_) (fun _ => ?_)
      · extract_lets +onlyGivenNames -underBinder -merge y2
        have g2 : Frame m s0 y2.1 := by
          exact State.busWrite_frame (hm.of rfl) h0
        try clear_value y2
        refine Frame.ite (fun _ => ?_) (fun _ => ?_)
        · exact h0
        · exact State.modDbg_frame (hm.of rfl) g2
      · extract_lets +onlyGivenNames -underBinder -merge y3
        have g3 : Frame m s0 y3.1 := by
          exact State.busRead_frame (hm.of rfl) h0
        try clear_value y3
        refine Frame.ite (fun _ => ?_) (fun _ => ?_)
        · exact h0
        · exact State.reply_frame (hm.of rfl) (State.modDbg_frame (hm.of rfl) g3)

theorem State.dmBus_frame {m : Nat} {s0 : State} {x0 : State} {x1 : Bool} (hm : Sub 0xffffffffffffffff00f7fffe m) (h0 : Frame m s0 x0) :
    Frame m s0 (State.dmBus x0 x1) := by
  unfold State.dmBus
  split
  · exact State.modDbg_frame (hm.of rfl) h0
  · refine Frame.ite (fun _ => ?_) (fun _ => ?_)
    · exact h0
    · refine Frame.ite (fun _ => ?_) (fun _ => ?_)
      · exact State.modDbg_frame (hm.of rfl) h0
      · exact State.sbAccess_frame (hm.of rfl) h0

theorem State.dmCommand_frame {m : Nat} {s0 : State} {x0 : State} {x1 : Nat} (hm : Sub 0xffffffffffffffff00f7fffa m) (h0 : Frame m s0 x0) :
    Frame m s0 (State.dmCommand x0 x1) := by
  unfold State.dmCommand
  refine Frame.ite (fun _ => ?_) (fun _ => ?_)
  · exact h0
  · split
    · exact State.modDbg_frame (hm.of rfl) h0
    · refine Frame.ite (fun _ => ?_) (fun _ => ?_)
      · refine Frame.ite (fun _ => ?_) (fun _ => ?_)
        · exact State.modDbg_frame (hm.of rfl) h0
        · exact State.accessRegister_frame (hm.of rfl) h0
      · refine Frame.ite (fun _ => ?_) (fun _ => ?_)
        · refine Frame.ite (fun _ => ?_) (fun _ => ?_)
          · exact State.modDbg_frame (hm.of rfl) h0
          · exact State.accessMemory_frame (hm.of rfl) h0
        · exact State.modDbg_frame (hm.of rfl) h0

theorem State.ndmReset_frame {m : Nat} {s0 : State} {x0 : State} {x1 : Bool} (hm : Sub 0x820000000b04030 m) (h0 : Frame m s0 x0) :
    Frame m s0 (State.ndmReset x0 x1) := by
  unfold State.ndmReset
  extract_lets +onlyGivenNames -underBinder -merge y0
  have g0 : Frame m s0 y0 := by
    exact State.modDbg_frame (hm.of rfl) h0
  try clear_value y0
  extract_lets +onlyGivenNames -underBinder -merge y1
  have g1 : Frame m s0 y1 := by
    exact State.modRst_frame (hm.of rfl) g0
  try clear_value y1
  refine Frame.ite (fun _ => ?_) (fun _ => ?_)
  · exact State.askReset_frame (hm.of rfl) g1
  · exact State.leaveReset_frame (hm.of rfl) g1

theorem State.resetHalt_frame {m : Nat} {s0 : State} {x0 : State} {x1 : Nat} {x2 : Bool} (hm : Sub 0x800 m) (h0 : Frame m s0 x0) :
    Frame m s0 (State.resetHalt x0 x1 x2) := by
  unfold State.resetHalt
  refine State.when_frame (hm.of rfl) ?_ ?_
  · intro y0 g0
    refine State.modHart_frame (hm.of rfl) (fun _ => by first | ((try dsimp only) <;> (repeat' split) <;> simp; done) | exact Nat.zero_le _ | exact Nat.le_refl _) ?_
    exact g0
  · exact h0

theorem State.hartReset_frame {m : Nat} {s0 : State} {x0 : State} {x1 : Fin 4} {x2 : Bool}
    (hm : Sub 0xffffffffffffffff00f6ff32 m) (h0 : Frame m s0 x0) : Frame m s0 (State.hartReset x0 x1 x2) := by
  unfold State.hartReset
  extract_lets +onlyGivenNames -underBinder -merge y0
  have g0 : Frame m s0 y0 := by
    refine State.modHart_frame (hm.of rfl) (fun _ => by first | ((try dsimp only) <;> (repeat' split) <;> simp; done) | exact Nat.zero_le _ | exact Nat.le_refl _) ?_
    exact State.modDbg_frame (hm.of rfl) h0
  try clear_value y0
  refine Frame.ite (fun _ => ?_) (fun _ => ?_)
  · extract_lets +onlyGivenNames -underBinder -merge y1
    have g1 : Frame m s0 y1 := by
      exact State.modRst_frame (hm.of rfl) g0
    try clear_value y1
    refine Frame.ite (fun _ => ?_) (fun _ => ?_)
    · exact State.askReset_frame (hm.of rfl) g1
    · exact State.leaveReset_frame (hm.of rfl) g1
  · refine Frame.ite (fun _ => ?_) (fun _ => ?_)
    · exact State.tenantReset_frame (hm.of rfl) g0
    · exact g0

theorem State.resumeReq_frame {m : Nat} {s0 : State} {x0 : State} {x1 : Nat} (hm : Sub 0x4800 m) (h0 : Frame m s0 x0) :
    Frame m s0 (State.resumeReq x0 x1) := by
  unfold State.resumeReq
  exact State.resumeHart_frame (hm.of rfl) (State.modDbg_frame (hm.of rfl) h0)

theorem State.dmHart_frame {m : Nat} {s0 : State} {x0 : State} {x1 : Nat} (hm : Sub 0xffffffffffffffff00f6ff32 m) (h0 : Frame m s0 x0) :
    Frame m s0 (State.dmHart x0 x1) := by
  unfold State.dmHart
  split
  · exact h0
  · extract_lets +onlyGivenNames -underBinder -merge y0
    have g0 : Frame m s0 y0 := by
      refine State.when_frame (hm.of rfl) ?_ ?_
      · intro y1 g1
        exact State.modDbg_frame (hm.of rfl) g1
      · exact h0
    try clear_value y0
    extract_lets +onlyGivenNames -underBinder -merge y2
    have g2 : Frame m s0 y2 := by
      refine State.when_frame (hm.of rfl) ?_ ?_
      · intro y3 g3
        exact State.resetHalt_frame (hm.of rfl) g3
      · exact g0
    try clear_value y2
    extract_lets +onlyGivenNames -underBinder -merge y4
    have g4 : Frame m s0 y4 := by
      refine State.when_frame (hm.of rfl) ?_ ?_
      · intro y5 g5
        exact State.resetHalt_frame (hm.of rfl) g5
      · exact g2
    try clear_value y4
    extract_lets +onlyGivenNames -underBinder -merge y6
    have g6 : Frame m s0 y6 := by
      refine State.when_frame (hm.of rfl) ?_ ?_
      · intro y7 g7
        exact State.hartReset_frame (hm.of rfl) g7
      · exact g4
    try clear_value y6
    refine Frame.ite (fun _ => ?_) (fun _ => ?_)
    · exact State.haltHart_frame (hm.of rfl) g6
    · refine State.when_frame (hm.of rfl) ?_ ?_
      · intro y8 g8
        exact State.resumeReq_frame (hm.of rfl) g8
      · exact g6

theorem State.dmControl_frame {m : Nat} {s0 : State} {x0 : State} {x1 : Nat} (hm : Sub 0xffffffffffffffff00f6ff32 m) (h0 : Frame m s0 x0) :
    Frame m s0 (State.dmControl x0 x1) := by
  unfold State.dmControl
  refine Frame.ite (fun _ => ?_) (fun _ => ?_)
  · extract_lets +onlyGivenNames -underBinder -merge y0
    have g0 : Frame m s0 y0 := by
      exact State.modDbg_frame (hm.of rfl) h0
    try clear_value y0
    refine State.when_frame (hm.of rfl) ?_ ?_
    · intro y1 g1
      exact State.ndmReset_frame (hm.of rfl) g1
    · exact g0
  · extract_lets +onlyGivenNames -underBinder -merge y2
    have g2 : Frame m s0 y2 := by
      exact State.modDbg_frame (hm.of rfl) h0
    try clear_value y2
    refine State.dmHart_frame (hm.of rfl) ?_
    refine State.when_frame (hm.of rfl) ?_ ?_
    · intro y3 g3
      exact State.ndmReset_frame (hm.of rfl) g3
    · exact g2

theorem State.dmTouched_frame {m : Nat} {s0 : State} {x0 : State} {x1 : Nat} (hm : Sub 0xffffffffffffffff00f7fffe m) (h0 : Frame m s0 x0) :
    Frame m s0 (State.dmTouched x0 x1) := by
  unfold State.dmTouched
  refine State.when_frame (hm.of rfl) ?_ ?_
  · intro y0 g0
    exact State.dmBus_frame (hm.of rfl) g0
  · exact h0

theorem State.dmWrite_frame {m : Nat} {s0 : State} {x0 : State} {x1 x2 : Nat} (hm : Sub 0xffffffffffffffff00f7fffe m) (h0 : Frame m s0 x0) :
    Frame m s0 (State.dmWrite x0 x1 x2) := by
  unfold State.dmWrite
  refine Frame.ite (fun _ => ?_) (fun _ => ?_)
  · exact State.dmControl_frame (hm.of rfl) h0
  · refine Frame.ite (fun _ => ?_) (fun _ => ?_)
    · exact h0
    · refine Frame.ite (fun _ => ?_) (fun _ => ?_)
      · exact State.modDbg_frame (hm.of rfl) h0
      · refine Frame.ite (fun _ => ?_) (fun _ => ?_)
        · exact State.modDbg_frame (hm.of rfl) h0
        · refine Frame.ite (fun _ => ?_) (fun _ => ?_)
          · exact State.modDbg_frame (hm.of rfl) h0
          · refine Frame.ite (fun _ => ?_) (fun _ => ?_)
            · exact State.dmCommand_frame (hm.of rfl) h0
            · refine Frame.ite (fun _ => ?_) (fun _ => ?_)
              · exact State.modDbg_frame (hm.of rfl) h0
              · refine Frame.ite (fun _ => ?_) (fun _ => ?_)
                · exact State.modDbg_frame (hm.of rfl) h0
                · refine Frame.ite (fun _ => ?_) (fun _ => ?_)
                  · extract_lets +onlyGivenNames -underBinder -merge y0
                    have g0 : Frame m s0 y0 := by
                      exact State.modDbg_frame (hm.of rfl) h0
                    try clear_value y0
                    refine State.when_frame (hm.of rfl) ?_ ?_
                    · intro y1 g1
                      exact State.dmBus_frame (hm.of rfl) g1
                    · exact g0
                  · refine Frame.ite (fun _ => ?_) (fun _ => ?_)
                    · exact State.dmBus_frame (hm.of rfl) (State.modDbg_frame (hm.of rfl) h0)
                    · exact h0

theorem State.shiftOut_frame {m : Nat} {s0 : State} {x0 : State} {x1 : Nat} (hm : Sub 0x4000 m) (h0 : Frame m s0 x0) :
    Frame m s0 (State.shiftOut x0 x1) := by
  unfold State.shiftOut
  refine State.when_frame (hm.of rfl) ?_ ?_
  · intro y0 g0
    exact State.modDbg_frame (hm.of rfl) g0
  · exact h0

theorem State.dmiScan_frame {m : Nat} {s0 : State} {x0 : State} {x1 : Nat} (hm : Sub 0xffffffffffffffff00f7fffe m) (h0 : Frame m s0 x0) :
    Frame m s0 (State.dmiScan x0 x1) := by
  unfold State.dmiScan
  extract_lets +onlyGivenNames -underBinder -merge y0
  try clear_value y0
  extract_lets +onlyGivenNames -underBinder -merge y1
  have g1 : Frame m s0 y1 := by
    exact State.shiftOut_frame (hm.of rfl) h0
  try clear_value y1
  split
  · exact State.dmTouched_frame (hm.of rfl) (State.modDbg_frame (hm.of rfl) g1)
  · exact State.modDbg_frame (hm.of rfl) (State.dmWrite_frame (hm.of rfl) g1)
  · exact State.modDbg_frame (hm.of rfl) g1

theorem State.systemBus_frame {m : Nat} {s0 : State} {x0 : State} {x1 : Fin 4} {x2 : Bool} {x3 x4 x5 : Nat} {x6 : Upset}
    (hm : Sub 0xffffffffffffffff00f7fffe m) (h0 : Frame m s0 x0) : Frame m s0 (State.systemBus x0 x1 x2 x3 x4 x5 x6) := by
  unfold State.systemBus
  refine Frame.ite (fun _ => ?_) (fun _ => ?_)
  · exact h0
  · extract_lets +onlyGivenNames -underBinder -merge y0
    have g0 : Frame m s0 y0 := by
      exact State.modDbg_frame (hm.of rfl) h0
    try clear_value y0
    exact State.sbAccess_frame (hm.of rfl) g0

end Sys2Proof.Machine
end

