-- ==== Sys2Proof/Laws/FrameCmd.lean ====
section
/-!
SUPPORT. The frames of the commands: each answers a next state, and what it may change. `Sub k m` says that the parts in `k` may change; `Allows` says it of a field given by the caller.
-/

namespace Sys2Proof.Machine

/-! ### Machine/CmdSupply -/

theorem execChargeRestart_frame {m : Nat} {s0 : State} {x0 : State} (hm : Sub 0x800000000 m) (h0 : Frame m s0 x0) :
    ∃ t, (execChargeRestart x0) = .next t ∧ Frame m s0 t := by
  refine ⟨_, rfl, ?_⟩
  exact State.put_frame (hm.of rfl) (Allows.page (p := 3) rfl (hm.of rfl)) h0

theorem execChgLimitHit_frame {m : Nat} {s0 : State} {x0 : State} (hm : Sub 0x800000000 m) (h0 : Frame m s0 x0) :
    ∃ t, (execChgLimitHit x0) = .next t ∧ Frame m s0 t := by
  refine ⟨_, rfl, ?_⟩
  refine Frame.ite (fun _ => ?_) (fun _ => ?_)
  · exact State.raise_frame (hm.of rfl) (Allows.page (p := 3) rfl (hm.of rfl)) (State.put_frame (hm.of rfl) (Allows.page (p := 3) rfl (hm.of rfl)) h0)
  · exact h0

theorem execColdStart_frame {m : Nat} {s0 : State} {x0 : Bool} {x1 : State} (hm : Sub 0x8 m) (h1 : Frame m s0 x1) :
    ∃ t, (execColdStart x0 x1) = .next t ∧ Frame m s0 t := by
  refine ⟨_, rfl, ?_⟩
  refine Frame.ite (fun _ => ?_) (fun _ => ?_)
  · exact Frame.supply (hm.of rfl) h1
  · exact h1

theorem execGaugeChargeRead_frame {m : Nat} {s0 : State} {x0 : Master} {x1 : GaugeCount} {x2 : State}
    (hm : Sub 0x5174f43dc0047bb1e m) (h2 : Frame m s0 x2) : ∃ t, (execGaugeChargeRead x0 x1 x2) = .next t ∧ Frame m s0 t := by
  refine ⟨_, rfl, ?_⟩
  exact State.cmdRead_frame (hm.of rfl) (State.judgeUnc_frame (hm.of rfl) (State.gaugeCount_frame (hm.of rfl) h2))

theorem execGaugeSampleDue_frame {m : Nat} {s0 : State} {x0 : GaugeCount} {x1 : State} (hm : Sub 0x800000008 m) (h1 : Frame m s0 x1) :
    ∃ t, (execGaugeSampleDue x0 x1) = .next t ∧ Frame m s0 t := by
  refine ⟨_, rfl, ?_⟩
  extract_lets +onlyGivenNames -underBinder -merge y0
  have g0 : Frame m s0 y0 := by
    exact State.judgeUnc_frame (hm.of rfl) (State.gaugeCount_frame (hm.of rfl) h1)
  try clear_value y0
  refine Frame.ite (fun _ => ?_) (fun _ => ?_)
  · exact Frame.supply (hm.of rfl) g0
  · exact g0

theorem execMainsFaultLatch_frame {m : Nat} {s0 : State} {x0 : State} (hm : Sub 0x800000000 m) (h0 : Frame m s0 x0) :
    ∃ t, (execMainsFaultLatch x0) = .next t ∧ Frame m s0 t := by
  refine ⟨_, rfl, ?_⟩
  refine Frame.ite (fun _ => ?_) (fun _ => ?_)
  · exact h0
  · refine State.when_frame (hm.of rfl) ?_ ?_
    · intro y0 g0
      exact State.raise_frame (hm.of rfl) (Allows.page (p := 3) rfl (hm.of rfl)) g0
    · exact State.put_frame (hm.of rfl) (Allows.page (p := 3) rfl (hm.of rfl)) (State.put_frame (hm.of rfl) (Allows.page (p := 3) rfl (hm.of rfl)) h0)

theorem execMainsLatchClear_frame {m : Nat} {s0 : State} {x0 : State} (hm : Sub 0x800000000 m) (h0 : Frame m s0 x0) :
    ∃ t, (execMainsLatchClear x0) = .next t ∧ Frame m s0 t := by
  refine ⟨_, rfl, ?_⟩
  refine Frame.ite (fun _ => ?_) (fun _ => ?_)
  · exact h0
  · refine State.when_frame (hm.of rfl) ?_ ?_
    · intro y0 g0
      exact State.raise_frame (hm.of rfl) (Allows.page (p := 3) rfl (hm.of rfl)) g0
    · exact State.put_frame (hm.of rfl) (Allows.page (p := 3) rfl (hm.of rfl)) h0

theorem execMainsPresentChange_frame {m : Nat} {s0 : State} {x0 : Bool} {x1 : State} (hm : Sub 0x1c00028830 m) (h1 : Frame m s0 x1) :
    ∃ t, (execMainsPresentChange x0 x1) = .next t ∧ Frame m s0 t := by
  refine ⟨_, rfl, ?_⟩
  refine Frame.ite (fun _ => ?_) (fun _ => ?_)
  · exact h1
  · extract_lets +onlyGivenNames -underBinder -merge y0
    have g0 : Frame m s0 y0 := by
      exact State.putB_frame (hm.of rfl) (Allows.page (p := 3) rfl (hm.of rfl)) h1
    try clear_value y0
    refine Frame.ite (fun _ => ?_) (fun _ => ?_)
    · refine State.when_frame (hm.of rfl) ?_ ?_
      · intro y1 g1
        exact State.exitOff_frame (hm.of rfl) g1
      · exact g0
    · refine Frame.ite (fun _ => ?_) (fun _ => ?_)
      · refine State.when_frame (hm.of rfl) ?_ ?_
        · intro y2 g2
          exact State.wake_frame (hm.of rfl) g2
        · exact State.raise_frame (hm.of rfl) (Allows.page (p := 3) rfl (hm.of rfl)) g0
      · exact g0

theorem execMpptDue_frame {m : Nat} {s0 : State} {x0 : State} (hm : Sub 0x8 m) (h0 : Frame m s0 x0) :
    ∃ t, (execMpptDue x0) = .next t ∧ Frame m s0 t := by
  refine ⟨_, rfl, ?_⟩
  refine Frame.ite (fun _ => ?_) (fun _ => ?_)
  · extract_lets +onlyGivenNames -underBinder -merge y0
    try clear_value y0
    refine State.when_frame (hm.of rfl) ?_ ?_
    · intro y1 g1
      exact State.tryMppt_frame (hm.of rfl) g1
    · exact Frame.supply (hm.of rfl) h0
  · exact h0

theorem execMpptSettleEnd_frame {m : Nat} {s0 : State} {x0 : Fin 8192} {x1 : State} (hm : Sub 0x200000000000008 m) (h1 : Frame m s0 x1) :
    ∃ t, (execMpptSettleEnd x0 x1) = .next t ∧ Frame m s0 t := by
  refine ⟨_, rfl, ?_⟩
  refine Frame.ite (fun _ => ?_) (fun _ => ?_)
  · exact h1
  · exact State.bgStep_frame (hm.of rfl) (State.takeVoc_frame (hm.of rfl) h1)

theorem execPgoodFall_frame {m : Nat} {s0 : State} {x0 : State} (hm : Sub 0x1c00028818 m) (h0 : Frame m s0 x0) :
    ∃ t, (execPgoodFall x0) = .next t ∧ Frame m s0 t := by
  refine ⟨_, rfl, ?_⟩
  refine State.when_frame (hm.of rfl) ?_ ?_
  · intro y0 g0
    exact State.setComp_frame (hm.of rfl) g0
  · exact h0

theorem execPgoodRise_frame {m : Nat} {s0 : State} {x0 : State} (hm : Sub 0x1c00028818 m) (h0 : Frame m s0 x0) :
    ∃ t, (execPgoodRise x0) = .next t ∧ Frame m s0 t := by
  refine ⟨_, rfl, ?_⟩
  refine State.when_frame (hm.of rfl) ?_ ?_
  · intro y0 g0
    exact State.setComp_frame (hm.of rfl) g0
  · exact h0

theorem execRailFault_frame {m : Nat} {s0 : State} {x0 : Rail} {x1 : State} (hm : Sub 0x800000000 m) (h1 : Frame m s0 x1) :
    ∃ t, (execRailFault x0 x1) = .next t ∧ Frame m s0 t := by
  refine ⟨_, rfl, ?_⟩
  refine Frame.ite (fun _ => ?_) (fun _ => ?_)
  · exact State.raise_frame (hm.of rfl) (Allows.page (p := 3) rfl (hm.of rfl)) (State.put_frame (hm.of rfl) (allows_railFlag (hm.of rfl)) h1)
  · exact h1

theorem execRailRetry_frame {m : Nat} {s0 : State} {x0 : Rail} {x1 : Bool} {x2 : State} (hm : Sub 0x800000000 m) (h2 : Frame m s0 x2) :
    ∃ t, (execRailRetry x0 x1 x2) = .next t ∧ Frame m s0 t := by
  refine ⟨_, rfl, ?_⟩
  refine Frame.ite (fun _ => ?_) (fun _ => ?_)
  · refine Frame.ite (fun _ => ?_) (fun _ => ?_)
    · exact State.raise_frame (hm.of rfl) (Allows.page (p := 3) rfl (hm.of rfl)) h2
    · exact State.put_frame (hm.of rfl) (allows_railFlag (hm.of rfl)) h2
  · exact h2

theorem execRegisterWrite_frame {m : Nat} {s0 : State} {x0 : Master} {x1 x2 : Word} {x3 : State}
    (hm : Sub 0xffffffffffffffff00f7bffa m) (h3 : Frame m s0 x3) : ∃ t, (execRegisterWrite x0 x1 x2 x3) = .next t ∧ Frame m s0 t := by
  refine ⟨_, rfl, ?_⟩
  exact State.cmdWrite_frame (hm.of rfl) h3

theorem execRestTaken_frame {m : Nat} {s0 : State} {x0 : Fin 8192} {x1 : GaugeCount} {x2 : State}
    (hm : Sub 0x200000800000008 m) (h2 : Frame m s0 x2) : ∃ t, (execRestTaken x0 x1 x2) = .next t ∧ Frame m s0 t := by
  refine ⟨_, rfl, ?_⟩
  extract_lets +onlyGivenNames -underBinder -merge y0
  have g0 : Frame m s0 y0 := by
    exact State.gaugeCount_frame (hm.of rfl) h2
  try clear_value y0
  refine State.when_frame (hm.of rfl) ?_ ?_
  · intro y1 g1
    exact State.gaugeSampled_frame (hm.of rfl) g1
  · exact g0

theorem execRestTimeExpiry_frame {m : Nat} {s0 : State} {x0 : State} (hm : Sub 0x8 m) (h0 : Frame m s0 x0) :
    ∃ t, (execRestTimeExpiry x0) = .next t ∧ Frame m s0 t := by
  refine ⟨_, rfl, ?_⟩
  refine Frame.ite (fun _ => ?_) (fun _ => ?_)
  · exact Frame.supply (hm.of rfl) h0
  · exact h0

theorem execSourceInvalid_frame {m : Nat} {s0 : State} {x0 : Source} {x1 : State} (hm : Sub 0x10000800000000 m) (h1 : Frame m s0 x1) :
    ∃ t, (execSourceInvalid x0 x1) = .next t ∧ Frame m s0 t := by
  refine ⟨_, rfl, ?_⟩
  refine State.when_frame (hm.of rfl) ?_ ?_
  · intro y0 g0
    exact State.put_frame (hm.of rfl) (Allows.page (p := 20) rfl (hm.of rfl)) g0
  · exact State.put_frame (hm.of rfl) (allows_srcField (hm.of rfl)) h1

theorem execSourceValid_frame {m : Nat} {s0 : State} {x0 : Source} {x1 : State} (hm : Sub 0x10000a00000038 m) (h1 : Frame m s0 x1) :
    ∃ t, (execSourceValid x0 x1) = .next t ∧ Frame m s0 t := by
  refine ⟨_, rfl, ?_⟩
  refine Frame.ite (fun _ => ?_) (fun _ => ?_)
  · exact h1
  · extract_lets +onlyGivenNames -underBinder -merge y0
    try clear_value y0
    extract_lets +onlyGivenNames -underBinder -merge y1
    have g1 : Frame m s0 y1 := by
      refine State.when_frame (hm.of rfl) ?_ ?_
      · intro y2 g2
        exact State.put_frame (hm.of rfl) (Allows.page (p := 20) rfl (hm.of rfl)) g2
      · exact State.put_frame (hm.of rfl) (allows_srcField (hm.of rfl)) h1
    try clear_value y1
    extract_lets +onlyGivenNames -underBinder -merge y3
    extract_lets +onlyGivenNames -underBinder -merge y4
    have g4 : Frame m s0 y4 := by
      exact Frame.supply (hm.of rfl) g1
    try clear_value y4
    refine State.powerBack_frame (hm.of rfl) ?_
    refine State.when_frame (hm.of rfl) ?_ ?_
    · intro y5 g5
      exact State.vbatReturn_frame (hm.of rfl) g5
    · exact g4

theorem execSrcChange_frame {m : Nat} {s0 : State} {x0 : State} (hm : Sub 0x1c00028810 m) (h0 : Frame m s0 x0) :
    ∃ t, (execSrcChange x0) = .next t ∧ Frame m s0 t := by
  refine ⟨_, rfl, ?_⟩
  exact State.changeSource_frame (hm.of rfl) h0

theorem execStorageCurrentBandChange_frame {m : Nat} {s0 : State} {x0 : Bool} {x1 : GaugeCount} {x2 : State}
    (hm : Sub 0x800000008 m) (h2 : Frame m s0 x2) : ∃ t, (execStorageCurrentBandChange x0 x1 x2) = .next t ∧ Frame m s0 t := by
  refine ⟨_, rfl, ?_⟩
  extract_lets +onlyGivenNames -underBinder -merge y0
  have g0 : Frame m s0 y0 := by
    exact State.judgeUnc_frame (hm.of rfl) (State.gaugeCount_frame (hm.of rfl) h2)
  try clear_value y0
  exact Frame.supply (hm.of rfl) g0

theorem execSupplyPgoodWrite_frame {m : Nat} {s0 : State} {x0 : Master} {x1 : Word} {x2 : State}
    (hm : Sub 0xffffffffffffffff00f7bffa m) (h2 : Frame m s0 x2) : ∃ t, (execSupplyPgoodWrite x0 x1 x2) = .next t ∧ Frame m s0 t := by
  refine ⟨_, rfl, ?_⟩
  exact State.cmdWrite_frame (hm.of rfl) h2

theorem execUncOver_frame {m : Nat} {s0 : State} {x0 : GaugeCount} {x1 : State} (hm : Sub 0x800000008 m) (h1 : Frame m s0 x1) :
    ∃ t, (execUncOver x0 x1) = .next t ∧ Frame m s0 t := by
  refine ⟨_, rfl, ?_⟩
  exact State.judgeUnc_frame (hm.of rfl) (State.gaugeCount_frame (hm.of rfl) h1)

/-! ### Machine/CmdReset -/

theorem execBootCopyDone_frame {m : Nat} {s0 : State} {x0 : Disturb} {x1 : State} (hm : Sub 0x3c000001a22 m) (h1 : Frame m s0 x1) :
    ∃ t, (execBootCopyDone x0 x1) = .next t ∧ Frame m s0 t := by
  refine ⟨_, rfl, ?_⟩
  exact State.bootCopied_frame (hm.of rfl) h1

theorem execBootSequencerCheck_frame {m : Nat} {s0 : State} {x0 : Disturb} {x1 : State} (hm : Sub 0x3c200081a32 m) (h1 : Frame m s0 x1) :
    ∃ t, (execBootSequencerCheck x0 x1) = .next t ∧ Frame m s0 t := by
  refine ⟨_, rfl, ?_⟩
  exact State.bootCheck_frame (hm.of rfl) h1

theorem execBrownOut_frame {m : Nat} {s0 : State} {x0 : Bool} {x1 : State} (hm : Sub 0xffffffffffffffff01ffbff8 m) (h1 : Frame m s0 x1) :
    ∃ t, (execBrownOut x0 x1) = .next t ∧ Frame m s0 t := by
  refine ⟨_, rfl, ?_⟩
  exact State.brownOut_frame (hm.of rfl) h1

theorem execFuseLoad_frame {m : Nat} {s0 : State} {x0 : State} (hm : Sub 0x2071343f60046aa3a m) (h0 : Frame m s0 x0) :
    ∃ t, (execFuseLoad x0) = .next t ∧ Frame m s0 t := by
  refine ⟨_, rfl, ?_⟩
  exact State.fuseLoad_frame (hm.of rfl) h0

theorem execFuseProgram_frame {m : Nat} {s0 : State} {x0 : Master} {x1 : Word} {x2 : State}
    (hm : Sub 0xffffffffffffffff00f7bffa m) (h2 : Frame m s0 x2) : ∃ t, (execFuseProgram x0 x1 x2) = .next t ∧ Frame m s0 t := by
  refine ⟨_, rfl, ?_⟩
  exact State.cmdWrite_frame (hm.of rfl) h2

theorem execFuseProgramDone_frame {m : Nat} {s0 : State} {x0 : Word} {x1 : State} (hm : Sub 0xffffffffffffffff01ffbffa m) (h1 : Frame m s0 x1) :
    ∃ t, (execFuseProgramDone x0 x1) = .next t ∧ Frame m s0 t := by
  refine ⟨_, rfl, ?_⟩
  exact State.fuseDone_frame (hm.of rfl) h1

theorem execFuseVerify_frame {m : Nat} {s0 : State} {x0 : Master} {x1 : Word} {x2 : State}
    (hm : Sub 0xffffffffffffffff00f7bffa m) (h2 : Frame m s0 x2) : ∃ t, (execFuseVerify x0 x1 x2) = .next t ∧ Frame m s0 t := by
  refine ⟨_, rfl, ?_⟩
  exact State.cmdWrite_frame (hm.of rfl) h2

theorem execMemoryInit_frame {m : Nat} {s0 : State} {x0 : MemBlock} {x1 : State} (hm : Sub 0x43010 m) (h1 : Frame m s0 x1) :
    ∃ t, (execMemoryInit x0 x1) = .next t ∧ Frame m s0 t := by
  refine ⟨_, rfl, ?_⟩
  exact State.initBlock_frame (hm.of rfl) h1

theorem execOutputRailsUp_frame {m : Nat} {s0 : State} {x0 : State} (hm : Sub 0x8 m) (h0 : Frame m s0 x0) :
    ∃ t, (execOutputRailsUp x0) = .next t ∧ Frame m s0 t := by
  refine ⟨_, rfl, ?_⟩
  refine State.when_frame (hm.of rfl) ?_ ?_
  · intro y0 g0
    exact Frame.supply (hm.of rfl) g0
  · exact h0

theorem execPllLock_frame {m : Nat} {s0 : State} {x0 : State} (hm : Sub 0x1000000010 m) (h0 : Frame m s0 x0) :
    ∃ t, (execPllLock x0) = .next t ∧ Frame m s0 t := by
  refine ⟨_, rfl, ?_⟩
  exact State.pllLock_frame (hm.of rfl) h0

theorem execPor_frame {m : Nat} {s0 : State} {x0 : State} (hm : Sub 0xffffffffffffffff01fffffa m) (h0 : Frame m s0 x0) :
    ∃ t, (execPor x0) = .next t ∧ Frame m s0 t := by
  refine ⟨_, rfl, ?_⟩
  exact State.porStart_frame (hm.of rfl) h0

theorem execPorRelease_frame {m : Nat} {s0 : State} {x0 : State} (hm : Sub 0xa00080030 m) (h0 : Frame m s0 x0) :
    ∃ t, (execPorRelease x0) = .next t ∧ Frame m s0 t := by
  refine ⟨_, rfl, ?_⟩
  exact State.porEnd_frame (hm.of rfl) h0

theorem execResetNHighRelease_frame {m : Nat} {s0 : State} {x0 : State} (hm : Sub 0x820000000b00030 m) (h0 : Frame m s0 x0) :
    ∃ t, (execResetNHighRelease x0) = .next t ∧ Frame m s0 t := by
  refine ⟨_, rfl, ?_⟩
  refine State.when_frame (hm.of rfl) ?_ ?_
  · intro y0 g0
    exact State.padHigh_frame (hm.of rfl) g0
  · exact h0

theorem execResetNLow_frame {m : Nat} {s0 : State} {x0 : State} (hm : Sub 0x20 m) (h0 : Frame m s0 x0) :
    ∃ t, (execResetNLow x0) = .next t ∧ Frame m s0 t := by
  refine ⟨_, rfl, ?_⟩
  refine State.when_frame (hm.of rfl) ?_ ?_
  · intro y0 g0
    exact State.padLow_frame (hm.of rfl) g0
  · exact h0

theorem execResetStretchExpiry_frame {m : Nat} {s0 : State} {x0 : State} (hm : Sub 0x20 m) (h0 : Frame m s0 x0) :
    ∃ t, (execResetStretchExpiry x0) = .next t ∧ Frame m s0 t := by
  refine ⟨_, rfl, ?_⟩
  exact State.stretchEnd_frame (hm.of rfl) h0

theorem execRstcHartRunWrite_frame {m : Nat} {s0 : State} {x0 : Master} {x1 : Word} {x2 : State}
    (hm : Sub 0xffffffffffffffff00f7bffa m) (h2 : Frame m s0 x2) : ∃ t, (execRstcHartRunWrite x0 x1 x2) = .next t ∧ Frame m s0 t := by
  refine ⟨_, rfl, ?_⟩
  exact State.cmdWrite_frame (hm.of rfl) h2

theorem execStartUpReadiness_frame {m : Nat} {s0 : State} {x0 : State} (hm : Sub 0x20 m) (h0 : Frame m s0 x0) :
    ∃ t, (execStartUpReadiness x0) = .next t ∧ Frame m s0 t := by
  refine ⟨_, rfl, ?_⟩
  exact State.readiness_frame (hm.of rfl) h0

theorem execSupplyTreeUp_frame {m : Nat} {s0 : State} {x0 : State} (hm : Sub 0x30 m) (h0 : Frame m s0 x0) :
    ∃ t, (execSupplyTreeUp x0) = .next t ∧ Frame m s0 t := by
  refine ⟨_, rfl, ?_⟩
  exact State.supplyTree_frame (hm.of rfl) h0

theorem execSwresetSys_frame {m : Nat} {s0 : State} {x0 : Master} {x1 : Word} {x2 : State}
    (hm : Sub 0xffffffffffffffff00f7bffa m) (h2 : Frame m s0 x2) : ∃ t, (execSwresetSys x0 x1 x2) = .next t ∧ Frame m s0 t := by
  refine ⟨_, rfl, ?_⟩
  exact State.cmdWrite_frame (hm.of rfl) h2

theorem execSwresetTenant_frame {m : Nat} {s0 : State} {x0 : Master} {x1 : Word} {x2 : State}
    (hm : Sub 0xffffffffffffffff00f7bffa m) (h2 : Frame m s0 x2) : ∃ t, (execSwresetTenant x0 x1 x2) = .next t ∧ Frame m s0 t := by
  refine ⟨_, rfl, ?_⟩
  exact State.cmdWrite_frame (hm.of rfl) h2

theorem execSystemReset_frame {m : Nat} {s0 : State} {x0 : State} (hm : Sub 0xffffffffffffffff01ffbffa m) (h0 : Frame m s0 x0) :
    ∃ t, (execSystemReset x0) = .next t ∧ Frame m s0 t := by
  refine ⟨_, rfl, ?_⟩
  exact State.resetDue_frame (hm.of rfl) h0

theorem execTenRstDone_frame {m : Nat} {s0 : State} {x0 : Tid} {x1 : State} (hm : Sub 0x2000000200001c20 m) (h1 : Frame m s0 x1) :
    ∃ t, (execTenRstDone x0 x1) = .next t ∧ Frame m s0 t := by
  refine ⟨_, rfl, ?_⟩
  exact State.quiesceDone_frame (hm.of rfl) h1

theorem execThermHotClear_frame {m : Nat} {s0 : State} {x0 : Bool} {x1 : State} (hm : Sub 0x400000010 m) (h1 : Frame m s0 x1) :
    ∃ t, (execThermHotClear x0 x1) = .next t ∧ Frame m s0 t := by
  refine ⟨_, rfl, ?_⟩
  exact State.thermClear_frame (hm.of rfl) h1

theorem execThermWarn_frame {m : Nat} {s0 : State} {x0 : State} (hm : Sub 0x400000010 m) (h0 : Frame m s0 x0) :
    ∃ t, (execThermWarn x0) = .next t ∧ Frame m s0 t := by
  refine ⟨_, rfl, ?_⟩
  refine State.when_frame (hm.of rfl) ?_ ?_
  · intro y0 g0
    exact State.thermWarn_frame (hm.of rfl) g0
  · exact h0

theorem execThermalShutdown_frame {m : Nat} {s0 : State} {x0 : State} (hm : Sub 0x20 m) (h0 : Frame m s0 x0) :
    ∃ t, (execThermalShutdown x0) = .next t ∧ Frame m s0 t := by
  refine ⟨_, rfl, ?_⟩
  refine State.when_frame (hm.of rfl) ?_ ?_
  · intro y0 g0
    exact State.modRst_frame (hm.of rfl) (State.askReset_frame (hm.of rfl) g0)
  · exact h0

theorem execThermalShutdownEnd_frame {m : Nat} {s0 : State} {x0 : State} (hm : Sub 0x820000000b00030 m) (h0 : Frame m s0 x0) :
    ∃ t, (execThermalShutdownEnd x0) = .next t ∧ Frame m s0 t := by
  refine ⟨_, rfl, ?_⟩
  exact State.leaveReset_frame (hm.of rfl) (State.modRst_frame (hm.of rfl) h0)

theorem execTrngStartupTests_frame {m : Nat} {s0 : State} {x0 : Bool} {x1 : State} (hm : Sub 0x2000000000001020 m) (h1 : Frame m s0 x1) :
    ∃ t, (execTrngStartupTests x0 x1) = .next t ∧ Frame m s0 t := by
  refine ⟨_, rfl, ?_⟩
  exact State.trngTests_frame (hm.of rfl) h1

theorem execVioAbsent_frame {m : Nat} {s0 : State} {x0 : State} (hm : Sub 0x400000000018000 m) (h0 : Frame m s0 x0) :
    ∃ t, (execVioAbsent x0) = .next t ∧ Frame m s0 t := by
  refine ⟨_, rfl, ?_⟩
  exact State.vioOff_frame (hm.of rfl) h0

theorem execVioPresent_frame {m : Nat} {s0 : State} {x0 : BitVec 48} {x1 : State} (hm : Sub 0x2070303d40047aa1a m) (h1 : Frame m s0 x1) :
    ∃ t, (execVioPresent x0 x1) = .next t ∧ Frame m s0 t := by
  refine ⟨_, rfl, ?_⟩
  exact State.vioOn_frame (hm.of rfl) h1

theorem execXo40Stable_frame {m : Nat} {s0 : State} {x0 : State} (hm : Sub 0x1000000000 m) (h0 : Frame m s0 x0) :
    ∃ t, (execXo40Stable x0) = .next t ∧ Frame m s0 t := by
  refine ⟨_, rfl, ?_⟩
  exact State.xo40Stable_frame (hm.of rfl) h0

/-! ### Machine/CmdPower -/

theorem execCalmReached_frame {m : Nat} {s0 : State} {x0 : State} (hm : Sub 0x78303de00721e10 m) (h0 : Frame m s0 x0) :
    ∃ t, (execCalmReached x0) = .next t ∧ Frame m s0 t := by
  refine ⟨_, rfl, ?_⟩
  exact State.calmReached_frame (hm.of rfl) h0

theorem execCoarseModeSwitch_frame {m : Nat} {s0 : State} {x0 : State} (hm : Sub 0x2000000000010 m) (h0 : Frame m s0 x0) :
    ∃ t, (execCoarseModeSwitch x0) = .next t ∧ Frame m s0 t := by
  refine ⟨_, rfl, ?_⟩
  exact State.coarseSwitch_frame (hm.of rfl) h0

theorem execHartMWarmStart_frame {m : Nat} {s0 : State} {x0 : State} (hm : Sub 0x82043c000b0ba30 m) (h0 : Frame m s0 x0) :
    ∃ t, (execHartMWarmStart x0) = .next t ∧ Frame m s0 t := by
  refine ⟨_, rfl, ?_⟩
  exact State.warmStart_frame (hm.of rfl) h0

theorem execIslandRelease_frame {m : Nat} {s0 : State} {x0 : Island} {x1 : State} (hm : Sub 0x82043c000b0ba10 m) (h1 : Frame m s0 x1) :
    ∃ t, (execIslandRelease x0 x1) = .next t ∧ Frame m s0 t := by
  refine ⟨_, rfl, ?_⟩
  exact State.release_frame (hm.of rfl) h1

theorem execLfCalWindowEnd_frame {m : Nat} {s0 : State} {x0 : Fin 65536} {x1 : State} (hm : Sub 0x1000000010 m) (h1 : Frame m s0 x1) :
    ∃ t, (execLfCalWindowEnd x0 x1) = .next t ∧ Frame m s0 t := by
  refine ⟨_, rfl, ?_⟩
  exact State.lfWindow_frame (hm.of rfl) h1

theorem execLullResume_frame {m : Nat} {s0 : State} {x0 : State} (hm : Sub 0x800000000800810 m) (h0 : Frame m s0 x0) :
    ∃ t, (execLullResume x0) = .next t ∧ Frame m s0 t := by
  refine ⟨_, rfl, ?_⟩
  exact State.lullResume_frame (hm.of rfl) h0

theorem execModeReqWrite_frame {m : Nat} {s0 : State} {x0 : Master} {x1 : Word} {x2 : State}
    (hm : Sub 0xffffffffffffffff00f7bffa m) (h2 : Frame m s0 x2) : ∃ t, (execModeReqWrite x0 x1 x2) = .next t ∧ Frame m s0 t := by
  refine ⟨_, rfl, ?_⟩
  exact State.cmdWrite_frame (hm.of rfl) h2

theorem execOpClockRaise_frame {m : Nat} {s0 : State} {x0 : State} (hm : Sub 0x400000000 m) (h0 : Frame m s0 x0) :
    ∃ t, (execOpClockRaise x0) = .next t ∧ Frame m s0 t := by
  refine ⟨_, rfl, ?_⟩
  exact State.opRaise_frame (hm.of rfl) h0

theorem execOpCmdWrite_frame {m : Nat} {s0 : State} {x0 : Master} {x1 : Word} {x2 : State}
    (hm : Sub 0xffffffffffffffff00f7bffa m) (h2 : Frame m s0 x2) : ∃ t, (execOpCmdWrite x0 x1 x2) = .next t ∧ Frame m s0 t := by
  refine ⟨_, rfl, ?_⟩
  exact State.cmdWrite_frame (hm.of rfl) h2

theorem execPostingDrainDone_frame {m : Nat} {s0 : State} {x0 : State} (hm : Sub 0x50003d400409212 m) (h0 : Frame m s0 x0) :
    ∃ t, (execPostingDrainDone x0) = .next t ∧ Frame m s0 t := by
  refine ⟨_, rfl, ?_⟩
  extract_lets +onlyGivenNames -underBinder -merge y0
  have g0 : Frame m s0 y0 := by
    exact State.drained_frame (hm.of rfl) h0
  try clear_value y0
  refine Frame.ite (fun _ => ?_) (fun _ => ?_)
  · exact State.holdPads_frame (hm.of rfl) g0
  · exact g0

theorem execPwrIslandClear_frame {m : Nat} {s0 : State} {x0 : Master} {x1 : Word} {x2 : State}
    (hm : Sub 0xffffffffffffffff00f7bffa m) (h2 : Frame m s0 x2) : ∃ t, (execPwrIslandClear x0 x1 x2) = .next t ∧ Frame m s0 t := by
  refine ⟨_, rfl, ?_⟩
  exact State.cmdWrite_frame (hm.of rfl) h2

theorem execPwrIslandSet_frame {m : Nat} {s0 : State} {x0 : Master} {x1 : Word} {x2 : State}
    (hm : Sub 0xffffffffffffffff00f7bffa m) (h2 : Frame m s0 x2) : ∃ t, (execPwrIslandSet x0 x1 x2) = .next t ∧ Frame m s0 t := by
  refine ⟨_, rfl, ?_⟩
  exact State.cmdWrite_frame (hm.of rfl) h2

theorem execSlewSettled_frame {m : Nat} {s0 : State} {x0 : State} (hm : Sub 0x400000010 m) (h0 : Frame m s0 x0) :
    ∃ t, (execSlewSettled x0) = .next t ∧ Frame m s0 t := by
  refine ⟨_, rfl, ?_⟩
  exact State.slewSettled_frame (hm.of rfl) h0

theorem execWakeDetect_frame {m : Nat} {s0 : State} {x0 : Fin 7} {x1 : State} (hm : Sub 0x1400028810 m) (h1 : Frame m s0 x1) :
    ∃ t, (execWakeDetect x0 x1) = .next t ∧ Frame m s0 t := by
  refine ⟨_, rfl, ?_⟩
  refine State.when_frame (hm.of rfl) ?_ ?_
  · intro y0 g0
    exact State.wake_frame (hm.of rfl) g0
  · exact h1

theorem execWakeDone_frame {m : Nat} {s0 : State} {x0 : State} (hm : Sub 0x1400000410 m) (h0 : Frame m s0 x0) :
    ∃ t, (execWakeDone x0) = .next t ∧ Frame m s0 t := by
  refine ⟨_, rfl, ?_⟩
  exact State.wakeDone_frame (hm.of rfl) h0

theorem execXo32Loss_frame {m : Nat} {s0 : State} {x0 : State} (hm : Sub 0x1000000010 m) (h0 : Frame m s0 x0) :
    ∃ t, (execXo32Loss x0) = .next t ∧ Frame m s0 t := by
  refine ⟨_, rfl, ?_⟩
  exact State.xo32Loss_frame (hm.of rfl) h0

theorem execXo32LossInCalm_frame {m : Nat} {s0 : State} {x0 : State} (hm : Sub 0x1400028810 m) (h0 : Frame m s0 x0) :
    ∃ t, (execXo32LossInCalm x0) = .next t ∧ Frame m s0 t := by
  refine ⟨_, rfl, ?_⟩
  exact State.xo32LossCalm_frame (hm.of rfl) h0

theorem execXo32Return_frame {m : Nat} {s0 : State} {x0 : State} (hm : Sub 0x1000000010 m) (h0 : Frame m s0 x0) :
    ∃ t, (execXo32Return x0) = .next t ∧ Frame m s0 t := by
  refine ⟨_, rfl, ?_⟩
  exact State.xo32Return_frame (hm.of rfl) h0

theorem execXo40Loss_frame {m : Nat} {s0 : State} {x0 : State} (hm : Sub 0x50303d400748e10 m) (h0 : Frame m s0 x0) :
    ∃ t, (execXo40Loss x0) = .next t ∧ Frame m s0 t := by
  refine ⟨_, rfl, ?_⟩
  exact State.xo40Loss_frame (hm.of rfl) h0

theorem execXo40StartTimeout_frame {m : Nat} {s0 : State} {x0 : State} (hm : Sub 0x50303d400748e10 m) (h0 : Frame m s0 x0) :
    ∃ t, (execXo40StartTimeout x0) = .next t ∧ Frame m s0 t := by
  refine ⟨_, rfl, ?_⟩
  exact State.xo40Timeout_frame (hm.of rfl) h0

/-! ### Machine/CmdTenant -/

theorem execFaultnFenceRead_frame {m : Nat} {s0 : State} {x0 : Master} {x1 : Tid} {x2 : State} (hm : Sub 0x5174f43dc0047bb1e m) (h2 : Frame m s0 x2) :
    ∃ t, (execFaultnFenceRead x0 x1 x2) = .next t ∧ Frame m s0 t := by
  refine ⟨_, rfl, ?_⟩
  exact State.fenceRead_frame (hm.of rfl) h2

theorem execFaultnRec3Read_frame {m : Nat} {s0 : State} {x0 : Master} {x1 : Tid} {x2 : State} (hm : Sub 0x5174f43dc0047bb1e m) (h2 : Frame m s0 x2) :
    ∃ t, (execFaultnRec3Read x0 x1 x2) = .next t ∧ Frame m s0 t := by
  refine ⟨_, rfl, ?_⟩
  exact State.cmdRead_frame (hm.of rfl) h2

theorem execFenceReturn_frame {m : Nat} {s0 : State} {x0 : Tid} {x1 : State} (hm : Sub 0xa04 m) (h1 : Frame m s0 x1) :
    ∃ t, (execFenceReturn x0 x1) = .next t ∧ Frame m s0 t := by
  refine ⟨_, rfl, ?_⟩
  exact State.fenceReturn_frame (hm.of rfl) h1

theorem execHartFetch_frame {m : Nat} {s0 : State} {x0 : Fin 4} {x1 : Word} {x2 : Upset} {x3 : State}
    (hm : Sub 0x5174f43dc0047bb1a m) (h3 : Frame m s0 x3) : ∃ t, (execHartFetch x0 x1 x2 x3) = .next t ∧ Frame m s0 t := by
  refine ⟨_, rfl, ?_⟩
  exact State.hartFetch_frame (hm.of rfl) h3

theorem execHartLoad_frame {m : Nat} {s0 : State} {x0 : Fin 4} {x1 : Fin 64} {x2 : Word} {x3 : Width} {x4 : Bool} {x5 : Upset} {x6 : State}
    (hm : Sub 0x5174f43dc0047bb1a m) (h6 : Frame m s0 x6) : ∃ t, (execHartLoad x0 x1 x2 x3 x4 x5 x6) = .next t ∧ Frame m s0 t := by
  refine ⟨_, rfl, ?_⟩
  exact State.hartLoad_frame (hm.of rfl) h6

theorem execHartStoreLocal_frame {m : Nat} {s0 : State} {x0 : Fin 4} {x1 : Word} {x2 : Width} {x3 : Word} {x4 : Upset} {x5 : State}
    (hm : Sub 0xffffffffffffffff00f7bffa m) (h5 : Frame m s0 x5) : ∃ t, (execHartStoreLocal x0 x1 x2 x3 x4 x5) = .next t ∧ Frame m s0 t := by
  refine ⟨_, rfl, ?_⟩
  exact State.storeLocal_frame (hm.of rfl) h5

theorem execOwnerChangeIdlePoint_frame {m : Nat} {s0 : State} {x0 : Fin 13} {x1 : Fin 256} {x2 : State}
    (hm : Sub 0x7437fd40076bb9a m) (h2 : Frame m s0 x2) : ∃ t, (execOwnerChangeIdlePoint x0 x1 x2) = .next t ∧ Frame m s0 t := by
  refine ⟨_, rfl, ?_⟩
  refine State.when_frame (hm.of rfl) ?_ ?_
  · intro y0 g0
    exact State.ownerSwitch_frame (hm.of rfl) g0
  · exact h2

theorem execPageLockWrite_frame {m : Nat} {s0 : State} {x0 : Master} {x1 : Fin 36} {x2 : State}
    (hm : Sub 0xffffffffffffffff00f7bffa m) (h2 : Frame m s0 x2) : ∃ t, (execPageLockWrite x0 x1 x2) = .next t ∧ Frame m s0 t := by
  refine ⟨_, rfl, ?_⟩
  exact State.cmdWrite_frame (hm.of rfl) h2

theorem execPostedStore_frame {m : Nat} {s0 : State} {x0 : Fin 4} {x1 : Word} {x2 : Width} {x3 : Word} {x4 : State}
    (hm : Sub 0x3c000000800 m) (h4 : Frame m s0 x4) : ∃ t, (execPostedStore x0 x1 x2 x3 x4) = .next t ∧ Frame m s0 t := by
  refine ⟨_, rfl, ?_⟩
  exact State.postStore_frame (hm.of rfl) h4

theorem execPostedStoreDone_frame {m : Nat} {s0 : State} {x0 : Fin 4} {x1 : Island} {x2 : Nat} {x3 : Upset} {x4 : State}
    (hm : Sub 0xffffffffffffffff00f7bffa m) (h4 : Frame m s0 x4) : ∃ t, (execPostedStoreDone x0 x1 x2 x3 x4) = .next t ∧ Frame m s0 t := by
  refine ⟨_, rfl, ?_⟩
  exact State.postDone_frame (hm.of rfl) h4

theorem execQuotaWrite_frame {m : Nat} {s0 : State} {x0 : Master} {x1 : Fin 2} {x2 : Word} {x3 : State}
    (hm : Sub 0xffffffffffffffff00f7bffa m) (h3 : Frame m s0 x3) : ∃ t, (execQuotaWrite x0 x1 x2 x3) = .next t ∧ Frame m s0 t := by
  refine ⟨_, rfl, ?_⟩
  exact State.cmdWrite_frame (hm.of rfl) h3

theorem execTenOwnDataWrite_frame {m : Nat} {s0 : State} {x0 : Master} {x1 : Word} {x2 : State}
    (hm : Sub 0xffffffffffffffff00f7bffa m) (h2 : Frame m s0 x2) : ∃ t, (execTenOwnDataWrite x0 x1 x2) = .next t ∧ Frame m s0 t := by
  refine ⟨_, rfl, ?_⟩
  exact State.cmdWrite_frame (hm.of rfl) h2

theorem execWatchdogExpiry_frame {m : Nat} {s0 : State} {x0 : Tid} {x1 : State} (hm : Sub 0xffffffffffffffff0076bf22 m) (h1 : Frame m s0 x1) :
    ∃ t, (execWatchdogExpiry x0 x1) = .next t ∧ Frame m s0 t := by
  refine ⟨_, rfl, ?_⟩
  refine State.when_frame (hm.of rfl) ?_ ?_
  · intro y0 g0
    exact State.wdtExpire_frame (hm.of rfl) g0
  · exact h1

theorem execWdtLockWrite_frame {m : Nat} {s0 : State} {x0 : Master} {x1 : Tid} {x2 : State}
    (hm : Sub 0xffffffffffffffff00f7bffa m) (h2 : Frame m s0 x2) : ∃ t, (execWdtLockWrite x0 x1 x2) = .next t ∧ Frame m s0 t := by
  refine ⟨_, rfl, ?_⟩
  exact State.cmdWrite_frame (hm.of rfl) h2

theorem execWdtServiceWrite_frame {m : Nat} {s0 : State} {x0 : Master} {x1 : Tid} {x2 : Word} {x3 : Nat} {x4 : State}
    (hm : Sub 0xffffffffffffffff00f7bffa m) (h4 : Frame m s0 x4) : ∃ t, (execWdtServiceWrite x0 x1 x2 x3 x4) = .next t ∧ Frame m s0 t := by
  refine ⟨_, rfl, ?_⟩
  exact State.cmdService_frame (hm.of rfl) h4

theorem execWdtWarn_frame {m : Nat} {s0 : State} {x0 : Tid} {x1 : State} (hm : Sub 0x80000000000000000 m) (h1 : Frame m s0 x1) :
    ∃ t, (execWdtWarn x0 x1) = .next t ∧ Frame m s0 t := by
  refine ⟨_, rfl, ?_⟩
  refine State.when_frame (hm.of rfl) ?_ ?_
  · intro y0 g0
    exact State.raise_frame (hm.of rfl) (Allows.page (p := 35) rfl (hm.of rfl)) g0
  · exact h1

/-! ### Machine/CmdMemory -/

theorem execCrcDataWrite_frame {m : Nat} {s0 : State} {x0 : Master} {x1 : Width} {x2 : Word} {x3 : State}
    (hm : Sub 0xffffffffffffffff00f7bffa m) (h3 : Frame m s0 x3) : ∃ t, (execCrcDataWrite x0 x1 x2 x3) = .next t ∧ Frame m s0 t := by
  refine ⟨_, rfl, ?_⟩
  exact State.cmdWrite_frame (hm.of rfl) h3

theorem execCrcRestart_frame {m : Nat} {s0 : State} {x0 : Master} {x1 : Bool} {x2 : Word} {x3 : State}
    (hm : Sub 0xffffffffffffffff00f7bffa m) (h3 : Frame m s0 x3) : ∃ t, (execCrcRestart x0 x1 x2 x3) = .next t ∧ Frame m s0 t := by
  refine ⟨_, rfl, ?_⟩
  exact State.cmdWrite_frame (hm.of rfl) h3

theorem execEraseResume_frame {m : Nat} {s0 : State} {x0 : State} (hm : Sub 0x1000000000000000 m) (h0 : Frame m s0 x0) :
    ∃ t, (execEraseResume x0) = .next t ∧ Frame m s0 t := by
  refine ⟨_, rfl, ?_⟩
  exact State.unsuspend_frame (hm.of rfl) h0

theorem execEraseSegmentEnd_frame {m : Nat} {s0 : State} {x0 : Bool} {x1 : State} (hm : Sub 0xffffffffffffffff01fffffa m) (h1 : Frame m s0 x1) :
    ∃ t, (execEraseSegmentEnd x0 x1) = .next t ∧ Frame m s0 t := by
  refine ⟨_, rfl, ?_⟩
  exact State.segmentEnd_frame (hm.of rfl) h1

theorem execFlashCmdErase_frame {m : Nat} {s0 : State} {x0 : Master} {x1 : Tid} {x2 : Word} {x3 : State}
    (hm : Sub 0xffffffffffffffff00f7bffa m) (h3 : Frame m s0 x3) : ∃ t, (execFlashCmdErase x0 x1 x2 x3) = .next t ∧ Frame m s0 t := by
  refine ⟨_, rfl, ?_⟩
  exact State.cmdWrite_frame (hm.of rfl) h3

theorem execFlashCmdGenBump_frame {m : Nat} {s0 : State} {x0 : Master} {x1 : Tid} {x2 : Word} {x3 : State}
    (hm : Sub 0xffffffffffffffff00f7bffa m) (h3 : Frame m s0 x3) : ∃ t, (execFlashCmdGenBump x0 x1 x2 x3) = .next t ∧ Frame m s0 t := by
  refine ⟨_, rfl, ?_⟩
  exact State.cmdWrite_frame (hm.of rfl) h3

theorem execFlashCmdProgram_frame {m : Nat} {s0 : State} {x0 : Master} {x1 : Tid} {x2 : Word} {x3 : State}
    (hm : Sub 0xffffffffffffffff00f7bffa m) (h3 : Frame m s0 x3) : ∃ t, (execFlashCmdProgram x0 x1 x2 x3) = .next t ∧ Frame m s0 t := by
  refine ⟨_, rfl, ?_⟩
  exact State.cmdWrite_frame (hm.of rfl) h3

theorem execFlashOpStart_frame {m : Nat} {s0 : State} {x0 : State} (hm : Sub 0x1000000000001000 m) (h0 : Frame m s0 x0) :
    ∃ t, (execFlashOpStart x0) = .next t ∧ Frame m s0 t := by
  refine ⟨_, rfl, ?_⟩
  exact State.flashStart_frame (hm.of rfl) h0

theorem execFlashPulseEnd_frame {m : Nat} {s0 : State} {x0 : Bool} {x1 : State} (hm : Sub 0xffffffffffffffff01fffffa m) (h1 : Frame m s0 x1) :
    ∃ t, (execFlashPulseEnd x0 x1) = .next t ∧ Frame m s0 t := by
  refine ⟨_, rfl, ?_⟩
  exact State.pulseEnd_frame (hm.of rfl) h1

theorem execFlashReadDuringErase_frame {m : Nat} {s0 : State} {x0 : Bool} {x1 : State} (hm : Sub 0x1000000000001000 m) (h1 : Frame m s0 x1) :
    ∃ t, (execFlashReadDuringErase x0 x1) = .next t ∧ Frame m s0 t := by
  refine ⟨_, rfl, ?_⟩
  exact State.suspend_frame (hm.of rfl) h1

theorem execHealthFail_frame {m : Nat} {s0 : State} {x0 : State} (hm : Sub 0x10000000000001000 m) (h0 : Frame m s0 x0) :
    ∃ t, (execHealthFail x0) = .next t ∧ Frame m s0 t := by
  refine ⟨_, rfl, ?_⟩
  exact State.healthFail_frame (hm.of rfl) h0

theorem execScrubDue_frame {m : Nat} {s0 : State} {x0 : State} (hm : Sub 0x2000000000001000 m) (h0 : Frame m s0 x0) :
    ∃ t, (execScrubDue x0) = .next t ∧ Frame m s0 t := by
  refine ⟨_, rfl, ?_⟩
  exact State.scrubStart_frame (hm.of rfl) h0

theorem execScrubPass_frame {m : Nat} {s0 : State} {x0 x1 : List (Fin 262144)} {x2 : State} (hm : Sub 0x200003c000001200 m) (h2 : Frame m s0 x2) :
    ∃ t, (execScrubPass x0 x1 x2) = .next t ∧ Frame m s0 t := by
  refine ⟨_, rfl, ?_⟩
  exact State.scrubDone_frame (hm.of rfl) h2

theorem execScrubSteal_frame {m : Nat} {s0 : State} {x0 : State} (hm : Sub 0x2000000000000000 m) (h0 : Frame m s0 x0) :
    ∃ t, (execScrubSteal x0) = .next t ∧ Frame m s0 t := by
  refine ⟨_, rfl, ?_⟩
  exact State.scrubSteals_frame (hm.of rfl) h0

theorem execTrngDataRead_frame {m : Nat} {s0 : State} {x0 : Master} {x1 : State} (hm : Sub 0x5174f43dc0047bb1e m) (h1 : Frame m s0 x1) :
    ∃ t, (execTrngDataRead x0 x1) = .next t ∧ Frame m s0 t := by
  refine ⟨_, rfl, ?_⟩
  exact State.cmdRead_frame (hm.of rfl) h1

theorem execTrngValidReturn_frame {m : Nat} {s0 : State} {x0 : State} (hm : Sub 0x10000000000001000 m) (h0 : Frame m s0 x0) :
    ∃ t, (execTrngValidReturn x0) = .next t ∧ Frame m s0 t := by
  refine ⟨_, rfl, ?_⟩
  exact State.trngValid_frame (hm.of rfl) h0

/-! ### Machine/CmdHart -/

theorem execAmo_frame {m : Nat} {s0 : State} {x0 : Fin 4} {x1 : AmoOp} {x2 : Fin 32} {x3 x4 : Word} {x5 : Upset} {x6 : State}
    (hm : Sub 0xffffffffffffffff00f7bffa m) (h6 : Frame m s0 x6) : ∃ t, (execAmo x0 x1 x2 x3 x4 x5 x6) = .next t ∧ Frame m s0 t := by
  refine ⟨_, rfl, ?_⟩
  exact State.amo_frame (hm.of rfl) h6

theorem execFenceI_frame {m : Nat} {s0 : State} {x0 : Fin 4} {x1 : State} (hm : Sub 0x1800 m) (h1 : Frame m s0 x1) :
    ∃ t, (execFenceI x0 x1) = .next t ∧ Frame m s0 t := by
  refine ⟨_, rfl, ?_⟩
  exact State.fenceI_frame (hm.of rfl) h1

theorem execIllegalInstruction_frame {m : Nat} {s0 : State} {x0 : Fin 4} {x1 : Word} {x2 : State} (hm : Sub 0x800 m) (h2 : Frame m s0 x2) :
    ∃ t, (execIllegalInstruction x0 x1 x2) = .next t ∧ Frame m s0 t := by
  refine ⟨_, rfl, ?_⟩
  refine State.execute_frame (hm.of rfl) ?_ ?_
  · intro y0 g0
    exact State.trap_frame (hm.of rfl) g0
  · exact h2

theorem execIrqnClaimRead_frame {m : Nat} {s0 : State} {x0 : Master} {x1 : Tid} {x2 : State} (hm : Sub 0x5174f43dc0047bb1e m) (h2 : Frame m s0 x2) :
    ∃ t, (execIrqnClaimRead x0 x1 x2) = .next t ∧ Frame m s0 t := by
  refine ⟨_, rfl, ?_⟩
  exact State.cmdRead_frame (hm.of rfl) h2

theorem execIrqnClaimWrite_frame {m : Nat} {s0 : State} {x0 : Master} {x1 : Tid} {x2 : Word} {x3 : State}
    (hm : Sub 0xffffffffffffffff00f7bffa m) (h3 : Frame m s0 x3) : ∃ t, (execIrqnClaimWrite x0 x1 x2 x3) = .next t ∧ Frame m s0 t := by
  refine ⟨_, rfl, ?_⟩
  exact State.cmdWrite_frame (hm.of rfl) h3

theorem execIrqnMsipWrite_frame {m : Nat} {s0 : State} {x0 : Master} {x1 : Tid} {x2 : Word} {x3 : State}
    (hm : Sub 0xffffffffffffffff00f7bffa m) (h3 : Frame m s0 x3) : ∃ t, (execIrqnMsipWrite x0 x1 x2 x3) = .next t ∧ Frame m s0 t := by
  refine ⟨_, rfl, ?_⟩
  exact State.cmdWrite_frame (hm.of rfl) h3

theorem execLr_frame {m : Nat} {s0 : State} {x0 : Fin 4} {x1 : Fin 32} {x2 : Word} {x3 : Upset} {x4 : State}
    (hm : Sub 0x5174f43dc0047bb1a m) (h4 : Frame m s0 x4) : ∃ t, (execLr x0 x1 x2 x3 x4) = .next t ∧ Frame m s0 t := by
  refine ⟨_, rfl, ?_⟩
  exact State.loadReserved_frame (hm.of rfl) h4

theorem execMtimecmpReached_frame {m : Nat} {s0 : State} {x0 : Tid} {x1 : State} (hm : Sub 0x800 m) (h1 : Frame m s0 x1) :
    ∃ t, (execMtimecmpReached x0 x1) = .next t ∧ Frame m s0 t := by
  refine ⟨_, rfl, ?_⟩
  refine Frame.ite (fun _ => ?_) (fun _ => ?_)
  · refine State.modHart_frame (hm.of rfl) (fun _ => by first | ((try dsimp only) <;> (repeat' split) <;> simp; done) | exact Nat.zero_le _ | exact Nat.le_refl _) ?_
    exact h1
  · exact h1

theorem execSc_frame {m : Nat} {s0 : State} {x0 : Fin 4} {x1 : Fin 32} {x2 x3 : Word} {x4 : Nat} {x5 : Upset} {x6 : State}
    (hm : Sub 0xffffffffffffffff00f7bffa m) (h6 : Frame m s0 x6) : ∃ t, (execSc x0 x1 x2 x3 x4 x5 x6) = .next t ∧ Frame m s0 t := by
  refine ⟨_, rfl, ?_⟩
  exact State.storeConditional_frame (hm.of rfl) h6

theorem execSysMtimeLoRead_frame {m : Nat} {s0 : State} {x0 : Master} {x1 : State} (hm : Sub 0x5174f43dc0047bb1e m) (h1 : Frame m s0 x1) :
    ∃ t, (execSysMtimeLoRead x0 x1) = .next t ∧ Frame m s0 t := by
  refine ⟨_, rfl, ?_⟩
  exact State.cmdRead_frame (hm.of rfl) h1

theorem execWfi_frame {m : Nat} {s0 : State} {x0 : Fin 4} {x1 : State} (hm : Sub 0x400000810 m) (h1 : Frame m s0 x1) :
    ∃ t, (execWfi x0 x1) = .next t ∧ Frame m s0 t := by
  refine ⟨_, rfl, ?_⟩
  exact State.waitForInterrupt_frame (hm.of rfl) h1

/-! ### Machine/CmdQueue -/

theorem State.takeHead_frame {m : Nat} {s0 : State} {x0 : State} {x1 x2 : Nat} {x3 : Option (Fin 8)}
    (hm : Sub 0x43c000003a00 m) (h0 : Frame m s0 x0) : Frame m s0 (State.takeHead x0 x1 x2 x3) := by
  unfold State.takeHead
  extract_lets +onlyGivenNames -underBinder -merge y0
  try clear_value y0
  extract_lets +onlyGivenNames -underBinder -merge y1
  have g1 : Frame m s0 y1 := by
    unfold y1
    split
    · exact State.setEcc_frame (hm.of rfl) h0
    · exact h0
  try clear_value y1
  extract_lets +onlyGivenNames -underBinder -merge y2
  have g2 : Frame m s0 y2 := by
    exact State.takeFrom_frame (hm.of rfl) g1
  try clear_value y2
  refine Frame.ite (fun _ => ?_) (fun _ => ?_)
  · exact State.completeMissed_frame (hm.of rfl) g2
  · refine Frame.ite (fun _ => ?_) (fun _ => ?_)
    · exact State.complete_frame (hm.of rfl) (State.descRead_frame (hm.of rfl) g2)
    · refine Frame.ite (fun _ => ?_) (fun _ => ?_)
      · exact State.complete_frame (hm.of rfl) g2
      · exact g2

theorem State.consumerTake_frame {m : Nat} {s0 : State} {x0 : State} {x1 : Nat} {x2 : Option (Fin 8)}
    (hm : Sub 0x43c000003a00 m) (h0 : Frame m s0 x0) : Frame m s0 (State.consumerTake x0 x1 x2) := by
  unfold State.consumerTake
  extract_lets +onlyGivenNames -underBinder -merge y0
  try clear_value y0
  refine Frame.ite (fun _ => ?_) (fun _ => ?_)
  · exact h0
  · split
    · exact State.takeHead_frame (hm.of rfl) h0
    · exact h0

theorem execCcmDec_frame {m : Nat} {s0 : State} {x0 : Nat} {x1 : Disturb} {x2 : State} (hm : Sub 0xffffffffffffffff00f7bffa m) (h2 : Frame m s0 x2) :
    ∃ t, (execCcmDec x0 x1 x2) = .next t ∧ Frame m s0 t := by
  refine ⟨_, rfl, ?_⟩
  exact State.linkSweepBy_frame (hm.of rfl) (State.aesRun_frame (hm.of rfl) h2)

theorem execCcmEnc_frame {m : Nat} {s0 : State} {x0 : Nat} {x1 : Disturb} {x2 : State} (hm : Sub 0xffffffffffffffff00f7bffa m) (h2 : Frame m s0 x2) :
    ∃ t, (execCcmEnc x0 x1 x2) = .next t ∧ Frame m s0 t := by
  refine ⟨_, rfl, ?_⟩
  exact State.linkSweepBy_frame (hm.of rfl) (State.aesRun_frame (hm.of rfl) h2)

theorem execCmac_frame {m : Nat} {s0 : State} {x0 : Nat} {x1 : Disturb} {x2 : State} (hm : Sub 0xffffffffffffffff00f7bffa m) (h2 : Frame m s0 x2) :
    ∃ t, (execCmac x0 x1 x2) = .next t ∧ Frame m s0 t := by
  refine ⟨_, rfl, ?_⟩
  exact State.linkSweepBy_frame (hm.of rfl) (State.aesRun_frame (hm.of rfl) h2)

theorem execConsumerTake_frame {m : Nat} {s0 : State} {x0 : Fin 64} {x1 : Option (Fin 8)} {x2 : State}
    (hm : Sub 0x43c000003a00 m) (h2 : Frame m s0 x2) : ∃ t, (execConsumerTake x0 x1 x2) = .next t ∧ Frame m s0 t := by
  refine ⟨_, rfl, ?_⟩
  exact State.consumerTake_frame (hm.of rfl) h2

theorem execCopy_frame {m : Nat} {s0 : State} {x0 : Fin 16} {x1 : Nat} {x2 : Disturb} {x3 : State}
    (hm : Sub 0xffffffffffffffff00f7bffa m) (h3 : Frame m s0 x3) : ∃ t, (execCopy x0 x1 x2 x3) = .next t ∧ Frame m s0 t := by
  refine ⟨_, rfl, ?_⟩
  exact State.linkSweepBy_frame (hm.of rfl) (State.dmaRun_frame (hm.of rfl) h3)

theorem execCrc_frame {m : Nat} {s0 : State} {x0 : Disturb} {x1 : State} (hm : Sub 0xffffffffffffffff00f7bffa m) (h1 : Frame m s0 x1) :
    ∃ t, (execCrc x0 x1) = .next t ∧ Frame m s0 t := by
  refine ⟨_, rfl, ?_⟩
  exact State.linkSweepBy_frame (hm.of rfl) (State.crcRun_frame (hm.of rfl) h1)

theorem execCtr_frame {m : Nat} {s0 : State} {x0 : Nat} {x1 : Disturb} {x2 : State} (hm : Sub 0xffffffffffffffff00f7bffa m) (h2 : Frame m s0 x2) :
    ∃ t, (execCtr x0 x1 x2) = .next t ∧ Frame m s0 t := by
  refine ⟨_, rfl, ?_⟩
  exact State.linkSweepBy_frame (hm.of rfl) (State.aesRun_frame (hm.of rfl) h2)

theorem execDeadlineMissed_frame {m : Nat} {s0 : State} {x0 : Fin 2048} {x1 : State} (hm : Sub 0x43c000003a00 m) (h1 : Frame m s0 x1) :
    ∃ t, (execDeadlineMissed x0 x1) = .next t ∧ Frame m s0 t := by
  refine ⟨_, rfl, ?_⟩
  refine Frame.ite (fun _ => ?_) (fun _ => ?_)
  · exact h1
  · split
    · exact h1
    · refine Frame.ite (fun _ => ?_) (fun _ => ?_)
      · exact State.completeMissed_frame (hm.of rfl) h1
      · split
        · refine Frame.ite (fun _ => ?_) (fun _ => ?_)
          · exact State.completeMissed_frame (hm.of rfl) h1
          · exact h1
        · exact h1

theorem execDescriptorComplete_frame {m : Nat} {s0 : State} {x0 : Fin 64} {x1 : State} (hm : Sub 0x43c000003a00 m) (h1 : Frame m s0 x1) :
    ∃ t, (execDescriptorComplete x0 x1) = .next t ∧ Frame m s0 t := by
  refine ⟨_, rfl, ?_⟩
  refine Frame.ite (fun _ => ?_) (fun _ => ?_)
  · exact h1
  · split
    · split
      · refine Frame.ite (fun _ => ?_) (fun _ => ?_)
        · exact State.completeMissed_frame (hm.of rfl) h1
        · exact State.complete_frame (hm.of rfl) h1
      · exact h1
    · exact h1

theorem execEcbDec_frame {m : Nat} {s0 : State} {x0 : Nat} {x1 : Disturb} {x2 : State} (hm : Sub 0xffffffffffffffff00f7bffa m) (h2 : Frame m s0 x2) :
    ∃ t, (execEcbDec x0 x1 x2) = .next t ∧ Frame m s0 t := by
  refine ⟨_, rfl, ?_⟩
  exact State.linkSweepBy_frame (hm.of rfl) (State.aesRun_frame (hm.of rfl) h2)

theorem execEcbEnc_frame {m : Nat} {s0 : State} {x0 : Nat} {x1 : Disturb} {x2 : State} (hm : Sub 0xffffffffffffffff00f7bffa m) (h2 : Frame m s0 x2) :
    ∃ t, (execEcbEnc x0 x1 x2) = .next t ∧ Frame m s0 t := by
  refine ⟨_, rfl, ?_⟩
  exact State.linkSweepBy_frame (hm.of rfl) (State.aesRun_frame (hm.of rfl) h2)

theorem execFill_frame {m : Nat} {s0 : State} {x0 : Fin 16} {x1 : Nat} {x2 : Disturb} {x3 : State}
    (hm : Sub 0xffffffffffffffff00f7bffa m) (h3 : Frame m s0 x3) : ∃ t, (execFill x0 x1 x2 x3) = .next t ∧ Frame m s0 t := by
  refine ⟨_, rfl, ?_⟩
  exact State.linkSweepBy_frame (hm.of rfl) (State.dmaRun_frame (hm.of rfl) h3)

theorem execQmgrAllocRead_frame {m : Nat} {s0 : State} {x0 : Master} {x1 : State} (hm : Sub 0x5174f43dc0047bb1e m) (h1 : Frame m s0 x1) :
    ∃ t, (execQmgrAllocRead x0 x1) = .next t ∧ Frame m s0 t := by
  refine ⟨_, rfl, ?_⟩
  exact State.cmdRead_frame (hm.of rfl) h1

theorem execQmgrCancelWrite_frame {m : Nat} {s0 : State} {x0 : Master} {x1 : Word} {x2 : Disturb} {x3 : State}
    (hm : Sub 0xffffffffffffffff00f7bffa m) (h3 : Frame m s0 x3) : ∃ t, (execQmgrCancelWrite x0 x1 x2 x3) = .next t ∧ Frame m s0 t := by
  refine ⟨_, rfl, ?_⟩
  exact State.linkSweepBy_frame (hm.of rfl) (State.busPut_frame (hm.of rfl) h3)

theorem execQmgrFreeWrite_frame {m : Nat} {s0 : State} {x0 : Master} {x1 : Word} {x2 : State}
    (hm : Sub 0xffffffffffffffff00f7bffa m) (h2 : Frame m s0 x2) : ∃ t, (execQmgrFreeWrite x0 x1 x2) = .next t ∧ Frame m s0 t := by
  refine ⟨_, rfl, ?_⟩
  exact State.cmdWrite_frame (hm.of rfl) h2

theorem execQpushWrite_frame {m : Nat} {s0 : State} {x0 : Master} {x1 : Fin 64} {x2 : Word} {x3 : State}
    (hm : Sub 0xffffffffffffffff00f7bffa m) (h3 : Frame m s0 x3) : ∃ t, (execQpushWrite x0 x1 x2 x3) = .next t ∧ Frame m s0 t := by
  refine ⟨_, rfl, ?_⟩
  exact State.cmdWrite_frame (hm.of rfl) h3

theorem execQueueStart_frame {m : Nat} {s0 : State} {x0 : Fin 8} {x1 : State} (hm : Sub 0x2000 m) (h1 : Frame m s0 x1) :
    ∃ t, (execQueueStart x0 x1) = .next t ∧ Frame m s0 t := by
  refine ⟨_, rfl, ?_⟩
  exact State.queueStart_frame (hm.of rfl) h1

/-! ### Machine/CmdDebug -/

theorem State.captureCells_frame {m : Nat} {s0 : State} {x0 : State} (hm : Sub 0x2 m) (h0 : Frame m s0 x0) :
    Frame m s0 (State.captureCells x0).1 := by
  unfold State.captureCells
  extract_lets +onlyGivenNames -underBinder -merge y0
  have g0 : Frame m s0 y0.2 := by
    exact State.free_frame (hm.of rfl) h0
  try clear_value y0
  extract_lets +onlyGivenNames -underBinder -merge y1
  try clear_value y1
  extract_lets +onlyGivenNames -underBinder -merge y2
  try clear_value y2
  extract_lets +onlyGivenNames -underBinder -merge y3
  try clear_value y3
  exact Frame.fst g0

theorem State.boundary_frame {m : Nat} {s0 : State} {x0 : State} {x1 : Nat} {x2 : Option (BitVec 153)} (hm : Sub 0x4002 m) (h0 : Frame m s0 x0) :
    Frame m s0 (State.boundary x0 x1 x2) := by
  unfold State.boundary
  extract_lets +onlyGivenNames -underBinder -merge y0
  have g0 : Frame m s0 y0 := by
    exact State.modDbg_frame (hm.of rfl) h0
  try clear_value y0
  split
  · extract_lets +onlyGivenNames -underBinder -merge y1
    have g1 : Frame m s0 y1.1 := by
      exact State.captureCells_frame (hm.of rfl) g0
    try clear_value y1
    exact State.shiftOut_frame (hm.of rfl) (State.modDbg_frame (hm.of rfl) g1)
  · exact g0

theorem State.tapScan_frame {m : Nat} {s0 : State} {x0 : State} {x1 x2 : Nat} (hm : Sub 0x4000 m) (h0 : Frame m s0 x0) :
    Frame m s0 (State.tapScan x0 x1 x2) := by
  unfold State.tapScan
  exact State.shiftOut_frame (hm.of rfl) (State.modDbg_frame (hm.of rfl) h0)

theorem State.viaTap_frame {m : Nat} {s0 : State} {x0 : State} {x1 : State → State}
    (_ : Sub 0x0 m) (f1 : ∀ z0, Frame m s0 z0 → Frame m s0 (x1 z0)) (h0 : Frame m s0 x0) : Frame m s0 (State.viaTap x0 x1) := by
  unfold State.viaTap
  refine Frame.ite (fun _ => ?_) (fun _ => ?_)
  · exact f1 _ h0
  · exact h0

theorem execAccessMemory_frame {m : Nat} {s0 : State} {x0 : Fin 4} {x1 : Bool} {x2 : Width} {x3 : Bool} {x4 : Upset} {x5 : State}
    (hm : Sub 0xffffffffffffffff00f7fffa m) (h5 : Frame m s0 x5) : ∃ t, (execAccessMemory x0 x1 x2 x3 x4 x5) = .next t ∧ Frame m s0 t := by
  refine ⟨_, rfl, ?_⟩
  refine State.viaTap_frame (hm.of rfl) ?_ ?_
  · intro y0 g0
    exact State.accessMemory_frame (hm.of rfl) g0
  · exact h5

theorem execAccessRegister_frame {m : Nat} {s0 : State} {x0 : Fin 4} {x1 : Bool} {x2 : Fin 65536} {x3 : Bool} {x4 : Disturb} {x5 : State}
    (hm : Sub 0xffffffffffffffff00f7fffa m) (h5 : Frame m s0 x5) : ∃ t, (execAccessRegister x0 x1 x2 x3 x4 x5) = .next t ∧ Frame m s0 t := by
  refine ⟨_, rfl, ?_⟩
  refine State.viaTap_frame (hm.of rfl) ?_ ?_
  · intro y0 g0
    exact State.accessRegister_frame (hm.of rfl) g0
  · exact h5

theorem execBypass_frame {m : Nat} {s0 : State} {x0 : State} (hm : Sub 0x4000 m) (h0 : Frame m s0 x0) :
    ∃ t, (execBypass x0) = .next t ∧ Frame m s0 t := by
  refine ⟨_, rfl, ?_⟩
  refine State.viaTap_frame (hm.of rfl) ?_ ?_
  · intro y0 g0
    exact State.tapScan_frame (hm.of rfl) g0
  · exact h0

theorem execClamp_frame {m : Nat} {s0 : State} {x0 : State} (hm : Sub 0x4000 m) (h0 : Frame m s0 x0) :
    ∃ t, (execClamp x0) = .next t ∧ Frame m s0 t := by
  refine ⟨_, rfl, ?_⟩
  refine State.viaTap_frame (hm.of rfl) ?_ ?_
  · intro y0 g0
    exact State.tapScan_frame (hm.of rfl) g0
  · exact h0

theorem execClrresethaltreq_frame {m : Nat} {s0 : State} {x0 : Fin 4} {x1 : State} (hm : Sub 0x800 m) (h1 : Frame m s0 x1) :
    ∃ t, (execClrresethaltreq x0 x1) = .next t ∧ Frame m s0 t := by
  refine ⟨_, rfl, ?_⟩
  refine State.viaTap_frame (hm.of rfl) ?_ ?_
  · intro y0 g0
    exact State.resetHalt_frame (hm.of rfl) g0
  · exact h1

theorem execDmi_frame {m : Nat} {s0 : State} {x0 : Option (BitVec 41)} {x1 : State} (hm : Sub 0xffffffffffffffff00f7fffe m) (h1 : Frame m s0 x1) :
    ∃ t, (execDmi x0 x1) = .next t ∧ Frame m s0 t := by
  refine ⟨_, rfl, ?_⟩
  refine State.viaTap_frame (hm.of rfl) ?_ ?_
  · intro y0 g0
    extract_lets +onlyGivenNames -underBinder -merge y1
    have g1 : Frame m s0 y1 := by
      exact State.modDbg_frame (hm.of rfl) g0
    try clear_value y1
    split
    · exact State.dmiScan_frame (hm.of rfl) g1
    · exact g1
  · exact h1

theorem execDtmcs_frame {m : Nat} {s0 : State} {x0 : State} (hm : Sub 0x4000 m) (h0 : Frame m s0 x0) :
    ∃ t, (execDtmcs x0) = .next t ∧ Frame m s0 t := by
  refine ⟨_, rfl, ?_⟩
  refine State.viaTap_frame (hm.of rfl) ?_ ?_
  · intro y0 g0
    exact State.tapScan_frame (hm.of rfl) g0
  · exact h0

theorem execExtest_frame {m : Nat} {s0 : State} {x0 : Option (BitVec 153)} {x1 : State} (hm : Sub 0x4002 m) (h1 : Frame m s0 x1) :
    ∃ t, (execExtest x0 x1) = .next t ∧ Frame m s0 t := by
  refine ⟨_, rfl, ?_⟩
  refine State.viaTap_frame (hm.of rfl) ?_ ?_
  · intro y0 g0
    exact State.boundary_frame (hm.of rfl) g0
  · exact h1

theorem execHaltreq_frame {m : Nat} {s0 : State} {x0 : Fin 4} {x1 : State} (hm : Sub 0x800 m) (h1 : Frame m s0 x1) :
    ∃ t, (execHaltreq x0 x1) = .next t ∧ Frame m s0 t := by
  refine ⟨_, rfl, ?_⟩
  refine State.viaTap_frame (hm.of rfl) ?_ ?_
  · intro y0 g0
    exact State.haltHart_frame (hm.of rfl) g0
  · exact h1

theorem execHartreset_frame {m : Nat} {s0 : State} {x0 : Fin 4} {x1 : Bool} {x2 : State}
    (hm : Sub 0xffffffffffffffff00f6ff32 m) (h2 : Frame m s0 x2) : ∃ t, (execHartreset x0 x1 x2) = .next t ∧ Frame m s0 t := by
  refine ⟨_, rfl, ?_⟩
  refine State.viaTap_frame (hm.of rfl) ?_ ?_
  · intro y0 g0
    exact State.hartReset_frame (hm.of rfl) g0
  · exact h2

theorem execHighz_frame {m : Nat} {s0 : State} {x0 : State} (hm : Sub 0x4000 m) (h0 : Frame m s0 x0) :
    ∃ t, (execHighz x0) = .next t ∧ Frame m s0 t := by
  refine ⟨_, rfl, ?_⟩
  refine State.viaTap_frame (hm.of rfl) ?_ ?_
  · intro y0 g0
    exact State.tapScan_frame (hm.of rfl) g0
  · exact h0

theorem execIdcode_frame {m : Nat} {s0 : State} {x0 : State} (hm : Sub 0x4000 m) (h0 : Frame m s0 x0) :
    ∃ t, (execIdcode x0) = .next t ∧ Frame m s0 t := by
  refine ⟨_, rfl, ?_⟩
  refine State.viaTap_frame (hm.of rfl) ?_ ?_
  · intro y0 g0
    exact State.tapScan_frame (hm.of rfl) g0
  · exact h0

theorem execNdmreset_frame {m : Nat} {s0 : State} {x0 : Bool} {x1 : State} (hm : Sub 0x820000000b04030 m) (h1 : Frame m s0 x1) :
    ∃ t, (execNdmreset x0 x1) = .next t ∧ Frame m s0 t := by
  refine ⟨_, rfl, ?_⟩
  refine State.viaTap_frame (hm.of rfl) ?_ ?_
  · intro y0 g0
    exact State.ndmReset_frame (hm.of rfl) g0
  · exact h1

theorem execProgramBufferExec_frame {m : Nat} {s0 : State} {x0 : Fin 4} {x1 : Disturb} {x2 : State}
    (hm : Sub 0xffffffffffffffff00f7fffa m) (h2 : Frame m s0 x2) : ∃ t, (execProgramBufferExec x0 x1 x2) = .next t ∧ Frame m s0 t := by
  refine ⟨_, rfl, ?_⟩
  refine State.viaTap_frame (hm.of rfl) ?_ ?_
  · intro y0 g0
    refine State.abstractCmd_frame (hm.of rfl) ?_ ?_
    · intro y1 g1
      exact State.progBuffer_frame (hm.of rfl) g1
    · exact g0
  · exact h2

theorem execResumereq_frame {m : Nat} {s0 : State} {x0 : Fin 4} {x1 : State} (hm : Sub 0x4800 m) (h1 : Frame m s0 x1) :
    ∃ t, (execResumereq x0 x1) = .next t ∧ Frame m s0 t := by
  refine ⟨_, rfl, ?_⟩
  refine State.viaTap_frame (hm.of rfl) ?_ ?_
  · intro y0 g0
    exact State.resumeReq_frame (hm.of rfl) g0
  · exact h1

theorem execSamplePreload_frame {m : Nat} {s0 : State} {x0 : Option (BitVec 153)} {x1 : State} (hm : Sub 0x4002 m) (h1 : Frame m s0 x1) :
    ∃ t, (execSamplePreload x0 x1) = .next t ∧ Frame m s0 t := by
  refine ⟨_, rfl, ?_⟩
  refine State.viaTap_frame (hm.of rfl) ?_ ?_
  · intro y0 g0
    exact State.boundary_frame (hm.of rfl) g0
  · exact h1

theorem execSetresethaltreq_frame {m : Nat} {s0 : State} {x0 : Fin 4} {x1 : State} (hm : Sub 0x800 m) (h1 : Frame m s0 x1) :
    ∃ t, (execSetresethaltreq x0 x1) = .next t ∧ Frame m s0 t := by
  refine ⟨_, rfl, ?_⟩
  refine State.viaTap_frame (hm.of rfl) ?_ ?_
  · intro y0 g0
    exact State.resetHalt_frame (hm.of rfl) g0
  · exact h1

theorem execSystemBusAccess_frame {m : Nat} {s0 : State} {x0 : Fin 4} {x1 : Bool} {x2 : Word} {x3 : Width} {x4 : Word} {x5 : Upset} {x6 : State}
    (hm : Sub 0xffffffffffffffff00f7fffe m) (h6 : Frame m s0 x6) : ∃ t, (execSystemBusAccess x0 x1 x2 x3 x4 x5 x6) = .next t ∧ Frame m s0 t := by
  refine ⟨_, rfl, ?_⟩
  refine State.viaTap_frame (hm.of rfl) ?_ ?_
  · intro y0 g0
    exact State.systemBus_frame (hm.of rfl) g0
  · exact h6

theorem execTapReset_frame {m : Nat} {s0 : State} {x0 : State} (hm : Sub 0x4000 m) (h0 : Frame m s0 x0) :
    ∃ t, (execTapReset x0) = .next t ∧ Frame m s0 t := by
  refine ⟨_, rfl, ?_⟩
  refine State.viaTap_frame (hm.of rfl) ?_ ?_
  · intro y0 g0
    exact State.modDbg_frame (hm.of rfl) g0
  · exact h0

theorem execTriggerMatch_frame {m : Nat} {s0 : State} {x0 x1 : Fin 4} {x2 : TrigKind} {x3 x4 : Word} {x5 : State}
    (hm : Sub 0x800 m) (h5 : Frame m s0 x5) : ∃ t, (execTriggerMatch x0 x1 x2 x3 x4 x5) = .next t ∧ Frame m s0 t := by
  refine ⟨_, rfl, ?_⟩
  exact State.triggered_frame (hm.of rfl) h5

/-! ### Machine/CmdFabric -/

theorem execCanTxTriggerObjWrite_frame {m : Nat} {s0 : State} {x0 : Master} {x1 : Fin 3} {x2 : Word} {x3 : State}
    (hm : Sub 0xffffffffffffffff00f7bffa m) (h3 : Frame m s0 x3) : ∃ t, (execCanTxTriggerObjWrite x0 x1 x2 x3) = .next t ∧ Frame m s0 t := by
  refine ⟨_, rfl, ?_⟩
  extract_lets +onlyGivenNames -underBinder -merge y0
  try clear_value y0
  exact State.cmdWrite_frame (hm.of rfl) h3

theorem execEventSourceFire_frame {m : Nat} {s0 : State} {x0 : Fin 128} {x1 : State} (hm : Sub 0x70303d40046aa1a m) (h1 : Frame m s0 x1) :
    ∃ t, (execEventSourceFire x0 x1) = .next t ∧ Frame m s0 t := by
  refine ⟨_, rfl, ?_⟩
  refine State.when_frame (hm.of rfl) ?_ ?_
  · intro y0 g0
    exact State.fire_frame (hm.of rfl) g0
  · exact h1

theorem execEvfChLock_frame {m : Nat} {s0 : State} {x0 : Master} {x1 : Fin 64} {x2 : State}
    (hm : Sub 0xffffffffffffffff00f7bffa m) (h2 : Frame m s0 x2) : ∃ t, (execEvfChLock x0 x1 x2) = .next t ∧ Frame m s0 t := by
  refine ⟨_, rfl, ?_⟩
  exact State.cmdWrite_frame (hm.of rfl) h2

theorem execEvfChWrite_frame {m : Nat} {s0 : State} {x0 : Master} {x1 : Fin 64} {x2 : Word} {x3 : State}
    (hm : Sub 0xffffffffffffffff00f7bffa m) (h3 : Frame m s0 x3) : ∃ t, (execEvfChWrite x0 x1 x2 x3) = .next t ∧ Frame m s0 t := by
  refine ⟨_, rfl, ?_⟩
  exact State.cmdWrite_frame (hm.of rfl) h3

theorem execEvfSinkWrite_frame {m : Nat} {s0 : State} {x0 : Master} {x1 : Fin 64} {x2 : Word} {x3 : State}
    (hm : Sub 0xffffffffffffffff00f7bffa m) (h3 : Frame m s0 x3) : ∃ t, (execEvfSinkWrite x0 x1 x2 x3) = .next t ∧ Frame m s0 t := by
  refine ⟨_, rfl, ?_⟩
  exact State.cmdWrite_frame (hm.of rfl) h3

theorem execEvoutPulseEnd_frame {m : Nat} {s0 : State} {x0 : Fin 8} {x1 : State} (hm : Sub 0x8000 m) (h1 : Frame m s0 x1) :
    ∃ t, (execEvoutPulseEnd x0 x1) = .next t ∧ Frame m s0 t := by
  refine ⟨_, rfl, ?_⟩
  refine Frame.ite (fun _ => ?_) (fun _ => ?_)
  · exact h1
  · extract_lets +onlyGivenNames -underBinder -merge y0
    have g0 : Frame m s0 y0 := by
      refine State.when_frame (hm.of rfl) ?_ ?_
      · intro y1 g1
        exact State.setEvout_frame (hm.of rfl) g1
      · exact h1
    try clear_value y0
    exact Frame.fab (hm.of rfl) g0

theorem execPadFilterAccept_frame {m : Nat} {s0 : State} {x0 : Fin 48} {x1 : Bool} {x2 : State}
    (hm : Sub 0x2070303d40046aa1a m) (h2 : Frame m s0 x2) : ∃ t, (execPadFilterAccept x0 x1 x2) = .next t ∧ Frame m s0 t := by
  refine ⟨_, rfl, ?_⟩
  exact State.padAccept_frame (hm.of rfl) h2

theorem execPortCfgWrite_frame {m : Nat} {s0 : State} {x0 : Master} {x1 : Fin 48} {x2 : Word} {x3 : State}
    (hm : Sub 0xffffffffffffffff00f7bffa m) (h3 : Frame m s0 x3) : ∃ t, (execPortCfgWrite x0 x1 x2 x3) = .next t ∧ Frame m s0 t := by
  refine ⟨_, rfl, ?_⟩
  exact State.cmdWrite_frame (hm.of rfl) h3

theorem execPortClr_frame {m : Nat} {s0 : State} {x0 : Master} {x1 : Fin 2} {x2 : Word} {x3 : State}
    (hm : Sub 0xffffffffffffffff00f7bffa m) (h3 : Frame m s0 x3) : ∃ t, (execPortClr x0 x1 x2 x3) = .next t ∧ Frame m s0 t := by
  refine ⟨_, rfl, ?_⟩
  exact State.cmdWrite_frame (hm.of rfl) h3

theorem execPortSet_frame {m : Nat} {s0 : State} {x0 : Master} {x1 : Fin 2} {x2 : Word} {x3 : State}
    (hm : Sub 0xffffffffffffffff00f7bffa m) (h3 : Frame m s0 x3) : ∃ t, (execPortSet x0 x1 x2 x3) = .next t ∧ Frame m s0 t := by
  refine ⟨_, rfl, ?_⟩
  exact State.cmdWrite_frame (hm.of rfl) h3

theorem execSinkPendingAct_frame {m : Nat} {s0 : State} {x0 : Fin 64} {x1 : State} (hm : Sub 0x70303d40046aa1a m) (h1 : Frame m s0 x1) :
    ∃ t, (execSinkPendingAct x0 x1) = .next t ∧ Frame m s0 t := by
  refine ⟨_, rfl, ?_⟩
  exact State.pendingAct_frame (hm.of rfl) h1

theorem execSwtrig_frame {m : Nat} {s0 : State} {x0 : Master} {x1 : Word} {x2 : State} (hm : Sub 0xffffffffffffffff00f7bffa m) (h2 : Frame m s0 x2) :
    ∃ t, (execSwtrig x0 x1 x2) = .next t ∧ Frame m s0 t := by
  refine ⟨_, rfl, ?_⟩
  exact State.cmdWrite_frame (hm.of rfl) h2

/-! ### Machine/CmdSerial -/

theorem State.i2cCmd_frame {m : Nat} {s0 : State} {x0 : State} {x1 : Master} {x2 x3 : Nat}
    (hm : Sub 0xffffffffffffffff00f7bffa m) (h0 : Frame m s0 x0) : Frame m s0 (State.i2cCmd x0 x1 x2 x3) := by
  unfold State.i2cCmd
  exact State.cmdWrite_frame (hm.of rfl) h0

theorem execArbLost_frame {m : Nat} {s0 : State} {x0 : BitVec 7} {x1 : Bool} {x2 : State} (hm : Sub 0x40000000000010000 m) (h2 : Frame m s0 x2) :
    ∃ t, (execArbLost x0 x1 x2) = .next t ∧ Frame m s0 t := by
  refine ⟨_, rfl, ?_⟩
  exact State.i2cLost_frame (hm.of rfl) h2

theorem execI2cCmdDone_frame {m : Nat} {s0 : State} {x0 : Bool} {x1 : Byte} {x2 : State} (hm : Sub 0x40000000000010000 m) (h2 : Frame m s0 x2) :
    ∃ t, (execI2cCmdDone x0 x1 x2) = .next t ∧ Frame m s0 t := by
  refine ⟨_, rfl, ?_⟩
  exact State.i2cEnd_frame (hm.of rfl) h2

theorem execI2cStop_frame {m : Nat} {s0 : State} {x0 : Master} {x1 : State} (hm : Sub 0xffffffffffffffff00f7bffa m) (h1 : Frame m s0 x1) :
    ∃ t, (execI2cStop x0 x1) = .next t ∧ Frame m s0 t := by
  refine ⟨_, rfl, ?_⟩
  exact State.i2cCmd_frame (hm.of rfl) h1

theorem execI2cTargetDataAccess_frame {m : Nat} {s0 : State} {x0 : Master} {x1 : TargetStep} {x2 : Word} {x3 : State}
    (hm : Sub 0xffffffffffffffff00f7bffe m) (h3 : Frame m s0 x3) : ∃ t, (execI2cTargetDataAccess x0 x1 x2 x3) = .next t ∧ Frame m s0 t := by
  refine ⟨_, rfl, ?_⟩
  split
  · exact State.i2cByte_frame (hm.of rfl) h3
  · exact State.cmdRead_frame (hm.of rfl) h3
  · exact State.cmdWrite_frame (hm.of rfl) h3

theorem execI2cWrite_frame {m : Nat} {s0 : State} {x0 : Master} {x1 : Byte} {x2 : State}
    (hm : Sub 0xffffffffffffffff00f7bffa m) (h2 : Frame m s0 x2) : ∃ t, (execI2cWrite x0 x1 x2) = .next t ∧ Frame m s0 t := by
  refine ⟨_, rfl, ?_⟩
  exact State.i2cCmd_frame (hm.of rfl) h2

theorem execReadAck_frame {m : Nat} {s0 : State} {x0 : Master} {x1 : State} (hm : Sub 0xffffffffffffffff00f7bffa m) (h1 : Frame m s0 x1) :
    ∃ t, (execReadAck x0 x1) = .next t ∧ Frame m s0 t := by
  refine ⟨_, rfl, ?_⟩
  exact State.i2cCmd_frame (hm.of rfl) h1

theorem execReadNack_frame {m : Nat} {s0 : State} {x0 : Master} {x1 : State} (hm : Sub 0xffffffffffffffff00f7bffa m) (h1 : Frame m s0 x1) :
    ∃ t, (execReadNack x0 x1) = .next t ∧ Frame m s0 t := by
  refine ⟨_, rfl, ?_⟩
  exact State.i2cCmd_frame (hm.of rfl) h1

theorem execSend_frame {m : Nat} {s0 : State} {x0 : Master} {x1 : Fin 2} {x2 : Word} {x3 : State}
    (hm : Sub 0xffffffffffffffff00f7bffa m) (h3 : Frame m s0 x3) : ∃ t, (execSend x0 x1 x2 x3) = .next t ∧ Frame m s0 t := by
  refine ⟨_, rfl, ?_⟩
  exact State.cmdWrite_frame (hm.of rfl) h3

theorem execSpiDataRead_frame {m : Nat} {s0 : State} {x0 : Master} {x1 : Fin 2} {x2 : State} (hm : Sub 0x5174f43dc0047bb1e m) (h2 : Frame m s0 x2) :
    ∃ t, (execSpiDataRead x0 x1 x2) = .next t ∧ Frame m s0 t := by
  refine ⟨_, rfl, ?_⟩
  exact State.cmdRead_frame (hm.of rfl) h2

theorem execSpiDataWrite_frame {m : Nat} {s0 : State} {x0 : Master} {x1 : Fin 2} {x2 : Word} {x3 : State}
    (hm : Sub 0xffffffffffffffff00f7bffa m) (h3 : Frame m s0 x3) : ∃ t, (execSpiDataWrite x0 x1 x2 x3) = .next t ∧ Frame m s0 t := by
  refine ⟨_, rfl, ?_⟩
  exact State.cmdWrite_frame (hm.of rfl) h3

theorem execSpiFrameEnd_frame {m : Nat} {s0 : State} {x0 : Fin 2} {x1 : Option Word} {x2 : State}
    (hm : Sub 0x40000000000010000 m) (h2 : Frame m s0 x2) : ∃ t, (execSpiFrameEnd x0 x1 x2) = .next t ∧ Frame m s0 t := by
  refine ⟨_, rfl, ?_⟩
  split
  · exact State.spiEnd_frame (hm.of rfl) h2
  · exact State.spiBegin_frame (hm.of rfl) h2

theorem execStartRead_frame {m : Nat} {s0 : State} {x0 : Master} {x1 : BitVec 8} {x2 : State}
    (hm : Sub 0xffffffffffffffff00f7bffa m) (h2 : Frame m s0 x2) : ∃ t, (execStartRead x0 x1 x2) = .next t ∧ Frame m s0 t := by
  refine ⟨_, rfl, ?_⟩
  exact State.i2cCmd_frame (hm.of rfl) h2

theorem execStartWrite_frame {m : Nat} {s0 : State} {x0 : Master} {x1 : BitVec 8} {x2 : State}
    (hm : Sub 0xffffffffffffffff00f7bffa m) (h2 : Frame m s0 x2) : ∃ t, (execStartWrite x0 x1 x2) = .next t ∧ Frame m s0 t := by
  refine ⟨_, rfl, ?_⟩
  exact State.i2cCmd_frame (hm.of rfl) h2

theorem execStuck_frame {m : Nat} {s0 : State} {x0 : Bool} {x1 : State} (hm : Sub 0x40000000000010000 m) (h1 : Frame m s0 x1) :
    ∃ t, (execStuck x0 x1) = .next t ∧ Frame m s0 t := by
  refine ⟨_, rfl, ?_⟩
  exact State.i2cStuck_frame (hm.of rfl) h1

theorem execTgtAddr_frame {m : Nat} {s0 : State} {x0 : BitVec 7} {x1 : Bool} {x2 : State} (hm : Sub 0x40000000000010000 m) (h2 : Frame m s0 x2) :
    ∃ t, (execTgtAddr x0 x1 x2) = .next t ∧ Frame m s0 t := by
  refine ⟨_, rfl, ?_⟩
  exact State.i2cAddressed_frame (hm.of rfl) h2

theorem execTgtStop_frame {m : Nat} {s0 : State} {x0 : State} (hm : Sub 0x40000000000010000 m) (h0 : Frame m s0 x0) :
    ∃ t, (execTgtStop x0) = .next t ∧ Frame m s0 t := by
  refine ⟨_, rfl, ?_⟩
  exact State.i2cStopSeen_frame (hm.of rfl) h0

theorem execUartBreak_frame {m : Nat} {s0 : State} {x0 : Fin 2} {x1 : State} (hm : Sub 0x40000000000000000 m) (h1 : Frame m s0 x1) :
    ∃ t, (execUartBreak x0 x1) = .next t ∧ Frame m s0 t := by
  refine ⟨_, rfl, ?_⟩
  exact State.uartBreakSeen_frame (hm.of rfl) h1

theorem execUartBreakSent_frame {m : Nat} {s0 : State} {x0 : Fin 2} {x1 : State} (hm : Sub 0x40000000000010000 m) (h1 : Frame m s0 x1) :
    ∃ t, (execUartBreakSent x0 x1) = .next t ∧ Frame m s0 t := by
  refine ⟨_, rfl, ?_⟩
  exact State.uartBroke_frame (hm.of rfl) h1

theorem execUartCharReceived_frame {m : Nat} {s0 : State} {x0 : Fin 2} {x1 : BitVec 9} {x2 x3 : Bool} {x4 : State}
    (hm : Sub 0x40000000000010000 m) (h4 : Frame m s0 x4) : ∃ t, (execUartCharReceived x0 x1 x2 x3 x4) = .next t ∧ Frame m s0 t := by
  refine ⟨_, rfl, ?_⟩
  exact State.uartTake_frame (hm.of rfl) h4

theorem execUartCharSent_frame {m : Nat} {s0 : State} {x0 : Fin 2} {x1 : State} (hm : Sub 0x40000000000010000 m) (h1 : Frame m s0 x1) :
    ∃ t, (execUartCharSent x0 x1) = .next t ∧ Frame m s0 t := by
  refine ⟨_, rfl, ?_⟩
  exact State.uartSent_frame (hm.of rfl) h1

theorem execUartDataRead_frame {m : Nat} {s0 : State} {x0 : Master} {x1 : Fin 2} {x2 : State} (hm : Sub 0x5174f43dc0047bb1e m) (h2 : Frame m s0 x2) :
    ∃ t, (execUartDataRead x0 x1 x2) = .next t ∧ Frame m s0 t := by
  refine ⟨_, rfl, ?_⟩
  exact State.cmdRead_frame (hm.of rfl) h2

theorem execUartDataWrite_frame {m : Nat} {s0 : State} {x0 : Master} {x1 : Fin 2} {x2 : Word} {x3 : State}
    (hm : Sub 0xffffffffffffffff00f7bffa m) (h3 : Frame m s0 x3) : ∃ t, (execUartDataWrite x0 x1 x2 x3) = .next t ∧ Frame m s0 t := by
  refine ⟨_, rfl, ?_⟩
  exact State.cmdWrite_frame (hm.of rfl) h3

/-! ### Machine/CmdTime -/

theorem execAbsoluteCompareFire_frame {m : Nat} {s0 : State} {x0 : Fin 16} {x1 : State} (hm : Sub 0x70303d40046aa1a m) (h1 : Frame m s0 x1) :
    ∃ t, (execAbsoluteCompareFire x0 x1) = .next t ∧ Frame m s0 t := by
  refine ⟨_, rfl, ?_⟩
  exact State.judgeTick_frame (hm.of rfl) h1

theorem execAcceptNext_frame {m : Nat} {s0 : State} {x0 : Master} {x1 : State} (hm : Sub 0xffffffffffffffff00f7bffa m) (h1 : Frame m s0 x1) :
    ∃ t, (execAcceptNext x0 x1) = .next t ∧ Frame m s0 t := by
  refine ⟨_, rfl, ?_⟩
  exact State.cmdWrite_frame (hm.of rfl) h1

theorem execNtuArm_frame {m : Nat} {s0 : State} {x0 : Master} {x1 : Fin 16} {x2 : Word} {x3 : State}
    (hm : Sub 0xffffffffffffffff00f7bffa m) (h3 : Frame m s0 x3) : ∃ t, (execNtuArm x0 x1 x2 x3) = .next t ∧ Frame m s0 t := by
  refine ⟨_, rfl, ?_⟩
  exact State.cmdWrite_frame (hm.of rfl) h3

theorem execNtuCapture_frame {m : Nat} {s0 : State} {x0 : Fin 16} {x1 : Bool} {x2 : State} (hm : Sub 0x2000000000000 m) (h2 : Frame m s0 x2) :
    ∃ t, (execNtuCapture x0 x1 x2) = .next t ∧ Frame m s0 t := by
  refine ⟨_, rfl, ?_⟩
  refine State.when_frame (hm.of rfl) ?_ ?_
  · intro y0 g0
    exact State.captureEdge_frame (hm.of rfl) g0
  · exact h2

theorem execNtuCaptureCRead_frame {m : Nat} {s0 : State} {x0 : Master} {x1 : Fin 16} {x2 : State}
    (hm : Sub 0x5174f43dc0047bb1e m) (h2 : Frame m s0 x2) : ∃ t, (execNtuCaptureCRead x0 x1 x2) = .next t ∧ Frame m s0 t := by
  refine ⟨_, rfl, ?_⟩
  exact State.cmdRead_frame (hm.of rfl) h2

theorem execNtuChModeWrite_frame {m : Nat} {s0 : State} {x0 : Master} {x1 : Fin 16} {x2 : Word} {x3 : State}
    (hm : Sub 0xffffffffffffffff00f7bffa m) (h3 : Frame m s0 x3) : ∃ t, (execNtuChModeWrite x0 x1 x2 x3) = .next t ∧ Frame m s0 t := by
  refine ⟨_, rfl, ?_⟩
  exact State.cmdWrite_frame (hm.of rfl) h3

theorem execNtuCompareTargetWrite_frame {m : Nat} {s0 : State} {x0 : Master} {x1 : Fin 16} {x2 : Fin 3} {x3 : Word} {x4 : State}
    (hm : Sub 0xffffffffffffffff00f7bffa m) (h4 : Frame m s0 x4) : ∃ t, (execNtuCompareTargetWrite x0 x1 x2 x3 x4) = .next t ∧ Frame m s0 t := by
  refine ⟨_, rfl, ?_⟩
  exact State.cmdWrite_frame (hm.of rfl) h4

theorem execNtuPpsOut_frame {m : Nat} {s0 : State} {x0 : State} (hm : Sub 0x20000 m) (h0 : Frame m s0 x0) :
    ∃ t, (execNtuPpsOut x0) = .next t ∧ Frame m s0 t := by
  refine ⟨_, rfl, ?_⟩
  exact State.ppsRise_frame (hm.of rfl) h0

theorem execNtuSet_frame {m : Nat} {s0 : State} {x0 : Master} {x1 : State} (hm : Sub 0xffffffffffffffff00f7bffa m) (h1 : Frame m s0 x1) :
    ∃ t, (execNtuSet x0 x1) = .next t ∧ Frame m s0 t := by
  refine ⟨_, rfl, ?_⟩
  exact State.cmdWrite_frame (hm.of rfl) h1

theorem execNtuTimeSecLoRead_frame {m : Nat} {s0 : State} {x0 : Master} {x1 : State} (hm : Sub 0x5174f43dc0047bb1e m) (h1 : Frame m s0 x1) :
    ∃ t, (execNtuTimeSecLoRead x0 x1) = .next t ∧ Frame m s0 t := by
  refine ⟨_, rfl, ?_⟩
  exact State.cmdRead_frame (hm.of rfl) h1

theorem execPpsEdge_frame {m : Nat} {s0 : State} {x0 : State} (hm : Sub 0x2000000220012 m) (h0 : Frame m s0 x0) :
    ∃ t, (execPpsEdge x0) = .next t ∧ Frame m s0 t := by
  refine ⟨_, rfl, ?_⟩
  refine State.when_frame (hm.of rfl) ?_ ?_
  · intro y0 g0
    exact State.ppsEdge_frame (hm.of rfl) g0
  · exact h0

theorem execPpsOutEnd_frame {m : Nat} {s0 : State} {x0 : State} (hm : Sub 0x20000 m) (h0 : Frame m s0 x0) :
    ∃ t, (execPpsOutEnd x0) = .next t ∧ Frame m s0 t := by
  refine ⟨_, rfl, ?_⟩
  exact Frame.ntu (hm.of rfl) (fun i => by first | exact i.ns | exact Nat.mod_lt _ (by decide) | exact (by decide : 0 < nsPerSec)) h0

theorem execRelativeCompareFire_frame {m : Nat} {s0 : State} {x0 : Fin 16} {x1 : State} (hm : Sub 0x70303d40046aa1a m) (h1 : Frame m s0 x1) :
    ∃ t, (execRelativeCompareFire x0 x1) = .next t ∧ Frame m s0 t := by
  refine ⟨_, rfl, ?_⟩
  exact State.judgeRelative_frame (hm.of rfl) h1

theorem execServoEnWrite_frame {m : Nat} {s0 : State} {x0 : Master} {x1 : Word} {x2 : State}
    (hm : Sub 0xffffffffffffffff00f7bffa m) (h2 : Frame m s0 x2) : ∃ t, (execServoEnWrite x0 x1 x2) = .next t ∧ Frame m s0 t := by
  refine ⟨_, rfl, ?_⟩
  exact State.cmdWrite_frame (hm.of rfl) h2

theorem execServoSample_frame {m : Nat} {s0 : State} {x0 : Fin 4} {x1 : Int} {x2 : BitVec 16} {x3 : State}
    (hm : Sub 0x2000000220010 m) (h3 : Frame m s0 x3) : ∃ t, (execServoSample x0 x1 x2 x3) = .next t ∧ Frame m s0 t := by
  refine ⟨_, rfl, ?_⟩
  exact State.servoSample_frame (hm.of rfl) h3

theorem execSyncPaired_frame {m : Nat} {s0 : State} {x0 : Fin 2} {x1 : State} (hm : Sub 0xe000000220010 m) (h1 : Frame m s0 x1) :
    ∃ t, (execSyncPaired x0 x1) = .next t ∧ Frame m s0 t := by
  refine ⟨_, rfl, ?_⟩
  exact State.pairSync_frame (hm.of rfl) h1

theorem execSyncUnpairedDiscard_frame {m : Nat} {s0 : State} {x0 : Fin 2} {x1 : State} (hm : Sub 0x20000 m) (h1 : Frame m s0 x1) :
    ∃ t, (execSyncUnpairedDiscard x0 x1) = .next t ∧ Frame m s0 t := by
  refine ⟨_, rfl, ?_⟩
  exact State.dropSync_frame (hm.of rfl) h1

/-! ### Machine/CmdCan -/

theorem State.qtxFill_frame {m : Nat} {s0 : State} {x0 : State} {x1 x2 : Nat} {x3 : Active} {x4 : List Nat}
    (hm : Sub 0x41000 m) (h0 : Frame m s0 x0) : Frame m s0 (State.qtxFill x0 x1 x2 x3 x4) := by
  unfold State.qtxFill
  extract_lets +onlyGivenNames -underBinder -merge y0
  try clear_value y0
  extract_lets +onlyGivenNames -underBinder -merge y1
  try clear_value y1
  extract_lets +onlyGivenNames -underBinder -merge y2
  try clear_value y2
  extract_lets +onlyGivenNames -underBinder -merge y3
  try clear_value y3
  extract_lets +onlyGivenNames -underBinder -merge y4
  try clear_value y4
  exact State.setWord1_frame (hm.of rfl) (State.setWords_frame (hm.of rfl) (State.setWord_frame (hm.of rfl) (State.setWord_frame (hm.of rfl) h0)))

theorem State.qtxCopy_frame {m : Nat} {s0 : State} {x0 : State} {x1 : Fin 2} {x2 : Nat} {x3 : Disturb}
    (hm : Sub 0x5174f43dc0047bb1a m) (h0 : Frame m s0 x0) : Frame m s0 (State.qtxCopy x0 x1 x2 x3) := by
  unfold State.qtxCopy
  split
  · exact h0
  · refine Frame.ite (fun _ => ?_) (fun _ => ?_)
    · exact h0
    · refine Frame.ite (fun _ => ?_) (fun _ => ?_)
      · exact State.complete_frame (hm.of rfl) h0
      · extract_lets +onlyGivenNames -underBinder -merge y0
        try clear_value y0
        extract_lets +onlyGivenNames -underBinder -merge y1
        have g1 : Frame m s0 y1.1 := by
          exact State.readBytes_frame (hm.of rfl) h0
        try clear_value y1
        split
        · refine Frame.ite (fun _ => ?_) (fun _ => ?_)
          · exact h0
          · exact State.complete_frame (hm.of rfl) g1
        · exact State.qtxFill_frame (hm.of rfl) g1

theorem execBoffDelayExpiry_frame {m : Nat} {s0 : State} {x0 : Fin 2} {x1 : State} (hm : Sub 0xc000000000000 m) (h1 : Frame m s0 x1) :
    ∃ t, (execBoffDelayExpiry x0 x1) = .next t ∧ Frame m s0 t := by
  refine ⟨_, rfl, ?_⟩
  refine State.when_frame (hm.of rfl) ?_ ?_
  · intro y0 g0
    exact State.startRecovery_frame (hm.of rfl) g0
  · exact h1

theorem execBusOff_frame {m : Nat} {s0 : State} {x0 : Fin 2} {x1 : State} (hm : Sub 0x71f43d40046ba1a m) (h1 : Frame m s0 x1) :
    ∃ t, (execBusOff x0 x1) = .next t ∧ Frame m s0 t := by
  refine ⟨_, rfl, ?_⟩
  refine State.when_frame (hm.of rfl) ?_ ?_
  · intro y0 g0
    exact State.enterBusOff_frame (hm.of rfl) g0
  · exact h1

theorem execBusOffRecovered_frame {m : Nat} {s0 : State} {x0 : Fin 2} {x1 : State} (hm : Sub 0xc000000000000 m) (h1 : Frame m s0 x1) :
    ∃ t, (execBusOffRecovered x0 x1) = .next t ∧ Frame m s0 t := by
  refine ⟨_, rfl, ?_⟩
  refine State.when_frame (hm.of rfl) ?_ ?_
  · intro y0 g0
    exact State.endRecovery_frame (hm.of rfl) g0
  · exact h1

theorem execCanArbitrationLost_frame {m : Nat} {s0 : State} {x0 : Fin 2} {x1 : State} (hm : Sub 0x71f43d40046ba1a m) (h1 : Frame m s0 x1) :
    ∃ t, (execCanArbitrationLost x0 x1) = .next t ∧ Frame m s0 t := by
  refine ⟨_, rfl, ?_⟩
  exact State.arbLost_frame (hm.of rfl) h1

theorem execCanBusJoin_frame {m : Nat} {s0 : State} {x0 : Fin 2} {x1 : State} (hm : Sub 0xc000000000000 m) (h1 : Frame m s0 x1) :
    ∃ t, (execCanBusJoin x0 x1) = .next t ∧ Frame m s0 t := by
  refine ⟨_, rfl, ?_⟩
  refine State.when_frame (hm.of rfl) ?_ ?_
  · intro y0 g0
    exact State.put_frame (hm.of rfl) (Allows.can rfl (hm.of rfl)) g0
  · exact h1

theorem execCanCancelSampled_frame {m : Nat} {s0 : State} {x0 : Fin 2} {x1 : Fin 128} {x2 : Bool} {x3 : State}
    (hm : Sub 0x71f43d40046ba1a m) (h3 : Frame m s0 x3) : ∃ t, (execCanCancelSampled x0 x1 x2 x3) = .next t ∧ Frame m s0 t := by
  refine ⟨_, rfl, ?_⟩
  refine State.when_frame (hm.of rfl) ?_ ?_
  · intro y0 g0
    exact State.sampleCancel_frame (hm.of rfl) g0
  · exact h3

theorem execCanFrameReceived_frame {m : Nat} {s0 : State} {x0 : Fin 2} {x1 : CanSeen} {x2 : State}
    (hm : Sub 0x71f03d40046ba1a m) (h2 : Frame m s0 x2) : ∃ t, (execCanFrameReceived x0 x1 x2) = .next t ∧ Frame m s0 t := by
  refine ⟨_, rfl, ?_⟩
  exact State.canSeen_frame (hm.of rfl) h2

theorem execCanLockAbandon_frame {m : Nat} {s0 : State} {x0 : Master} {x1 : Fin 2} {x2 : Word} {x3 : State}
    (hm : Sub 0xffffffffffffffff00f7bffa m) (h3 : Frame m s0 x3) : ∃ t, (execCanLockAbandon x0 x1 x2 x3) = .next t ∧ Frame m s0 t := by
  refine ⟨_, rfl, ?_⟩
  exact State.cmdWrite_frame (hm.of rfl) h3

theorem execCanModeWrite_frame {m : Nat} {s0 : State} {x0 : Master} {x1 : Fin 2} {x2 : Word} {x3 : State}
    (hm : Sub 0xffffffffffffffff00f7bffa m) (h3 : Frame m s0 x3) : ∃ t, (execCanModeWrite x0 x1 x2 x3) = .next t ∧ Frame m s0 t := by
  refine ⟨_, rfl, ?_⟩
  exact State.cmdWrite_frame (hm.of rfl) h3

theorem execCanObjWord0Read_frame {m : Nat} {s0 : State} {x0 : Master} {x1 : Fin 2} {x2 : Fin 128} {x3 : Upset} {x4 : State}
    (hm : Sub 0x5174f43dc0047bb1e m) (h4 : Frame m s0 x4) : ∃ t, (execCanObjWord0Read x0 x1 x2 x3 x4) = .next t ∧ Frame m s0 t := by
  refine ⟨_, rfl, ?_⟩
  exact State.cmdRead_frame (hm.of rfl) h4

theorem execCanObjWord19Read_frame {m : Nat} {s0 : State} {x0 : Master} {x1 : Fin 2} {x2 : Fin 128} {x3 : Upset} {x4 : State}
    (hm : Sub 0x5174f43dc0047bb1e m) (h4 : Frame m s0 x4) : ∃ t, (execCanObjWord19Read x0 x1 x2 x3 x4) = .next t ∧ Frame m s0 t := by
  refine ⟨_, rfl, ?_⟩
  exact State.cmdRead_frame (hm.of rfl) h4

theorem execCanObjWord1Write_frame {m : Nat} {s0 : State} {x0 : Master} {x1 : Fin 2} {x2 : Fin 128} {x3 : Word} {x4 : State}
    (hm : Sub 0xffffffffffffffff00f7bffa m) (h4 : Frame m s0 x4) : ∃ t, (execCanObjWord1Write x0 x1 x2 x3 x4) = .next t ∧ Frame m s0 t := by
  refine ⟨_, rfl, ?_⟩
  exact State.cmdWrite_frame (hm.of rfl) h4

theorem execCanQtxTake_frame {m : Nat} {s0 : State} {x0 : Fin 2} {x1 : Fin 8} {x2 : Option (Fin 8)} {x3 : Disturb} {x4 : State}
    (hm : Sub 0x5174f43dc0047bb1a m) (h4 : Frame m s0 x4) : ∃ t, (execCanQtxTake x0 x1 x2 x3 x4) = .next t ∧ Frame m s0 t := by
  refine ⟨_, rfl, ?_⟩
  exact State.qtxCopy_frame (hm.of rfl) (State.consumerTake_frame (hm.of rfl) h4)

theorem execCanSent_frame {m : Nat} {s0 : State} {x0 : Fin 2} {x1 : Nat} {x2 : State} (hm : Sub 0x71f43d40046ba1a m) (h2 : Frame m s0 x2) :
    ∃ t, (execCanSent x0 x1 x2) = .next t ∧ Frame m s0 t := by
  refine ⟨_, rfl, ?_⟩
  exact State.frameSent_frame (hm.of rfl) h2

theorem execCanStopTakesEffect_frame {m : Nat} {s0 : State} {x0 : Fin 2} {x1 : State} (hm : Sub 0x1c000000040000 m) (h1 : Frame m s0 x1) :
    ∃ t, (execCanStopTakesEffect x0 x1) = .next t ∧ Frame m s0 t := by
  refine ⟨_, rfl, ?_⟩
  refine State.when_frame (hm.of rfl) ?_ ?_
  · intro y0 g0
    exact State.canStop_frame (hm.of rfl) g0
  · exact h1

theorem execCanTx_frame {m : Nat} {s0 : State} {x0 : Fin 2} {x1 : Fin 8} {x2 : Disturb} {x3 : State}
    (hm : Sub 0x5174f43dc0047bb1a m) (h3 : Frame m s0 x3) : ∃ t, (execCanTx x0 x1 x2 x3) = .next t ∧ Frame m s0 t := by
  refine ⟨_, rfl, ?_⟩
  exact State.qtxCopy_frame (hm.of rfl) h3

theorem execCanTxError_frame {m : Nat} {s0 : State} {x0 : Fin 2} {x1 : Bool} {x2 : State} (hm : Sub 0x71f43d40046ba1a m) (h2 : Frame m s0 x2) :
    ∃ t, (execCanTxError x0 x1 x2) = .next t ∧ Frame m s0 t := by
  refine ⟨_, rfl, ?_⟩
  exact State.txError_frame (hm.of rfl) h2

theorem execCanTxPick_frame {m : Nat} {s0 : State} {x0 : Fin 2} {x1 : Upset} {x2 : State} (hm : Sub 0x71f43d40046ba1a m) (h2 : Frame m s0 x2) :
    ∃ t, (execCanTxPick x0 x1 x2) = .next t ∧ Frame m s0 t := by
  refine ⟨_, rfl, ?_⟩
  exact State.canPick_frame (hm.of rfl) h2

theorem execCanTxcancel_frame {m : Nat} {s0 : State} {x0 : Master} {x1 : Fin 2} {x2 : Word} {x3 : State}
    (hm : Sub 0xffffffffffffffff00f7bffa m) (h3 : Frame m s0 x3) : ∃ t, (execCanTxcancel x0 x1 x2 x3) = .next t ∧ Frame m s0 t := by
  refine ⟨_, rfl, ?_⟩
  exact State.cmdWrite_frame (hm.of rfl) h3

theorem execCanTxreq_frame {m : Nat} {s0 : State} {x0 : Master} {x1 : Fin 2} {x2 : Word} {x3 : State}
    (hm : Sub 0xffffffffffffffff00f7bffa m) (h3 : Frame m s0 x3) : ∃ t, (execCanTxreq x0 x1 x2 x3) = .next t ∧ Frame m s0 t := by
  refine ⟨_, rfl, ?_⟩
  exact State.cmdWrite_frame (hm.of rfl) h3

theorem execErrPassive_frame {m : Nat} {s0 : State} {x0 : Fin 2} {x1 : CanErr} {x2 : State} (hm : Sub 0x71f43d40046ba1a m) (h2 : Frame m s0 x2) :
    ∃ t, (execErrPassive x0 x1 x2) = .next t ∧ Frame m s0 t := by
  refine ⟨_, rfl, ?_⟩
  exact State.canCount_frame (hm.of rfl) h2

theorem execLockDeadline_frame {m : Nat} {s0 : State} {x0 : Fin 2} {x1 : Fin 128} {x2 : State} (hm : Sub 0xc03c000040200 m) (h2 : Frame m s0 x2) :
    ∃ t, (execLockDeadline x0 x1 x2) = .next t ∧ Frame m s0 t := by
  refine ⟨_, rfl, ?_⟩
  refine State.when_frame (hm.of rfl) ?_ ?_
  · intro y0 g0
    exact State.lockLate_frame (hm.of rfl) g0
  · exact h2

theorem execRecover_frame {m : Nat} {s0 : State} {x0 : Master} {x1 : Fin 2} {x2 : State}
    (hm : Sub 0xffffffffffffffff00f7bffa m) (h2 : Frame m s0 x2) : ∃ t, (execRecover x0 x1 x2) = .next t ∧ Frame m s0 t := by
  refine ⟨_, rfl, ?_⟩
  exact State.cmdWrite_frame (hm.of rfl) h2

theorem execTxDeadline_frame {m : Nat} {s0 : State} {x0 : Fin 2} {x1 : Fin 128} {x2 : State} (hm : Sub 0x70f43d40046ba1a m) (h2 : Frame m s0 x2) :
    ∃ t, (execTxDeadline x0 x1 x2) = .next t ∧ Frame m s0 t := by
  refine ⟨_, rfl, ?_⟩
  refine State.when_frame (hm.of rfl) ?_ ?_
  · intro y0 g0
    exact State.objWithdraw_frame (hm.of rfl) g0
  · exact h2

/-! ### Machine/CmdTrx -/

theorem execCanxModeListen_frame {m : Nat} {s0 : State} {x0 : Master} {x1 : State} (hm : Sub 0xffffffffffffffff00f7bffa m) (h1 : Frame m s0 x1) :
    ∃ t, (execCanxModeListen x0 x1) = .next t ∧ Frame m s0 t := by
  refine ⟨_, rfl, ?_⟩
  exact State.cmdWrite_frame (hm.of rfl) h1

theorem execCanxModeNormal_frame {m : Nat} {s0 : State} {x0 : Master} {x1 : State} (hm : Sub 0xffffffffffffffff00f7bffa m) (h1 : Frame m s0 x1) :
    ∃ t, (execCanxModeNormal x0 x1) = .next t ∧ Frame m s0 t := by
  refine ⟨_, rfl, ?_⟩
  exact State.cmdWrite_frame (hm.of rfl) h1

theorem execCanxModeSleep_frame {m : Nat} {s0 : State} {x0 : Master} {x1 : State} (hm : Sub 0xffffffffffffffff00f7bffa m) (h1 : Frame m s0 x1) :
    ∃ t, (execCanxModeSleep x0 x1) = .next t ∧ Frame m s0 t := by
  refine ⟨_, rfl, ?_⟩
  exact State.cmdWrite_frame (hm.of rfl) h1

theorem execCanxModeStandby_frame {m : Nat} {s0 : State} {x0 : Master} {x1 : State} (hm : Sub 0xffffffffffffffff00f7bffa m) (h1 : Frame m s0 x1) :
    ∃ t, (execCanxModeStandby x0 x1) = .next t ∧ Frame m s0 t := by
  refine ⟨_, rfl, ?_⟩
  exact State.cmdWrite_frame (hm.of rfl) h1

theorem execDecoderSilence_frame {m : Nat} {s0 : State} {x0 : State} (hm : Sub 0x80000 m) (h0 : Frame m s0 x0) :
    ∃ t, (execDecoderSilence x0) = .next t ∧ Frame m s0 t := by
  refine ⟨_, rfl, ?_⟩
  exact Frame.trx (hm.of rfl) h0

theorem execFrameErr_frame {m : Nat} {s0 : State} {x0 : Bool} {x1 : State} (hm : Sub 0x100014000a8830 m) (h1 : Frame m s0 x1) :
    ∃ t, (execFrameErr x0 x1) = .next t ∧ Frame m s0 t := by
  refine ⟨_, rfl, ?_⟩
  exact State.decoderBadFrame_frame (hm.of rfl) h1

theorem execFsTimerExpiry_frame {m : Nat} {s0 : State} {x0 : State} (hm : Sub 0x10000000080000 m) (h0 : Frame m s0 x0) :
    ∃ t, (execFsTimerExpiry x0) = .next t ∧ Frame m s0 t := by
  refine ⟨_, rfl, ?_⟩
  exact State.fsExpire_frame (hm.of rfl) h0

theorem execModeChanged_frame {m : Nat} {s0 : State} {x0 : State} (hm : Sub 0x71f43d4004eba1a m) (h0 : Frame m s0 x0) :
    ∃ t, (execModeChanged x0) = .next t ∧ Frame m s0 t := by
  refine ⟨_, rfl, ?_⟩
  exact State.canSilence_frame (hm.of rfl) (State.trxMove_frame (hm.of rfl) h0)

theorem execPadWake_frame {m : Nat} {s0 : State} {x0 : Bool} {x1 : State} (hm : Sub 0x71303d4004eaa3a m) (h1 : Frame m s0 x1) :
    ∃ t, (execPadWake x0 x1) = .next t ∧ Frame m s0 t := by
  refine ⟨_, rfl, ?_⟩
  exact State.wakePad_frame (hm.of rfl) h1

theorem execSleepEntry_frame {m : Nat} {s0 : State} {x0 : State} (hm : Sub 0xffffffffffffffff01fffffa m) (h0 : Frame m s0 x0) :
    ∃ t, (execSleepEntry x0) = .next t ∧ Frame m s0 t := by
  refine ⟨_, rfl, ?_⟩
  exact State.sleepEntry_frame (hm.of rfl) h0

theorem execTxdTimeout_frame {m : Nat} {s0 : State} {x0 : State} (hm : Sub 0x10000000000000 m) (h0 : Frame m s0 x0) :
    ∃ t, (execTxdTimeout x0) = .next t ∧ Frame m s0 t := by
  refine ⟨_, rfl, ?_⟩
  refine State.when_frame (hm.of rfl) ?_ ?_
  · intro y0 g0
    refine State.raise_frame (hm.of rfl) (Allows.page (p := 20) rfl (hm.of rfl)) ?_
    exact State.put_frame (hm.of rfl) (Allows.page (p := 20) rfl (hm.of rfl)) g0
  · exact h0

theorem execVbatPartPowerUp_frame {m : Nat} {s0 : State} {x0 : State} (hm : Sub 0xffffffffffffffff00080000 m) (h0 : Frame m s0 x0) :
    ∃ t, (execVbatPartPowerUp x0) = .next t ∧ Frame m s0 t := by
  refine ⟨_, rfl, ?_⟩
  exact State.vbatStart_frame (hm.of rfl) h0

theorem execVbatRetentionLoss_frame {m : Nat} {s0 : State} {x0 : State} (hm : Sub 0x10000000080000 m) (h0 : Frame m s0 x0) :
    ∃ t, (execVbatRetentionLoss x0) = .next t ∧ Frame m s0 t := by
  refine ⟨_, rfl, ?_⟩
  exact State.vbatLost_frame (hm.of rfl) h0

theorem execWuf_frame {m : Nat} {s0 : State} {x0 : CanFrame} {x1 : State} (hm : Sub 0x100014000a8830 m) (h1 : Frame m s0 x1) :
    ∃ t, (execWuf x0 x1) = .next t ∧ Frame m s0 t := by
  refine ⟨_, rfl, ?_⟩
  exact State.decoderFrame_frame (hm.of rfl) h1

theorem execWup_frame {m : Nat} {s0 : State} {x0 : State} (hm : Sub 0x100014000a8830 m) (h0 : Frame m s0 x0) :
    ∃ t, (execWup x0) = .next t ∧ Frame m s0 t := by
  refine ⟨_, rfl, ?_⟩
  exact State.wakePattern_frame (hm.of rfl) h0

/-! ### Machine/CmdRadio -/

theorem execCalDone_frame {m : Nat} {s0 : State} {x0 : State} (hm : Sub 0x20000000300000 m) (h0 : Frame m s0 x0) :
    ∃ t, (execCalDone x0) = .next t ∧ Frame m s0 t := by
  refine ⟨_, rfl, ?_⟩
  exact State.calDone_frame (hm.of rfl) h0

theorem execCalNow_frame {m : Nat} {s0 : State} {x0 : Master} {x1 : State} (hm : Sub 0xffffffffffffffff00f7bffa m) (h1 : Frame m s0 x1) :
    ∃ t, (execCalNow x0 x1) = .next t ∧ Frame m s0 t := by
  refine ⟨_, rfl, ?_⟩
  exact State.cmdWrite_frame (hm.of rfl) h1

theorem execOfdmHeaderReceived_frame {m : Nat} {s0 : State} {x0 : List Int} {x1 : Disturb} {x2 : State}
    (hm : Sub 0x3c000303202 m) (h2 : Frame m s0 x2) : ∃ t, (execOfdmHeaderReceived x0 x1 x2) = .next t ∧ Frame m s0 t := by
  refine ⟨_, rfl, ?_⟩
  exact State.headerReceived_frame (hm.of rfl) h2

theorem execOfdmPpduDecoded_frame {m : Nat} {s0 : State} {x0 : List Int} {x1 : Option (Fin 1024 × Byte)} {x2 : State}
    (hm : Sub 0x301000 m) (h2 : Frame m s0 x2) : ∃ t, (execOfdmPpduDecoded x0 x1 x2) = .next t ∧ Frame m s0 t := by
  refine ⟨_, rfl, ?_⟩
  exact State.ppduDecoded_frame (hm.of rfl) h2

theorem execOfdmSyncAccepted_frame {m : Nat} {s0 : State} {x0 : BitVec 48} {x1 : Int} {x2 : List Int} {x3 : State}
    (hm : Sub 0x20000000101000 m) (h3 : Frame m s0 x3) : ∃ t, (execOfdmSyncAccepted x0 x1 x2 x3) = .next t ∧ Frame m s0 t := by
  refine ⟨_, rfl, ?_⟩
  exact State.ofdmSync_frame (hm.of rfl) h3

theorem execPhyTxEnd_frame {m : Nat} {s0 : State} {x0 : Disturb} {x1 : State} (hm : Sub 0xffffffffffffffff00f7bffa m) (h1 : Frame m s0 x1) :
    ∃ t, (execPhyTxEnd x0 x1) = .next t ∧ Frame m s0 t := by
  refine ⟨_, rfl, ?_⟩
  exact State.txEnd_frame (hm.of rfl) h1

theorem execPhyTxStart_frame {m : Nat} {s0 : State} {x0 : Disturb} {x1 : State} (hm : Sub 0xffffffffffffffff00f7bffa m) (h1 : Frame m s0 x1) :
    ∃ t, (execPhyTxStart x0 x1) = .next t ∧ Frame m s0 t := by
  refine ⟨_, rfl, ?_⟩
  exact State.txStart_frame (hm.of rfl) h1

theorem execPllUnlock_frame {m : Nat} {s0 : State} {x0 : Disturb} {x1 : State} (hm : Sub 0xffffffffffffffff00f7bffa m) (h1 : Frame m s0 x1) :
    ∃ t, (execPllUnlock x0 x1) = .next t ∧ Frame m s0 t := by
  refine ⟨_, rfl, ?_⟩
  exact State.pllUnlock_frame (hm.of rfl) h1

theorem execRfCalDue_frame {m : Nat} {s0 : State} {x0 : State} (hm : Sub 0x100000 m) (h0 : Frame m s0 x0) :
    ∃ t, (execRfCalDue x0) = .next t ∧ Frame m s0 t := by
  refine ⟨_, rfl, ?_⟩
  exact State.calInterval_frame (hm.of rfl) h0

theorem execRfCalTakeover_frame {m : Nat} {s0 : State} {x0 : State} (hm : Sub 0x20000000100000 m) (h0 : Frame m s0 x0) :
    ∃ t, (execRfCalTakeover x0) = .next t ∧ Frame m s0 t := by
  refine ⟨_, rfl, ?_⟩
  exact State.calTakeover_frame (hm.of rfl) h0

theorem execRobustFrameReceived_frame {m : Nat} {s0 : State} {x0 : List Bool} {x1 : State} (hm : Sub 0x303002 m) (h1 : Frame m s0 x1) :
    ∃ t, (execRobustFrameReceived x0 x1) = .next t ∧ Frame m s0 t := by
  refine ⟨_, rfl, ?_⟩
  exact State.robustReceived_frame (hm.of rfl) h1

theorem execRobustSyncAccepted_frame {m : Nat} {s0 : State} {x0 : Word} {x1 : Int} {x2 : State} (hm : Sub 0x20000000100000 m) (h2 : Frame m s0 x2) :
    ∃ t, (execRobustSyncAccepted x0 x1 x2) = .next t ∧ Frame m s0 t := by
  refine ⟨_, rfl, ?_⟩
  exact State.robustSync_frame (hm.of rfl) h2

theorem execRxWindowClose_frame {m : Nat} {s0 : State} {x0 : State} (hm : Sub 0x300000 m) (h0 : Frame m s0 x0) :
    ∃ t, (execRxWindowClose x0) = .next t ∧ Frame m s0 t := by
  refine ⟨_, rfl, ?_⟩
  exact State.windowClose_frame (hm.of rfl) h0

theorem execRxWindowOpen_frame {m : Nat} {s0 : State} {x0 : State} (hm : Sub 0x20000000100000 m) (h0 : Frame m s0 x0) :
    ∃ t, (execRxWindowOpen x0) = .next t ∧ Frame m s0 t := by
  refine ⟨_, rfl, ?_⟩
  exact State.windowOpen_frame (hm.of rfl) h0

/-! ### Machine/CmdLink -/

theorem execAckReceived_frame {m : Nat} {s0 : State} {x0 : Disturb} {x1 : State} (hm : Sub 0xffffffffffffffff00f7bffa m) (h1 : Frame m s0 x1) :
    ∃ t, (execAckReceived x0 x1) = .next t ∧ Frame m s0 t := by
  refine ⟨_, rfl, ?_⟩
  exact State.ackReceived_frame (hm.of rfl) h1

theorem execAckSend_frame {m : Nat} {s0 : State} {x0 : State} (hm : Sub 0x6003c000301202 m) (h0 : Frame m s0 x0) :
    ∃ t, (execAckSend x0) = .next t ∧ Frame m s0 t := by
  refine ⟨_, rfl, ?_⟩
  exact State.ackSend_frame (hm.of rfl) h0

theorem execAckTimeout_frame {m : Nat} {s0 : State} {x0 : Disturb} {x1 : State} (hm : Sub 0xffffffffffffffff00f7bffa m) (h1 : Frame m s0 x1) :
    ∃ t, (execAckTimeout x0 x1) = .next t ∧ Frame m s0 t := by
  refine ⟨_, rfl, ?_⟩
  exact State.ackTimeout_frame (hm.of rfl) h1

theorem execBeaconMissed_frame {m : Nat} {s0 : State} {x0 : State} (hm : Sub 0x40000000200000 m) (h0 : Frame m s0 x0) :
    ∃ t, (execBeaconMissed x0) = .next t ∧ Frame m s0 t := by
  refine ⟨_, rfl, ?_⟩
  exact State.beaconMissed_frame (hm.of rfl) h0

theorem execBeaconRx_frame {m : Nat} {s0 : State} {x0 : Disturb} {x1 : State} (hm : Sub 0xffffffffffffffff00f7bffa m) (h1 : Frame m s0 x1) :
    ∃ t, (execBeaconRx x0 x1) = .next t ∧ Frame m s0 t := by
  refine ⟨_, rfl, ?_⟩
  exact State.beaconReceived_frame (hm.of rfl) h1

theorem execLinkAsnLoRead_frame {m : Nat} {s0 : State} {x0 : Master} {x1 : State} (hm : Sub 0x5174f43dc0047bb1e m) (h1 : Frame m s0 x1) :
    ∃ t, (execLinkAsnLoRead x0 x1) = .next t ∧ Frame m s0 t := by
  refine ⟨_, rfl, ?_⟩
  exact State.cmdRead_frame (hm.of rfl) h1

theorem execLinkDeadlineStop_frame {m : Nat} {s0 : State} {x0 : Fin 2048} {x1 : Disturb} {x2 : State}
    (hm : Sub 0xffffffffffffffff00f7bffa m) (h2 : Frame m s0 x2) : ∃ t, (execLinkDeadlineStop x0 x1 x2) = .next t ∧ Frame m s0 t := by
  refine ⟨_, rfl, ?_⟩
  exact State.linkDeadline_frame (hm.of rfl) h2

theorem execLinkFrameReceived_frame {m : Nat} {s0 : State} {x0 : Disturb} {x1 : State} (hm : Sub 0xffffffffffffffff00f7bffa m) (h1 : Frame m s0 x1) :
    ∃ t, (execLinkFrameReceived x0 x1) = .next t ∧ Frame m s0 t := by
  refine ⟨_, rfl, ?_⟩
  exact State.linkFrame_frame (hm.of rfl) h1

theorem execLinkRx_frame {m : Nat} {s0 : State} {x0 : State} (hm : Sub 0x202000 m) (h0 : Frame m s0 x0) :
    ∃ t, (execLinkRx x0) = .next t ∧ Frame m s0 t := by
  refine ⟨_, rfl, ?_⟩
  exact State.serveRx_frame (hm.of rfl) h0

theorem execLinkTx_frame {m : Nat} {s0 : State} {x0 : Disturb} {x1 : State} (hm : Sub 0xffffffffffffffff00f7bffa m) (h1 : Frame m s0 x1) :
    ∃ t, (execLinkTx x0 x1) = .next t ∧ Frame m s0 t := by
  refine ⟨_, rfl, ?_⟩
  exact State.serveTx_frame (hm.of rfl) h1

theorem execLsecClear_frame {m : Nat} {s0 : State} {x0 : Master} {x1 : State} (hm : Sub 0xffffffffffffffff00f7bffa m) (h1 : Frame m s0 x1) :
    ∃ t, (execLsecClear x0 x1) = .next t ∧ Frame m s0 t := by
  refine ⟨_, rfl, ?_⟩
  exact State.cmdWrite_frame (hm.of rfl) h1

theorem execLsecLoad_frame {m : Nat} {s0 : State} {x0 : Master} {x1 : State} (hm : Sub 0xffffffffffffffff00f7bffa m) (h1 : Frame m s0 x1) :
    ∃ t, (execLsecLoad x0 x1) = .next t ∧ Frame m s0 t := by
  refine ⟨_, rfl, ?_⟩
  exact State.cmdWrite_frame (hm.of rfl) h1

theorem execLsecTxseqWrite_frame {m : Nat} {s0 : State} {x0 : Master} {x1 : Word} {x2 : State}
    (hm : Sub 0xffffffffffffffff00f7bffa m) (h2 : Frame m s0 x2) : ∃ t, (execLsecTxseqWrite x0 x1 x2) = .next t ∧ Frame m s0 t := by
  refine ⟨_, rfl, ?_⟩
  exact State.cmdWrite_frame (hm.of rfl) h2

theorem execScanBeaconAdopt_frame {m : Nat} {s0 : State} {x0 : Disturb} {x1 : State} (hm : Sub 0xffffffffffffffff00f7bffa m) (h1 : Frame m s0 x1) :
    ∃ t, (execScanBeaconAdopt x0 x1) = .next t ∧ Frame m s0 t := by
  refine ⟨_, rfl, ?_⟩
  exact State.scanAdopt_frame (hm.of rfl) h1

theorem execSlotLate_frame {m : Nat} {s0 : State} {x0 : Fin 2048} {x1 : Disturb} {x2 : State}
    (hm : Sub 0xffffffffffffffff00f7bffa m) (h2 : Frame m s0 x2) : ∃ t, (execSlotLate x0 x1 x2) = .next t ∧ Frame m s0 t := by
  refine ⟨_, rfl, ?_⟩
  exact State.slotLate_frame (hm.of rfl) h2

theorem execSlotPreparation_frame {m : Nat} {s0 : State} {x0 : Disturb} {x1 : State} (hm : Sub 0xffffffffffffffff00f7bffa m) (h1 : Frame m s0 x1) :
    ∃ t, (execSlotPreparation x0 x1) = .next t ∧ Frame m s0 t := by
  refine ⟨_, rfl, ?_⟩
  exact State.preparation_frame (hm.of rfl) h1

theorem execSlotStart_frame {m : Nat} {s0 : State} {x0 : Disturb} {x1 : State} (hm : Sub 0xffffffffffffffff00f7bffa m) (h1 : Frame m s0 x1) :
    ∃ t, (execSlotStart x0 x1) = .next t ∧ Frame m s0 t := by
  refine ⟨_, rfl, ?_⟩
  exact State.slotBegins_frame (hm.of rfl) h1

theorem execSlotTimer_frame {m : Nat} {s0 : State} {x0 : State} (hm : Sub 0x4003d400228a10 m) (h0 : Frame m s0 x0) :
    ∃ t, (execSlotTimer x0) = .next t ∧ Frame m s0 t := by
  refine ⟨_, rfl, ?_⟩
  exact State.slotTimer_frame (hm.of rfl) h0

theorem execSoundReqReceived_frame {m : Nat} {s0 : State} {x0 : Disturb} {x1 : State} (hm : Sub 0x4043c000303a00 m) (h1 : Frame m s0 x1) :
    ∃ t, (execSoundReqReceived x0 x1) = .next t ∧ Frame m s0 t := by
  refine ⟨_, rfl, ?_⟩
  exact State.soundRequest_frame (hm.of rfl) h1

theorem execSoundRespReceived_frame {m : Nat} {s0 : State} {x0 : Disturb} {x1 : State} (hm : Sub 0xffffffffffffffff00f7bffa m) (h1 : Frame m s0 x1) :
    ∃ t, (execSoundRespReceived x0 x1) = .next t ∧ Frame m s0 t := by
  refine ⟨_, rfl, ?_⟩
  exact State.soundResponse_frame (hm.of rfl) h1

theorem execSoundRx_frame {m : Nat} {s0 : State} {x0 : State} (hm : Sub 0x202000 m) (h0 : Frame m s0 x0) :
    ∃ t, (execSoundRx x0) = .next t ∧ Frame m s0 t := by
  refine ⟨_, rfl, ?_⟩
  exact State.serveRx_frame (hm.of rfl) h0

theorem execSoundTx_frame {m : Nat} {s0 : State} {x0 : State} (hm : Sub 0xffffffffffffffff00f7bffa m) (h0 : Frame m s0 x0) :
    ∃ t, (execSoundTx x0) = .next t ∧ Frame m s0 t := by
  refine ⟨_, rfl, ?_⟩
  exact State.serveTx_frame (hm.of rfl) h0

/-! ### Machine/CmdControl -/

theorem State.sinkPulse_frame {m : Nat} {s0 : State} {x0 : State} {x1 : Nat} (hm : Sub 0x70303d40046aa1a m) (h0 : Frame m s0 x0) :
    Frame m s0 (State.sinkPulse x0 x1) := by
  unfold State.sinkPulse
  refine State.when_frame (hm.of rfl) ?_ ?_
  · intro y0 g0
    exact State.sinkTake_frame (hm.of rfl) g0
  · exact h0

theorem execAdcaConversionDone_frame {m : Nat} {s0 : State} {x0 : List Int} {x1 : State} (hm : Sub 0x200000000400002 m) (h1 : Frame m s0 x1) :
    ∃ t, (execAdcaConversionDone x0 x1) = .next t ∧ Frame m s0 t := by
  refine ⟨_, rfl, ?_⟩
  exact State.adcaConverted_frame (hm.of rfl) h1

theorem execAdcaDone_frame {m : Nat} {s0 : State} {x0 : State} (hm : Sub 0x70303d40046aa1a m) (h0 : Frame m s0 x0) :
    ∃ t, (execAdcaDone x0) = .next t ∧ Frame m s0 t := by
  refine ⟨_, rfl, ?_⟩
  exact State.adcaFinish_frame (hm.of rfl) h0

theorem execAdcaStart_frame {m : Nat} {s0 : State} {x0 : Option Master} {x1 : State} (hm : Sub 0xffffffffffffffff00f7bffa m) (h1 : Frame m s0 x1) :
    ∃ t, (execAdcaStart x0 x1) = .next t ∧ Frame m s0 t := by
  cases x0 with
  | none => exact ⟨_, rfl, State.sinkPulse_frame (hm.of rfl) h1⟩
  | some a => exact ⟨_, rfl, State.cmdWrite_frame (hm.of rfl) h1⟩

theorem execAdcbConversionDone_frame {m : Nat} {s0 : State} {x0 : AdcbInputs} {x1 : State} (hm : Sub 0x20000080040000a m) (h1 : Frame m s0 x1) :
    ∃ t, (execAdcbConversionDone x0 x1) = .next t ∧ Frame m s0 t := by
  refine ⟨_, rfl, ?_⟩
  refine State.when_frame (hm.of rfl) ?_ ?_
  · intro y0 g0
    exact State.adcbConverted_frame (hm.of rfl) g0
  · exact h1

theorem execAdcbDisplaced_frame {m : Nat} {s0 : State} {x0 : State} (hm : Sub 0x200000000400008 m) (h0 : Frame m s0 x0) :
    ∃ t, (execAdcbDisplaced x0) = .next t ∧ Frame m s0 t := by
  refine ⟨_, rfl, ?_⟩
  refine State.when_frame (hm.of rfl) ?_ ?_
  · intro y0 g0
    exact State.adcbTakeover_frame (hm.of rfl) g0
  · exact h0

theorem execAdcbDone_frame {m : Nat} {s0 : State} {x0 : State} (hm : Sub 0x70303d40046aa1a m) (h0 : Frame m s0 x0) :
    ∃ t, (execAdcbDone x0) = .next t ∧ Frame m s0 t := by
  refine ⟨_, rfl, ?_⟩
  refine State.when_frame (hm.of rfl) ?_ ?_
  · intro y0 g0
    exact State.adcbFinish_frame (hm.of rfl) g0
  · exact h0

theorem execAdcbStart_frame {m : Nat} {s0 : State} {x0 : Option Master} {x1 : State} (hm : Sub 0xffffffffffffffff00f7bffa m) (h1 : Frame m s0 x1) :
    ∃ t, (execAdcbStart x0 x1) = .next t ∧ Frame m s0 t := by
  cases x0 with
  | none => exact ⟨_, rfl, State.sinkPulse_frame (hm.of rfl) h1⟩
  | some a => exact ⟨_, rfl, State.cmdWrite_frame (hm.of rfl) h1⟩

theorem execLoopCommit_frame {m : Nat} {s0 : State} {x0 : Fin 16} {x1 : State} (hm : Sub 0x70303d40046ba1a m) (h1 : Frame m s0 x1) :
    ∃ t, (execLoopCommit x0 x1) = .next t ∧ Frame m s0 t := by
  refine ⟨_, rfl, ?_⟩
  refine State.when_frame (hm.of rfl) ?_ ?_
  · intro y0 g0
    exact State.commit_frame (hm.of rfl) g0
  · exact h1

theorem execLoopDeadlineMiss_frame {m : Nat} {s0 : State} {x0 : Fin 16} {x1 : State} (hm : Sub 0x10003c000400202 m) (h1 : Frame m s0 x1) :
    ∃ t, (execLoopDeadlineMiss x0 x1) = .next t ∧ Frame m s0 t := by
  refine ⟨_, rfl, ?_⟩
  refine State.when_frame (hm.of rfl) ?_ ?_
  · intro y0 g0
    exact State.loopDeadline_frame (hm.of rfl) g0
  · exact h1

theorem execLoopDisable_frame {m : Nat} {s0 : State} {x0 : Master} {x1 : Fin 16} {x2 : Word} {x3 : State}
    (hm : Sub 0xffffffffffffffff00f7bffa m) (h3 : Frame m s0 x3) : ∃ t, (execLoopDisable x0 x1 x2 x3) = .next t ∧ Frame m s0 t := by
  refine ⟨_, rfl, ?_⟩
  exact State.cmdWrite_frame (hm.of rfl) h3

theorem execLoopEnWrite_frame {m : Nat} {s0 : State} {x0 : Master} {x1 : Fin 16} {x2 : Word} {x3 : State}
    (hm : Sub 0xffffffffffffffff00f7bffa m) (h3 : Frame m s0 x3) : ∃ t, (execLoopEnWrite x0 x1 x2 x3) = .next t ∧ Frame m s0 t := by
  refine ⟨_, rfl, ?_⟩
  exact State.cmdWrite_frame (hm.of rfl) h3

theorem execLoopRangeWrite_frame {m : Nat} {s0 : State} {x0 : Master} {x1 : Fin 16} {x2 : Word} {x3 : State}
    (hm : Sub 0xffffffffffffffff00f7bffa m) (h3 : Frame m s0 x3) : ∃ t, (execLoopRangeWrite x0 x1 x2 x3) = .next t ∧ Frame m s0 t := by
  refine ⟨_, rfl, ?_⟩
  exact State.cmdWrite_frame (hm.of rfl) h3

theorem execLoopStageEnd_frame {m : Nat} {s0 : State} {x0 : Upset} {x1 : State} (hm : Sub 0x10003c000401202 m) (h1 : Frame m s0 x1) :
    ∃ t, (execLoopStageEnd x0 x1) = .next t ∧ Frame m s0 t := by
  refine ⟨_, rfl, ?_⟩
  refine State.when_frame (hm.of rfl) ?_ ?_
  · intro y0 g0
    exact State.stageEnd_frame (hm.of rfl) g0
  · exact h1

theorem execLoopTrigger_frame {m : Nat} {s0 : State} {x0 : Fin 16} {x1 : State} (hm : Sub 0x70303d40046aa1a m) (h1 : Frame m s0 x1) :
    ∃ t, (execLoopTrigger x0 x1) = .next t ∧ Frame m s0 t := by
  refine ⟨_, rfl, ?_⟩
  exact State.sinkPulse_frame (hm.of rfl) h1

theorem execPwmClr_frame {m : Nat} {s0 : State} {x0 : Master} {x1 : Fin 6} {x2 : State} (hm : Sub 0xffffffffffffffff00f7bffa m) (h2 : Frame m s0 x2) :
    ∃ t, (execPwmClr x0 x1 x2) = .next t ∧ Frame m s0 t := by
  refine ⟨_, rfl, ?_⟩
  exact State.cmdWrite_frame (hm.of rfl) h2

theorem execPwmFault_frame {m : Nat} {s0 : State} {x0 : State} (hm : Sub 0x2070303d40046aa1a m) (h0 : Frame m s0 x0) :
    ∃ t, (execPwmFault x0) = .next t ∧ Frame m s0 t := by
  refine ⟨_, rfl, ?_⟩
  refine State.when_frame (hm.of rfl) ?_ ?_
  · intro y0 g0
    exact State.pwmFault_frame (hm.of rfl) g0
  · exact h0

theorem execPwmFaultNRelease_frame {m : Nat} {s0 : State} {x0 : State} (hm : Sub 0x2070303d40046aa1a m) (h0 : Frame m s0 x0) :
    ∃ t, (execPwmFaultNRelease x0) = .next t ∧ Frame m s0 t := by
  refine ⟨_, rfl, ?_⟩
  refine State.when_frame (hm.of rfl) ?_ ?_
  · intro y0 g0
    exact State.pwmFaultEnd_frame (hm.of rfl) g0
  · exact h0

theorem execPwmForceSafe_frame {m : Nat} {s0 : State} {x0 : Fin 6} {x1 : State} (hm : Sub 0x70303d40046aa1a m) (h1 : Frame m s0 x1) :
    ∃ t, (execPwmForceSafe x0 x1) = .next t ∧ Frame m s0 t := by
  refine ⟨_, rfl, ?_⟩
  exact State.sinkPulse_frame (hm.of rfl) h1

theorem execPwmPeriodCentre_frame {m : Nat} {s0 : State} {x0 : Fin 6} {x1 : State} (hm : Sub 0x70303d40046aa1a m) (h1 : Frame m s0 x1) :
    ∃ t, (execPwmPeriodCentre x0 x1) = .next t ∧ Frame m s0 t := by
  refine ⟨_, rfl, ?_⟩
  refine State.when_frame (hm.of rfl) ?_ ?_
  · intro y0 g0
    exact State.periodCentre_frame (hm.of rfl) g0
  · exact h1

theorem execPwmPeriodStart_frame {m : Nat} {s0 : State} {x0 : Fin 6} {x1 : State} (hm : Sub 0x7437fd40076bb9a m) (h1 : Frame m s0 x1) :
    ∃ t, (execPwmPeriodStart x0 x1) = .next t ∧ Frame m s0 t := by
  refine ⟨_, rfl, ?_⟩
  refine State.when_frame (hm.of rfl) ?_ ?_
  · intro y0 g0
    exact State.periodStart_frame (hm.of rfl) (State.ownerSwitch_frame (hm.of rfl) g0)
  · exact h1

theorem execPwmRunWrite_frame {m : Nat} {s0 : State} {x0 : Master} {x1 : Fin 6} {x2 : Word} {x3 : State}
    (hm : Sub 0xffffffffffffffff00f7bffa m) (h3 : Frame m s0 x3) : ∃ t, (execPwmRunWrite x0 x1 x2 x3) = .next t ∧ Frame m s0 t := by
  refine ⟨_, rfl, ?_⟩
  exact State.cmdWrite_frame (hm.of rfl) h3

/-! ### Machine/CmdTooth -/

theorem execMissed_frame {m : Nat} {s0 : State} {x0 : Fin 4} {x1 : State} (hm : Sub 0xf0303d400c6aa1a m) (h1 : Frame m s0 x1) :
    ∃ t, (execMissed x0 x1) = .next t ∧ Frame m s0 t := by
  refine ⟨_, rfl, ?_⟩
  exact State.toothMissed_frame (hm.of rfl) h1

theorem execScheduleArm_frame {m : Nat} {s0 : State} {x0 : Master} {x1 : Fin 4} {x2 : Fin 8} {x3 : Word} {x4 : State}
    (hm : Sub 0xffffffffffffffff00f7bffa m) (h4 : Frame m s0 x4) : ∃ t, (execScheduleArm x0 x1 x2 x3 x4) = .next t ∧ Frame m s0 t := by
  refine ⟨_, rfl, ?_⟩
  exact State.cmdWrite_frame (hm.of rfl) h4

theorem execScheduleFire_frame {m : Nat} {s0 : State} {x0 : Fin 4} {x1 : Fin 8} {x2 : State} (hm : Sub 0xf0303d400c6aa1a m) (h2 : Frame m s0 x2) :
    ∃ t, (execScheduleFire x0 x1 x2) = .next t ∧ Frame m s0 t := by
  refine ⟨_, rfl, ?_⟩
  refine State.when_frame (hm.of rfl) ?_ ?_
  · intro y0 g0
    exact State.judgeSchedules_frame (hm.of rfl) g0
  · exact h2

theorem execToothEdge_frame {m : Nat} {s0 : State} {x0 : Fin 4} {x1 : Bool} {x2 : Nat} {x3 : State}
    (hm : Sub 0xf0303d400c6aa1a m) (h3 : Frame m s0 x3) : ∃ t, (execToothEdge x0 x1 x2 x3) = .next t ∧ Frame m s0 t := by
  refine ⟨_, rfl, ?_⟩
  refine State.when_frame (hm.of rfl) ?_ ?_
  · intro y0 g0
    exact State.toothEdge_frame (hm.of rfl) g0
  · exact h3

theorem execToothEnWrite_frame {m : Nat} {s0 : State} {x0 : Master} {x1 : Fin 4} {x2 : Word} {x3 : State}
    (hm : Sub 0xffffffffffffffff00f7bffa m) (h3 : Frame m s0 x3) : ∃ t, (execToothEnWrite x0 x1 x2 x3) = .next t ∧ Frame m s0 t := by
  refine ⟨_, rfl, ?_⟩
  exact State.cmdWrite_frame (hm.of rfl) h3

end Sys2Proof.Machine
end

