-- ==== Sys2Proof/Laws/Changes.lean ====
section
/-!
SUPPORT. From frames to `State.changes`: what a chain of updates leaves unchanged, part by part and field by field.
-/

namespace Sys2Proof.Machine

/-- Every part that `m` lets change is listed. -/
def covers (m : Nat) (ps : List Part) : Bool :=
  (List.range 25).all (fun k => !m.testBit k || ps.any (fun p => p.bit == k)) &&
    (List.range 64).all (fun k => !m.testBit (32 + k) || ps.contains (.page k))

theorem covers_part {m : Nat} {ps : List Part} (h : covers m ps = true) {p : Part} (hp : p ∉ ps) (hn : ∀ n, p ≠ .page n) :
    m.testBit p.bit = false := by
  simp only [covers, Bool.and_eq_true, List.all_eq_true, List.mem_range] at h
  have hb : p.bit < 25 := by cases p <;> first | exact (by decide) | exact absurd rfl (hn _)
  have := h.1 _ hb
  cases hm : m.testBit p.bit with
  | false => rfl
  | true =>
    simp only [hm, Bool.not_true, Bool.false_or, List.any_eq_true, beq_iff_eq] at this
    obtain ⟨r, hr, e⟩ := this
    have : r = p := by
      cases p <;> first | exact absurd rfl (hn _) | (cases r <;> first | rfl | (simp [Part.bit] at e))
      all_goals omega
    exact absurd (this ▸ hr) hp

theorem covers_page {m : Nat} {ps : List Part} (h : covers m ps = true) {n : Nat} (hn : n < 64) (hp : .page n ∉ ps) :
    m.testBit (32 + n) = false := by
  simp only [covers, Bool.and_eq_true, List.all_eq_true, List.mem_range] at h
  have := h.2 _ hn
  cases hm : m.testBit (32 + n) with
  | false => rfl
  | true =>
    simp only [hm, Bool.not_true, Bool.false_or, List.contains_iff_mem] at this
    exact absurd this hp

theorem State.changes_rfl {s : State} {ps : List Part} {fs : List Fld} : s.changes s ps fs :=
  ⟨fun p _ _ => s.keeps_rfl p, fun _ _ _ => rfl⟩

theorem State.changes_trans {s t u : State} {ps : List Part} {fs : List Fld} (h : s.changes t ps fs) (k : t.changes u ps fs) :
    s.changes u ps fs :=
  ⟨fun p a b => State.keeps_trans (h.1 p a b) (k.1 p a b), fun f a b => (k.2 f a b).trans (h.2 f a b)⟩

theorem State.changes_mono {s t : State} {ps qs : List Part} {fs gs : List Fld} (h : s.changes t ps fs) (hp : ∀ p ∈ ps, p ∈ qs)
    (hf : ∀ f ∈ fs, f ∈ gs) : s.changes t qs gs :=
  ⟨fun p a b => h.1 p (fun c => a (hp p c)) b, fun f a b => h.2 f (fun c => a (hp _ c)) (fun c => b (by
    obtain ⟨g, hg, e⟩ := List.mem_map.mp c
    exact List.mem_map.mpr ⟨g, hf g hg, e⟩))⟩

/-- A frame whose parts are all listed. -/
theorem Frame.changes {m : Nat} {s t : State} {ps : List Part} {fs : List Fld} (h : Frame m s t) (hc : covers m ps = true) :
    s.changes t ps fs :=
  ⟨fun p a b => h.1 p (covers_part hc a b), fun f a _ =>
    h.1 (.page (f.page % 64)) (covers_page hc (Nat.mod_lt _ (by decide)) a) f rfl⟩

/-- A part of a chain of updates whose frame is known. -/
theorem State.changes.frame {m : Nat} {s t u : State} {ps : List Part} {fs : List Fld} (h : s.changes t ps fs) (k : Frame m t u)
    (hc : covers m ps = true) : s.changes u ps fs := State.changes_trans h (k.changes hc)

/-- A field that is listed is written. -/
theorem State.changes.put {s t : State} {ps : List Part} {fs : List Fld} {f : Fld} {v : Nat} (h : s.changes t ps fs)
    (hf : f.key ∈ fs.map Fld.key) : s.changes (t.put f v) ps fs :=
  ⟨fun p a b => by
    have := h.1 p a b
    cases p <;> first | exact this | exact absurd rfl (b _),
   fun g a b => (State.get_put_ne t f g v (fun e => b (by rw [e]; exact hf))).trans (h.2 g a b)⟩

theorem State.changes.putPage {s t : State} {ps : List Part} {fs : List Fld} {f : Fld} {v : Nat} (h : s.changes t ps fs)
    (hf : .page (f.page % 64) ∈ ps) : s.changes (t.put f v) ps fs :=
  ⟨fun p a b => by
    have := h.1 p a b
    cases p <;> first | exact this | exact absurd rfl (b _),
   fun g a b => (State.get_put_ne t f g v (fun e => a (by
    simp only [Fld.key] at e
    have : g.page % 64 = f.page % 64 := by omega
    exact this ▸ hf))).trans (h.2 g a b)⟩

theorem State.changes.raise {s t : State} {ps : List Part} {fs : List Fld} {f : Fld} {i : Nat} (h : s.changes t ps fs)
    (hf : f.key ∈ fs.map Fld.key) : s.changes (t.raise f i) ps fs := h.put hf

theorem State.changes.clear {s t : State} {ps : List Part} {fs : List Fld} {f : Fld} {i : Nat} (h : s.changes t ps fs)
    (hf : f.key ∈ fs.map Fld.key) : s.changes (t.clear f i) ps fs := by
  unfold State.clear
  split
  · exact h.put hf
  · exact h

theorem State.changes.when {s t : State} {ps : List Part} {fs : List Fld} {c : Bool} {f : State → State} (h : s.changes t ps fs)
    (k : s.changes (f t) ps fs) : s.changes (t.when c f) ps fs := by
  cases c
  · exact h
  · exact k

theorem State.changes.ite {s t u : State} {ps : List Part} {fs : List Fld} {c : Prop} [Decidable c] (h : s.changes t ps fs)
    (k : s.changes u ps fs) : s.changes (if c then t else u) ps fs := by
  split
  · exact h
  · exact k

/-- Components that are listed change, the register fields do not. -/
theorem State.changes.parts {s t u : State} {ps : List Part} {fs : List Fld} (h : s.changes t ps fs) (hf : u.fields = t.fields)
    (hp : ∀ p, p ∉ ps → (∀ n, p ≠ .page n) → t.keeps u p) : s.changes u ps fs :=
  State.changes_trans h ⟨hp, fun f _ _ => State.get_congr hf f⟩

end Sys2Proof.Machine
end

