-- ==== Sys2Proof/Laws/Regs.lean ====
section
/-!
SUPPORT. Register accesses that are admitted: what a read and a write of a register come to, and that the fields written are those of its
page.
-/

namespace Sys2Proof.Machine

/-! ### The fields of a page -/

/-- Every field of the list stands on page `p`. -/
def OnPage (p : Nat) (l : List Fld) : Prop := ∀ f ∈ l, f.page % 64 = p

theorem OnPage.append {p : Nat} {l k : List Fld} (h : OnPage p l) (g : OnPage p k) : OnPage p (l ++ k) := fun f hf =>
  (List.mem_append.mp hf).elim (h f) (g f)

theorem OnPage.filter {p : Nat} {l : List Fld} {c : Fld → Bool} (h : OnPage p l) : OnPage p (l.filter c) := fun f hf =>
  h f (List.mem_filter.mp hf).1

theorem OnPage.drop {p n : Nat} {l : List Fld} (h : OnPage p l) : OnPage p (l.drop n) := fun f hf => h f (List.mem_of_mem_drop hf)

theorem OnPage.stride {p a b c d e : Nat} {f : Nat → Fld} (h : ∀ i, (f i).page % 64 = p) : OnPage p (strideAt a b c d e f) := by
  unfold strideAt
  split
  · intro g hg
    rw [List.mem_singleton.mp hg]
    exact h _
  · intro g hg
    cases hg

theorem OnPage.packed {p a b c d e : Nat} {f : Nat → Fld} (h : ∀ i, (f i).page % 64 = p) : OnPage p (packedAt a b c d e f) := by
  unfold packedAt
  split
  · intro g hg
    obtain ⟨i, -, rfl⟩ := List.mem_map.mp hg
    exact h _
  · intro g hg
    cases hg

theorem OnPage.flat {p : Nat} {l : List Nat} {f : Nat → List Fld} (h : ∀ i, OnPage p (f i)) : OnPage p (l.flatMap f) := by
  intro g hg
  obtain ⟨i, -, hi⟩ := List.mem_flatMap.mp hg
  exact h i g hi

theorem SYS.onPage (off : Nat) : OnPage 0 (SYS.fieldsAt off) := by
  unfold SYS.fieldsAt
  repeat' apply OnPage.append
  all_goals first
    | exact OnPage.stride (fun _ => rfl)
    | exact OnPage.packed (fun _ => rfl)
    | exact OnPage.drop (OnPage.packed (fun _ => rfl))
    | exact OnPage.flat (fun _ => OnPage.stride (fun _ => rfl))
    | exact OnPage.filter (by unfold OnPage; decide)

theorem RSTC.onPage (off : Nat) : OnPage 1 (RSTC.fieldsAt off) := by
  unfold RSTC.fieldsAt
  repeat' apply OnPage.append
  all_goals first
    | exact OnPage.stride (fun _ => rfl)
    | exact OnPage.packed (fun _ => rfl)
    | exact OnPage.drop (OnPage.packed (fun _ => rfl))
    | exact OnPage.flat (fun _ => OnPage.stride (fun _ => rfl))
    | exact OnPage.filter (by unfold OnPage; decide)

theorem PWR.onPage (off : Nat) : OnPage 2 (PWR.fieldsAt off) := by
  unfold PWR.fieldsAt
  repeat' apply OnPage.append
  all_goals first
    | exact OnPage.stride (fun _ => rfl)
    | exact OnPage.packed (fun _ => rfl)
    | exact OnPage.drop (OnPage.packed (fun _ => rfl))
    | exact OnPage.flat (fun _ => OnPage.stride (fun _ => rfl))
    | exact OnPage.filter (by unfold OnPage; decide)

theorem SUPPLY.onPage (off : Nat) : OnPage 3 (SUPPLY.fieldsAt off) := by
  unfold SUPPLY.fieldsAt
  repeat' apply OnPage.append
  all_goals first
    | exact OnPage.stride (fun _ => rfl)
    | exact OnPage.packed (fun _ => rfl)
    | exact OnPage.drop (OnPage.packed (fun _ => rfl))
    | exact OnPage.flat (fun _ => OnPage.stride (fun _ => rfl))
    | exact OnPage.filter (by unfold OnPage; decide)

theorem CLK.onPage (off : Nat) : OnPage 4 (CLK.fieldsAt off) := by
  unfold CLK.fieldsAt
  repeat' apply OnPage.append
  all_goals first
    | exact OnPage.stride (fun _ => rfl)
    | exact OnPage.packed (fun _ => rfl)
    | exact OnPage.drop (OnPage.packed (fun _ => rfl))
    | exact OnPage.flat (fun _ => OnPage.stride (fun _ => rfl))
    | exact OnPage.filter (by unfold OnPage; decide)

theorem TEN.onPage (off : Nat) : OnPage 5 (TEN.fieldsAt off) := by
  unfold TEN.fieldsAt
  repeat' apply OnPage.append
  all_goals first
    | exact OnPage.stride (fun _ => rfl)
    | exact OnPage.packed (fun _ => rfl)
    | exact OnPage.drop (OnPage.packed (fun _ => rfl))
    | exact OnPage.flat (fun _ => OnPage.stride (fun _ => rfl))
    | exact OnPage.filter (by unfold OnPage; decide)

theorem FAULT.onPage0 (off : Nat) : OnPage 6 (FAULT.fieldsAt 0 off) := by
  unfold FAULT.fieldsAt
  repeat' apply OnPage.append
  all_goals first
    | exact OnPage.stride (fun _ => rfl)
    | exact OnPage.packed (fun _ => rfl)
    | exact OnPage.filter (by unfold OnPage; decide)

theorem FAULT.onPage1 (off : Nat) : OnPage 7 (FAULT.fieldsAt 1 off) := by
  unfold FAULT.fieldsAt
  repeat' apply OnPage.append
  all_goals first
    | exact OnPage.stride (fun _ => rfl)
    | exact OnPage.packed (fun _ => rfl)
    | exact OnPage.filter (by unfold OnPage; decide)

theorem FAULT.onPage2 (off : Nat) : OnPage 8 (FAULT.fieldsAt 2 off) := by
  unfold FAULT.fieldsAt
  repeat' apply OnPage.append
  all_goals first
    | exact OnPage.stride (fun _ => rfl)
    | exact OnPage.packed (fun _ => rfl)
    | exact OnPage.filter (by unfold OnPage; decide)

theorem FAULT.onPage3 (off : Nat) : OnPage 9 (FAULT.fieldsAt 3 off) := by
  unfold FAULT.fieldsAt
  repeat' apply OnPage.append
  all_goals first
    | exact OnPage.stride (fun _ => rfl)
    | exact OnPage.packed (fun _ => rfl)
    | exact OnPage.filter (by unfold OnPage; decide)

theorem IRQ.onPage0 (off : Nat) : OnPage 10 (IRQ.fieldsAt 0 off) := by
  unfold IRQ.fieldsAt
  repeat' apply OnPage.append
  all_goals first
    | exact OnPage.stride (fun _ => rfl)
    | exact OnPage.packed (fun _ => rfl)
    | exact OnPage.filter (by unfold OnPage; decide)

theorem IRQ.onPage1 (off : Nat) : OnPage 11 (IRQ.fieldsAt 1 off) := by
  unfold IRQ.fieldsAt
  repeat' apply OnPage.append
  all_goals first
    | exact OnPage.stride (fun _ => rfl)
    | exact OnPage.packed (fun _ => rfl)
    | exact OnPage.filter (by unfold OnPage; decide)

theorem IRQ.onPage2 (off : Nat) : OnPage 12 (IRQ.fieldsAt 2 off) := by
  unfold IRQ.fieldsAt
  repeat' apply OnPage.append
  all_goals first
    | exact OnPage.stride (fun _ => rfl)
    | exact OnPage.packed (fun _ => rfl)
    | exact OnPage.filter (by unfold OnPage; decide)

theorem IRQ.onPage3 (off : Nat) : OnPage 13 (IRQ.fieldsAt 3 off) := by
  unfold IRQ.fieldsAt
  repeat' apply OnPage.append
  all_goals first
    | exact OnPage.stride (fun _ => rfl)
    | exact OnPage.packed (fun _ => rfl)
    | exact OnPage.filter (by unfold OnPage; decide)

theorem QMGR.onPage (off : Nat) : OnPage 14 (QMGR.fieldsAt off) := by
  unfold QMGR.fieldsAt
  repeat' apply OnPage.append
  all_goals first
    | exact OnPage.stride (fun _ => rfl)
    | exact OnPage.packed (fun _ => rfl)
    | exact OnPage.drop (OnPage.packed (fun _ => rfl))
    | exact OnPage.flat (fun _ => OnPage.stride (fun _ => rfl))
    | exact OnPage.filter (by unfold OnPage; decide)

theorem DMA.onPage (off : Nat) : OnPage 15 (DMA.fieldsAt off) := by
  unfold DMA.fieldsAt
  repeat' apply OnPage.append
  all_goals first
    | exact OnPage.stride (fun _ => rfl)
    | exact OnPage.packed (fun _ => rfl)
    | exact OnPage.drop (OnPage.packed (fun _ => rfl))
    | exact OnPage.flat (fun _ => OnPage.stride (fun _ => rfl))
    | exact OnPage.filter (by unfold OnPage; decide)

theorem EVF.onPage (off : Nat) : OnPage 16 (EVF.fieldsAt off) := by
  unfold EVF.fieldsAt
  repeat' apply OnPage.append
  all_goals first
    | exact OnPage.stride (fun _ => rfl)
    | exact OnPage.packed (fun _ => rfl)
    | exact OnPage.drop (OnPage.packed (fun _ => rfl))
    | exact OnPage.flat (fun _ => OnPage.stride (fun _ => rfl))
    | exact OnPage.filter (by unfold OnPage; decide)

theorem NTU.onPage (off : Nat) : OnPage 17 (NTU.fieldsAt off) := by
  unfold NTU.fieldsAt
  repeat' apply OnPage.append
  all_goals first
    | exact OnPage.stride (fun _ => rfl)
    | exact OnPage.packed (fun _ => rfl)
    | exact OnPage.drop (OnPage.packed (fun _ => rfl))
    | exact OnPage.flat (fun _ => OnPage.stride (fun _ => rfl))
    | exact OnPage.filter (by unfold OnPage; decide)

theorem CAN.onPage0 (off : Nat) : OnPage 18 (CAN.fieldsAt 0 off) := by
  unfold CAN.fieldsAt
  repeat' apply OnPage.append
  all_goals first
    | exact OnPage.stride (fun _ => rfl)
    | exact OnPage.packed (fun _ => rfl)
    | exact OnPage.filter (by unfold OnPage; decide)

theorem CAN.onPage1 (off : Nat) : OnPage 19 (CAN.fieldsAt 1 off) := by
  unfold CAN.fieldsAt
  repeat' apply OnPage.append
  all_goals first
    | exact OnPage.stride (fun _ => rfl)
    | exact OnPage.packed (fun _ => rfl)
    | exact OnPage.filter (by unfold OnPage; decide)

theorem CANX.onPage (off : Nat) : OnPage 20 (CANX.fieldsAt off) := by
  unfold CANX.fieldsAt
  repeat' apply OnPage.append
  all_goals first
    | exact OnPage.stride (fun _ => rfl)
    | exact OnPage.packed (fun _ => rfl)
    | exact OnPage.drop (OnPage.packed (fun _ => rfl))
    | exact OnPage.flat (fun _ => OnPage.stride (fun _ => rfl))
    | exact OnPage.filter (by unfold OnPage; decide)

theorem RFPHY.onPage (off : Nat) : OnPage 21 (RFPHY.fieldsAt off) := by
  unfold RFPHY.fieldsAt
  repeat' apply OnPage.append
  all_goals first
    | exact OnPage.stride (fun _ => rfl)
    | exact OnPage.packed (fun _ => rfl)
    | exact OnPage.drop (OnPage.packed (fun _ => rfl))
    | exact OnPage.flat (fun _ => OnPage.stride (fun _ => rfl))
    | exact OnPage.filter (by unfold OnPage; decide)

theorem LINK.onPage (off : Nat) : OnPage 22 (LINK.fieldsAt off) := by
  unfold LINK.fieldsAt
  repeat' apply OnPage.append
  all_goals first
    | exact OnPage.stride (fun _ => rfl)
    | exact OnPage.packed (fun _ => rfl)
    | exact OnPage.drop (OnPage.packed (fun _ => rfl))
    | exact OnPage.flat (fun _ => OnPage.stride (fun _ => rfl))
    | exact OnPage.filter (by unfold OnPage; decide)

theorem LSEC.onPage (off : Nat) : OnPage 23 (LSEC.fieldsAt off) := by
  unfold LSEC.fieldsAt
  repeat' apply OnPage.append
  all_goals first
    | exact OnPage.stride (fun _ => rfl)
    | exact OnPage.packed (fun _ => rfl)
    | exact OnPage.drop (OnPage.packed (fun _ => rfl))
    | exact OnPage.flat (fun _ => OnPage.stride (fun _ => rfl))
    | exact OnPage.filter (by unfold OnPage; decide)

theorem CTRL.onPage (off : Nat) : OnPage 24 (CTRL.fieldsAt off) := by
  unfold CTRL.fieldsAt
  repeat' apply OnPage.append
  all_goals first
    | exact OnPage.stride (fun _ => rfl)
    | exact OnPage.packed (fun _ => rfl)
    | exact OnPage.drop (OnPage.packed (fun _ => rfl))
    | exact OnPage.flat (fun _ => OnPage.stride (fun _ => rfl))
    | exact OnPage.filter (by unfold OnPage; decide)

theorem ADC.onPage (off : Nat) : OnPage 25 (ADC.fieldsAt off) := by
  unfold ADC.fieldsAt
  repeat' apply OnPage.append
  all_goals first
    | exact OnPage.stride (fun _ => rfl)
    | exact OnPage.packed (fun _ => rfl)
    | exact OnPage.drop (OnPage.packed (fun _ => rfl))
    | exact OnPage.flat (fun _ => OnPage.stride (fun _ => rfl))
    | exact OnPage.filter (by unfold OnPage; decide)

theorem PWM.onPage (off : Nat) : OnPage 26 (PWM.fieldsAt off) := by
  unfold PWM.fieldsAt
  repeat' apply OnPage.append
  all_goals first
    | exact OnPage.stride (fun _ => rfl)
    | exact OnPage.packed (fun _ => rfl)
    | exact OnPage.drop (OnPage.packed (fun _ => rfl))
    | exact OnPage.flat (fun _ => OnPage.stride (fun _ => rfl))
    | exact OnPage.filter (by unfold OnPage; decide)

theorem TOOTH.onPage (off : Nat) : OnPage 27 (TOOTH.fieldsAt off) := by
  unfold TOOTH.fieldsAt
  repeat' apply OnPage.append
  all_goals first
    | exact OnPage.stride (fun _ => rfl)
    | exact OnPage.packed (fun _ => rfl)
    | exact OnPage.drop (OnPage.packed (fun _ => rfl))
    | exact OnPage.flat (fun _ => OnPage.stride (fun _ => rfl))
    | exact OnPage.filter (by unfold OnPage; decide)

theorem FLASHC.onPage (off : Nat) : OnPage 28 (FLASHC.fieldsAt off) := by
  unfold FLASHC.fieldsAt
  repeat' apply OnPage.append
  all_goals first
    | exact OnPage.stride (fun _ => rfl)
    | exact OnPage.packed (fun _ => rfl)
    | exact OnPage.drop (OnPage.packed (fun _ => rfl))
    | exact OnPage.flat (fun _ => OnPage.stride (fun _ => rfl))
    | exact OnPage.filter (by unfold OnPage; decide)

theorem MEMC.onPage (off : Nat) : OnPage 29 (MEMC.fieldsAt off) := by
  unfold MEMC.fieldsAt
  repeat' apply OnPage.append
  all_goals first
    | exact OnPage.stride (fun _ => rfl)
    | exact OnPage.packed (fun _ => rfl)
    | exact OnPage.drop (OnPage.packed (fun _ => rfl))
    | exact OnPage.flat (fun _ => OnPage.stride (fun _ => rfl))
    | exact OnPage.filter (by unfold OnPage; decide)

theorem CRC.onPage (off : Nat) : OnPage 30 (CRC.fieldsAt off) := by
  unfold CRC.fieldsAt
  repeat' apply OnPage.append
  all_goals first
    | exact OnPage.stride (fun _ => rfl)
    | exact OnPage.packed (fun _ => rfl)
    | exact OnPage.drop (OnPage.packed (fun _ => rfl))
    | exact OnPage.flat (fun _ => OnPage.stride (fun _ => rfl))
    | exact OnPage.filter (by unfold OnPage; decide)

theorem AES.onPage (off : Nat) : OnPage 31 (AES.fieldsAt off) := by
  unfold AES.fieldsAt
  repeat' apply OnPage.append
  all_goals first
    | exact OnPage.stride (fun _ => rfl)
    | exact OnPage.packed (fun _ => rfl)
    | exact OnPage.drop (OnPage.packed (fun _ => rfl))
    | exact OnPage.flat (fun _ => OnPage.stride (fun _ => rfl))
    | exact OnPage.filter (by unfold OnPage; decide)

theorem TRNG.onPage (off : Nat) : OnPage 32 (TRNG.fieldsAt off) := by
  unfold TRNG.fieldsAt
  repeat' apply OnPage.append
  all_goals first
    | exact OnPage.stride (fun _ => rfl)
    | exact OnPage.packed (fun _ => rfl)
    | exact OnPage.drop (OnPage.packed (fun _ => rfl))
    | exact OnPage.flat (fun _ => OnPage.stride (fun _ => rfl))
    | exact OnPage.filter (by unfold OnPage; decide)

theorem PORT.onPage (off : Nat) : OnPage 33 (PORT.fieldsAt off) := by
  unfold PORT.fieldsAt
  repeat' apply OnPage.append
  all_goals first
    | exact OnPage.stride (fun _ => rfl)
    | exact OnPage.packed (fun _ => rfl)
    | exact OnPage.drop (OnPage.packed (fun _ => rfl))
    | exact OnPage.flat (fun _ => OnPage.stride (fun _ => rfl))
    | exact OnPage.filter (by unfold OnPage; decide)

theorem SER.onPage (off : Nat) : OnPage 34 (SER.fieldsAt off) := by
  unfold SER.fieldsAt
  repeat' apply OnPage.append
  all_goals first
    | exact OnPage.stride (fun _ => rfl)
    | exact OnPage.packed (fun _ => rfl)
    | exact OnPage.drop (OnPage.packed (fun _ => rfl))
    | exact OnPage.flat (fun _ => OnPage.stride (fun _ => rfl))
    | exact OnPage.filter (by unfold OnPage; decide)

theorem WDT.onPage (off : Nat) : OnPage 35 (WDT.fieldsAt off) := by
  unfold WDT.fieldsAt
  repeat' apply OnPage.append
  all_goals first
    | exact OnPage.stride (fun _ => rfl)
    | exact OnPage.packed (fun _ => rfl)
    | exact OnPage.drop (OnPage.packed (fun _ => rfl))
    | exact OnPage.flat (fun _ => OnPage.stride (fun _ => rfl))
    | exact OnPage.filter (by unfold OnPage; decide)

/-- The fields of a register stand on its page. -/
theorem pageFieldsAt_page {p : Nat} (hp : p < 36) (off : Nat) : OnPage p (pageFieldsAt p off) := by
  unfold pageFieldsAt
  split
  · intro f hf
    rw [List.mem_singleton.mp hf]
    exact Nat.mod_eq_of_lt (by show p < 64; omega)
  · split
    · intro f hf
      simp only [List.mem_cons, List.not_mem_nil, or_false] at hf
      rcases hf with rfl | rfl <;> exact Nat.mod_eq_of_lt (by show p < 64; omega)
    · split
      · exact SYS.onPage off
      · exact RSTC.onPage off
      · exact PWR.onPage off
      · exact SUPPLY.onPage off
      · exact CLK.onPage off
      · exact TEN.onPage off
      · exact FAULT.onPage0 off
      · exact FAULT.onPage1 off
      · exact FAULT.onPage2 off
      · exact FAULT.onPage3 off
      · exact IRQ.onPage0 off
      · exact IRQ.onPage1 off
      · exact IRQ.onPage2 off
      · exact IRQ.onPage3 off
      · exact QMGR.onPage off
      · exact DMA.onPage off
      · exact EVF.onPage off
      · exact NTU.onPage off
      · exact CAN.onPage0 off
      · exact CAN.onPage1 off
      · exact CANX.onPage off
      · exact RFPHY.onPage off
      · exact LINK.onPage off
      · exact LSEC.onPage off
      · exact CTRL.onPage off
      · exact ADC.onPage off
      · exact PWM.onPage off
      · exact TOOTH.onPage off
      · exact FLASHC.onPage off
      · exact MEMC.onPage off
      · exact CRC.onPage off
      · exact AES.onPage off
      · exact TRNG.onPage off
      · exact PORT.onPage off
      · exact SER.onPage off
      · exact WDT.onPage off
      · intro f hf
        cases hf

/-- What a write does to the fields of a register stays on its page. -/
theorem State.writeFields_page {m : Nat} {s0 s : State} {p off v mask : Nat} (hp : p < 36) (hm : Sub (2 ^ (32 + p)) m) (h : Frame m s0 s) :
    Frame m s0 (s.writeFields p off v mask).1 := by
  unfold State.writeFields
  have hl := pageFieldsAt_page hp off
  extract_lets lock
  clear_value lock
  suffices H : ∀ (l : List Fld) (r : State × Option Nat), OnPage p l → Frame m s0 r.1 →
      Frame m s0 (l.foldl (fun r f => ((r.1.writeField lock v mask f).1, r.2.or (r.1.writeField lock v mask f).2)) r).1 from H _ _ hl h
  intro l
  induction l with
  | nil => exact fun _ _ k => k
  | cons f l ih =>
    intro r ho k
    refine ih _ (fun g hg => ho g (List.mem_cons_of_mem _ hg)) ?_
    exact State.writeField_frame (Nat.zero_or m) (Allows.page (ho f List.mem_cons_self) hm) k

/-! ### One field -/

theorem bits_lt (v l w : Nat) : bits v l w < 2 ^ w := Nat.mod_lt _ (Nat.two_pow_pos w)

/-- All 32 byte lanes written: the mask that a field sees. -/
theorem bits_full {l w : Nat} (h : l + w ≤ 32) : bits 0xFFFFFFFF l w = 2 ^ w - 1 := by
  have e : (0xFFFFFFFF : Nat) = 2 ^ 32 - 1 := rfl
  unfold bits
  apply Nat.eq_of_testBit_eq
  intro i
  rw [Nat.testBit_mod_two_pow, Nat.testBit_div_two_pow, e, Nat.testBit_two_pow_sub_one, Nat.testBit_two_pow_sub_one]
  by_cases hi : i < w
  · have : i + l < 32 := by omega
    simp [hi, this]
  · simp [hi]

theorem bits_and_full {v l w : Nat} : bits v l w &&& (2 ^ w - 1) = bits v l w := by
  rw [Nat.and_two_pow_sub_one_eq_mod, Nat.mod_eq_of_lt (bits_lt v l w)]

theorem without_full {v w : Nat} (h : v < 2 ^ w) : without v (2 ^ w - 1) = 0 := by
  rw [without, Nat.and_two_pow_sub_one_eq_mod, Nat.mod_eq_of_lt h, Nat.sub_self]

theorem full_pos {w : Nat} (h : 0 < w) : ¬ 2 ^ w - 1 = 0 := by
  have := Nat.one_lt_two_pow (n := w) (by omega)
  omega

/-- What a whole-word write comes to for one field, by its access code. -/
theorem State.writeField_full {s : State} {lock : Option Nat} {v : Nat} {f : Fld} (h : f.lsb + f.width ≤ 32) (hw : 0 < f.width) :
    s.writeField lock v 0xFFFFFFFF f =
      match f.acc with
      | .rw => (s.putLegal f (bits v f.lsb f.width), none)
      | .rwl =>
        match lock with
        | some k => (s, if bits v f.lsb f.width = s.get f then none else some k)
        | none => (s.putLegal f (bits v f.lsb f.width), none)
      | .w1c => (s.put f (without (s.get f) (bits v f.lsb f.width)), none)
      | .w1s => (s.put f (s.get f ||| bits v f.lsb f.width), none)
      | _ => (s, none) := by
  simp only [State.writeField, bits_full h, full_pos hw, if_false, bits_and_full, without_full (s.get_lt f), Nat.zero_add]
  all_goals (generalize f.acc = a; cases a <;> cases lock <;> rfl)

/-! ### Admitted accesses -/

theorem islandAt_page {p off : Nat} (hp : p < 36) (ho : off < 0x1000) : islandAt (pageAddr p off) = pageIsland p := by
  have e : (pageAddr p off - 0x40000000) / 0x1000 = p := by
    unfold pageAddr
    omega
  have w : within 0x40000000 0x24000 (pageAddr p off) = true := by
    unfold within pageAddr
    rw [Bool.and_eq_true]
    exact ⟨decide_eq_true (by omega), decide_eq_true (by omega)⟩
  have : 0x40000000 ≤ pageAddr p off := by
    unfold pageAddr
    omega
  simp only [islandAt, w, e, if_true]
  repeat' rw [if_neg (by omega)]

/-- What an admitted write of a whole register comes to. -/
theorem State.cmdWrite_admitted {s : State} {m : Master} {p off v : Nat} (h : s.admits m p off true) (ha : pageAddr p off % 4 = 0) :
    s.cmdWrite m (pageAddr p off) 4 v =
      (match (s.regWrite (s.tidOf m) p off 0 4 v none).2 with
        | some e => (s.regWrite (s.tidOf m) p off 0 4 v none).1.failRecord ⟨e.1, e.2, pageAddr p off, 0, s.tidOf m⟩ (masterCode m) none
        | none => (s.regWrite (s.tidOf m) p off 0 4 v none).1).cancelSwept (pageAddr p off) := by
  obtain ⟨h1, h2, h3⟩ := h
  rw [if_pos rfl] at h2
  simp only [State.cmdWrite, State.busWrite, State.busPut, State.writeAt, h1, h2, h3, ha, Bool.false_eq_true, if_false]
  generalize s.regWrite (s.tidOf m) p off 0 4 v none = r
  obtain ⟨t, _ | ⟨c, d⟩⟩ := r <;> rfl

/-- What an admitted read of a register comes to. -/
theorem State.cmdRead_admitted {s : State} {m : Master} {p off : Nat} (h : s.admits m p off false) (ha : pageAddr p off % 4 = 0) :
    s.cmdRead m (pageAddr p off) 4 Upset.none =
      (s.regRead m (s.tidOf m) p off).1.reply (bits (s.regRead m (s.tidOf m) p off).2 0 32) := by
  obtain ⟨h1, h2, h3⟩ := h
  rw [if_neg Bool.false_ne_true] at h2
  simp only [State.cmdRead, State.busRead, State.readAt, State.readAs, h1, h2, h3, ha, Bool.false_eq_true, if_false]
  rfl

/-- No cancel is asked for by a write elsewhere than at QMGR_CANCEL. -/
theorem State.cancelSwept_ne {s : State} {a : Nat} (h : (a / 4 * 4 == pageAddr 0xE 0x24) = false) : s.cancelSwept a = s := by
  rw [State.cancelSwept, h]
  rfl

/-- A whole-word write of a register that is not of the common header nor of the CRC engine. -/
theorem State.regWrite_word {s : State} {t p off v : Nat} (h0 : off ≠ 0) (h4 : off ≠ 4) (h8 : off ≠ 8) (hC : off ≠ 0xC) (hp : p ≠ 0x1E)
    (hn : ¬(p = 0x16 ∧ (off = 0x54 ∨ off = 0x58))) :
    s.regWrite t p off 0 4 v none =
      (((s.writeFields p off (v % 2 ^ 32) 0xFFFFFFFF).1.pageWrote t p off (v % 2 ^ 32) 0xFFFFFFFF none s).1,
        if ((s.writeFields p off (v % 2 ^ 32) 0xFFFFFFFF).1.pageWrote t p off (v % 2 ^ 32) 0xFFFFFFFF none s).2 then some (causeDenied, 1)
        else (s.writeFields p off (v % 2 ^ 32) 0xFFFFFFFF).2.map (fun d => (causeLocked, d))) := by
  have hn' : (decide (p = 0x16) && (decide (off = 0x54) || decide (off = 0x58))) = false := by
    simp only [Bool.and_eq_false_iff, Bool.or_eq_false_iff, decide_eq_false_iff_not]
    by_cases c : p = 0x16
    · exact .inr ⟨fun d => hn ⟨c, .inl d⟩, fun d => hn ⟨c, .inr d⟩⟩
    · exact .inl c
  have hm : laneMask 0 4 = 0xFFFFFFFF := rfl
  simp [State.regWrite, h0, h4, h8, hC, hp, hn', hm]

end Sys2Proof.Machine
end

