-- ==== Sys2Proof/Tests/Slice0.lean ====
section
/-!
SUPPORT. Tests: concrete states that meet the hypotheses of the statements, clause by clause; ill-formed commands that the checks refuse;
and single steps and computations against the worked examples of the spec, each named in its comment.
-/

namespace Sys2Proof.Machine

set_option maxRecDepth 20000
set_option linter.unusedVariables false
/- One theorem at a time: side by side, their evaluations would need a stack each. -/
set_option Elab.async false

/-- The state after a command, for witnesses. -/
def State.after (s : State) (c : Instr) : State := match exec c s with
  | .next t => t
  | _ => s

/-- A state with an image in code flash: ENTRY 0x10000000, a copy of 20 bytes from 0x20. -/
def bootable : State :=
  let h := [0x54443438, 1, 0x10000000, 0, 0x20, 20, 0]
  let b := (h ++ [crcIeee (h.flatMap (bytesLE 4))]).flatMap (bytesLE 4)
  let s := ((State.reset.programFlash 0 (b.take 16)).programFlash 16 (b.drop 16)).programFlash 0x20 (List.range 16)
  s.programFlash 0x30 (List.range 16)

/-- The state after reset with tenant keys of zeros in place of those the TRNG draws, which no proof can evaluate. -/
def keyed : State := { State.reset with mem := { State.reset.mem with keys := Vector.replicate 5 0 } }
/-- The state with these bytes stored in its volatile memories and tenant keys of zeros. -/
def State.withRam (s : State) (l : Table Byte) : State := { s with mem := { s.mem with keys := Vector.replicate 5 0, ram := l } }
/-- Harts M and 1 run; granule 1 of main SRAM and what goes with it belong to T1. -/
def hartUp : State :=
  { ((keyed.modHart 0 (fun h => { h with running := true })).modHart 1 (fun h => { h with running := true })) with
    owners := [(256 * 12 + 1, 1)] }

/-- Tenant 0 holds slot 5, whose descriptor has these words, with state `st`, queue 2 and owner 0. -/
def withSlot (st : Nat) (ws : List Nat) : State :=
  ({ hartUp with q := { noQueues with slots := [(5, ⟨0, st, 0, 2, false, true⟩)], queues := if st = 2 then [(2, [5])] else [] } }).setWords 0 (slotAddr 5) (ws ++ List.replicate (8 - ws.length) 0)
/-- Consumer `c` serves slot 5, whose descriptor has these words. -/
def serving (c : Nat) (ws : List Nat) : State :=
  let s := withSlot 3 ws
  { s with q := { s.q with active := [(c, ⟨5, 2, 0, 0, none, none⟩)] } }

/-- Hart 1 is halted. -/
def haltedHart : State := hartUp.modHart 1 (fun h => { h with halted := true })

/-- The PHY is in phase `p` with a frame, for the link operation `o`. -/
def onAir (p : PhyOp) (f : AirFrame) (o : LinkOp) (s : State) : State :=
  { s with phy := { s.phy with op := p, frame := some f }, link := { s.link with cur := some ⟨3, 1, o, 2, f.robust, 0, none, none, none⟩ } }
/-- An OFDM SYNC has been met in an RX slot of neighbour 3, whose SHORT is 0x77, for the LINK_RX in slot 5. -/
def listening : State :=
  let s := ((((withSlot 2 [0x3141, 0, 0, 0x20000200, 0x80000040]).put (QMGR.Q_CONSUMER 2) 0x31).put (QMGR.Q_EN 2) 1).put (LINK.NBR_EN 3) 1).put LINK.SHORT 0x7E
  let s := ((List.range 6).foldl (fun s w => s.setNbr 3 w (if w = 0 then 0x77 else 0)) s).setMap 3 (List.replicate 48 2)
  { s with phy := { s.phy with op := .rxSync, robust := false }, link := { s.link with cur := some ⟨3, 0x32, .window none, 2, false, 0, none, none, none⟩ } }

/-- Neighbour 3 is in use with SHORT 0x77, key slot 1 and the flags `w0` of word 0; this node is 0x12. -/
def peer (w0 : Nat) (s : State) : State :=
  let s := ((s.put (LINK.NBR_EN 3) 1).put LINK.SHORT 0x12).setMap 0 (List.replicate 48 2)
  (List.range 6).foldl (fun s w => s.setNbr 3 w (nth [0x77 + w0, 0xB0, 0xB1, 5, 0x101, 0] w)) s
/-- Slot 5 holds a descriptor of tenant 0 for link consumer `c`, in queue 2, with state `st`, LINK_TX control block `cb` and payload 1, 2, 3. -/
def linked (st c : Nat) (cb : List Nat) (ws : List Nat) : State :=
  let s := (((withSlot st ws).put (QMGR.Q_CONSUMER 2) c).put (QMGR.Q_EN 2) 1).setWords 0 0x20000200 (cb ++ [0, 0, 0, 0])
  peer 0 { s.setWords 0 0x20000100 [0x030201] with q := { s.q with queues := [(2, [5])] } }
/-- The schedule runs, and the entry of slot 0 is `e`. -/
def scheduled (e : Nat) (s : State) : State := (s.put LINK.RUN 1).setWord 0 0x32110000 e
/-- The operation prepared next. -/
def nextOp (o : LinkOp) (s : State) : State := { s with link := { s.link with prepared := some 0, next := some ⟨0, 0x39, o, 0, true, 7, none, none, none⟩ } }
/-- Frame `f` has been received in an RX slot of neighbour 3, for slot 5; its payload is in radio buffer 4. -/
def heard (f : AirFrame) (s : State) : State :=
  let b := s.bufPut ⟨4, 0, 0⟩ f.payload
  { b.1 with link := { s.link with rx := some ⟨{ f with payload := [] }, 99, 1000, 4⟩, rxHeld := some b.2, taker := some 5, cur := some ⟨0, 0x32, .window none, 4, true, 0, none, none, none⟩ } }
/-- The frame sent for slot 5 waits for its acknowledgement. -/
def waiting (o : LinkOp) (s : State) : State :=
  { s with link := { s.link with ackWait := true, cur := some ⟨0, 0x31, o, 4, true, 0, none, none, none⟩ }, phy := { s.phy with op := .rxOpen } }

/-- A secured frame with SEQ `q` and LINK field `l` has been received from neighbour 3, whose RX_SEQ is 5. -/
def secured (q l : Nat) : State :=
  let s := linked 3 0x31 [] [0x3141, 0, 0, 0x20000200, 0x80000040] |> heard ⟨true, l, 0, 0, sealPayload (keyBytes 77) (linkNonce 0xB0 0xB1 q) l q [1, 2, 3]⟩
  { s with link := { s.link with keys := [(1, 77)] } }.put LSEC.KEY_VALID 2
/-- A SOUND_RESP has been received for slot 5, while the SOUND_TX in slot 6 on map 7 waits for it. -/
def sounded (p : List Nat) : State :=
  let s := linked 3 0x31 [] [0x3141, 0, 0, 0x20000200, 0x80000040] |> heard ⟨true, linkField 6 false true 0x77 0x12, 0, 0, p⟩
  let s := { s with q := { s.q with slots := [(5, ⟨0, 3, 0, 2, false, true⟩), (6, ⟨0, 3, 0, 3, false, true⟩)], queues := [(2, [5]), (3, [6])] } }
  ((s.put (QMGR.Q_CONSUMER 3) 0x30).put (QMGR.Q_EN 3) 1).setWords 0 (slotAddr 6) [0x3042, 0, 0x705, 0, 0x06000000, 0, 0, 0]

/-- Loop `n` has one stage, a GAIN in slot 0 with the operand code `a`. -/
def looped (n a : Nat) : State :=
  let s := (keyed.setWords 0 (stageWord 0 0) (List.replicate 32 0)).setWords 0 (stageWord 1 0) (List.replicate 32 0)
  (s.setWord 0 (stageWord 0 16) (1 + a * 2 ^ 16)).put (CTRL.COUNT n) 1
/-- Loop `n` is enabled with one stage, and has this sample, whose stage runs. -/
def sampling (n : Nat) (x : Sample) : State :=
  let s := ((looped n 0x10).put (CTRL.EN n) 1).put (CTRL.RUNNING n) 1
  { s with ctl := { s.ctl with samples := [(n, x)], stage := some n } }

/-- Tooth channel 3 is enabled and in state `st`; its last tooth was at 10, and it is 100. -/
def toothed (st : Nat) : State :=
  let s := (State.reset.put (TOOTH.EN 3) 1).put (TOOTH.STATE 3) st
  { s.modTooth 3 (fun x => { x with last := 10, real := 7 }) with toothTime := 100 }
/-- Stored bytes of a witness state, under keys of zeros. -/
def ram1 : Table Byte :=
[(537001988, 7), (537133056, 9)]
/-- Stored bytes of a witness state, under keys of zeros. -/
def ram2 : Table Byte :=
[(536875008, 225), (536875009, 180), (536875010, 59), (536875011, 77)]
/-- Stored bytes of a witness state, under keys of zeros. -/
def ram3 : Table Byte :=
[(536875008, 81), (536875009, 149), (536875010, 91), (536875011, 77)]
/-- Stored bytes of a witness state, under keys of zeros. -/
def ram4 : Table Byte :=
[(536875008, 129), (536875009, 147), (536875010, 91), (536875011, 77)]
/-- Stored bytes of a witness state, under keys of zeros. -/
def ram5 : Table Byte :=
[(536875008, 49), (536875009, 230), (536875010, 25), (536875011, 85)]
/-- Stored bytes of a witness state, under keys of zeros. -/
def ram6 : Table Byte :=
[(805306528, 110), (805306529, 17), (805306530, 218), (805306531, 234), (805306532, 98), (805306533, 73), (805306534, 19), (805306535, 153),
   (805306536, 191), (805306537, 254), (805306538, 215), (805306539, 2), (805306540, 65), (805306541, 23), (805306542, 218), (805306543, 143),
   (805306544, 51), (805306545, 191), (805306546, 84), (805306547, 112), (805306548, 34), (805306549, 138), (805306550, 172), (805306551, 23),
   (805306552, 233), (805306553, 119), (805306554, 171), (805306555, 173), (805306556, 56), (805306557, 44), (805306558, 49), (805306559, 77)]
/-- Stored bytes of a witness state, under keys of zeros. -/
def ram7 : Table Byte :=
[(805306528, 111), (805306529, 17), (805306530, 218), (805306531, 234), (805306532, 98), (805306533, 73), (805306534, 19), (805306535, 153),
   (805306536, 191), (805306537, 238), (805306538, 215), (805306539, 34), (805306540, 65), (805306541, 6), (805306542, 218), (805306543, 175),
   (805306544, 35), (805306545, 191), (805306546, 68), (805306547, 112), (805306548, 34), (805306549, 138), (805306550, 172), (805306551, 23),
   (805306552, 233), (805306553, 119), (805306554, 171), (805306555, 173), (805306556, 56), (805306557, 44), (805306558, 49), (805306559, 77)]
/-- Stored bytes of a witness state, under keys of zeros. -/
def ram8 : Table Byte :=
[(805306528, 105), (805306529, 17), (805306530, 218), (805306531, 234), (805306532, 98), (805306533, 73), (805306534, 19), (805306535, 153),
   (805306536, 191), (805306537, 238), (805306538, 215), (805306539, 34), (805306540, 65), (805306541, 6), (805306542, 218), (805306543, 175),
   (805306544, 35), (805306545, 191), (805306546, 68), (805306547, 112), (805306548, 34), (805306549, 138), (805306550, 172), (805306551, 23),
   (805306552, 233), (805306553, 119), (805306554, 171), (805306555, 173), (805306556, 56), (805306557, 44), (805306558, 49), (805306559, 77)]
/-- Stored bytes of a witness state, under keys of zeros. -/
def ram9 : Table Byte :=
[(805306528, 111), (805306529, 17), (805306530, 218), (805306531, 234), (805306532, 98), (805306533, 73), (805306534, 19), (805306535, 153),
   (805306536, 191), (805306537, 238), (805306538, 215), (805306539, 34), (805306540, 65), (805306541, 6), (805306542, 218), (805306543, 175),
   (805306544, 35), (805306545, 191), (805306546, 68), (805306547, 112), (805306548, 34), (805306549, 138), (805306550, 172), (805306551, 23),
   (805306552, 236), (805306553, 119), (805306554, 171), (805306555, 45), (805306556, 56), (805306557, 44), (805306558, 49), (805306559, 77)]
/-- Stored bytes of a witness state, under keys of zeros. -/
def ram10 : Table Byte :=
[(805306528, 111), (805306529, 17), (805306530, 218), (805306531, 234), (805306532, 98), (805306533, 73), (805306534, 19), (805306535, 153),
   (805306536, 191), (805306537, 238), (805306538, 215), (805306539, 34), (805306540, 65), (805306541, 6), (805306542, 218), (805306543, 175),
   (805306544, 35), (805306545, 191), (805306546, 69), (805306547, 112), (805306548, 34), (805306549, 138), (805306550, 172), (805306551, 23),
   (805306552, 233), (805306553, 119), (805306554, 171), (805306555, 173), (805306556, 12), (805306557, 62), (805306558, 49), (805306559, 77)]
/-- Stored bytes of a witness state, under keys of zeros. -/
def ram11 : Table Byte :=
[(805306528, 111), (805306529, 17), (805306530, 218), (805306531, 234), (805306532, 98), (805306533, 73), (805306534, 19), (805306535, 153),
   (805306536, 191), (805306537, 238), (805306538, 215), (805306539, 34), (805306540, 65), (805306541, 6), (805306542, 218), (805306543, 175),
   (805306544, 35), (805306545, 191), (805306546, 68), (805306547, 112), (805306548, 39), (805306549, 138), (805306550, 172), (805306551, 23),
   (805306552, 233), (805306553, 119), (805306554, 171), (805306555, 173), (805306556, 56), (805306557, 44), (805306558, 49), (805306559, 77)]
/-- Stored bytes of a witness state, under keys of zeros. -/
def ram12 : Table Byte :=
[(805306528, 111), (805306529, 17), (805306530, 218), (805306531, 234), (805306532, 98), (805306533, 73), (805306534, 19), (805306535, 153),
   (805306536, 191), (805306537, 255), (805306538, 215), (805306539, 34), (805306540, 67), (805306541, 21), (805306542, 218), (805306543, 175),
   (805306544, 53), (805306545, 191), (805306546, 92), (805306547, 112), (805306548, 34), (805306549, 138), (805306550, 172), (805306551, 23),
   (805306552, 233), (805306553, 119), (805306554, 171), (805306555, 173), (805306556, 56), (805306557, 44), (805306558, 49), (805306559, 77)]
/-- Stored bytes of a witness state, under keys of zeros. -/
def ram13 : Table Byte :=
[(805306528, 111), (805306529, 17), (805306530, 218), (805306531, 234), (805306532, 98), (805306533, 73), (805306534, 19), (805306535, 153),
   (805306536, 191), (805306537, 255), (805306538, 215), (805306539, 34), (805306540, 67), (805306541, 21), (805306542, 218), (805306543, 175),
   (805306544, 53), (805306545, 191), (805306546, 94), (805306547, 112), (805306548, 34), (805306549, 138), (805306550, 172), (805306551, 23),
   (805306552, 233), (805306553, 119), (805306554, 171), (805306555, 173), (805306556, 56), (805306557, 44), (805306558, 49), (805306559, 77)]
/-- Stored bytes of a witness state, under keys of zeros. -/
def ram14 : Table Byte :=
[(805306528, 111), (805306529, 17), (805306530, 218), (805306531, 234), (805306532, 98), (805306533, 73), (805306534, 19), (805306535, 153),
   (805306536, 191), (805306537, 255), (805306538, 215), (805306539, 34), (805306540, 67), (805306541, 21), (805306542, 218), (805306543, 175),
   (805306544, 53), (805306545, 191), (805306546, 88), (805306547, 112), (805306548, 34), (805306549, 138), (805306550, 172), (805306551, 23),
   (805306552, 233), (805306553, 119), (805306554, 171), (805306555, 173), (805306556, 56), (805306557, 44), (805306558, 49), (805306559, 77)]
/-- Stored bytes of a witness state, under keys of zeros. -/
def ram15 : Table Byte :=
[(805306528, 111), (805306529, 17), (805306530, 218), (805306531, 234), (805306532, 98), (805306533, 73), (805306534, 19), (805306535, 153),
   (805306536, 191), (805306537, 255), (805306538, 215), (805306539, 34), (805306540, 67), (805306541, 21), (805306542, 218), (805306543, 175),
   (805306544, 53), (805306545, 191), (805306546, 82), (805306547, 112), (805306548, 34), (805306549, 138), (805306550, 172), (805306551, 23),
   (805306552, 233), (805306553, 119), (805306554, 171), (805306555, 173), (805306556, 56), (805306557, 44), (805306558, 49), (805306559, 77)]
/-- Stored bytes of a witness state, under keys of zeros. -/
def ram16 : Table Byte :=
[(805306528, 108), (805306529, 17), (805306530, 218), (805306531, 234), (805306532, 98), (805306533, 73), (805306534, 19), (805306535, 153),
   (805306536, 251), (805306537, 205), (805306538, 245), (805306539, 19), (805306540, 69), (805306541, 21), (805306542, 218), (805306543, 175),
   (805306544, 63), (805306545, 191), (805306546, 68), (805306547, 112), (805306548, 34), (805306549, 138), (805306550, 172), (805306551, 23),
   (805306552, 233), (805306553, 119), (805306554, 171), (805306555, 173), (805306556, 56), (805306557, 44), (805306558, 49), (805306559, 77)]
/-- Stored bytes of a witness state, under keys of zeros. -/
def ram17 : Table Byte :=
[(805306528, 108), (805306529, 17), (805306530, 218), (805306531, 234), (805306532, 98), (805306533, 73), (805306534, 19), (805306535, 153),
   (805306536, 251), (805306537, 205), (805306538, 245), (805306539, 19), (805306540, 69), (805306541, 21), (805306542, 218), (805306543, 175),
   (805306544, 63), (805306545, 191), (805306546, 64), (805306547, 112), (805306548, 34), (805306549, 138), (805306550, 172), (805306551, 23),
   (805306552, 233), (805306553, 119), (805306554, 171), (805306555, 173), (805306556, 56), (805306557, 44), (805306558, 49), (805306559, 77)]
/-- Stored bytes of a witness state, under keys of zeros. -/
def ram18 : Table Byte :=
[(805306528, 126), (805306529, 1), (805306530, 218), (805306531, 234), (805306532, 98), (805306533, 73), (805306534, 19), (805306535, 153),
   (805306536, 190), (805306537, 255), (805306538, 215), (805306539, 34), (805306540, 67), (805306541, 21), (805306542, 218), (805306543, 175),
   (805306544, 53), (805306545, 191), (805306546, 20), (805306547, 112), (805306548, 34), (805306549, 138), (805306550, 172), (805306551, 23),
   (805306552, 233), (805306553, 119), (805306554, 171), (805306555, 173), (805306556, 56), (805306557, 44), (805306558, 49), (805306559, 77)]
/-- Stored bytes of a witness state, under keys of zeros. -/
def ram19 : Table Byte :=
[(536871428, 233), (536871429, 15), (536871430, 50), (536871431, 11), (805306528, 126), (805306529, 1), (805306530, 218), (805306531, 234),
   (805306532, 98), (805306533, 73), (805306534, 19), (805306535, 153), (805306536, 190), (805306537, 255), (805306538, 215), (805306539, 34),
   (805306540, 65), (805306541, 21), (805306542, 218), (805306543, 175), (805306544, 53), (805306545, 191), (805306546, 148), (805306547, 112),
   (805306548, 34), (805306549, 138), (805306550, 172), (805306551, 23), (805306552, 233), (805306553, 119), (805306554, 171), (805306555, 173),
   (805306556, 56), (805306557, 44), (805306558, 49), (805306559, 77)]
/-- Stored bytes of a witness state, under keys of zeros. -/
def ram20 : Table Byte :=
[(536871216, 5), (536871217, 238), (536871218, 81), (536871219, 216), (805306528, 78), (805306530, 218), (805306531, 234), (805306532, 98),
   (805306533, 73), (805306534, 19), (805306535, 153), (805306536, 191), (805306537, 255), (805306538, 215), (805306539, 34), (805306540, 65),
   (805306541, 21), (805306542, 218), (805306543, 175), (805306544, 35), (805306545, 191), (805306546, 84), (805306547, 112), (805306548, 34),
   (805306549, 138), (805306550, 172), (805306551, 23), (805306552, 233), (805306553, 119), (805306554, 171), (805306555, 173), (805306556, 56),
   (805306557, 44), (805306558, 49), (805306559, 77)]
/-- Stored bytes of a witness state, under keys of zeros. -/
def ram21 : Table Byte :=
[(536871216, 5), (536871217, 239), (536871218, 81), (536871219, 216), (805306528, 79), (805306530, 218), (805306531, 234), (805306532, 98),
   (805306533, 73), (805306534, 19), (805306535, 153), (805306536, 191), (805306537, 255), (805306538, 215), (805306539, 34), (805306540, 65),
   (805306541, 21), (805306542, 218), (805306543, 175), (805306544, 35), (805306545, 191), (805306546, 116), (805306547, 112), (805306548, 34),
   (805306549, 138), (805306550, 172), (805306551, 23), (805306552, 233), (805306553, 119), (805306554, 171), (805306555, 173), (805306556, 56),
   (805306557, 44), (805306558, 49), (805306559, 77)]
/-- Stored bytes of a witness state, under keys of zeros. -/
def ram22 : Table Byte :=
[(536871216, 6), (536871217, 238), (536871218, 81), (536871219, 216), (805306528, 76), (805306530, 218), (805306531, 234), (805306532, 98),
   (805306533, 73), (805306534, 19), (805306535, 153), (805306536, 191), (805306537, 255), (805306538, 215), (805306539, 34), (805306540, 64),
   (805306541, 21), (805306542, 218), (805306543, 175), (805306544, 54), (805306545, 191), (805306546, 84), (805306547, 112), (805306548, 34),
   (805306549, 138), (805306550, 172), (805306551, 23), (805306552, 233), (805306553, 119), (805306554, 171), (805306555, 173), (805306556, 56),
   (805306557, 44), (805306558, 49), (805306559, 77)]
/-- Stored bytes of a witness state, under keys of zeros. -/
def ram23 : Table Byte :=
[(536871216, 6), (536871217, 238), (536871218, 81), (536871219, 216), (536871221, 176), (536871222, 71), (536871223, 184), (536871224, 13),
   (536871225, 215), (536871226, 199), (536871227, 215), (536871228, 83), (536871229, 191), (536871230, 150), (536871231, 189), (805306528, 77),
   (805306530, 218), (805306531, 234), (805306532, 98), (805306533, 73), (805306534, 19), (805306535, 153), (805306536, 191), (805306537, 255),
   (805306538, 215), (805306539, 34), (805306540, 64), (805306541, 21), (805306542, 218), (805306543, 175), (805306544, 54), (805306545, 191),
   (805306546, 84), (805306547, 112), (805306548, 34), (805306549, 138), (805306550, 172), (805306551, 23), (805306552, 233), (805306553, 119),
   (805306554, 171), (805306555, 173), (805306556, 56), (805306557, 44), (805306558, 49), (805306559, 77)]
/-- Stored bytes of a witness state, under keys of zeros. -/
def ram24 : Table Byte :=
[(536871216, 6), (536871217, 238), (536871218, 81), (536871219, 216), (536871221, 176), (536871222, 71), (536871223, 184), (536871224, 13),
   (536871225, 215), (536871226, 199), (536871227, 215), (536871228, 83), (536871229, 191), (536871230, 150), (536871231, 189), (805306528, 74),
   (805306530, 218), (805306531, 234), (805306532, 98), (805306533, 73), (805306534, 19), (805306535, 153), (805306536, 191), (805306537, 255),
   (805306538, 215), (805306539, 34), (805306540, 64), (805306541, 21), (805306542, 218), (805306543, 175), (805306544, 54), (805306545, 191),
   (805306546, 84), (805306547, 112), (805306548, 34), (805306549, 138), (805306550, 172), (805306551, 23), (805306552, 233), (805306553, 119),
   (805306554, 171), (805306555, 173), (805306556, 56), (805306557, 44), (805306558, 49), (805306559, 77)]
/-- Stored bytes of a witness state, under keys of zeros. -/
def ram25 : Table Byte :=
[(536871216, 6), (536871217, 238), (536871218, 81), (536871219, 216), (536871228, 83), (536871229, 191), (536871230, 150), (536871231, 189),
   (805306528, 75), (805306530, 218), (805306531, 234), (805306532, 98), (805306533, 73), (805306534, 19), (805306535, 153), (805306536, 191),
   (805306537, 255), (805306538, 215), (805306539, 34), (805306540, 65), (805306541, 23), (805306542, 218), (805306543, 143), (805306544, 54),
   (805306545, 191), (805306546, 84), (805306547, 112), (805306548, 34), (805306549, 138), (805306550, 172), (805306551, 23), (805306552, 233),
   (805306553, 119), (805306554, 171), (805306555, 173), (805306556, 56), (805306557, 44), (805306558, 49), (805306559, 77)]
/-- Stored bytes of a witness state, under keys of zeros. -/
def ram26 : Table Byte :=
[(805306528, 78), (805306530, 218), (805306531, 234), (805306532, 98), (805306533, 73), (805306534, 19), (805306535, 153), (805306536, 191),
   (805306537, 255), (805306538, 215), (805306539, 34), (805306540, 65), (805306541, 21), (805306542, 218), (805306543, 175), (805306544, 35),
   (805306545, 191), (805306546, 84), (805306547, 112), (805306548, 34), (805306549, 138), (805306550, 172), (805306551, 23), (805306552, 233),
   (805306553, 119), (805306554, 171), (805306555, 173), (805306556, 56), (805306557, 44), (805306558, 49), (805306559, 77)]
/-- Stored bytes of a witness state, under keys of zeros. -/
def ram27 : Table Byte :=
[(822149368, 102), (822149369, 48), (822149370, 40), (822149371, 21), (822149528, 23), (822149529, 12), (822149530, 130), (822149531, 14)]
/-- Stored bytes of a witness state, under keys of zeros. -/
def ram28 : Table Byte :=
[(822149528, 23), (822149529, 12), (822149530, 130), (822149531, 14)]
/-- Stored bytes of a witness state, under keys of zeros. -/
def ram29 : Table Byte :=
[(822149520, 187), (822149521, 43), (822149522, 50), (822149523, 89), (822149532, 153), (822149533, 89), (822149534, 184), (822149535, 177),
   (822149680, 110), (822149681, 71), (822149682, 222), (822149683, 52), (822149692, 108), (822149693, 242), (822149694, 222), (822149695, 22)]
/-- Stored bytes of a witness state, under keys of zeros. -/
def ram30 : Table Byte :=
[(822149520, 187), (822149521, 43), (822149522, 50), (822149523, 217), (822149532, 153), (822149533, 89), (822149534, 184), (822149535, 177)]
/-- Stored bytes of a witness state, under keys of zeros. -/
def ram31 : Table Byte :=
[(822149532, 102), (822149533, 166), (822149534, 71), (822149535, 78)]
/-- Stored bytes of a witness state, under keys of zeros. -/
def ram32 : Table Byte :=
[(822159292, 243), (822159293, 169), (822159294, 43), (822159295, 248)]
/-- Stored bytes of a witness state, under keys of zeros. -/
def ram33 : Table Byte :=
[(805306528, 94), (805306529, 58), (805306530, 218), (805306531, 234), (805306532, 98), (805306533, 73), (805306534, 19), (805306535, 153),
   (805306536, 187), (805306537, 255), (805306538, 215), (805306539, 34), (805306540, 70), (805306541, 23), (805306542, 218), (805306543, 15),
   (805306544, 51), (805306545, 191), (805306546, 84), (805306547, 92), (805306548, 43), (805306549, 138), (805306550, 172), (805306551, 23), (805306552,
   233), (805306553, 119), (805306554, 171), (805306555, 173), (805306556, 56), (805306557, 44), (805306558, 49), (805306559, 77)]
/-- Stored bytes of a witness state, under keys of zeros. -/
def ram34 : Table Byte :=
[(805306528, 94), (805306529, 58), (805306530, 218), (805306531, 234), (805306532, 98), (805306533, 73), (805306534, 19), (805306535, 153),
   (805306536, 187), (805306537, 255), (805306538, 215), (805306539, 34), (805306540, 70), (805306541, 23), (805306542, 218), (805306543, 15),
   (805306544, 51), (805306545, 191), (805306546, 84), (805306547, 92), (805306548, 34), (805306549, 138), (805306550, 172), (805306551, 151),
   (805306552, 233), (805306553, 119), (805306554, 171), (805306555, 173), (805306556, 56), (805306557, 44), (805306558, 49), (805306559, 77)]
/-- Stored bytes of a witness state, under keys of zeros. -/
def ram35 : Table Byte :=
[(840040544, 254), (840040545, 62), (840040546, 245), (840040547, 149), (840040548, 218), (840040549, 47), (840040550, 137), (840040551, 208),
   (840040552, 56), (840040553, 13), (840040554, 165), (840040555, 50), (840040556, 9), (840040557, 21), (840040558, 188), (840040559, 174), (840040560,
   193), (840040561, 202), (840040562, 39), (840040563, 160)]
/-- Stored bytes of a witness state, under keys of zeros. -/
def ram36 : Table Byte :=
[(805306528, 46), (805306529, 33), (805306530, 218), (805306531, 234), (805306532, 98), (805306533, 73), (805306534, 19), (805306535, 153),
   (805306536, 191), (805306537, 255), (805306538, 215), (805306539, 34), (805306540, 65), (805306541, 21), (805306542, 218), (805306543, 175),
   (805306544, 48), (805306545, 191), (805306546, 84), (805306547, 112), (805306548, 34), (805306549, 138), (805306550, 172), (805306551, 23),
   (805306552, 233), (805306553, 119), (805306554, 171), (805306555, 173), (805306556, 56), (805306557, 44), (805306558, 49), (805306559, 77)]
/-- Stored bytes of a witness state, under keys of zeros. -/
def ram37 : Table Byte :=
[(805306528, 44), (805306529, 33), (805306530, 218), (805306531, 234), (805306532, 98), (805306533, 73), (805306534, 19), (805306535, 153),
   (805306536, 186), (805306537, 253), (805306538, 215), (805306539, 2), (805306540, 65), (805306541, 23), (805306542, 218), (805306543, 143),
   (805306544, 48), (805306545, 191), (805306546, 84), (805306547, 112), (805306548, 34), (805306549, 138), (805306550, 172), (805306551, 23),
   (805306552, 233), (805306553, 119), (805306554, 171), (805306555, 173), (805306556, 56), (805306557, 44), (805306558, 49), (805306559, 77)]
/-- Stored bytes of a witness state, under keys of zeros. -/
def ram38 : Table Byte :=
[(805306528, 47), (805306529, 32), (805306530, 218), (805306531, 234), (805306532, 98), (805306533, 73), (805306534, 19), (805306535, 153),
   (805306536, 191), (805306537, 254), (805306538, 215), (805306539, 2), (805306540, 65), (805306541, 21), (805306542, 218), (805306543, 175),
   (805306544, 115), (805306545, 191), (805306546, 84), (805306547, 240), (805306548, 34), (805306549, 138), (805306550, 172), (805306551, 23),
   (805306552, 233), (805306553, 119), (805306554, 171), (805306555, 173), (805306556, 56), (805306557, 44), (805306558, 49), (805306559, 77)]
/-- Stored bytes of a witness state, under keys of zeros. -/
def ram39 : Table Byte :=
[(805306528, 47), (805306529, 32), (805306530, 218), (805306531, 234), (805306532, 98), (805306533, 73), (805306534, 19), (805306535, 153),
   (805306536, 191), (805306537, 254), (805306538, 215), (805306539, 2), (805306540, 65), (805306541, 21), (805306542, 218), (805306543, 175),
   (805306544, 115), (805306545, 191), (805306546, 84), (805306547, 240), (805306548, 34), (805306549, 138), (805306550, 172), (805306551, 23),
   (805306552, 233), (805306553, 119), (805306554, 171), (805306555, 173), (805306556, 56), (805306557, 44), (805306558, 49), (805306559, 77),
   (839909472, 201), (839909473, 102), (839909474, 39), (839909475, 201), (839909476, 53), (839909477, 199), (839909478, 94), (839909479, 123),
   (839909480, 154), (839909481, 92), (839909482, 142), (839909483, 95), (839909484, 90), (839909485, 182), (839909486, 235), (839909487, 218),
   (839909488, 226), (839909489, 69), (839909490, 81), (839909491, 247), (839909492, 184), (839909493, 132), (839909494, 223), (839909495, 247),
   (840040544, 254), (840040545, 62), (840040546, 245), (840040547, 149), (840040548, 218), (840040549, 47), (840040550, 137), (840040551, 208),
   (840040552, 56), (840040553, 13), (840040554, 165), (840040555, 50), (840040556, 9), (840040557, 21), (840040558, 188), (840040559, 174), (840040560,
   193), (840040561, 202), (840040562, 39), (840040563, 160)]
/-- Stored bytes of a witness state, under keys of zeros. -/
def ram40 : Table Byte :=
[(839974912, 172), (839974913, 176), (839974914, 97), (839974915, 146)]
/-- Stored bytes of a witness state, under keys of zeros. -/
def ram41 : Table Byte :=
[(839974912, 154), (839974913, 188), (839974914, 97), (839974915, 146)]
/-- Stored bytes of a witness state, under keys of zeros. -/
def ram42 : Table Byte :=
[(536871168, 39), (536871169, 24), (536871170, 149), (536871171, 104), (536871424, 194), (536871425, 10), (536871426, 154), (536871427, 61),
   (536871428, 94), (536871429, 18), (536871430, 243), (536871431, 15), (536871432, 92), (536871433, 58), (536871434, 60), (536871435, 146), (536871436,
   12), (536871437, 165), (536871438, 211), (536871439, 139), (536871440, 96), (536871441, 55), (536871442, 209), (536871443, 150), (536871444, 50),
   (536871445, 2), (536871446, 48), (536871447, 71), (805306528, 46), (805306529, 33), (805306530, 218), (805306531, 234), (805306532, 98), (805306533,
   73), (805306534, 19), (805306535, 153), (805306536, 191), (805306537, 255), (805306538, 215), (805306539, 34), (805306540, 65), (805306541, 21),
   (805306542, 218), (805306543, 175), (805306544, 48), (805306545, 191), (805306546, 84), (805306547, 118), (805306548, 34), (805306549, 138),
   (805306550, 172), (805306551, 23), (805306552, 233), (805306553, 119), (805306554, 171), (805306555, 173), (805306556, 56), (805306557, 44),
   (805306558, 49), (805306559, 77), (839909472, 201), (839909473, 102), (839909474, 39), (839909475, 201), (839909476, 133), (839909477, 199),
   (839909478, 94), (839909479, 123), (839909480, 43), (839909481, 92), (839909482, 142), (839909483, 95), (839909484, 95), (839909485, 182), (839909486,
   235), (839909487, 218), (839909488, 227), (839909489, 68), (839909490, 81), (839909491, 247), (839909492, 184), (839909493, 132), (839909494, 223),
   (839909495, 247), (839974912, 175), (839974913, 176), (839974914, 97), (839974915, 146), (840040448, 22), (840040449, 104), (840040450, 227),
   (840040451, 207), (840040452, 51), (840040453, 223), (840040454, 218), (840040455, 248), (840040456, 1), (840040457, 2), (840040458, 209), (840040459,
   111), (840040460, 203), (840040461, 39), (840040462, 148), (840040463, 191), (840040464, 79), (840040465, 102), (840040466, 7), (840040467, 178)]
/-- Stored bytes of a witness state, under keys of zeros. -/
def ram43 : Table Byte :=
[(536871168, 39), (536871169, 24), (536871170, 149), (536871171, 104), (536871424, 210), (536871425, 11), (536871426, 154), (536871427, 61),
   (536871428, 94), (536871429, 18), (536871430, 243), (536871431, 15), (536871432, 92), (536871433, 58), (536871434, 60), (536871435, 146), (536871436,
   12), (536871437, 165), (536871438, 211), (536871439, 139), (805306528, 47), (805306529, 32), (805306530, 218), (805306531, 234), (805306532, 98),
   (805306533, 73), (805306534, 19), (805306535, 153), (805306536, 191), (805306537, 254), (805306538, 215), (805306539, 2), (805306540, 65), (805306541,
   21), (805306542, 218), (805306543, 175), (805306544, 115), (805306545, 191), (805306546, 84), (805306547, 240), (805306548, 34), (805306549, 138),
   (805306550, 172), (805306551, 23), (805306552, 233), (805306553, 119), (805306554, 171), (805306555, 173), (805306556, 56), (805306557, 44),
   (805306558, 49), (805306559, 77), (839909472, 201), (839909473, 102), (839909474, 39), (839909475, 201), (839909476, 133), (839909477, 199),
   (839909478, 94), (839909479, 123), (839909480, 43), (839909481, 92), (839909482, 142), (839909483, 95), (839909484, 95), (839909485, 182), (839909486,
   235), (839909487, 218), (839909488, 227), (839909489, 68), (839909490, 81), (839909491, 247), (839909492, 184), (839909493, 132), (839909494, 223),
   (839909495, 247), (839974912, 172), (839974913, 176), (839974914, 97), (839974915, 146), (840040448, 22), (840040449, 104), (840040450, 227),
   (840040451, 207), (840040452, 51), (840040453, 223), (840040454, 218), (840040455, 248), (840040456, 1), (840040457, 2), (840040458, 209), (840040459,
   111), (840040460, 203), (840040461, 39), (840040462, 148), (840040463, 191), (840040464, 79), (840040465, 102), (840040466, 7), (840040467, 178)]
/-- Stored bytes of a witness state, under keys of zeros. -/
def ram44 : Table Byte :=
[(536871168, 39), (536871169, 24), (536871170, 149), (536871171, 104), (536871424, 210), (536871425, 11), (536871426, 154), (536871427, 61),
   (536871428, 94), (536871429, 18), (536871430, 243), (536871431, 15), (536871432, 92), (536871433, 58), (536871434, 60), (536871435, 146), (536871436,
   12), (536871437, 165), (536871438, 211), (536871439, 139), (805306528, 45), (805306529, 32), (805306530, 218), (805306531, 234), (805306532, 98),
   (805306533, 73), (805306534, 19), (805306535, 153), (805306536, 186), (805306537, 253), (805306538, 215), (805306539, 2), (805306540, 65), (805306541,
   23), (805306542, 218), (805306543, 143), (805306544, 51), (805306545, 191), (805306546, 84), (805306547, 118), (805306548, 34), (805306549, 138),
   (805306550, 172), (805306551, 23), (805306552, 233), (805306553, 119), (805306554, 171), (805306555, 173), (805306556, 56), (805306557, 44),
   (805306558, 49), (805306559, 77), (839909472, 201), (839909473, 102), (839909474, 39), (839909475, 201), (839909476, 133), (839909477, 199),
   (839909478, 94), (839909479, 123), (839909480, 43), (839909481, 92), (839909482, 142), (839909483, 95), (839909484, 95), (839909485, 182), (839909486,
   235), (839909487, 218), (839909488, 227), (839909489, 68), (839909490, 81), (839909491, 247), (839909492, 184), (839909493, 132), (839909494, 223),
   (839909495, 247), (839974912, 172), (839974913, 176), (839974914, 97), (839974915, 146), (840040448, 22), (840040449, 104), (840040450, 227),
   (840040451, 207), (840040452, 51), (840040453, 223), (840040454, 218), (840040455, 248), (840040456, 1), (840040457, 2), (840040458, 209), (840040459,
   111), (840040460, 203), (840040461, 39), (840040462, 148), (840040463, 191), (840040464, 79), (840040465, 102), (840040466, 7), (840040467, 178)]
/-- Stored bytes of a witness state, under keys of zeros. -/
def ram45 : Table Byte :=
[(536871168, 39), (536871169, 24), (536871170, 149), (536871171, 104), (536871424, 210), (536871425, 11), (536871426, 154), (536871427, 61),
   (536871428, 94), (536871429, 18), (536871430, 243), (536871431, 15), (536871432, 92), (536871433, 58), (536871434, 60), (536871435, 146), (536871436,
   12), (536871437, 165), (536871438, 211), (536871439, 139), (805306528, 47), (805306529, 32), (805306530, 218), (805306531, 234), (805306532, 98),
   (805306533, 73), (805306534, 19), (805306535, 153), (805306536, 191), (805306537, 254), (805306538, 215), (805306539, 2), (805306540, 65), (805306541,
   21), (805306542, 218), (805306543, 175), (805306544, 115), (805306545, 191), (805306546, 84), (805306547, 240), (805306548, 34), (805306549, 138),
   (805306550, 172), (805306551, 23), (805306552, 233), (805306553, 119), (805306554, 171), (805306555, 173), (805306556, 56), (805306557, 44),
   (805306558, 49), (805306559, 77), (838864896, 108), (838864897, 199), (838864898, 220), (838864899, 116), (838864900, 188), (838864901, 42),
   (838864902, 106), (838864903, 106), (838864904, 29), (838864905, 95), (838864906, 35), (838864907, 100), (838864908, 214), (838864909, 230),
   (838864910, 189), (838864911, 84), (838864912, 208), (838864913, 7), (838864914, 66), (838864915, 134), (838864916, 106), (838864917, 147),
   (838864918, 172), (838864919, 145), (838864920, 213), (838864921, 15), (838864922, 10), (838864923, 21), (838864924, 135), (838864925, 37),
   (838864926, 101), (838864927, 13), (839909472, 201), (839909473, 102), (839909474, 39), (839909475, 201), (839909476, 133), (839909477, 199),
   (839909478, 94), (839909479, 123), (839909480, 43), (839909481, 92), (839909482, 142), (839909483, 95), (839909484, 95), (839909485, 182), (839909486,
   235), (839909487, 218), (839909488, 227), (839909489, 68), (839909490, 81), (839909491, 247), (839909492, 184), (839909493, 132), (839909494, 223),
   (839909495, 247), (840040448, 22), (840040449, 104), (840040450, 227), (840040451, 207), (840040452, 51), (840040453, 223), (840040454, 218),
   (840040455, 248), (840040456, 1), (840040457, 2), (840040458, 209), (840040459, 111), (840040460, 203), (840040461, 39), (840040462, 148), (840040463,
   191), (840040464, 79), (840040465, 102), (840040466, 7), (840040467, 178)]
/-- Stored bytes of a witness state, under keys of zeros. -/
def ram46 : Table Byte :=
[(536871168, 39), (536871169, 24), (536871170, 149), (536871171, 104), (536871424, 210), (536871425, 11), (536871426, 154), (536871427, 61),
   (536871428, 94), (536871429, 18), (536871430, 243), (536871431, 15), (536871432, 92), (536871433, 58), (536871434, 60), (536871435, 146), (536871436,
   12), (536871437, 165), (536871438, 211), (536871439, 139), (805306528, 47), (805306529, 32), (805306530, 218), (805306531, 234), (805306532, 98),
   (805306533, 73), (805306534, 19), (805306535, 153), (805306536, 191), (805306537, 254), (805306538, 215), (805306539, 2), (805306540, 65), (805306541,
   21), (805306542, 218), (805306543, 175), (805306544, 115), (805306545, 191), (805306546, 84), (805306547, 240), (805306548, 34), (805306549, 138),
   (805306550, 172), (805306551, 23), (805306552, 233), (805306553, 119), (805306554, 171), (805306555, 173), (805306556, 56), (805306557, 44),
   (805306558, 49), (805306559, 77), (838864896, 8), (838864897, 198), (838864898, 222), (838864899, 119), (838864900, 184), (838864901, 47), (838864902,
   105), (838864903, 109), (838864904, 21), (838864905, 86), (838864906, 42), (838864907, 111), (838864908, 218), (838864909, 235), (838864910, 179),
   (838864911, 79), (838864912, 164), (838864913, 21), (838864914, 80), (838864915, 212), (838864916, 110), (838864917, 134), (838864918, 186),
   (838864919, 134), (838864920, 205), (838864921, 22), (838864922, 16), (838864923, 14), (838864924, 155), (838864925, 56), (838864926, 123),
   (838864927, 13), (839909472, 201), (839909473, 102), (839909474, 39), (839909475, 201), (839909476, 133), (839909477, 199), (839909478, 94),
   (839909479, 123), (839909480, 43), (839909481, 92), (839909482, 142), (839909483, 95), (839909484, 95), (839909485, 182), (839909486, 235),
   (839909487, 218), (839909488, 227), (839909489, 68), (839909490, 81), (839909491, 247), (839909492, 184), (839909493, 132), (839909494, 223),
   (839909495, 247), (840040448, 22), (840040449, 104), (840040450, 227), (840040451, 207), (840040452, 51), (840040453, 223), (840040454, 218),
   (840040455, 248), (840040456, 1), (840040457, 2), (840040458, 209), (840040459, 111), (840040460, 203), (840040461, 39), (840040462, 148), (840040463,
   191), (840040464, 79), (840040465, 102), (840040466, 7), (840040467, 178)]
/-- Stored bytes of a witness state, under keys of zeros. -/
def ram47 : Table Byte :=
[(839974912, 158), (839974913, 48), (839974914, 97), (839974915, 146)]
/-- Stored bytes of a witness state, under keys of zeros. -/
def ram48 : Table Byte :=
[(536871168, 39), (536871169, 24), (536871170, 149), (536871171, 104), (536871424, 194), (536871425, 11), (536871426, 154), (536871427, 61),
   (536871428, 94), (536871429, 18), (536871430, 243), (536871431, 15), (536871432, 92), (536871433, 58), (536871434, 60), (536871435, 146), (536871436,
   12), (536871437, 165), (536871438, 211), (536871439, 139), (536871440, 96), (536871441, 55), (536871442, 209), (536871443, 150), (536871444, 50),
   (536871445, 2), (536871446, 48), (536871447, 71), (805306528, 46), (805306529, 33), (805306530, 218), (805306531, 234), (805306532, 98), (805306533,
   73), (805306534, 19), (805306535, 153), (805306536, 191), (805306537, 255), (805306538, 215), (805306539, 34), (805306540, 65), (805306541, 21),
   (805306542, 218), (805306543, 175), (805306544, 48), (805306545, 191), (805306546, 84), (805306547, 118), (805306548, 34), (805306549, 138),
   (805306550, 172), (805306551, 23), (805306552, 233), (805306553, 119), (805306554, 171), (805306555, 173), (805306556, 56), (805306557, 44),
   (805306558, 49), (805306559, 77), (839909472, 201), (839909473, 102), (839909474, 39), (839909475, 201), (839909476, 133), (839909477, 199),
   (839909478, 94), (839909479, 123), (839909480, 43), (839909481, 92), (839909482, 142), (839909483, 95), (839909484, 95), (839909485, 182), (839909486,
   235), (839909487, 218), (839909488, 227), (839909489, 68), (839909490, 81), (839909491, 247), (839909492, 184), (839909493, 132), (839909494, 223),
   (839909495, 247), (840040448, 22), (840040449, 104), (840040450, 227), (840040451, 207), (840040452, 51), (840040453, 223), (840040454, 218),
   (840040455, 248), (840040456, 1), (840040457, 2), (840040458, 209), (840040459, 111), (840040460, 203), (840040461, 39), (840040462, 148), (840040463,
   191), (840040464, 79), (840040465, 102), (840040466, 7), (840040467, 178)]
/-- Stored bytes of a witness state, under keys of zeros. -/
def ram49 : Table Byte :=
[(536871168, 39), (536871169, 24), (536871170, 149), (536871171, 104), (536871424, 202), (536871425, 11), (536871426, 154), (536871427, 61),
   (536871428, 94), (536871429, 18), (536871430, 243), (536871431, 15), (536871432, 92), (536871433, 58), (536871434, 60), (536871435, 146), (536871436,
   12), (536871437, 165), (536871438, 211), (536871439, 139), (536871440, 96), (536871441, 55), (536871442, 209), (536871443, 150), (536871444, 50),
   (536871445, 2), (536871446, 48), (536871447, 71), (805306528, 46), (805306529, 33), (805306530, 218), (805306531, 234), (805306532, 98), (805306533,
   73), (805306534, 19), (805306535, 153), (805306536, 191), (805306537, 255), (805306538, 215), (805306539, 34), (805306540, 65), (805306541, 21),
   (805306542, 218), (805306543, 175), (805306544, 48), (805306545, 191), (805306546, 84), (805306547, 118), (805306548, 34), (805306549, 138),
   (805306550, 172), (805306551, 23), (805306552, 233), (805306553, 119), (805306554, 171), (805306555, 173), (805306556, 56), (805306557, 44),
   (805306558, 49), (805306559, 77), (839909472, 201), (839909473, 102), (839909474, 39), (839909475, 201), (839909476, 133), (839909477, 199),
   (839909478, 94), (839909479, 123), (839909480, 43), (839909481, 92), (839909482, 142), (839909483, 95), (839909484, 95), (839909485, 182), (839909486,
   235), (839909487, 218), (839909488, 227), (839909489, 68), (839909490, 81), (839909491, 247), (839909492, 184), (839909493, 132), (839909494, 223),
   (839909495, 247), (840040448, 22), (840040449, 104), (840040450, 227), (840040451, 207), (840040452, 51), (840040453, 223), (840040454, 218),
   (840040455, 248), (840040456, 1), (840040457, 2), (840040458, 209), (840040459, 111), (840040460, 203), (840040461, 39), (840040462, 148), (840040463,
   191), (840040464, 79), (840040465, 102), (840040466, 7), (840040467, 178)]
/-- Stored bytes of a witness state, under keys of zeros. -/
def ram50 : Table Byte :=
[(536871168, 39), (536871169, 24), (536871170, 149), (536871171, 104), (536871424, 210), (536871425, 11), (536871426, 154), (536871427, 61),
   (536871428, 94), (536871429, 18), (536871430, 243), (536871431, 15), (536871432, 92), (536871433, 58), (536871434, 60), (536871435, 146), (536871436,
   12), (536871437, 165), (536871438, 211), (536871439, 139), (805306528, 44), (805306529, 33), (805306530, 218), (805306531, 234), (805306532, 98),
   (805306533, 73), (805306534, 19), (805306535, 153), (805306536, 186), (805306537, 249), (805306538, 215), (805306539, 2), (805306540, 65), (805306541,
   23), (805306542, 218), (805306543, 143), (805306544, 51), (805306545, 191), (805306546, 84), (805306547, 118), (805306548, 34), (805306549, 138),
   (805306550, 172), (805306551, 23), (805306552, 233), (805306553, 119), (805306554, 171), (805306555, 173), (805306556, 56), (805306557, 44),
   (805306558, 49), (805306559, 77), (839909472, 201), (839909473, 102), (839909474, 39), (839909475, 201), (839909476, 133), (839909477, 199),
   (839909478, 94), (839909479, 123), (839909480, 43), (839909481, 92), (839909482, 142), (839909483, 95), (839909484, 95), (839909485, 182), (839909486,
   235), (839909487, 218), (839909488, 227), (839909489, 68), (839909490, 81), (839909491, 247), (839909492, 184), (839909493, 132), (839909494, 223),
   (839909495, 247), (840040448, 22), (840040449, 104), (840040450, 227), (840040451, 207), (840040452, 51), (840040453, 223), (840040454, 218),
   (840040455, 248), (840040456, 1), (840040457, 2), (840040458, 209), (840040459, 111), (840040460, 203), (840040461, 39), (840040462, 148), (840040463,
   191), (840040464, 79), (840040465, 102), (840040466, 7), (840040467, 178)]
/-- Stored bytes of a witness state, under keys of zeros. -/
def ram51 : Table Byte :=
[(536871168, 39), (536871169, 24), (536871170, 149), (536871171, 104), (536871424, 210), (536871425, 11), (536871426, 154), (536871427, 61),
   (536871428, 94), (536871429, 18), (536871430, 243), (536871431, 15), (536871432, 92), (536871433, 58), (536871434, 60), (536871435, 146), (536871436,
   12), (536871437, 165), (536871438, 211), (536871439, 139), (805306528, 47), (805306529, 32), (805306530, 218), (805306531, 234), (805306532, 98),
   (805306533, 73), (805306534, 19), (805306535, 153), (805306536, 191), (805306537, 254), (805306538, 215), (805306539, 2), (805306540, 65), (805306541,
   21), (805306542, 218), (805306543, 175), (805306544, 115), (805306545, 191), (805306546, 84), (805306547, 240), (805306548, 34), (805306549, 138),
   (805306550, 172), (805306551, 23), (805306552, 233), (805306553, 119), (805306554, 171), (805306555, 173), (805306556, 56), (805306557, 44),
   (805306558, 49), (805306559, 77), (839909472, 201), (839909473, 102), (839909474, 39), (839909475, 201), (839909476, 133), (839909477, 199),
   (839909478, 94), (839909479, 123), (839909480, 43), (839909481, 92), (839909482, 142), (839909483, 95), (839909484, 95), (839909485, 182), (839909486,
   235), (839909487, 218), (839909488, 227), (839909489, 68), (839909490, 81), (839909491, 247), (839909492, 184), (839909493, 132), (839909494, 223),
   (839909495, 247), (840040448, 22), (840040449, 104), (840040450, 227), (840040451, 207), (840040452, 51), (840040453, 223), (840040454, 218),
   (840040455, 248), (840040456, 1), (840040457, 2), (840040458, 209), (840040459, 111), (840040460, 203), (840040461, 39), (840040462, 148), (840040463,
   191), (840040464, 79), (840040465, 102), (840040466, 7), (840040467, 178)]
/-- Stored bytes of a witness state, under keys of zeros. -/
def ram52 : Table Byte :=
[(536871168, 39), (536871169, 24), (536871170, 149), (536871171, 104), (536871424, 210), (536871425, 11), (536871426, 154), (536871427, 61),
   (536871428, 94), (536871429, 18), (536871430, 243), (536871431, 15), (536871432, 92), (536871433, 58), (536871434, 60), (536871435, 146), (536871436,
   12), (536871437, 165), (536871438, 211), (536871439, 139), (805306528, 45), (805306529, 32), (805306530, 218), (805306531, 234), (805306532, 98),
   (805306533, 73), (805306534, 19), (805306535, 153), (805306536, 186), (805306537, 249), (805306538, 215), (805306539, 2), (805306540, 65), (805306541,
   23), (805306542, 218), (805306543, 143), (805306544, 51), (805306545, 191), (805306546, 84), (805306547, 118), (805306548, 34), (805306549, 138),
   (805306550, 172), (805306551, 23), (805306552, 233), (805306553, 119), (805306554, 171), (805306555, 173), (805306556, 56), (805306557, 44),
   (805306558, 49), (805306559, 77), (839909472, 201), (839909473, 102), (839909474, 39), (839909475, 201), (839909476, 133), (839909477, 199),
   (839909478, 94), (839909479, 123), (839909480, 43), (839909481, 92), (839909482, 142), (839909483, 95), (839909484, 95), (839909485, 182), (839909486,
   235), (839909487, 218), (839909488, 227), (839909489, 68), (839909490, 81), (839909491, 247), (839909492, 184), (839909493, 132), (839909494, 223),
   (839909495, 247), (840040448, 22), (840040449, 104), (840040450, 227), (840040451, 207), (840040452, 51), (840040453, 223), (840040454, 218),
   (840040455, 248), (840040456, 1), (840040457, 2), (840040458, 209), (840040459, 111), (840040460, 203), (840040461, 39), (840040462, 148), (840040463,
   191), (840040464, 79), (840040465, 102), (840040466, 7), (840040467, 178)]
/-- Stored bytes of a witness state, under keys of zeros. -/
def ram53 : Table Byte :=
[(536871168, 39), (536871169, 24), (536871170, 149), (536871171, 104), (536871424, 194), (536871425, 10), (536871426, 154), (536871427, 61),
   (536871428, 89), (536871429, 18), (536871430, 243), (536871431, 15), (536871432, 92), (536871433, 58), (536871434, 60), (536871435, 146), (536871436,
   12), (536871437, 165), (536871438, 211), (536871439, 139), (536871440, 96), (536871441, 55), (536871442, 209), (536871443, 150), (536871444, 50),
   (536871445, 2), (536871446, 48), (536871447, 71), (805306528, 46), (805306529, 33), (805306530, 218), (805306531, 234), (805306532, 98), (805306533,
   73), (805306534, 19), (805306535, 153), (805306536, 191), (805306537, 255), (805306538, 215), (805306539, 34), (805306540, 65), (805306541, 21),
   (805306542, 218), (805306543, 175), (805306544, 48), (805306545, 191), (805306546, 84), (805306547, 118), (805306548, 34), (805306549, 138),
   (805306550, 172), (805306551, 23), (805306552, 233), (805306553, 119), (805306554, 171), (805306555, 173), (805306556, 56), (805306557, 44),
   (805306558, 49), (805306559, 77), (839909472, 201), (839909473, 102), (839909474, 39), (839909475, 201), (839909476, 133), (839909477, 199),
   (839909478, 94), (839909479, 123), (839909480, 43), (839909481, 92), (839909482, 142), (839909483, 95), (839909484, 95), (839909485, 182), (839909486,
   235), (839909487, 218), (839909488, 227), (839909489, 68), (839909490, 81), (839909491, 247), (839909492, 184), (839909493, 132), (839909494, 223),
   (839909495, 247), (840040448, 22), (840040449, 104), (840040450, 227), (840040451, 207), (840040452, 51), (840040453, 223), (840040454, 218),
   (840040455, 248), (840040456, 1), (840040457, 2), (840040458, 209), (840040459, 111), (840040460, 203), (840040461, 39), (840040462, 148), (840040463,
   191), (840040464, 79), (840040465, 102), (840040466, 7), (840040467, 178)]
/-- Stored bytes of a witness state, under keys of zeros. -/
def ram54 : Table Byte :=
[(536871168, 39), (536871169, 24), (536871170, 149), (536871171, 104), (536871424, 210), (536871425, 11), (536871426, 154), (536871427, 61),
   (536871428, 94), (536871429, 18), (536871430, 243), (536871431, 15), (536871432, 92), (536871433, 58), (536871434, 60), (536871435, 146), (536871436,
   12), (536871437, 165), (536871438, 211), (536871439, 139), (805306528, 47), (805306529, 32), (805306530, 218), (805306531, 234), (805306532, 98),
   (805306533, 73), (805306534, 19), (805306535, 153), (805306536, 191), (805306537, 254), (805306538, 215), (805306539, 2), (805306540, 65), (805306541,
   21), (805306542, 218), (805306543, 175), (805306544, 115), (805306545, 191), (805306546, 84), (805306547, 240), (805306548, 221), (805306549, 117),
   (805306550, 83), (805306551, 232), (805306552, 233), (805306553, 119), (805306554, 171), (805306555, 173), (805306556, 56), (805306557, 44),
   (805306558, 49), (805306559, 77), (839909472, 201), (839909473, 102), (839909474, 39), (839909475, 201), (839909476, 133), (839909477, 199),
   (839909478, 94), (839909479, 123), (839909480, 43), (839909481, 92), (839909482, 142), (839909483, 95), (839909484, 95), (839909485, 182), (839909486,
   235), (839909487, 218), (839909488, 227), (839909489, 68), (839909490, 81), (839909491, 247), (839909492, 184), (839909493, 132), (839909494, 223),
   (839909495, 247), (840040448, 22), (840040449, 104), (840040450, 227), (840040451, 207), (840040452, 51), (840040453, 223), (840040454, 218),
   (840040455, 248), (840040456, 1), (840040457, 2), (840040458, 209), (840040459, 111), (840040460, 203), (840040461, 39), (840040462, 148), (840040463,
   191), (840040464, 79), (840040465, 102), (840040466, 7), (840040467, 178)]
/-- Stored bytes of a witness state, under keys of zeros. -/
def ram55 : Table Byte :=
[(536871168, 39), (536871169, 24), (536871170, 149), (536871171, 104), (536871424, 210), (536871425, 11), (536871426, 154), (536871427, 61),
   (536871428, 94), (536871429, 18), (536871430, 243), (536871431, 15), (536871432, 92), (536871433, 58), (536871434, 60), (536871435, 146), (536871436,
   12), (536871437, 165), (536871438, 211), (536871439, 139), (805306528, 47), (805306529, 32), (805306530, 218), (805306531, 234), (805306532, 98),
   (805306533, 73), (805306534, 19), (805306535, 153), (805306536, 191), (805306537, 254), (805306538, 215), (805306539, 2), (805306540, 65), (805306541,
   21), (805306542, 218), (805306543, 175), (805306544, 115), (805306545, 191), (805306546, 84), (805306547, 240), (805306548, 34), (805306549, 138),
   (805306550, 172), (805306551, 23), (805306552, 233), (805306553, 119), (805306554, 171), (805306555, 173), (805306556, 56), (805306557, 44),
   (805306558, 49), (805306559, 77), (838864896, 107), (838864897, 206), (838864898, 215), (838864899, 119), (839909472, 201), (839909473, 102),
   (839909474, 39), (839909475, 201), (839909476, 133), (839909477, 199), (839909478, 94), (839909479, 123), (839909480, 43), (839909481, 92),
   (839909482, 142), (839909483, 95), (839909484, 95), (839909485, 182), (839909486, 235), (839909487, 218), (839909488, 227), (839909489, 68),
   (839909490, 81), (839909491, 247), (839909492, 184), (839909493, 132), (839909494, 223), (839909495, 247), (840040448, 22), (840040449, 104),
   (840040450, 227), (840040451, 207), (840040452, 51), (840040453, 223), (840040454, 218), (840040455, 248), (840040456, 1), (840040457, 2), (840040458,
   209), (840040459, 111), (840040460, 203), (840040461, 39), (840040462, 148), (840040463, 191), (840040464, 79), (840040465, 102), (840040466, 7),
   (840040467, 178)]
/-- Stored bytes of a witness state, under keys of zeros. -/
def ram56 : Table Byte :=
[(536871168, 39), (536871169, 24), (536871170, 149), (536871171, 104), (536871424, 210), (536871425, 11), (536871426, 154), (536871427, 61),
   (536871428, 94), (536871429, 18), (536871430, 243), (536871431, 15), (536871432, 92), (536871433, 58), (536871434, 60), (536871435, 146), (536871436,
   12), (536871437, 165), (536871438, 211), (536871439, 139), (805306528, 47), (805306529, 32), (805306530, 218), (805306531, 234), (805306532, 98),
   (805306533, 73), (805306534, 19), (805306535, 153), (805306536, 191), (805306537, 254), (805306538, 215), (805306539, 2), (805306540, 65), (805306541,
   21), (805306542, 218), (805306543, 175), (805306544, 115), (805306545, 191), (805306546, 84), (805306547, 240), (805306548, 34), (805306549, 138),
   (805306550, 172), (805306551, 23), (805306552, 233), (805306553, 119), (805306554, 171), (805306555, 173), (805306556, 56), (805306557, 44),
   (805306558, 49), (805306559, 77), (838864896, 106), (838864897, 198), (838864898, 222), (838864899, 119), (838864900, 99), (838864901, 25),
   (838864902, 242), (838864903, 105), (838864904, 130), (838864905, 53), (838864906, 173), (838864907, 28), (838864908, 107), (838864909, 101),
   (838864910, 172), (838864911, 91), (839909472, 201), (839909473, 102), (839909474, 39), (839909475, 201), (839909476, 133), (839909477, 199),
   (839909478, 94), (839909479, 123), (839909480, 43), (839909481, 92), (839909482, 142), (839909483, 95), (839909484, 95), (839909485, 182), (839909486,
   235), (839909487, 218), (839909488, 227), (839909489, 68), (839909490, 81), (839909491, 247), (839909492, 184), (839909493, 132), (839909494, 223),
   (839909495, 247), (840040448, 22), (840040449, 104), (840040450, 227), (840040451, 207), (840040452, 51), (840040453, 223), (840040454, 218),
   (840040455, 248), (840040456, 1), (840040457, 2), (840040458, 209), (840040459, 111), (840040460, 203), (840040461, 39), (840040462, 148), (840040463,
   191), (840040464, 79), (840040465, 102), (840040466, 7), (840040467, 178)]
/-- Stored bytes of a witness state, under keys of zeros. -/
def ram57 : Table Byte :=
[(536871168, 39), (536871169, 24), (536871170, 149), (536871171, 104), (536871424, 210), (536871425, 11), (536871426, 154), (536871427, 61),
   (536871428, 94), (536871429, 18), (536871430, 243), (536871431, 15), (536871432, 92), (536871433, 58), (536871434, 60), (536871435, 146), (536871436,
   12), (536871437, 165), (536871438, 211), (536871439, 139), (805306528, 47), (805306529, 32), (805306530, 218), (805306531, 234), (805306532, 98),
   (805306533, 73), (805306534, 19), (805306535, 153), (805306536, 191), (805306537, 254), (805306538, 215), (805306539, 2), (805306540, 65), (805306541,
   21), (805306542, 218), (805306543, 175), (805306544, 115), (805306545, 191), (805306546, 84), (805306547, 240), (805306548, 34), (805306549, 138),
   (805306550, 172), (805306551, 23), (805306552, 233), (805306553, 119), (805306554, 171), (805306555, 173), (805306556, 56), (805306557, 44),
   (805306558, 49), (805306559, 77), (838864896, 107), (838864897, 206), (838864898, 215), (838864899, 119), (839909472, 201), (839909473, 102),
   (839909474, 50), (839909475, 201), (839909476, 133), (839909477, 199), (839909478, 94), (839909479, 123), (839909480, 43), (839909481, 92),
   (839909482, 142), (839909483, 95), (839909484, 95), (839909485, 182), (839909486, 235), (839909487, 218), (839909488, 227), (839909489, 68),
   (839909490, 81), (839909491, 247), (839909492, 184), (839909493, 132), (839909494, 223), (839909495, 247), (840040448, 22), (840040449, 104),
   (840040450, 227), (840040451, 207), (840040452, 51), (840040453, 223), (840040454, 218), (840040455, 248), (840040456, 1), (840040457, 2), (840040458,
   209), (840040459, 111), (840040460, 203), (840040461, 39), (840040462, 148), (840040463, 191), (840040464, 79), (840040465, 102), (840040466, 7),
   (840040467, 178)]
/-- Stored bytes of a witness state, under keys of zeros. -/
def ram58 : Table Byte :=
[(536871168, 39), (536871169, 24), (536871170, 149), (536871171, 104), (536871424, 210), (536871425, 11), (536871426, 154), (536871427, 61),
   (536871428, 94), (536871429, 18), (536871430, 243), (536871431, 15), (536871432, 92), (536871433, 58), (536871434, 60), (536871435, 146), (536871436,
   12), (536871437, 165), (536871438, 211), (536871439, 139), (805306528, 47), (805306529, 32), (805306530, 218), (805306531, 234), (805306532, 98),
   (805306533, 73), (805306534, 19), (805306535, 153), (805306536, 191), (805306537, 254), (805306538, 215), (805306539, 2), (805306540, 65), (805306541,
   21), (805306542, 218), (805306543, 175), (805306544, 115), (805306545, 191), (805306546, 84), (805306547, 240), (805306548, 34), (805306549, 138),
   (805306550, 172), (805306551, 23), (805306552, 233), (805306553, 119), (805306554, 171), (805306555, 173), (805306556, 56), (805306557, 44),
   (805306558, 49), (805306559, 77), (838864896, 104), (838864897, 198), (838864898, 222), (838864899, 119), (838864900, 60), (838864901, 81),
   (838864902, 101), (838864903, 197), (838864904, 10), (838864905, 129), (838864906, 193), (838864907, 234), (838864908, 216), (838864909, 92),
   (838864910, 168), (838864911, 91), (839909472, 201), (839909473, 102), (839909474, 39), (839909475, 201), (839909476, 133), (839909477, 199),
   (839909478, 94), (839909479, 123), (839909480, 43), (839909481, 92), (839909482, 142), (839909483, 95), (839909484, 95), (839909485, 182), (839909486,
   235), (839909487, 218), (839909488, 227), (839909489, 68), (839909490, 81), (839909491, 247), (839909492, 184), (839909493, 132), (839909494, 223),
   (839909495, 247), (840040448, 22), (840040449, 104), (840040450, 227), (840040451, 207), (840040452, 51), (840040453, 223), (840040454, 218),
   (840040455, 248), (840040456, 1), (840040457, 2), (840040458, 209), (840040459, 111), (840040460, 203), (840040461, 39), (840040462, 148), (840040463,
   191), (840040464, 79), (840040465, 102), (840040466, 7), (840040467, 178)]
/-- Stored bytes of a witness state, under keys of zeros. -/
def ram59 : Table Byte :=
[(536871168, 39), (536871169, 24), (536871170, 149), (536871171, 104), (536871424, 210), (536871425, 11), (536871426, 154), (536871427, 61),
   (536871428, 94), (536871429, 18), (536871430, 243), (536871431, 15), (536871432, 92), (536871433, 58), (536871434, 60), (536871435, 146), (536871436,
   12), (536871437, 165), (536871438, 211), (536871439, 139), (805306528, 47), (805306529, 32), (805306530, 218), (805306531, 234), (805306532, 98),
   (805306533, 73), (805306534, 19), (805306535, 153), (805306536, 191), (805306537, 254), (805306538, 215), (805306539, 2), (805306540, 65), (805306541,
   21), (805306542, 218), (805306543, 175), (805306544, 115), (805306545, 191), (805306546, 84), (805306547, 240), (805306548, 34), (805306549, 138),
   (805306550, 172), (805306551, 23), (805306552, 233), (805306553, 119), (805306554, 171), (805306555, 173), (805306556, 56), (805306557, 44),
   (805306558, 49), (805306559, 77), (838864896, 105), (838864897, 198), (838864898, 222), (838864899, 119), (838864900, 79), (838864901, 94),
   (838864902, 131), (838864903, 162), (838864904, 182), (838864905, 145), (838864906, 16), (838864907, 139), (838864908, 108), (838864909, 40),
   (838864910, 29), (838864911, 91), (839909472, 201), (839909473, 102), (839909474, 39), (839909475, 201), (839909476, 133), (839909477, 199),
   (839909478, 94), (839909479, 123), (839909480, 43), (839909481, 92), (839909482, 142), (839909483, 95), (839909484, 95), (839909485, 182), (839909486,
   235), (839909487, 218), (839909488, 227), (839909489, 68), (839909490, 81), (839909491, 247), (839909492, 184), (839909493, 132), (839909494, 223),
   (839909495, 247), (840040448, 22), (840040449, 104), (840040450, 227), (840040451, 207), (840040452, 51), (840040453, 223), (840040454, 218),
   (840040455, 248), (840040456, 1), (840040457, 2), (840040458, 209), (840040459, 111), (840040460, 203), (840040461, 39), (840040462, 148), (840040463,
   191), (840040464, 79), (840040465, 102), (840040466, 7), (840040467, 178)]
/-- Stored bytes of a witness state, under keys of zeros. -/
def ram60 : Table Byte :=
[(536871168, 39), (536871169, 24), (536871170, 149), (536871171, 104), (536871424, 210), (536871425, 11), (536871426, 154), (536871427, 61),
   (536871428, 94), (536871429, 18), (536871430, 243), (536871431, 15), (536871432, 92), (536871433, 58), (536871434, 60), (536871435, 146), (536871436,
   12), (536871437, 165), (536871438, 211), (536871439, 139), (805306528, 45), (805306529, 32), (805306530, 218), (805306531, 234), (805306532, 98),
   (805306533, 73), (805306534, 19), (805306535, 153), (805306536, 190), (805306537, 249), (805306538, 214), (805306539, 2), (805306540, 65), (805306541,
   23), (805306542, 218), (805306543, 143), (805306544, 51), (805306545, 191), (805306546, 84), (805306547, 118), (805306548, 34), (805306549, 138),
   (805306550, 172), (805306551, 23), (805306552, 233), (805306553, 119), (805306554, 171), (805306555, 173), (805306556, 56), (805306557, 44),
   (805306558, 49), (805306559, 77), (839909472, 201), (839909473, 102), (839909474, 39), (839909475, 201), (839909476, 133), (839909477, 199),
   (839909478, 94), (839909479, 123), (839909480, 43), (839909481, 92), (839909482, 142), (839909483, 95), (839909484, 95), (839909485, 182), (839909486,
   235), (839909487, 218), (839909488, 227), (839909489, 68), (839909490, 81), (839909491, 247), (839909492, 184), (839909493, 132), (839909494, 223),
   (839909495, 247), (840040448, 22), (840040449, 104), (840040450, 227), (840040451, 207), (840040452, 51), (840040453, 223), (840040454, 218),
   (840040455, 248), (840040456, 1), (840040457, 2), (840040458, 209), (840040459, 111), (840040460, 203), (840040461, 39), (840040462, 148), (840040463,
   191), (840040464, 79), (840040465, 102), (840040466, 7), (840040467, 178)]
/-- Stored bytes of a witness state, under keys of zeros. -/
def ram61 : Table Byte :=
[(536871168, 39), (536871169, 24), (536871170, 149), (536871171, 104), (536871424, 210), (536871425, 11), (536871426, 154), (536871427, 61),
   (536871428, 94), (536871429, 18), (536871430, 243), (536871431, 15), (536871432, 92), (536871433, 58), (536871434, 60), (536871435, 146), (536871436,
   12), (536871437, 165), (536871438, 211), (536871439, 139), (805306528, 45), (805306529, 32), (805306530, 218), (805306531, 234), (805306532, 98),
   (805306533, 73), (805306534, 19), (805306535, 153), (805306536, 186), (805306537, 249), (805306538, 214), (805306539, 2), (805306540, 65), (805306541,
   23), (805306542, 218), (805306543, 143), (805306544, 51), (805306545, 191), (805306546, 84), (805306547, 118), (805306548, 34), (805306549, 138),
   (805306550, 172), (805306551, 23), (805306552, 233), (805306553, 119), (805306554, 171), (805306555, 173), (805306556, 56), (805306557, 44),
   (805306558, 49), (805306559, 77), (839909472, 201), (839909473, 102), (839909474, 39), (839909475, 201), (839909476, 133), (839909477, 199),
   (839909478, 94), (839909479, 123), (839909480, 43), (839909481, 92), (839909482, 142), (839909483, 95), (839909484, 95), (839909485, 182), (839909486,
   235), (839909487, 218), (839909488, 227), (839909489, 68), (839909490, 81), (839909491, 247), (839909492, 184), (839909493, 132), (839909494, 223),
   (839909495, 247), (840040448, 22), (840040449, 104), (840040450, 227), (840040451, 207), (840040452, 51), (840040453, 223), (840040454, 218),
   (840040455, 248), (840040456, 1), (840040457, 2), (840040458, 209), (840040459, 111), (840040460, 203), (840040461, 39), (840040462, 148), (840040463,
   191), (840040464, 79), (840040465, 102), (840040466, 7), (840040467, 178), (840040672, 17), (840040673, 61), (840040674, 86), (840040675, 79),
   (840040676, 191), (840040677, 213), (840040678, 175), (840040679, 254), (840040680, 245), (840040681, 237), (840040682, 122), (840040683, 192),
   (840040684, 125), (840040685, 99), (840040686, 65), (840040687, 249), (840040688, 7), (840040689, 117), (840040690, 177), (840040691, 162)]
/-- Stored bytes of a witness state, under keys of zeros. -/
def ram62 : Table Byte :=
[(536871168, 39), (536871169, 24), (536871170, 149), (536871171, 104), (536871424, 210), (536871425, 11), (536871426, 154), (536871427, 61),
   (536871428, 94), (536871429, 18), (536871430, 243), (536871431, 15), (536871432, 92), (536871433, 58), (536871434, 60), (536871435, 146), (536871436,
   12), (536871437, 165), (536871438, 211), (536871439, 139), (805306528, 45), (805306529, 32), (805306530, 218), (805306531, 234), (805306532, 98),
   (805306533, 73), (805306534, 19), (805306535, 153), (805306536, 190), (805306537, 249), (805306538, 214), (805306539, 2), (805306540, 65), (805306541,
   23), (805306542, 218), (805306543, 143), (805306544, 51), (805306545, 191), (805306546, 84), (805306547, 118), (805306548, 34), (805306549, 138),
   (805306550, 172), (805306551, 23), (805306552, 233), (805306553, 119), (805306554, 171), (805306555, 173), (805306556, 56), (805306557, 44),
   (805306558, 49), (805306559, 77), (839909472, 201), (839909473, 102), (839909474, 39), (839909475, 201), (839909476, 133), (839909477, 199),
   (839909478, 94), (839909479, 123), (839909480, 43), (839909481, 92), (839909482, 142), (839909483, 95), (839909484, 95), (839909485, 182), (839909486,
   235), (839909487, 218), (839909488, 227), (839909489, 68), (839909490, 81), (839909491, 247), (839909492, 184), (839909493, 132), (839909494, 223),
   (839909495, 247), (840040448, 22), (840040449, 104), (840040450, 227), (840040451, 207), (840040452, 51), (840040453, 223), (840040454, 218),
   (840040455, 248), (840040456, 1), (840040457, 2), (840040458, 209), (840040459, 111), (840040460, 203), (840040461, 39), (840040462, 148), (840040463,
   191), (840040464, 79), (840040465, 102), (840040466, 7), (840040467, 178), (840040672, 17), (840040673, 61), (840040674, 86), (840040675, 79),
   (840040676, 191), (840040677, 213), (840040678, 175), (840040679, 254), (840040680, 245), (840040681, 237), (840040682, 122), (840040683, 192),
   (840040684, 125), (840040685, 99), (840040686, 65), (840040687, 249), (840040688, 7), (840040689, 117), (840040690, 177), (840040691, 162)]
/-- Stored bytes of a witness state, under keys of zeros. -/
def ram63 : Table Byte :=
[(536871168, 39), (536871169, 24), (536871170, 149), (536871171, 104), (536871424, 210), (536871425, 11), (536871426, 154), (536871427, 61),
   (536871428, 94), (536871429, 18), (536871430, 243), (536871431, 15), (536871432, 92), (536871433, 58), (536871434, 60), (536871435, 146), (536871436,
   12), (536871437, 165), (536871438, 211), (536871439, 139), (805306528, 47), (805306529, 32), (805306530, 218), (805306531, 234), (805306532, 98),
   (805306533, 73), (805306534, 19), (805306535, 153), (805306536, 191), (805306537, 254), (805306538, 215), (805306539, 2), (805306540, 65), (805306541,
   21), (805306542, 218), (805306543, 175), (805306544, 115), (805306545, 191), (805306546, 84), (805306547, 240), (805306548, 34), (805306549, 138),
   (805306550, 172), (805306551, 23), (805306552, 233), (805306553, 119), (805306554, 171), (805306555, 173), (805306556, 56), (805306557, 44),
   (805306558, 49), (805306559, 77), (805306560, 57), (805306561, 38), (805306562, 211), (805306563, 207), (805306564, 130), (805306565, 68), (805306566,
   65), (805306567, 14), (805306568, 231), (805306570, 220), (805306571, 38), (805306572, 152), (805306573, 229), (805306574, 103), (805306575, 97),
   (805306576, 69), (805306577, 79), (805306578, 90), (805306579, 220), (805306580, 68), (805306581, 12), (805306582, 160), (805306583, 210), (805306584,
   143), (805306585, 119), (805306586, 220), (805306587, 208), (805306588, 6), (805306589, 230), (805306590, 251), (805306591, 116), (838864896, 107),
   (838864897, 199), (838864898, 222), (838864899, 118), (838864900, 186), (838864901, 44), (838864902, 104), (838864903, 104), (838864904, 19),
   (838864905, 81), (838864906, 33), (838864907, 102), (838864908, 208), (838864909, 224), (838864910, 191), (838864911, 86), (838864912, 206),
   (838864913, 25), (838864914, 64), (838864915, 132), (839909472, 201), (839909473, 102), (839909474, 39), (839909475, 201), (839909476, 133),
   (839909477, 199), (839909478, 94), (839909479, 123), (839909480, 43), (839909481, 92), (839909482, 142), (839909483, 95), (839909484, 95), (839909485,
   182), (839909486, 235), (839909487, 218), (839909488, 227), (839909489, 68), (839909490, 81), (839909491, 247), (839909492, 184), (839909493, 132),
   (839909494, 223), (839909495, 247), (840040448, 22), (840040449, 104), (840040450, 227), (840040451, 207), (840040452, 51), (840040453, 223),
   (840040454, 218), (840040455, 248), (840040456, 1), (840040457, 2), (840040458, 209), (840040459, 111), (840040460, 203), (840040461, 39), (840040462,
   148), (840040463, 191), (840040464, 79), (840040465, 102), (840040466, 7), (840040467, 178)]
/-- Stored bytes of a witness state, under keys of zeros. -/
def ram64 : Table Byte :=
[(855638016, 57), (855638017, 229), (855638018, 114), (855638019, 37), (855638020, 140), (855638021, 7), (855638022, 105), (855638023, 133),
   (855638024, 72), (855638025, 21), (855638026, 183), (855638027, 150), (855638028, 118), (855638029, 69), (855638030, 133), (855638031, 180),
   (855638032, 115), (855638033, 169), (855638034, 220), (855638035, 70), (855638036, 81), (855638037, 100), (855638038, 170), (855638039, 22),
   (855638040, 30), (855638041, 21), (855638042, 158), (855638043, 13), (855638044, 245), (855638045, 42), (855638046, 155), (855638047, 148),
   (855638048, 63), (855638049, 229), (855638050, 97), (855638051, 218), (855638052, 34), (855638053, 63), (855638054, 8), (855638055, 185), (855638056,
   240), (855638057, 113), (855638058, 16), (855638059, 76), (855638060, 83), (855638061, 40), (855638062, 246), (855638063, 53), (855638064, 137),
   (855638065, 187), (855638066, 24), (855638067, 102), (855638068, 107), (855638069, 76), (855638070, 21), (855638071, 13), (855638072, 175),
   (855638073, 22), (855638074, 149), (855638075, 152), (855638076, 140), (855638077, 243), (855638078, 196), (855638079, 229), (855638080, 106),
   (855638081, 61), (855638082, 69), (855638083, 65), (855638084, 117), (855638085, 128), (855638086, 130), (855638087, 74), (855638088, 102),
   (855638089, 91), (855638090, 246), (855638091, 114), (855638092, 171), (855638093, 35), (855638094, 100), (855638095, 182), (855638096, 210),
   (855638097, 8), (855638098, 98), (855638099, 17), (855638100, 251), (855638101, 170), (855638102, 25), (855638103, 254), (855638104, 137), (855638105,
   11), (855638106, 250), (855638107, 168), (855638108, 195), (855638109, 141), (855638110, 175), (855638111, 238), (855638112, 242), (855638113, 7),
   (855638114, 171), (855638115, 105), (855638116, 76), (855638117, 235), (855638118, 44), (855638119, 62), (855638120, 58), (855638121, 107),
   (855638122, 42), (855638123, 185), (855638124, 178), (855638125, 14), (855638126, 145), (855638127, 8), (855638128, 15), (855638129, 209), (855638130,
   80), (855638131, 117), (855638132, 53), (855638133, 77), (855638134, 213), (855638135, 122), (855638136, 14), (855638137, 42), (855638138, 174),
   (855638139, 177), (855638140, 64), (855638141, 44), (855638142, 241), (855638143, 63), (855638144, 242), (855638145, 239), (855638146, 31),
   (855638147, 158), (855638148, 215), (855638149, 164), (855638150, 92), (855638151, 170), (855638152, 104), (855638153, 171), (855638154, 229),
   (855638155, 68), (855638156, 127), (855638157, 141), (855638158, 33), (855638159, 46), (855638160, 33), (855638161, 52), (855638162, 99), (855638163,
   186), (855638164, 86), (855638165, 92), (855638166, 224), (855638167, 236), (855638168, 64), (855638169, 209), (855638170, 202), (855638171, 159),
   (855638172, 187), (855638173, 66), (855638174, 183), (855638175, 74), (855638176, 216), (855638177, 19), (855638178, 218), (855638179, 49),
   (855638180, 140), (855638181, 173), (855638182, 1), (855638183, 155), (855638184, 20), (855638185, 100), (855638186, 149), (855638187, 214),
   (855638188, 119), (855638189, 171), (855638190, 153), (855638191, 185), (855638192, 61), (855638193, 193), (855638194, 33), (855638195, 41),
   (855638196, 183), (855638197, 112), (855638198, 198), (855638199, 116), (855638200, 161), (855638201, 131), (855638202, 40), (855638203, 106),
   (855638204, 188), (855638205, 102), (855638206, 99), (855638207, 238), (855638208, 109), (855638209, 42), (855638210, 94), (855638211, 157),
   (855638212, 199), (855638213, 9), (855638214, 161), (855638215, 167), (855638216, 249), (855638217, 125), (855638218, 231), (855638219, 15),
   (855638220, 31), (855638221, 107), (855638222, 105), (855638223, 76), (855638224, 187), (855638225, 28), (855638226, 82), (855638227, 178),
   (855638228, 170), (855638229, 193), (855638230, 32), (855638231, 153), (855638232, 93), (855638233, 206), (855638234, 44), (855638235, 90),
   (855638236, 148), (855638237, 145), (855638238, 177), (855638239, 122), (855638240, 184), (855638241, 161), (855638242, 255), (855638243, 88),
   (855638244, 252), (855638245, 102), (855638246, 1), (855638247, 211), (855638248, 126), (855638249, 23), (855638250, 119), (855638251, 17),
   (855638252, 204), (855638253, 25), (855638254, 147), (855638255, 49), (855638256, 176), (855638257, 201), (855638258, 199), (855638259, 181),
   (855638260, 102), (855638261, 25), (855638262, 82), (855638263, 157), (855638264, 164), (855638265, 90), (855638266, 67), (855638267, 208),
   (855638268, 253), (855638269, 192), (855638270, 18), (855638271, 100)]
/-- Stored bytes of a witness state, under keys of zeros. -/
def ram65 : Table Byte :=
[(855638016, 57), (855638017, 229), (855638018, 114), (855638019, 37), (855638020, 140), (855638021, 7), (855638022, 105), (855638023, 133),
   (855638024, 72), (855638025, 21), (855638026, 183), (855638027, 150), (855638028, 118), (855638029, 69), (855638030, 133), (855638031, 180),
   (855638032, 115), (855638033, 169), (855638034, 220), (855638035, 70), (855638036, 81), (855638037, 100), (855638038, 170), (855638039, 22),
   (855638040, 30), (855638041, 21), (855638042, 158), (855638043, 13), (855638044, 245), (855638045, 42), (855638046, 155), (855638047, 148),
   (855638048, 63), (855638049, 229), (855638050, 97), (855638051, 218), (855638052, 34), (855638053, 63), (855638054, 8), (855638055, 185), (855638056,
   240), (855638057, 113), (855638058, 16), (855638059, 76), (855638060, 83), (855638061, 40), (855638062, 246), (855638063, 53), (855638064, 137),
   (855638065, 187), (855638066, 24), (855638067, 102), (855638068, 107), (855638069, 76), (855638070, 21), (855638071, 13), (855638072, 175),
   (855638073, 22), (855638074, 149), (855638075, 152), (855638076, 140), (855638077, 243), (855638078, 196), (855638079, 229), (855638080, 106),
   (855638081, 61), (855638082, 90), (855638083, 65), (855638084, 117), (855638085, 128), (855638086, 130), (855638087, 74), (855638088, 102),
   (855638089, 91), (855638090, 246), (855638091, 114), (855638092, 171), (855638093, 35), (855638094, 100), (855638095, 182), (855638096, 210),
   (855638097, 8), (855638098, 98), (855638099, 17), (855638100, 251), (855638101, 170), (855638102, 25), (855638103, 254), (855638104, 137), (855638105,
   11), (855638106, 250), (855638107, 168), (855638108, 195), (855638109, 141), (855638110, 175), (855638111, 238), (855638112, 242), (855638113, 7),
   (855638114, 171), (855638115, 105), (855638116, 76), (855638117, 235), (855638118, 44), (855638119, 62), (855638120, 58), (855638121, 107),
   (855638122, 42), (855638123, 185), (855638124, 178), (855638125, 14), (855638126, 145), (855638127, 8), (855638128, 15), (855638129, 209), (855638130,
   80), (855638131, 117), (855638132, 53), (855638133, 77), (855638134, 213), (855638135, 122), (855638136, 14), (855638137, 42), (855638138, 174),
   (855638139, 177), (855638140, 64), (855638141, 44), (855638142, 241), (855638143, 63), (855638144, 242), (855638145, 239), (855638146, 31),
   (855638147, 158), (855638148, 215), (855638149, 164), (855638150, 92), (855638151, 170), (855638152, 104), (855638153, 171), (855638154, 229),
   (855638155, 68), (855638156, 127), (855638157, 141), (855638158, 33), (855638159, 46), (855638160, 33), (855638161, 52), (855638162, 99), (855638163,
   186), (855638164, 86), (855638165, 92), (855638166, 224), (855638167, 236), (855638168, 64), (855638169, 209), (855638170, 202), (855638171, 159),
   (855638172, 187), (855638173, 66), (855638174, 183), (855638175, 74), (855638176, 216), (855638177, 19), (855638178, 218), (855638179, 49),
   (855638180, 140), (855638181, 173), (855638182, 1), (855638183, 155), (855638184, 20), (855638185, 100), (855638186, 149), (855638187, 214),
   (855638188, 119), (855638189, 171), (855638190, 153), (855638191, 185), (855638192, 61), (855638193, 193), (855638194, 33), (855638195, 41),
   (855638196, 183), (855638197, 112), (855638198, 198), (855638199, 116), (855638200, 161), (855638201, 131), (855638202, 40), (855638203, 106),
   (855638204, 188), (855638205, 102), (855638206, 99), (855638207, 238), (855638208, 109), (855638209, 42), (855638210, 94), (855638211, 157),
   (855638212, 199), (855638213, 9), (855638214, 161), (855638215, 167), (855638216, 249), (855638217, 125), (855638218, 231), (855638219, 15),
   (855638220, 31), (855638221, 107), (855638222, 105), (855638223, 76), (855638224, 187), (855638225, 28), (855638226, 82), (855638227, 178),
   (855638228, 170), (855638229, 193), (855638230, 32), (855638231, 153), (855638232, 93), (855638233, 206), (855638234, 44), (855638235, 90),
   (855638236, 148), (855638237, 145), (855638238, 177), (855638239, 122), (855638240, 184), (855638241, 161), (855638242, 255), (855638243, 88),
   (855638244, 252), (855638245, 102), (855638246, 1), (855638247, 211), (855638248, 126), (855638249, 23), (855638250, 119), (855638251, 17),
   (855638252, 204), (855638253, 25), (855638254, 147), (855638255, 49), (855638256, 176), (855638257, 201), (855638258, 199), (855638259, 181),
   (855638260, 102), (855638261, 25), (855638262, 82), (855638263, 157), (855638264, 164), (855638265, 90), (855638266, 67), (855638267, 208),
   (855638268, 253), (855638269, 192), (855638270, 18), (855638271, 100)]
/-- Stored bytes of a witness state, under keys of zeros. -/
def ram66 : Table Byte :=
[(855638016, 57), (855638017, 229), (855638018, 114), (855638019, 37), (855638020, 140), (855638021, 7), (855638022, 105), (855638023, 133),
   (855638024, 72), (855638025, 21), (855638026, 183), (855638027, 150), (855638028, 118), (855638029, 69), (855638030, 133), (855638031, 180),
   (855638032, 115), (855638033, 169), (855638034, 220), (855638035, 70), (855638036, 81), (855638037, 100), (855638038, 170), (855638039, 22),
   (855638040, 30), (855638041, 21), (855638042, 158), (855638043, 13), (855638044, 245), (855638045, 42), (855638046, 155), (855638047, 148),
   (855638048, 63), (855638049, 229), (855638050, 97), (855638051, 218), (855638052, 34), (855638053, 63), (855638054, 8), (855638055, 185), (855638056,
   240), (855638057, 113), (855638058, 16), (855638059, 76), (855638060, 83), (855638061, 40), (855638062, 246), (855638063, 53), (855638064, 137),
   (855638065, 187), (855638066, 24), (855638067, 102), (855638068, 107), (855638069, 76), (855638070, 21), (855638071, 13), (855638072, 175),
   (855638073, 22), (855638074, 149), (855638075, 152), (855638076, 140), (855638077, 243), (855638078, 196), (855638079, 229), (855638080, 110),
   (855638081, 61), (855638082, 85), (855638083, 65), (855638084, 117), (855638085, 128), (855638086, 130), (855638087, 74), (855638088, 102),
   (855638089, 91), (855638090, 246), (855638091, 114), (855638092, 171), (855638093, 35), (855638094, 100), (855638095, 182), (855638096, 210),
   (855638097, 8), (855638098, 98), (855638099, 17), (855638100, 251), (855638101, 170), (855638102, 25), (855638103, 254), (855638104, 137), (855638105,
   11), (855638106, 250), (855638107, 168), (855638108, 195), (855638109, 141), (855638110, 175), (855638111, 238), (855638112, 242), (855638113, 7),
   (855638114, 171), (855638115, 105), (855638116, 76), (855638117, 235), (855638118, 44), (855638119, 62), (855638120, 58), (855638121, 107),
   (855638122, 42), (855638123, 185), (855638124, 178), (855638125, 14), (855638126, 145), (855638127, 8), (855638128, 15), (855638129, 209), (855638130,
   80), (855638131, 117), (855638132, 53), (855638133, 77), (855638134, 213), (855638135, 122), (855638136, 14), (855638137, 42), (855638138, 174),
   (855638139, 177), (855638140, 64), (855638141, 44), (855638142, 241), (855638143, 63), (855638144, 242), (855638145, 239), (855638146, 31),
   (855638147, 158), (855638148, 215), (855638149, 164), (855638150, 92), (855638151, 170), (855638152, 104), (855638153, 171), (855638154, 229),
   (855638155, 68), (855638156, 127), (855638157, 141), (855638158, 33), (855638159, 46), (855638160, 33), (855638161, 52), (855638162, 99), (855638163,
   186), (855638164, 86), (855638165, 92), (855638166, 224), (855638167, 236), (855638168, 64), (855638169, 209), (855638170, 202), (855638171, 159),
   (855638172, 187), (855638173, 66), (855638174, 183), (855638175, 74), (855638176, 216), (855638177, 19), (855638178, 218), (855638179, 49),
   (855638180, 140), (855638181, 173), (855638182, 1), (855638183, 155), (855638184, 20), (855638185, 100), (855638186, 149), (855638187, 214),
   (855638188, 119), (855638189, 171), (855638190, 153), (855638191, 185), (855638192, 61), (855638193, 193), (855638194, 33), (855638195, 41),
   (855638196, 183), (855638197, 112), (855638198, 198), (855638199, 116), (855638200, 161), (855638201, 131), (855638202, 40), (855638203, 106),
   (855638204, 188), (855638205, 102), (855638206, 99), (855638207, 238), (855638208, 110), (855638209, 42), (855638210, 94), (855638211, 157),
   (855638212, 199), (855638213, 9), (855638214, 161), (855638215, 167), (855638216, 249), (855638217, 125), (855638218, 231), (855638219, 15),
   (855638220, 31), (855638221, 107), (855638222, 105), (855638223, 76), (855638224, 187), (855638225, 28), (855638226, 82), (855638227, 178),
   (855638228, 170), (855638229, 193), (855638230, 32), (855638231, 153), (855638232, 93), (855638233, 206), (855638234, 44), (855638235, 90),
   (855638236, 148), (855638237, 145), (855638238, 177), (855638239, 122), (855638240, 184), (855638241, 161), (855638242, 255), (855638243, 88),
   (855638244, 252), (855638245, 102), (855638246, 1), (855638247, 211), (855638248, 126), (855638249, 23), (855638250, 119), (855638251, 17),
   (855638252, 204), (855638253, 25), (855638254, 147), (855638255, 49), (855638256, 176), (855638257, 201), (855638258, 199), (855638259, 181),
   (855638260, 102), (855638261, 25), (855638262, 82), (855638263, 157), (855638264, 164), (855638265, 90), (855638266, 67), (855638267, 208),
   (855638268, 253), (855638269, 192), (855638270, 18), (855638271, 100)]

/-- The hypotheses of Obligations.IdleStep are met. -/
theorem test_hyp_IdleStep :
    ((fun (s : State) => (s.pending = [])) (State.reset)) :=
  by decide +kernel

/-- The hypotheses of Obligations.ResetInv are met. -/
theorem test_hyp_ResetInv :
    ((fun (s : State) => (s = State.reset)) (State.reset)) :=
  rfl

/-- The hypotheses of Obligations.ResetValues are met. -/
theorem test_hyp_ResetValues :
    ((fun (f : Fld) => (f.key ∉ [SUPPLY.ACTIVE_SRC, SUPPLY.VBAT_VALID, SUPPLY.PGOOD, CLK.XO40_OK, CLK.PLL_CORE_LOCK, CLK.PLL_PERIPH_LOCK, RSTC.CAUSE_POR,
  QMGR.QUOTA 0, QMGR.QUOTA 1, QMGR.QUOTA 2, QMGR.QUOTA 3, TEN.EN, CANX.VBAT_OK].map Fld.key)) (PWM.PER 3)) ∧
    ((fun (s : State) => (s = State.reset)) (State.reset)) :=
  ⟨by decide +kernel, rfl⟩

/-- The hypotheses of Obligations.RegisterWrites are met. -/
theorem test_hyp_RegisterWrites :
    ((fun (s : State) (m : Master) (v : Word) (p : Fin 64) (off : Fin 1024) => (s.admits m p (4 * off) true) ∧ ((p.val = 4 ∨ p.val = 0xF ∨ p.val = 0x14 ∧
  off.val ≠ 4 ∨ p.val = 0x15 ∧ off.val ≠ 13 ∨ p.val = 0x1F ∨ p.val = 0x20)) ∧ (4 ≤ off.val)) (State.reset) (.hart 0) (0x12345) (0x15) (4)) ∧
    ((fun (s : State) (m : Master) (v : Word) (p : Fin 36) => (s.admits m p 8 true) ∧ (p.val ≠ 0x21) ∧
      (p.val ≠ 0x22)) (State.reset) (.hart 0) (0x12345) (0x16)) ∧
    ((fun (s : State) (m : Master) (v : Word) (p : Fin 36) (k : Nat) => (s.admits m p 0xC true) ∧ (p.val ≠ 0x21) ∧ (p.val ≠ 0x22) ∧
      (k = s.evtMask p (s.tidOf m))) (State.reset) (.hart 0) (0x12345) (0x16) (0xFFFFFFFF)) ∧
    ((fun (s : State) (m : Master) (v : Word) (p : Fin 64) (off : Fin 1024) (d : Nat) => (s.rst.quiescing.contains (s.tidOf m) = false) ∧
      (s.judge m (s.tidOf m) (pageAddr p (4 * off)) .write Upset.none = .go (.page p (4 * off))) ∧
      (s.pageDenies m (s.tidOf m) p (4 * off) true = some d)) (hartUp) (.hart 1) (5) (0x17) (9) (0)) ∧
    ((fun (s : State) (m : Master) (v : Word) (p : Fin 36) => (s.admits m p 4 true) ∧ (s.on (HDR.LOCK p) = true) ∧
      (bits v.toNat 4 1 ≠ s.get (HDR.ATTR p))) ((State.reset.put (HDR.LOCK 0x17) 1)) (.hart 0) (0x10) (0x17)) ∧
    ((fun (s : State) (m : Master) (a : Word) (v : Word) => (s.rst.quiescing.contains (s.tidOf m) = true) ∧
      (s.q.slots = [])) (({ State.reset with rst := { State.reset.rst with quiescing := [1] } })) (.hart 1) (0x40017024) (1)) :=
  by refine ⟨?_, ?_, ?_, ?_, ?_, ?_⟩ <;> decide +kernel

/-- The hypotheses of Obligations.SupplySources are met. -/
theorem test_hyp_SupplySources :
    ((fun (s : State) (src : Source) => (s.rst.brownHeld = false) ∧ (¬(src = .vbat ∧ s.power.mode = .off)) ∧ (¬(src = .viso ∧ s.isM = true ∧
  s.on SUPPLY.MAINS_FAULT = true))) (State.reset) (.viso)) ∧
    ((fun (s : State) => (s.isM = true) ∧ (s.on SUPPLY.MAINS_FAULT = true)) ((State.reset.put SUPPLY.MAINS_FAULT 1))) ∧
    ((fun (s : State) => (s.power.mode = .off) ∧ (s.rst.brownHeld = false) ∧ (s.rst.porDue = false) ∧
      (s.on SUPPLY.VBAT_VALID = false)) (({ State.reset.put SUPPLY.VBAT_VALID 0 with power := { State.reset.power with mode := .off } }))) ∧
    ((fun (s : State) (src : Source) => (s.rst.brownHeld = true) ∧ (s.rst.retained = false) ∧ (s.power.mode ≠ .off) ∧ (¬(src = .viso ∧ s.isM = true ∧
      s.on SUPPLY.MAINS_FAULT = true))) (({ State.reset with rst := { State.reset.rst with brownHeld := true } })) (.vstore)) ∧
    ((fun (s : State) (src : Source) => (s.rst.brownHeld = true) ∧ (s.rst.retained = true) ∧ (s.power.mode ≠ .off) ∧ (¬(src = .viso ∧ s.isM = true ∧
      s.on SUPPLY.MAINS_FAULT = true))) (({ State.reset with rst := { State.reset.rst with brownHeld := true, retained := true } })) (.vstore)) ∧
    ((fun (s : State) => (s.alive = true) ∧ (s.bestSource ≠ 0) ∧
      (s.bestSource ≠ s.get SUPPLY.ACTIVE_SRC)) (((State.reset.put SUPPLY.VBAT_VALID 0).put SUPPLY.VISO_VALID 1))) ∧
    ((fun (s : State) (b : Bool) => (s.isM = true) ∧ (s.on SUPPLY.MAINS_PRESENT ≠ b) ∧ ((b = true → s.on SUPPLY.MAINS_FAULT = false)) ∧
      (s.alive = true)) (State.reset) (true)) ∧
    ((fun (s : State) => (s.isM = true) ∧ (s.on SUPPLY.MAINS_PRESENT = false) ∧ (s.on SUPPLY.MAINS_FAULT = false) ∧ (s.power.mode = .off) ∧
      (s.rst.porDue = false)) (({ State.reset with power := { State.reset.power with mode := .off } }))) ∧
    ((fun (s : State) => (s.isM = true) ∧ (s.on SUPPLY.MAINS_FAULT = false) ∧ (s.alive = true)) (State.reset)) ∧
    ((fun (s : State) => (s.on SUPPLY.MAINS_FAULT = true) ∧ (s.on SUPPLY.MAINS_PRESENT = false) ∧
      (s.alive = true)) ((State.reset.put SUPPLY.MAINS_FAULT 1))) :=
  by refine ⟨?_, ?_, ?_, ?_, ?_, ?_, ?_, ?_, ?_, ?_⟩ <;> decide +kernel

/-- The hypotheses of Obligations.PgoodAndRails are met. -/
theorem test_hyp_PgoodAndRails :
    ((fun (s : State) => (s.alive = true)) (State.reset)) ∧
    ((fun (s : State) => (s.alive = true) ∧ (s.get SUPPLY.ACTIVE_SRC = 3)) ((State.reset.put SUPPLY.ACTIVE_SRC 3))) ∧
    ((fun (s : State) (m : Master) (v : Word) => (s.admits m 3 0x14 true) ∧ (bits v.toNat 8 6 + 4 ≤ bits v.toNat 0 6) ∧
      (bits v.toNat 0 6 ≤ 60)) (State.reset) (.hart 0) (0x2024)) ∧
    ((fun (s : State) (m : Master) (v : Word) => (s.admits m 3 0x14 true) ∧ (¬(bits v.toNat 8 6 + 4 ≤ bits v.toNat 0 6 ∧
      bits v.toNat 0 6 ≤ 60))) (State.reset) (.hart 0) (0x2023)) ∧
    ((fun (s : State) => (s.alive = true) ∧ (s.on SUPPLY.AT_LIMIT = false)) (State.reset)) ∧
    ((fun (s : State) => (s.rst.inReset = true) ∧
      (s.rst.fuseLoaded = true)) (({ State.reset with rst := { State.reset.rst with inReset := true } }))) ∧
    ((fun (s : State) (r : Rail) => (s.railOn r = true)) ((State.reset.put SUPPLY.V33_EN 1)) (.v33)) ∧
    ((fun (s : State) (r : Rail) (overloaded : Bool) => (s.railOn r = true) ∧
      (s.on (railFlag r) = true)) (((State.reset.put SUPPLY.V33_EN 1).put SUPPLY.V33_FAULT 1)) (.v33) (true)) :=
  by refine ⟨?_, ?_, ?_, ?_, ?_, ?_, ?_, ?_⟩ <;> decide +kernel

/-- The hypotheses of Obligations.HarvesterAndGauge are met. -/
theorem test_hyp_HarvesterAndGauge :
    ((fun (s : State) => (s.harvOn = true) ∧ (s.alive = true) ∧ (s.bestSource ≠ 0) ∧ (s.supply.sampleDue = false) ∧
  (s.on ADC.B_BUSY = false)) ((State.reset.put SUPPLY.HARV_EN 1))) ∧
    ((fun (s : State) (mv : Fin 8192) => (s.supply.inputOpen = true))
      (({ State.reset with supply := { State.reset.supply with inputOpen := true } })) (2000)) ∧
    ((fun (s : State) (c : GaugeCount) => (s.on SUPPLY.GAUGE_EN = true) ∧ (s.alive = true)) ((State.reset.put SUPPLY.GAUGE_EN 1)) (⟨-5, 7, 1⟩)) ∧
    ((fun (s : State) => (s.on SUPPLY.GAUGE_EN = true) ∧ (s.alive = true) ∧
      (s.supply.inBand = true)) (({ State.reset.put SUPPLY.GAUGE_EN 1 with supply := { State.reset.supply with inBand := true } }))) ∧
    ((fun (s : State) (mv : Fin 8192) (c : GaugeCount) => (s.on SUPPLY.GAUGE_EN = true) ∧ (s.alive = true) ∧ (s.supply.inBand = true) ∧
      (s.supply.restElapsed = true) ∧ (s.gaugeFree = true))
      (({ State.reset.put SUPPLY.GAUGE_EN 1 with supply := { State.reset.supply with inBand := true, restElapsed := true, sampleDue := true } }))
      (3000) (⟨0, 0, 1⟩)) ∧
    ((fun (s : State) (m : Master) (c : GaugeCount) => (s.admits m 3 0x30 false)) (State.reset) (.hart 0) (⟨0, 0, 1⟩)) :=
  by refine ⟨?_, ?_, ?_, ?_, ?_, ?_⟩ <;> decide +kernel

/-- The hypotheses of Obligations.PowerOnAndStartUp, clauses 1 to 9 that have any, are met. -/
theorem test_hyp_PowerOnAndStartUp :
    ((fun (s : State) => (s.rst.porDue = true) ∧ (s.mem.flashOp = none) ∧
  (s.rst.fuseOp = none)) (({ State.reset with rst := { State.reset.rst with porDue := true } }))) ∧
    ((fun (s : State) => (s.rst.porHeld = true)) (({ State.reset with rst := { State.reset.rst with porHeld := true } }))) ∧
    ((fun (s : State) (retained : Bool) => (s.alive = true) ∧ (s.rst.fuseOp = none) ∧ (s.bestSource = 0) ∧
      (s.mem.flashOp = none)) ((State.reset.put SUPPLY.VBAT_VALID 0)) (true)) ∧
    ((fun (s : State) (retained : Bool) => (s.alive = true) ∧ (s.rst.fuseOp = none) ∧ (s.noSupplyNow = true) ∧ (s.bestSource ≠ 0) ∧
      (s.mem.flashOp = none)) ((((State.reset.put SUPPLY.VBAT_VALID 0).put SUPPLY.ACTIVE_SRC 3).put SUPPLY.VISO_VALID 1)) (true)) ∧
    ((fun (s : State) => (s.rst.inReset = true) ∧ (s.rst.fuseLoaded = false) ∧ (s.rst.porDue = false) ∧ (s.rst.porHeld = false) ∧
      (s.rst.brownHeld = false) ∧ ((s.fab.vio = false ∨ s.on PWM.FAULT_IN = true ∨ (s.on (PORT.OE 40) = false ∨ s.get (PORT.FUNC 40) ≠ 0) ∧
      bits (s.fuse 11) 24 3 ≠ 3))) (({ State.reset with rst := { State.reset.rst with inReset := true, fuseLoaded := false } }))) ∧
    ((fun (s : State) => (s.rst.inReset = true) ∧ (s.rst.fuseLoaded = false) ∧ (s.rst.porDue = false) ∧ (s.rst.porHeld = false) ∧
      (s.rst.brownHeld = false) ∧ (s.fab.vio = true) ∧ (s.on (PORT.CFGD 40) = false) ∧
      (bits (s.fuse 11) 24 3 = 3)) (({ State.reset with rst := { State.reset.rst with inReset := true, fuseLoaded := false, fuses := vput State.reset.rst.fuses 11 0x03000000 } }))) ∧
    ((fun (s : State) => (s.rst.inReset = true) ∧ (s.rst.fuseLoaded = true) ∧
      (s.rst.treeUp = false)) (({ State.reset with rst := { State.reset.rst with inReset := true, treeUp := false } }))) ∧
    ((fun (s : State) => (s.power.xo40On = true) ∧ (s.power.xo40Lost = false)) (State.reset)) ∧
    ((fun (s : State) => (s.on CLK.XO40_OK = true) ∧ (s.power.xo40Lost = false) ∧ (s.rst.treeUp = true) ∧ (s.power.phase = .steady) ∧
      ((s.power.mode = .gale ∨ s.power.mode = .breeze))) (State.reset)) :=
  by refine ⟨?_, ?_, ?_, ?_, ?_, ?_, ?_, ?_, ?_⟩ <;> decide +kernel

/-- The hypotheses of Obligations.PowerOnAndStartUp, clauses 10 to 17 that have any, are met. -/
theorem test_hyp_PowerOnAndStartUp_2 :
    ((fun (s : State) => (s.on CLK.XO40_OK = true) ∧ (s.power.xo40Lost = false) ∧ (s.rst.treeUp = true) ∧ (s.power.phase = .leaving) ∧
  (s.power.mode = .calm)) (({ State.reset with power := { State.reset.power with mode := .calm, phase := .leaving } }))) ∧
    ((fun (s : State) (pass : Bool) => (s.rst.treeUp = true) ∧ (s.rst.keysDrawn = false) ∧
      (s.on CLK.PLL_PERIPH_LOCK = true)) (({ State.reset with rst := { State.reset.rst with keysDrawn := false } })) (true)) ∧
    ((fun (s : State) (b : MemBlock) => (b ∈ s.power.needInit) ∧
      (s.on CLK.PLL_PERIPH_LOCK = true)) (State.withRam
      (({ (State.reset.setRam 0x20020004 7).setRam 0x20040000 9 with power := { State.reset.power with needInit := [.bank 1] } })) ram1) (.bank 1)) ∧
    ((fun (s : State) => (s.rst.inReset = true) ∧ (s.rst.fuseLoaded = true) ∧ (s.rst.treeUp = true) ∧ (s.rst.keysDrawn = true) ∧
      (s.on CLK.PLL_PERIPH_LOCK = true) ∧ (s.on CLK.PLL_CORE_LOCK = true) ∧
      (s.power.needInit = [])) (({ State.reset with rst := { State.reset.rst with inReset := true } }))) ∧
    ((fun (s : State) (levels : BitVec 48) => (s.fab.vio = false) ∧ (s.power.mode ≠ .off) ∧
      (s.ownLowSeen)) (({ State.reset with fab := { State.reset.fab with vio := false } })) (0x010000000001)) ∧
    ((fun (s : State) (levels : BitVec 48) => (s.fab.vio = false) ∧ (s.power.mode ≠ .off) ∧ (s.on (PORT.CFGD 40) = false) ∧
      (vget s.fab.padFuse 40 0 = 3)) (({ State.reset with fab := { State.reset.fab with vio := false, padFuse := vput State.reset.fab.padFuse 40 3 } })) (0x010000000001)) ∧
    ((fun (s : State) => (s.fab.vio = true)) (State.reset)) ∧
    ((fun (s : State) => (s.fab.vio = false)) (({ State.reset with fab := { State.reset.fab with vio := false } }))) :=
  by refine ⟨?_, ?_, ?_, ?_, ?_, ?_, ?_, ?_⟩ <;> decide +kernel

/-- The hypotheses of Obligations.ResetPin, clauses 1 to 6 that have any, are met. -/
theorem test_hyp_ResetPin :
    ((fun (s : State) => (s.testMode = false) ∧ (s.alive = true) ∧ ((s.rst.inReset = false ∨ s.rst.driven = false ∧ s.rst.ready = true ∧
  s.rst.stretchOver = true))) (State.reset)) ∧
    ((fun (s : State) => (s.rst.inReset = true) ∧
      (s.rst.driven = true)) (({ State.reset with rst := { State.reset.rst with inReset := true, driven := true } }))) ∧
    ((fun (s : State) => (s.testMode = false) ∧ (s.rst.inReset = true) ∧ (s.rst.driven = false) ∧ (s.rst.ready = true) ∧ (s.rst.stretchOver = true) ∧
      (s.rst.thermalHold = false) ∧ (s.rst.debugHold = false) ∧
      (s.rst.asked = [])) (({ State.reset with rst := { State.reset.rst with inReset := true } }))) ∧
    ((fun (s : State) => (s.testMode = false) ∧ (s.rst.inReset = true) ∧ (s.rst.driven = false) ∧ (s.rst.ready = true) ∧ (s.rst.stretchOver = true) ∧
      ((s.rst.thermalHold = true ∨ s.rst.debugHold = true ∨
      s.rst.asked ≠ []))) (({ State.reset with rst := { State.reset.rst with inReset := true, thermalHold := true } }))) ∧
    ((fun (s : State) => (s.testMode = true)) (({ State.reset with dbg := { State.reset.dbg with tapIr := 4 } }))) ∧
    ((fun (s : State) => (s.alive = true)) (State.reset)) :=
  by refine ⟨?_, ?_, ?_, ?_, ?_, ?_⟩ <;> decide +kernel

/-- The hypotheses of Obligations.ResetPin, clauses 7 to 11 that have any, are met. -/
theorem test_hyp_ResetPin_2 :
    ((fun (s : State) => (s.rst.inReset = true) ∧ (s.rst.debugHold = false) ∧ (s.rst.highSeen = true) ∧
  (s.rst.asked = [])) (({ State.reset with rst := { State.reset.rst with inReset := true, thermalHold := true } }))) ∧
    ((fun (s : State) => ((s.rst.inReset = false ∨ s.rst.debugHold = true ∨ s.rst.highSeen = false ∨
      s.rst.asked ≠ []))) (({ State.reset with rst := { State.reset.rst with inReset := true, thermalHold := true, highSeen := true, asked := [.pin] } }))) ∧
    ((fun (s : State) => (s.rst.asked = [.pin]) ∧ (s.alive = true) ∧ (s.mem.flashOp = none) ∧ (s.rst.fuseOp = none) ∧
      (s.rst.inReset = false)) (({ State.reset with rst := { State.reset.rst with asked := [.pin] } }))) ∧
    ((fun (s : State) => (s.rst.asked = [.pin]) ∧ (s.alive = true) ∧ (s.mem.flashOp = none) ∧ (s.rst.fuseOp = none) ∧
      (s.rst.inReset = false)) (({ State.reset with rst := { State.reset.rst with asked := [.pin] }, fab := { State.reset.fab with padFuse := vput State.reset.fab.padFuse 40 3 } }))) ∧
    ((fun (s : State) => ((s.rst.fuseOp.isSome = true ∨ s.mem.flashOp.isSome = true ∧ s.island .core ≠ .lost ∧
      s.brownAsked = false))) (({ State.reset with mem := { State.reset.mem with flashOp := some (0, 0, 0) } }))) :=
  by refine ⟨?_, ?_, ?_, ?_, ?_⟩ <;> decide +kernel

/-- The hypotheses of Obligations.SoftwareAndTenantResets are met. -/
theorem test_hyp_SoftwareAndTenantResets :
    ((fun (s : State) (m : Master) (v : Word) => (s.admits m 1 0x1C true) ∧ (s.power.mode ≠ .off) ∧ (bits v.toNat 1 3 = 0)) (State.reset) (.hart 0) (0)) ∧
    ((fun (s : State) (m : Master) (n : Fin 3) => (s.admits m 1 0x1C true) ∧ (s.rst.inReset = false) ∧ (s.power.mode ≠ .off) ∧
      (s.rst.quiescing.contains (n + 1) = false)) (State.reset) (.hart 0) (1)) ∧
    ((fun (s : State) (n : Fin 3) => (s.rst.quiescing.contains (n + 1) = true) ∧
      (bit (s.get TEN.AUTORESTART) n = false)) (({ State.reset with rst := { State.reset.rst with quiescing := [2] } })) (1)) ∧
    ((fun (s : State) (m : Master) (n : Fin 3) => (s.admits m 1 0x20 true) ∧ ((s.hart (n + 1)).running = false) ∧
      (s.releaseRefusal (n + 1) = none)) ((State.reset.put (RSTC.VECTOR 2) 0x100)) (.hart 0) (1)) ∧
    ((fun (s : State) (m : Master) (n : Fin 3) (r : Nat) => (s.admits m 1 0x20 true) ∧ ((s.hart (n + 1)).running = false) ∧
      (s.releaseRefusal (n + 1) = some r)) (State.reset) (.hart 0) (1) (3)) :=
  by refine ⟨?_, ?_, ?_, ?_, ?_⟩ <;> decide +kernel

/-- The hypotheses of Obligations.BootAndFuses, clauses 1 to 9 that have any, are met. -/
theorem test_hyp_BootAndFuses :
    ((fun (s : State) (d : Disturb) (h : List Nat) => (d.upset = Upset.none) ∧ (s.rst.bootPending = true) ∧ (s.up .keeper = true) ∧ (s.up .core = true) ∧
  (s.power.warmDue = false) ∧ (h = (List.range 8).map s.imageWord) ∧ (Table.find s.mem.broken 0 = none) ∧ (Table.find s.mem.broken 16 = none) ∧
  (s.eccBad 0 = false) ∧ (s.eccBad 16 = false) ∧
  ((if nth h 0 ≠ 0x54443438 then 1 else if nth h 1 ≠ 1 then 2 else if nth h 7 ≠ crcIeee ((h.take 7).flatMap (bytesLE 4)) then 3 else if nth h 4 % 16
  ≠ 0 ∨ nth h 4 < 0x20 ∨ nth h 5 % 4 ≠ 0 ∨ 65536 < nth h 5 ∨ 0x400000 < nth h 4 + nth h 5 then 4 else if nth h 2 % 2 ≠ 0 ∨ ¬(0x20 ≤ nth h 2 ∧
  nth h 2 ≤ 0x3FFFFE ∨ 0x10000000 ≤ nth h 2 ∧
  nth h 2 < 0x10000000 + nth h 5) then 5 else 0) = 0)) (bootable) (⟨0, Upset.none⟩) ((List.range 8).map bootable.imageWord)) ∧
    ((fun (s : State) (d : Disturb) (h : List Nat) => (d.upset = Upset.none) ∧ (s.rst.bootPending = true) ∧ (s.up .keeper = true) ∧
      (s.up .core = true) ∧ (s.power.warmDue = false) ∧ (h = (List.range 8).map s.imageWord) ∧ (Table.find s.mem.broken 0 = none) ∧
      (Table.find s.mem.broken 16 = none) ∧ (s.eccBad 0 = false) ∧ (s.eccBad 16 = false) ∧
      ((if nth h 0 ≠ 0x54443438 then 1 else if nth h 1 ≠ 1 then 2 else if nth h 7 ≠ crcIeee ((h.take 7).flatMap (bytesLE 4)) then 3 else if nth h 4 %
      16 ≠ 0 ∨ nth h 4 < 0x20 ∨ nth h 5 % 4 ≠ 0 ∨ 65536 < nth h 5 ∨ 0x400000 < nth h 4 + nth h 5 then 4 else if nth h 2 % 2 ≠ 0 ∨ ¬(0x20 ≤ nth h 2 ∧
      nth h 2 ≤ 0x3FFFFE ∨ 0x10000000 ≤ nth h 2 ∧
      nth h 2 < 0x10000000 + nth h 5) then 5 else 0) = 0)) (({ bootable with trx := { bootable.trx with byTimer := true } })) (⟨0, Upset.none⟩)
      ((List.range 8).map bootable.imageWord)) ∧
    ((fun (s : State) (d : Disturb) (h : List Nat) => (d.upset = Upset.none) ∧ (s.rst.bootPending = true) ∧ (s.up .keeper = true) ∧
      (s.up .core = true) ∧ (s.power.warmDue = true) ∧ (h = (List.range 8).map s.imageWord) ∧ (Table.find s.mem.broken 0 = none) ∧
      (Table.find s.mem.broken 16 = none) ∧ (s.eccBad 0 = false) ∧ (s.eccBad 16 = false) ∧
      ((if nth h 0 ≠ 0x54443438 then 1 else if nth h 1 ≠ 1 then 2 else if nth h 7 ≠ crcIeee ((h.take 7).flatMap (bytesLE 4)) then 3 else if nth h 4 %
      16 ≠ 0 ∨ nth h 4 < 0x20 ∨ nth h 5 % 4 ≠ 0 ∨ 65536 < nth h 5 ∨ 0x400000 < nth h 4 + nth h 5 then 4 else if nth h 2 % 2 ≠ 0 ∨ ¬(0x20 ≤ nth h 2 ∧
      nth h 2 ≤ 0x3FFFFE ∨ 0x10000000 ≤ nth h 2 ∧ nth h 2 < 0x10000000 + nth h 5) then 5 else 0) = 0) ∧ ((s.hart 0).haltReset = false) ∧
      ((s.hart 0).haltWait = false)) (({ bootable with power := { bootable.power with warmDue := true } })) (⟨0, Upset.none⟩) ((List.range 8).map
      bootable.imageWord)) ∧
    ((fun (s : State) (d : Disturb) (h : List Nat) (e : Nat) => (d.upset = Upset.none) ∧ (s.rst.bootPending = true) ∧ (s.up .keeper = true) ∧
      (s.up .core = true) ∧ (h = (List.range 8).map s.imageWord) ∧ (Table.find s.mem.broken 0 = none) ∧ (Table.find s.mem.broken 16 = none) ∧
      (s.eccBad 0 = false) ∧ (s.eccBad 16 = false) ∧
      (e = (if nth h 0 ≠ 0x54443438 then 1 else if nth h 1 ≠ 1 then 2 else if nth h 7 ≠ crcIeee ((h.take 7).flatMap (bytesLE 4)) then 3 else if nth h
      4 % 16 ≠ 0 ∨ nth h 4 < 0x20 ∨ nth h 5 % 4 ≠ 0 ∨ 65536 < nth h 5 ∨ 0x400000 < nth h 4 + nth h 5 then 4 else if nth h 2 % 2 ≠ 0 ∨
      ¬(0x20 ≤ nth h 2 ∧ nth h 2 ≤ 0x3FFFFE ∨ 0x10000000 ≤ nth h 2 ∧ nth h 2 < 0x10000000 + nth h 5) then 5 else 0)) ∧
      (e ≠ 0)) (State.reset) (⟨0, Upset.none⟩) ((List.range 8).map State.reset.imageWord) (1)) ∧
    ((fun (s : State) (d : Disturb) => ((s.rst.bootPending = false ∨ s.up .keeper = false ∨
      s.up .core = false))) (hartUp.after (.bootSequencerCheck ⟨0, Upset.none⟩)) (⟨0, Upset.none⟩)) ∧
    ((fun (s : State) (d : Disturb) (src : Nat) (len : Nat) => (d.upset = Upset.none) ∧ (s.rst.copying = true) ∧ (src = s.imageWord 4) ∧
      (len = s.imageWord 5) ∧ (src % 16 = 0) ∧ (len ≤ 65536) ∧ (src + len ≤ 0x400000) ∧ ((∀ i, i < (len + 15) / 16 →
      Table.find s.mem.broken (src + 16 * i) = none ∧ s.eccBad (src + 16 * i) = false)) ∧ ((s.hart 0).haltReset = false) ∧
      ((s.hart 0).haltWait = false)) ((bootable.after (.bootSequencerCheck ⟨0, Upset.none⟩))) (⟨0, Upset.none⟩) (0x20) (20)) ∧
    ((fun (s : State) (d : Disturb) => (s.rst.copying = false)) (State.reset) (⟨0, Upset.none⟩)) ∧
    ((fun (s : State) (m : Master) (v : Word) => (s.admits m 1 0x38 true) ∧ (s.on RSTC.FUSE_BUSY = false) ∧
      (s.fuseRefused (bits v.toNat 0 6) = false) ∧ ((s.get SUPPLY.ACTIVE_SRC = 1 ∨ s.get SUPPLY.ACTIVE_SRC = 2))) (State.reset) (.hart 0) (17)) ∧
    ((fun (s : State) (m : Master) (v : Word) (w : Nat) => (s.admits m 1 0x38 true) ∧ (s.on RSTC.FUSE_BUSY = false) ∧ (w = bits v.toNat 0 6) ∧
      (s.fuseRefused w = true)) (State.reset) (.hart 0) (0) (0)) :=
  by refine ⟨?_, ?_, ?_, ?_, ?_, ?_, ?_, ?_, ?_⟩ <;> decide +kernel

/-- The hypotheses of Obligations.BootAndFuses, clauses 10 to 18 that have any, are met. -/
theorem test_hyp_BootAndFuses_2 :
    ((fun (s : State) (m : Master) (v : Word) (w : Nat) => (s.admits m 1 0x38 true) ∧ (s.on RSTC.FUSE_BUSY = false) ∧ (w = bits v.toNat 0 6) ∧
  (s.fuseRefused w = false) ∧ ((s.get SUPPLY.ACTIVE_SRC = 0 ∨
  s.get SUPPLY.ACTIVE_SRC = 3))) ((State.reset.put SUPPLY.ACTIVE_SRC 3)) (.hart 0) (17) (17)) ∧
    ((fun (s : State) (m : Master) (v : Word) (w : Nat) => (s.admits m 1 0x38 true) ∧ (s.on RSTC.FUSE_BUSY = false) ∧ (w = bits v.toNat 0 6) ∧
      (s.fuseRefused w = false) ∧ ((s.get SUPPLY.ACTIVE_SRC = 0 ∨
      s.get SUPPLY.ACTIVE_SRC = 3))) ((State.reset.put SUPPLY.ACTIVE_SRC 0)) (.hart 0) (17) (17)) ∧
    ((fun (s : State) (w : Nat) (d : Word) (weak : Word) => (s.rst.fuseOp = some (w, d)) ∧ (w < 64) ∧
      (s.rst.asked = [])) (({ State.reset with rst := { State.reset.rst with fuseOp := some (17, 0xFF) } })) (17) (0xFF) (1)) ∧
    ((fun (s : State) (w : Nat) (d : Word) (weak : Word) => (s.rst.fuseOp = some (w, d)) ∧ (w < 64) ∧ (s.rst.asked = [.pin]) ∧
      (s.mem.flashOp = none) ∧ (s.alive = true) ∧
      (s.rst.inReset = false)) (({ State.reset with rst := { State.reset.rst with fuseOp := some (17, 0xFF), asked := [.pin] } })) (17) (0xFF) (1)) ∧
    ((fun (s : State) (weak : Word) => (s.rst.fuseOp = none)) (State.reset) (0)) ∧
    ((fun (s : State) (m : Master) (v : Word) => (s.admits m 1 0x38 true) ∧ (s.on RSTC.FUSE_BUSY = false)) (State.reset) (.hart 0) (12)) ∧
    ((fun (s : State) (m : Master) (v : Word) => (s.admits m 1 0x38 true) ∧
      (s.on RSTC.FUSE_BUSY = true)) ((State.reset.put RSTC.FUSE_BUSY 1)) (.hart 0) (12)) ∧
    ((fun (s : State) (m : Master) (v : Word) => (s.admits m 1 0x38 true) ∧
      (s.on RSTC.FUSE_BUSY = true)) ((State.reset.put RSTC.FUSE_BUSY 1)) (.hart 0) (12)) ∧
    ((fun (s : State) => (s.alive = true)) (State.reset)) :=
  by refine ⟨?_, ?_, ?_, ?_, ?_, ?_, ?_, ?_, ?_⟩ <;> decide +kernel

/-- The hypotheses of Obligations.CrystalsAndPoints, clauses 1 to 6 that have any, are met. -/
theorem test_hyp_CrystalsAndPoints :
    ((fun (s : State) => (s.on CLK.XO40_OK = true) ∧ (s.power.phase = .steady) ∧ (s.power.coarse = false)) (State.reset)) ∧
    ((fun (s : State) => (s.power.mode = .calm) ∧ (s.power.phase = .leaving) ∧
      (s.on CLK.XO40_OK = false)) (({ State.reset.put CLK.XO40_OK 0 with power := { State.reset.power with mode := .calm, phase := .leaving } }))) ∧
    ((fun (s : State) => (s.on CLK.XO32_OK = true) ∧ (s.power.mode ≠ .calm) ∧ (s.power.phase ≠ .entering)) ((State.reset.put CLK.XO32_OK 1))) ∧
    ((fun (s : State) => (s.on CLK.XO32_OK = true) ∧ (s.power.mode = .calm) ∧
      (s.power.phase = .steady)) (({ State.reset.put CLK.XO32_OK 1 with power := { State.reset.power with mode := .calm } }))) ∧
    ((fun (s : State) => (s.on CLK.XO32_OK = false)) (State.reset)) ∧
    ((fun (s : State) (b : Nat) (edge : Fin 65536) => (s.on CLK.XO32_OK = true) ∧ (s.power.coarse = false) ∧
      (s.power.lfStart = some b)) (({ State.reset.put CLK.XO32_OK 1 with power := { State.reset.power with lfStart := some 0 } })) (0) (3)) :=
  by refine ⟨?_, ?_, ?_, ?_, ?_, ?_⟩ <;> decide +kernel

/-- The hypotheses of Obligations.CrystalsAndPoints, clauses 7 to 12 that have any, are met. -/
theorem test_hyp_CrystalsAndPoints_2 :
    ((fun (s : State) (m : Master) (v : Word) => (s.admits m 2 0x14 true) ∧ (s.galeNow = true) ∧ (s.on PWR.SLEWING = false) ∧ (s.get PWR.OP_NOW ≤ 3) ∧
  (opMv (bits v.toNat 0 2) ≠ s.power.slewTo) ∧ (s.power.coreMv = s.power.slewTo)) (State.reset) (.hart 0) (2)) ∧
    ((fun (s : State) (m : Master) (v : Word) => (s.admits m 2 0x14 true) ∧ (s.galeNow = true) ∧ (s.on PWR.SLEWING = true) ∧ (s.get PWR.OP_NOW ≤ 3) ∧
      (opMv (bits v.toNat 0 2) ≠ s.power.slewTo)) ((((State.reset.put PWR.OP_CMD 3).put PWR.SLEWING 1) |> fun s =>
      { s with power := { s.power with slewTo := 980 } })) (.hart 0) (1)) ∧
    ((fun (s : State) (m : Master) (v : Word) => (s.admits m 2 0x14 true) ∧ (s.galeNow = true) ∧ (s.on PWR.SLEWING = true) ∧
      (opMv (bits v.toNat 0 2) = s.power.slewTo)) ((((State.reset.put PWR.OP_CMD 3).put PWR.SLEWING 1) |> fun s =>
      { s with power := { s.power with slewTo := 980 } })) (.hart 0) (3)) ∧
    ((fun (s : State) (m : Master) (v : Word) => (s.admits m 2 0x14 true) ∧
      (s.galeNow = false)) (({ State.reset with power := { State.reset.power with mode := .breeze } })) (.hart 0) (2)) ∧
    ((fun (s : State) => (s.on PWR.SLEWING = true)) ((State.reset.put PWR.SLEWING 1))) ∧
    ((fun (s : State) => (s.galeNow = true) ∧ (s.up .core = true) ∧ (s.on PWR.SLEWING = false) ∧ (s.get PWR.OP_NOW < s.get PWR.OP_CMD) ∧
      (s.power.coreMv = opMv (s.get PWR.OP_CMD)) ∧
      (s.on CLK.PLL_CORE_LOCK = true)) (({ State.reset.put PWR.OP_CMD 2 with power := { State.reset.power with coreMv := 880 } }))) :=
  by refine ⟨?_, ?_, ?_, ?_, ?_, ?_⟩ <;> decide +kernel

/-- The hypotheses of Obligations.IslandSwitches, clauses 1 to 6 that have any, are met. -/
theorem test_hyp_IslandSwitches :
    ((fun (s : State) (m : Master) => (s.admits m 2 0x1C true) ∧ (s.on PWR.CAN_ON = true) ∧ (s.canStopped 0 = true) ∧ (s.canStopped 1 = true) ∧
  (s.island .can ≠ .lost)) (State.reset) (.hart 0)) ∧
    ((fun (s : State) (m : Master) => (s.admits m 2 0x1C true) ∧ (s.on PWR.CAN_ON = true) ∧ (¬(s.canStopped 0 = true ∧
      s.canStopped 1 = true))) ((State.reset.put (CAN.ACT 0) 1)) (.hart 0)) ∧
    ((fun (s : State) (m : Master) => (s.admits m 2 0x1C true) ∧ (s.on PWR.CTRL_ON = true) ∧
      ((List.range 16).any (fun n => s.on (CTRL.EN n)) = true)) ((State.reset.put (CTRL.EN 15) 1)) (.hart 0)) ∧
    ((fun (s : State) (m : Master) => (s.admits m 2 0x1C true) ∧ (s.on PWR.CAN_ON = false) ∧ (s.island .can = .off) ∧
      (s.power.xo40Lost = false)) (({ State.reset.put PWR.CAN_ON 0 with power := { State.reset.power with islands := vput State.reset.power.islands 4 .off } })) (.hart 0)) ∧
    ((fun (s : State) (i : Island) => (i ≠ .ao) ∧ (s.island i = .powering) ∧ (s.on CLK.PLL_PERIPH_LOCK = true) ∧ (s.enabled i = true) ∧
      (s.rst.inReset = false) ∧ ((∀ b ∈ s.power.needInit, blockIsland b ≠ i)))
      (({ State.reset with power := { State.reset.power with islands := vput State.reset.power.islands 4 .powering } })) (.can)) ∧
    ((fun (s : State) => (s.power.mode = .lull) ∧ (s.power.phase = .leaving) ∧ (s.on CLK.PLL_PERIPH_LOCK = true) ∧ (s.power.coreMv = 700) ∧
      (s.on PWR.SLEWING = false)) (({ State.reset with power := { State.reset.power with mode := .lull, phase := .leaving, islands := Vector.replicate 7 .stopped } }))) :=
  by refine ⟨?_, ?_, ?_, ?_, ?_, ?_⟩ <;> decide +kernel

/-- The hypotheses of Obligations.IslandSwitches, clauses 7 to 12 that have any, are met. -/
theorem test_hyp_IslandSwitches_2 :
    ((fun (s : State) => (s.power.warmDue = true) ∧ (s.up .keeper = true) ∧ (s.rst.bootPending = false) ∧ (s.rst.inReset = false) ∧
  (s.on PWR.WARM_EN = true) ∧ (0x10000000 ≤ s.get PWR.WARM_VECTOR * 4) ∧ (s.get PWR.WARM_VECTOR * 4 < 0x10010000) ∧
  ((s.hart 0).haltWait = false)) (({ (State.reset.put PWR.WARM_EN 1).put PWR.WARM_VECTOR 0x4003FFF with power := { State.reset.power with warmDue := true }, rst := { State.reset.rst with bootPending := false } }))) ∧
    ((fun (s : State) => (s.power.warmDue = true) ∧ (s.up .keeper = true) ∧ (s.rst.bootPending = false) ∧ (s.rst.inReset = false) ∧
      (s.on PWR.WARM_EN = false)) (({ State.reset with power := { State.reset.power with warmDue := true }, rst := { State.reset.rst with bootPending := false } }))) ∧
    ((fun (s : State) => (s.power.phase = .leaving) ∧ (s.power.mode ≠ .lull) ∧ (s.power.mode ≠ .calm) ∧ ((∀ i ∈ allIslands, s.enabled i = true →
      s.up i = true)) ∧ (s.get PWR.MODE = 1)) (({ State.reset.put PWR.MODE 1 with power := { State.reset.power with mode := .breeze, phase := .leaving } }))) ∧
    ((fun (s : State) => (s.power.phase = .leaving) ∧ (s.power.mode ≠ .lull) ∧ (s.power.mode ≠ .calm) ∧ ((∀ i ∈ allIslands, s.enabled i = true →
      s.up i = true)) ∧ (s.get PWR.MODE = 0) ∧ (s.get PWR.OP_CMD = 0) ∧
      (s.power.opStored = false)) (({ State.reset with power := { State.reset.power with phase := .leaving } }))) ∧
    ((fun (s : State) => (s.power.coarse = false) ∧
      (s.power.phase = .entering)) (({ State.reset with power := { State.reset.power with phase := .entering } }))) ∧
    ((fun (s : State) => (s.power.coarse = true) ∧ (s.on CLK.PLL_PERIPH_LOCK = true) ∧
      (s.power.phase ≠ .entering)) (({ State.reset with power := { State.reset.power with coarse := true } }))) :=
  by refine ⟨?_, ?_, ?_, ?_, ?_, ?_⟩ <;> decide +kernel

/-- The hypotheses of Obligations.PowerModes, clauses 1 to 6 that have any, are met. -/
theorem test_hyp_PowerModes :
    ((fun (s : State) (m : Master) (v : Word) => (s.admits m 2 0x10 true) ∧ ((bits v.toNat 0 3 = 2 ∨
  bits v.toNat 0 3 = 3))) (State.reset) (.hart 0) (3)) ∧
    ((fun (s : State) (m : Master) (v : Word) => (s.admits m 2 0x10 true) ∧ (bits v.toNat 0 3 = 1) ∧ (s.get PWR.MODE = 0) ∧ (s.galeNow = true) ∧
      (s.on PWR.SLEWING = false) ∧ (s.power.coreMv = 700)) (State.reset) (.hart 0) (1)) ∧
    ((fun (s : State) (m : Master) (v : Word) => (s.admits m 2 0x10 true) ∧ (bits v.toNat 0 3 = 0) ∧ (s.get PWR.MODE = 1) ∧
      (s.power.mode = .breeze) ∧ (s.power.phase = .steady) ∧ (s.get PWR.OP_CMD = 0) ∧
      (s.power.opStored = false)) (({ State.reset.put PWR.MODE 1 with power := { State.reset.power with mode := .breeze } })) (.hart 0) (0)) ∧
    ((fun (s : State) (c : Nat) => (s.power.phase = .draining) ∧ ((∀ n : Fin 4, (s.hart n).posts = [])) ∧ (s.refusal = some c) ∧
      (s.fab.held = false)) (({ (State.reset.put PWR.WAKE_CAUSE 1).put PWR.WAKE_EN 1 with power := { State.reset.power with phase := .draining } }))
      (1)) ∧
    ((fun (s : State) => (s.power.phase = .draining) ∧ ((∀ n : Fin 4, (s.hart n).posts = [])) ∧ (s.refusal = none) ∧
      (s.power.target = .lull)) (({ State.reset with power := { State.reset.power with phase := .draining } }))) ∧
    ((fun (s : State) => (s.power.phase = .draining) ∧ ((∀ n : Fin 4, (s.hart n).posts = [])) ∧ (s.refusal = none) ∧ (s.power.target = .calm) ∧
      (s.fab.held = false)) (({ (State.reset.put CLK.XO32_OK 1).put CLK.LF_CAL_VALID 1 with power := { State.reset.power with phase := .draining, target := .calm } }))) :=
  by refine ⟨?_, ?_, ?_, ?_, ?_, ?_⟩ <;> decide +kernel

/-- The hypotheses of Obligations.PowerModes, clauses 7 to 11 that have any, are met. -/
theorem test_hyp_PowerModes_2 :
    ((fun (s : State) => (s.power.phase = .entering) ∧
  (s.power.wakePend = false)) (({ State.reset with power := { State.reset.power with phase := .entering } }))) ∧
    ((fun (s : State) (k : Fin 7) => (s.power.phase = .steady) ∧ (s.power.mode = .lull) ∧
      (bit (s.get PWR.WAKE_EN) k = true)) (({ State.reset.put PWR.WAKE_EN 0x7F with power := { State.reset.power with mode := .lull } })) (6)) ∧
    ((fun (s : State) (k : Fin 7) => (s.power.phase = .steady) ∧ (s.power.mode = .calm) ∧
      (bit (s.get PWR.WAKE_EN) k = true)) (({ State.reset.put PWR.WAKE_EN 0x7F with power := { State.reset.power with mode := .calm } })) (0)) ∧
    ((fun (s : State) (k : Fin 7) => (s.power.phase = .entering) ∧ (s.entryFixed = false) ∧
      (bit (s.get PWR.WAKE_EN) k = true)) (({ State.reset.put PWR.WAKE_EN 0x7F with power := { State.reset.power with phase := .entering } })) (0)) ∧
    ((fun (s : State) (k : Fin 7) => (s.power.phase = .steady) ∧ ((s.power.mode = .gale ∨ s.power.mode = .breeze ∨
      s.power.mode = .off))) (State.reset) (0)) :=
  by refine ⟨?_, ?_, ?_, ?_, ?_⟩ <;> decide +kernel

/-- The hypotheses of Obligations.OwnershipAndLocks are met. -/
theorem test_hyp_OwnershipAndLocks :
    ((fun (s : State) (m : Master) (v : Word) => (s.admits m 5 0x1C true) ∧
  (s.get TEN.TABLE < 13)) ((State.reset.put TEN.TABLE 12)) (.hart 0) (0x00010001)) ∧
    ((fun (s : State) (tb : Fin 13) (e : Fin 256) => ((Table.find s.waiting (256 * tb + e)).isSome = true) ∧
      (s.ownerIdle tb e = true)) (({ State.reset with waiting := [(256 * 9 + 3, 1)] })) (9) (3)) ∧
    ((fun (s : State) (tb : Fin 13) (e : Fin 256) => (s.ownerIdle tb e = false))
      (({ State.reset with q := { State.reset.q with active := [(3, ⟨1, 0, 0, 0, none, none⟩)] } })) (3) (3)) ∧
    ((fun (s : State) (m : Master) (p : Fin 36) => (s.admits m p 4 true)) (State.reset) (.hart 0) (0x18)) ∧
    ((fun (s : State) (m : Master) (k : Fin 2) (v : Word) => (s.admits m 0xE (0x10 + 4 * k) true) ∧
      (bits v.toNat 0 12 + bits v.toNat 16 12 + s.get (QMGR.QUOTA (2 - 2 * k)) + s.get (QMGR.QUOTA (3 - 2 * k)) ≤ 2048)) (State.reset) (.hart 0) (1)
      (0x02000200)) ∧
    ((fun (s : State) (m : Master) (k : Fin 2) (v : Word) => (s.admits m 0xE (0x10 + 4 * k) true) ∧ (bits v.toNat 0 12 ≤ 2048) ∧
      (bits v.toNat 16 12 ≤ 2048) ∧ (2048 < bits v.toNat 0 12 + bits v.toNat 16 12 + s.get (QMGR.QUOTA (2 - 2 * k)) + s.get (QMGR.QUOTA (3 - 2 *
      k)))) (State.reset) (.hart 0) (0) (0x02000201)) :=
  by refine ⟨?_, ?_, ?_, ?_, ?_, ?_⟩ <;> decide +kernel

/-- The hypotheses of Obligations.HartAccesses, clauses 1 to 8 that have any, are met. -/
theorem test_hyp_HartAccesses :
    ((fun (s : State) (h : Fin 4) (rd : Fin 64) (a : Word) (w : Width) (signed : Bool) => (rd.val < 32) ∧ (s.issues h = true) ∧
  (a.toNat % widthBytes w = 0) ∧ ((s.hart h).pmpAdmits h ((s.hart h).dataUser h) a.toNat (widthBytes w) 0 = true) ∧ (s.loadWaits h a.toNat = false) ∧
  (s.rst.quiescing.contains h = false) ∧ (0x20000000 ≤ a.toNat) ∧ (a.toNat < 0x200F0000) ∧ (s.up .core = true) ∧
  (s.owner tblGranule ((a.toNat - 0x20000000) / 4096) = h) ∧ (s.eccBad (a.toNat / 4 * 4) = false)) (hartUp) (1) (5) (0x20001002) (.half) (true)) ∧
    ((fun (s : State) (h : Fin 4) (rd : Fin 64) (a : Word) (w : Width) (signed : Bool) => (32 ≤ rd.val) ∧ (s.fpOn h = true) ∧ (s.issues h = true) ∧
      (a.toNat % widthBytes w = 0) ∧ ((s.hart h).pmpAdmits h ((s.hart h).dataUser h) a.toNat (widthBytes w) 0 = true) ∧
      (s.loadWaits h a.toNat = false) ∧ (s.rst.quiescing.contains h = false) ∧ (0x20000000 ≤ a.toNat) ∧ (a.toNat < 0x200F0000) ∧
      (s.up .core = true) ∧ (s.owner tblGranule ((a.toNat - 0x20000000) / 4096) = h) ∧
      (s.eccBad (a.toNat / 4 * 4) = false)) ((hartUp.modHart 1 (fun h => h.setCsr csrMstatus 0x2000))) (1) (33) (0x20001004) (.word) (false)) ∧
    ((fun (s : State) (h : Fin 4) (rd : Fin 64) (a : Word) (w : Width) (signed : Bool) (u : Upset) => (s.issues h = true) ∧ (32 ≤ rd.val) ∧
      (s.fpOn h = false)) (hartUp) (0) (33) (0x20001004) (.word) (false) (Upset.none)) ∧
    ((fun (s : State) (h : Fin 4) (rd : Fin 64) (a : Word) (w : Width) (signed : Bool) (u : Upset) (f : Fail) => (rd.val < 32) ∧
      (s.issues h = true) ∧ (a.toNat % widthBytes w = 0) ∧ ((s.hart h).pmpAdmits h ((s.hart h).dataUser h) a.toNat (widthBytes w) 0 = true) ∧
      (s.loadWaits h a.toNat = false) ∧ (s.rst.quiescing.contains h = false) ∧ (a.toNat / 4 * 4 ≠ pageAddr (6 + h) 0x2C) ∧
      (s.judge (.hart h) h a.toNat .read u = .bad f)) (hartUp) (1) (5) (0x70000000) (.word) (false) (Upset.none) (⟨2, 0, 0x70000000, 0, 1⟩)) ∧
    ((fun (s : State) (h : Fin 4) (rd : Fin 64) (a : Word) (w : Width) (signed : Bool) (u : Upset) (f : Fail) => (rd.val < 32) ∧
      (s.issues h = true) ∧ (a.toNat % widthBytes w = 0) ∧ ((s.hart h).pmpAdmits h ((s.hart h).dataUser h) a.toNat (widthBytes w) 0 = true) ∧
      (s.loadWaits h a.toNat = false) ∧ (s.rst.quiescing.contains h = false) ∧ (a.toNat / 4 * 4 ≠ pageAddr (6 + h) 0x2C) ∧
      (s.judge (.hart h) h a.toNat .read u = .bad f)) (hartUp) (1) (5) (0x20000000) (.word) (false) (Upset.none) (⟨1, 2, 0x20000000, 0, 1⟩)) ∧
    ((fun (s : State) (h : Fin 4) (rd : Fin 64) (a : Word) (w : Width) (signed : Bool) (u : Upset) (f : Fail) => (rd.val < 32) ∧
      (s.issues h = true) ∧ (a.toNat % widthBytes w = 0) ∧ ((s.hart h).pmpAdmits h ((s.hart h).dataUser h) a.toNat (widthBytes w) 0 = true) ∧
      (s.loadWaits h a.toNat = false) ∧ (s.rst.quiescing.contains h = false) ∧ (a.toNat / 4 * 4 ≠ pageAddr (6 + h) 0x2C) ∧
      (s.judge (.hart h) h a.toNat .read u = .bad f)) (hartUp) (0) (5) (0x20000000) (.word) (false) (⟨1, 2, true, 1, 0, false, 0x20000080, false⟩)
      (⟨5, 33, 0x20000080, 3, 0⟩)) ∧
    ((fun (s : State) (h : Fin 4) (rd : Fin 64) (a : Word) (w : Width) (signed : Bool) (u : Upset) => (rd.val < 32) ∧ (s.issues h = true) ∧
      (a.toNat % widthBytes w ≠ 0)) (hartUp) (1) (5) (0x20001003) (.half) (false) (Upset.none)) ∧
    ((fun (s : State) (h : Fin 4) (a : Word) (w : Nat) => (s.issues h = true) ∧ (a.toNat % 4 = 0) ∧
      ((s.hart h).pmpAdmits h (s.hart h).user a.toNat 2 2 = true) ∧ ((s.hart h).pmpAdmits h (s.hart h).user (a.toNat + 2) 2 2 = true) ∧
      (s.interrupt h = none) ∧ (s.rst.quiescing.contains h = false) ∧ (0x20000000 ≤ a.toNat) ∧ (a.toNat < 0x200F0000) ∧ (s.up .core = true) ∧
      (s.owner tblGranule ((a.toNat - 0x20000000) / 4096) = h) ∧ (s.eccBad (a.toNat / 4 * 4) = false) ∧
      (w = (if s.word h a.toNat % 4 = 3 then s.word h a.toNat else s.word h a.toNat % 2 ^ 16)) ∧ ((decodeInsn w).hasRow = true) ∧
      (s.implements h (decodeInsn w) = true)) (State.withRam ((hartUp.setWords 1 0x20001000 [0x0002A303])) ram2) (1) (0x20001000) (0x0002A303)) :=
  by refine ⟨?_, ?_, ?_, ?_, ?_, ?_, ?_, ?_⟩ <;> decide +kernel

/-- The hypotheses of Obligations.HartAccesses, clauses 9 to 15 that have any, are met. -/
theorem test_hyp_HartAccesses_2 :
    ((fun (s : State) (h : Fin 4) (a : Word) (w : Nat) (op : AluOp) (rd : Nat) (rs1 : Nat) (rs2 : Nat) => (s.issues h = true) ∧ (a.toNat % 4 = 0) ∧
  ((s.hart h).pmpAdmits h (s.hart h).user a.toNat 2 2 = true) ∧ ((s.hart h).pmpAdmits h (s.hart h).user (a.toNat + 2) 2 2 = true) ∧
  (s.interrupt h = none) ∧ (s.rst.quiescing.contains h = false) ∧ (0x20000000 ≤ a.toNat) ∧ (a.toNat < 0x200F0000) ∧ (s.up .core = true) ∧
  (s.owner tblGranule ((a.toNat - 0x20000000) / 4096) = h) ∧ (s.eccBad (a.toNat / 4 * 4) = false) ∧
  (w = (if s.word h a.toNat % 4 = 3 then s.word h a.toNat else s.word h a.toNat % 2 ^ 16)) ∧ (decodeInsn w = .alu op rd rs1 rs2) ∧ ((h ≠ 0 ∨
  op.bitManip = false))) (State.withRam (((hartUp.setWords 1 0x20001000 [0x006282B3]).modHart 1 (fun h => (h.setReg 5 3).setReg 6 4))) ram3) (1)
  (0x20001000) (0x006282B3) (.add) (5) (5) (6)) ∧
    ((fun (s : State) (h : Fin 4) (a : Word) (w : Nat) (c : Nat) (rs1 : Nat) (rs2 : Nat) (off : Word) => (s.issues h = true) ∧ (a.toNat % 4 = 0) ∧
      ((s.hart h).pmpAdmits h (s.hart h).user a.toNat 2 2 = true) ∧ ((s.hart h).pmpAdmits h (s.hart h).user (a.toNat + 2) 2 2 = true) ∧
      (s.interrupt h = none) ∧ (s.rst.quiescing.contains h = false) ∧ (0x20000000 ≤ a.toNat) ∧ (a.toNat < 0x200F0000) ∧ (s.up .core = true) ∧
      (s.owner tblGranule ((a.toNat - 0x20000000) / 4096) = h) ∧ (s.eccBad (a.toNat / 4 * 4) = false) ∧
      (w = (if s.word h a.toNat % 4 = 3 then s.word h a.toNat else s.word h a.toNat % 2 ^ 16)) ∧
      (decodeInsn w = .branch c rs1 rs2 off)) (State.withRam ((hartUp.setWords 1 0x20001000 [0x00628463])) ram4) (1) (0x20001000) (0x00628463) (0)
      (5) (6) (8)) ∧
    ((fun (s : State) (h : Fin 4) (a : Word) (w : Nat) (op : FpOp) (rd : Nat) (rs1 : Nat) (rs2 : Nat) (rs3 : Nat) (rm : Nat) (m : Nat) => (s.issues h
      = true) ∧ (a.toNat % 4 = 0) ∧ ((s.hart h).pmpAdmits h (s.hart h).user a.toNat 2 2 = true) ∧
      ((s.hart h).pmpAdmits h (s.hart h).user (a.toNat + 2) 2 2 = true) ∧ (s.interrupt h = none) ∧ (s.rst.quiescing.contains h = false) ∧
      (0x20000000 ≤ a.toNat) ∧ (a.toNat < 0x200F0000) ∧ (s.up .core = true) ∧ (s.owner tblGranule ((a.toNat - 0x20000000) / 4096) = h) ∧
      (s.eccBad (a.toNat / 4 * 4) = false) ∧ (w = (if s.word h a.toNat % 4 = 3 then s.word h a.toNat else s.word h a.toNat % 2 ^ 16)) ∧
      (decodeInsn w = .fp op rd rs1 rs2 rs3 rm) ∧ (s.fpOn h = true) ∧ ((s.hart h).roundingMode op rm = some m) ∧
      (op.toX = false)) (State.withRam (((hartUp.setWords 1 0x20001000 [0x1820F1D3]).modHart 1 (fun h =>
      ({ h with f := vput (vput h.f 1 0x3F800000) 2 0x40400000 }).setCsr csrMstatus 0x2000))) ram5) (1) (0x20001000) (0x1820F1D3) (.div) (3) (1) (2)
      (0) (7) (0)) ∧
    ((fun (s : State) (h : Fin 4) (a : Word) (i : Nat) (u : Upset) => (s.issues h = true) ∧
      (s.interrupt h = some i)) ((hartUp.put (IRQ.MSIP 1) 1 |>.modHart 1 (fun h => (h.setCsr csrMie 8).setCsr csrMstatus 8))) (1) (0x20001000) (3)
      (Upset.none)) ∧
    ((fun (s : State) (h : Fin 4) (a : Word) (w : Width) (v : Word) => (h ≠ 0) ∧ (s.issues h = true) ∧ (a.toNat % widthBytes w = 0) ∧
      ((s.hart h).pmpAdmits h ((s.hart h).dataUser h) a.toNat (widthBytes w) 1 = true) ∧ (s.rst.quiescing.contains h = false) ∧
      (0x20000000 ≤ a.toNat) ∧ (a.toNat < 0x200F0000) ∧ (s.owner tblGranule ((a.toNat - 0x20000000) / 4096) = h) ∧
      (s.eccBad (a.toNat / 4 * 4) = false)) (hartUp) (1) (0x20001002) (.half) (0x1234)) ∧
    ((fun (s : State) (h : Fin 4) => (s.issues h = true)) (hartUp) (1)) ∧
    ((fun (s : State) (h : Fin 4) (i : Word) => (s.issues h = true)) (hartUp) (1) (0xFFFFFFFF)) :=
  by refine ⟨?_, ?_, ?_, ?_, ?_, ?_, ?_⟩ <;> decide +kernel

/-- The hypotheses of Obligations.AtomicsAndWaits, clauses 1 to 6 that have any, are met. -/
theorem test_hyp_AtomicsAndWaits :
    ((fun (s : State) (h : Fin 4) (rd : Fin 32) (a : Word) => (h ≠ 0) ∧ (s.issues h = true) ∧ (a.toNat % 4 = 0) ∧
  ((s.hart h).pmpAdmits h ((s.hart h).dataUser h) a.toNat 4 0 = true) ∧ (s.rst.quiescing.contains h = false) ∧ (0x20000000 ≤ a.toNat) ∧
  (a.toNat < 0x200F0000) ∧ (s.owner tblGranule ((a.toNat - 0x20000000) / 4096) = h) ∧ (s.eccBad a.toNat = false)) (hartUp) (1) (5) (0x20001004)) ∧
    ((fun (s : State) (h : Fin 4) (rd : Fin 32) (a : Word) (v : Word) (cycles : Nat) (u : Upset) => (h ≠ 0) ∧ (s.issues h = true) ∧
      (a.toNat % 4 = 0) ∧ ((s.hart h).pmpAdmits h ((s.hart h).dataUser h) a.toNat 4 1 = true) ∧ (0x20000000 ≤ a.toNat) ∧ (a.toNat < 0x200F0000) ∧
      (((s.hart h).resv ≠ some a.toNat ∨ 256 < cycles))) (hartUp) (1) (5) (0x20001004) (7) (4) (Upset.none)) ∧
    ((fun (s : State) (h : Fin 4) (rd : Fin 32) (a : Word) (v : Word) (cycles : Nat) => (h ≠ 0) ∧ (s.issues h = true) ∧ (a.toNat % 4 = 0) ∧
      ((s.hart h).pmpAdmits h ((s.hart h).dataUser h) a.toNat 4 1 = true) ∧ (s.rst.quiescing.contains h = false) ∧ (0x20000000 ≤ a.toNat) ∧
      (a.toNat < 0x200F0000) ∧ (s.owner tblGranule ((a.toNat - 0x20000000) / 4096) = h) ∧ ((s.hart h).resv = some a.toNat) ∧
      (cycles ≤ 256)) ((hartUp.modHart 1 (fun h => { h with resv := some 0x20001004 }))) (1) (5) (0x20001004) (7) (256)) ∧
    ((fun (s : State) (h : Fin 4) (op : AmoOp) (rd : Fin 32) (a : Word) (v : Word) => (h ≠ 0) ∧ (s.issues h = true) ∧ (a.toNat % 4 = 0) ∧
      ((s.hart h).pmpAdmits h ((s.hart h).dataUser h) a.toNat 4 0 = true) ∧ ((s.hart h).pmpAdmits h ((s.hart h).dataUser h) a.toNat 4 1 = true) ∧
      (s.rst.quiescing.contains h = false) ∧ (0x20000000 ≤ a.toNat) ∧ (a.toNat < 0x200F0000) ∧
      (s.owner tblGranule ((a.toNat - 0x20000000) / 4096) = h) ∧ (s.eccBad a.toNat = false)) (hartUp) (1) (.max) (5) (0x20001004) (7)) ∧
    ((fun (s : State) (h : Fin 4) => (h ≠ 0) ∧ (s.issues h = true) ∧ ((s.hart h).user = false)) (hartUp) (1)) ∧
    ((fun (s : State) => (s.issues 0 = true) ∧ (s.wfiOver 0 = false) ∧ (s.on PWR.ARMED = true) ∧ (s.power.phase = .steady) ∧ (s.power.mode = .gale) ∧
      (s.anyHeld = false)) ((hartUp.put PWR.ARMED 1))) :=
  by refine ⟨?_, ?_, ?_, ?_, ?_, ?_⟩ <;> decide +kernel

/-- The hypotheses of Obligations.AtomicsAndWaits, clauses 7 to 12 that have any, are met. -/
theorem test_hyp_AtomicsAndWaits_2 :
    ((fun (s : State) (m : Master) => (s.admits m 0 0x18 false)) (State.reset) (.hart 0)) ∧
    ((fun (s : State) (n : Tid) => (s.mtip n = true) ∧
      (s.wfiOver n = true)) (((hartUp.put (IRQ.MTIMECMP_HI 1) 0).put (IRQ.MTIMECMP_LO 1) 0 |>.modHart 1 (fun h => (h.setCsr csrMie 0x80)))) (1)) ∧
    ((fun (s : State) (m : Master) (n : Tid) (v : Word) => (s.admits m (0xA + n) 0x68 true)) (State.reset) (.hart 1) (1) (1)) ∧
    ((fun (s : State) (m : Master) (n : Tid) (i : Nat) => (s.admits m (0xA + n) 0x64 false) ∧ ((s.power.phase ≠ .leaving ∨
      s.power.xo40Lost = true)) ∧ (s.claimable n = some i)) ((((State.reset.put PWR.OP_DONE 1).put PWR.EVT_EN 1).put (IRQ.PRIO 0 0) 1)) (.hart 0) (0)
      (0)) ∧
    ((fun (s : State) (m : Master) (n : Tid) => (s.admits m (0xA + n) 0x64 false) ∧ ((s.claimable n = none ∨ s.power.phase = .leaving ∧
      s.power.xo40Lost = false))) (State.reset) (.hart 0) (0)) ∧
    ((fun (s : State) (m : Master) (n : Tid) (v : Word) => (s.admits m (0xA + n) 0x64 true)) (State.reset) (.hart 0) (0) (3)) :=
  by refine ⟨?_, ?_, ?_, ?_, ?_, ?_⟩ <;> decide +kernel

/-- The hypotheses of Obligations.PostedStores are met. -/
theorem test_hyp_PostedStores :
    ((fun (s : State) (h : Fin 4) (a : Word) (w : Width) (v : Word) => (islandAt a.toNat ≠ hartIsland h) ∧ (s.issues h = true) ∧
  (a.toNat % widthBytes w = 0) ∧ ((s.hart h).pmpAdmits h ((s.hart h).dataUser h) a.toNat (widthBytes w) 1 = true) ∧ (s.on (FAULT.HELD h) = false) ∧
  ((s.hart h).posts.length < 64)) (hartUp) (1) (0x40002010) (.word) (0)) ∧
    ((fun (s : State) (i : Island) (left : Nat) (p : Posted) => ((s.hart 0).posts.find? (fun p => p.island == i && !p.held) = some p) ∧
      (s.rst.quiescing.contains 0 = false) ∧ (0x20000000 ≤ p.addr) ∧ (p.addr < 0x200F0000) ∧ (p.addr % widthBytes p.width = 0) ∧
      (s.up .core = true) ∧ (s.owner tblGranule ((p.addr - 0x20000000) / 4096) = 0) ∧
      (s.eccBad (p.addr / 4 * 4) = false)) ((hartUp.modHart 0 (fun h => { h with posts := [⟨0x20000006, .half, 7, 1, .core, false, false⟩] })))
      (.core) (0) (⟨0x20000006, .half, 7, 1, .core, false, false⟩)) ∧
    ((fun (s : State) (h : Fin 4) (i : Island) (left : Nat) (u : Upset) (p : Posted) (f : Fail) => ((s.hart h).posts.find? (fun p => p.island == i &&
      !p.held) = some p) ∧ (s.rst.quiescing.contains h = false) ∧ (s.judge (.hart h) h p.addr .write u = .bad f) ∧ (f.cause ≠ causeParity) ∧
      (s.on (FAULT.HELD h) = false) ∧ (s.power.phase = .steady) ∧
      ((s.postOf h).fifo.length < 16)) (((hartUp.put (FAULT.STOP_ON_POST 1) 1).modHart 1 (fun h =>
      { h with posts := [⟨0x70000000, .word, 7, 1, .ao, false, false⟩] }))) (1) (.ao) (0) (Upset.none) (⟨0x70000000, .word, 7, 1, .ao, false, false⟩)
      (⟨2, 0, 0x70000000, 0, 1⟩)) ∧
    ((fun (s : State) (m : Master) (n : Tid) => (s.admits m (6 + n) 0x2C false) ∧ (m ≠ .hart n) ∧ (s.tidOf m = n)) (State.reset) (.debug 1) (1)) ∧
    ((fun (s : State) (n : Tid) => (s.postsWait n = true) ∧
      (s.issues n = true)) ((hartUp.modHart 1 (fun h => { h with posts := [⟨0x70000000, .word, 7, 1, .ao, false, false⟩] }))) (1)) ∧
    ((fun (s : State) (n : Tid) => ((s.hart n).fencing = true) ∧ (s.postsWait n = false) ∧
      ((s.hart n).fenceTo = none)) ((hartUp.modHart 1 (fun h => { h with fencing := true }))) (1)) ∧
    ((fun (s : State) (m : Master) (n : Tid) => (s.admits m (6 + n) 0x1C false) ∧ (s.tidOf m = n)) (hartUp) (.hart 1) (1)) ∧
    ((fun (s : State) (m : Master) (n : Tid) => (s.admits m (6 + n) 0x1C false) ∧ (s.tidOf m ≠ n)) (hartUp) (.hart 0) (1)) ∧
    ((fun (s : State) (n : Fin 4) (r : Rec) => ((s.postOf n).fifo.length = 16))
      (({ State.reset with post := Vector.replicate 4 ⟨List.replicate 16 ⟨0, 0, 0, 0, false⟩, false, false⟩ })) (2) (⟨0, 0, 0, 0, true⟩)) :=
  by refine ⟨?_, ?_, ?_, ?_, ?_, ?_, ?_, ?_, ?_⟩ <;> decide +kernel

/-- The hypotheses of Obligations.Watchdogs, clauses 1 to 9 that have any, are met. -/
theorem test_hyp_Watchdogs :
    ((fun (s : State) (n : Tid) (v : Word) (us : Nat) => (s.admits (.hart n) 0x23 (0x20 + 0x20 * n) true) ∧ (s.wdtRuns n = true) ∧
  (us ≤ s.get (WDT.TIMEOUT n)) ∧ (v = 0xA5C3)) ((hartUp.put (WDT.EN 0) 1)) (0) (0xA5C3) (5)) ∧
    ((fun (s : State) (n : Tid) (v : Word) (us : Nat) (b : Nat) => (s.admits (.hart n) 0x23 (0x20 + 0x20 * n) true) ∧ (s.wdtRuns n = true) ∧
      (us ≤ s.get (WDT.TIMEOUT n)) ∧ ((vget s.wdt n ⟨none⟩).half = some b) ∧ (v = 0x5A3C) ∧ (us ≤ b + 100) ∧
      (s.get (WDT.OPEN n) ≤ us)) (({ hartUp.put (WDT.EN 0) 1 with wdt := vput hartUp.wdt 0 ⟨some 5⟩ })) (0) (0x5A3C) (105) (5)) ∧
    ((fun (s : State) (n : Tid) (v : Word) (us : Nat) (b : Nat) => (s.admits (.hart n) 0x23 (0x20 + 0x20 * n) true) ∧ (s.wdtRuns n = true) ∧
      (us ≤ s.get (WDT.TIMEOUT n)) ∧ ((vget s.wdt n ⟨none⟩).half = some b) ∧ (v = 0x5A3C) ∧
      (b + 100 < us)) (({ hartUp.put (WDT.EN 1) 1 with wdt := vput hartUp.wdt 1 ⟨some 5⟩ })) (1) (0x5A3C) (106) (5)) ∧
    ((fun (s : State) (n : Tid) (v : Word) (us : Nat) => (s.admits (.hart n) 0x23 (0x20 + 0x20 * n) true) ∧ (s.wdtRuns n = true) ∧
      (us ≤ s.get (WDT.TIMEOUT n)) ∧ ((vget s.wdt n ⟨none⟩).half = none) ∧ (v = 0x5A3C)) ((hartUp.put (WDT.EN 1) 1)) (1) (0x5A3C) (106)) ∧
    ((fun (s : State) (v : Word) (us : Nat) (b : Nat) => (s.admits (.hart 0) 0x23 0x20 true) ∧ (s.wdtRuns 0 = true) ∧ (us ≤ s.get (WDT.TIMEOUT 0)) ∧
      ((vget s.wdt 0 ⟨none⟩).half = some b) ∧ (v = 0x5A3C) ∧ (us ≤ b + 100) ∧
      (us < s.get (WDT.OPEN 0))) (({ (hartUp.put (WDT.EN 0) 1).put (WDT.OPEN 0) 11 with wdt := vput hartUp.wdt 0 ⟨some 5⟩ })) (0x5A3C) (10) (5)) ∧
    ((fun (s : State) (n : Fin 3) (v : Word) (us : Nat) (b : Nat) => (s.admits (.hart n.succ) 0x23 (0x20 + 0x20 * n.succ) true) ∧
      (s.wdtRuns n.succ = true) ∧ (us ≤ s.get (WDT.TIMEOUT n.succ)) ∧ (s.rst.inReset = false) ∧ (s.rst.quiescing.contains (n + 1) = false) ∧
      ((vget s.wdt n.succ ⟨none⟩).half = some b) ∧ (v = 0x5A3C) ∧ (us ≤ b + 100) ∧
      (us < s.get (WDT.OPEN n.succ))) (({ (hartUp.put (WDT.EN 1) 1).put (WDT.OPEN 1) 11 with wdt := vput hartUp.wdt 1 ⟨some 5⟩ })) (0) (0x5A3C) (10)
      (5)) ∧
    ((fun (s : State) (v : Word) (us : Nat) => (s.admits (.hart 0) 0x23 0x20 true) ∧ (s.wdtRuns 0 = true) ∧ (us ≤ s.get (WDT.TIMEOUT 0)) ∧
      (v ≠ 0xA5C3) ∧ (v ≠ 0x5A3C)) ((hartUp.put (WDT.EN 0) 1)) (1) (0)) ∧
    ((fun (s : State) (n : Fin 3) (v : Word) (us : Nat) => (s.admits (.hart n.succ) 0x23 (0x20 + 0x20 * n.succ) true) ∧ (s.wdtRuns n.succ = true) ∧
      (us ≤ s.get (WDT.TIMEOUT n.succ)) ∧ (s.rst.inReset = false) ∧ (s.rst.quiescing.contains (n + 1) = false) ∧ (v ≠ 0xA5C3) ∧
      (v ≠ 0x5A3C)) ((hartUp.put (WDT.EN 1) 1)) (0) (1) (0)) ∧
    ((fun (s : State) (v : Word) (us : Nat) => (s.admits (.hart 0) 0x23 0x20 true) ∧ (s.wdtRuns 0 = true) ∧
      (s.get (WDT.TIMEOUT 0) < us)) ((hartUp.put (WDT.EN 0) 1)) (0xA5C3) (2 ^ 32)) :=
  by refine ⟨?_, ?_, ?_, ?_, ?_, ?_, ?_, ?_, ?_⟩ <;> decide +kernel

/-- The hypotheses of Obligations.Watchdogs, clauses 10 to 17 that have any, are met. -/
theorem test_hyp_Watchdogs_2 :
    ((fun (s : State) (n : Fin 3) (v : Word) (us : Nat) => (s.admits (.hart n.succ) 0x23 (0x20 + 0x20 * n.succ) true) ∧ (s.wdtRuns n.succ = true) ∧
  (s.get (WDT.TIMEOUT n.succ) < us) ∧ (s.rst.inReset = false) ∧
  (s.rst.quiescing.contains (n + 1) = false)) ((hartUp.put (WDT.EN 1) 1)) (0) (0x5A3C) (2 ^ 32)) ∧
    ((fun (s : State) (n : Tid) (v : Word) (us : Nat) => (s.admits (.hart n) 0x23 (0x20 + 0x20 * n) true) ∧
      (s.wdtRuns n = false)) (hartUp) (1) (1) (0)) ∧
    ((fun (s : State) (n : Tid) => (s.wdtRuns n = true) ∧ (s.get (WDT.LEAD n) ≠ 0)) (((hartUp.put (WDT.EN 1) 1).put (WDT.LEAD 1) 5)) (1)) ∧
    ((fun (s : State) (n : Tid) => ((s.wdtRuns n = false ∨ s.get (WDT.LEAD n) = 0))) (hartUp) (1)) ∧
    ((fun (s : State) => (s.wdtRuns 0 = true)) ((hartUp.put (WDT.EN 0) 1))) ∧
    ((fun (s : State) (n : Fin 3) => (s.wdtRuns n.succ = true) ∧ (s.rst.inReset = false) ∧
      (s.rst.quiescing.contains (n + 1) = false)) ((hartUp.put (WDT.EN 1) 1)) (0)) ∧
    ((fun (s : State) (n : Tid) => (s.wdtRuns n = false)) (hartUp) (1)) ∧
    ((fun (s : State) (m : Master) (n : Tid) => (s.admits m 0x23 (0x10 + 0x20 * n) true)) (hartUp) (.hart 1) (1)) :=
  by refine ⟨?_, ?_, ?_, ?_, ?_, ?_, ?_, ?_⟩ <;> decide +kernel

/-- The hypotheses of Obligations.FlashCommands, clauses 1 to 7 that have any, are met. -/
theorem test_hyp_FlashCommands :
    ((fun (s : State) (m : Master) (n : Tid) (v : Word) => (s.admits m 0x1C (0x30 + 0x10 * n) true) ∧ (s.get (FLASHC.STATE n) ≠ 1) ∧
  (s.get (FLASHC.STATE n) ≠ 2)) (State.reset) (.hart 1) (1) (0x800010)) ∧
    ((fun (s : State) (m : Master) (n : Tid) (v : Word) => (s.admits m 0x1C (0x30 + 0x10 * n) true) ∧ (s.get (FLASHC.STATE n) ≠ 1) ∧
      (s.get (FLASHC.STATE n) ≠ 2)) (State.reset) (.hart 1) (1) (0x800010)) ∧
    ((fun (s : State) (m : Master) (n : Tid) (v : Word) => (s.admits m 0x1C (0x30 + 0x10 * n) true) ∧ (s.get (FLASHC.STATE n) ≠ 1) ∧
      (s.get (FLASHC.STATE n) ≠ 2)) (State.reset) (.hart 1) (1) (0x800010)) ∧
    ((fun (s : State) (m : Master) (n : Tid) (v : Word) => (s.admits m 0x1C (0x30 + 0x10 * n) true) ∧ ((s.get (FLASHC.STATE n) = 1 ∨
      s.get (FLASHC.STATE n) = 2))) ((State.reset.put (FLASHC.STATE 1) 2)) (.hart 1) (1) (0x800010)) ∧
    ((fun (s : State) (n : Fin 4) (rest : List Nat) (c : Nat) => (s.up .core = true) ∧ (s.mem.flashOp = none) ∧ (s.mem.flashQueue = n.val :: rest) ∧
      (s.flashCheck n = some c)) (({ State.reset.put (FLASHC.OP 1) 2 with mem := { State.reset.mem with flashQueue := [1, 2] } })) (1) ([2]) (5)) ∧
    ((fun (s : State) (n : Fin 4) (rest : List Nat) => (s.up .core = true) ∧ (s.mem.flashOp = none) ∧ (s.mem.flashQueue = n.val :: rest) ∧
      (s.flashCheck n = none) ∧ (s.get (FLASHC.OP n) = 1))
      (({ ((State.reset.put (FLASHC.OP 1) 1).put (FLASHC.ADDR 1) 0x800010) with mem := { State.reset.mem with flashQueue := [1, 2], latched := vput State.reset.mem.latched 1 [1, 2] }, owners := [(256 * 11, 1)] })) (1) ([2])) ∧
    ((fun (s : State) (n : Fin 4) (rest : List Nat) => (s.up .core = true) ∧ (s.mem.flashOp = none) ∧ (s.mem.flashQueue = n.val :: rest) ∧
      (s.flashCheck n = none) ∧ (s.get (FLASHC.OP n) = 2))
      (({ ((State.reset.put (FLASHC.OP 1) 2).put (FLASHC.ADDR 1) 0x800010) with mem := { State.reset.mem with flashQueue := [1, 2] }, owners := [(256 * 11, 1)] })) (1) ([2])) :=
  by refine ⟨?_, ?_, ?_, ?_, ?_, ?_, ?_⟩ <;> decide +kernel

/-- The hypotheses of Obligations.FlashCommands, clauses 8 to 14 that have any, are met. -/
theorem test_hyp_FlashCommands_2 :
    ((fun (s : State) (n : Fin 4) (ok : Bool) (k : Nat) => (s.mem.flashOp = some (n.val, 0, k)) ∧ (s.flashCut = false) ∧ (s.island .core ≠ .lost) ∧
  (s.get (FLASHC.OP n) = 1)) (({ ((State.reset.put (FLASHC.OP 1) 1).put (FLASHC.ADDR 1) 0x800010) with mem := { State.reset.mem with flashOp := some (1, 0, 0), broken := [(0x800010, ())] } })) (1) (true) (0)) ∧
    ((fun (s : State) (n : Fin 4) (k : Nat) => (s.mem.flashOp = some (n.val, 0, k)) ∧ (s.flashCut = false) ∧ (s.island .core ≠ .lost) ∧
      (s.get (FLASHC.OP n) = 3)) (({ ((State.reset.put (FLASHC.OP 1) 3).put (FLASHC.ADDR 1) 0x804010) with mem := { State.reset.mem with flashOp := some (1, 0, 0) } })) (1) (0)) ∧
    ((fun (s : State) (n : Fin 4) (g : Nat) (k : Nat) (ok : Bool) => (s.mem.flashOp = some (n.val, g + 1, k)) ∧ (g < 3) ∧
      (s.on FLASHC.SUSPENDED = false) ∧ (s.flashCut = false) ∧
      (s.island .core ≠ .lost)) (({ ((State.reset.put (FLASHC.OP 1) 2).put (FLASHC.ADDR 1) 0x800010) with mem := { State.reset.mem with flashOp := some (1, 3, 16) } })) (1) (2) (16) (true)) ∧
    ((fun (s : State) (n : Fin 4) (k : Nat) => (s.mem.flashOp = some (n.val, 4, k)) ∧ (s.on FLASHC.SUSPENDED = false) ∧ (s.flashCut = false) ∧
      (s.island .core ≠ .lost) ∧ (s.get (FLASHC.OP n) = 2))
      (({ ((State.reset.put (FLASHC.OP 1) 2).put (FLASHC.ADDR 1) 0x800010) with mem := { State.reset.mem with flashOp := some (1, 4, 0) } })) (1)
      (0)) ∧
    ((fun (s : State) (ok : Bool) => (s.island .core = .lost)) (((State.reset.setIsland .core .lost).modMem (fun m =>
      { m with flashOp := some (1, 0, 0) }))) (true)) ∧
    ((fun (s : State) (ok : Bool) => (s.island .core = .lost)) (((State.reset.setIsland .core .lost).modMem (fun m =>
      { m with flashOp := some (1, 4, 0) }))) (true)) ∧
    ((fun (s : State) (d : Bool) (k : Nat) (g : Nat) (u : Nat) => (s.mem.flashOp = some (k, g + 1, u)) ∧ (s.arrayBusy d = true) ∧
      (s.on FLASHC.SUSPENDED = false) ∧ (u < 16))
      (({ ((State.reset.put (FLASHC.OP 1) 2).put (FLASHC.ADDR 1) 0x800010) with mem := { State.reset.mem with flashOp := some (1, 3, 15) } })) (true)
      (1) (2) (15)) :=
  by refine ⟨?_, ?_, ?_, ?_, ?_, ?_, ?_⟩ <;> decide +kernel

/-- The hypotheses of Obligations.ScrubCrcAndTrng, clauses 1 to 6 that have any, are met. -/
theorem test_hyp_ScrubCrcAndTrng :
    ((fun (s : State) => (s.on MEMC.SCRUB_EN = true) ∧ (s.up .core = true) ∧ (s.power.phase = .steady)) ((State.reset.put MEMC.SCRUB_EN 1))) ∧
    ((fun (s : State) => (s.mem.scrubDue = true) ∧ (s.up .core = true) ∧
      (s.on MEMC.STEALING = false)) (({ State.reset with mem := { State.reset.mem with scrubDue := true } }))) ∧
    ((fun (s : State) => (s.mem.scrubDue = true) ∧
      (s.up .core = true)) (({ State.reset with mem := { State.reset.mem with scrubDue := true, scrubPos := 1, single := [(0x20000000, ()), (0x20000008, ())], ecc := [(0x20000004, ()), (0x30000000, ())] } }))) ∧
    ((fun (s : State) (l : List (Fin 262144)) (w : Fin 262144) => (s.mem.scrubDue = true) ∧ (s.up .core = true) ∧ (s.mem.scrubPos ≤ w) ∧
      (s.mem.ecc = []) ∧ ((s.postOf 0).fifo = [])) (({ State.reset with mem := { State.reset.mem with scrubDue := true } })) ([7, 9]) (9)) ∧
    ((fun (s : State) (l : List (Fin 262144)) => ((s.mem.scrubDue = false ∨ s.up .core = false))) (State.reset) ([7])) ∧
    ((fun (s : State) (m : Master) (w : Width) (v : Word) => (s.admits m 0x1E 0x20 true)) (State.reset) (.hart 0) (.half) (0x3231)) :=
  by refine ⟨?_, ?_, ?_, ?_, ?_, ?_⟩ <;> decide +kernel

/-- The hypotheses of Obligations.ScrubCrcAndTrng, clauses 7 to 12 that have any, are met. -/
theorem test_hyp_ScrubCrcAndTrng_2 :
    ((fun (s : State) (m : Master) (v : Word) => (s.admits m 0x1E 0x18 true)) (State.reset) (.hart 0) (0x3231)) ∧
    ((fun (s : State) (m : Master) (v : Word) => (s.admits m 0x1E 0x10 true)) (State.reset) (.hart 0) (2)) ∧
    ((fun (s : State) (m : Master) => (s.admits m 0x20 0x14 false) ∧ (s.on TRNG.VALID = true)) ((State.reset.put TRNG.VALID 1)) (.hart 0)) ∧
    ((fun (s : State) (m : Master) => (s.admits m 0x20 0x14 false) ∧ (s.on TRNG.VALID = false)) ((State.reset.put TRNG.VALID 0)) (.hart 0)) ∧
    ((fun (s : State) => (s.up .core = true)) (State.reset)) ∧
    ((fun (s : State) => (s.up .core = true)) (State.reset)) :=
  by refine ⟨?_, ?_, ?_, ?_, ?_, ?_⟩ <;> decide +kernel

/-- The hypotheses of Obligations.DescriptorQueues, clauses 1 to 7 that have any, are met. -/
theorem test_hyp_DescriptorQueues :
    ((fun (s : State) (m : Master) => (s.admits m 0xE 0x1C false) ∧ (s.inFlight (s.tidOf m) < s.get (QMGR.QUOTA (s.tidOf m))) ∧
  (s.freeSlots ≠ [])) (State.withRam ((withSlot 1 [])) ram6) (.hart 0)) ∧
    ((fun (s : State) (m : Master) => (s.admits m 0xE 0x1C false) ∧
      (s.get (QMGR.QUOTA (s.tidOf m)) ≤ s.inFlight (s.tidOf m))) (State.withRam (((withSlot 1 []).put (QMGR.QUOTA 0) 1)) ram6) (.hart 0)) ∧
    ((fun (s : State) (m : Master) (q : Fin 64) (v : Word) (d : Slot) => (s.admits m 0xE (0x104 + 8 * q) true) ∧
      (s.slotAt (bits v.toNat 0 11) = some d) ∧ (d.owner = s.tidOf m) ∧ (d.state = 1) ∧
      (s.deadlinePassed (bits v.toNat 0 11) = false)) (State.withRam ((withSlot 1 [])) ram6) (.hart 0) (2) (5) (⟨0, 1, 0, 2, false, true⟩)) ∧
    ((fun (s : State) (m : Master) (q : Fin 64) (v : Word) => (s.admits m 0xE (0x104 + 8 * q) true) ∧
      (((s.slotAt (bits v.toNat 0 11)).map (fun d => d.owner == s.tidOf m && d.state == 1)) ≠ some true)) (State.withRam ((withSlot 1 [])) ram6)
      (.hart 0) (2) (6)) ∧
    ((fun (s : State) (m : Master) (v : Word) (d : Slot) => (s.admits m 0xE 0x20 true) ∧ (s.slotAt (bits v.toNat 0 11) = some d) ∧
      (d.owner = s.tidOf m) ∧ (d.state = 1)) (State.withRam ((withSlot 1 [])) ram6) (.hart 0) (5) (⟨0, 1, 0, 2, false, true⟩)) ∧
    ((fun (s : State) (m : Master) (v : Word) (d : Slot) (e : Disturb) => (e.upset = Upset.none) ∧ (s.admits m 0xE 0x24 true) ∧
      (s.slotAt (bits v.toNat 0 11) = some d) ∧ (d.owner = s.tidOf m) ∧ (d.state = 2) ∧ (s.link.cur = none) ∧ (s.link.next = none) ∧
      (s.deadlinePassed (bits v.toNat 0 11) = false)) (State.withRam ((withSlot 2 [])) ram6) (.hart 0) (5) (⟨0, 2, 0, 2, false, true⟩) (⟨0,
      Upset.none⟩)) ∧
    ((fun (s : State) (c : Fin 64) (n : Nat) (slot : Nat) (rest : List Nat) (d : Slot) => (c ≠ 0x30) ∧ (c ≠ 0x31) ∧ ((0x20 ≤ c.val → c.val < 0x30 →
      s.up .can = true ∧ s.objBusy ((c - 0x20) / 8) (120 + c % 8) = false)) ∧ (s.up .core = true) ∧ (s.activeAt c = none) ∧
      (s.descBad slot [0, 2, 3, 4] = none) ∧ (s.nextQueue c = some n) ∧ (s.queueAt n = slot :: rest) ∧ (s.slotAt slot = some d) ∧
      (s.deadlinePassed slot = false) ∧ (s.descValid slot c = true)) (State.withRam ((((withSlot 2 [1, 0, 0x20001000, 0x20001100, 0x100010]).put
      (QMGR.Q_EN 2) 1).put (DMA.EN 0) 1)) ram7) (0) (2) (5) ([]) (⟨0, 2, 0, 2, false, true⟩)) :=
  by refine ⟨?_, ?_, ?_, ?_, ?_, ?_, ?_⟩ <;> decide +kernel

/-- The hypotheses of Obligations.DescriptorQueues, clauses 8 to 14 that have any, are met. -/
theorem test_hyp_DescriptorQueues_2 :
    ((fun (s : State) (c : Fin 64) (n : Nat) (slot : Nat) (rest : List Nat) (d : Slot) => (c ≠ 0x30) ∧ (c ≠ 0x31) ∧ ((0x20 ≤ c.val → c.val < 0x30 →
  s.up .can = true ∧ s.objBusy ((c - 0x20) / 8) (120 + c % 8) = false)) ∧ (s.up .core = true) ∧ (s.activeAt c = none) ∧
  (s.descBad slot [0, 2, 3, 4] = none) ∧ (s.nextQueue c = some n) ∧ (s.queueAt n = slot :: rest) ∧ (s.slotAt slot = some d) ∧
  (s.deadlinePassed slot = false) ∧ (s.descValid slot c = false) ∧ (s.get (QMGR.RING_SIZE d.owner) = 0) ∧
  (d.owner < 4)) (State.withRam ((((withSlot 2 [7, 0, 0x20001000, 0x20001100, 0x100010]).put (QMGR.Q_EN 2) 1).put (DMA.EN 0) 1)) ram8) (0) (2) (5)
  ([]) (⟨0, 2, 0, 2, false, true⟩)) ∧
    ((fun (s : State) (c : Fin 64) (n : Nat) (slot : Nat) (rest : List Nat) (d : Slot) (w : Fin 8) => (c ≠ 0x30) ∧ (c ≠ 0x31) ∧ ((0x20 ≤ c.val →
      c.val < 0x30 → s.up .can = true ∧ s.objBusy ((c - 0x20) / 8) (120 + c % 8) = false)) ∧ (s.up .core = true) ∧ (s.activeAt c = none) ∧
      (s.mem.ecc = []) ∧ ((w = 0 ∨ w = 2 ∨ w = 3 ∨ w = 4)) ∧ (s.nextQueue c = some n) ∧ (s.queueAt n = slot :: rest) ∧ (s.slotAt slot = some d) ∧
      (s.deadlinePassed slot = false) ∧ (s.get (QMGR.RING_SIZE d.owner) = 0) ∧ (d.owner < 4) ∧ (s.on (QMGR.Q_LINE_EN n) = false) ∧
      (d.queue = n)) (State.withRam ((((withSlot 2 [1, 0, 0x20001000, 0x20001100, 0x100010]).put (QMGR.Q_EN 2) 1).put (DMA.EN 0) 1)) ram7) (0) (2)
      (5) ([]) (⟨0, 2, 0, 2, false, true⟩) (2)) ∧
    ((fun (s : State) (c : Fin 64) (a : Active) (d : Slot) => (s.up .core = true) ∧ (s.descBad a.slot [4, 6, 7] = none) ∧ (s.activeAt c = some a) ∧
      (a.status = some stDone) ∧ (s.slotAt a.slot = some d) ∧ (s.deadlinePassed a.slot = false) ∧ (bit (s.descWord a.slot 6) 31 = false) ∧
      (bit (s.descWord a.slot 4) 16 = false)) (State.withRam (((serving 0 [1, 0, 0x20001000, 0x20001100, 0x100010]).outcome 0 1)) ram7) (0) (⟨5, 2,
      0, 0, none, some 1⟩) (⟨0, 3, 0, 2, false, true⟩)) ∧
    ((fun (s : State) (c : Fin 64) (a : Active) (d : Slot) => (s.up .core = true) ∧ (s.descBad a.slot [4, 6, 7] = none) ∧ (s.activeAt c = some a) ∧
      (a.status = some stDone) ∧ (s.slotAt a.slot = some d) ∧ (s.deadlinePassed a.slot = false) ∧ (d.cancel = false) ∧
      (bit (s.descWord a.slot 6) 31 = true) ∧ (bits (s.descWord a.slot 6) 0 11 = a.slot) ∧
      (bit (s.descWord a.slot 4) 16 = false)) (State.withRam (((serving 0 [1, 0, 0x20001000, 0x20001100, 0x100010, 0, 0x80000005]).outcome 0 1))
      ram9) (0) (⟨5, 2, 0, 0, none, some 1⟩) (⟨0, 3, 0, 2, false, true⟩)) ∧
    ((fun (s : State) (c : Fin 64) (a : Active) (d : Slot) (p : Nat) => (s.up .core = true) ∧ (s.descBad a.slot [4, 6, 7] = none) ∧
      (s.activeAt c = some a) ∧ (a.status = some stDone) ∧ (s.slotAt a.slot = some d) ∧ (s.deadlinePassed a.slot = false) ∧
      (bit (s.descWord a.slot 6) 31 = false) ∧ (bit (s.descWord a.slot 4) 16 = true) ∧ (s.get (QMGR.RING_SIZE d.owner) ≠ 0) ∧
      ((s.get (QMGR.RING_HEAD d.owner) + 1) % s.get (QMGR.RING_SIZE d.owner) ≠ s.get (QMGR.RING_TAIL d.owner) % s.get (QMGR.RING_SIZE d.owner)) ∧
      (p = s.get (QMGR.RING_BASE d.owner) * 8 + 8 * s.get (QMGR.RING_HEAD d.owner)) ∧ (s.sramFailure d.owner p = none) ∧
      (s.sramFailure d.owner (p + 4) = none) ∧
      (d.owner < 4)) (State.withRam (((((serving 0 [1, 0, 0x20001000, 0x20001100, 0x110010, 0, 0, 0x1234]).outcome 0 1).put (QMGR.RING_SIZE 0) 8).put
      (QMGR.RING_BASE 0) 0x4000400 |>.put (QMGR.RING_HEAD 0) 1)) ram10) (0) (⟨5, 2, 0, 0, none, some 1⟩) (⟨0, 3, 0, 2, false, true⟩) (0x20002008)) ∧
    ((fun (s : State) (slot : Fin 2048) (d : Slot) => (s.deadlinePassed slot = true) ∧ (s.up .core = true) ∧ (s.descBad slot [4, 7] = none) ∧
      (s.slotAt slot = some d) ∧ (d.state = 2) ∧ (d.status = 0) ∧ (d.owner < 4) ∧ (s.get (QMGR.RING_SIZE d.owner) = 0) ∧
      ((s.postOf d.owner).fifo.length < 16)) (State.withRam
      (({ withSlot 2 [1, 0, 0x20001000, 0x20001100, 0x100010, 5] with ntu := { noNtu with ns := 6 } })) ram11) (5) (⟨0, 2, 0, 2, false, true⟩)) ∧
    ((fun (s : State) (slot : Fin 2048) => (s.deadlinePassed slot = false)) (State.withRam
      (({ withSlot 2 [1, 0, 0x20001000, 0x20001100, 0x100010, 5] with ntu := { noNtu with ns := 5 } })) ram11) (5)) :=
  by refine ⟨?_, ?_, ?_, ?_, ?_, ?_, ?_⟩ <;> decide +kernel

/-- The hypotheses of Obligations.EngineDescriptors, clauses 1 to 8 that have any, are met. -/
theorem test_hyp_EngineDescriptors :
    ((fun (s : State) (ch : Fin 16) (n : Nat) (d : Disturb) (a : Active) (t0 : Nat) (unit : Nat) (total : Nat) (m : Nat) (src : Nat) (dst : Nat) =>
  (s.jobOf ch 0x01 = some a) ∧ (d.upset = Upset.none) ∧ (t0 = s.tidOf (.dma ch)) ∧ (s.rst.quiescing.contains t0 = false) ∧
  ((∀ e ∈ s.q.slots, e.2.cancel = false)) ∧ (bits (s.descWord a.slot 4) 19 2 ≠ 3) ∧ (unit = 2 ^ bits (s.descWord a.slot 4) 19 2) ∧
  (total = bits (s.descWord a.slot 4) 0 16 / unit) ∧ (m = dmaStop (s.descWord a.slot 3) (s.descWord a.slot 4) total a.done n - a.done) ∧
  (src = s.descWord a.slot 2 + unit * a.done) ∧ (dst = s.descWord a.slot 3 + unit * a.done) ∧ (bits (s.descWord a.slot 4) 17 2 = 0) ∧
  (src % unit = 0) ∧ (dst % unit = 0) ∧ (s.plain t0 src (unit * m)) ∧ (s.plain t0 dst (unit * m)) ∧ ((src + unit * m ≤ dst ∨
  dst + unit * m ≤ src))) (State.withRam ((serving 3 [1, 0, 0x20000100, 0x20000202, 0x80006])) ram12) (3) (9) (⟨1, Upset.none⟩) (⟨5, 2, 0, 0, none,
  none⟩) (0) (2) (3) (3) (0x20000100) (0x20000202)) ∧
    ((fun (s : State) (ch : Fin 16) (n : Nat) (d : Disturb) (a : Active) (t0 : Nat) (unit : Nat) (total : Nat) (m : Nat) (src : Nat) (dst : Nat) =>
      (s.jobOf ch 0x01 = some a) ∧ (d.upset = Upset.none) ∧ (t0 = s.tidOf (.dma ch)) ∧ (s.rst.quiescing.contains t0 = false) ∧
      ((∀ e ∈ s.q.slots, e.2.cancel = false)) ∧ (bits (s.descWord a.slot 4) 19 2 ≠ 3) ∧ (unit = 2 ^ bits (s.descWord a.slot 4) 19 2) ∧
      (total = bits (s.descWord a.slot 4) 0 16 / unit) ∧ (m = dmaStop (s.descWord a.slot 3) (s.descWord a.slot 4) total a.done n - a.done) ∧
      (src = s.descWord a.slot 2 + unit * a.done) ∧ (dst = s.descWord a.slot 3 + unit * a.done) ∧ (bits (s.descWord a.slot 4) 17 2 = 0) ∧
      (src % unit = 0) ∧ (dst % unit = 0) ∧ (s.plain t0 src (unit * m)) ∧ (s.plain t0 dst (unit * m)) ∧ ((src + unit * m ≤ dst ∨
      dst + unit * m ≤ src))) (State.withRam ((serving 3 [1, 0, 0x20000100, 0x20000202, 0x80006])) ram12) (3) (1) (⟨1, Upset.none⟩) (⟨5, 2, 0, 0,
      none, none⟩) (0) (2) (3) (1) (0x20000100) (0x20000202)) ∧
    ((fun (s : State) (ch : Fin 16) (n : Nat) (d : Disturb) (a : Active) (t0 : Nat) (unit : Nat) (total : Nat) (m : Nat) (src : Nat) (dst : Nat) (sl
      : Nat) (dl : Nat) (sf : Bool) (df : Bool) => (s.jobOf ch 0x01 = some a) ∧ (d.upset = Upset.none) ∧ (t0 = s.tidOf (.dma ch)) ∧
      (s.rst.quiescing.contains t0 = false) ∧ ((∀ e ∈ s.q.slots, e.2.cancel = false)) ∧ (bits (s.descWord a.slot 4) 19 2 ≠ 3) ∧
      (unit = 2 ^ bits (s.descWord a.slot 4) 19 2) ∧ (total = bits (s.descWord a.slot 4) 0 16 / unit) ∧
      (m = dmaStop (s.descWord a.slot 3) (s.descWord a.slot 4) total a.done n - a.done) ∧ (sf = bit (s.descWord a.slot 4) 17) ∧
      (df = bit (s.descWord a.slot 4) 18) ∧ (sf || df) ∧ (src = s.descWord a.slot 2 + (if sf then 0 else unit * a.done)) ∧
      (dst = s.descWord a.slot 3 + (if df then 0 else unit * a.done)) ∧ (sl = unit * (if sf then 1 else m)) ∧ (dl = unit * (if df then 1 else m)) ∧
      (src % unit = 0) ∧ (dst % unit = 0) ∧ (s.plain t0 src sl) ∧ (s.plain t0 dst dl) ∧ ((src + sl ≤ dst ∨
      dst + dl ≤ src))) (State.withRam ((serving 3 [1, 0, 0x20000100, 0x20000202, 0xA0006])) ram13) (3) (9) (⟨1, Upset.none⟩) (⟨5, 2, 0, 0, none,
      none⟩) (0) (2) (3) (3) (0x20000100) (0x20000202) (2) (6) (true) (false)) ∧
    ((fun (s : State) (ch : Fin 16) (n : Nat) (d : Disturb) (a : Active) (t0 : Nat) (unit : Nat) (total : Nat) (m : Nat) (src : Nat) (dst : Nat) (sl
      : Nat) (dl : Nat) (sf : Bool) (df : Bool) => (s.jobOf ch 0x01 = some a) ∧ (d.upset = Upset.none) ∧ (t0 = s.tidOf (.dma ch)) ∧
      (s.rst.quiescing.contains t0 = false) ∧ ((∀ e ∈ s.q.slots, e.2.cancel = false)) ∧ (bits (s.descWord a.slot 4) 19 2 ≠ 3) ∧
      (unit = 2 ^ bits (s.descWord a.slot 4) 19 2) ∧ (total = bits (s.descWord a.slot 4) 0 16 / unit) ∧
      (m = dmaStop (s.descWord a.slot 3) (s.descWord a.slot 4) total a.done n - a.done) ∧ (sf = bit (s.descWord a.slot 4) 17) ∧
      (df = bit (s.descWord a.slot 4) 18) ∧ (sf || df) ∧ (src = s.descWord a.slot 2 + (if sf then 0 else unit * a.done)) ∧
      (dst = s.descWord a.slot 3 + (if df then 0 else unit * a.done)) ∧ (sl = unit * (if sf then 1 else m)) ∧ (dl = unit * (if df then 1 else m)) ∧
      (src % unit = 0) ∧ (dst % unit = 0) ∧ (s.plain t0 src sl) ∧ (s.plain t0 dst dl) ∧ ((src + sl ≤ dst ∨
      dst + dl ≤ src))) (State.withRam ((serving 3 [1, 0, 0x20000100, 0x20000202, 0xC0006])) ram14) (3) (1) (⟨1, Upset.none⟩) (⟨5, 2, 0, 0, none,
      none⟩) (0) (2) (3) (2) (0x20000100) (0x20000202) (4) (2) (false) (true)) ∧
    ((fun (s : State) (ch : Fin 16) (n : Nat) (d : Disturb) (a : Active) (t0 : Nat) (unit : Nat) (total : Nat) (m : Nat) (src : Nat) (dst : Nat) (sl
      : Nat) (dl : Nat) (sf : Bool) (df : Bool) => (s.jobOf ch 0x01 = some a) ∧ (d.upset = Upset.none) ∧ (t0 = s.tidOf (.dma ch)) ∧
      (s.rst.quiescing.contains t0 = false) ∧ ((∀ e ∈ s.q.slots, e.2.cancel = false)) ∧ (bits (s.descWord a.slot 4) 19 2 ≠ 3) ∧
      (unit = 2 ^ bits (s.descWord a.slot 4) 19 2) ∧ (total = bits (s.descWord a.slot 4) 0 16 / unit) ∧
      (m = dmaStop (s.descWord a.slot 3) (s.descWord a.slot 4) total a.done n - a.done) ∧ (sf = bit (s.descWord a.slot 4) 17) ∧
      (df = bit (s.descWord a.slot 4) 18) ∧ (sf || df) ∧ (src = s.descWord a.slot 2 + (if sf then 0 else unit * a.done)) ∧
      (dst = s.descWord a.slot 3 + (if df then 0 else unit * a.done)) ∧ (sl = unit * (if sf then 1 else m)) ∧ (dl = unit * (if df then 1 else m)) ∧
      (src % unit = 0) ∧ (dst % unit = 0) ∧ (s.plain t0 src sl) ∧ (s.plain t0 dst dl) ∧ ((src + sl ≤ dst ∨
      dst + dl ≤ src))) (State.withRam ((serving 3 [1, 0, 0x20000100, 0x20000202, 0x60006])) ram15) (3) (1) (⟨1, Upset.none⟩) (⟨5, 2, 0, 0, none,
      none⟩) (0) (1) (6) (4) (0x20000100) (0x20000202) (1) (1) (true) (true)) ∧
    ((fun (s : State) (ch : Fin 16) (n : Nat) (d : Disturb) (a : Active) (t0 : Nat) (unit : Nat) (total : Nat) (m : Nat) (dst : Nat) => (s.jobOf ch
      0x02 = some a) ∧ (d.upset = Upset.none) ∧ (t0 = s.tidOf (.dma ch)) ∧ (s.rst.quiescing.contains t0 = false) ∧
      ((∀ e ∈ s.q.slots, e.2.cancel = false)) ∧ (bits (s.descWord a.slot 4) 19 2 ≠ 3) ∧ (unit = 2 ^ bits (s.descWord a.slot 4) 19 2) ∧
      (total = bits (s.descWord a.slot 4) 0 16 / unit) ∧ (m = dmaStop (s.descWord a.slot 3) (s.descWord a.slot 4) total a.done n - a.done) ∧
      (dst = s.descWord a.slot 3 + unit * a.done) ∧ (bits (s.descWord a.slot 4) 18 1 = 0) ∧ (dst % unit = 0) ∧
      (s.plain t0 dst (unit * m))) (State.withRam ((serving 3 [2, 0, 0x11223344, 0x20000204, 0x10000C])) ram16) (3) (3) (⟨1, Upset.none⟩) (⟨5, 2, 0,
      0, none, none⟩) (0) (4) (3) (3) (0x20000204)) ∧
    ((fun (s : State) (ch : Fin 16) (n : Nat) (d : Disturb) (a : Active) (t0 : Nat) (unit : Nat) (total : Nat) (m : Nat) (dst : Nat) => (s.jobOf ch
      0x02 = some a) ∧ (d.upset = Upset.none) ∧ (t0 = s.tidOf (.dma ch)) ∧ (s.rst.quiescing.contains t0 = false) ∧
      ((∀ e ∈ s.q.slots, e.2.cancel = false)) ∧ (bits (s.descWord a.slot 4) 19 2 ≠ 3) ∧ (unit = 2 ^ bits (s.descWord a.slot 4) 19 2) ∧
      (total = bits (s.descWord a.slot 4) 0 16 / unit) ∧ (m = dmaStop (s.descWord a.slot 3) (s.descWord a.slot 4) total a.done n - a.done) ∧
      (dst = s.descWord a.slot 3) ∧ (bits (s.descWord a.slot 4) 18 1 = 1) ∧ (dst % unit = 0) ∧
      (s.plain t0 dst unit)) (State.withRam ((serving 3 [2, 0, 0x11223344, 0x20000204, 0x14000C])) ram17) (3) (3) (⟨1, Upset.none⟩) (⟨5, 2, 0, 0,
      none, none⟩) (0) (4) (3) (3) (0x20000204)) ∧
    ((fun (s : State) (d : Disturb) (a : Active) (len : Nat) (src : Nat) (dst : Nat) => (s.jobOf 0x10 0x10 = some a) ∧ (d.upset = Upset.none) ∧
      (s.rst.quiescing.contains a.owner = false) ∧ ((∀ e ∈ s.q.slots, e.2.cancel = false)) ∧ (bits (s.descWord a.slot 4) 22 3 < 3) ∧
      (len = bits (s.descWord a.slot 4) 0 16) ∧ (src = s.descWord a.slot 2) ∧ (dst = s.descWord a.slot 3) ∧ (s.plain a.owner src len) ∧
      (s.plain a.owner dst 4)) (State.withRam ((serving 0x10 [0x1010, 0, 0x20000101, 0x20000202, 0x00400006])) ram18) (⟨1, Upset.none⟩) (⟨5, 2, 0, 0,
      none, none⟩) (6) (0x20000101) (0x20000202)) :=
  by refine ⟨?_, ?_, ?_, ?_, ?_, ?_, ?_, ?_⟩ <;> decide +kernel

/-- The hypotheses of Obligations.EngineDescriptors, clauses 9 to 16 that have any, are met. -/
theorem test_hyp_EngineDescriptors_2 :
    ((fun (s : State) (d : Disturb) (a : Active) (len : Nat) (src : Nat) (dst : Nat) => (s.jobOf 0x10 0x10 = some a) ∧ (d.upset = Upset.none) ∧
  (s.rst.quiescing.contains a.owner = false) ∧ ((∀ e ∈ s.q.slots, e.2.cancel = false)) ∧ (3 ≤ bits (s.descWord a.slot 4) 22 3) ∧
  (bits (s.descWord a.slot 4) 22 3 ≤ 5) ∧ (len = bits (s.descWord a.slot 4) 0 16) ∧ (src = s.descWord a.slot 2) ∧ (dst = s.descWord a.slot 3) ∧
  (s.plain a.owner src len) ∧ (s.plain a.owner dst 20)) (State.withRam (((serving 0x10 [0x1010, 0, 0x20000101, 0x20000200, 0x00C00006]).setWord 0
  0x20000204 0x04C11DB7)) ram19) (⟨1, Upset.none⟩) (⟨5, 2, 0, 0, none, none⟩) (6) (0x20000101) (0x20000200)) ∧
    ((fun (s : State) (n : Nat) (d : Disturb) (a : Active) (len : Nat) (prm : Nat) (src : Nat) (dst : Nat) => (s.jobOf 0x11 0x20 = some a) ∧
      (a.run = none) ∧ (a.done = 0) ∧ (len + 16 ≤ n) ∧ (d.upset = Upset.none) ∧ (s.rst.quiescing.contains a.owner = false) ∧
      ((∀ e ∈ s.q.slots, e.2.cancel = false)) ∧ (len = bits (s.descWord a.slot 4) 0 16) ∧ (prm = s.descWord a.slot 2) ∧
      (src = ofBytesLE (s.bytesAt a.owner (prm + 0x30) 4)) ∧ (s.plain a.owner prm 64) ∧ (s.plain a.owner src len) ∧ (len % 16 = 0) ∧
      (dst = s.descWord a.slot 3) ∧ (s.plain a.owner dst len)) (State.withRam (((serving 0x11 [0x1120, 0, 0x20000100, 0x20000200, 16]).setWord 0
      0x20000130 0x20000300)) ram20) (100) (⟨1, Upset.none⟩) (⟨5, 2, 0, 0, none, none⟩) (16) (0x20000100) (0x20000300) (0x20000200)) ∧
    ((fun (s : State) (n : Nat) (d : Disturb) (a : Active) (len : Nat) (prm : Nat) (src : Nat) (dst : Nat) => (s.jobOf 0x11 0x21 = some a) ∧
      (a.run = none) ∧ (a.done = 0) ∧ (len + 16 ≤ n) ∧ (d.upset = Upset.none) ∧ (s.rst.quiescing.contains a.owner = false) ∧
      ((∀ e ∈ s.q.slots, e.2.cancel = false)) ∧ (len = bits (s.descWord a.slot 4) 0 16) ∧ (prm = s.descWord a.slot 2) ∧
      (src = ofBytesLE (s.bytesAt a.owner (prm + 0x30) 4)) ∧ (s.plain a.owner prm 64) ∧ (s.plain a.owner src len) ∧ (len % 16 = 0) ∧
      (dst = s.descWord a.slot 3) ∧ (s.plain a.owner dst len)) (State.withRam (((serving 0x11 [0x1121, 0, 0x20000100, 0x20000200, 0x200010]).setWord
      0 0x20000130 0x20000200)) ram21) (32) (⟨1, Upset.none⟩) (⟨5, 2, 0, 0, none, none⟩) (16) (0x20000100) (0x20000200) (0x20000200)) ∧
    ((fun (s : State) (n : Nat) (d : Disturb) (a : Active) (len : Nat) (prm : Nat) (src : Nat) (dst : Nat) => (s.jobOf 0x11 0x22 = some a) ∧
      (a.run = none) ∧ (a.done = 0) ∧ (len + 16 ≤ n) ∧ (d.upset = Upset.none) ∧ (s.rst.quiescing.contains a.owner = false) ∧
      ((∀ e ∈ s.q.slots, e.2.cancel = false)) ∧ (len = bits (s.descWord a.slot 4) 0 16) ∧ (prm = s.descWord a.slot 2) ∧
      (src = ofBytesLE (s.bytesAt a.owner (prm + 0x30) 4)) ∧ (s.plain a.owner prm 64) ∧ (s.plain a.owner src len) ∧ (dst = s.descWord a.slot 3) ∧
      (s.plain a.owner dst len)) (State.withRam (((serving 0x11 [0x1122, 0, 0x20000100, 0x20000201, 5]).setWord 0 0x20000130 0x20000303)) ram22) (21)
      (⟨1, Upset.none⟩) (⟨5, 2, 0, 0, none, none⟩) (5) (0x20000100) (0x20000303) (0x20000201)) ∧
    ((fun (s : State) (n : Nat) (d : Disturb) (a : Active) (len : Nat) (prm : Nat) (src : Nat) (dst : Nat) (tag : Nat) (tl : Nat) (aad : Nat) (alen :
      Nat) => (s.jobOf 0x11 0x23 = some a) ∧ (a.run = none) ∧ (a.done = 0) ∧ (len + 16 ≤ n) ∧ (d.upset = Upset.none) ∧
      (s.rst.quiescing.contains a.owner = false) ∧ ((∀ e ∈ s.q.slots, e.2.cancel = false)) ∧ (len = bits (s.descWord a.slot 4) 0 16) ∧
      (prm = s.descWord a.slot 2) ∧ (src = ofBytesLE (s.bytesAt a.owner (prm + 0x30) 4)) ∧ (s.plain a.owner prm 64) ∧ (s.plain a.owner src len) ∧
      (dst = s.descWord a.slot 3) ∧ (s.plain a.owner dst len) ∧ (aad = ofBytesLE (s.bytesAt a.owner (prm + 0x34) 4)) ∧
      (alen = ofBytesLE (s.bytesAt a.owner (prm + 0x38) 2)) ∧ (tl = bits (ofBytesLE (s.bytesAt a.owner (prm + 0x38) 4)) 16 5) ∧
      (tag = ofBytesLE (s.bytesAt a.owner (prm + 0x3C) 4)) ∧ (tagLenOk tl = true) ∧ (s.plain a.owner aad alen) ∧ (s.plain a.owner tag tl) ∧
      ((dst + len ≤ tag ∨ tag + tl ≤ dst))) (State.withRam ((((((serving 0x11 [0x1123, 0, 0x20000100, 0x20000201, 5]).setWord 0 0x20000130
      0x20000303).setWord 0 0x20000134 0x20000400).setWord 0 0x20000138 0x00080003).setWord 0 0x2000013C 0x20000501)) ram23) (21) (⟨1, Upset.none⟩)
      (⟨5, 2, 0, 0, none, none⟩) (5) (0x20000100) (0x20000303) (0x20000201) (0x20000501) (8) (0x20000400) (3)) ∧
    ((fun (s : State) (n : Nat) (d : Disturb) (a : Active) (len : Nat) (prm : Nat) (src : Nat) (dst : Nat) (tag : Nat) (tl : Nat) (aad : Nat) (alen :
      Nat) => (s.jobOf 0x11 0x24 = some a) ∧ (a.run = none) ∧ (a.done = 0) ∧ (len + 16 ≤ n) ∧ (d.upset = Upset.none) ∧
      (s.rst.quiescing.contains a.owner = false) ∧ ((∀ e ∈ s.q.slots, e.2.cancel = false)) ∧ (len = bits (s.descWord a.slot 4) 0 16) ∧
      (prm = s.descWord a.slot 2) ∧ (src = ofBytesLE (s.bytesAt a.owner (prm + 0x30) 4)) ∧ (s.plain a.owner prm 64) ∧ (s.plain a.owner src len) ∧
      (dst = s.descWord a.slot 3) ∧ (s.plain a.owner dst len) ∧ (aad = ofBytesLE (s.bytesAt a.owner (prm + 0x34) 4)) ∧
      (alen = ofBytesLE (s.bytesAt a.owner (prm + 0x38) 2)) ∧ (tl = bits (ofBytesLE (s.bytesAt a.owner (prm + 0x38) 4)) 16 5) ∧
      (tag = ofBytesLE (s.bytesAt a.owner (prm + 0x3C) 4)) ∧ (tagLenOk tl = true) ∧ (s.plain a.owner aad alen) ∧ (s.plain a.owner tag tl) ∧
      ((dst + len ≤ tag ∨ tag + tl ≤ dst))) (State.withRam ((((((serving 0x11 [0x1124, 0, 0x20000100, 0x20000201, 5]).setWord 0 0x20000130
      0x20000303).setWord 0 0x20000134 0x20000400).setWord 0 0x20000138 0x00080003).setWord 0 0x2000013C 0x20000501)) ram24) (21) (⟨1, Upset.none⟩)
      (⟨5, 2, 0, 0, none, none⟩) (5) (0x20000100) (0x20000303) (0x20000201) (0x20000501) (8) (0x20000400) (3)) ∧
    ((fun (s : State) (n : Nat) (d : Disturb) (a : Active) (len : Nat) (prm : Nat) (src : Nat) (tag : Nat) => (s.jobOf 0x11 0x25 = some a) ∧
      (a.run = none) ∧ (a.done = 0) ∧ (len + 16 ≤ n) ∧ (d.upset = Upset.none) ∧ (s.rst.quiescing.contains a.owner = false) ∧
      ((∀ e ∈ s.q.slots, e.2.cancel = false)) ∧ (len = bits (s.descWord a.slot 4) 0 16) ∧ (prm = s.descWord a.slot 2) ∧
      (src = ofBytesLE (s.bytesAt a.owner (prm + 0x30) 4)) ∧ (s.plain a.owner prm 64) ∧ (s.plain a.owner src len) ∧
      (tag = ofBytesLE (s.bytesAt a.owner (prm + 0x3C) 4)) ∧
      (s.plain a.owner tag 16)) (State.withRam ((((serving 0x11 [0x1125, 0, 0x20000100, 0, 5]).setWord 0 0x20000130 0x20000303).setWord 0 0x2000013C
      0x20000501)) ram25) (21) (⟨1, Upset.none⟩) (⟨5, 2, 0, 0, none, none⟩) (5) (0x20000100) (0x20000303) (0x20000501)) ∧
    ((fun (s : State) (n : Nat) (d : Disturb) (a : Active) (r : AesRun) => (s.jobOf 0x11 0x20 = some a) ∧ (a.run = some r) ∧ (d.upset = Upset.none) ∧
      ((∀ e ∈ s.q.slots, e.2.cancel = false)) ∧ (s.rst.quiescing.contains a.owner = false) ∧ (s.plain a.owner (s.descWord a.slot 3) r.out.length) ∧
      (a.done + n < (aesWrites 0x20 (s.descWord a.slot 3) r).length)) (State.withRam ((serving 0x11 [0x1120, 0, 0x20000100, 0x20000200, 16] |> fun s
      => s.setActive 0x11 (some ⟨5, 2, 0, 1, some ⟨List.range 16, [], 0⟩, none⟩))) ram26) (2) (⟨1, Upset.none⟩) (⟨5, 2, 0, 1, some ⟨List.range 16,
      [], 0⟩, none⟩) (⟨List.range 16, [], 0⟩)) :=
  by refine ⟨?_, ?_, ?_, ?_, ?_, ?_, ?_, ?_⟩ <;> decide +kernel

/-- The hypotheses of Obligations.DebugAccesses, clauses 1 to 8 that have any, are met. -/
theorem test_hyp_DebugAccesses :
    ((fun (s : State) (h : Fin 4) (r : Fin 65536) (v : Nat) (d : Disturb) => (s.tapWorks = true) ∧ (s.dbg.cmdErr = 0) ∧ (s.debuggable h = true) ∧
  (s.debugReg h r = some v)) (haltedHart) (1) (0x1005) (0) (⟨0, Upset.none⟩)) ∧
    ((fun (s : State) (h : Fin 4) (r : Fin 32) (d : Disturb) => (r ≠ 0) ∧ (s.tapWorks = true) ∧ (s.dbg.cmdErr = 0) ∧
      (s.debuggable h = true)) (haltedHart) (1) (5) (⟨0, Upset.none⟩)) ∧
    ((fun (s : State) (h : Fin 4) (r : Fin 4096) (d : Disturb) => (s.tapWorks = true) ∧ (s.dbg.cmdErr = 0) ∧ (s.debuggable h = true) ∧
      ((s.csrRead h r).isSome = true)) (haltedHart) (1) (0x7B1) (⟨0, Upset.none⟩)) ∧
    ((fun (s : State) (h : Fin 4) (w : Bool) (r : Fin 65536) (post : Bool) (d : Disturb) => (s.tapWorks = true) ∧ (s.dbg.cmdErr = 0) ∧
      (s.debuggable h = false)) (hartUp) (1) (true) (5) (true) (⟨0, Upset.none⟩)) ∧
    ((fun (s : State) (h : Fin 4) (w : Bool) (r : Fin 65536) (post : Bool) (d : Disturb) => (s.tapWorks = true) ∧
      (s.dbg.cmdErr ≠ 0)) (({ haltedHart with dbg := { noDebug with cmdErr := 2 } })) (1) (true) (0x1005) (false) (⟨0, Upset.none⟩)) ∧
    ((fun (s : State) (h : Fin 4) (w : Width) (inc : Bool) => (s.tapWorks = true) ∧ (s.dbg.cmdErr = 0) ∧ (s.debuggable h = true) ∧
      (s.rst.quiescing.contains h = false) ∧ (s.dbg.data1.toNat % widthBytes w = 0) ∧
      ((s.hart h).pmpAdmits h false s.dbg.data1.toNat (widthBytes w) 0 = true) ∧ (s.up .core = true) ∧
      (s.plain h s.dbg.data1.toNat (widthBytes w))) (({ haltedHart with dbg := { noDebug with data1 := 0x20001002 } })) (1) (.half) (true)) ∧
    ((fun (s : State) (h : Fin 4) (w : Width) (inc : Bool) => (s.tapWorks = true) ∧ (s.dbg.cmdErr = 0) ∧ (s.debuggable h = true) ∧
      (s.rst.quiescing.contains h = false) ∧ (s.dbg.data1.toNat % widthBytes w = 0) ∧
      ((s.hart h).pmpAdmits h false s.dbg.data1.toNat (widthBytes w) 1 = true) ∧ (s.up .core = true) ∧
      (s.plain h s.dbg.data1.toNat (widthBytes w))) (({ haltedHart with dbg := { noDebug with data1 := 0x20001002 } })) (1) (.half) (true)) ∧
    ((fun (s : State) (h : Fin 4) (d : Disturb) (op : AluOp) (rd : Nat) (rs1 : Nat) (rs2 : Nat) => (s.tapWorks = true) ∧ (s.dbg.cmdErr = 0) ∧
      (s.debuggable h = true) ∧ (s.dbg.half 0 % 4 = 3) ∧ (decodeInsn (vget s.dbg.progbuf 0 0).toNat = .alu op rd rs1 rs2) ∧
      (vget s.dbg.progbuf 1 0 = 0x00100073) ∧ ((h ≠ 0 ∨
      op.bitManip = false))) (({ haltedHart with dbg := { noDebug with progbuf := vput (vput noDebug.progbuf 0 0x006282B3) 1 0x00100073 } })) (1)
      (⟨0, Upset.none⟩) (.add) (5) (5) (6)) :=
  by refine ⟨?_, ?_, ?_, ?_, ?_, ?_, ?_, ?_⟩ <;> decide +kernel

/-- The hypotheses of Obligations.DebugAccesses, clauses 9 to 16 that have any, are met. -/
theorem test_hyp_DebugAccesses_2 :
    ((fun (s : State) (h : Fin 4) (d : Disturb) (w : Width) (signed : Bool) (rd : Nat) (rs1 : Nat) (off : Word) (a : Word) => (s.tapWorks = true) ∧
  (s.dbg.cmdErr = 0) ∧ (s.debuggable h = true) ∧ (s.dbg.half 0 % 4 = 3) ∧ (decodeInsn (vget s.dbg.progbuf 0 0).toNat = .load w signed rd rs1 off) ∧
  (vget s.dbg.progbuf 1 0 = 0x00100073) ∧ (a = (s.hart h).reg rs1 + off) ∧ (d.upset = Upset.none) ∧ (s.rst.quiescing.contains h = false) ∧
  (a.toNat % widthBytes w = 0) ∧ ((s.hart h).pmpAdmits h false a.toNat (widthBytes w) 0 = true) ∧ (s.up .core = true) ∧
  (s.plain h a.toNat (widthBytes w)) ∧ (rd < 32))
  (({ haltedHart.modHart 1 (fun h => h.setReg 5 0x20001004) with dbg := { noDebug with progbuf := vput (vput noDebug.progbuf 0 0x0002A303) 1 0x00100073 } })) (1) (⟨0, Upset.none⟩) (.word) (false) (6) (5) (0) (0x20001004)) ∧
    ((fun (s : State) (h : Fin 4) (d : Disturb) (w : Width) (signed : Bool) (rd : Nat) (rs1 : Nat) (off : Word) => (s.tapWorks = true) ∧
      (s.dbg.cmdErr = 0) ∧ (s.debuggable h = true) ∧ (s.dbg.half 0 % 4 = 3) ∧
      (decodeInsn (vget s.dbg.progbuf 0 0).toNat = .load w signed rd rs1 off) ∧ (vget s.dbg.progbuf 1 0 = 0x00100073) ∧
      (((s.hart h).reg rs1 + off).toNat % widthBytes w ≠ 0))
      (({ haltedHart.modHart 1 (fun h => h.setReg 5 0x20001005) with dbg := { noDebug with progbuf := vput (vput noDebug.progbuf 0 0x0002A303) 1 0x00100073 } })) (1) (⟨0, Upset.none⟩) (.word) (false) (6) (5) (0)) ∧
    ((fun (s : State) (h : Fin 4) (a : Word) (w : Width) => (s.tapWorks = true) ∧ (s.dbg.sbError = 0) ∧ (s.rst.quiescing.contains h = false) ∧
      (a.toNat % widthBytes w = 0) ∧ (s.up .core = true) ∧ (s.plain h a.toNat (widthBytes w))) (hartUp) (1) (0x20001003) (.byte)) ∧
    ((fun (s : State) (h : Fin 4) (a : Word) (v : Word) (w : Width) => (s.tapWorks = true) ∧ (s.dbg.sbError = 0) ∧
      (s.rst.quiescing.contains h = false) ∧ (a.toNat % widthBytes w = 0) ∧ (s.up .core = true) ∧
      (s.plain h a.toNat (widthBytes w))) (hartUp) (1) (0x20001003) (0x1FF) (.byte)) ∧
    ((fun (s : State) (h : Fin 4) (a : Word) (v : Word) (w : Width) (wr : Bool) (u : Upset) => (s.tapWorks = true) ∧
      (s.dbg.sbError ≠ 0)) (({ hartUp with dbg := { noDebug with sbError := 2 } })) (1) (0x20001003) (0x1FF) (.byte) (true) (Upset.none)) ∧
    ((fun (s : State) (h : Fin 4) => (s.tapWorks = true) ∧ (s.hartExists h = true) ∧ ((s.hart h).running = true) ∧ ((s.hart h).halted = false) ∧
      (s.up (hartIsland h) = true)) (hartUp) (1)) ∧
    ((fun (s : State) (h : Fin 4) => (s.tapWorks = true) ∧ (s.hartExists h = true) ∧ (((s.hart h).running = false ∨
      s.up (hartIsland h) = false))) (State.reset) (3)) ∧
    ((fun (s : State) (h : Fin 4) => (s.tapWorks = true) ∧ (s.debuggable h = true)) (haltedHart) (1)) :=
  by refine ⟨?_, ?_, ?_, ?_, ?_, ?_, ?_, ?_⟩ <;> decide +kernel

/-- The hypotheses of Obligations.DebugAccesses, clauses 17 to 23 that have any, are met. -/
theorem test_hyp_DebugAccesses_3 :
    ((fun (s : State) => (s.tapWorks = true)) (State.reset)) ∧
    ((fun (s : State) => (s.tapWorks = true) ∧ (s.rst.inReset = false)) (State.reset)) ∧
    ((fun (s : State) => (s.tapWorks = true)) (State.reset)) ∧
    ((fun (s : State) (n : Fin 3) => (s.tapWorks = true) ∧ (s.hartExists (n + 1) = true) ∧ (s.rst.inReset = false) ∧
      (s.rst.quiescing.contains (n + 1) = false)) (hartUp) (0)) ∧
    ((fun (s : State) (h : Fin 4) => (s.tapWorks = true) ∧ (s.hartExists h = true)) (hartUp) (0)) ∧
    ((fun (s : State) (h : Fin 4) => (s.tapWorks = true) ∧ (s.hartExists h = true)) (hartUp) (0)) ∧
    ((fun (s : State) (h : Fin 4) (i : Fin 4) (k : TrigKind) (a : Word) (v : Word) (x : Hart) => (s.issues h = true) ∧
      ((s.hart h).trigFires h i k a.toNat v.toNat = true) ∧
      (x = { s.hart h with trig := vput (s.hart h).trig i ((vget (s.hart h).trig i (0, 0)).1 ||| 0x00100000, (vget (s.hart h).trig i (0, 0)).2) }))
      ((hartUp.modHart 1 (fun h => { h with trig := vput h.trig 3 (0x40 + 4, 0x20001000) }))) (1) (3) (.execute) (0x20001000) (0x13)
      ({ (hartUp.hart 1) with trig := vput (hartUp.hart 1).trig 3 (0x100044, 0x20001000) })) :=
  by refine ⟨?_, ?_, ?_, ?_, ?_, ?_, ?_⟩ <;> decide +kernel

/-- The hypotheses of Obligations.TestAccessPort, clauses 1 to 7 that have any, are met. -/
theorem test_hyp_TestAccessPort :
    ((fun (s : State) => (s.tapWorks = true)) (State.reset)) ∧
    ((fun (s : State) => (s.tapWorks = true) ∧ (s.padsLive = true)) (State.reset)) ∧
    ((fun (s : State) => (s.tapWorks = true) ∧ (s.padsLive = true)) (State.reset)) ∧
    ((fun (s : State) => (s.tapWorks = true)) (State.reset)) ∧
    ((fun (s : State) (v : BitVec 41) => (s.tapWorks = true) ∧ (s.padsLive = true) ∧ (bits v.toNat 0 2 = 1) ∧
      (bits v.toNat 34 7 ≠ 0x3C)) (haltedHart) (0x4400000001)) ∧
    ((fun (s : State) (v : BitVec 41) (k : Fin 8) => (s.tapWorks = true) ∧ (s.padsLive = true) ∧ (s.dbg.active = true) ∧ (bits v.toNat 0 2 = 2) ∧
      (bits v.toNat 34 7 = 0x20 + k)) (({ haltedHart with dbg := { noDebug with active := true } })) (0x8C004001CE) (3)) ∧
    ((fun (s : State) (v : BitVec 41) => (s.tapWorks = true) ∧ (s.padsLive = true) ∧ (s.dbg.active = true) ∧ (s.dbg.hartsel < 4) ∧
      (s.dbg.sbOnAddr = false) ∧ (bits v.toNat 0 2 = 2) ∧
      (bits v.toNat 34 7 = 0x39)) (({ haltedHart with dbg := { noDebug with active := true } })) (0xE400000012)) :=
  by refine ⟨?_, ?_, ?_, ?_, ?_, ?_, ?_⟩ <;> decide +kernel

/-- The hypotheses of Obligations.TestAccessPort, clauses 8 to 13 that have any, are met. -/
theorem test_hyp_TestAccessPort_2 :
    ((fun (s : State) => (s.tapWorks = true) ∧ (s.padsLive = true)) (State.reset)) ∧
    ((fun (s : State) => (s.tapWorks = true) ∧ (s.padsLive = true)) (State.reset)) ∧
    ((fun (s : State) => (s.tapWorks = true) ∧ (s.padsLive = true)) (State.reset)) ∧
    ((fun (s : State) (b : BitVec 153) => (s.tapWorks = true)) (State.reset) (0x15555555555555555555555555555555)) ∧
    ((fun (s : State) => (s.tapWorks = true)) (State.reset)) ∧
    ((fun (s : State) (b : BitVec 153) => (s.tapWorks = true) ∧ (s.padsLive = true)) (State.reset) (0x15555555555555555555555555555555)) :=
  by refine ⟨?_, ?_, ?_, ?_, ?_, ?_⟩ <;> decide +kernel

/-- The hypotheses of Obligations.Pads are met. -/
theorem test_hyp_Pads :
    ((fun (s : State) (m : Master) (i : Fin 48) (v : Word) => (s.admits m 0x21 (0x100 + 4 * i) true) ∧ (s.ownLowSeen) ∧ ((i.val = 40 →
  s.on PWM.FAULT_IN = true ∨ s.on (PORT.OE 40) = false))) (State.reset) (.hart 0) (40) (0x00012343)) ∧
    ((fun (s : State) (m : Master) (b : Fin 2) (v : Word) => (s.admits m 0x21 (0x20 + 4 * b) true) ∧
      (s.ownLowSeen)) (State.reset) (.hart 0) (1) (0x80018001)) ∧
    ((fun (s : State) (m : Master) (b : Fin 2) (v : Word) => (s.admits m 0x21 (0x28 + 4 * b) true) ∧
      (s.ownLowSeen)) ((State.reset.put (PORT.OUT 47) 1)) (.hart 0) (1) (0x80018001)) ∧
    ((fun (s : State) (m : Master) (v : Word) => (s.admits m 0x21 0x2C true) ∧ (s.fab.vio = true) ∧ (s.on (PORT.CFGD 40) = true) ∧
      (s.get (PORT.FUNC 40) = 0) ∧ (s.on (PORT.OE 40) = true) ∧ (s.get (PORT.OUT_SEL 40) = 0) ∧
      (v.getLsbD 8 = true)) (((((State.reset.put (PORT.CFGD 40) 1).put (PORT.OE 40) 1).put (PORT.FUNC 40) 0).put (PORT.OUT 40) 1)) (.hart 0) (0x100))
      ∧
    ((fun (s : State) (m : Master) (v : Word) => (s.admits m 0x21 0x1A0 true) ∧ (s.fab.vio = true) ∧ (bits v.toNat 0 2 = 0) ∧
      (s.on (PORT.OE 40) = true) ∧ (bits v.toNat 16 4 = 0) ∧ (s.on (PORT.OUT 40) = false)) ((State.reset.put (PORT.OE 40) 1)) (.hart 0) (0)) ∧
    ((fun (s : State) (i : Fin 48) (l : Bool) => (s.fab.vio = true) ∧ (s.power.mode ≠ .off) ∧
      (s.padLevel i ≠ l)) ((State.reset.put (PORT.IRQ 5) 1)) (5) (true)) ∧
    ((fun (s : State) (i : Fin 48) (l : Bool) => ((s.fab.vio = false ∨ s.power.mode = .off ∨
      s.padLevel i = l))) (({ State.reset with fab := { State.reset.fab with vio := false } })) (5) (true)) :=
  by refine ⟨?_, ?_, ?_, ?_, ?_, ?_, ?_⟩ <;> decide +kernel

/-- The hypotheses of Obligations.EventFabric, clauses 1 to 7 that have any, are met. -/
theorem test_hyp_EventFabric :
    ((fun (s : State) (src : Fin 128) => (isSource src = true) ∧ (0x20 ≤ src.val) ∧
  (s.power.mode = .gale)) ((((((State.reset.put (EVF.EN 7) 1).put (EVF.SRC 7) 0x40).put (EVF.S_EN 0x3B) 1).put (EVF.S_CHANNEL 0x3B) 7).put (EVF.EN 8)
  1)) (0x40)) ∧
    ((fun (s : State) (src : Fin 128) => (s.power.mode = .off)) (({ State.reset with power := { State.reset.power with mode := .off } })) (0x40)) ∧
    ((fun (s : State) (m : Master) (v : Word) => (s.admits m 0x10 0x10 true) ∧ (s.owner tblEvent (bits v.toNat 0 6) = s.tidOf m) ∧
      (s.on (EVF.EN (bits v.toNat 0 6)) = true)) ((((State.reset.put (EVF.EN 7) 1).put (EVF.S_EN 0x3B) 1).put (EVF.S_CHANNEL 0x3B) 7)) (.hart 0) (7))
      ∧
    ((fun (s : State) (m : Master) (v : Word) => (s.admits m 0x10 0x10 true) ∧
      (s.owner tblEvent (bits v.toNat 0 6) ≠ s.tidOf m)) (State.reset) (.hart 1) (7)) ∧
    ((fun (s : State) (m : Master) (c : Fin 64) (v : Word) => (s.admits m 0x10 (0x100 + 4 * c) true) ∧
      (s.on (EVF.LOCK c) = false)) (State.reset) (.hart 0) (63) (0x10001)) ∧
    ((fun (s : State) (m : Master) (c : Fin 64) (v : Word) => (s.admits m 0x10 (0x100 + 4 * c) true) ∧
      (s.on (EVF.LOCK c) = true)) ((State.reset.put (EVF.LOCK 63) 1)) (.hart 0) (63) (0x10001)) ∧
    ((fun (s : State) (m : Master) (c : Fin 64) => (s.admits m 0x10 (0x100 + 4 * c) true) ∧ (s.signal c = s.levelOf c)) (State.reset) (.hart 0) (63)) :=
  by refine ⟨?_, ?_, ?_, ?_, ?_, ?_, ?_⟩ <;> decide +kernel

/-- The hypotheses of Obligations.EventFabric, clauses 8 to 13 that have any, are met. -/
theorem test_hyp_EventFabric_2 :
    ((fun (s : State) (m : Master) (k : Fin 64) (v : Word) => (s.admits m 0x10 (0x200 + 4 * k) true) ∧
  (s.channelClosed (s.tidOf m) (bits v.toNat 0 6) = false) ∧ ((k.val < 0x3D → s.get (EVF.S_OBJ k) = 0)) ∧ ((0x3D ≤ k.val →
  s.get (EVF.S_OBJ k) = bits v.toNat 16 7 ∧ s.get (EVF.S_OUTMODE k) = 0))) (State.reset) (.hart 0) (0x37) (0x907)) ∧
    ((fun (s : State) (m : Master) (k : Fin 64) (v : Word) => (s.admits m 0x10 (0x200 + 4 * k) true) ∧
      (s.channelClosed (s.tidOf m) (bits v.toNat 0 6) = false) ∧ ((k.val < 0x3D → s.get (EVF.S_OBJ k) = 0)) ∧ ((0x3D ≤ k.val →
      s.get (EVF.S_OBJ k) = bits v.toNat 16 7 ∧ s.get (EVF.S_OUTMODE k) = 0))) ((State.reset.put (EVF.S_OBJ 0x3F) 5)) (.hart 0) (0x3F) (0x50107)) ∧
    ((fun (s : State) (m : Master) (k : Fin 64) (v : Word) => (s.admits m 0x10 (0x200 + 4 * k) true) ∧
      (s.channelClosed (s.tidOf m) (bits v.toNat 0 6) = true) ∧ (s.on (EVF.S_EN k) = false) ∧
      (bits v.toNat 8 1 = 1)) (({ State.reset with owners := [(256 * 4 + 7, 1)] })) (.hart 0) (0x37) (0x907)) ∧
    ((fun (s : State) (m : Master) (k : Fin 3) (v : Word) (x : Nat) => (s.admits m 0x10 (0x2F4 + 4 * k) true) ∧ (x = (if k = 2 then 1 else 0)) ∧
      (s.objOwner x (s.get (EVF.S_OBJ (0x3D + k))) = s.tidOf m) ∧ (s.objOwner x (v.toNat % 128) = s.tidOf m) ∧
      (s.get (EVF.S_OUTMODE (0x3D + k)) = 0)) (State.reset) (.hart 0) (2) (0x95) (1)) ∧
    ((fun (s : State) (k : Fin 64) => (s.on (EVF.S_PEND k) = true) ∧ (s.up (sinkIsland k) = true)) ((State.reset.put (EVF.S_PEND 3) 1)) (3)) ∧
    ((fun (s : State) (k : Fin 8) => ((Table.find s.fab.pulses k).isSome = true) ∧
      (s.get (EVF.S_OUTMODE (0x30 + k)) = 0)) ((State.reset.setEvout 3 true |> fun s => { s with fab := { s.fab with pulses := [(3, ())] } })) (3)) :=
  by refine ⟨?_, ?_, ?_, ?_, ?_, ?_⟩ <;> decide +kernel

/-- The hypotheses of Obligations.SpiAndUart, clauses 1 to 8 that have any, are met. -/
theorem test_hyp_SpiAndUart :
    ((fun (s : State) (m : Master) (n : Fin 2) (v : Word) => (s.admits m 0x22 (0x1C + 0x20 * n) true) ∧
  ((vget s.ser.spiTx n []).length < 8)) ((State.reset.put (SER.SPI_EN 1) 1)) (.hart 0) (1) (0x12345)) ∧
    ((fun (s : State) (m : Master) (n : Fin 2) (v : Word) => (s.admits m 0x22 (0x1C + 0x20 * n) true) ∧
      (8 ≤ (vget s.ser.spiTx n []).length)) ((State.reset.modSer (fun r => { r with spiTx := vput r.spiTx 1 [1, 2, 3, 4, 5, 6, 7, 8] }))) (.hart 0)
      (1) (0x12345)) ∧
    ((fun (s : State) (n : Fin 2) (rx : Word) (v : Nat) => (s.up .core = true) ∧ (s.on (SER.SPI_EN n) = true) ∧ (s.on (SER.SPI_TARGET n) = false) ∧
      ((vget s.ser.spiNow n none).isSome = true) ∧
      (v = (if s.fab.vio = true then rx.toNat else if s.lineIn (.miso n) = true then 2 ^ 32 - 1 else 0))) (((State.reset.put (SER.SPI_EN 1) 1).modSer
      (fun r => { r with spiNow := vput r.spiNow 1 (some 3), spiTx := vput r.spiTx 1 [4, 5] }))) (1) (0x1FF) (0x1FF)) ∧
    ((fun (s : State) (n : Fin 2) (rx : Word) (v : Nat) => (s.up .core = true) ∧ (s.on (SER.SPI_EN n) = true) ∧ (s.on (SER.SPI_TARGET n) = false) ∧
      ((vget s.ser.spiNow n none).isSome = true) ∧
      (v = (if s.fab.vio = true then rx.toNat else if s.lineIn (.miso n) = true then 2 ^ 32 - 1 else 0))) (((State.reset.put (SER.SPI_EN 1) 1).modSer
      (fun r => { r with spiNow := vput r.spiNow 1 (some 3), spiRx := vput r.spiRx 1 [1, 2, 3, 4, 5, 6, 7, 8] }))) (1) (0x1FF) (0x1FF)) ∧
    ((fun (s : State) (n : Fin 2) => (s.up .core = true) ∧ (s.fab.vio = true) ∧ (s.carried (.sck n) = true) ∧ (s.carried (.cs n) = true) ∧
      (s.on (SER.SPI_EN n) = true) ∧ (s.on (SER.SPI_TARGET n) = true) ∧
      (vget s.ser.spiNow n none = none)) (((((State.reset.put (SER.SPI_EN 0) 1).put (SER.SPI_TARGET 0) 1).put (PORT.FUNC 0) 1).put (PORT.FUNC 3) 1))
      (0)) ∧
    ((fun (s : State) (n : Fin 2) (rx : Word) => (s.up .core = true) ∧ (s.fab.vio = true) ∧ (s.carried (.sck n) = true) ∧
      (s.carried (.cs n) = true) ∧ (s.on (SER.SPI_EN n) = true) ∧ (s.on (SER.SPI_TARGET n) = true) ∧
      (vget s.ser.spiNow n none = none)) (((((State.reset.put (SER.SPI_EN 0) 1).put (SER.SPI_TARGET 0) 1).put (PORT.FUNC 0) 1).put (PORT.FUNC 3) 1))
      (0) (0x1FF)) ∧
    ((fun (s : State) (n : Fin 2) (rx : Word) (x : Nat) => (s.up .core = true) ∧ (s.fab.vio = true) ∧ (s.carried (.sck n) = true) ∧
      (s.carried (.cs n) = true) ∧ (s.on (SER.SPI_EN n) = true) ∧ (s.on (SER.SPI_TARGET n) = true) ∧
      (vget s.ser.spiNow n none = some x)) ((((((State.reset.put (SER.SPI_EN 0) 1).put (SER.SPI_TARGET 0) 1).put (PORT.FUNC 0) 1).put (PORT.FUNC 3)
      1).modSer (fun r => { r with spiNow := vput r.spiNow 0 (some 4), spiTx := vput r.spiTx 0 [5] }))) (0) (0x1FF) (4)) ∧
    ((fun (s : State) (n : Fin 2) (rx : Word) => ((s.up .core = false ∨ s.on (SER.SPI_EN n) = false ∨ s.on (SER.SPI_TARGET n) = false ∧
      vget s.ser.spiNow n none = none))) (State.reset) (1) (5)) :=
  by refine ⟨?_, ?_, ?_, ?_, ?_, ?_, ?_, ?_⟩ <;> decide +kernel

/-- The hypotheses of Obligations.SpiAndUart, clauses 9 to 16 that have any, are met. -/
theorem test_hyp_SpiAndUart_2 :
    ((fun (s : State) (n : Fin 2) => ((s.up .core = false ∨ s.on (SER.SPI_EN n) = false ∨ s.on (SER.SPI_TARGET n) = false ∨
  s.fab.vio = false))) (State.reset) (1)) ∧
    ((fun (s : State) (m : Master) (n : Fin 2) => (s.admits m 0x22 (0x1C + 0x20 * n) false)) ((State.reset.modSer (fun r =>
      { r with spiRx := vput r.spiRx 1 [7, 9] }))) (.hart 0) (1)) ∧
    ((fun (s : State) (m : Master) (n : Fin 2) (v : Word) => (s.admits m 0x22 (0x5C + 0x20 * n) true) ∧
      ((vget s.ser.uartTx n []).length < 8)) (((State.reset.put (SER.UART_EN 1) 1).put (SER.UART_TX_EN 1) 1)) (.hart 0) (1) (0x12345)) ∧
    ((fun (s : State) (m : Master) (n : Fin 2) (v : Word) => (s.admits m 0x22 (0x5C + 0x20 * n) true) ∧
      (8 ≤ (vget s.ser.uartTx n []).length)) ((State.reset.modSer (fun r => { r with uartTx := vput r.uartTx 1 [1, 2, 3, 4, 5, 6, 7, 8] }))) (.hart
      0) (1) (0x12345)) ∧
    ((fun (s : State) (n : Fin 2) => (s.up .core = true) ∧ ((vget s.ser.uartNow n none).isSome = true) ∧ (s.on (SER.UART_EN n) = true) ∧
      (s.on (SER.UART_TX_EN n) = true) ∧ (vget s.ser.brk n false = false)) ((((State.reset.put (SER.UART_EN 1) 1).put (SER.UART_TX_EN 1) 1).modSer
      (fun r => { r with uartNow := vput r.uartNow 1 (some 3), uartTx := vput r.uartTx 1 [4, 5] }))) (1)) ∧
    ((fun (s : State) (n : Fin 2) => (s.up .core = true) ∧ ((vget s.ser.uartNow n none).isSome = true) ∧ (s.on (SER.UART_EN n) = true) ∧
      (s.on (SER.UART_TX_EN n) = true) ∧ (vget s.ser.brk n false = false)) (((((State.reset.put (SER.UART_EN 1) 1).put (SER.UART_TX_EN 1) 1).put
      (SER.UART_SEND 1) 1).modSer (fun r => { r with uartNow := vput r.uartNow 1 (some 3), uartTx := vput r.uartTx 1 [4, 5] }))) (1)) ∧
    ((fun (s : State) (n : Fin 2) (ch : BitVec 9) (pe : Bool) (fe : Bool) => (s.fab.vio = true) ∧ (s.carried (.uartRx n) = true) ∧
      (s.up .core = true) ∧ (s.on (SER.UART_EN n) = true) ∧ (s.on (SER.UART_RX_EN n) = true) ∧
      ((vget s.ser.uartRx n []).length < 8)) ((((State.reset.put (SER.UART_EN 1) 1).put (SER.UART_RX_EN 1) 1).put (PORT.FUNC 5) 2)) (1) (0x1C1)
      (true) (false)) ∧
    ((fun (s : State) (n : Fin 2) (ch : BitVec 9) (pe : Bool) (fe : Bool) => (s.fab.vio = true) ∧ (s.carried (.uartRx n) = true) ∧
      (s.up .core = true) ∧ (s.on (SER.UART_EN n) = true) ∧ (s.on (SER.UART_RX_EN n) = true) ∧
      (8 ≤ (vget s.ser.uartRx n []).length)) (((((State.reset.put (SER.UART_EN 1) 1).put (SER.UART_RX_EN 1) 1).put (PORT.FUNC 5) 2).modSer (fun r =>
      { r with uartRx := vput r.uartRx 1 [1, 2, 3, 4, 5, 6, 7, 8] }))) (1) (0x1C1) (true) (false)) :=
  by refine ⟨?_, ?_, ?_, ?_, ?_, ?_, ?_, ?_⟩ <;> decide +kernel

/-- The hypotheses of Obligations.SpiAndUart, clauses 17 to 23 that have any, are met. -/
theorem test_hyp_SpiAndUart_3 :
    ((fun (s : State) (n : Fin 2) (ch : BitVec 9) (pe : Bool) (fe : Bool) => (s.fab.vio = false) ∧ (vget s.ser.uartCut n false = true) ∧
  (s.carried (.uartRx n) = true) ∧ (s.up .core = true) ∧ (s.on (SER.UART_EN n) = true) ∧ (s.on (SER.UART_RX_EN n) = true) ∧
  ((vget s.ser.uartRx n []).length < 8)) (((((State.reset.put (SER.UART_EN 1) 1).put (SER.UART_RX_EN 1) 1).put (PORT.FUNC 5) 2).after .vioAbsent))
  (1) (0x1C1) (true) (false)) ∧
    ((fun (s : State) (n : Fin 2) (ch : BitVec 9) (pe : Bool) (fe : Bool) => ((s.fab.vio = false ∧ vget s.ser.uartCut n false = false ∨
      s.carried (.uartRx n) = false ∨ s.up .core = false ∨ s.on (SER.UART_EN n) = false ∨
      s.on (SER.UART_RX_EN n) = false))) (State.reset) (1) (0x1C1) (true) (false)) ∧
    ((fun (s : State) (m : Master) (n : Fin 2) => (s.admits m 0x22 (0x5C + 0x20 * n) false)) ((State.reset.modSer (fun r =>
      { r with uartRx := vput r.uartRx 1 [0x207, 9] }))) (.hart 0) (1)) ∧
    ((fun (s : State) (m : Master) (n : Fin 2) (v : Word) => (s.admits m 0x22 (0x60 + 0x20 * n) true) ∧ (s.on (SER.UART_EN n) = true) ∧
      (s.on (SER.UART_TX_EN n) = true) ∧ (vget s.ser.uartNow n none = none)) (((State.reset.put (SER.UART_EN 1) 1).put (SER.UART_TX_EN 1) 1)) (.hart
      0) (1) (0x10D)) ∧
    ((fun (s : State) (m : Master) (n : Fin 2) (v : Word) => (s.admits m 0x22 (0x60 + 0x20 * n) true)) (State.reset) (.hart 0) (1) (0x10D)) ∧
    ((fun (s : State) (n : Fin 2) => (s.up .core = true) ∧
      (vget s.ser.brk n false = true)) (((((State.reset.put (SER.UART_EN 1) 1).put (SER.UART_TX_EN 1) 1).put (SER.UART_SEND 1) 1).modSer (fun r =>
      { r with brk := vput r.brk 1 true, uartTx := vput r.uartTx 1 [4, 5] }))) (1)) ∧
    ((fun (s : State) (n : Fin 2) => ((s.up .core = false ∨ vget s.ser.brk n false = false))) (State.reset) (1)) :=
  by refine ⟨?_, ?_, ?_, ?_, ?_, ?_, ?_⟩ <;> decide +kernel

/-- The hypotheses of Obligations.I2cUnit, clauses 1 to 10 that have any, are met. -/
theorem test_hyp_I2cUnit :
    ((fun (s : State) (m : Master) (addr : BitVec 8) => (s.admits m 0x22 0x94 true) ∧ (s.on SER.I2C_EN = true) ∧
  (s.ser.i2cOp = none)) ((State.reset.put SER.I2C_EN 1)) (.hart 0) (0xA5)) ∧
    ((fun (s : State) (m : Master) (addr : BitVec 8) => (s.admits m 0x22 0x94 true) ∧ ((s.on SER.I2C_EN = false ∨
      s.ser.i2cOp.isSome = true))) (State.reset) (.hart 0) (0xA5)) ∧
    ((fun (s : State) (nack : Bool) (d : Byte) (op : Nat) (arg : Nat) => (s.up .core = true) ∧ (s.fab.vio = true) ∧ (s.ser.i2cOp = some (op, arg)) ∧
      (1 ≤ op) ∧ (op ≤ 6)) ((State.reset.modSer (fun r => { r with i2cOp := some (4, 0) }))) (true) (0x5A) (4) (0)) ∧
    ((fun (s : State) (nack : Bool) (d : Byte) (op : Nat) (arg : Nat) => (s.up .core = true) ∧ (s.fab.vio = true) ∧ (s.ser.i2cOp = some (op, arg)) ∧
      (1 ≤ op) ∧ (op ≤ 6)) ((State.reset.modSer (fun r => { r with i2cOp := some (1, 0) }))) (true) (0x5A) (1) (0)) ∧
    ((fun (s : State) (nack : Bool) (d : Byte) (op : Nat) (arg : Nat) => (s.up .core = true) ∧ (s.fab.vio = true) ∧ (s.ser.i2cOp = some (op, arg)) ∧
      (1 ≤ op) ∧ (op ≤ 6)) (((State.reset.put SER.I2C_BUS_HELD 1).modSer (fun r => { r with i2cOp := some (6, 0) }))) (true) (0x5A) (6) (0)) ∧
    ((fun (s : State) (nack : Bool) (d : Byte) => ((s.up .core = false ∨ s.ser.i2cOp = none))) (State.reset) (true) (1)) ∧
    ((fun (s : State) (nack : Bool) (d : Byte) (op : Nat) (arg : Nat) => (s.up .core = true) ∧ (s.fab.vio = false) ∧ (s.lineIn .scl = true) ∧
      (s.ser.i2cOp = some (op, arg)) ∧ (1 ≤ op) ∧
      (op ≤ 6)) ((((State.reset.put (PORT.FUNC 2) 2).put (PORT.FUNC 3) 2).modSer (fun r => { r with i2cOp := some (4, 0) }) |> fun s =>
      { s with fab := { s.fab with vio := false, accepted := [(2, true), (3, true)] } })) (false) (0x5A) (4) (0)) ∧
    ((fun (s : State) (a : BitVec 7) (r : Bool) => (s.up .core = true) ∧ (s.i2cSees = true) ∧ (s.on SER.I2C_TGT_EN = true) ∧
      (s.get SER.I2C_OWN_ADDR = a.toNat)) (((((State.reset.put (PORT.FUNC 2) 2).put (PORT.FUNC 3) 2).put SER.I2C_TGT_EN 1).put SER.I2C_OWN_ADDR
      0x45)) (0x45) (true)) ∧
    ((fun (s : State) (a : BitVec 7) (r : Bool) => ((s.up .core = false ∨ s.i2cSees = false ∨ s.on SER.I2C_TGT_EN = false ∨
      s.get SER.I2C_OWN_ADDR ≠ a.toNat))) (State.reset) (0x45) (true)) ∧
    ((fun (s : State) (m : Master) (v : Word) => (s.admits m 0x22 0x9C true)) (State.reset) (.hart 0) (0x1A5)) :=
  by refine ⟨?_, ?_, ?_, ?_, ?_, ?_, ?_, ?_, ?_, ?_⟩ <;> decide +kernel

/-- The hypotheses of Obligations.I2cUnit, clauses 11 to 20 that have any, are met. -/
theorem test_hyp_I2cUnit_2 :
    ((fun (s : State) (m : Master) (v : Word) => (s.admits m 0x22 0x9C false)) ((State.reset.modSer (fun r =>
  { r with tgtOn := true, tgtHeld := true }))) (.hart 0) (0x1A5)) ∧
    ((fun (s : State) (m : Master) (v : Word) => (s.up .core = true) ∧ (s.i2cSees = true) ∧ (s.ser.tgtOn = true) ∧ (s.ser.tgtHeld = false) ∧
      (s.ser.tgtStuck = false)) ((((State.reset.put (PORT.FUNC 2) 2).put (PORT.FUNC 3) 2).modSer (fun r => { r with tgtOn := true }))) (.hart 0)
      (0x1A5)) ∧
    ((fun (s : State) (m : Master) (v : Word) => (s.up .core = true) ∧ (s.i2cSees = true) ∧ (s.ser.tgtOn = true) ∧ (s.ser.tgtHeld = false) ∧
      (s.ser.tgtStuck = false)) (((((State.reset.put (PORT.FUNC 2) 2).put (PORT.FUNC 3) 2).put SER.I2C_TGT_RW 1).modSer (fun r =>
      { r with tgtOn := true }))) (.hart 0) (0x1A5)) ∧
    ((fun (s : State) (m : Master) (v : Word) => (s.up .core = true) ∧ (s.i2cSees = true) ∧ (s.ser.tgtOn = true) ∧ (s.ser.tgtHeld = false) ∧
      (s.ser.tgtStuck = true)) ((((State.reset.put (PORT.FUNC 2) 2).put (PORT.FUNC 3) 2).modSer (fun r =>
      { r with tgtOn := true, tgtStuck := true }))) (.hart 0) (0x1A5)) ∧
    ((fun (s : State) => (s.up .core = true) ∧ (s.i2cSees = true) ∧
      (s.on SER.I2C_TGT_EN = true)) ((((State.reset.put (PORT.FUNC 2) 2).put (PORT.FUNC 3) 2).put SER.I2C_TGT_EN 1))) ∧
    ((fun (s : State) => ((s.up .core = false ∨ s.i2cSees = false ∨ s.on SER.I2C_TGT_EN = false))) (State.reset)) ∧
    ((fun (s : State) (sda : Bool) => (s.up .core = true) ∧ ((s.on SER.I2C_EN = true ∨ s.on SER.I2C_TGT_EN = true)) ∧
      (s.i2cLow sda = true)) ((((((State.reset.put (PORT.FUNC 2) 2).put (PORT.FUNC 3) 2).put SER.I2C_EN 1).put SER.I2C_BUS_HELD 1).modSer (fun r =>
      { r with i2cOp := some (3, 7) }))) (true)) ∧
    ((fun (s : State) (a : BitVec 7) (r : Bool) => (s.up .core = true) ∧ (s.i2cSees = true) ∧
      (s.ser.i2cOp.isSome = true)) ((((((State.reset.put (PORT.FUNC 2) 2).put (PORT.FUNC 3) 2).put SER.I2C_TGT_EN 1).put SER.I2C_OWN_ADDR
      0x45).modSer (fun r => { r with i2cOp := some (3, 7) }))) (0x45) (true)) ∧
    ((fun (s : State) (a : BitVec 7) (r : Bool) => (s.up .core = true) ∧ (s.i2cSees = true) ∧
      (s.ser.i2cOp.isSome = true)) ((((((State.reset.put (PORT.FUNC 2) 2).put (PORT.FUNC 3) 2).put SER.I2C_TGT_EN 1).put SER.I2C_OWN_ADDR
      0x45).modSer (fun r => { r with i2cOp := some (3, 7) }))) (0x46) (true)) ∧
    ((fun (s : State) (a : BitVec 7) (r : Bool) => ((s.up .core = false ∨ s.i2cSees = false ∨ s.ser.i2cOp = none))) (State.reset) (0x46) (true)) :=
  by refine ⟨?_, ?_, ?_, ?_, ?_, ?_, ?_, ?_, ?_, ?_⟩ <;> decide +kernel

/-- The hypotheses of Obligations.TimeSteering, clauses 1 to 7 that have any, are met. -/
theorem test_hyp_TimeSteering :
    ((fun (s : State) (m : Master) => (s.admits m 0x11 0x18 true) ∧
  (s.get NTU.SET_NS < nsPerSec)) ((((State.reset.put NTU.SET_SEC_HI 0xFFFF).put NTU.SET_SEC_LO 0xFFFFFFFF).put NTU.SET_NS 999999999)) (.hart 0)) ∧
    ((fun (s : State) (m : Master) => (s.admits m 0x11 0x18 true)) (State.reset) (.hart 0)) ∧
    ((fun (s : State) (m : Master) (v : Word) => (s.admits m 0x11 0x10 true)) ((State.reset.put NTU.ADJ 0xFFFFFFF0)) (.hart 0) (0xEB01)) ∧
    ((fun (s : State) (src : Fin 4) (d : Int) (i : BitVec 16) => ((s.on NTU.SERVO_EN = false ∨ s.get NTU.SRC ≠ src ∨ s.power.mode = .lull ∧
      src ≠ 3))) ((State.reset.put NTU.SERVO_EN 1)) (1) (5) (7)) ∧
    ((fun (s : State) (src : Fin 4) (d : Int) (i : BitVec 16) => (s.on NTU.SERVO_EN = true) ∧ (s.get NTU.SRC = src) ∧ (s.power.mode ≠ .lull) ∧
      (s.on NTU.ACCEPT_NEXT = true)) ((((State.reset.put NTU.SERVO_EN 1).put NTU.SRC 2).put NTU.ACCEPT_NEXT 1)) (2) (-5) (7)) ∧
    ((fun (s : State) (src : Fin 4) (d : Int) (i : BitVec 16) (o : Int) => (s.on NTU.SERVO_EN = true) ∧ (s.get NTU.SRC = src) ∧
      (s.power.mode ≠ .lull) ∧ (s.on NTU.ACCEPT_NEXT = false) ∧ (o = d + toSigned 16 (s.get (NTU.DELAY src))) ∧
      (s.get NTU.STEP_LIMIT * 1000 < o.natAbs) ∧
      (o.natAbs < 2 ^ 31 * nsPerSec)) (((State.reset.put NTU.SERVO_EN 1).put NTU.SRC 2)) (2) (-5000000001) (7) (-5000000001)) ∧
    ((fun (s : State) (src : Fin 4) (d : Int) (i : BitVec 16) (o : Int) => (s.on NTU.SERVO_EN = true) ∧ (s.get NTU.SRC = src) ∧
      (s.power.mode ≠ .lull) ∧ (s.on NTU.ACCEPT_NEXT = false) ∧ (o = d + toSigned 16 (s.get (NTU.DELAY src))) ∧
      (o.natAbs ≤ s.get NTU.STEP_LIMIT * 1000) ∧
      (s.power.coarse = true)) (((State.reset.put NTU.SERVO_EN 1).put NTU.SRC 2 |> fun s => { s with power := { s.power with coarse := true } })) (2)
      (-5000) (7) (-5000)) :=
  by refine ⟨?_, ?_, ?_, ?_, ?_, ?_, ?_⟩ <;> decide +kernel

/-- The hypotheses of Obligations.TimeSteering, clauses 8 to 14 that have any, are met. -/
theorem test_hyp_TimeSteering_2 :
    ((fun (s : State) (src : Fin 4) (d : Int) (i : BitVec 16) (o : Int) => (s.on NTU.SERVO_EN = true) ∧ (s.get NTU.SRC = src) ∧ (s.power.mode ≠ .lull) ∧
  (s.on NTU.ACCEPT_NEXT = false) ∧ (o = d + toSigned 16 (s.get (NTU.DELAY src))) ∧ (o.natAbs ≤ s.get NTU.STEP_LIMIT * 1000) ∧
  (s.power.coarse = false)) (((State.reset.put NTU.SERVO_EN 1).put NTU.SRC 2)) (2) (-100000) (7) (-100000)) ∧
    ((fun (s : State) (src : Fin 4) (d : Int) (i : BitVec 16) => (s.on NTU.SERVO_EN = true) ∧ (s.get NTU.SRC = src) ∧
      (s.power.mode ≠ .lull)) (((State.reset.put NTU.SERVO_EN 1).put NTU.SRC 2 |> fun s => { s with ntu := { s.ntu with lastMaster := some 8 } }))
      (2) (-100000) (7)) ∧
    ((fun (s : State) (x : Fin 2) => ((vget s.ntu.sync x none = none ∨ vget s.ntu.fu x none = none))) (State.reset) (1)) ∧
    ((fun (s : State) (x : Fin 2) (y : SyncSample) (f : FollowUp) => (vget s.ntu.sync x none = some y) ∧ (vget s.ntu.fu x none = some f) ∧
      ((s.on NTU.SERVO_EN = false ∨ s.get NTU.SRC ≠ x ∨ s.power.mode = .lull ∨ s.on NTU.REQ_SYNCED = true ∧
      f.synced = false))) (({ State.reset with ntu := { State.reset.ntu with sync := vput State.reset.ntu.sync 1 (some ⟨5, 1, 2⟩), fu := vput State.reset.ntu.fu 1 (some ⟨7, false⟩) } })) (1) (⟨5, 1, 2⟩) (⟨7, false⟩)) ∧
    ((fun (s : State) (x : Fin 2) (y : SyncSample) (f : FollowUp) (o : Int) => (vget s.ntu.sync x none = some y) ∧ (vget s.ntu.fu x none = some f) ∧
      (s.on NTU.SERVO_EN = true) ∧ (s.get NTU.SRC = x) ∧ (s.power.mode ≠ .lull) ∧ ((s.on NTU.REQ_SYNCED = false ∨ f.synced = true)) ∧
      (s.on NTU.ACCEPT_NEXT = false) ∧ (o = f.time - y.sof + toSigned 16 (s.get (NTU.DELAY x))) ∧ (o.natAbs ≤ s.get NTU.STEP_LIMIT * 1000) ∧
      (s.power.coarse = false)) (({ (State.reset.put NTU.SERVO_EN 1).put NTU.SRC 1 with ntu := { State.reset.ntu with sync := vput State.reset.ntu.sync 1 (some ⟨5, 1, 2⟩), fu := vput State.reset.ntu.fu 1 (some ⟨7, false⟩) } })) (1) (⟨5, 1, 2⟩) (⟨7, false⟩) (2)) ∧
    ((fun (s : State) => ((s.fab.vio = false ∨ s.get (PORT.FUNC 1) ≠ 3 ∧ s.get (PORT.FUNC 9) ≠ 3))) (State.reset)) ∧
    ((fun (s : State) (o : Int) => (s.fab.vio = true) ∧ ((s.get (PORT.FUNC 1) = 3 ∨ s.get (PORT.FUNC 9) = 3)) ∧ (s.on NTU.SERVO_EN = true) ∧
      (s.get NTU.SRC = 3) ∧ (s.on NTU.ACCEPT_NEXT = false) ∧ (s.power.coarse = false) ∧ (s.ntu.ns * 2 ≠ nsPerSec) ∧
      (o = (if s.ntu.ns * 2 < nsPerSec then -(s.ntu.ns : Int) else (nsPerSec : Int) - s.ntu.ns) + toSigned 16 (s.get (NTU.DELAY 3))) ∧
      (o.natAbs ≤ s.get NTU.STEP_LIMIT * 1000))
      (({ ((State.reset.put NTU.SERVO_EN 1).put NTU.SRC 3).put (PORT.FUNC 9) 3 with ntu := { State.reset.ntu with ns := 999999998 } })) (2)) :=
  by refine ⟨?_, ?_, ?_, ?_, ?_, ?_, ?_⟩ <;> decide +kernel

/-- The hypotheses of Obligations.TimeChannels, clauses 1 to 9 that have any, are met. -/
theorem test_hyp_TimeChannels :
    ((fun (s : State) (m : Master) => (s.admits m 0x11 0x40 false)) (State.reset) (.hart 3)) ∧
    ((fun (s : State) (m : Master) (c : Fin 16) (v : Word) => (s.admits m 0x11 (0x100 + 0x10 * c) true) ∧ (s.on (NTU.CH_CAPTURED c) = false) ∧
      (bits v.toNat 0 2 = 1) ∧ (toSigned 32 ((s.tick32 + 2 ^ 32 - s.get (NTU.CH_A c)) % 2 ^ 32) < 0)) (((State.reset.put (NTU.CH_MODE 15) 1).put
      (NTU.CH_A 15) 100)) (.hart 0) (15) (1)) ∧
    ((fun (s : State) (m : Master) (c : Fin 16) (v : Word) => (s.admits m 0x11 (0x100 + 0x10 * c) true) ∧ (bits v.toNat 0 2 = 1) ∧
      (0 ≤ toSigned 32 ((s.tick32 + 2 ^ 32 - s.get (NTU.CH_A c)) % 2 ^ 32)) ∧
      (s.on (NTU.CH_CAPTURED c) = false)) (((State.reset.put (NTU.CH_MODE 15) 1).put (NTU.CH_C 15) 100)) (.hart 0) (15) (1)) ∧
    ((fun (s : State) (m : Master) (c : Fin 16) (v : Word) => (s.admits m 0x11 (0x100 + 0x10 * c) true) ∧ (bits v.toNat 0 2 = 2) ∧
      (s.on (NTU.CH_CAPTURED c) = false) ∧ (bits v.toNat 3 1 = 0) ∧ (Table.find s.ntu.ahead c = none) ∧
      ((s.ntu.sec / 2 ^ 32 * 2 ^ 32 + s.get (NTU.CH_B c)) * nsPerSec + s.get (NTU.CH_A c) > s.now) ∧ (s.get (NTU.CH_A c) < nsPerSec) ∧
      (s.ntu.ns < nsPerSec)) (((State.reset.put (NTU.CH_MODE 15) 2).put (NTU.CH_B 15) 100)) (.hart 0) (15) (2)) ∧
    ((fun (s : State) (m : Master) (c : Fin 16) (v : Word) => (s.admits m 0x11 (0x100 + 0x10 * c) true) ∧ (bits v.toNat 0 2 = 2) ∧
      (s.get (NTU.CH_MODE c) = 2) ∧ (s.on (NTU.CH_CAPTURED c) = false) ∧ (bits v.toNat 3 1 = 0) ∧ ((Table.find s.ntu.ahead c).isSome = true) ∧
      ((s.targetHi c * 2 ^ 32 + s.get (NTU.CH_B c)) * nsPerSec + s.get (NTU.CH_A c) > s.now) ∧
      (s.get (NTU.CH_A c) < nsPerSec)) (((State.reset.put (NTU.CH_MODE 15) 2).put (NTU.CH_B 15) 100 |> fun s =>
      { s with ntu := { s.ntu with ahead := [(15, ())], targetHi := [(15, 3)] } })) (.hart 0) (15) (2)) ∧
    ((fun (s : State) (m : Master) (c : Fin 16) (v : Word) (g : Nat) => (s.admits m 0x11 (0x100 + 0x10 * c) true) ∧ (bits v.toNat 0 2 = 2) ∧
      (s.on (NTU.CH_CAPTURED c) = false) ∧ (bits v.toNat 3 1 = 1) ∧ (s.ntu.ns < nsPerSec) ∧
      (g = s.now + s.get (NTU.CH_B c) * nsPerSec + s.get (NTU.CH_A c)) ∧ (g < timeRange) ∧
      (s.now < g)) ((((State.reset.put (NTU.CH_MODE 15) 2).put (NTU.CH_B 15) 100).put (NTU.CH_A 15) 9)) (.hart 0) (15) (10) (100000000009)) ∧
    ((fun (s : State) (m : Master) (c : Fin 16) (r : Fin 3) (v : Word) => (s.admits m 0x11 (0x104 + 0x10 * c + 4 * r) true)) (State.reset) (.hart 0)
      (15) (2) (0x7FFFFFFF)) ∧
    ((fun (s : State) (m : Master) (c : Fin 16) (r : Fin 3) (v : Word) => (s.admits m 0x11 (0x104 + 0x10 * c + 4 * r) true)) ((State.reset.put
      (NTU.CH_MODE 15) 3)) (.hart 0) (15) (1) (0x7FFFFFFF)) ∧
    ((fun (s : State) (c : Fin 16) => (s.get (NTU.CH_MODE c) = 1) ∧ (s.on (NTU.CH_ARMED c) = true) ∧
      (0 ≤ toSigned 32 ((s.tick32 + 2 ^ 32 - s.get (NTU.CH_A c)) % 2 ^ 32))) (((((State.reset.put (NTU.CH_MODE 15) 1).put (NTU.CH_ARMED 15) 1).put
      (NTU.CH_LINE_EN 15) 1).put (NTU.CH_LINE 15) 1)) (15)) :=
  by refine ⟨?_, ?_, ?_, ?_, ?_, ?_, ?_, ?_, ?_⟩ <;> decide +kernel

/-- The hypotheses of Obligations.TimeChannels, clauses 10 to 17 that have any, are met. -/
theorem test_hyp_TimeChannels_2 :
    ((fun (s : State) (c : Fin 16) => ((s.get (NTU.CH_MODE c) ≠ 1 ∨ s.on (NTU.CH_ARMED c) = false ∨
  toSigned 32 ((s.tick32 + 2 ^ 32 - s.get (NTU.CH_A c)) % 2 ^ 32) < 0))) (State.reset) (15)) ∧
    ((fun (s : State) (c : Fin 16) => (s.get (NTU.CH_MODE c) = 2) ∧ (s.on (NTU.CH_ARMED c) = true) ∧ (s.get (NTU.CH_A c) < nsPerSec) ∧
      (Table.find s.ntu.unjudged c = none) ∧ ((s.targetHi c * 2 ^ 32 + s.get (NTU.CH_B c)) * nsPerSec + s.get (NTU.CH_A c) ≤ s.ntu.judged))
      (((State.reset.put (NTU.CH_MODE 15) 2).put (NTU.CH_ARMED 15) 1)) (15)) ∧
    ((fun (s : State) (c : Fin 16) => ((s.get (NTU.CH_MODE c) ≠ 2 ∨ s.on (NTU.CH_ARMED c) = false ∨ (Table.find s.ntu.unjudged c).isSome = true ∨
      s.get (NTU.CH_A c) < nsPerSec ∧ s.ntu.judged < (s.targetHi c * 2 ^ 32 + s.get (NTU.CH_B c)) * nsPerSec + s.get (NTU.CH_A c)))) (State.reset)
      (15)) ∧
    ((fun (s : State) (c : Fin 16) (up : Bool) => (s.get (NTU.CH_MODE c) = 3) ∧ (s.ntu.ns < nsPerSec) ∧ ((s.get (NTU.CH_CAPSEL c) = 0 ∧ up = true ∨
      s.get (NTU.CH_CAPSEL c) = 1 ∧ s.fab.vio = true ∧ s.carried (.cap c) = true ∧ up ≠ s.on (NTU.CH_PEDGE c) ∨ 2 ≤ s.get (NTU.CH_CAPSEL c) ∧
      s.get (NTU.CH_CAPSEL c) ≤ 4))) (((((State.reset.put (NTU.CH_MODE 3) 3).put (NTU.CH_CAPSEL 3) 1).put (NTU.CH_CAPTURED 3) 1).put (PORT.FUNC 7)
      3)) (3) (true)) ∧
    ((fun (s : State) (c : Fin 16) (up : Bool) => (s.get (NTU.CH_MODE c) = 3) ∧ (s.ntu.ns < nsPerSec) ∧ ((s.get (NTU.CH_CAPSEL c) = 0 ∧ up = true ∨
      s.get (NTU.CH_CAPSEL c) = 1 ∧ s.fab.vio = true ∧ s.carried (.cap c) = true ∧ up ≠ s.on (NTU.CH_PEDGE c) ∨ 2 ≤ s.get (NTU.CH_CAPSEL c) ∧
      s.get (NTU.CH_CAPSEL c) ≤ 4))) (((State.reset.put (NTU.CH_MODE 3) 3).put (NTU.CH_CAPSEL 3) 4)) (3) (true)) ∧
    ((fun (s : State) (c : Fin 16) (up : Bool) => ((s.get (NTU.CH_MODE c) ≠ 3 ∨ s.get (NTU.CH_CAPSEL c) = 1 ∧ (s.fab.vio = false ∨
      s.carried (.cap c) = false ∨ up = s.on (NTU.CH_PEDGE c)) ∨ s.get (NTU.CH_CAPSEL c) = 0 ∧
      up = false))) ((((State.reset.put (NTU.CH_MODE 4) 3).put (NTU.CH_CAPSEL 4) 1).put (NTU.CH_CAPTURED 3) 1)) (4) (true)) ∧
    ((fun (s : State) (m : Master) (c : Fin 16) => (s.admits m 0x11 (0x10C + 0x10 * c) false)) (((State.reset.put (NTU.CH_C 15) 7).put
      (NTU.CH_CAPTURED 15) 1)) (.hart 0) (15)) ∧
    ((fun (s : State) (m : Master) (c : Fin 16) (v : Word) => (s.admits m 0x11 (0x100 + 0x10 * c) true) ∧
      (bits v.toNat 0 2 ≠ s.get (NTU.CH_MODE c)) ∧
      (v.getLsbD 2 = false)) ((((State.reset.put (NTU.CH_MODE 15) 3).put (NTU.CH_CAPTURED 15) 1).put (NTU.CH_A 15) 9)) (.hart 0) (15) (2)) :=
  by refine ⟨?_, ?_, ?_, ?_, ?_, ?_, ?_, ?_⟩ <;> decide +kernel

/-- The hypotheses of Obligations.CanModes, clauses 1 to 10 that have any, are met. -/
theorem test_hyp_CanModes :
    ((fun (s : State) (m : Master) (x : Fin 2) (v : Word) (tq : Nat) (dq : Nat) => (s.admits m (0x12 + x) 0x10 true) ∧ (s.get (CAN.MODE x) = 0) ∧
  (s.get (CAN.ACT x) = 0) ∧ ((s.canCtl x).wasOff = false) ∧ ((s.canCtl x).send = none) ∧ (1 ≤ bits v.toNat 0 3) ∧ (bits v.toNat 0 3 ≤ 4) ∧
  (tq = 3 + s.get (CAN.NTSEG1 x) + s.get (CAN.NTSEG2 x)) ∧
  (dq = 3 + s.get (CAN.DTSEG1 x) + s.get (CAN.DTSEG2 x))) (State.reset) (.hart 0) (1) (0x640111) (160) (40)) ∧
    ((fun (s : State) (m : Master) (x : Fin 2) (v : Word) (tq : Nat) (dq : Nat) => (s.admits m (0x12 + x) 0x10 true) ∧ (s.get (CAN.MODE x) = 0) ∧
      (s.get (CAN.ACT x) = 0) ∧ ((s.canCtl x).wasOff = false) ∧ ((s.canCtl x).send = none) ∧ (1 ≤ bits v.toNat 0 3) ∧ (bits v.toNat 0 3 ≤ 4) ∧
      (tq = 3 + s.get (CAN.NTSEG1 x) + s.get (CAN.NTSEG2 x)) ∧
      (dq = 3 + s.get (CAN.DTSEG1 x) + s.get (CAN.DTSEG2 x))) ((State.reset.put (CAN.DTSEG1 1) 0)) (.hart 0) (1) (0x640114) (160) (12)) ∧
    ((fun (s : State) (m : Master) (x : Fin 2) (v : Word) => (s.admits m (0x12 + x) 0x10 true) ∧ (s.get (CAN.MODE x) ≠ 0) ∧
      ((s.canCtl x).stopping = false) ∧ (s.canMode x ≠ 2) ∧ (bits v.toNat 0 3 = 0) ∧ ((s.get (CAN.ACT x) = 3 ∨
      s.get (CAN.ACT x) = 4))) (((State.reset.put (CAN.MODE 1) 1).put (CAN.ACT 1) 4)) (.hart 0) (1) (0x640110)) ∧
    ((fun (s : State) (m : Master) (x : Fin 2) (v : Word) => (s.admits m (0x12 + x) 0x10 true) ∧ (s.get (CAN.MODE x) ≠ 0) ∧
      ((s.canCtl x).stopping = false) ∧ (s.canMode x ≠ 2) ∧ (bits v.toNat 0 3 = 0) ∧ ((s.get (CAN.ACT x) = 3 ∨
      s.get (CAN.ACT x) = 4))) (((State.reset.put (CAN.MODE 1) 1).put (CAN.ACT 1) 3)) (.hart 0) (1) (0x640110)) ∧
    ((fun (s : State) (m : Master) (x : Fin 2) (v : Word) => (s.admits m (0x12 + x) 0x10 true) ∧ (s.get (CAN.MODE x) ≠ 0) ∧
      ((s.canCtl x).stopping = false) ∧ (s.canMode x ≠ 2) ∧ (bits v.toNat 0 3 = 0) ∧ (s.get (CAN.ACT x) ≠ 3) ∧ (s.get (CAN.ACT x) ≠ 4) ∧
      ((s.canMode x = 3 ∨ x = 0 ∧ s.trxLow = true))) (((State.reset.put (CAN.MODE 1) 3).put (CAN.ACT 1) 2)) (.hart 0) (1) (0x640110)) ∧
    ((fun (s : State) (m : Master) (x : Fin 2) (v : Word) => (s.admits m (0x12 + x) 0x10 true) ∧ (s.get (CAN.MODE x) ≠ 0) ∧
      ((s.canCtl x).stopping = false) ∧ (s.canMode x ≠ 2) ∧ (bits v.toNat 0 3 = 0) ∧ (s.get (CAN.ACT x) ≠ 3) ∧
      (s.get (CAN.ACT x) ≠ 4)) (((State.reset.put (CAN.MODE 1) 1).put (CAN.ACT 1) 2)) (.hart 0) (1) (0x640110)) ∧
    ((fun (s : State) (x : Fin 2) => ((s.canCtl x).stopping = true) ∧
      ((s.canCtl x).send = none)) ((State.reset.modCan 1 (fun c => { c with stopping := true }))) (1)) ∧
    ((fun (s : State) (x : Fin 2) => (((s.canCtl x).stopping = false ∨ (s.canCtl x).send.isSome = true))) (State.reset) (1)) ∧
    ((fun (s : State) (x : Fin 2) (e : CanErr) => (s.canOnBus x = true) ∧ (s.canMode x ≠ 2) ∧
      (e ≠ .transmitterFlag)) ((((State.reset.put (CAN.ACT 1) 2).put (CAN.MODE 1) 1).put (CAN.REC 1) 120)) (1) (.receiverFlag)) ∧
    ((fun (s : State) (x : Fin 2) (e : CanErr) => (s.canOnBus x = true) ∧ (s.canMode x ≠ 2) ∧
      (e ≠ .transmitterFlag)) ((((State.reset.put (CAN.ACT 1) 2).put (CAN.MODE 1) 1).put (CAN.REC 1) 255)) (1) (.receiver)) :=
  by refine ⟨?_, ?_, ?_, ?_, ?_, ?_, ?_, ?_, ?_, ?_⟩ <;> decide +kernel

/-- The hypotheses of Obligations.CanModes, clauses 11 to 19 that have any, are met. -/
theorem test_hyp_CanModes_2 :
    ((fun (s : State) (x : Fin 2) => (s.canOnBus x = true) ∧ (s.canMode x ≠ 2) ∧
  (s.get (CAN.TEC x) ≤ 247)) ((((State.reset.put (CAN.ACT 1) 2).put (CAN.MODE 1) 1).put (CAN.TEC 1) 120)) (1)) ∧
    ((fun (s : State) (x : Fin 2) => (s.canOnBus x = true) ∧ (s.canMode x ≠ 2) ∧ (247 < s.get (CAN.TEC x)) ∧ (s.get (CAN.ACT x) ≠ 0) ∧
      (s.on (CAN.BUS_OFF x) = false) ∧ ((s.canCtl x).send = none)) ((((State.reset.put (CAN.ACT 1) 2).put (CAN.MODE 1) 1).put (CAN.TEC 1) 248)) (1)) ∧
    ((fun (s : State) (x : Fin 2) (e : CanErr) => ((s.canOnBus x = false ∨ s.canMode x = 2))) (State.reset) (1) (.receiver)) ∧
    ((fun (s : State) (x : Fin 2) => (s.up .can = true) ∧ (s.canMode x ≠ 2) ∧ (s.get (CAN.ACT x) ≠ 0) ∧ (s.on (CAN.BUS_OFF x) = false) ∧
      ((s.canCtl x).send = none)) ((State.reset.put (CAN.ACT 1) 2)) (1)) ∧
    ((fun (s : State) (x : Fin 2) (f : CanSend) => (s.up .can = true) ∧ (s.canMode x ≠ 2) ∧ (s.get (CAN.ACT x) ≠ 0) ∧
      (s.on (CAN.BUS_OFF x) = false) ∧ ((s.canCtl x).send = some f) ∧ (f.late = false) ∧ (f.orphan = false) ∧
      (bit (s.word1 x f.obj) 6 = false)) (((State.reset.put (CAN.ACT 1) 4).modCan 1 (fun c => { c with send := some ⟨5, 7, 8, [], false, false⟩ })))
      (1) (⟨5, 7, 8, [], false, false⟩)) ∧
    ((fun (s : State) (x : Fin 2) => ((s.up .can = false ∨ s.canMode x = 2 ∨ s.get (CAN.ACT x) = 0 ∨
      s.on (CAN.BUS_OFF x) = true))) (State.reset) (1)) ∧
    ((fun (s : State) (m : Master) (x : Fin 2) => (s.admits m (0x12 + x) 0x14 true)) (((State.reset.put (CAN.BOFF_MODE 1) 1).put (CAN.ACT 1) 5))
      (.hart 0) (1)) ∧
    ((fun (s : State) (x : Fin 2) => (s.up .can = true) ∧ (s.get (CAN.ACT x) = 6)) ((State.reset.put (CAN.ACT 1) 6)) (1)) ∧
    ((fun (s : State) (x : Fin 2) => ((s.up .can = false ∨ s.get (CAN.ACT x) ≠ 6))) (State.reset) (1)) :=
  by refine ⟨?_, ?_, ?_, ?_, ?_, ?_, ?_, ?_, ?_⟩ <;> decide +kernel

/-- The hypotheses of Obligations.CanReception, clauses 1 to 8 that have any, are met. -/
theorem test_hyp_CanReception :
    ((fun (s : State) (x : Fin 2) (o : Fin 128) (f : CanFrame) (w0 : Nat) => (w0 = frameWord0 f) ∧ (s.up .can = true) ∧ (s.canQuiet x = true) ∧
  (s.canMode x = 1) ∧ ((x = 0 → s.trxLow = false)) ∧ ((x = 1 → s.fab.vio = true)) ∧ ((f.fdf = true → s.on (CAN.FD_EN x) = true)) ∧
  ((s.canCtl x).storing = none) ∧ (s.on (CAN.SM_EN x 0) = false) ∧ (s.on (CAN.SM_EN x 1) = false) ∧ (s.on (CAN.SLP_EN x) = false) ∧
  (s.get (CAN.REC x) ≤ 127) ∧ ((∀ p : Fin 128, p < o → s.objType x p = 1 → s.eccBad (canWord x p 0) = false ∧ s.eccBad (canWord x p 2) = false ∧
  agree (s.objWord x p 2) (s.objWord x p 0) w0 = false)) ∧ (s.objType x o = 1) ∧ (s.eccBad (canWord x o 0) = false) ∧
  (s.eccBad (canWord x o 2) = false) ∧ (agree (s.objWord x o 2) (s.objWord x o 0) w0 = true) ∧ (bits (s.word1 x o) 16 7 = 0) ∧
  (bit (s.word1 x o) 29 = false)) (State.withRam (((((State.reset.put (CAN.ACT 1) 2).put (CAN.MODE 1) 1).setWord1 1 5 0x80000100).setWord1 1 3
  0x100).setWord 0 (canWord 1 3 2) 0xFFFFFFFF |>.setWord 0 (canWord 1 5 2) 0) ram27) (1) (5) (⟨0x12345678, true, false, true, true, true, 2, [7, 9],
  100⟩) (frameWord0 ⟨0x12345678, true, false, true, true, true, 2, [7, 9], 100⟩)) ∧
    ((fun (s : State) (x : Fin 2) (o : Fin 128) (f : CanFrame) (w0 : Nat) => (w0 = frameWord0 f) ∧ (s.up .can = true) ∧ (s.canQuiet x = true) ∧
      (s.canMode x = 1) ∧ ((x = 0 → s.trxLow = false)) ∧ ((x = 1 → s.fab.vio = true)) ∧ ((f.fdf = true → s.on (CAN.FD_EN x) = true)) ∧
      ((s.canCtl x).storing = none) ∧ (s.on (CAN.SM_EN x 0) = false) ∧ (s.on (CAN.SM_EN x 1) = false) ∧ (s.on (CAN.SLP_EN x) = false) ∧
      (s.get (CAN.REC x) ≤ 127) ∧ ((∀ p : Fin 128, p < o → s.objType x p ≠ 1)) ∧ (s.objType x o = 1) ∧ (s.eccBad (canWord x o 0) = false) ∧
      (s.eccBad (canWord x o 2) = false) ∧ (agree (s.objWord x o 2) (s.objWord x o 0) w0 = true) ∧ (bits (s.word1 x o) 16 7 = 0) ∧
      (bit (s.word1 x o) 29 = true)) (State.withRam (((((State.reset.put (CAN.ACT 1) 2).put (CAN.MODE 1) 1).setWord1 1 5 0xE0000100).setWord 0
      (canWord 1 5 2) 0)) ram28) (1) (5) (⟨0x12345678, true, false, true, true, true, 2, [7, 9], 100⟩) (frameWord0 ⟨0x12345678, true, false, true,
      true, true, 2, [7, 9], 100⟩)) ∧
    ((fun (s : State) (x : Fin 2) (o : Fin 128) (n : Fin 128) (f : CanFrame) (w0 : Nat) => (w0 = frameWord0 f) ∧ (s.up .can = true) ∧
      (s.canQuiet x = true) ∧ (s.canMode x = 1) ∧ ((x = 0 → s.trxLow = false)) ∧ ((x = 1 → s.fab.vio = true)) ∧ ((f.fdf = true →
      s.on (CAN.FD_EN x) = true)) ∧ ((s.canCtl x).storing = none) ∧ (s.on (CAN.SM_EN x 0) = false) ∧ (s.on (CAN.SM_EN x 1) = false) ∧
      (s.on (CAN.SLP_EN x) = false) ∧ (s.get (CAN.REC x) ≤ 127) ∧ ((∀ p : Fin 128, p < o → s.objType x p ≠ 1)) ∧ (s.objType x o = 1) ∧
      (s.eccBad (canWord x o 0) = false) ∧ (s.eccBad (canWord x o 2) = false) ∧ (agree (s.objWord x o 2) (s.objWord x o 0) w0 = true) ∧
      (bits (s.word1 x o) 16 7 = n) ∧ (n ≠ 0) ∧ (o.val + n < 128) ∧ (Table.find (s.canCtl x).next o = some 1) ∧ (s.objType x (o + 1) = 2) ∧
      (s.objOwner x (o + 1) = s.objOwner x o) ∧ ((bit (s.word1 x (o + 1)) 31 = true ∨
      bit (s.word1 x (o + 1)) 29 = true))) (State.withRam ((((((State.reset.put (CAN.ACT 1) 2).put (CAN.MODE 1) 1).setWord1 1 5 0x10100).setWord1 1 6
      0x80000200).modCan 1 (fun c => { c with next := [(5, 1)] }) |>.setWord 0 (canWord 1 5 2) 0)) ram28) (1) (5) (1) (⟨0x12345678, true, false,
      true, true, true, 2, [7, 9], 100⟩) (frameWord0 ⟨0x12345678, true, false, true, true, true, 2, [7, 9], 100⟩)) ∧
    ((fun (s : State) (x : Fin 2) (o : Fin 128) (f : CanFrame) (w0 : Nat) => (w0 = frameWord0 f) ∧ (s.up .can = true) ∧ (s.canQuiet x = true) ∧
      (s.canMode x = 1) ∧ ((x = 0 → s.trxLow = false)) ∧ ((x = 1 → s.fab.vio = true)) ∧ ((f.fdf = true → s.on (CAN.FD_EN x) = true)) ∧
      ((s.canCtl x).storing = none) ∧ (s.on (CAN.SM_EN x 0) = false) ∧ (s.on (CAN.SM_EN x 1) = false) ∧ (s.on (CAN.SLP_EN x) = false) ∧
      (s.get (CAN.REC x) ≤ 127) ∧ ((∀ p : Fin 128, p < o → s.objType x p ≠ 1)) ∧ (s.objType x o = 1) ∧ (s.eccBad (canWord x o 0) = false) ∧
      (s.eccBad (canWord x o 2) = false) ∧ (agree (s.objWord x o 2) (s.objWord x o 0) w0 = true) ∧ (bits (s.word1 x o) 16 7 = 0) ∧
      (bit (s.word1 x o) 29 = false) ∧ (bit (s.word1 x o) 31 = false)) (State.withRam (((((State.reset.put (CAN.ACT 1) 2).put (CAN.MODE 1)
      1).setWord1 1 5 0x100).setWord 0 (canWord 1 5 2) 0)) ram28) (1) (5) (⟨0x12345678, true, false, true, true, true, 2, [7, 9], 100⟩) (frameWord0
      ⟨0x12345678, true, false, true, true, true, 2, [7, 9], 100⟩)) ∧
    ((fun (s : State) (x : Fin 2) (o : Fin 128) (f : CanStore) => (s.up .can = true) ∧ ((s.canCtl x).storing = some (o.val, f)) ∧
      (f.word0 < 2 ^ 32) ∧ (f.time < 2 ^ 32) ∧
      (f.data.length = 16)) (((State.reset.setWord1 1 5 0x100).modCan 1 (fun c => { c with storing := some (5, ⟨5, 2, 7, List.replicate 16 9⟩) })))
      (1) (5) (⟨5, 2, 7, List.replicate 16 9⟩)) ∧
    ((fun (s : State) (x : Fin 2) => ((s.up .can = false ∨ (s.canCtl x).storing = none))) (State.reset) (1)) ∧
    ((fun (s : State) (x : Fin 2) (f : CanFrame) (w0 : Nat) => (w0 = frameWord0 f) ∧ (s.up .can = true) ∧ (s.canQuiet x = true) ∧ (s.canMode x = 1) ∧
      ((x = 0 → s.trxLow = false)) ∧ ((x = 1 → s.fab.vio = true)) ∧ ((f.fdf = true → s.on (CAN.FD_EN x) = true)) ∧ ((s.canCtl x).storing = none) ∧
      (s.get (CAN.REC x) ≤ 127) ∧ ((∀ p : Fin 128, s.objType x p ≠ 1)) ∧ (s.on (CAN.SM_EN x 0) = true) ∧ (s.on (CAN.SM_EN x 1) = false) ∧
      (s.on (CAN.SLP_EN x) = false) ∧ (s.get (CAN.SM_ID x 0) = bits w0 0 29) ∧ (s.get (CAN.SM_XTD x 0) = bits w0 29 1) ∧ (2 ≤ f.dlc.toNat) ∧
      (f.rtr = false)) ((((((State.reset.put (CAN.ACT 1) 2).put (CAN.MODE 1) 1).put (CAN.SM_EN 1 0) 1).put (CAN.SM_ID 1 0) 0x12345678).put
      (CAN.SM_XTD 1 0) 1)) (1) (⟨0x12345678, true, false, true, true, true, 2, [7, 9], 100⟩) (frameWord0 ⟨0x12345678, true, false, true, true, true,
      2, [7, 9], 100⟩)) ∧
    ((fun (s : State) (x : Fin 2) (f : CanFrame) (w0 : Nat) (y : SyncSample) => (w0 = frameWord0 f) ∧ (s.up .can = true) ∧ (s.canQuiet x = true) ∧
      (s.canMode x = 1) ∧ ((x = 0 → s.trxLow = false)) ∧ ((x = 1 → s.fab.vio = true)) ∧ ((f.fdf = true → s.on (CAN.FD_EN x) = true)) ∧
      ((s.canCtl x).storing = none) ∧ (s.get (CAN.REC x) ≤ 127) ∧ ((∀ p : Fin 128, s.objType x p ≠ 1)) ∧ (s.on (CAN.SM_EN x 0) = false) ∧
      (s.on (CAN.SM_EN x 1) = true) ∧ (s.on (CAN.SLP_EN x) = false) ∧ (s.get (CAN.SM_ID x 1) = bits w0 0 29) ∧
      (s.get (CAN.SM_XTD x 1) = bits w0 29 1) ∧ (f.fdf = true) ∧ (f.rtr = false) ∧ (f.dlc = 9) ∧
      (vget s.ntu.sync x none = some y)) ((((((State.reset.put (CAN.ACT 1) 2).put (CAN.MODE 1) 1).put (CAN.SM_EN 1 1) 1).put (CAN.SM_ID 1 1)
      0x12345678).put (CAN.SM_XTD 1 1) 1 |> fun s => { s with ntu := { s.ntu with sync := vput s.ntu.sync 1 (some ⟨0, 4, 1⟩) } })) (1) (⟨0x12345678,
      true, false, true, true, true, 9, [0, 0, 0, 0, 0, 3, 0, 0, 0, 7, 4, 1], 100⟩) (frameWord0 ⟨0x12345678, true, false, true, true, true, 2, [7,
      9], 100⟩) (⟨0, 4, 1⟩)) :=
  by refine ⟨?_, ?_, ?_, ?_, ?_, ?_, ?_, ?_⟩ <;> decide +kernel

/-- The hypotheses of Obligations.CanReception, clauses 9 to 16 that have any, are met. -/
theorem test_hyp_CanReception_2 :
    ((fun (s : State) (x : Fin 2) (f : CanFrame) (w0 : Nat) (y : SyncSample) => (w0 = frameWord0 f) ∧ (s.up .can = true) ∧ (s.canQuiet x = true) ∧
  (s.canMode x = 1) ∧ ((x = 0 → s.trxLow = false)) ∧ ((x = 1 → s.fab.vio = true)) ∧ ((f.fdf = true → s.on (CAN.FD_EN x) = true)) ∧
  ((s.canCtl x).storing = none) ∧ (s.get (CAN.REC x) ≤ 127) ∧ ((∀ p : Fin 128, s.objType x p ≠ 1)) ∧ (s.on (CAN.SM_EN x 0) = false) ∧
  (s.on (CAN.SM_EN x 1) = true) ∧ (s.on (CAN.SLP_EN x) = false) ∧ (s.get (CAN.SM_ID x 1) = bits w0 0 29) ∧ (s.get (CAN.SM_XTD x 1) = bits w0 29 1) ∧
  (f.fdf = false) ∧ (f.rtr = false) ∧ (f.dlc = 8) ∧ (vget s.ntu.sync x none = some y) ∧
  (bits (ofBytesBE (((frameData f).drop 4).take 4)) 30 2 = y.seq % 4) ∧
  (s.now ≤ y.sof + s.get NTU.FU_WINDOW * 1000000)) ((((((State.reset.put (CAN.ACT 1) 2).put (CAN.MODE 1) 1).put (CAN.SM_EN 1 1) 1).put (CAN.SM_ID 1
  1) 0x12345678).put (CAN.SM_XTD 1 1) 1 |> fun s => { s with ntu := { s.ntu with sync := vput s.ntu.sync 1 (some ⟨0, 4, 1⟩) } })) (1) (⟨0x12345678,
  true, false, false, false, false, 8, [0, 0, 0, 3, 0, 0, 0, 7], 100⟩) (frameWord0 ⟨0x12345678, true, false, false, false, false, 8, [0, 0, 0, 3, 0,
  0, 0, 7], 100⟩) (⟨0, 4, 1⟩)) ∧
    ((fun (s : State) (x : Fin 2) (f : CanFrame) (w0 : Nat) => (w0 = frameWord0 f) ∧ (s.up .can = true) ∧ (s.canQuiet x = true) ∧ (s.canMode x = 1) ∧
      ((x = 0 → s.trxLow = false)) ∧ ((x = 1 → s.fab.vio = true)) ∧ ((f.fdf = true → s.on (CAN.FD_EN x) = true)) ∧ ((s.canCtl x).storing = none) ∧
      (s.get (CAN.REC x) ≤ 127) ∧ ((∀ p : Fin 128, s.objType x p ≠ 1)) ∧ (s.on (CAN.SM_EN x 0) = false) ∧ (s.on (CAN.SM_EN x 1) = false) ∧
      (s.on (CAN.SLP_EN x) = true) ∧ (s.unheard 0x3C) ∧
      (agree (s.get (CAN.SLP_IDMASK x)) (bits w0 0 30) (s.get (CAN.SLP_ID x) + s.get (CAN.SLP_XTD x) * 2 ^ 29) = true) ∧
      ((∀ j : Fin 8, bits (s.get (CAN.SLP_DMASK x (j / 4))) (8 * (j % 4)) 8 = 0 ∨ j.val < (frameData f).length ∧
      agree (bits (s.get (CAN.SLP_DMASK x (j / 4))) (8 * (j % 4)) 8) (nth (frameData f) j) (bits (s.get (CAN.SLP_DATA x (j / 4))) (8 * (j % 4)) 8) =
      true))) ((((((State.reset.put (CAN.ACT 1) 2).put (CAN.MODE 1) 1).put (CAN.SLP_EN 1) 1).put (CAN.SLP_DMASK 1 0) 0xFF00).put (CAN.SLP_DATA 1 0)
      0x900)) (1) (⟨0x12345678, true, false, true, true, true, 2, [7, 9], 100⟩) (frameWord0 ⟨0x12345678, true, false, true, true, true, 2, [7, 9],
      100⟩)) ∧
    ((fun (s : State) (x : Fin 2) (f : CanFrame) (w0 : Nat) => (w0 = frameWord0 f) ∧ (s.up .can = true) ∧ (s.canQuiet x = true) ∧ (s.canMode x = 1) ∧
      ((x = 0 → s.trxLow = false)) ∧ ((x = 1 → s.fab.vio = true)) ∧ ((f.fdf = true → s.on (CAN.FD_EN x) = true)) ∧ ((s.canCtl x).storing = none) ∧
      (s.get (CAN.REC x) ≤ 127) ∧ ((∀ p : Fin 128, s.objType x p ≠ 1)) ∧ (s.on (CAN.SM_EN x 0) = false) ∧ (s.on (CAN.SM_EN x 1) = false) ∧
      (s.on (CAN.SLP_EN x) = true) ∧ (s.unheard 0x3C) ∧
      (agree (s.get (CAN.SLP_IDMASK x)) (bits w0 0 30) (s.get (CAN.SLP_ID x) + s.get (CAN.SLP_XTD x) * 2 ^ 29) = true) ∧
      ((∀ j : Fin 8, bits (s.get (CAN.SLP_DMASK x (j / 4))) (8 * (j % 4)) 8 = 0 ∨ j.val < (frameData f).length ∧
      agree (bits (s.get (CAN.SLP_DMASK x (j / 4))) (8 * (j % 4)) 8) (nth (frameData f) j) (bits (s.get (CAN.SLP_DATA x (j / 4))) (8 * (j % 4)) 8) =
      true))) ((((((State.reset.put (CAN.ACT 0) 2).put (CAN.MODE 0) 1).put (CAN.FD_EN 0) 1).put (CAN.SLP_EN 0) 1).put (CAN.SLP_DMASK 0 0) 0xFF00
      |>.put (CAN.SLP_DATA 0 0) 0x900)) (0) (⟨0x12345678, true, false, true, true, true, 2, [7, 9], 100⟩) (frameWord0 ⟨0x12345678, true, false, true,
      true, true, 2, [7, 9], 100⟩)) ∧
    ((fun (s : State) (x : Fin 2) (f : CanFrame) => ((s.up .can = false ∨ s.canQuiet x = false ∨ s.canMode x = 0 ∨ s.canMode x = 3 ∨ f.fdf = true ∧
      s.on (CAN.FD_EN x) = false))) (State.reset) (1) (⟨0x12345678, true, false, true, true, true, 2, [7, 9], 100⟩)) ∧
    ((fun (s : State) (m : Master) (x : Fin 2) (o : Fin 128) => (s.reaches m (canWord x o 0) false) ∧ ((s.canCtl x).storing.map (·.1) ≠ some o.val) ∧
      ((s.objType x o = 1 ∨ s.objType x o = 2)) ∧ (s.eccBad (canWord x o 0) = false)) ((State.reset.setWord1 1 127 0x200)) (.hart 0) (1) (127)) ∧
    ((fun (s : State) (m : Master) (x : Fin 2) (o : Fin 128) => (s.reaches m (canWord x o 0) false) ∧ ((s.canCtl x).storing.map (·.1) ≠ some o.val) ∧
      (s.objType x o ≠ 1) ∧ (s.objType x o ≠ 2) ∧ (s.eccBad (canWord x o 0) = false)) (State.reset) (.hart 0) (1) (127)) ∧
    ((fun (s : State) (m : Master) (x : Fin 2) (o : Fin 128) => (s.reaches m (canWord x o 0) false) ∧ ((s.canCtl x).storing.map (·.1) ≠ some o.val) ∧
      ((s.objType x o = 1 ∨ s.objType x o = 2)) ∧ (bit (s.word1 x o) 29 = false) ∧
      (s.eccBad (canWord x o 0) = true)) (((State.reset.setWord1 1 127 0x200).setEcc (canWord 1 127 0))) (.hart 0) (1) (127)) ∧
    ((fun (s : State) (m : Master) (x : Fin 2) (o : Fin 128) => (s.reaches m (canWord x o 19) false) ∧
      ((s.canCtl x).storing.map (·.1) ≠ some o.val) ∧ (bit (s.word1 x o) 29 = true) ∧ (bit (s.word1 x o) 30 = false) ∧
      (s.eccBad (canWord x o 19) = false)) ((State.reset.setWord1 1 127 0xB0000200)) (.hart 0) (1) (127)) :=
  by refine ⟨?_, ?_, ?_, ?_, ?_, ?_, ?_, ?_⟩ <;> decide +kernel

/-- The hypotheses of Obligations.CanReception, clauses 17 to 22 that have any, are met. -/
theorem test_hyp_CanReception_3 :
    ((fun (s : State) (m : Master) (x : Fin 2) (o : Fin 128) (f : CanStore) => (s.reaches m (canWord x o 19) false) ∧
  ((s.canCtl x).storing.map (·.1) ≠ some o.val) ∧ (bit (s.word1 x o) 29 = true) ∧ (bit (s.word1 x o) 30 = true) ∧
  (s.eccBad (canWord x o 19) = false) ∧ (Table.find (s.canCtl x).shadow o = some f) ∧ (f.word0 < 2 ^ 32) ∧ (f.data.length = 16) ∧
  (s.objType x o = 1)) (((State.reset.setWord1 1 127 0xF0000100).modCan 1 (fun c => { c with shadow := [(127, ⟨5, 2, 7, List.replicate 16 9⟩)] })))
  (.hart 0) (1) (127) (⟨5, 2, 7, List.replicate 16 9⟩)) ∧
    ((fun (s : State) (m : Master) (x : Fin 2) (o : Fin 128) => (s.reaches m (canWord x o 19) false) ∧
      ((s.canCtl x).storing.map (·.1) ≠ some o.val) ∧ (bit (s.word1 x o) 29 = false) ∧
      (s.eccBad (canWord x o 19) = false)) (State.reset) (.hart 0) (1) (127)) ∧
    ((fun (s : State) (m : Master) (x : Fin 2) (v : Word) => (s.admits m (0x12 + x) 0x58 true) ∧ (s.objOwner x (v.toNat % 128) = s.tidOf m) ∧
      (bit (s.word1 x (v.toNat % 128)) 30 = false)) ((State.reset.setWord1 1 127 0xB0000200)) (.hart 0) (1) (0xFF)) ∧
    ((fun (s : State) (m : Master) (x : Fin 2) (v : Word) => (s.admits m (0x12 + x) 0x58 true) ∧
      (s.objOwner x (v.toNat % 128) ≠ s.tidOf m)) (State.reset) (.hart 1) (1) (0xFF)) ∧
    ((fun (s : State) (x : Fin 2) (o : Fin 128) (n : Nat) => (s.up .can = true) ∧ (Table.find (s.canCtl x).lock o = some n) ∧
      (Table.find (s.canCtl x).reported o = none)) ((State.reset.modCan 1 (fun c => { c with lock := [(127, 2)] }))) (1) (127) (2)) ∧
    ((fun (s : State) (x : Fin 2) (o : Fin 128) => ((s.up .can = false ∨ Table.find (s.canCtl x).lock o = none ∨
      (Table.find (s.canCtl x).reported o).isSome = true))) (State.reset) (1) (127)) :=
  by refine ⟨?_, ?_, ?_, ?_, ?_, ?_⟩ <;> decide +kernel

/-- The hypotheses of Obligations.CanControlWord are met. -/
theorem test_hyp_CanControlWord :
    ((fun (s : State) (m : Master) (x : Fin 2) (o : Fin 128) (v : Word) => (s.reaches m (canWord x o 1) true) ∧ ((s.objType x o = 3 ∨
  s.objType x o = 4)) ∧ ((s.objState x o = 1 ∨ s.objState x o = 2))) ((State.reset.setWord1 1 127 0x01000300)) (.hart 0) (1) (127) (0)) ∧
    ((fun (s : State) (m : Master) (x : Fin 2) (o : Fin 128) (v : Word) => (s.reaches m (canWord x o 1) true) ∧ (¬((s.objType x o = 3 ∨
      s.objType x o = 4) ∧ (s.objState x o = 1 ∨ s.objState x o = 2))) ∧ ((bits v.toNat 8 3 = s.objType x o ∨
      5 ≤ bits v.toNat 8 3))) ((State.reset.setWord1 1 127 0x81000400 |>.setWord1 1 127 0x80000400)) (.hart 0) (1) (127) (0x01013C5F)) ∧
    ((fun (s : State) (m : Master) (x : Fin 2) (o : Fin 128) (v : Word) => (s.reaches m (canWord x o 1) true) ∧ (¬((s.objType x o = 3 ∨
      s.objType x o = 4) ∧ (s.objState x o = 1 ∨ s.objState x o = 2))) ∧ (bits v.toNat 8 3 ≠ s.objType x o) ∧ (bits v.toNat 8 3 < 5) ∧
      (bit (s.word1 x o) 29 = false)) ((State.reset.setWord1 1 127 0xC0000200)) (.hart 0) (1) (127) (0x10D)) ∧
    ((fun (s : State) (m : Master) (x : Fin 2) (o : Fin 128) (v : Word) => (s.reaches m (canWord x o 1) true) ∧ ((s.objType x o = 1 ∨
      s.objType x o = 2)) ∧ (bits v.toNat 8 3 ≠ s.objType x o) ∧ (bits v.toNat 8 3 < 5) ∧
      (bit (s.word1 x o) 29 = true)) ((State.reset.setWord1 1 127 0xB0000200)) (.hart 0) (1) (127) (0x30D)) :=
  by refine ⟨?_, ?_, ?_, ?_⟩ <;> decide +kernel

/-- The hypotheses of Obligations.CanTransmission, clauses 1 to 10 that have any, are met. -/
theorem test_hyp_CanTransmission :
    ((fun (s : State) (m : Master) (x : Fin 2) (v : Word) (o : Nat) => (s.admits m (0x12 + x) 0x50 true) ∧ (o = v.toNat % 128) ∧
  (s.objOwner x o = s.tidOf m)) ((State.reset.setWord1 1 127 0x300)) (.hart 0) (1) (0xFF) (127)) ∧
    ((fun (s : State) (m : Master) (x : Fin 2) (v : Word) => (s.admits m (0x12 + x) 0x50 true) ∧
      (s.objOwner x (v.toNat % 128) ≠ s.tidOf m)) (State.reset) (.hart 1) (1) (0xFF)) ∧
    ((fun (s : State) (x : Fin 2) (o : Fin 128) => (s.up .can = true) ∧ (s.canQuiet x = true) ∧ (s.get (CAN.MODE x) ≠ 0) ∧ (s.canMode x ≠ 2) ∧
      ((∀ p : Fin 128, s.startPassed x p = false)) ∧ (s.objState x o = 1) ∧ ((∀ p : Fin 128, s.objState x p = 1 →
      arbKey (s.objWord x o 0) < arbKey (s.objWord x p 0) ∨ arbKey (s.objWord x o 0) = arbKey (s.objWord x p 0) ∧ o ≤ p)) ∧
      ((∀ w : Fin 20, s.eccBad (canWord x o w) = false)) ∧ ((bit (s.objWord x o 0) 31 = true → s.on (CAN.FD_EN x) = true ∧
      bit (s.objWord x o 0) 30 = false)) ∧ ((bit (s.objWord x o 0) 31 = false →
      bits (s.word1 x o) 0 4 ≤ 8))) (State.withRam (((((((State.reset.put (CAN.ACT 1) 2).put (CAN.MODE 1) 1).setWord1 1 5 0x01000309).setWord1 1 7
      0x01000308).setWord 0 (canWord 1 5 0) 0x80040000).setWord 0 (canWord 1 7 0) 0x80040000 |>.setWord 0 (canWord 1 5 3) 0 |>.setWord 0 (canWord 1 7
      3) 0)) ram29) (1) (5)) ∧
    ((fun (s : State) (x : Fin 2) (o : Fin 128) => (s.up .can = true) ∧ (s.canQuiet x = true) ∧ (s.get (CAN.MODE x) ≠ 0) ∧ (s.canMode x ≠ 2) ∧
      ((∀ p : Fin 128, s.startPassed x p = false)) ∧ (s.objState x o = 1) ∧ (s.objType x o = 3) ∧ ((∀ p : Fin 128, p ≠ o → s.objState x p ≠ 1)) ∧
      ((∀ w : Fin 20, s.eccBad (canWord x o w) = false)) ∧ ((bit (s.objWord x o 0) 31 = true ∧ (s.on (CAN.FD_EN x) = false ∨
      bit (s.objWord x o 0) 30 = true) ∨ bit (s.objWord x o 0) 31 = false ∧
      8 < bits (s.word1 x o) 0 4))) (State.withRam (((((State.reset.put (CAN.ACT 1) 2).put (CAN.MODE 1) 1).setWord1 1 5 0x01000309).setWord 0
      (canWord 1 5 0) 0x00040000 |>.setWord 0 (canWord 1 5 3) 0)) ram30) (1) (5)) ∧
    ((fun (s : State) (x : Fin 2) (u : Upset) => ((s.up .can = false ∨ (∀ p : Fin 128, s.startPassed x p = false) ∧ s.get (CAN.ACT x) ≠ 3 ∧
      (s.get (CAN.ACT x) ≠ 2 ∨ s.get (CAN.MODE x) = 0 ∨ s.canMode x = 2 ∨ ∀ p : Fin 128, s.objState x p ≠ 1)))) (State.reset) (1) (Upset.none)) ∧
    ((fun (s : State) (x : Fin 2) (u : Upset) => (s.up .can = true) ∧ (s.get (CAN.ACT x) = 3) ∧
      ((∀ p : Fin 128, s.objState x p ≠ 1))) ((State.reset.put (CAN.ACT 1) 3)) (1) (Upset.none)) ∧
    ((fun (s : State) (x : Fin 2) (f : CanSend) => ((s.canCtl x).send = some f) ∧ (f.late = false) ∧ (f.orphan = false) ∧
      (s.objType x f.obj = 3)) ((((State.reset.put (CAN.ACT 1) 4).setWord1 1 5 0x02000300).modCan 1 (fun c =>
      { c with send := some ⟨5, 7, 8, [], false, false⟩ }))) (1) (⟨5, 7, 8, [], false, false⟩)) ∧
    ((fun (s : State) (x : Fin 2) (f : CanSend) => ((s.canCtl x).send = some f) ∧ (f.late = false) ∧ (f.orphan = false) ∧
      (s.objType x f.obj = 3)) ((((State.reset.put (CAN.ACT 1) 4).setWord1 1 5 0x02000340).modCan 1 (fun c =>
      { c with send := some ⟨5, 7, 8, [], false, false⟩ }))) (1) (⟨5, 7, 8, [], false, false⟩)) ∧
    ((fun (s : State) (x : Fin 2) (b : Bool) (age : Nat) => ((s.canCtl x).send = none)) (State.reset) (1) (true) (9)) ∧
    ((fun (s : State) (x : Fin 2) (f : CanSend) (b : Bool) => ((s.canCtl x).send = some f) ∧ (s.canMode x ≠ 2) ∧ (f.orphan = false) ∧
      (s.objType x f.obj = 3) ∧ (s.get (CAN.TEC x) + 8 ≤ 255)) (((((State.reset.put (CAN.ACT 1) 4).put (CAN.TEC 1) 120).setWord1 1 5
      0x02000300).modCan 1 (fun c => { c with send := some ⟨5, 7, 8, [], true, false⟩ }))) (1) (⟨5, 7, 8, [], true, false⟩) (true)) :=
  by refine ⟨?_, ?_, ?_, ?_, ?_, ?_, ?_, ?_, ?_, ?_⟩ <;> decide +kernel

/-- The hypotheses of Obligations.CanTransmission, clauses 11 to 20 that have any, are met. -/
theorem test_hyp_CanTransmission_2 :
    ((fun (s : State) (x : Fin 2) (f : CanSend) => ((s.canCtl x).send = some f) ∧ (f.late = false) ∧ (f.orphan = false) ∧
  (bit (s.word1 x f.obj) 6 = false) ∧ (s.canMode x ≠ 2) ∧ (255 < s.get (CAN.TEC x) + 8) ∧ (s.get (CAN.ACT x) ≠ 0) ∧
  (s.on (CAN.BUS_OFF x) = false)) (((((State.reset.put (CAN.ACT 1) 4).put (CAN.TEC 1) 248).setWord1 1 5 0x02000300).modCan 1 (fun c =>
  { c with send := some ⟨5, 7, 8, [], false, false⟩ }))) (1) (⟨5, 7, 8, [], false, false⟩)) ∧
    ((fun (s : State) (x : Fin 2) (f : CanSend) (age : Nat) (b : Bool) => ((s.canCtl x).send = some f) ∧ (f.orphan = false) ∧
      (s.objType x f.obj = 3) ∧ (s.canMode x = 2)) (((((State.reset.put (CAN.ACT 1) 4).put (CAN.MODE 1) 2).setWord1 1 5 0x02000300).modCan 1 (fun c
      => { c with send := some ⟨5, 7, 8, [], false, false⟩ }))) (1) (⟨5, 7, 8, [], false, false⟩) (3) (true)) ∧
    ((fun (s : State) (x : Fin 2) (f : CanSend) (age : Nat) => ((s.canCtl x).send = some f) ∧ (f.orphan = false) ∧ (s.objType x f.obj = 3) ∧
      (s.canMode x = 1)) ((((((State.reset.put (CAN.ACT 1) 4).put (CAN.MODE 1) 1).put (NTU.CH_MODE 9) 3).put (NTU.CH_CAPSEL 9) 3).setWord1 1 5
      0x02000300 |>.modCan 1 (fun c => { c with send := some ⟨5, 0, 8, [], true, false⟩ }))) (1) (⟨5, 0, 8, [], true, false⟩) (100)) ∧
    ((fun (s : State) (x : Fin 2) (o : Fin 128) => (s.up .can = true) ∧ (s.objType x o = 3) ∧ (s.objState x o = 1) ∧ (bit (s.word1 x o) 11 = false) ∧
      (s.objWord x o 3 ≠ 0) ∧ (tickPassed s.tick32 (s.objWord x o 3) = true)) (State.withRam (((State.reset.setWord1 1 5 0x01000300).setWord 0
      (canWord 1 5 3) 0xFFFFFFFF)) ram31) (1) (5)) ∧
    ((fun (s : State) (x : Fin 2) (o : Fin 128) => ((s.up .can = false ∨ s.objState x o ≠ 1 ∨ s.objWord x o 3 = 0 ∨
      tickPassed s.tick32 (s.objWord x o 3) = false))) (State.reset) (1) (5)) ∧
    ((fun (s : State) (m : Master) (x : Fin 2) (v : Word) (o : Nat) => (s.admits m (0x12 + x) 0x54 true) ∧ (o = v.toNat % 128) ∧
      (s.objOwner x o = s.tidOf m) ∧ (s.objType x o = 3)) ((State.reset.setWord1 1 127 0x01000300)) (.hart 0) (1) (0xFF) (127)) ∧
    ((fun (s : State) (x : Fin 2) (o : Fin 128) (late : Bool) => (s.up .can = true) ∧ ((Table.find (s.canCtl x).cancels o).isSome = true) ∧
      (s.startPassed x o = false) ∧ (s.objType x o = 3) ∧ (s.objState x o = 1) ∧
      (bit (s.word1 x o) 11 = false)) (State.withRam (((State.reset.setWord1 1 127 0x01000300).modCan 1 (fun c => { c with cancels := [(127, ())] })
      |>.setWord 0 (canWord 1 127 3) 0)) ram32) (1) (127) (true)) ∧
    ((fun (s : State) (x : Fin 2) (o : Fin 128) (late : Bool) (f : CanSend) => (s.up .can = true) ∧
      ((Table.find (s.canCtl x).cancels o).isSome = true) ∧ (s.objType x o = 3) ∧ (s.objState x o = 2) ∧ (bit (s.word1 x o) 11 = false) ∧
      ((s.canCtl x).send = some f) ∧ (f.obj = o) ∧
      (f.orphan = false)) ((((State.reset.put (CAN.ACT 1) 4).setWord1 1 5 0x02000300).modCan 1 (fun c =>
      { c with send := some ⟨5, 7, 8, [], false, false⟩, cancels := [(5, ())] }))) (1) (5) (true) (⟨5, 7, 8, [], false, false⟩)) ∧
    ((fun (s : State) (x : Fin 2) (o : Fin 128) (late : Bool) (f : CanSend) => (s.up .can = true) ∧
      ((Table.find (s.canCtl x).cancels o).isSome = true) ∧ (s.objType x o = 3) ∧ (s.objState x o = 2) ∧ (bit (s.word1 x o) 11 = false) ∧
      ((s.canCtl x).send = some f) ∧ (f.obj = o) ∧
      (f.orphan = false)) ((((State.reset.put (CAN.ACT 1) 4).setWord1 1 5 0x02000300).modCan 1 (fun c =>
      { c with send := some ⟨5, 7, 8, [], false, false⟩, cancels := [(5, ())] }))) (1) (5) (false) (⟨5, 7, 8, [], false, false⟩)) ∧
    ((fun (s : State) (x : Fin 2) (o : Fin 128) (late : Bool) => ((s.up .can = false ∨
      Table.find (s.canCtl x).cancels o = none))) (State.reset) (1) (5) (false)) :=
  by refine ⟨?_, ?_, ?_, ?_, ?_, ?_, ?_, ?_, ?_, ?_⟩ <;> decide +kernel

/-- The hypotheses of Obligations.CanQueueFed are met. -/
theorem test_hyp_CanQueueFed :
    ((fun (s : State) (x : Fin 2) (k : Fin 8) (d : Disturb) (a : Active) (o : Nat) (n : Nat) (src : Nat) => (s.activeAt (0x20 + 8 * x + k) = some a) ∧
  (o = 120 + k) ∧ (s.up .can = true) ∧ (s.island .core = .running) ∧ (s.objType x o = 4) ∧ (s.objState x o ≠ 1) ∧ (s.objState x o ≠ 2) ∧
  (d.upset = Upset.none) ∧ (s.rst.quiescing.contains a.owner = false) ∧ (n = qtxWords (s.descWord a.slot 3) (s.descWord a.slot 4)) ∧
  (src = s.descWord a.slot 2) ∧ (s.plain a.owner src (4 * n))) (State.withRam (((serving 0x2B [0x2B30, 0, 0x20000104, 0x80000007, 0x2C000000,
  9]).setWord1 1 123 0x400)) ram33) (1) (3) (⟨1, Upset.none⟩) (⟨5, 2, 0, 0, none, none⟩) (123) (2) (0x20000104)) ∧
    ((fun (s : State) (x : Fin 2) (k : Fin 8) (d : Disturb) (a : Active) (z : Slot) => (s.activeAt (0x20 + 8 * x + k) = some a) ∧
      (s.up .can = true) ∧ (s.objType x (120 + k) ≠ 4) ∧ (s.objState x (120 + k) ≠ 1) ∧ (s.objState x (120 + k) ≠ 2) ∧ (s.slotAt a.slot = some z) ∧
      (z.owner < 4) ∧ (s.get (QMGR.RING_SIZE z.owner) = 0) ∧
      (bit (s.descWord a.slot 4) 16 = false)) (State.withRam ((serving 0x2B [0x2B30, 0, 0x20000104, 0x80000007, 0x2C000000, 9])) ram33) (1) (3) (⟨1,
      Upset.none⟩) (⟨5, 2, 0, 0, none, none⟩) (⟨0, 3, 0, 2, false, true⟩)) ∧
    ((fun (s : State) (x : Fin 2) (k : Fin 8) (d : Disturb) (c : Nat) (o : Nat) (n : Nat) (src : Nat) (q : Nat) (slot : Nat) (rest : List Nat) (z :
      Slot) => (c = 0x20 + 8 * x + k) ∧ (o = 120 + k) ∧ (s.activeAt c = none) ∧ (s.up .can = true) ∧ (s.island .core = .running) ∧
      (s.objType x o = 4) ∧ (s.objState x o ≠ 1) ∧ (s.objState x o ≠ 2) ∧ (d.upset = Upset.none) ∧ (s.nextQueue c = some q) ∧
      (s.queueAt q = slot :: rest) ∧ (s.slotAt slot = some z) ∧ (s.deadlinePassed slot = false) ∧ (s.descValid slot c = true) ∧
      (s.descBad slot [0, 2, 3, 4] = none) ∧ (s.rst.quiescing.contains z.owner = false) ∧ (n = qtxWords (s.descWord slot 3) (s.descWord slot 4)) ∧
      (src = s.descWord slot 2) ∧ (s.plain z.owner src (4 * n))) (State.withRam ((((withSlot 2 [0x2B30, 0, 0x20000104, 0x80000007, 0x2C000000,
      0x80000000]).put (QMGR.Q_EN 2) 1).setWord1 1 123 0x400 |>.put (QMGR.Q_CONSUMER 2) 0x2B)) ram34) (1) (3) (⟨1, Upset.none⟩) (0x2B) (123) (2)
      (0x20000104) (2) (5) ([]) (⟨0, 2, 0, 2, false, true⟩)) ∧
    ((fun (s : State) (x : Fin 2) (k : Fin 8) (bad : Option (Fin 8)) (d : Disturb) => ((s.up .can = false ∨ s.objState x (120 + k) = 1 ∨
      s.objState x (120 + k) = 2))) ((State.reset.setWord1 1 123 0x01000400)) (1) (3) (none) (⟨1, Upset.none⟩)) :=
  by refine ⟨?_, ?_, ?_, ?_⟩ <;> decide +kernel

/-- The hypotheses of Obligations.TransceiverModes, clauses 1 to 7 that have any, are met. -/
theorem test_hyp_TransceiverModes :
    ((fun (s : State) (m : Master) => (s.admits m 0x14 0x10 true)) (State.reset) (.hart 0)) ∧
    ((fun (s : State) (m : Master) => (s.admits m 0x14 0x10 true)) (State.reset) (.hart 0)) ∧
    ((fun (s : State) (m : Master) => (s.admits m 0x14 0x10 true)) ((State.reset.put SUPPLY.VBAT_VALID 0)) (.hart 0)) ∧
    ((fun (s : State) (g : Nat) => (s.get CANX.MODE_NOW < 3) ∧ (s.get CANX.MODE ≠ 3) ∧ (g = (if s.get CANX.MODE < 2 ∧ s.island .can ≠ .running ∧
      s.island .can ≠ .stopped then 2 else s.get CANX.MODE)) ∧ (g ≠ s.get CANX.MODE_NOW) ∧
      ((s.canCtl 0).send = none)) ((State.reset.put CANX.MODE 2)) (2)) ∧
    ((fun (s : State) => ((3 ≤ s.get CANX.MODE_NOW ∨ s.get CANX.MODE = 3 ∨ s.get CANX.MODE = s.get CANX.MODE_NOW ∧ s.island .can = .running)) ∧
      ((s.canCtl 0).send = none) ∧ (s.get (CAN.ACT 0) ≠ 3)) ((State.reset.put CANX.MODE 3))) ∧
    ((fun (s : State) => (s.power.mode ≠ .off) ∧ (s.trx.vbatPart = true) ∧ (s.mem.flashOp = none) ∧ ((s.trx.expired = true ∨
      s.on CANX.SLEEP_PEND = true ∧ (s.get (CAN.ACT 0) = 0 ∨ s.get (CAN.ACT 0) = 5) ∧
      s.on SUPPLY.VBAT_VALID = true))) ((State.reset.put CANX.SLEEP_PEND 1))) ∧
    ((fun (s : State) => (s.power.mode ≠ .off) ∧ (s.trx.vbatPart = true) ∧ (s.mem.flashOp = none) ∧ ((s.trx.expired = true ∨
      s.on CANX.SLEEP_PEND = true ∧ (s.get (CAN.ACT 0) = 0 ∨ s.get (CAN.ACT 0) = 5) ∧
      s.on SUPPLY.VBAT_VALID = true))) (({ State.reset with trx := { State.reset.trx with expired := true } }))) :=
  by refine ⟨?_, ?_, ?_, ?_, ?_, ?_, ?_⟩ <;> decide +kernel

/-- The hypotheses of Obligations.TransceiverModes, clauses 8 to 14 that have any, are met. -/
theorem test_hyp_TransceiverModes_2 :
    ((fun (s : State) => ((s.power.mode = .off ∨ s.trx.vbatPart = false ∨ s.mem.flashOp.isSome = true ∨ s.trx.expired = false ∧
  (s.on CANX.SLEEP_PEND = false ∨ s.get (CAN.ACT 0) ≠ 0 ∧ s.get (CAN.ACT 0) ≠ 5 ∨ s.on SUPPLY.VBAT_VALID = false)))) (State.reset)) ∧
    ((fun (s : State) => (s.on CANX.FS_RUN = true)) ((State.reset.put CANX.FS_RUN 1))) ∧
    ((fun (s : State) => (s.on CANX.FS_RUN = false)) (State.reset)) ∧
    ((fun (s : State) => (s.alive = true) ∧ (s.get CANX.MODE_NOW = 0) ∧ (s.on CANX.TXD_OFF = false) ∧ (s.rst.inReset = false) ∧
      (s.trx.expired = false) ∧ (s.canSpeaks = true)) (((State.reset.put (CAN.MODE 0) 1).put (CAN.ACT 0) 4))) ∧
    ((fun (s : State) => ((s.get CANX.MODE_NOW ≠ 0 ∨ s.on CANX.TXD_OFF = true ∨ s.rst.inReset = true ∨ s.trx.expired = true ∨
      s.canSpeaks = false))) ((State.reset.put CANX.TXD_OFF 1))) ∧
    ((fun (s : State) => (s.trx.vbatPart = false)) (({ State.reset with trx := { State.reset.trx with vbatPart := false } }))) ∧
    ((fun (s : State) => (s.trx.vbatPart = true)) (State.reset)) :=
  by refine ⟨?_, ?_, ?_, ?_, ?_, ?_, ?_⟩ <;> decide +kernel

/-- The hypotheses of Obligations.TransceiverWakes, clauses 1 to 7 that have any, are met. -/
theorem test_hyp_TransceiverWakes :
    ((fun (s : State) => (2 ≤ s.get CANX.MODE_NOW) ∧ (s.on SUPPLY.VBAT_VALID = true) ∧ (s.on CANX.WUF_EN = false) ∧ (s.on CANX.WUP_EN = true) ∧
  (s.power.mode = .gale) ∧ (s.power.phase = .steady)) ((State.reset.put CANX.MODE_NOW 2))) ∧
    ((fun (s : State) => (2 ≤ s.get CANX.MODE_NOW) ∧ (s.on SUPPLY.VBAT_VALID = true) ∧ (s.on CANX.WUF_EN = false) ∧ (s.on CANX.WUP_EN = true) ∧
      (s.power.mode = .lull) ∧ (s.power.phase = .steady) ∧
      (bit (s.get PWR.WAKE_EN) 2 = true)) (((State.reset.put CANX.MODE_NOW 2).put PWR.WAKE_EN 4 |> fun s =>
      { s with power := { s.power with mode := .lull } }))) ∧
    ((fun (s : State) => (2 ≤ s.get CANX.MODE_NOW) ∧ (s.on SUPPLY.VBAT_VALID = true) ∧ (s.on CANX.WUF_EN = false) ∧ (s.on CANX.WUP_EN = true) ∧
      (s.power.mode = .off)) (((State.reset.put CANX.MODE_NOW 3) |> fun s => { s with power := { s.power with mode := .off } }))) ∧
    ((fun (s : State) => (2 ≤ s.get CANX.MODE_NOW) ∧ (s.on SUPPLY.VBAT_VALID = true) ∧
      (s.on CANX.WUF_EN = true)) (((State.reset.put CANX.MODE_NOW 2).put CANX.WUF_EN 1))) ∧
    ((fun (s : State) => ((s.get CANX.MODE_NOW < 2 ∨ s.on SUPPLY.VBAT_VALID = false ∨ s.on CANX.WUF_EN = false ∧
      s.on CANX.WUP_EN = false))) (State.reset)) ∧
    ((fun (s : State) (f : CanFrame) (ctl : Nat) => (2 ≤ s.get CANX.MODE_NOW) ∧ (s.on SUPPLY.VBAT_VALID = true) ∧ (s.trx.decoding = true) ∧
      (s.power.mode = .gale) ∧ (s.power.phase = .steady) ∧ (f.fdf = false) ∧ (f.rtr = false) ∧ (ctl = s.decoderWord 0x2C) ∧
      (agree (s.decoderWord 0x20) (frameWord0 f) (s.decoderWord 0x1C) = true) ∧ ((bit ctl 4 = true → f.dlc.toNat = bits ctl 0 4 ∧ (f.dlc.toNat = 0 ∨
      ∃ i : Fin 8, nth (frameData f) i &&& nth (bytesLE 4 (s.decoderWord 0x24) ++ bytesLE 4 (s.decoderWord 0x28)) i ≠ 0)))) (((((((State.reset.put
      CANX.MODE_NOW 2).put CANX.DATA_CHK 1).put CANX.WUF_DLC 2).put (CANX.WUF_DMASK 0) 0x100).put CANX.WUF_ID 0x12345678).put CANX.WUF_XTD 1 |> fun s
      => { s.put CANX.WUF_IDMASK 0x3FFFFFFF with trx := { s.trx with decoding := true } })) (⟨0x12345678, true, false, false, false, false, 2, [7,
      9], 100⟩) (0x1F12)) ∧
    ((fun (s : State) (f : CanFrame) => (2 ≤ s.get CANX.MODE_NOW) ∧ (s.on SUPPLY.VBAT_VALID = true) ∧ (s.trx.decoding = true) ∧ (f.fdf = false) ∧
      ((f.rtr = true ∨ agree (s.decoderWord 0x20) (frameWord0 f) (s.decoderWord 0x1C) = false)))
      (({ State.reset.put CANX.MODE_NOW 2 with trx := { State.reset.trx with decoding := true, fec := 3 } })) (⟨0x12345678, true, true, false, false,
      false, 2, [], 100⟩)) :=
  by refine ⟨?_, ?_, ?_, ?_, ?_, ?_, ?_⟩ <;> decide +kernel

/-- The hypotheses of Obligations.TransceiverWakes, clauses 8 to 14 that have any, are met. -/
theorem test_hyp_TransceiverWakes_2 :
    ((fun (s : State) (f : CanFrame) => (f.fdf = true) ∧ ((bit (s.decoderWord 0x18) 6 = true ∨ s.get CANX.MODE_NOW < 2 ∨
  s.trx.decoding = false))) (State.reset) (⟨0x12345678, true, false, true, false, false, 2, [7, 9], 100⟩)) ∧
    ((fun (s : State) (fd : Bool) => (2 ≤ s.get CANX.MODE_NOW) ∧ (s.on SUPPLY.VBAT_VALID = true) ∧ (s.trx.decoding = true) ∧ ((fd = false ∨
      bit (s.decoderWord 0x18) 6 = false)) ∧ (s.trx.fec + 1 ≤ bits (s.decoderWord 0x2C) 8 5))
      (({ State.reset.put CANX.MODE_NOW 2 with trx := { State.reset.trx with decoding := true, fec := 30 } })) (false)) ∧
    ((fun (s : State) (fd : Bool) => (2 ≤ s.get CANX.MODE_NOW) ∧ (s.on SUPPLY.VBAT_VALID = true) ∧ (s.trx.decoding = true) ∧ ((fd = false ∨
      bit (s.decoderWord 0x18) 6 = false)) ∧ (bits (s.decoderWord 0x2C) 8 5 < s.trx.fec + 1) ∧ (s.power.mode = .gale) ∧
      (s.power.phase = .steady)) (({ State.reset.put CANX.MODE_NOW 2 with trx := { State.reset.trx with decoding := true, fec := 31 } })) (false)) ∧
    ((fun (s : State) (fd : Bool) => ((s.get CANX.MODE_NOW < 2 ∨ s.on SUPPLY.VBAT_VALID = false ∨ s.trx.decoding = false ∨ fd = true ∧
      bit (s.decoderWord 0x18) 6 = true))) (State.reset) (true)) ∧
    ((fun (s : State) (l : Bool) => (s.on SUPPLY.VBAT_VALID = true) ∧ (s.fab.wakeLevel ≠ l) ∧ (s.power.mode = .gale) ∧
      (s.power.phase = .steady)) (({ State.reset with fab := { State.reset.fab with wakeLevel := false } })) (true)) ∧
    ((fun (s : State) (l : Bool) => (s.on SUPPLY.VBAT_VALID = false) ∧
      (s.fab.wakeLevel ≠ l)) (({ State.reset.put SUPPLY.VBAT_VALID 0 with fab := { State.reset.fab with wakeLevel := false } })) (true)) ∧
    ((fun (s : State) (l : Bool) => (s.fab.wakeLevel = l)) (State.reset) (false)) :=
  by refine ⟨?_, ?_, ?_, ?_, ?_, ?_, ?_⟩ <;> decide +kernel

/-- The hypotheses of Obligations.RadioTransmissions are met. -/
theorem test_hyp_RadioTransmissions :
    ((fun (s : State) (f : AirFrame) (b : List Nat) (d : Disturb) => (d.upset = Upset.none) ∧ (s.phy.op = .txReady) ∧ (s.phy.frame = some f) ∧
  (s.up .radio = true) ∧ (s.on SUPPLY.PGOOD = true) ∧ ((s.opBuf.bind (fun r => s.bufFails r d 0)) = none) ∧
  ((∀ w : Fin 5, s.mapWordBad f.map w = false)) ∧
  (b = (s.opBuf.map s.bufBytes).getD f.payload))
  (({ State.reset with phy := { State.reset.phy with op := .txReady, frame := some ⟨true, 0x0FE00001, 0, 0, [1, 2, 3]⟩ }, link := { State.reset.link with cur := some ⟨3, 1, .transmit 5, 2, true, 0, none, none, none⟩ } })) (⟨true, 0x0FE00001, 0, 0, [1, 2, 3]⟩) ([1, 2, 3]) (⟨0, Upset.none⟩)) ∧
    ((fun (s : State) (f : AirFrame) (b : List Nat) (d : Disturb) => (d.upset = Upset.none) ∧ (s.phy.op = .txReady) ∧ (s.phy.frame = some f) ∧
      (s.up .radio = true) ∧ (s.on SUPPLY.PGOOD = true) ∧ ((s.opBuf.bind (fun r => s.bufFails r d 0)) = none) ∧
      ((∀ w : Fin 5, s.mapWordBad f.map w = false)) ∧
      (b = (s.opBuf.map s.bufBytes).getD f.payload)) (State.withRam
      (({ State.reset with phy := { State.reset.phy with op := .txReady, frame := some ⟨false, 0x0FE00001, 3, 1, [1, 2, 3]⟩ }, link := { State.reset.link with cur := some ⟨3, 1, .soundResp 5, 2, true, 0, none, none, none⟩ } }.setMap 3 (List.replicate 48 2))) ram35) (⟨false, 0x0FE00001, 3, 1, [1, 2, 3]⟩) ([1, 2, 3]) (⟨0, Upset.none⟩)) ∧
    ((fun (s : State) (f : AirFrame) (d : Disturb) => (d.upset = Upset.none) ∧ (s.phy.op = .txReady) ∧ (s.phy.frame = some f) ∧
      (s.up .radio = true) ∧ (s.on SUPPLY.PGOOD = false) ∧
      (s.sending = none)) (({ State.reset.put SUPPLY.PGOOD 0 with phy := { State.reset.phy with op := .txReady, frame := some ⟨true, 0x0FE00001, 0, 0, [1, 2, 3]⟩ } })) (⟨true, 0x0FE00001, 0, 0, [1, 2, 3]⟩) (⟨0, Upset.none⟩)) ∧
    ((fun (s : State) (f : AirFrame) (k : Nat) (z : Slot) (d : Disturb) => (d.upset = Upset.none) ∧ (s.phy.op = .txReady) ∧ (s.phy.frame = some f) ∧
      (s.up .radio = true) ∧ (s.on SUPPLY.PGOOD = false) ∧ (s.sending = some k) ∧ (s.ends k z) ∧
      (s.reportable k z)) (State.withRam ((onAir .txReady ⟨true, 0x0FE00001, 0, 0, [1, 2, 3]⟩ (.transmit 5) (withSlot 3 [0x3040, 0, 0x20000100,
      0x20000200, 3]) |>.put SUPPLY.PGOOD 0)) ram36) (⟨true, 0x0FE00001, 0, 0, [1, 2, 3]⟩) (5) (⟨0, 3, 0, 2, false, true⟩) (⟨0, Upset.none⟩)) ∧
    ((fun (s : State) (d : Disturb) => ((s.phy.op ≠ .txReady ∨ s.phy.frame = none ∨ s.up .radio = false))) (State.reset) (⟨0, Upset.none⟩)) ∧
    ((fun (s : State) (d : Disturb) => (d.upset = Upset.none) ∧ (s.phy.op = .txAir) ∧
      (s.curOp = some .beacon)) ((onAir .txAir ⟨true, 0x0FE00001, 0, 0, [1, 2, 3]⟩ .beacon State.reset)) (⟨0, Upset.none⟩)) ∧
    ((fun (s : State) (f : AirFrame) (k : Nat) (d : Disturb) => (d.upset = Upset.none) ∧ (s.phy.op = .txAir) ∧ (s.phy.frame = some f) ∧
      (bit f.link 4 = true) ∧ ((s.sending = some k ∧ s.linkOpcode k = 0x40 ∨
      s.answering = some k))) (State.withRam ((onAir .txAir ⟨true, 0x0FE00011, 0, 0, [1, 2, 3]⟩ (.transmit 5) (withSlot 3 [0x3040, 0, 0x20000100,
      0x20000200, 3]))) ram36) (⟨true, 0x0FE00011, 0, 0, [1, 2, 3]⟩) (5) (⟨0, Upset.none⟩)) ∧
    ((fun (s : State) (f : AirFrame) (k : Nat) (z : Slot) (d : Disturb) => (d.upset = Upset.none) ∧ (s.phy.op = .txAir) ∧ (s.phy.frame = some f) ∧
      (bit f.link 4 = false) ∧ (s.sending = some k) ∧ ((∀ c : Fin 64, s.on (EVF.EN c) = true → s.get (EVF.SRC c) ≠ 0x79)) ∧ (s.ends k z) ∧
      (s.reportable k z) ∧ (z.cancel = false)) (State.withRam ((onAir .txAir ⟨true, 0x0FE00001, 0, 0, [1, 2, 3]⟩ (.transmit 5) (withSlot 3 [0x3040,
      0, 0x20000100, 0x20000200, 3]))) ram36) (⟨true, 0x0FE00001, 0, 0, [1, 2, 3]⟩) (5) (⟨0, 3, 0, 2, false, true⟩) (⟨0, Upset.none⟩)) ∧
    ((fun (s : State) (k : Nat) (d : Disturb) => (d.upset = Upset.none) ∧ (s.phy.op = .txAir) ∧ (s.sending = some k) ∧ (s.linkOpcode k = 0x42) ∧
      ((s.slotAt k).map (·.cancel) ≠ some true)) (State.withRam ((onAir .txAir ⟨true, 0x0FE00005, 0, 0, []⟩ (.transmit 5) (withSlot 3 [0x3042, 0,
      0x305, 0, 3]))) ram37) (5) (⟨0, Upset.none⟩)) ∧
    ((fun (s : State) (d : Disturb) => (s.phy.op ≠ .txAir)) (State.reset) (⟨0, Upset.none⟩)) :=
  by refine ⟨?_, ?_, ?_, ?_, ?_, ?_, ?_, ?_, ?_, ?_⟩ <;> decide +kernel

/-- The hypotheses of Obligations.RadioReceptions, clauses 1 to 8 that have any, are met. -/
theorem test_hyp_RadioReceptions :
    ((fun (s : State) (p : Prep) => (s.up .radio = true) ∧ (s.phy.op = .rxReady) ∧ (s.link.cur = some p) ∧ ((s.link.kept = true ∨
  s.schedule.start p.asn ≤ s.now ∧ s.schedule.start p.asn + 4000 * s.schedule.txOff ≤ s.now + 4000 * s.get LINK.RX_GUARD))) ((onAir .rxReady ⟨true,
  0, 0, 0, []⟩ (.window none) State.reset |> fun s =>
  { s with ntu := { s.ntu with ns := 1000000 }, link := { s.link with cur := some ⟨0, 0, .window none, 0, true, 0, none, none, none⟩ } })) (⟨0, 0,
  .window none, 0, true, 0, none, none, none⟩)) ∧
    ((fun (s : State) (p : Prep) => (s.phy.op = .rxReady) ∧ (s.link.cur = some p) ∧ (s.link.kept = false) ∧ ((s.now < s.schedule.start p.asn ∨
      s.now + 4000 * s.get LINK.RX_GUARD < s.schedule.start p.asn + 4000 * s.schedule.txOff))) ((onAir .rxReady ⟨true, 0, 0, 0, []⟩ (.window none)
      State.reset |> fun s => { s with link := { s.link with cur := some ⟨3, 0, .window none, 0, true, 0, none, none, none⟩ } })) (⟨3, 0, .window
      none, 0, true, 0, none, none, none⟩)) ∧
    ((fun (s : State) => (s.up .radio = true) ∧ (s.phy.op = .idle) ∧ (s.scanReady = true) ∧
      (bit (s.get RFPHY.CHMASK) (s.get LINK.SCAN_CH) = true)) (State.withRam ((((((withSlot 2 [0x3141, 0, 0, 0x20000200, 0x80000040]).put
      (QMGR.Q_CONSUMER 2) 0x31).put (QMGR.Q_EN 2) 1).put LINK.SCAN 1).put LINK.SCAN_CH 4)) ram38)) ∧
    ((fun (s : State) => ((s.up .radio = false ∨ s.phy.op ≠ .rxReady ∧ (s.phy.op ≠ .idle ∨ s.scanReady = false ∨
      bit (s.get RFPHY.CHMASK) (s.get LINK.SCAN_CH) = false)))) (State.reset)) ∧
    ((fun (s : State) (p : Prep) => (s.phy.op = .rxOpen) ∧ (s.link.ackWait = false) ∧ (s.scanReady = false) ∧ (s.link.cur = some p) ∧
      ((s.link.kept = true ∨ s.schedule.start p.asn + 4000 * s.schedule.txOff + 4000 * s.get LINK.RX_GUARD + (if p.robust then 128000 else 92000) ≤
      s.now))) ((onAir .rxOpen ⟨true, 0, 0, 0, []⟩ (.window none) State.reset |> fun s =>
      { s with ntu := { s.ntu with ns := 9000000 }, link := { s.link with cur := some ⟨0, 0, .window none, 0, true, 0, none, none, none⟩ } })) (⟨0,
      0, .window none, 0, true, 0, none, none, none⟩)) ∧
    ((fun (s : State) => ((s.phy.op ≠ .rxOpen ∨ s.link.ackWait = true ∨ s.scanReady = true))) (State.reset)) ∧
    ((fun (s : State) (p : BitVec 48) (h : Int) (snr : List Int) => (s.phy.op = .rxOpen) ∧ (s.phy.robust = false) ∧
      (popCount 48 (p.toNat ^^^ s.phy.pattern) ≤ s.get RFPHY.SYNC_ERR) ∧
      (s.phy.target = none)) (({ State.reset.put RFPHY.SYNC_ERR 2 with phy := { State.reset.phy with op := .rxOpen } })) (5) (-300) (List.replicate
      48 20)) ∧
    ((fun (s : State) (p : BitVec 48) (h : Int) (snr : List Int) (m : Nat) => (s.phy.op = .rxOpen) ∧ (s.phy.robust = false) ∧
      (popCount 48 (p.toNat ^^^ s.phy.pattern) ≤ s.get RFPHY.SYNC_ERR) ∧ (s.phy.target = some m) ∧
      (m < 32)) (({ State.reset.put RFPHY.SYNC_ERR 2 with phy := { State.reset.phy with op := .rxOpen, target := some 31 } })) (5) (7)
      (List.replicate 48 20) (31)) :=
  by refine ⟨?_, ?_, ?_, ?_, ?_, ?_, ?_, ?_⟩ <;> decide +kernel

/-- The hypotheses of Obligations.RadioReceptions, clauses 9 to 16 that have any, are met. -/
theorem test_hyp_RadioReceptions_2 :
    ((fun (s : State) (p : BitVec 48) (h : Int) (snr : List Int) => ((s.phy.op ≠ .rxOpen ∨ s.phy.robust = true ∨
  s.get RFPHY.SYNC_ERR < popCount 48 (p.toNat ^^^ s.phy.pattern))))
  (({ State.reset.put RFPHY.SYNC_ERR 2 with phy := { State.reset.phy with op := .rxOpen } })) (7) (7) ([])) ∧
    ((fun (s : State) (soft : List Int) (h : Nat) (d : Disturb) => (s.phy.op = .rxSync) ∧ (s.phy.robust = false) ∧ (h = headerOfSoft soft) ∧
      ((headerOk h = false ∨ s.phy.target ≠ some (bits h 2 5) ∧ s.mapFails (bits h 2 5) d = none ∧
      ofdmHeaderOk h (s.mapCodes (bits h 2 5)) = false))) (({ State.reset with phy := { State.reset.phy with op := .rxSync, robust := false } }))
      (headerValues 1) (1) (⟨0, Upset.none⟩)) ∧
    ((fun (s : State) (soft : List Int) (h : Nat) (d : Disturb) => (s.phy.op = .rxSync) ∧ (s.phy.robust = false) ∧ (h = headerOfSoft soft) ∧
      (s.phy.target ≠ some (bits h 2 5)) ∧ (s.mapFails (bits h 2 5) d = none) ∧ (ofdmHeaderOk h (s.mapCodes (bits h 2 5)) = true) ∧
      (bits h 9 11 = 0) ∧ (s.link.ackWait = true) ∧
      (s.buffersFree ≠ [])) (State.withRam (({ listening with link := { listening.link with ackWait := true } })) ram39) (headerValues (makeHeader 3
      1 0 0x0FE00002)) (makeHeader 3 1 0 0x0FE00002) (⟨0, Upset.none⟩)) ∧
    ((fun (s : State) (soft : List Int) (d : Disturb) (h : Nat) (n : Nat) (k : Nat) (z : Slot) => (s.phy.op = .rxSync) ∧ (s.phy.robust = false) ∧
      (h = headerOfSoft soft) ∧ (n = bits h 9 11) ∧ (n ≠ 0) ∧ (ofdmHeaderOk h (s.mapCodes (bits h 2 5)) = true) ∧
      (s.phy.target ≠ some (bits h 2 5)) ∧ (s.mapFails (bits h 2 5) d = none) ∧ (s.link.ackWait = false) ∧ (s.buffersFree ≠ []) ∧
      (s.takerOf (bits h 20 28) = some k) ∧ (s.slotAt k = some z)) (State.withRam (listening) ram39) (headerValues (makeHeader 3 1 20 (linkField 0
      false false 0x77 0x7E))) (⟨0, Upset.none⟩) (makeHeader 3 1 20 (linkField 0 false false 0x77 0x7E)) (20) (5) (⟨0, 2, 0, 2, false, true⟩)) ∧
    ((fun (s : State) (soft : List Int) (h : Nat) (d : Disturb) => (s.phy.op = .rxSync) ∧ (s.phy.robust = false) ∧ (h = headerOfSoft soft) ∧
      (s.phy.target ≠ some (bits h 2 5)) ∧ (s.mapFails (bits h 2 5) d = none) ∧ ((s.buffersFree = [] ∨ s.link.ackWait = false ∧
      s.takerOf (bits h 20 28) = none))) (State.withRam (listening) ram39) (headerValues (makeHeader 3 1 20 (linkField 0 false false 0x78 0x7E)))
      (makeHeader 3 1 20 (linkField 0 false false 0x78 0x7E)) (⟨0, Upset.none⟩)) ∧
    ((fun (s : State) (soft : List Int) (d : Disturb) => ((s.phy.op ≠ .rxSync ∨ s.phy.robust = true))) (State.reset) ([]) (⟨0, Upset.none⟩)) ∧
    ((fun (s : State) (soft : List Int) (f : AirFrame) (n : Nat) (p : List Nat) (b : BufRef) (hit : Option (Fin 1024 × Byte)) => (s.phy.op =
      .rxHeader) ∧ (s.phy.frame = some f) ∧ (n = bits s.phy.header 9 11) ∧ (ppduDecode s.phy.chan (bits s.phy.header 7 2) n soft = some p) ∧
      (s.link.rxHeld = some b) ∧ (b.buf < 32) ∧
      (b.tenant < 4)) (({ keyed with phy := { keyed.phy with op := .rxHeader, chan := 4, header := 44 * 512, frame := some ⟨false, 0, 0, 0, []⟩ }, link := { keyed.link with rxHeld := some ⟨9, 2, 0⟩ } })) ((payloadBits 0 4 (List.replicate 48 2) (List.range 44)).map (fun c => if c then -1 else 1)) (⟨false, 0, 0, 0, []⟩) (44) (List.range 44) (⟨9, 2, 0⟩) (none)) ∧
    ((fun (s : State) (soft : List Int) (f : AirFrame) (n : Nat) (p : List Nat) (b : BufRef) (hit : Option (Fin 1024 × Byte)) => (s.phy.op =
      .rxHeader) ∧ (s.phy.frame = some f) ∧ (n = bits s.phy.header 9 11) ∧ (ppduDecode s.phy.chan (bits s.phy.header 7 2) n soft = some p) ∧
      (s.link.rxHeld = some b) ∧ (b.buf < 32) ∧
      (b.tenant < 4)) (({ keyed with phy := { keyed.phy with op := .rxHeader, chan := 4, header := 44 * 512, frame := some ⟨false, 0, 0, 0, []⟩ }, link := { keyed.link with rxHeld := some ⟨9, 2, 0⟩ } })) ((payloadBits 0 4 (List.replicate 48 2) (List.range 44)).map (fun c => if c then -1 else 1)) (⟨false, 0, 0, 0, []⟩) (44) (List.range 44) (⟨9, 2, 0⟩) (some (3, 0x80))) :=
  by refine ⟨?_, ?_, ?_, ?_, ?_, ?_, ?_, ?_⟩ <;> decide +kernel

/-- The hypotheses of Obligations.RadioReceptions, clauses 17 to 22 that have any, are met. -/
theorem test_hyp_RadioReceptions_3 :
    ((fun (s : State) (soft : List Int) (hit : Option (Fin 1024 × Byte)) => (s.phy.op = .rxHeader) ∧ (s.phy.frame.isSome = true) ∧
  (ppduDecode s.phy.chan (bits s.phy.header 7 2) (bits s.phy.header 9 11) soft = none))
  (({ State.reset with phy := { State.reset.phy with op := .rxHeader, chan := 4, header := 44 * 512, frame := some ⟨false, 0, 0, 0, []⟩ } }))
  ((whiten (seedPayload 4) (List.replicate 768 false)).map (fun c => if c then -1 else 1)) (none)) ∧
    ((fun (s : State) (soft : List Int) (hit : Option (Fin 1024 × Byte)) => (s.phy.op ≠ .rxHeader)) (State.reset) ([]) (none)) ∧
    ((fun (s : State) (air : List Bool) (b : List Nat) => (s.phy.op = .rxSync) ∧ (s.phy.robust = true) ∧ (s.link.ackWait = true) ∧
      (s.buffersFree ≠ []) ∧ (robustDecode s.phy.chan air = some b) ∧ (4 ≤ b.length) ∧
      (ofBytesLE (b.take 4) < 2 ^ 28)) (({ keyed with phy := { keyed.phy with op := .rxSync, robust := true, chan := 4 }, link := { keyed.link with ackWait := true } })) (robustBits 4 [1, 0, 0xE0, 0xF, 9]) ([1, 0, 0xE0, 0xF, 9])) ∧
    ((fun (s : State) (air : List Bool) (b : List Nat) (k : Nat) (z : Slot) => (s.phy.op = .rxSync) ∧ (s.phy.robust = true) ∧
      (s.link.ackWait = false) ∧ (s.buffersFree ≠ []) ∧ (robustDecode s.phy.chan air = some b) ∧ (4 ≤ b.length) ∧ (ofBytesLE (b.take 4) < 2 ^ 28) ∧
      (s.takerOf (ofBytesLE (b.take 4)) = some k) ∧ (s.slotAt k = some z) ∧
      (z.owner < 4)) (State.withRam (({ listening with phy := { listening.phy with robust := true, chan := 4 } })) ram39) (robustBits 4 (bytesLE 4
      (linkField 0 false false 0x77 0x7E) ++ [9])) (bytesLE 4 (linkField 0 false false 0x77 0x7E) ++ [9]) (5) (⟨0, 2, 0, 2, false, true⟩)) ∧
    ((fun (s : State) (air : List Bool) => (s.phy.op = .rxSync) ∧ (s.phy.robust = true) ∧
      (robustDecode s.phy.chan air = none)) (({ State.reset with phy := { State.reset.phy with op := .rxSync, robust := true, chan := 4 } }))
      (robustBits 5 [1, 0, 0xE0, 0xF, 9])) ∧
    ((fun (s : State) (air : List Bool) => ((s.phy.op ≠ .rxSync ∨ s.phy.robust = false))) (State.reset) ([])) :=
  by refine ⟨?_, ?_, ?_, ?_, ?_, ?_⟩ <;> decide +kernel

/-- The hypotheses of Obligations.RadioCalibration are met. -/
theorem test_hyp_RadioCalibration :
    ((fun (s : State) (m : Master) => (s.admits m 0x15 0x34 true)) (State.reset) (.hart 0)) ∧
    ((fun (s : State) (p : Prep) (n : Nat) => (s.up .radio = true) ∧ (s.phy.calSince = some n) ∧ (s.link.cur = some p) ∧ (p.op = .calibration) ∧
      (s.phy.op = .idle)) (({ State.reset with phy := { State.reset.phy with calSince := some 0 }, link := { State.reset.link with cur := some ⟨3, 0, .calibration, 0, true, 0, none, none, none⟩ } })) (⟨3, 0, .calibration, 0, true, 0, none, none, none⟩) (0)) ∧
    ((fun (s : State) (n : Nat) => (s.up .radio = true) ∧ (s.phy.calSince = some n) ∧ (s.link.cur = none) ∧ (s.linkRuns = false) ∧
      (s.phy.op = .idle) ∧ (s.link.ackOwed = none) ∧
      (s.link.rx = none)) (({ State.reset with phy := { State.reset.phy with calSince := some 0 } })) (0)) ∧
    ((fun (s : State) => ((s.up .radio = false ∨ s.phy.calSince = none ∨ s.phy.op ≠ .idle ∨ s.link.cur = none ∧
      s.linkRuns = true))) (({ State.reset with phy := { State.reset.phy with op := .rxSync } }))) ∧
    ((fun (s : State) => (s.phy.op = .cal)) (({ State.reset with phy := { State.reset.phy with op := .cal } }))) ∧
    ((fun (s : State) => (s.phy.op ≠ .cal)) (State.reset)) ∧
    ((fun (s : State) (d : Disturb) => (d.upset = Upset.none) ∧ (s.up .radio = true) ∧
      (s.phy.op = .cal)) (({ State.reset with phy := { State.reset.phy with op := .cal } })) (⟨0, Upset.none⟩)) ∧
    ((fun (s : State) (d : Disturb) => (d.upset = Upset.none) ∧ (s.up .radio = true) ∧ (s.phy.op ≠ .idle) ∧ (s.phy.op ≠ .cal) ∧ (s.sending = none) ∧
      (s.answering = none)) (({ State.reset with phy := { State.reset.phy with op := .rxOpen } })) (⟨0, Upset.none⟩)) ∧
    ((fun (s : State) (k : Nat) (z : Slot) (d : Disturb) => (d.upset = Upset.none) ∧ (s.up .radio = true) ∧ (s.phy.op = .txAir) ∧
      (s.sending = some k) ∧ (s.linkOpcode k = 0x40) ∧ (s.slotAt k = some z) ∧ (z.cancel = false) ∧
      ((s.job k).attempts ≤ bits (s.job k).block 5 3)) (State.withRam ((onAir .txAir ⟨true, 0x0FE00001, 0, 0, [1, 2, 3]⟩ (.transmit 5) (withSlot 3
      [0x3040, 0, 0x20000100, 0x20000200, 3]) |>.modJob 5 (fun j => { j with attempts := 1, block := 0xE0 }))) ram36) (5) (⟨0, 3, 0, 2, false, true⟩)
      (⟨0, Upset.none⟩)) ∧
    ((fun (s : State) (d : Disturb) => ((s.up .radio = false ∨ s.phy.op = .idle))) (State.reset) (⟨0, Upset.none⟩)) :=
  by refine ⟨?_, ?_, ?_, ?_, ?_, ?_, ?_, ?_, ?_, ?_⟩ <;> decide +kernel

/-- The hypotheses of Obligations.SlotPreparation are met. -/
theorem test_hyp_SlotPreparation :
    ((fun (s : State) (d : Disturb) (n : Nat) (e : Nat) => (s.linkRuns = true) ∧ (s.ownSched.epoch ≤ s.now + 200000) ∧
  (n = s.ownSched.asn (s.now + 200000)) ∧ (s.link.prepared ≠ some n) ∧ ((∀ q : Fin 64, s.queueAt q = [])) ∧ (d.upset = Upset.none) ∧
  (s.eccBad (0x32110000 + 4 * (n % 256)) = false) ∧ (e = s.word s.linkTid (0x32110000 + 4 * (n % 256))) ∧ ((bits e 0 3 = 0 ∨ bits e 0 3 = 2 ∨
  5 ≤ bits e 0 3))) (State.withRam ((scheduled 0x32 State.reset)) ram40) (⟨0, Upset.none⟩) (0) (0x32)) ∧
    ((fun (s : State) (d : Disturb) (n : Nat) (e : Nat) (ch : Nat) => (s.linkRuns = true) ∧ (s.ownSched.epoch ≤ s.now + 200000) ∧
      (n = s.ownSched.asn (s.now + 200000)) ∧ (s.link.prepared ≠ some n) ∧ ((∀ q : Fin 64, s.queueAt q = [])) ∧ (d.upset = Upset.none) ∧
      (s.eccBad (0x32110000 + 4 * (n % 256)) = false) ∧ (e = s.word s.linkTid (0x32110000 + 4 * (n % 256))) ∧ (bits e 0 3 = 4) ∧
      (s.on LINK.ROLE = true) ∧ (1 ≤ s.get LINK.HOP_LEN) ∧ (s.get LINK.HOP_LEN ≤ 19) ∧
      (ch = s.get (LINK.HOP ((n + bits e 10 5) % s.get LINK.HOP_LEN)))) (State.withRam ((scheduled 0x0C04 (keyed.put LINK.ROLE 1))) ram41) (⟨0,
      Upset.none⟩) (0) (0x0C04) (3)) ∧
    ((fun (s : State) (d : Disturb) (n : Nat) (e : Nat) (ch : Nat) => (s.linkRuns = true) ∧ (s.ownSched.epoch ≤ s.now + 200000) ∧
      (n = s.ownSched.asn (s.now + 200000)) ∧ (s.link.prepared ≠ some n) ∧ ((∀ q : Fin 64, s.queueAt q = [])) ∧ (d.upset = Upset.none) ∧
      (s.eccBad (0x32110000 + 4 * (n % 256)) = false) ∧ (e = s.word s.linkTid (0x32110000 + 4 * (n % 256))) ∧ (bits e 0 3 = 4) ∧
      (s.on LINK.ROLE = true) ∧ (1 ≤ s.get LINK.HOP_LEN) ∧ (s.get LINK.HOP_LEN ≤ 19) ∧
      (ch = s.get (LINK.HOP ((n + bits e 10 5) % s.get LINK.HOP_LEN)))) (State.withRam ((scheduled 0x0C04
      { keyed.put LINK.ROLE 1 with phy := { keyed.phy with calSince := some 0, calAsked := true } })) ram41) (⟨0, Upset.none⟩) (0) (0x0C04) (3)) ∧
    ((fun (s : State) (d : Disturb) (n : Nat) (e : Nat) (ch : Nat) => (s.linkRuns = true) ∧ (s.ownSched.epoch ≤ s.now + 200000) ∧
      (n = s.ownSched.asn (s.now + 200000)) ∧ (s.link.prepared ≠ some n) ∧ ((∀ q : Fin 64, s.queueAt q = [])) ∧ (d.upset = Upset.none) ∧
      (s.eccBad (0x32110000 + 4 * (n % 256)) = false) ∧ (e = s.word s.linkTid (0x32110000 + 4 * (n % 256))) ∧ (bits e 0 3 = 4) ∧
      (s.on LINK.ROLE = true) ∧ (1 ≤ s.get LINK.HOP_LEN) ∧ (s.get LINK.HOP_LEN ≤ 19) ∧
      (ch = s.get (LINK.HOP ((n + bits e 10 5) % s.get LINK.HOP_LEN)))) (State.withRam ((scheduled 0x0C04 (keyed.put LINK.ROLE 1 |>.put RFPHY.CHMASK
      7))) ram41) (⟨0, Upset.none⟩) (0) (0x0C04) (3)) ∧
    ((fun (s : State) (d : Disturb) (n : Nat) (e : Nat) (ch : Nat) (q : Nat) (k : Nat) (z : Slot) => (s.linkRuns = true) ∧
      (s.ownSched.epoch ≤ s.now + 200000) ∧ (n = s.ownSched.asn (s.now + 200000)) ∧ (s.link.prepared ≠ some n) ∧ ((∀ p : Fin 64, p.val ≠ q →
      s.queueAt p = [])) ∧ (d.upset = Upset.none) ∧ (s.eccBad (0x32110000 + 4 * (n % 256)) = false) ∧
      (e = s.word s.linkTid (0x32110000 + 4 * (n % 256))) ∧ (bits e 0 3 = 1) ∧ (s.link.soundings = []) ∧ (1 ≤ s.get LINK.HOP_LEN) ∧
      (s.get LINK.HOP_LEN ≤ 19) ∧ (ch = s.get (LINK.HOP ((n + bits e 10 5) % s.get LINK.HOP_LEN))) ∧ (s.calLate = false) ∧ (s.chanOk ch = true) ∧
      (q < 64) ∧ (s.queueAt q = [k]) ∧ (s.serves 0x30 q = true) ∧ (s.released q = true) ∧ (s.slotAt k = some z) ∧ (s.descValid k 0x30 = true) ∧
      (s.nbrForeign k = false) ∧ (s.linkOpcode k = 0x40) ∧ (s.linkAny k = false) ∧ (s.linkNbr k = bits e 4 6) ∧ ((bit (s.blockWord k 0) 8 = true →
      s.blockWord k 1 = n % 2 ^ 32)) ∧ (s.nbrInUse (bits e 4 6) = true) ∧
      ((s.linkIn z.owner (s.descWord k 3) 8 d 0x180).2.2 = none)) (State.withRam ((scheduled 0x31 (linked 2 0x30 [0x110, 0] [0x3040, 0, 0x20000100,
      0x20000200, 0x06000003]))) ram42) (⟨0, Upset.none⟩) (0) (0x31) (0) (2) (5) (⟨0, 2, 0, 2, false, true⟩)) ∧
    ((fun (s : State) (d : Disturb) (n : Nat) (e : Nat) (ch : Nat) (q : Nat) (k : Nat) => (s.linkRuns = true) ∧ (s.ownSched.epoch ≤ s.now + 200000) ∧
      (n = s.ownSched.asn (s.now + 200000)) ∧ (s.link.prepared ≠ some n) ∧ ((∀ p : Fin 64, p.val ≠ q → s.queueAt p = [])) ∧ (d.upset = Upset.none) ∧
      (s.eccBad (0x32110000 + 4 * (n % 256)) = false) ∧ (e = s.word s.linkTid (0x32110000 + 4 * (n % 256))) ∧ (bits e 0 3 = 2) ∧
      (1 ≤ s.get LINK.HOP_LEN) ∧ (s.get LINK.HOP_LEN ≤ 19) ∧ (ch = s.get (LINK.HOP ((n + bits e 10 5) % s.get LINK.HOP_LEN))) ∧ (s.calLate = false) ∧
      (s.chanOk ch = true) ∧ (q < 64) ∧ (s.queueAt q = [k]) ∧ (s.serves 0x31 q = true) ∧ (s.released q = true) ∧ (s.descValid k 0x31 = true) ∧
      (s.nbrForeign k = false) ∧ (s.soundsUsedMap k = false) ∧ ((s.linkOpcode k = 0x41 ∧ s.linkAny k = true ∨
      s.linkNbr k = bits e 4 6))) (State.withRam ((scheduled 0x32 (linked 2 0x31 [] [0x3141, 0, 0, 0x20000200, 0x80000040]))) ram43) (⟨0,
      Upset.none⟩) (0) (0x32) (0) (2) (5)) ∧
    ((fun (s : State) (d : Disturb) (n : Nat) (e : Nat) (ch : Nat) (q : Nat) (k : Nat) => (s.linkRuns = true) ∧ (s.ownSched.epoch ≤ s.now + 200000) ∧
      (n = s.ownSched.asn (s.now + 200000)) ∧ (s.link.prepared ≠ some n) ∧ ((∀ p : Fin 64, p.val ≠ q → s.queueAt p = [])) ∧ (d.upset = Upset.none) ∧
      (s.eccBad (0x32110000 + 4 * (n % 256)) = false) ∧ (e = s.word s.linkTid (0x32110000 + 4 * (n % 256))) ∧ (bits e 0 3 = 2) ∧
      (1 ≤ s.get LINK.HOP_LEN) ∧ (s.get LINK.HOP_LEN ≤ 19) ∧ (ch = s.get (LINK.HOP ((n + bits e 10 5) % s.get LINK.HOP_LEN))) ∧ (s.calLate = false) ∧
      (s.chanOk ch = true) ∧ (q < 64) ∧ (s.queueAt q = [k]) ∧ (s.serves 0x31 q = true) ∧ (s.released q = true) ∧ (s.descValid k 0x31 = true) ∧
      (s.nbrForeign k = false) ∧ (s.soundsUsedMap k = false) ∧ ((s.linkOpcode k = 0x41 ∧ s.linkAny k = true ∨
      s.linkNbr k = bits e 4 6))) (State.withRam ((scheduled 0x32 (linked 2 0x31 [] [0x3143, 0, 0x305, 0, 0x06000000]))) ram44) (⟨0, Upset.none⟩) (0)
      (0x32) (0) (2) (5)) ∧
    ((fun (s : State) (d : Disturb) => ((s.linkRuns = false ∨ s.now + 200000 < s.ownSched.epoch ∨
      s.link.prepared = some (s.ownSched.asn (s.now + 200000))))) (State.reset) (⟨0, Upset.none⟩)) :=
  by refine ⟨?_, ?_, ?_, ?_, ?_, ?_, ?_, ?_⟩ <;> decide +kernel

/-- The hypotheses of Obligations.SlotsAndBeacons are met. -/
theorem test_hyp_SlotsAndBeacons :
    ((fun (s : State) (p : Prep) (n : Nat) (d : Disturb) => (d.upset = Upset.none) ∧ (s.linkRuns = true) ∧ (s.schedule.epoch ≤ s.now) ∧
  (n = s.schedule.asn s.now) ∧ (s.link.begun ≠ some n) ∧ (s.linkBusy = false) ∧ ((∀ e : Fin 64, Table.find s.waiting (256 * tblNbr + e) = none)) ∧
  (s.link.next = some p) ∧ (p.asn = n) ∧ ((p.op ≠ .calibration → s.chanOk p.chan = true)) ∧ ((p.op ≠ .calibration → p.op ≠ .window none →
  s.on SUPPLY.PGOOD = true))) ((State.reset.put LINK.RUN 1 |> fun s =>
  { s with link := { s.link with next := some ⟨0, 0x39, .transmit 5, 4, false, 29, some ⟨true, 1, 0, 0, []⟩, none, none⟩ } })) (⟨0, 0x39, .transmit
  5, 4, false, 29, some ⟨true, 1, 0, 0, []⟩, none, none⟩) (0) (⟨0, Upset.none⟩)) ∧
    ((fun (s : State) (d : Disturb) => (d.upset = Upset.none) ∧ (s.linkRuns = true) ∧ (s.schedule.epoch ≤ s.now) ∧
      (s.link.begun ≠ some (s.schedule.asn s.now)) ∧ (s.linkBusy = true) ∧
      ((∀ e : Fin 64, Table.find s.waiting (256 * tblNbr + e) = none))) ((State.reset.put LINK.RUN 1 |> fun s =>
      { s with phy := { s.phy with op := .txAir } })) (⟨0, Upset.none⟩)) ∧
    ((fun (s : State) (d : Disturb) => ((s.linkRuns = false ∨ s.now < s.schedule.epoch ∨
      s.link.begun = some (s.schedule.asn s.now)))) (State.reset) (⟨0, Upset.none⟩)) ∧
    ((fun (s : State) (d : Disturb) (x : RxFrame) (k : Nat) (n : Nat) (z : Slot) => (s.rxWhole = some x) ∧ (s.rxReads d) ∧ (s.link.taker = some k) ∧
      (s.beaconOk x = true) ∧ (s.linkScans = false) ∧ (s.link.ackOwed = none) ∧ (s.scanReady = false) ∧ ((s.on NTU.SERVO_EN = false ∨
      s.get NTU.SRC ≠ 2 ∨ s.power.mode = .lull)) ∧ (s.unheard 0x7A) ∧ ((∀ b ∈ x.frame.payload, b < 256)) ∧ (n = x.frame.payload.length) ∧
      (d.upset = Upset.none) ∧ (s.slotAt k = some z) ∧ (s.ends k z) ∧
      (s.deliverable k z n)) (State.withRam ((linked 3 0x31 [] [0x3141, 0, 0, 0x20000200, 0x80000040] |> heard ⟨true, 0x0FE00001 + 0x77 * 32, 0, 0,
      List.range 31⟩ |> fun s => { s with link := { s.link with cur := some ⟨0, 0x34, .window none, 4, true, 0, none, none, none⟩ } })) ram45) (⟨0,
      Upset.none⟩) (⟨⟨true, 0x0FE00001 + 0x77 * 32, 0, 0, List.range 31⟩, 99, 1000, 4⟩) (5) (31) (⟨0, 3, 0, 2, false, true⟩)) ∧
    ((fun (s : State) (d : Disturb) (x : RxFrame) (k : Nat) (n : Nat) (z : Slot) (ep : Int) => (s.rxWhole = some x) ∧ (s.rxReads d) ∧
      (s.link.taker = some k) ∧ (s.beaconOk x = true) ∧ (s.linkScans = true) ∧ (s.on LINK.ADOPT = true) ∧ (s.link.ackOwed = none) ∧
      ((s.on NTU.SERVO_EN = false ∨ s.get NTU.SRC ≠ 2 ∨ s.power.mode = .lull)) ∧ (s.unheard 0x7A) ∧ ((∀ b ∈ x.frame.payload, b < 256)) ∧
      (n = x.frame.payload.length) ∧ (d.upset = Upset.none) ∧ (s.slotAt k = some z) ∧ (s.ends k z) ∧ (s.deliverable k z n) ∧
      (4 ≤ nth x.frame.payload 15) ∧ (nth x.frame.payload 15 ≤ 40) ∧ (25 ≤ nth x.frame.payload 16) ∧ (nth x.frame.payload 16 ≤ 250) ∧
      (1 ≤ nth x.frame.payload 17) ∧ (nth x.frame.payload 17 ≤ 19) ∧ ((∀ i : Fin 19, nth (beaconHops x.frame.payload) i ≤ 18)) ∧
      (beaconTime x.frame.payload < 2 ^ 48 * 1000000000) ∧
      (ep = (beaconTime x.frame.payload : Int) - 4000 * nth x.frame.payload 16 - 128000 - beaconAsn x.frame.payload * (250000 * nth x.frame.payload
      15)) ∧ (0 ≤ ep)) (State.withRam ((linked 3 0x31 [] [0x3141, 0, 0, 0x20000200, 0x80000040] |> heard ⟨true, 0x0FE00001 + 0x77 * 32, 0, 0, bytesLE
      6 100 ++ bytesLE 4 5 ++ bytesLE 5 3 ++ [20, 100, 3, 0] ++ bytesLE 12 0x1041⟩ |> fun s => ((s.put LINK.SCAN 1).put LINK.ADOPT 1).put LINK.RUN
      1)) ram46) (⟨0, Upset.none⟩) (⟨⟨true, 0x0FE00001 + 0x77 * 32, 0, 0, bytesLE 6 100 ++ bytesLE 4 5 ++ bytesLE 5 3 ++ [20, 100, 3, 0] ++ bytesLE
      12 0x1041⟩, 99, 1000, 4⟩) (5) (31) (⟨0, 3, 0, 2, false, true⟩) (99999999999 - 999999999 + 5 - 400000 - 128000 - 15000000 + 1000000000 - 0)) ∧
    ((fun (s : State) (n : Nat) => (s.on LINK.RUN = true) ∧ (s.on LINK.SCAN = false) ∧ (s.schedule.epoch ≤ s.now + 1000 * s.get LINK.WAKE_LEAD) ∧
      (n = s.schedule.asn (s.now + 1000 * s.get LINK.WAKE_LEAD)) ∧ (s.link.timerDone ≠ some n) ∧ (s.eccBad (0x32110000 + 4 * (n % 256)) = false) ∧
      (bit (s.word s.linkTid (0x32110000 + 4 * (n % 256))) 15 = true) ∧ ((s.power.mode = .gale ∧ s.power.phase = .steady ∨
      bit (s.get PWR.WAKE_EN) 4 = false))) (State.withRam ((scheduled 0x8000 State.reset)) ram47) (0)) ∧
    ((fun (s : State) (n : Nat) => (s.on LINK.RUN = true) ∧ (s.on LINK.SCAN = false) ∧ (s.schedule.epoch ≤ s.now + 1000 * s.get LINK.WAKE_LEAD) ∧
      (n = s.schedule.asn (s.now + 1000 * s.get LINK.WAKE_LEAD)) ∧ (s.link.timerDone ≠ some n) ∧ (s.eccBad (0x32110000 + 4 * (n % 256)) = false) ∧
      (bit (s.word s.linkTid (0x32110000 + 4 * (n % 256))) 15 = true) ∧ (s.power.mode = .lull) ∧ (s.power.phase = .steady) ∧
      (bit (s.get PWR.WAKE_EN) 4 = true)) (State.withRam ((scheduled 0x8000 (State.reset.put PWR.WAKE_EN 16) |> fun s =>
      { s with power := { s.power with mode := .lull } })) ram47) (0)) ∧
    ((fun (s : State) => ((s.on LINK.RUN = false ∨ s.on LINK.SCAN = true ∨ s.now + 1000 * s.get LINK.WAKE_LEAD < s.schedule.epoch ∨
      s.link.timerDone = some (s.schedule.asn (s.now + 1000 * s.get LINK.WAKE_LEAD))))) (State.reset)) :=
  by refine ⟨?_, ?_, ?_, ?_, ?_, ?_, ?_, ?_⟩ <;> decide +kernel

/-- The hypotheses of Obligations.LinkTransmitService, clauses 1 to 8 that have any, are met. -/
theorem test_hyp_LinkTransmitService :
    ((fun (s : State) (d : Disturb) (p : Prep) (k : Nat) (e : Nat) (n : Nat) (cb : Nat) (z : Slot) (rob : Bool) (data : List Nat) => (s.link.next = some
  p) ∧ (p.op = .transmit k) ∧ (p.frame = none) ∧ (s.linkOpcode k = 0x40) ∧ (s.slotAt k = some z) ∧ (z.state = 3) ∧
  (s.descBad k [0, 2, 3, 4] = none) ∧ (d.upset = Upset.none) ∧ (s.island .core = .running) ∧ (s.rst.quiescing.contains z.owner = false) ∧
  (s.plain z.owner (s.descWord k 3) 8) ∧ (cb = ofBytesLE (s.bytesAt z.owner (s.descWord k 3) 4)) ∧
  (s.plain z.owner (s.descWord k 2) (bits (s.descWord k 4) 0 16)) ∧ (data = s.bytesAt z.owner (s.descWord k 2) (bits (s.descWord k 4) 0 16)) ∧
  (n = data.length) ∧ ((bits cb 0 3 = 0 ∨ bits cb 0 3 = 3)) ∧ (s.linkAny k = false) ∧ (e = s.linkNbr k) ∧ (s.nbrInUse e = true) ∧
  (s.nbrBad e = false) ∧ (bit cb 3 = false) ∧ (s.nbrSecReq e = false) ∧ ((s.job k).held = none) ∧
  (rob = (decide (3 ≤ bits cb 0 3) || !(!bit p.entry 3 && s.nbrOfdm e))) ∧
  ((if rob then n ≤ 123 else ofdmFits (s.mapCodes (s.nbrMap e)) (s.nbrRate e) n = true)) ∧
  (slotFits s.schedule rob (s.nbrRate e) (mapBits (s.mapCodes (s.nbrMap e))) n (bit cb 4) = true) ∧ ((rob = false →
  ∀ w : Fin 5, s.mapWordBad (s.nbrMap e) w = false)) ∧
  (s.buffersFree ≠ [])) (State.withRam ((linked 3 0x30 [0x10, 0] [0x3040, 0, 0x20000100, 0x20000200, 0x06000003] |> nextOp (.transmit 5))) ram48)
  (⟨0, Upset.none⟩) (⟨0, 0x39, .transmit 5, 0, true, 7, none, none, none⟩) (5) (3) (3) (0x10) (⟨0, 3, 0, 2, false, true⟩) (true) ([1, 2, 3])) ∧
    ((fun (s : State) (d : Disturb) (p : Prep) (k : Nat) (e : Nat) (n : Nat) (cb : Nat) (link : Nat) (sq : Nat) (z : Slot) (data : List Nat) (key :
      List Nat) => (s.link.next = some p) ∧ (p.op = .transmit k) ∧ (p.frame = none) ∧ (s.linkOpcode k = 0x40) ∧ (s.slotAt k = some z) ∧
      (z.state = 3) ∧ (s.descBad k [0, 2, 3, 4] = none) ∧ (d.upset = Upset.none) ∧ (s.island .core = .running) ∧
      (s.rst.quiescing.contains z.owner = false) ∧ (s.plain z.owner (s.descWord k 3) 8) ∧ (cb = ofBytesLE (s.bytesAt z.owner (s.descWord k 3) 4)) ∧
      (s.plain z.owner (s.descWord k 2) (bits (s.descWord k 4) 0 16)) ∧ (data = s.bytesAt z.owner (s.descWord k 2) (bits (s.descWord k 4) 0 16)) ∧
      (n = data.length) ∧ (bits cb 0 3 = 0) ∧ (s.linkAny k = false) ∧ (e = s.linkNbr k) ∧ (s.nbrInUse e = true) ∧ (s.nbrBad e = false) ∧
      ((bit cb 3 = true ∨ s.nbrSecReq e = true)) ∧ ((s.job k).held = none) ∧ (bit p.entry 3 = true) ∧ (n ≤ 111) ∧
      (slotFits s.schedule true (s.nbrRate e) (mapBits (s.mapCodes (s.nbrMap e))) (n + 12) (bit cb 4) = true) ∧ (s.linkKey (s.nbrKey e) = some key) ∧
      (sq = s.get LSEC.TXSEQ) ∧ (sq ≠ 0) ∧ (link = 8 + (if bit cb 4 then 16 else 0) + s.get LINK.SHORT % 2 ^ 16 * 2 ^ 5 + s.nbrShort e % 128 * 2 ^
      21) ∧ (s.buffersFree ≠ [])) (State.withRam ((linked 3 0x30 [0x18, 0] [0x3040, 0, 0x20000100, 0x20000200, 0x06000003] |> nextOp (.transmit 5) |>
      fun s => ({ s with link := { s.link with keys := [(1, 77)] } }.put LSEC.KEY_VALID 2).put LSEC.TXSEQ 9)) ram49) (⟨0, Upset.none⟩) (⟨0, 0x39,
      .transmit 5, 0, true, 7, none, none, none⟩) (5) (3) (3) (0x18) (24 + 0x12 * 32 + 0x77 * 2 ^ 21) (9) (⟨0, 3, 0, 2, false, true⟩) ([1, 2, 3])
      (keyBytes 77)) ∧
    ((fun (s : State) (d : Disturb) (p : Prep) (k : Nat) (e : Nat) (n : Nat) (cb : Nat) (z : Slot) (key : List Nat) => (s.link.next = some p) ∧
      (p.op = .transmit k) ∧ (p.frame = none) ∧ (s.linkOpcode k = 0x40) ∧ (s.ends k z) ∧ (s.reportable k z) ∧ (z.cancel = false) ∧ (z.state = 3) ∧
      (d.upset = Upset.none) ∧ (s.plain z.owner (s.descWord k 3) 8) ∧ (cb = ofBytesLE (s.bytesAt z.owner (s.descWord k 3) 4)) ∧
      (n = bits (s.descWord k 4) 0 16) ∧ (s.plain z.owner (s.descWord k 2) n) ∧ (bits cb 0 3 = 0) ∧ (s.linkAny k = false) ∧ (e = s.linkNbr k) ∧
      (s.nbrInUse e = true) ∧ (s.nbrBad e = false) ∧ (bit cb 3 = true) ∧ ((s.job k).held = none) ∧ ((s.job k).seq = none) ∧ (bit p.entry 3 = true) ∧
      (n ≤ 111) ∧ (slotFits s.schedule true (s.nbrRate e) (mapBits (s.mapCodes (s.nbrMap e))) (n + 12) (bit cb 4) = true) ∧
      (s.linkKey (s.nbrKey e) = some key) ∧ (s.get LSEC.TXSEQ = 0)) (State.withRam ((linked 3 0x30 [0x18, 0] [0x3040, 0, 0x20000100, 0x20000200,
      0x06000003] |> nextOp (.transmit 5) |> fun s => ({ s with link := { s.link with keys := [(1, 77)] } }.put LSEC.KEY_VALID 2).put LSEC.TXSEQ 0))
      ram49) (⟨0, Upset.none⟩) (⟨0, 0x39, .transmit 5, 0, true, 7, none, none, none⟩) (5) (3) (3) (0x18) (⟨0, 3, 0, 2, false, true⟩) (keyBytes 77)) ∧
    ((fun (s : State) (d : Disturb) (p : Prep) (k : Nat) (e : Nat) (n : Nat) (cb : Nat) (z : Slot) => (s.link.next = some p) ∧ (p.op = .transmit k) ∧
      (p.frame = none) ∧ (s.linkOpcode k = 0x40) ∧ (s.ends k z) ∧ (s.reportable k z) ∧ (z.cancel = false) ∧ (z.state = 3) ∧ (d.upset = Upset.none) ∧
      (s.plain z.owner (s.descWord k 3) 8) ∧ (cb = ofBytesLE (s.bytesAt z.owner (s.descWord k 3) 4)) ∧ (n = bits (s.descWord k 4) 0 16) ∧
      (s.plain z.owner (s.descWord k 2) n) ∧ (bits cb 0 3 = 0) ∧ (s.linkAny k = false) ∧ (e = s.linkNbr k) ∧ (s.nbrInUse e = true) ∧
      (s.nbrBad e = false) ∧ (bit cb 3 = false) ∧ (s.nbrSecReq e = false) ∧ ((s.job k).seq = none) ∧ (bit p.entry 3 = true) ∧ (n ≤ 123) ∧
      (s.schedule.slotNs < 4000 * s.schedule.txOff + (96 + 8 * (n + 4)) * 2000 + (if bit cb 4 then 64000 + 256000 else 0) + 100000)) (State.withRam
      ((linked 3 0x30 [0x10, 0] [0x3040, 0, 0x20000100, 0x20000200, 0x06000003] |> nextOp (.transmit 5) |>.put LINK.SLOT_LEN 4 |>.put LINK.TX_OFFSET
      250)) ram48) (⟨0, Upset.none⟩) (⟨0, 0x39, .transmit 5, 0, true, 7, none, none, none⟩) (5) (3) (3) (0x10) (⟨0, 3, 0, 2, false, true⟩)) ∧
    ((fun (s : State) (d : Disturb) => ((s.link.next = none ∨ (s.link.next.bind (·.frame)).isSome = true))) (State.reset) (⟨0, Upset.none⟩)) ∧
    ((fun (s : State) (p : Prep) (k : Nat) (e : Nat) (z : Slot) => (s.link.next = some p) ∧ (p.op = .transmit k) ∧ (p.frame = none) ∧
      (s.linkOpcode k = 0x42) ∧ (s.slotAt k = some z) ∧ (e = s.linkNbr k) ∧ (s.descBad k [0, 2, 3, 4] = none) ∧ (s.nbrInUse e = true) ∧
      (s.nbrBad e = false) ∧ (slotFits s.schedule false (s.nbrRate e) 0 0 false = true) ∧ ((z.state = 3 ∨
      s.on (QMGR.Q_GATED z.queue) = false))) (State.withRam ((linked 3 0x30 [] [0x3042, 0, 0x705, 0, 0x06000000] |> nextOp (.transmit 5))) ram50)
      (⟨0, 0x39, .transmit 5, 0, true, 7, none, none, none⟩) (5) (3) (⟨0, 3, 0, 2, false, true⟩)) ∧
    ((fun (s : State) (p : Prep) (k : Nat) (e : Nat) (z : Slot) => (s.link.next = some p) ∧ (p.op = .transmit k) ∧ (p.frame = none) ∧
      (s.linkOpcode k = 0x42) ∧ (s.ends k z) ∧ (z.state = 3) ∧ (e = s.linkNbr k) ∧ (s.nbrInUse e = true) ∧ (s.nbrBad e = false) ∧
      (slotFits s.schedule false (s.nbrRate e) 0 0 false = false)) (State.withRam ((linked 3 0x30 [] [0x3042, 0, 0x705, 0, 0x06000000] |> nextOp
      (.transmit 5) |>.put LINK.SLOT_LEN 4 |>.put LINK.TX_OFFSET 250)) ram50) (⟨0, 0x39, .transmit 5, 0, true, 7, none, none, none⟩) (5) (3) (⟨0, 3,
      0, 2, false, true⟩)) ∧
    ((fun (s : State) (p : Prep) (k : Nat) (z : Slot) => (s.link.next = some p) ∧ (p.op = .transmit k) ∧ (p.frame = none) ∧ (s.linkOpcode k = 0x42) ∧
      (s.slotAt k = some z) ∧ (z.state = 3) ∧ (s.descBad k [0, 2, 3, 4] = none) ∧
      (s.nbrInUse (s.linkNbr k) = false)) (State.withRam ((linked 3 0x30 [] [0x3042, 0, 0x705, 0, 0x06000000] |> nextOp (.transmit 5) |>.put
      (LINK.NBR_EN 3) 0)) ram50) (⟨0, 0x39, .transmit 5, 0, true, 7, none, none, none⟩) (5) (⟨0, 3, 0, 2, false, true⟩)) :=
  by refine ⟨?_, ?_, ?_, ?_, ?_, ?_, ?_, ?_⟩ <;> decide +kernel

/-- The hypotheses of Obligations.LinkTransmitService, clauses 9 to 15 that have any, are met. -/
theorem test_hyp_LinkTransmitService_2 :
    ((fun (s : State) (p : Prep) (w : Option Nat) => (s.link.next.or s.link.cur = some p) ∧
  (p.op = .window w)) (State.withRam ((linked 2 0x31 [] [0x3141, 0, 0, 0x20000200, 0x80000040] |> fun s =>
  { s with link := { s.link with next := some ⟨0, 0x32, .window none, 0, true, 7, none, none, none⟩ } })) ram51) (⟨0, 0x32, .window none, 0, true, 7,
  none, none, none⟩) (none)) ∧
    ((fun (s : State) (p : Prep) (k : Nat) (z : Slot) => (s.link.next.or s.link.cur = some p) ∧ (p.op = .window (some k)) ∧ (s.slotAt k = some z) ∧
      (s.on (QMGR.Q_GATED z.queue) = false) ∧ (Table.find s.link.soundings k = none)) (State.withRam ((linked 2 0x31 [] [0x3143, 0, 0x705, 0,
      0x06000000] |> fun s => { s with link := { s.link with next := some ⟨0, 0x32, .window (some 5), 0, true, 7, none, none, none⟩ } })) ram52) (⟨0,
      0x32, .window (some 5), 0, true, 7, none, none, none⟩) (5) (⟨0, 2, 0, 2, false, true⟩)) ∧
    ((fun (s : State) (k : Fin 2048) (n : Nat) (z : Slot) (d : Disturb) => (d.upset = Upset.none) ∧ (s.link.prepared = some n) ∧ ((z.state = 2 ∨
      z.state = 3 ∧ (s.job k).attempts = 0 ∧ s.inAttempt k = false ∧ (s.link.next.map (fun p => p.serves k)).getD false = false)) ∧
      (bits (s.descWord k 0) 8 6 = 0x30) ∧ (s.get (QMGR.Q_CONSUMER z.queue) = 0x30) ∧ (s.descValid k 0x30 = true) ∧
      (bit (s.blockWord k 0) 8 = true) ∧ (tickReached n (s.blockWord k 1) = true) ∧ (s.ends k z) ∧
      (s.reportable k z)) (State.withRam ((linked 2 0x30 [0x110, 7] [0x3040, 0, 0x20000100, 0x20000200, 0x06000003] |> fun s =>
      { s with link := { s.link with prepared := some 7 } })) ram53) (5) (7) (⟨0, 2, 0, 2, false, true⟩) (⟨0, Upset.none⟩)) ∧
    ((fun (s : State) (k : Fin 2048) (n : Nat) (z : Slot) (d : Disturb) => (d.upset = Upset.none) ∧ (s.link.prepared = some n) ∧ ((z.state = 2 ∨
      z.state = 3 ∧ (s.job k).attempts = 0 ∧ s.inAttempt k = false ∧ (s.link.next.map (fun p => p.serves k)).getD false = false)) ∧
      (bits (s.descWord k 0) 8 6 = 0x30) ∧ (s.get (QMGR.Q_CONSUMER z.queue) = 0x30) ∧ (s.descValid k 0x30 = true) ∧
      (bit (s.blockWord k 0) 8 = true) ∧ (tickReached n (s.blockWord k 1) = true) ∧ (s.ends k z) ∧
      (s.reportable k z)) (State.withRam ((linked 3 0x30 [0x110, 7] [0x3040, 0, 0x20000100, 0x20000200, 0x06000003] |> fun s =>
      { s with link := { s.link with prepared := some 7 }, q := { s.q with displaced := [(5, 0)] } })) ram53) (5) (7) (⟨0, 3, 0, 2, false, true⟩)
      (⟨0, Upset.none⟩)) ∧
    ((fun (s : State) (k : Fin 2048) (d : Disturb) => ((s.slotAt k = none ∨ s.link.prepared = none ∨ (s.slotAt k).map (·.state) ≠ some 2 ∧
      (s.slotAt k).map (·.state) ≠ some 3 ∨ s.linkOpcode k ≠ 0x40 ∨ bit (s.blockWord k 0) 8 = false))) (State.reset) (5) (⟨0, Upset.none⟩)) ∧
    ((fun (s : State) (k : Fin 2048) (z : Slot) (d : Disturb) => (d.upset = Upset.none) ∧ (s.linkActive k = true) ∧ (s.linkOpcode k = 0x41) ∧
      (s.deadlinePassed k = true) ∧ (s.inAttempt k = false) ∧ (s.inWindow k = false) ∧ (s.link.taker ≠ some k.val) ∧ (s.slotAt k = some z) ∧
      (s.descBad k [0, 3, 4, 7] = none) ∧ (z.owner < 4) ∧
      (s.get (QMGR.RING_SIZE z.owner) = 0)) (State.withRam ((linked 3 0x31 [] [0x3141, 0, 0, 0x20000200, 0x80000040, 0xFFFFFFFF])) ram54) (5) (⟨0, 3,
      0, 2, false, true⟩) (⟨0, Upset.none⟩)) ∧
    ((fun (s : State) (k : Fin 2048) (d : Disturb) => ((s.linkActive k = false ∨ s.deadlinePassed k = false ∨ (s.inAttempt k = true ∨
      s.inWindow k = true) ∧ (s.phy.op = .txAir ∨ s.phy.op = .rxOpen ∨ s.phy.op = .rxSync ∨ s.phy.op = .rxHeader) ∨
      s.link.taker = some k.val))) (State.reset) (5) (⟨0, Upset.none⟩)) :=
  by refine ⟨?_, ?_, ?_, ?_, ?_, ?_, ?_⟩ <;> decide +kernel

/-- The hypotheses of Obligations.LinkReception are met. -/
theorem test_hyp_LinkReception :
    ((fun (s : State) (d : Disturb) (x : RxFrame) (k : Nat) (z : Slot) (nbr : Option Nat) => (s.received x k z d) ∧ (s.ends k z) ∧
  ((bits x.frame.link 0 3 = 0 ∨ bits x.frame.link 0 3 = 3 ∨ bits x.frame.link 0 3 = 4)) ∧ (bit x.frame.link 3 = false) ∧
  (nbr = s.findSender (bits x.frame.link 5 16)) ∧ (nbr.any (fun e => s.nbrSecReq e) = false) ∧ (s.deliverable k z x.frame.payload.length) ∧
  (s.unheard 0x7A) ∧ (d.upset = Upset.none) ∧
  ((∀ b ∈ x.frame.payload, b < 256))) (State.withRam ((linked 3 0x31 [] [0x3141, 0, 0, 0x20000200, 0x80000040] |> heard ⟨true, linkField 0 false true
  0x77 0x12, 0, 0, [7, 8, 9]⟩)) ram55) (⟨0, Upset.none⟩) (⟨⟨true, linkField 0 false true 0x77 0x12, 0, 0, [7, 8, 9]⟩, 99, 1000, 4⟩) (5) (⟨0, 3, 0, 2,
  false, true⟩) (some 3)) ∧
    ((fun (s : State) (d : Disturb) (x : RxFrame) (k : Nat) (z : Slot) (nbr : Option Nat) => (s.received x k z d) ∧ (s.ends k z) ∧
      ((bits x.frame.link 0 3 = 0 ∨ bits x.frame.link 0 3 = 3 ∨ bits x.frame.link 0 3 = 4)) ∧ (bit x.frame.link 3 = false) ∧
      (nbr = s.findSender (bits x.frame.link 5 16)) ∧ (nbr.any (fun e => s.nbrSecReq e) = false) ∧ (s.deliverable k z x.frame.payload.length) ∧
      (s.unheard 0x7A) ∧ (d.upset = Upset.none) ∧
      ((∀ b ∈ x.frame.payload, b < 256))) (State.withRam ((linked 3 0x31 [] [0x3141, 0, 0, 0x20000200, 0x80000040] |> heard ⟨true, linkField 3 false
      false 0x55 0x12, 0, 0, [7, 8, 9]⟩)) ram55) (⟨0, Upset.none⟩) (⟨⟨true, linkField 3 false false 0x55 0x12, 0, 0, [7, 8, 9]⟩, 99, 1000, 4⟩) (5)
      (⟨0, 3, 0, 2, false, true⟩) (none)) ∧
    ((fun (s : State) (d : Disturb) (x : RxFrame) (k : Nat) (e : Nat) (sq : Nat) (z : Slot) (key : List Nat) (data : List Nat) => (s.received x k z
      d) ∧ (s.ends k z) ∧ (bits x.frame.link 0 3 = 0) ∧ (bit x.frame.link 3 = true) ∧ (s.findSender (bits x.frame.link 5 16) = some e) ∧
      (sq = ofBytesLE (x.frame.payload.take 4)) ∧ (s.nbr e 3 < sq) ∧ (sq < 2 ^ 32) ∧
      (s.linkKey (if bits x.frame.link 21 7 = 0x7F then s.get LSEC.BCAST_KEY else s.nbrKey e) = some key) ∧
      (openPayload key (bytesLE 4 (s.nbr e 1) ++ bytesLE 4 (s.nbr e 2) ++ bytesLE 4 sq ++ [1]) x.frame.link x.frame.payload = some data) ∧
      ((∀ b ∈ data, b < 256)) ∧ (s.deliverable k z data.length) ∧ (s.unheard 0x7A) ∧
      (d.upset = Upset.none)) (State.withRam ((secured 6 (linkField 0 true false 0x77 0x12))) ram56) (⟨0, Upset.none⟩) (⟨⟨true, linkField 0 true
      false 0x77 0x12, 0, 0, sealPayload (keyBytes 77) (linkNonce 0xB0 0xB1 6) (linkField 0 true false 0x77 0x12) 6 [1, 2, 3]⟩, 99, 1000, 4⟩) (5) (3)
      (6) (⟨0, 3, 0, 2, false, true⟩) (keyBytes 77) ([1, 2, 3])) ∧
    ((fun (s : State) (d : Disturb) (x : RxFrame) (k : Nat) (e : Nat) (z : Slot) => (s.received x k z d) ∧ (bits x.frame.link 0 3 = 0) ∧
      (bit x.frame.link 3 = false) ∧ (s.findSender (bits x.frame.link 5 16) = some e) ∧
      (s.nbrSecReq e = true)) (State.withRam ((linked 3 0x31 [] [0x3141, 0, 0, 0x20000200, 0x80000040] |> heard ⟨true, linkField 0 false true 0x77
      0x12, 0, 0, [7, 8, 9]⟩ |> peer 0x150000)) ram57) (⟨0, Upset.none⟩) (⟨⟨true, linkField 0 false true 0x77 0x12, 0, 0, [7, 8, 9]⟩, 99, 1000, 4⟩)
      (5) (3) (⟨0, 3, 0, 2, false, true⟩)) ∧
    ((fun (s : State) (d : Disturb) (x : RxFrame) (k : Nat) (e : Nat) (z : Slot) => (s.received x k z d) ∧ (bits x.frame.link 0 3 = 0) ∧
      (bit x.frame.link 3 = true) ∧ (s.findSender (bits x.frame.link 5 16) = some e) ∧
      (ofBytesLE (x.frame.payload.take 4) < s.nbr e 3)) (State.withRam ((secured 4 (linkField 0 true true 0x77 0x12))) ram58) (⟨0, Upset.none⟩)
      (⟨⟨true, linkField 0 true true 0x77 0x12, 0, 0, sealPayload (keyBytes 77) (linkNonce 0xB0 0xB1 4) (linkField 0 true true 0x77 0x12) 4 [1, 2,
      3]⟩, 99, 1000, 4⟩) (5) (3) (⟨0, 3, 0, 2, false, true⟩)) ∧
    ((fun (s : State) (d : Disturb) (x : RxFrame) (k : Nat) (e : Nat) (z : Slot) => (s.received x k z d) ∧ (bits x.frame.link 0 3 = 0) ∧
      (bit x.frame.link 3 = true) ∧ (s.findSender (bits x.frame.link 5 16) = some e) ∧
      (ofBytesLE (x.frame.payload.take 4) = s.nbr e 3)) (State.withRam ((secured 5 (linkField 0 true true 0x77 0x12))) ram59) (⟨0, Upset.none⟩)
      (⟨⟨true, linkField 0 true true 0x77 0x12, 0, 0, sealPayload (keyBytes 77) (linkNonce 0xB0 0xB1 5) (linkField 0 true true 0x77 0x12) 5 [1, 2,
      3]⟩, 99, 1000, 4⟩) (5) (3) (⟨0, 3, 0, 2, false, true⟩)) ∧
    ((fun (s : State) (d : Disturb) (x : RxFrame) (k : Nat) (e : Nat) (z : Slot) (key : List Nat) => (s.received x k z d) ∧
      (bits x.frame.link 0 3 = 0) ∧ (bit x.frame.link 3 = true) ∧ (s.findSender (bits x.frame.link 5 16) = some e) ∧
      (s.nbr e 3 < ofBytesLE (x.frame.payload.take 4)) ∧ (s.frameKey (bits x.frame.link 21 7 == 0x7F) e = some key) ∧
      (openPayload key (linkNonce (s.nbr e 1) (s.nbr e 2) (ofBytesLE (x.frame.payload.take 4))) x.frame.link x.frame.payload = none)) (State.withRam
      ((secured 6 (linkField 0 true false 0x77 0x12) |> fun s =>
      { s with link := { s.link with rx := s.link.rx.map (fun x => { x with frame := { x.frame with link := linkField 0 true true 0x77 0x12 } }) } })) ram56) (⟨0, Upset.none⟩) (⟨⟨true, linkField 0 true true 0x77 0x12, 0, 0, sealPayload (keyBytes 77) (linkNonce 0xB0 0xB1 6) (linkField 0 true false 0x77 0x12) 6 [1, 2, 3]⟩, 99, 1000, 4⟩) (5) (3) (⟨0, 3, 0, 2, false, true⟩) (keyBytes 77)) ∧
    ((fun (s : State) (d : Disturb) (r : BufRef) (x : RxFrame) (a : Nat) (k : Nat) (z : Slot) => (s.rxWhole = some x) ∧ (s.link.rxHeld = some r) ∧
      (s.bufFails r d 0x500 = some a) ∧ (s.link.taker = some k) ∧ (s.link.ackWait = false) ∧ (s.link.ackOwed = none) ∧ (s.scanReady = false) ∧
      (s.ends k z) ∧ (bits x.frame.link 0 3 = 0)) (State.withRam ((linked 3 0x31 [] [0x3141, 0, 0, 0x20000200, 0x80000040] |> heard ⟨true, linkField
      0 false true 0x77 0x12, 0, 0, [7, 8, 9]⟩)) ram55) (⟨0x500, { Upset.none with ecc := true }⟩) (⟨4, 0, 3⟩) (⟨⟨true, linkField 0 false true 0x77
      0x12, 0, 0, [7, 8, 9]⟩, 99, 1000, 4⟩) (0x32001000) (5) (⟨0, 3, 0, 2, false, true⟩)) ∧
    ((fun (s : State) (d : Disturb) => ((s.link.rx = none ∨ s.link.taker = none ∨ s.link.ackWait = true))) (State.reset) (⟨0, Upset.none⟩)) :=
  by refine ⟨?_, ?_, ?_, ?_, ?_, ?_, ?_, ?_, ?_⟩ <;> decide +kernel

/-- The hypotheses of Obligations.LinkAcknowledgements, clauses 1 to 6 that have any, are met. -/
theorem test_hyp_LinkAcknowledgements :
    ((fun (s : State) (f : AirFrame) (pwr : Nat) => (s.link.ackOwed = some (f, pwr)) ∧ (s.up .radio = true) ∧ (s.on SUPPLY.PGOOD = true) ∧
  ((f.payload ≠ [] → ∀ w : Fin 5, s.mapWordBad f.map w = false)))
  (({ State.reset with link := { State.reset.link with ackOwed := some (⟨true, 0x0FE00002, 0, 0, []⟩, 29) } })) (⟨true, 0x0FE00002, 0, 0, []⟩) (29)) ∧
    ((fun (s : State) (f : AirFrame) (pwr : Nat) => (s.link.ackOwed = some (f, pwr)) ∧ (s.up .radio = true) ∧
      (s.on SUPPLY.PGOOD = false)) (({ State.reset.put SUPPLY.PGOOD 0 with link := { State.reset.link with ackOwed := some (⟨true, 0x0FE00002, 0, 0, []⟩, 29) } })) (⟨true, 0x0FE00002, 0, 0, []⟩) (29)) ∧
    ((fun (s : State) => ((s.link.ackOwed = none ∨ s.up .radio = false))) (State.reset)) ∧
    ((fun (s : State) (d : Disturb) (x : RxFrame) (k : Nat) (z : Slot) => (s.link.rx = some x) ∧ (s.sending = some k) ∧ (s.link.ackWait = true) ∧
      (bits x.frame.link 0 3 = 2) ∧ (bits x.frame.link 21 7 = s.get LINK.SHORT % 128) ∧ ((bits (s.job k).block 0 3 = 4 ∨
      bits x.frame.link 5 16 = s.nbrShort (s.linkNbr k))) ∧ (s.ends k z) ∧ (s.reportable k z) ∧ (z.cancel = false) ∧
      (d.upset = Upset.none)) (State.withRam ((linked 3 0x30 [0x10, 0] [0x3040, 0, 0x20000100, 0x20000200, 0x06000003] |> heard ⟨true, linkField 2
      false false 0x77 0x12, 0, 0, []⟩ |> waiting (.transmit 5))) ram48) (⟨0, Upset.none⟩) (⟨⟨true, linkField 2 false false 0x77 0x12, 0, 0, []⟩, 99,
      1000, 4⟩) (5) (⟨0, 3, 0, 2, false, true⟩)) ∧
    ((fun (s : State) (d : Disturb) (x : RxFrame) (k : Nat) (z : Slot) => (s.link.rx = some x) ∧ (s.answering = some k) ∧ (s.link.ackWait = true) ∧
      (bits x.frame.link 0 3 = 2) ∧ (bits x.frame.link 21 7 = s.get LINK.SHORT % 128) ∧ (bits x.frame.link 5 16 = s.nbrShort (s.linkNbr k)) ∧
      (s.ends k z)) (State.withRam ((linked 3 0x31 [] [0x3143, 0, 0x10701, 0, 0x06000000] |> heard ⟨true, linkField 2 false false 0x77 0x12, 0, 0,
      []⟩ |> waiting (.soundResp 5))) ram60) (⟨0, Upset.none⟩) (⟨⟨true, linkField 2 false false 0x77 0x12, 0, 0, []⟩, 99, 1000, 4⟩) (5) (⟨0, 3, 0, 2,
      false, true⟩)) ∧
    ((fun (s : State) (d : Disturb) (x : RxFrame) (k : Nat) => (s.link.rx = some x) ∧ (s.sending = some k) ∧ (s.link.ackWait = true) ∧
      ((bits x.frame.link 0 3 ≠ 2 ∨ bits x.frame.link 21 7 ≠ s.get LINK.SHORT % 128 ∨ bits (s.job k).block 0 3 ≠ 4 ∧
      bits x.frame.link 5 16 ≠ s.nbrShort (s.linkNbr k)))) (State.withRam ((linked 3 0x30 [0x10, 0] [0x3040, 0, 0x20000100, 0x20000200, 0x06000003]
      |> heard ⟨true, linkField 2 false false 0x77 0x13, 0, 0, []⟩ |> waiting (.transmit 5))) ram48) (⟨0, Upset.none⟩) (⟨⟨true, linkField 2 false
      false 0x77 0x13, 0, 0, []⟩, 99, 1000, 4⟩) (5)) :=
  by refine ⟨?_, ?_, ?_, ?_, ?_, ?_⟩ <;> decide +kernel

/-- The hypotheses of Obligations.LinkAcknowledgements, clauses 7 to 12 that have any, are met. -/
theorem test_hyp_LinkAcknowledgements_2 :
    ((fun (s : State) (d : Disturb) => ((s.link.rx = none ∨ s.link.ackWait = false ∨ s.link.cur = none))) (State.reset) (⟨0, Upset.none⟩)) ∧
    ((fun (s : State) (d : Disturb) (k : Nat) (z : Slot) => (s.sending = some k) ∧ (s.link.ackWait = true) ∧ (s.linkOpcode k = 0x40) ∧
      (s.slotAt k = some z) ∧ (z.cancel = false) ∧
      ((s.job k).attempts ≤ bits (s.job k).block 5 3)) (State.withRam ((linked 3 0x30 [0x10, 0] [0x3040, 0, 0x20000100, 0x20000200, 0x06000003] |>
      waiting (.transmit 5) |>.modJob 5 (fun j => { j with attempts := 2, block := 0x50 }))) ram48) (⟨0, Upset.none⟩) (5) (⟨0, 3, 0, 2, false,
      true⟩)) ∧
    ((fun (s : State) (d : Disturb) (k : Nat) (z : Slot) => (s.sending = some k) ∧ (s.link.ackWait = true) ∧ (s.ends k z) ∧ (s.reportable k z) ∧
      (z.cancel = false) ∧ (bits (s.job k).block 5 3 < (s.job k).attempts) ∧ (bit (s.job k).block 4 = true) ∧ (s.linkAny k = false) ∧
      (s.nbrBad (s.linkNbr k) = false) ∧ (d.upset = Upset.none)) (State.withRam ((linked 3 0x30 [0x10, 0] [0x3040, 0, 0x20000100, 0x20000200,
      0x06000003] |> waiting (.transmit 5) |>.modJob 5 (fun j => { j with attempts := 3, block := 0x50 }))) ram48) (⟨0, Upset.none⟩) (5) (⟨0, 3, 0,
      2, false, true⟩)) ∧
    ((fun (s : State) (d : Disturb) (k : Nat) => (s.answering = some k) ∧ (s.link.ackWait = true) ∧
      ((s.soundingOf k).tries ≤ 3)) (State.withRam ((linked 3 0x31 [] [0x3143, 0, 0x10701, 0, 0x06000000] |> waiting (.soundResp 5) |>.setSounding 5
      ⟨0, List.replicate 48 4, true, 2, none, none, 0⟩)) ram60) (⟨0, Upset.none⟩) (5)) ∧
    ((fun (s : State) (d : Disturb) (k : Nat) (z : Slot) => (s.answering = some k) ∧ (s.link.ackWait = true) ∧ (3 < (s.soundingOf k).tries) ∧
      (s.ends k z) ∧ (s.nbrBad (s.linkNbr k) = false)) (State.withRam ((linked 3 0x31 [] [0x3143, 0, 0x10701, 0, 0x06000000] |> waiting (.soundResp
      5) |>.setSounding 5 ⟨0, List.replicate 48 4, true, 4, none, none, 0⟩)) ram60) (⟨0, Upset.none⟩) (5) (⟨0, 3, 0, 2, false, true⟩)) ∧
    ((fun (s : State) (d : Disturb) => ((s.link.ackWait = false ∨ s.link.cur = none))) (State.reset) (⟨0, Upset.none⟩)) :=
  by refine ⟨?_, ?_, ?_, ?_, ?_, ?_⟩ <;> decide +kernel

/-- The hypotheses of Obligations.Soundings are met. -/
theorem test_hyp_Soundings :
    ((fun (s : State) (x : RxFrame) (k : Nat) (e : Nat) (m : Nat) (z : Slot) (y : Sounding) (d : Disturb) => (d.upset = Upset.none) ∧
  (s.received x k z d) ∧ (bits x.frame.link 0 5 = 5) ∧ (s.findSender (bits x.frame.link 5 16) = some e) ∧ (s.nbrSecReq e = false) ∧
  (m = s.soundMap k) ∧ (x.frame.map = m) ∧ (y = s.soundingOf k) ∧ (y.owed = false) ∧ (y.codes.length = 48) ∧
  (1 < y.left)) (State.withRam ((linked 3 0x31 [] [0x3143, 0, 0x10705, 0, 0x06000000] |> heard ⟨false, linkField 5 false false 0x77 0x12, 7, 0, []⟩
  |>.setMap 7 (List.replicate 48 3))) ram61) (⟨⟨false, linkField 5 false false 0x77 0x12, 7, 0, []⟩, 99, 1000, 4⟩) (5) (3) (7) (⟨0, 3, 0, 2, false,
  true⟩) (⟨5, List.replicate 48 4, false, 0, none, none, 0⟩) (⟨0, Upset.none⟩)) ∧
    ((fun (s : State) (x : RxFrame) (k : Nat) (e : Nat) (m : Nat) (z : Slot) (y : Sounding) (d : Disturb) => (d.upset = Upset.none) ∧
      (s.received x k z d) ∧ (bits x.frame.link 0 5 = 5) ∧ (s.findSender (bits x.frame.link 5 16) = some e) ∧ (s.nbrSecReq e = false) ∧
      (m = s.soundMap k) ∧ (x.frame.map = m) ∧ (y = s.soundingOf k) ∧ (y.owed = false) ∧ (y.codes.length = 48) ∧ ((∀ c ∈ y.codes, c ≤ 4)) ∧
      (y.left = 1)) (State.withRam ((linked 3 0x31 [] [0x3143, 0, 0x10701, 0, 0x06000000] |> heard ⟨false, linkField 5 false false 0x77 0x12, 7, 0,
      []⟩ |>.setMap 7 (List.replicate 48 3))) ram62) (⟨⟨false, linkField 5 false false 0x77 0x12, 7, 0, []⟩, 99, 1000, 4⟩) (5) (3) (7) (⟨0, 3, 0, 2,
      false, true⟩) (⟨1, List.replicate 48 4, false, 0, none, none, 0⟩) (⟨0, Upset.none⟩)) ∧
    ((fun (s : State) (d : Disturb) (x : RxFrame) (k : Nat) (j : Nat) (e : Nat) (m : Nat) (z : Slot) (w : Slot) => (s.received x k z d) ∧
      (bits x.frame.link 0 4 = 6) ∧ (s.findSender (bits x.frame.link 5 16) = some e) ∧ (s.nbrSecReq e = false) ∧ (s.ends k z) ∧
      (s.deliverable k z x.frame.payload.length) ∧ (d.upset = Upset.none) ∧ (s.unheard 0x7A) ∧ ((∀ b ∈ x.frame.payload, b < 256)) ∧
      (x.frame.payload.length = 20) ∧ (m = nth x.frame.payload 0 % 32) ∧ (s.soundWaiting e m = some j) ∧ (s.ends j w) ∧ (j ≠ k) ∧
      (w.queue ≠ z.queue) ∧ ((∀ n : Fin 64, n.val ≠ w.queue → s.queueAt n = [] ∨
      s.get (QMGR.Q_CONSUMER n) ≠ 0x30))) (State.withRam ((sounded ([7, 1] ++ List.range 18))) ram63) (⟨0, Upset.none⟩) (⟨⟨true, linkField 6 false
      true 0x77 0x12, 0, 0, [7, 1] ++ List.range 18⟩, 99, 1000, 4⟩) (5) (6) (3) (7) (⟨0, 3, 0, 2, false, true⟩) (⟨0, 3, 0, 3, false, true⟩)) :=
  by refine ⟨?_, ?_, ?_⟩ <;> decide +kernel

/-- The hypotheses of Obligations.LinkKeysAndNumbers are met. -/
theorem test_hyp_LinkKeysAndNumbers :
    ((fun (s : State) (m : Master) (k : Nat) => (s.admits m 0x17 0x24 true) ∧ (k = s.get LSEC.KEY_SEL) ∧ (s.get LSEC.LOAD = 0) ∧
  (s.get LSEC.CLEAR = 0)) ((State.reset.put LSEC.KEY_SEL 9 |> fun s =>
  { s with link := { s.link with stage := #v[0x03020100, 0x07060504, 0x0B0A0908, 0x0F0E0D0C] } })) (.hart 0) (9)) ∧
    ((fun (s : State) (m : Master) (k : Nat) => (s.admits m 0x17 0x24 true) ∧ (k = s.get LSEC.KEY_SEL) ∧ (s.get LSEC.LOAD = 0) ∧
      (s.get LSEC.CLEAR = 0)) ((State.reset.put LSEC.KEY_SEL 9 |>.put LSEC.KEY_VALID 0x300)) (.hart 0) (9)) ∧
    ((fun (s : State) (m : Master) (v : Word) => (s.admits m 0x17 0x2C true)) ((State.reset.put LSEC.TXSEQ 50 |>.put LSEC.KEY_VALID 4)) (.hart 0)
      (9)) ∧
    ((fun (s : State) (m : Master) (v : Word) => (s.admits m 0x17 0x2C true)) (State.reset) (.hart 0) (0xF0000000)) ∧
    ((fun (s : State) (m : Master) (n : Nat) => (s.admits m 0x16 0x34 false) ∧ (n = s.schedule.asn s.now)) (State.reset) (.hart 0) (0)) :=
  by refine ⟨?_, ?_, ?_, ?_, ?_⟩ <;> decide +kernel

/-- The hypotheses of Obligations.LoopConfiguration are met. -/
theorem test_hyp_LoopConfiguration :
    ((fun (s : State) (m : Master) (n : Fin 16) (v : Word) (c : Nat) (ok : Bool) => (s.admits m 0x18 (0x100 + 0x10 * n) true) ∧
  (s.on (CTRL.EN n) = false) ∧ (bits v.toNat 8 6 = s.get (CTRL.FIRST n)) ∧ (c = s.get (CTRL.COUNT n)) ∧ (bits v.toNat 16 4 = c) ∧ (c ≤ 8) ∧
  (bits v.toNat 21 3 ≤ 5) ∧ (s.srcOwner (104 + bits v.toNat 25 2) = s.owner tblLoop n) ∧
  (ok = (decide (1 ≤ c) && (List.range (bits v.toNat 16 4)).all (fun p => decide (1 ≤ bits (s.stageCfg n (s.get (CTRL.FIRST n) + p) 16) 0 3) &&
  decide (bits (s.stageCfg n (s.get (CTRL.FIRST n) + p) 16) 0 3 ≤ 5) && (usedOperands (s.stageCfg n (s.get (CTRL.FIRST n) + p) 16) (s.stageCfg n
  (s.get (CTRL.FIRST n) + p) 17)).all (fun o => s.operandOk n c o)) && (!bit v.toNat 20 || s.owner tblPair (bits v.toNat 21 3) == s.owner tblLoop
  n)))) (State.withRam ((looped 15 0x10)) ram64) (.hart 0) (15) (0x10000) (1) (true)) ∧
    ((fun (s : State) (m : Master) (n : Fin 16) (v : Word) (c : Nat) (ok : Bool) => (s.admits m 0x18 (0x100 + 0x10 * n) true) ∧
      (s.on (CTRL.EN n) = false) ∧ (bits v.toNat 8 6 = s.get (CTRL.FIRST n)) ∧ (c = s.get (CTRL.COUNT n)) ∧ (bits v.toNat 16 4 = c) ∧ (c ≤ 8) ∧
      (bits v.toNat 21 3 ≤ 5) ∧ (s.srcOwner (104 + bits v.toNat 25 2) = s.owner tblLoop n) ∧
      (ok = (decide (1 ≤ c) && (List.range (bits v.toNat 16 4)).all (fun p => decide (1 ≤ bits (s.stageCfg n (s.get (CTRL.FIRST n) + p) 16) 0 3) &&
      decide (bits (s.stageCfg n (s.get (CTRL.FIRST n) + p) 16) 0 3 ≤ 5) && (usedOperands (s.stageCfg n (s.get (CTRL.FIRST n) + p) 16) (s.stageCfg n
      (s.get (CTRL.FIRST n) + p) 17)).all (fun o => s.operandOk n c o)) && (!bit v.toNat 20 || s.owner tblPair (bits v.toNat 21 3) == s.owner tblLoop
      n)))) (State.withRam ((looped 15 0x0F)) ram65) (.hart 0) (15) (0x10000) (1) (false)) ∧
    ((fun (s : State) (m : Master) (n : Fin 16) (v : Word) => (s.admits m 0x18 (0x100 + 0x10 * n) true) ∧ (s.on (CTRL.EN n) = true) ∧
      (bits v.toNat 8 6 = s.get (CTRL.FIRST n)) ∧
      (bits v.toNat 16 4 = s.get (CTRL.COUNT n))) (State.withRam ((looped 15 0x10 |>.put (CTRL.EN 15) 1 |>.put (CTRL.OUT_EN 15) 1 |>.put
      (CTRL.OUT_PAIR 15) 5 |>.put (CTRL.HELD 15) 1)) ram64) (.hart 0) (15) (0x310000)) ∧
    ((fun (s : State) (m : Master) (n : Fin 16) (v : Word) (ok : Bool) => (s.admits m 0x18 (0x100 + 0x10 * n) true) ∧ (s.on (CTRL.EN n) = false) ∧
      (bit v.toNat 0 = false) ∧ (bits v.toNat 16 4 ≤ 8) ∧
      (ok = (bits v.toNat 16 4 == 0 || (decide (bits v.toNat 8 6 + bits v.toNat 16 4 ≤ 64) && (List.range 16).all (fun k => k == n.val || s.get
      (CTRL.COUNT k) == 0 || decide (bits v.toNat 8 6 + bits v.toNat 16 4 ≤ s.get (CTRL.FIRST k)) || decide (s.get (CTRL.FIRST k) + s.get (CTRL.COUNT
      k) ≤ bits v.toNat 8 6))))) ∧ (¬(bits v.toNat 8 6 = s.get (CTRL.FIRST n) ∧
      bits v.toNat 16 4 = s.get (CTRL.COUNT n)))) (State.reset) (.hart 0) (15) (0x23E00) (true)) ∧
    ((fun (s : State) (m : Master) (n : Fin 16) (v : Word) (ok : Bool) => (s.admits m 0x18 (0x100 + 0x10 * n) true) ∧ (s.on (CTRL.EN n) = false) ∧
      (bit v.toNat 0 = false) ∧ (bits v.toNat 16 4 ≤ 8) ∧
      (ok = (bits v.toNat 16 4 == 0 || (decide (bits v.toNat 8 6 + bits v.toNat 16 4 ≤ 64) && (List.range 16).all (fun k => k == n.val || s.get
      (CTRL.COUNT k) == 0 || decide (bits v.toNat 8 6 + bits v.toNat 16 4 ≤ s.get (CTRL.FIRST k)) || decide (s.get (CTRL.FIRST k) + s.get (CTRL.COUNT
      k) ≤ bits v.toNat 8 6))))) ∧ (¬(bits v.toNat 8 6 = s.get (CTRL.FIRST n) ∧
      bits v.toNat 16 4 = s.get (CTRL.COUNT n)))) (State.reset) (.hart 0) (15) (0x33E00) (false)) ∧
    ((fun (s : State) (m : Master) (n : Fin 16) (v : Word) => (s.admits m 0x18 (0x100 + 0x10 * n) true) ∧ (s.on (CTRL.EN n) = true) ∧
      (bit v.toNat 0 = true)) ((State.reset.put (CTRL.EN 15) 1)) (.hart 0) (15) (0x23E01)) :=
  by refine ⟨?_, ?_, ?_, ?_, ?_, ?_⟩ <;> decide +kernel

/-- The hypotheses of Obligations.LoopSamples, clauses 1 to 9 that have any, are met. -/
theorem test_hyp_LoopSamples :
    ((fun (s : State) (n : Fin 16) => (s.sinkReady (8 + n)) ∧ (s.up .control = true) ∧ (s.on (CTRL.EN n) = true) ∧ (s.ctl.samples = []) ∧
  (s.ctl.stage = none) ∧ (1 ≤ s.get (CTRL.COUNT n))) (State.withRam ((looped 15 0x10 |>.put (CTRL.EN 15) 1)) ram64) (15)) ∧
    ((fun (s : State) (n : Fin 16) (k : Fin 16) => (s.sinkReady (8 + n)) ∧ (s.up .control = true) ∧ (s.on (CTRL.EN n) = true) ∧
      (s.ctl.stage = some k.val) ∧ (s.sampleAt n = none)) (State.withRam ((sampling 3 ⟨[], [], [], some (1, 2, 3, false)⟩ |>.put (CTRL.EN 15) 1))
      ram64) (15) (3)) ∧
    ((fun (s : State) (n : Fin 16) (x : Sample) => (s.sinkReady (8 + n)) ∧ (s.up .control = true) ∧ (s.on (CTRL.EN n) = true) ∧
      (s.sampleAt n = some x) ∧ (s.on (CTRL.HELD n) = false)) (State.withRam ((sampling 3 ⟨[], [], [], none⟩)) ram64) (3) (⟨[], [], [], none⟩)) ∧
    ((fun (s : State) (n : Fin 16) (x : Sample) => (s.sinkReady (8 + n)) ∧ (s.up .control = true) ∧ (s.on (CTRL.EN n) = true) ∧
      (s.sampleAt n = some x) ∧ (s.on (CTRL.HELD n) = true)) (State.withRam ((sampling 3 ⟨[], [], [], none⟩ |>.put (CTRL.HELD 3) 1)) ram64) (3) (⟨[],
      [], [], none⟩)) ∧
    ((fun (s : State) (n : Fin 16) => (s.sinkReady (8 + n)) ∧ (s.up .control = true) ∧ (s.on (CTRL.EN n) = false)) (State.reset) (3)) ∧
    ((fun (s : State) (n : Fin 16) => (s.alive = true) ∧ (s.power.mode ≠ .calm) ∧
      (s.island .control = .stopped)) (({ State.reset with power := { State.reset.power with mode := .lull, islands := Vector.replicate 7 .stopped } })) (3)) ∧
    ((fun (s : State) (n : Fin 16) => (s.alive = true) ∧ ((s.power.mode = .calm ∨ s.island .control = .off ∨ s.island .control = .powering ∨
      s.island .control = .lost))) (({ State.reset with power := { State.reset.power with islands := Vector.replicate 7 .off } })) (3)) ∧
    ((fun (s : State) (n : Fin 16) => (s.alive = false)) (({ State.reset with power := { State.reset.power with mode := .off } })) (3)) ∧
    ((fun (s : State) (n : Fin 16) (u : Upset) (x : Sample) (y : Int) (s0 : Int) (s1 : Int) (w : Bool) (p : Nat) => (s.up .control = true) ∧
      (s.ctl.stage = some n.val) ∧ (s.ctl.samples = [(n.val, x)]) ∧ (x.run = some (y, s0, s1, w)) ∧ (p = x.outs.length) ∧ (u.ecc = false) ∧
      (s.stageEcc n p = none) ∧ (p < 8)) (State.withRam ((sampling 3 ⟨[], [], [], some (1, 2, 3, true)⟩)) ram64) (3) (Upset.none) (⟨[], [], [], some
      (1, 2, 3, true)⟩) (1) (2) (3) (true) (0)) :=
  by refine ⟨?_, ?_, ?_, ?_, ?_, ?_, ?_, ?_, ?_⟩ <;> decide +kernel

/-- The hypotheses of Obligations.LoopSamples, clauses 10 to 18 that have any, are met. -/
theorem test_hyp_LoopSamples_2 :
    ((fun (s : State) (n : Fin 16) (u : Upset) (x : Sample) (y : Int) (s0 : Int) (s1 : Int) (w : Bool) (p : Nat) => (s.up .control = true) ∧
  (s.ctl.stage = some n.val) ∧ (s.ctl.samples = [(n.val, x)]) ∧ (x.run = some (y, s0, s1, w)) ∧ (p = x.outs.length) ∧ (u.ecc = false) ∧
  (s.stageEcc n p = none) ∧ (p < 8)) (State.withRam ((sampling 3 ⟨[], [], [], some (1, 2, 3, true)⟩ |>.put (CTRL.COUNT 3) 2)) ram64) (3) (Upset.none)
  (⟨[], [], [], some (1, 2, 3, true)⟩) (1) (2) (3) (true) (0)) ∧
    ((fun (s : State) (n : Fin 16) (u : Upset) (x : Sample) (y : Int) (s0 : Int) (s1 : Int) (w : Bool) (p : Nat) (a : Nat) => (s.up .control = true)
      ∧ (s.ctl.stage = some n.val) ∧ (s.ctl.samples = [(n.val, x)]) ∧ (x.run = some (y, s0, s1, w)) ∧ (p = x.outs.length) ∧
      ((s.stageEcc n p = some a ∨ s.stageEcc n p = none ∧ u.ecc = true ∧ a = stageWord (s.get (CTRL.FIRST n) + p) 16)) ∧
      (s.on (CTRL.HELD n) = false)) (State.withRam ((sampling 3 ⟨[], [], [], some (1, 2, 3, true)⟩)) ram64) (3) ({ Upset.none with ecc := true })
      (⟨[], [], [], some (1, 2, 3, true)⟩) (1) (2) (3) (true) (0) (stageWord 0 16)) ∧
    ((fun (s : State) (u : Upset) => ((s.up .control = false ∨ s.ctl.stage = none))) (State.reset) (Upset.none)) ∧
    ((fun (s : State) (n : Fin 16) (x : Sample) (c : Nat) (f : Nat) (e : Int) (y : Int) => (s.up .control = true) ∧ (s.ctl.samples = [(n.val, x)]) ∧
      (c = s.get (CTRL.COUNT n)) ∧ (1 ≤ c) ∧ (c ≤ 8) ∧ (c ≤ x.outs.length) ∧ (f = s.get (CTRL.FIRST n)) ∧ (f + c ≤ 64) ∧
      (s.on (CTRL.HELD n) = false) ∧ (s.unheard (0x60 + n)) ∧ (y = x.outs.getD (c - 1) 0) ∧
      (e = s.stageExp n (f + c - 1))) (State.withRam ((sampling 3 ⟨[5, 700], [5, 2], [6, 3], none⟩ |>.put (CTRL.COUNT 3) 2 |>.put (CTRL.OUT_EN 3) 1
      |>.setWord 0 (stageWord 0 16) 5 |>.setWord 0 (stageWord 1 16) 3)) ram66) (3) (⟨[5, 700], [5, 2], [6, 3], none⟩) (2) (0) (0) (700)) ∧
    ((fun (s : State) (n : Fin 16) (k : Fin 6) (v : Int) => (s.pending = []) ∧ (s.power.mode ≠ .off) ∧ (s.power.phase ≠ .entering) ∧
      (s.power.coarse = false) ∧ (s.up .time = true) ∧ (s.up .control = true) ∧
      (s.ctl.out = [(k.val, (n.val, v))])) (({ State.reset with ctl := { State.reset.ctl with out := [(5, (3, -7))] } })) (3) (5) (-7)) ∧
    ((fun (s : State) (n : Fin 16) (k : Fin 6) (v : Int) => (s.pending = []) ∧ (s.power.mode ≠ .off) ∧ (s.power.phase ≠ .entering) ∧
      (s.power.coarse = false) ∧ (s.up .time = true) ∧ (s.up .control = true) ∧
      (s.ctl.out = [(k.val, (n.val, v))])) (({ State.reset with owners := [(256 * tblPair + 5, 1)], ctl := { State.reset.ctl with out := [(5, (3, 9))] } })) (3) (5) (9)) ∧
    ((fun (s : State) (n : Fin 16) => ((s.up .control = false ∨ s.sampleAt n = none ∨
      (s.sampleAt n).any (fun x => decide (x.outs.length < s.get (CTRL.COUNT n))) = true))) (State.reset) (3)) ∧
    ((fun (s : State) (n : Fin 16) (x : Sample) => (s.up .control = true) ∧ (s.ctl.samples = [(n.val, x)]) ∧ (s.on (CTRL.HELD n) = false) ∧
      ((s.ctl.stage = some n.val ∨ s.ctl.stage = none))) (State.withRam ((sampling 3 ⟨[], [], [], some (1, 2, 3, true)⟩)) ram64) (3) (⟨[], [], [],
      some (1, 2, 3, true)⟩)) ∧
    ((fun (s : State) (n : Fin 16) => ((s.up .control = false ∨ s.sampleAt n = none))) (State.reset) (3)) :=
  by refine ⟨?_, ?_, ?_, ?_, ?_, ?_, ?_, ?_, ?_⟩ <;> decide +kernel

/-- The hypotheses of Obligations.AdcSequences, clauses 1 to 8 that have any, are met. -/
theorem test_hyp_AdcSequences :
    ((fun (s : State) => (s.sinkReady 0x18) ∧ (s.up .control = true) ∧ (s.on ADC.A_BUSY = false)) (State.reset)) ∧
    ((fun (s : State) => (s.sinkReady 0x18) ∧ (s.up .control = true) ∧ (s.on ADC.A_BUSY = true)) ((State.reset.put ADC.A_BUSY 1))) ∧
    ((fun (s : State) => (s.alive = true) ∧ (s.power.mode ≠ .calm) ∧ (s.island .control = .stopped) ∧
      (s.on (EVF.S_PEND 0x18) = false)) (({ State.reset with power := { State.reset.power with mode := .lull, islands := Vector.replicate 7 .stopped } }))) ∧
    ((fun (s : State) => (s.alive = true) ∧ (s.power.mode ≠ .calm) ∧
      (s.island .control = .off)) (({ State.reset with power := { State.reset.power with islands := Vector.replicate 7 .off } }))) ∧
    ((fun (s : State) (m : Master) => (s.admits m 0x19 0x10 true) ∧ (s.on ADC.A_START = false) ∧
      (s.powered .control = true)) (State.reset) (.hart 0)) ∧
    ((fun (s : State) (m : Master) => (s.admits m 0x19 0x10 true) ∧ (s.on ADC.A_START = false) ∧
      (s.powered .control = true)) ((State.reset.put ADC.A_BUSY 1)) (.hart 0)) ∧
    ((fun (s : State) (ain : List Int) (k : Nat) => (s.up .control = true) ∧ (s.ctl.adcA = some k) ∧ (k ≤ s.get ADC.A_LEN) ∧
      (s.get (ADC.A_ENTRY k) ≤ 5)) (({ State.reset.put ADC.A_LEN 7 with ctl := { State.reset.ctl with adcA := some 7 } })) ([1650000, 1, 2, 3, 4, 5])
      (7)) ∧
    ((fun (s : State) (ain : List Int) => ((s.up .control = false ∨ s.ctl.adcA = none ∨
      s.ctl.adcA.any (fun k => decide (s.get ADC.A_LEN < k)) = true))) (State.reset) ([1, 2, 3, 4, 5, 6])) :=
  by refine ⟨?_, ?_, ?_, ?_, ?_, ?_, ?_, ?_⟩ <;> decide +kernel

/-- The hypotheses of Obligations.AdcSequences, clauses 9 to 16 that have any, are met. -/
theorem test_hyp_AdcSequences_2 :
    ((fun (s : State) (k : Nat) => (s.up .control = true) ∧ (s.ctl.adcA = some k) ∧ (s.get ADC.A_LEN < k) ∧
  (s.unheard 0x50)) (({ (State.reset.put ADC.A_LEN 7).put ADC.A_BUSY 1 with ctl := { State.reset.ctl with adcA := some 8 } })) (8)) ∧
    ((fun (s : State) => ((s.up .control = false ∨ s.ctl.adcA = none ∨
      s.ctl.adcA.any (fun k => decide (k ≤ s.get ADC.A_LEN)) = true))) (State.reset)) ∧
    ((fun (s : State) => (s.sinkReady 0x19) ∧ (s.up .ao = true)) (State.reset)) ∧
    ((fun (s : State) => (s.sinkReady 0x19) ∧ (s.up .ao = true)) ((State.reset.put ADC.B_BUSY 1))) ∧
    ((fun (s : State) => (s.sinkReady 0x19) ∧ (s.up .ao = true)) ((State.reset.put ADC.BG_ACTIVE 1))) ∧
    ((fun (s : State) (m : Master) => (s.admits m 0x19 0x40 true) ∧ (s.on ADC.B_START = false) ∧ (s.on ADC.B_BUSY = false) ∧
      (s.on ADC.BG_ACTIVE = false)) (State.reset) (.hart 0)) ∧
    ((fun (s : State) (v : AdcbInputs) (k : Nat) (e : Nat) (d : Nat) (x : Int) => (s.up .ao = true) ∧ (s.supply.sampleDue = false ∨
      s.supply.inputOpen = true ∨ s.on ADC.B_BUSY = true ∧ s.supply.gaugeConv = false) ∧ (s.ctl.adcB = some k) ∧ (k ≤ s.get ADC.B_LEN) ∧
      (e = s.get (ADC.B_ENTRY k)) ∧ ((e ≤ 5 ∧ x = v.ain.getD e 0 ∧ d = 1 ∨ e = 8 ∧ x = v.vbat ∧ d = 16 ∨ e = 9 ∧ x = v.vstore ∧ d = 2 ∨ e = 10 ∧
      x = v.vharv ∧ d = 2 ∨ e = 11 ∧ x = v.viso ∧ d = 4 ∨ e = 12 ∧ x = 1200000 ∧
      d = 1))) (({ State.reset.put ADC.B_LEN 7 with ctl := { State.reset.ctl with adcB := some 7 } })) (⟨[-5, 1, 2, 3, 4, 5], 0, 0, 0, 0⟩) (7) (0)
      (1) (-5)) ∧
    ((fun (s : State) (v : AdcbInputs) (k : Nat) (e : Nat) (d : Nat) (x : Int) => (s.up .ao = true) ∧ (s.supply.sampleDue = false ∨
      s.supply.inputOpen = true ∨ s.on ADC.B_BUSY = true ∧ s.supply.gaugeConv = false) ∧ (s.ctl.adcB = some k) ∧ (k ≤ s.get ADC.B_LEN) ∧
      (e = s.get (ADC.B_ENTRY k)) ∧ ((e ≤ 5 ∧ x = v.ain.getD e 0 ∧ d = 1 ∨ e = 8 ∧ x = v.vbat ∧ d = 16 ∨ e = 9 ∧ x = v.vstore ∧ d = 2 ∨ e = 10 ∧
      x = v.vharv ∧ d = 2 ∨ e = 11 ∧ x = v.viso ∧ d = 4 ∨ e = 12 ∧ x = 1200000 ∧
      d = 1))) (({ (State.reset.put ADC.B_LEN 7).put (ADC.B_ENTRY 7) 8 with ctl := { State.reset.ctl with adcB := some 7 } })) (⟨[-5, 1, 2, 3, 4, 5],
      12000000, 0, 0, 0⟩) (7) (8) (16) (12000000)) :=
  by refine ⟨?_, ?_, ?_, ?_, ?_, ?_, ?_, ?_⟩ <;> decide +kernel

/-- The hypotheses of Obligations.AdcSequences, clauses 17 to 22 that have any, are met. -/
theorem test_hyp_AdcSequences_3 :
    ((fun (s : State) (v : AdcbInputs) (k : Nat) (e : Nat) (d : Nat) (x : Int) => (s.up .ao = true) ∧ (s.supply.sampleDue = false ∨
  s.supply.inputOpen = true ∨ s.on ADC.B_BUSY = true ∧ s.supply.gaugeConv = false) ∧ (s.ctl.adcB = some k) ∧ (k ≤ s.get ADC.B_LEN) ∧
  (e = s.get (ADC.B_ENTRY k)) ∧ ((e ≤ 5 ∧ x = v.ain.getD e 0 ∧ d = 1 ∨ e = 8 ∧ x = v.vbat ∧ d = 16 ∨ e = 9 ∧ x = v.vstore ∧ d = 2 ∨ e = 10 ∧
  x = v.vharv ∧ d = 2 ∨ e = 11 ∧ x = v.viso ∧ d = 4 ∨ e = 12 ∧ x = 1200000 ∧
  d = 1))) (({ (State.reset.put ADC.B_LEN 7).put (ADC.B_ENTRY 0) 12 with ctl := { State.reset.ctl with adcB := some 0 } })) (⟨[-5, 1, 2, 3, 4, 5], 0,
  0, 0, 0⟩) (0) (12) (1) (1200000)) ∧
    ((fun (s : State) (v : AdcbInputs) => (s.up .ao = true) ∧ (s.supply.sampleDue = true) ∧ (s.supply.inputOpen = false) ∧
      ((s.on ADC.B_BUSY = false ∨ s.supply.gaugeConv = true)) ∧ ((s.on SUPPLY.GAUGE_EN = false ∨ s.supply.inBand = false ∨
      s.supply.restElapsed = false))) (({ State.reset with supply := { State.reset.supply with sampleDue := true, inputOpen := false } })) (⟨[0, 0,
      0, 0, 0, 0], 0, 2500000, 0, 0⟩)) ∧
    ((fun (s : State) (v : AdcbInputs) => (s.up .ao = true) ∧ (s.supply.sampleDue = true) ∧ (s.supply.inputOpen = false) ∧
      ((s.on ADC.B_BUSY = false ∨ s.supply.gaugeConv = true)) ∧ (s.on SUPPLY.GAUGE_EN = true) ∧ (s.supply.inBand = true) ∧
      (s.supply.restElapsed = true)) (({ State.reset.put SUPPLY.GAUGE_EN 1 with supply := { State.reset.supply with sampleDue := true, inputOpen := false, inBand := true, restElapsed := true } })) (⟨[0, 0, 0, 0, 0, 0], 0, 2500000, 0, 0⟩)) ∧
    ((fun (s : State) (k : Nat) => (s.up .ao = true) ∧ (s.ctl.adcB = some k) ∧ (s.get ADC.B_LEN < k) ∧
      (s.unheard 0x51)) (({ (State.reset.put ADC.B_LEN 7).put ADC.B_BUSY 1 with ctl := { State.reset.ctl with adcB := some 8 } })) (8)) ∧
    ((fun (s : State) => (s.up .ao = true) ∧ (s.on ADC.B_BUSY = true) ∧ ((s.supply.mpptDue = true ∨
      s.supply.sampleDue = true))) (({ State.reset.put ADC.B_BUSY 1 with supply := { State.reset.supply with sampleDue := true }, ctl := { State.reset.ctl with adcB := some 3 } }))) ∧
    ((fun (s : State) (v : AdcbInputs) => (s.ctl.adcB = none) ∧ (s.supply.sampleDue = false) ∧
      (s.supply.mpptDue = false)) (({ State.reset with supply := { State.reset.supply with sampleDue := false, mpptDue := false } })) (⟨[0, 0, 0, 0,
      0, 0], 0, 0, 0, 0⟩)) :=
  by refine ⟨?_, ?_, ?_, ?_, ?_, ?_⟩ <;> decide +kernel

/-- The hypotheses of Obligations.PwmPairs, clauses 1 to 7 that have any, are met. -/
theorem test_hyp_PwmPairs :
    ((fun (s : State) (k : Fin 6) => (s.up .control = true) ∧ (s.on (PWM.RUN k) = true) ∧
  (s.unheard (0x40 + k))) ((State.reset.put (PWM.RUN 5) 1 |>.put (PWM.CMP 5) 10001)) (5)) ∧
    ((fun (s : State) (k : Fin 6) (p : Nat) => (s.up .control = true) ∧ (s.on (PWM.RUN k) = true) ∧ (Table.find s.ctl.per k = some p) ∧ (p < 65536) ∧
      (s.unheard (0x48 + k))) ((State.reset.put (PWM.RUN 5) 1 |> fun s => { s with ctl := { s.ctl with per := [(5, 9)] } })) (5) (9)) ∧
    ((fun (s : State) (k : Fin 6) => ((s.up .control = false ∨ s.on (PWM.RUN k) = false))) (State.reset) (5)) ∧
    ((fun (s : State) (m : Master) (k : Fin 6) (v : Word) => (s.admits m 0x1A (0x100 + 0x20 * k) true) ∧ (s.on (PWM.CLR k) = false) ∧
      (bit v.toNat 3 = false) ∧ (bit v.toNat 0 = true) ∧ (s.on (PWM.RUN k) = false) ∧ (s.unheard (0x40 + k))) (State.reset) (.hart 0) (5) (0x30007)) ∧
    ((fun (s : State) (m : Master) (k : Fin 6) (v : Word) => (s.admits m 0x1A (0x100 + 0x20 * k) true) ∧ (s.on (PWM.CLR k) = false) ∧
      (bit v.toNat 3 = false) ∧ (bit v.toNat 0 = false)) ((State.reset.put (PWM.RUN 5) 1)) (.hart 0) (5) (0x30006)) ∧
    ((fun (s : State) (m : Master) (k : Fin 6) (v : Word) => (s.admits m 0x1A (0x100 + 0x20 * k) true) ∧ (s.on (PWM.CLR k) = false) ∧
      (bit v.toNat 3 = false) ∧ (bit v.toNat 0 = false)) (State.reset) (.hart 0) (5) (0x30006)) ∧
    ((fun (s : State) (m : Master) (k : Fin 6) (v : Word) => (s.admits m 0x1A (0x100 + 0x20 * k) true) ∧ (s.on (PWM.CLR k) = false) ∧
      (bit v.toNat 3 = false) ∧ (bit v.toNat 0 = true) ∧ (s.on (PWM.RUN k) = true)) ((State.reset.put (PWM.RUN 5) 1)) (.hart 0) (5) (0x30007)) :=
  by refine ⟨?_, ?_, ?_, ?_, ?_, ?_, ?_⟩ <;> decide +kernel

/-- The hypotheses of Obligations.PwmPairs, clauses 8 to 14 that have any, are met. -/
theorem test_hyp_PwmPairs_2 :
    ((fun (s : State) (m : Master) (k : Fin 6) => (s.admits m 0x1A (0x100 + 0x20 * k) true) ∧
  (s.on (PWM.CLR k) = false)) ((State.reset.put (PWM.LATCHED 5) 1)) (.hart 0) (5)) ∧
    ((fun (s : State) (k : Fin 6) => (s.sinkReady (0x1A + k)) ∧ (s.up .control = true)) (State.reset) (5)) ∧
    ((fun (s : State) (k : Fin 6) => (s.alive = true) ∧ (s.power.mode ≠ .calm) ∧ (s.island .control = .stopped) ∧
      (s.on (EVF.S_PEND (0x1A + k)) = false)) (({ State.reset with power := { State.reset.power with mode := .lull, islands := Vector.replicate 7 .stopped } })) (5)) ∧
    ((fun (s : State) (k : Fin 6) => (s.alive = true) ∧ (s.power.mode ≠ .calm) ∧
      (s.island .control = .off)) (({ State.reset with power := { State.reset.power with islands := Vector.replicate 7 .off } })) (5)) ∧
    ((fun (s : State) => (s.alive = true) ∧ (s.fab.vio = true) ∧ (s.unheard 0x1E)) ((State.reset.put (PWM.RUN 5) 1))) ∧
    ((fun (s : State) => (s.alive = true) ∧ (s.fab.vio = true) ∧ (s.unheard 0x1E)) ((State.reset.put PWM.FAULT_IN 1))) ∧
    ((fun (s : State) => ((s.alive = false ∨ s.fab.vio = false))) (({ State.reset with fab := { State.reset.fab with vio := false } }))) :=
  by refine ⟨?_, ?_, ?_, ?_, ?_, ?_, ?_⟩ <;> decide +kernel

/-- The hypotheses of Obligations.ToothEdges are met. -/
theorem test_hyp_ToothEdges :
    ((fun (s : State) (m : Master) (c : Fin 4) (v : Word) => (s.admits m 0x1B (0x100 + 0x80 * c) true)) (State.reset) (.hart 0) (3) (0x06C8010B)) ∧
    ((fun (s : State) (c : Fin 4) (r : Bool) (age : Nat) (i : Nat) (u : Nat) => (s.fab.vio = true) ∧ (s.up .control = true) ∧
      (s.on (TOOTH.EN c) = true) ∧ (bit (s.get (TOOTH.EDGE c)) (if r then 0 else 1) = true) ∧ (2 * s.get (TOOTH.FILT c) ≤ age) ∧
      (s.get (TOOTH.STATE c) = 1) ∧ ((∀ j : Fin 8, s.on (TOOTH.S_ARMED c j) = false)) ∧ (u = (s.toothTime + 2 ^ 32 - age % 2 ^ 32) % 2 ^ 32) ∧
      (i = (u + 2 ^ 32 - (s.tooth? c).last % 2 ^ 32) % 2 ^ 32)) ((toothed 1 |> fun s => s.modTooth 3 (fun x => { x with seen := true }))) (3) (true)
      (5) (85) (95)) ∧
    ((fun (s : State) (c : Fin 4) (r : Bool) (age : Nat) (i : Nat) (u : Nat) => (s.fab.vio = true) ∧ (s.up .control = true) ∧
      (s.on (TOOTH.EN c) = true) ∧ (bit (s.get (TOOTH.EDGE c)) (if r then 0 else 1) = true) ∧ (2 * s.get (TOOTH.FILT c) ≤ age) ∧
      (s.get (TOOTH.STATE c) = 2) ∧ (s.get (TOOTH.LAST_SYN c) = 0) ∧ (u = (s.toothTime + 2 ^ 32 - age % 2 ^ 32) % 2 ^ 32) ∧
      (i = (u + 2 ^ 32 - (s.tooth? c).last % 2 ^ 32) % 2 ^ 32) ∧
      (i < s.get (TOOTH.ACC_LO c) * s.get (TOOTH.PRED c) / 16)) ((toothed 2 |>.put (TOOTH.PRED 3) 1000)) (3) (true) (5) (85) (95)) ∧
    ((fun (s : State) (c : Fin 4) (r : Bool) (age : Nat) (i : Nat) (u : Nat) => (s.fab.vio = true) ∧ (s.up .control = true) ∧
      (s.on (TOOTH.EN c) = true) ∧ (bit (s.get (TOOTH.EDGE c)) (if r then 0 else 1) = true) ∧ (2 * s.get (TOOTH.FILT c) ≤ age) ∧
      (s.get (TOOTH.STATE c) = 2) ∧ (s.get (TOOTH.LAST_SYN c) = 0) ∧ ((∀ j : Fin 8, s.on (TOOTH.S_ARMED c j) = false)) ∧
      (u = (s.toothTime + 2 ^ 32 - age % 2 ^ 32) % 2 ^ 32) ∧ (i = (u + 2 ^ 32 - (s.tooth? c).last % 2 ^ 32) % 2 ^ 32) ∧
      (s.get (TOOTH.ACC_LO c) * s.get (TOOTH.PRED c) / 16 ≤ i)) ((toothed 2 |>.put (TOOTH.PRED 3) 80)) (3) (true) (5) (85) (95)) ∧
    ((fun (s : State) (c : Fin 4) (r : Bool) (age : Nat) (i : Nat) (u : Nat) => (s.fab.vio = true) ∧ (s.up .control = true) ∧
      (s.on (TOOTH.EN c) = true) ∧ (bit (s.get (TOOTH.EDGE c)) (if r then 0 else 1) = true) ∧ (2 * s.get (TOOTH.FILT c) ≤ age) ∧
      (s.get (TOOTH.STATE c) = 2) ∧ (s.get (TOOTH.LAST_SYN c) = 1) ∧ (u = (s.toothTime + 2 ^ 32 - age % 2 ^ 32) % 2 ^ 32) ∧
      (i = (u + 2 ^ 32 - (s.tooth? c).last % 2 ^ 32) % 2 ^ 32) ∧
      (i < s.get (TOOTH.ACC_LO c) * s.get (TOOTH.PRED c) / 16)) ((toothed 2 |>.put (TOOTH.PRED 3) 1000 |>.put (TOOTH.LAST_SYN 3) 1)) (3) (true) (5)
      (85) (95)) ∧
    ((fun (s : State) (c : Fin 4) (r : Bool) (age : Nat) (u : Nat) => (s.fab.vio = true) ∧ (s.up .control = true) ∧ (s.on (TOOTH.EN c) = true) ∧
      (bit (s.get (TOOTH.EDGE c)) (if r then 0 else 1) = true) ∧ (2 * s.get (TOOTH.FILT c) ≤ age) ∧ (s.get (TOOTH.STATE c) = 3) ∧
      ((∀ j : Fin 8, s.on (TOOTH.S_ARMED c j) = false)) ∧ (u = (s.toothTime + 2 ^ 32 - age % 2 ^ 32) % 2 ^ 32)) ((toothed 3)) (3) (true) (5) (95)) ∧
    ((fun (s : State) (c : Fin 4) (r : Bool) (age : Nat) => ((s.fab.vio = false ∨ s.up .control = false ∨ s.on (TOOTH.EN c) = false ∨
      bit (s.get (TOOTH.EDGE c)) (if r then 0 else 1) = false ∨ age < 2 * s.get (TOOTH.FILT c)))) (State.reset) (3) (false) (0)) ∧
    ((fun (s : State) (c : Fin 4) (far : Nat) => (s.up .control = true) ∧ (s.get (TOOTH.STATE c) = 2) ∧
      (far = s.get (TOOTH.MISS c) * s.get (TOOTH.PRED c) / 8) ∧ (far ≤ (s.toothTime % 2 ^ 32 + 2 ^ 32 - (s.tooth? c).last % 2 ^ 32) % 2 ^ 32) ∧
      (s.get (TOOTH.SYN_RUN c) < s.get (TOOTH.MAXSYN c)) ∧
      ((∀ j : Fin 8, s.on (TOOTH.S_ARMED c j) = false))) ((toothed 2 |>.put (TOOTH.PRED 3) 40)) (3) (60)) ∧
    ((fun (s : State) (c : Fin 4) => (s.up .control = true) ∧ (s.get (TOOTH.STATE c) = 2) ∧
      (s.get (TOOTH.MISS c) * s.get (TOOTH.PRED c) / 8 ≤ (s.toothTime % 2 ^ 32 + 2 ^ 32 - (s.tooth? c).last % 2 ^ 32) % 2 ^ 32) ∧
      (s.get (TOOTH.MAXSYN c) ≤ s.get (TOOTH.SYN_RUN c)) ∧
      ((∀ j : Fin 8, s.on (TOOTH.S_ARMED c j) = false))) ((toothed 2 |>.put (TOOTH.PRED 3) 40 |>.put (TOOTH.SYN_RUN 3) 3)) (3)) ∧
    ((fun (s : State) (c : Fin 4) => ((s.up .control = false ∨ s.get (TOOTH.STATE c) ≠ 2))) (State.reset) (3)) :=
  by refine ⟨?_, ?_, ?_, ?_, ?_, ?_, ?_, ?_, ?_, ?_⟩ <;> decide +kernel

/-- The hypotheses of Obligations.ToothSchedules are met. -/
theorem test_hyp_ToothSchedules :
    ((fun (s : State) (m : Master) (c : Fin 4) (j : Fin 8) (v : Word) (d : Int) => (s.admits m 0x1B (0x144 + 0x80 * c + 8 * j) true) ∧
  (s.on (TOOTH.S_ARM c j) = false) ∧ (bits v.toNat 16 16 < 32768) ∧ (bit v.toNat 1 = false) ∧ (bit v.toNat 9 = false) ∧
  (d = toSigned 16 (s.get (TOOTH.COUNT c) + 2 ^ 16 - s.get (TOOTH.TARGET c j) / 65536)) ∧
  ((if s.on (TOOTH.DIR c) then 0 < d else d < 0))) ((toothed 2 |>.put (TOOTH.TARGET 3 7) 0x30000)) (.hart 0) (3) (7) (0x50000) (-3)) ∧
    ((fun (s : State) (m : Master) (c : Fin 4) (j : Fin 8) (v : Word) (d : Int) => (s.admits m 0x1B (0x144 + 0x80 * c + 8 * j) true) ∧
      (s.on (TOOTH.S_ARM c j) = false) ∧ (bits v.toNat 16 16 < 32768) ∧ (bit v.toNat 1 = false) ∧ (bit v.toNat 9 = false) ∧
      (d = toSigned 16 (s.get (TOOTH.COUNT c) + 2 ^ 16 - s.get (TOOTH.TARGET c j) / 65536)) ∧ ((if s.on (TOOTH.DIR c) then d ≤ 0 else 0 ≤ d)) ∧
      (s.unheard (0x70 + c))) ((toothed 2)) (.hart 0) (3) (7) (0x50000) (0)) ∧
    ((fun (s : State) (c : Fin 4) (j : Fin 8) => (s.up .control = true) ∧ (s.on (TOOTH.S_ARMED c j) = true) ∧ (s.scheduleReached c j = true) ∧
      ((s.on (TOOTH.S_MODE c j) = true ∨ (Table.find (s.tooth? c).due j.val).isSome = true)) ∧
      (s.unheard (0x70 + c))) ((toothed 2 |>.put (TOOTH.S_ARMED 3 7) 1 |>.put (TOOTH.S_STEP 3 7) 5 |> fun s => s.modTooth 3 (fun x =>
      { x with due := [(7, ())] }))) (3) (7)) ∧
    ((fun (s : State) (c : Fin 4) (j : Fin 8) (d : Int) => (s.up .control = true) ∧ (s.on (TOOTH.S_ARMED c j) = true) ∧
      (s.on (TOOTH.S_MODE c j) = true) ∧ (s.get (TOOTH.STATE c) = 2) ∧ (0 < s.get (TOOTH.PRED c)) ∧ (s.on (TOOTH.DIR c) = false) ∧
      (s.unheard (0x70 + c)) ∧ (d = toSigned 32 (s.get (TOOTH.COUNT c) * 65536 + min 65535 (65536 * ((s.toothTime % 2 ^ 32 + 2 ^ 32 - (s.tooth?
      c).last % 2 ^ 32) % 2 ^ 32) / s.get (TOOTH.PRED c)) + 2 ^ 32 - s.get (TOOTH.TARGET c j)))) ((toothed 2 |>.put (TOOTH.PRED 3) 1 |>.put
      (TOOTH.S_ARMED 3 7) 1 |>.put (TOOTH.S_MODE 3 7) 1)) (3) (7) (65535)) ∧
    ((fun (s : State) (c : Fin 4) (j : Fin 8) (d : Int) => (s.up .control = true) ∧ (s.on (TOOTH.S_ARMED c j) = true) ∧
      (s.on (TOOTH.S_MODE c j) = true) ∧ (s.get (TOOTH.STATE c) = 2) ∧ (0 < s.get (TOOTH.PRED c)) ∧ (s.on (TOOTH.DIR c) = false) ∧
      (s.unheard (0x70 + c)) ∧ (d = toSigned 32 (s.get (TOOTH.COUNT c) * 65536 + min 65535 (65536 * ((s.toothTime % 2 ^ 32 + 2 ^ 32 - (s.tooth?
      c).last % 2 ^ 32) % 2 ^ 32) / s.get (TOOTH.PRED c)) + 2 ^ 32 - s.get (TOOTH.TARGET c j)))) ((toothed 2 |>.put (TOOTH.PRED 3) 1 |>.put
      (TOOTH.S_ARMED 3 7) 1 |>.put (TOOTH.S_MODE 3 7) 1 |>.put (TOOTH.TARGET 3 7) 0x10000)) (3) (7) (-1)) ∧
    ((fun (s : State) (c : Fin 4) (j : Fin 8) => ((s.up .control = false ∨ s.on (TOOTH.S_ARMED c j) = false ∨ s.scheduleReached c j = false ∨
      s.on (TOOTH.S_MODE c j) = false ∧ Table.find (s.tooth? c).due j.val = none))) (State.reset) (3) (7)) :=
  by refine ⟨?_, ?_, ?_, ?_, ?_, ?_⟩ <;> decide +kernel

/-- The hypotheses of Obligations.OwnershipWritesByOthers are met. -/
theorem test_hyp_OwnershipWritesByOthers :
    ((fun (s : State) (m : Master) (v : Word) (t : Nat) => (t = s.tidOf m) ∧ (t ≠ 0) ∧ (s.rst.quiescing.contains t = false) ∧
  (s.judge m t (pageAddr 5 0x1C) .write Upset.none = .go (.page 5 0x1C))) (hartUp) (.hart 1) (0x55) (1)) ∧
    ((fun (s : State) (m : Master) (v : Word) (t : Nat) (k : Fin 2) => (t = s.tidOf m) ∧ (t ≠ 0) ∧ (s.rst.quiescing.contains t = false) ∧
      (s.judge m t (pageAddr 0xE (0x10 + 4 * k)) .write Upset.none = .go (.page 0xE (0x10 + 4 * k)))) (hartUp) (.hart 2) (0x55) (2) (1)) ∧
    ((fun (s : State) (m : Master) (v : Word) (t : Nat) (p : Nat) (off : Nat) => (t = s.tidOf m) ∧ (t ≠ 0) ∧
      ((p, off) ∈ [(5, 0x18), (5, 0x1C), (0xE, 0x10), (0xE, 0x14)]) ∧ (s.rst.quiescing.contains t = false) ∧
      (s.judge m t (pageAddr p off) .write Upset.none = .go (.page p off))) (hartUp) (.hart 3) (0x55) (3) (5) (0x18)) ∧
    ((fun (s : State) (m : Master) => (s.tidOf m = 0)) (State.reset) (.hart 0)) ∧
    ((fun (s : State) (m : Master) (v : Word) (k : Fin 2) => (s.tidOf m = 0) ∧ (s.rst.quiescing.contains 0 = false) ∧
      (s.judge m 0 (pageAddr 0xE (0x10 + 4 * k)) .write Upset.none = .go (.page 0xE (0x10 + 4 * k)))) (hartUp) (.hart 0) (0x55) (1)) :=
  by refine ⟨?_, ?_, ?_, ?_, ?_⟩ <;> decide +kernel

/-- The hypotheses of Obligations.HeldTriggers are met. -/
theorem test_hyp_HeldTriggers :
    ((fun (s : State) (n : Fin 16) => (s.sinkReady (8 + n)) ∧ (s.up .control = true) ∧ (s.on (CTRL.EN n) = true) ∧ ((s.sampleAt n).isSome = true) ∧
  (s.on (CTRL.HELD n) = false)) (State.withRam ((sampling 3 ⟨[], [], [], none⟩)) ram64) (3)) ∧
    ((fun (s : State) (n : Fin 16) => (s.sinkReady (8 + n)) ∧ (s.up .control = true) ∧ (s.on (CTRL.EN n) = true) ∧ ((s.sampleAt n).isSome = true) ∧
      (s.on (CTRL.HELD n) = true)) (State.withRam ((sampling 3 ⟨[], [], [], none⟩ |>.put (CTRL.HELD 3) 1)) ram64) (3)) ∧
    ((fun (s : State) (n : Fin 16) (x : Sample) => (s.up .control = true) ∧ (s.sampleAt n = some x) ∧ (s.get (CTRL.COUNT n) ≤ x.outs.length) ∧
      (s.on (CTRL.HELD n) = true) ∧ (s.unheard (0x60 + n))) (State.withRam ((sampling 3 ⟨[5], [5], [6], none⟩ |>.put (CTRL.HELD 3) 1)) ram64) (3)
      (⟨[5], [5], [6], none⟩)) ∧
    ((fun (s : State) (n : Fin 16) => (s.up .control = true) ∧ ((s.sampleAt n).isSome = true) ∧
      (s.on (CTRL.HELD n) = true)) (State.withRam ((sampling 3 ⟨[5], [5], [6], none⟩ |>.put (CTRL.HELD 3) 1)) ram64) (3)) ∧
    ((fun (s : State) (n : Fin 16) (u : Upset) (x : Sample) => (s.up .control = true) ∧ (s.ctl.stage = some n.val) ∧ (s.sampleAt n = some x) ∧
      (x.run.isSome = true) ∧ (u.ecc = true) ∧
      (s.on (CTRL.HELD n) = true)) (State.withRam ((sampling 3 ⟨[5], [5], [6], some (1, 2, 3, true)⟩ |>.put (CTRL.HELD 3) 1)) ram64) (3)
      ({ Upset.none with ecc := true }) (⟨[5], [5], [6], some (1, 2, 3, true)⟩)) :=
  by refine ⟨?_, ?_, ?_, ?_, ?_⟩ <;> decide +kernel

/-- The hypotheses of Obligations.TransmitSequence are met. -/
theorem test_hyp_TransmitSequence :
    ((fun (s : State) (m : Master) (v : Word) => (s.admits m 0x17 0x2C true) ∧ (v.toNat < s.get LSEC.TXSEQ) ∧
  (s.get LSEC.KEY_VALID ≠ 0)) ((State.reset.put LSEC.TXSEQ 50 |>.put LSEC.KEY_VALID 4)) (.hart 0) (9)) ∧
    ((fun (s : State) (m : Master) (v : Word) => (s.admits m 0x17 0x2C true) ∧ (v.toNat < s.get LSEC.TXSEQ) ∧
      (s.get LSEC.KEY_VALID = 0)) ((State.reset.put LSEC.TXSEQ 50)) (.hart 0) (9)) ∧
    ((fun (s : State) (m : Master) (v : Word) => (s.admits m 0x17 0x2C true) ∧
      (s.get LSEC.TXSEQ ≤ v.toNat)) ((State.reset.put LSEC.TXSEQ 50 |>.put LSEC.KEY_VALID 4)) (.hart 0) (50)) ∧
    ((fun (s : State) (r : ResetSource) => (s.rst.asked = [r]) ∧ ((∀ b : Bool, r ≠ .brownOut b)) ∧ (s.alive = true) ∧ (s.rst.inReset = false) ∧
      (s.mem.flashOp = none) ∧ (s.rst.fuseOp = none))
      (({ State.reset.put LSEC.TXSEQ 50 |>.put LSEC.KEY_VALID 4 with rst := { State.reset.rst with asked := [.watchdog] }, link := { State.reset.link with keys := [(2, 7)] } })) (.watchdog)) ∧
    ((fun (s : State) => (s.rst.porDue = true)) (({ State.reset with rst := { State.reset.rst with porDue := true } }))) ∧
    ((fun (s : State) (retained : Bool) => (s.alive = true) ∧ (s.rst.fuseOp = none) ∧
      (s.noSupplyNow = true)) ((State.reset.put SUPPLY.VBAT_VALID 0)) (true)) :=
  by refine ⟨?_, ?_, ?_, ?_, ?_, ?_⟩ <;> decide +kernel

/-- Obligations.StepKeepsInv: an idle step from the state after reset. -/
theorem test_hyp_StepKeepsInv : State.reset.Inv ∧ step State.reset = .next State.reset.tick := by
  refine ⟨⟨by decide +kernel, fun n => ?_, fun n => ?_, by decide +kernel⟩, rfl⟩
  · by_cases h : n < 4
    · exact (by decide +kernel : ∀ k : Fin 4, (State.reset.postOf k).fifo.length ≤ 16) ⟨n, h⟩
    · simp [State.postOf, vget, h, noPost]
  · by_cases h : n < 4
    · exact (by decide +kernel : ∀ k : Fin 4, (State.reset.hart k).posts.length ≤ 64) ⟨n, h⟩
    · simp [State.hart, vget, h, noHart]

/-! ### Ill-formed commands -/

/-- The always-on island is released by no command. -/
theorem test_ill_formed_islandRelease : (Instr.islandRelease .ao).wellFormed = false := by decide
/-- R114: more net than gross charge. -/
theorem test_ill_formed_gaugeSampleDue : (Instr.gaugeSampleDue ⟨-3, 2, 0⟩).wellFormed = false := by decide
theorem test_ill_formed_restTaken : (Instr.restTaken 4000 ⟨3, 2, 0⟩).wellFormed = false := by decide
theorem test_ill_formed_uncOver : (Instr.uncOver ⟨3, 2, 0⟩).wellFormed = false := by decide
theorem test_ill_formed_gaugeChargeRead : (Instr.gaugeChargeRead (.hart 0) ⟨3, 2, 0⟩).wellFormed = false := by decide
theorem test_ill_formed_storageCurrentBandChange : (Instr.storageCurrentBandChange true ⟨3, 2, 0⟩).wellFormed = false := by decide
/-- A word load has no sign to extend. -/
theorem test_ill_formed_hartLoad : (Instr.hartLoad 1 5 0x20000000 .word true Upset.none).wellFormed = false := by decide
/-- A TID of another tenant without an error in the TID byte. -/
theorem test_ill_formed_upset : (Instr.hartLoad 1 5 0x20000000 .word false { Upset.none with badTid := 2 }).wellFormed = false := by decide
/-- Data wider than the store. -/
theorem test_ill_formed_hartStoreLocal : (Instr.hartStoreLocal 1 0x20000000 .byte 0x100 Upset.none).wellFormed = false := by decide
theorem test_ill_formed_postedStore : (Instr.postedStore 1 0x40018100 .half 0x10000).wellFormed = false := by decide
theorem test_ill_formed_crcDataWrite : (Instr.crcDataWrite (.hart 0) .byte 0x100).wellFormed = false := by decide
theorem test_ill_formed_systemBusAccess : (Instr.systemBusAccess 1 true 0x20000000 .byte 0x100 Upset.none).wellFormed = false := by decide
/-- A classical frame of DLC 4 has four bytes; a remote frame is no FD frame. -/
theorem test_ill_formed_canFrameReceived :
    (Instr.canFrameReceived 0 (.frame { id := 0, xtd := true, rtr := false, fdf := false, brs := false, esi := false, dlc := 4, data := [1], age := 0 })).wellFormed =
      false := by decide
theorem test_ill_formed_canFrameValid :
    (Instr.canFrameReceived 0 (.valid { id := 0, xtd := true, rtr := true, fdf := true, brs := false, esi := false, dlc := 0, data := [], age := 0 })).wellFormed =
      false := by decide
/-- ADC-A and ADC-B have six inputs each. -/
theorem test_ill_formed_adcaConversionDone : (Instr.adcaConversionDone [0, 1]).wellFormed = false := by decide
theorem test_ill_formed_adcbConversionDone : (Instr.adcbConversionDone ⟨[0, 1], 0, 0, 0, 0⟩).wellFormed = false := by decide
theorem test_ill_formed_wuf :
    (Instr.wuf { id := 0, xtd := true, rtr := true, fdf := true, brs := false, esi := false, dlc := 0, data := [], age := 0 }).wellFormed = false := by
  decide
/-- 48 data sub-carriers have 48 SNRs. -/
theorem test_ill_formed_ofdmSyncAccepted : (Instr.ofdmSyncAccepted 0 (-100) [1, 2]).wellFormed = false := by decide
/-- R535: a header has four symbols of 48 data sub-carriers. -/
theorem test_ill_formed_ofdmHeaderReceived : (Instr.ofdmHeaderReceived [1, -1] ⟨0, Upset.none⟩).wellFormed = false := by decide
/-- R538: a payload has at most 191 symbols of 288 bits. -/
theorem test_ill_formed_ofdmPpduDecoded : (Instr.ofdmPpduDecoded (List.replicate 60000 0) none).wellFormed = false := by decide +kernel
/-- R547: a robust frame has whole bytes, and a length and a CRC at least. -/
theorem test_ill_formed_robustFrameReceived : (Instr.robustFrameReceived (List.replicate 33 false)).wellFormed = false := by decide

/-! ### Worked examples -/

/-- "123456789" in ASCII. -/
def digits : List Nat := [0x31, 0x32, 0x33, 0x34, 0x35, 0x36, 0x37, 0x38, 0x39]

/-- Chapter 14, worked example: the PSDU of "123456789". -/
theorem test_psdu : psduOf digits = digits ++ [0x26, 0x39, 0xF4, 0xCB] := by decide +kernel
/-- Chapter 14: the check value of the robust CRC-24. -/
theorem test_crc24 : crc24 digits = 0x21CF02 := by decide +kernel
/-- Chapter 13, worked example: header bits h_19 to h_0 of MAP 5, RATE 0, LENGTH 236, and of chapter 14's MAP 5, RATE 2, LENGTH 9. -/
theorem test_header : bits (makeHeader 5 0 236 0) 0 20 = 0x1D814 ∧ bits (makeHeader 5 2 9 0) 0 20 = 0x1314 := by decide +kernel
/-- Chapter 13, worked example: coded bits of 236 bytes at rate 1/2 and of 9 bytes at rate 3/4. -/
theorem test_codedBits : codedBits 0 236 = 3840 ∧ codedBits 2 9 = 168 := by decide +kernel
/-- Chapter 13, worked example: 572 µs on the map of 200 bits, 1,772 µs on uniform BPSK, 2,224 µs for 127 robust bytes. -/
theorem test_airTime : airTime false 0 200 236 = 572000 ∧ airTime false 0 48 236 = 1772000 ∧ airTime true 0 0 127 = 2224000 := by decide +kernel
/-- Chapter 14, worked example: the first eight scrambled bits, and bit 44. -/
theorem test_scrambling : (payloadBits 2 9 (List.replicate 48 1) digits).take 8 = [false, true, false, true, true, false, true, true] ∧
    (payloadBits 2 9 (List.replicate 48 1) digits)[44]? = some false := by decide +kernel
/-- Chapter 16, worked example: LPF, then PID with the committed speed output 520. -/
theorem test_stages : (stageLpf 0x8000 512 500).y = 506 ∧ (stagePid 0xC000 0xCCD 0 true 520 506 128000 0).y = 2010 ∧
    (stagePid 0xC000 0xCCD 0 true 520 506 128000 0).s0 = 128044 := by decide +kernel
/-- FIPS 197, appendix C.1: the example vector of AES-128, which R277 names. -/
theorem test_aes : aesEnc (List.range 16) ((List.range 16).map (fun i => 0x11 * i)) =
    [0x69, 0xC4, 0xE0, 0xD8, 0x6A, 0x7B, 0x04, 0x30, 0xD8, 0xCD, 0xB7, 0x80, 0x70, 0xB4, 0xC5, 0x5A] := by decide +kernel

/-! ### Single steps -/

/-- Chapter 6, Table 6.18: a store to the control island while it is down leaves the record 0x0201_0304. -/
theorem test_island_down_record :
    (((hartUp.modHart 2 (fun h => { h with running := true })).modPower (fun p => { p with islands := vput p.islands 3 .off })).failRecord
      ⟨causeIslandDown, 3, 0x33000100, 0, 2⟩ 2 (some 0xFFE)).post[2].fifo.map (fun r => (r.w0, r.w1, r.w2)) =
      [(0x02010304, 0x33000100, 0x0FFE0002)] := by decide +kernel
/-- R397: NS carries into SEC. -/
theorem test_second : ({ State.reset with ntu := { State.reset.ntu with ns := 999999995 } }.tick).ntu.sec = 1 := by decide +kernel
/-- R339: a slot that T0 has not allocated is not freed. -/
theorem test_free_other : (State.reset.after (.qmgrFreeWrite (.hart 0) 5)).q = noQueues := by decide +kernel

end Sys2Proof.Machine
end

section
/-!
PROOFS. What `State.reset` holds, and what a write of PAGE_OWN of the SYS page comes to.
-/

namespace Sys2Proof.Machine

/-! ### The state after reset -/

theorem Table.find_eq_none {β : Type} {t : Table β} {a : Nat} (h : a ∉ t.map Prod.fst) : Table.find t a = none := by
  induction t with
  | nil => rfl
  | cons e t ih =>
    obtain ⟨k, w⟩ := e
    obtain ⟨hk, ht⟩ := not_or.mp (mt List.mem_cons.mpr h)
    rw [Table.find, if_neg (Ne.symm hk), ih ht]

/-- A field that `resetFields` does not list holds the value of its Reset column (assumption log 8). -/
theorem State.reset_get {f : Fld} (h : f.key ∉ resetFields.map Prod.fst) : State.reset.get f = f.reset % 2 ^ f.width := by
  have hn : Table.find State.reset.fields f.key = none := Table.find_eq_none h
  rw [State.get, hn]
  rfl

/-- The fields that start-up sets: supply and clock status, the reset cause, the quotas and the tenant enables. -/
theorem resetFields_keys_subset : resetFields.map Prod.fst ⊆ [SUPPLY.ACTIVE_SRC, SUPPLY.VBAT_VALID, SUPPLY.PGOOD, CLK.XO40_OK,
    CLK.PLL_CORE_LOCK, CLK.PLL_PERIPH_LOCK, RSTC.CAUSE_POR, QMGR.QUOTA 0, QMGR.QUOTA 1, QMGR.QUOTA 2, QMGR.QUOTA 3, TEN.EN,
    CANX.VBAT_OK].map Fld.key := by decide

/-- R230: every entry has its first owner after reset, and no change of owner waits. -/
theorem State.reset_owner (t e : Nat) : State.reset.owner t e = firstOwner t e := rfl

/-- Settles O6: a field that start-up does not set reads its reset value, and the values that the statement names are those of the one state
it speaks of. -/
theorem resetValues : Obligations.ResetValues := by
  unfold Obligations.ResetValues
  refine ⟨fun f hf => .inl (State.reset_get fun hk => hf (resetFields_keys_subset hk)), ?_⟩
  rintro s rfl
  have cause : State.reset.get RSTC.CAUSE_POR = 1 := by decide +kernel
  have tenants : ∀ t : Fin 4, State.reset.get (QMGR.QUOTA t) = 512 ∧ (State.reset.postOf t).fifo = [] ∧
      (State.reset.hart t).posts = [] ∧ (State.reset.hart t).running = false := by decide +kernel
  have owners : ∀ t e : Nat, t ≠ tblPage → State.reset.owner t e = 0 := fun t e ht => (State.reset_owner t e).trans (if_neg ht)
  have objects : ∀ x : Fin 2, ∀ o : Fin 128, State.reset.objType x o = 0 := by decide +kernel
  have sequence : State.reset.get LSEC.TXSEQ = 1 := State.reset_get (by decide)
  have short : State.reset.get LINK.SHORT = 0xFFFE := State.reset_get (by decide)
  exact ⟨rfl, cause, tenants, owners, rfl, rfl, rfl, objects, rfl, sequence, short, rfl⟩

/-! ### PAGE_OWN of the SYS page (R228, Table 6.15) -/

/-- R228: only a field of access code RWL can be the object of a LOCKED fault. -/
theorem State.writeField_not_locked {s : State} {lock : Option Nat} {v mask : Nat} {f : Fld} (h : f.acc ≠ .rwl) :
    (s.writeField lock v mask f).2 = none := by
  unfold State.writeField
  dsimp only
  split
  · rfl
  · split
    case h_2 e => exact absurd e h
    all_goals rfl

/-- ATTR of the SYS page is read-only (Table 6.15), so no write of its PAGE_OWN is a LOCKED fault, whatever LOCK holds. -/
theorem State.regWrite_sysOwn_not_refused (s : State) (t l n v : Nat) (us : Option Nat) : (s.regWrite t 0 4 l n v us).2 = none := by
  have attr : (HDR.ATTR 0).acc ≠ .rwl := by decide
  have lock : (HDR.LOCK 0).acc ≠ .rwl := by decide
  simp [State.regWrite, State.writeFields, pageFieldsAt, State.writeField_not_locked attr, State.writeField_not_locked lock]

/-- A write of PAGE_OWN leaves the fault FIFOs alone, but for the record of a refusal. -/
theorem State.regWrite_own_post (s : State) {p : Nat} (hp : p < 36) (t l n v : Nat) (us : Option Nat) :
    (s.regWrite t p 4 l n v us).1.post = s.post := by
  have onPage : Frame (2 ^ (32 + p)) s (s.regWrite t p 4 l n v us).1 := by
    simpa [State.regWrite] using State.writeFields_page hp (Nat.or_self _) Frame.same
  exact onPage.1 .post (Nat.testBit_two_pow_of_ne (by simp only [Part.bit]; omega))

/-- An admitted write of PAGE_OWN of the SYS page leaves no fault record. -/
theorem State.cmdWrite_sysOwn_post {s : State} {m : Master} (h : s.admits m 0 4 true) (v : Nat) :
    (s.cmdWrite m (pageAddr 0 4) 4 v).post = s.post := by
  rw [State.cmdWrite_admitted h rfl, State.cancelSwept_ne rfl, State.regWrite_sysOwn_not_refused]
  exact State.regWrite_own_post s (by decide) _ _ _ _ _

/-- The state after reset with PAGE_OWN.LOCK of the SYS page set, as a write of T0 sets it. -/
def sysLocked : State := State.reset.put (HDR.LOCK 0) 1

theorem sysLocked_admits : sysLocked.admits (.hart 0) 0 4 true := by decide +kernel

theorem sysLocked_fifo_empty : (sysLocked.postOf 0).fifo = [] := by decide +kernel

/-- Refutes O7 at the clause on a locked header: it includes the SYS page, whose ATTR is read-only and stands at 1 (Table 6.15). Hart M's write of 0
to a locked PAGE_OWN there differs from ATTR and leaves no LOCKED record, as R228 has one for RWL fields only. -/
theorem not_registerWrites : ¬ Obligations.RegisterWrites := by
  unfold Obligations.RegisterWrites
  rintro ⟨-, -, -, -, locked, -⟩
  obtain ⟨t, step, ⟨-, post⟩, -⟩ := locked sysLocked (.hart 0) 0 0 sysLocked_admits (by decide +kernel) (by decide +kernel)
  have unrecorded : t.post = sysLocked.post := by
    obtain rfl : sysLocked.cmdWrite (.hart 0) (pageAddr 0 4) 4 0 = t := Host.Outcome.next.inj step
    exact State.cmdWrite_sysOwn_post sysLocked_admits 0
  have recorded : (vget t.post 0 noPost).fifo ≠ [] := by
    rw [post]
    decide +kernel
  exact recorded (unrecorded ▸ sysLocked_fifo_empty)

end Sys2Proof.Machine
end

section
/-!
PROOFS. The test access port: the bits of a sum of boundary-scan cells, what a scan captures and shifts out, and the pads under a test instruction.
-/

namespace Sys2Proof.Machine

/-! ### Bits of a sum of cells -/

theorem bit_eq_testBit (v i : Nat) : bit v i = v.testBit i := by
  rw [Nat.testBit_eq_decide_div_mod_eq]
  rfl

/-- Adding a bit that is clear sets that bit and no other. -/
theorem testBit_two_pow_add {n k : Nat} (h : n.testBit k = false) (i : Nat) : (2 ^ k + n).testBit i = (decide (i = k) || n.testBit i) := by
  induction k generalizing n i with
  | zero =>
    have even : n % 2 = 0 := by simpa using h
    cases i with
    | zero => simp [even, Nat.add_mod]
    | succ i =>
      have half : (1 + n) / 2 = n / 2 := by omega
      simp [Nat.testBit_succ, half]
  | succ k ih =>
    cases i with
    | zero => simp [Nat.pow_succ, Nat.add_mod]
    | succ i =>
      have half : (2 ^ (k + 1) + n) / 2 = 2 ^ k + n / 2 := by omega
      rw [Nat.testBit_succ, half, ih (by rwa [Nat.testBit_succ] at h), Nat.testBit_succ]
      simp

/-- The number whose bits are these cells. -/
def cellSum (l : List (Bool × Nat)) : Nat := (l.map (fun e => cellBit e.1 e.2)).sum

theorem cellSum_cons (b : Bool) (i : Nat) (l : List (Bool × Nat)) : cellSum ((b, i) :: l) = cellBit b i + cellSum l := List.sum_cons

theorem add_cellSum_nil (n : Nat) : n + cellSum [] = n := by
  rw [cellSum, List.map_nil, List.sum_nil, Nat.add_zero]

/-- Cells at distinct places read back as they are; every other bit is 0. -/
theorem testBit_cellSum {l : List (Bool × Nat)} (h : (l.map Prod.snd).Nodup) (i : Nat) : (cellSum l).testBit i = decide ((true, i) ∈ l) := by
  induction l generalizing i with
  | nil => simp [cellSum]
  | cons e l ih =>
    obtain ⟨b, k⟩ := e
    obtain ⟨hk, hl⟩ := List.nodup_cons.mp h
    have clear : (cellSum l).testBit k = false := by
      rw [ih hl]
      exact decide_eq_false fun hm => hk (List.mem_map.mpr ⟨_, hm, rfl⟩)
    rw [cellSum_cons]
    cases b with
    | false => simp [cellBit, ofBool, ih hl]
    | true => simp [cellBit, ofBool, testBit_two_pow_add clear, ih hl]

/-- At distinct places there is one cell to a place. -/
theorem cell_unique {l : List (Bool × Nat)} (h : (l.map Prod.snd).Nodup) {a b : Bool} {i : Nat} (ha : (a, i) ∈ l) (hb : (b, i) ∈ l) : a = b := by
  induction l with
  | nil => cases ha
  | cons e l ih =>
    obtain ⟨he, hl⟩ := List.nodup_cons.mp h
    rcases List.mem_cons.mp ha with rfl | ha'
    · rcases List.mem_cons.mp hb with hb | hb'
      · exact (congrArg Prod.fst hb).symm
      · exact absurd (List.mem_map.mpr ⟨_, hb', rfl⟩) he
    · rcases List.mem_cons.mp hb with rfl | hb'
      · exact absurd (List.mem_map.mpr ⟨_, ha', rfl⟩) he
      · exact ih hl ha' hb'

theorem bit_cellSum {l : List (Bool × Nat)} (h : (l.map Prod.snd).Nodup) {b : Bool} {i : Nat} (hm : (b, i) ∈ l) : bit (cellSum l) i = b := by
  rw [bit_eq_testBit, testBit_cellSum h]
  cases b with
  | true => exact decide_eq_true hm
  | false => exact decide_eq_false fun ht => Bool.false_ne_true (cell_unique h hm ht)

theorem cellSum_append (l k : List (Bool × Nat)) : cellSum (l ++ k) = cellSum l + cellSum k := by
  simp [cellSum]

/-- Cells added up in steps, those of one step after another. -/
theorem foldl_eq_cellSum {f : Nat → List (Bool × Nat)} {g : Nat → Nat → Nat} (hg : ∀ v i, g v i = v + cellSum (f i)) (l : List Nat) (n : Nat) :
    l.foldl g n = n + cellSum (l.flatMap f) := by
  induction l generalizing n with
  | nil => rfl
  | cons i l ih => rw [List.foldl_cons, ih, hg, List.flatMap_cons, cellSum_append, Nat.add_assoc]

/-! ### What a boundary scan captures (R77, R78) -/

/-- The three cells of the pad of index `i` with what they capture: output enable, output and input; `w` holds the free bits. -/
def State.padCaptures (s : State) (w i : Nat) : List (Bool × Nat) :=
  [((s.padState i).oe, padCell i), (if (s.padState i).moving then bit w i else (s.padState i).level, padCell i + 1), (s.padLevel i, padCell i + 2)]

/-- The cells of WAKE, RESET_N and CANB_RX. -/
def State.otherCaptures (s : State) (w : Nat) : List (Bool × Nat) :=
  [(s.fab.wakeLevel, 146), (s.resetPad.oe, 132), (!s.resetPad.oe && bit w 48, 134), (bit w 49, 140)]

/-- The cells that capture something, each with its place in the register. -/
def State.captures (s : State) : List (Bool × Nat) :=
  (List.range 48).flatMap (s.padCaptures (s.free 50).1) ++ s.otherCaptures (s.free 50).1

theorem State.captureCells_snd (s : State) :
    s.captureCells.2 = (List.range 48).foldl (fun v i => v + cellBit (s.padState i).oe (padCell i) +
      cellBit (if (s.padState i).moving then bit (s.free 50).1 i else (s.padState i).level) (padCell i + 1) +
      cellBit (s.padLevel i) (padCell i + 2)) 0 + cellBit s.fab.wakeLevel 146 + cellBit s.resetPad.oe 132 +
      cellBit (!s.resetPad.oe && bit (s.free 50).1 48) 134 + cellBit (bit (s.free 50).1 49) 140 := rfl

theorem State.captureCells_eq_cellSum (s : State) : s.captureCells.2 = cellSum s.captures := by
  rw [State.captureCells_snd, foldl_eq_cellSum (f := s.padCaptures (s.free 50).1), State.captures, cellSum_append]
  · simp only [State.otherCaptures, cellSum_cons, add_cellSum_nil, Nat.zero_add, Nat.add_assoc]
  · intro v i
    simp only [State.padCaptures, cellSum_cons, add_cellSum_nil, Nat.add_assoc]

/-- Table 2.2: the places of the cells that capture something. -/
def capturePlaces : List Nat := (List.range 48).flatMap (fun i => [padCell i, padCell i + 1, padCell i + 2]) ++ [146, 132, 134, 140]

theorem State.captures_places (s : State) : s.captures.map Prod.snd = capturePlaces := by
  simp only [State.captures, List.map_append, List.map_flatMap]
  rfl

/-- Table 2.2 gives no place to two cells. -/
theorem capturePlaces_nodup : capturePlaces.Nodup := by decide +kernel

theorem State.bit_captureCells {s : State} {b : Bool} {i : Nat} (h : (b, i) ∈ s.captures) : bit s.captureCells.2 i = b := by
  rw [s.captureCells_eq_cellSum]
  exact bit_cellSum (s.captures_places ▸ capturePlaces_nodup) h

theorem State.captureCells_input (s : State) (i : Fin 48) : bit s.captureCells.2 (padCell i + 2) = s.padLevel i :=
  State.bit_captureCells (List.mem_append_left _ (List.mem_flatMap.mpr ⟨i, List.mem_range.mpr i.isLt, by simp [State.padCaptures]⟩))

theorem State.captureCells_wake (s : State) : bit s.captureCells.2 146 = s.fab.wakeLevel :=
  State.bit_captureCells (List.mem_append_right _ List.mem_cons_self)

/-! ### Scans -/

@[simp] theorem State.modDbg_dbg (s : State) (f : Debug → Debug) : (s.modDbg f).dbg = f s.dbg := rfl
@[simp] theorem State.modDbg_padsLive {s : State} {f : Debug → Debug} : (s.modDbg f).padsLive = s.padsLive := rfl
@[simp] theorem State.modDbg_tapWorks {s : State} {f : Debug → Debug} : (s.modDbg f).tapWorks = s.tapWorks := rfl
@[simp] theorem State.modDbg_modDbg (s : State) (f g : Debug → Debug) : (s.modDbg f).modDbg g = s.modDbg (fun d => g (f d)) := rfl

theorem State.shiftOut_eq (s : State) (v : Nat) : s.shiftOut v = s.modDbg (fun d => { d with tapOut := if s.padsLive then v else d.tapOut }) := by
  unfold State.shiftOut
  cases s.padsLive <;> rfl

theorem State.tapScan_live {s : State} (h : s.padsLive = true) (ir out : Nat) :
    s.tapScan ir out = s.modDbg (fun d => { d with tapIr := ir, tapOut := out }) := by
  simp [State.tapScan, State.shiftOut_eq, h]

/-- The state after a boundary scan of `b` with instruction `ir`. -/
def State.scanned (s : State) (ir : Nat) (b : BitVec 153) : State :=
  { s with
    fresh := s.fresh + 1
    dbg := { s.dbg with
      tapIr := ir
      bsr := b
      tapOut := if s.padsLive then (s.modDbg (fun d => { d with tapIr := ir })).captureCells.2 else s.dbg.tapOut } }

@[simp] theorem State.scanned_tapWorks {s : State} {ir : Nat} {b : BitVec 153} : (s.scanned ir b).tapWorks = s.tapWorks := rfl

theorem State.boundary_none (s : State) (ir : Nat) : s.boundary ir none = s.modDbg (fun d => { d with tapIr := ir }) := rfl

theorem State.boundary_some (s : State) (ir : Nat) (b : BitVec 153) : s.boundary ir (some b) = s.scanned ir b := by
  simp only [State.boundary, State.shiftOut_eq]
  rfl

/-! ### The pads under a test instruction (R80) -/

theorem State.padState_of_test {s : State} (hw : s.tapWorks = true) (ht : s.testMode = true) (i : Nat) : s.padState i = s.padTested i := by
  simp only [State.tapWorks, Bool.and_eq_true, bne_iff_ne] at hw
  obtain ⟨⟨⟨vio, on⟩, -⟩, -⟩ := hw
  simp [State.padState, vio, on, ht]

/-- EXTEST and CLAMP: every pad follows its control and output cells. -/
theorem State.padState_cells {s : State} (hw : s.tapWorks = true) (hi : s.dbg.tapIr = 0 ∨ s.dbg.tapIr = 3) (i : Nat) :
    s.padState i = ⟨s.dbg.bsr.getLsbD (padCell i), s.dbg.bsr.getLsbD (padCell i + 1), 0, false,
      if s.dbg.bsr.getLsbD (padCell i) = true then Config.testDrive i % 3 else 0⟩ := by
  rw [State.padState_of_test hw (by rcases hi with h | h <;> simp [State.testMode, h])]
  rcases hi with h | h <;> simp [State.padTested, h]

/-- HIGHZ: every pad is released. -/
theorem State.padState_highz {s : State} (hw : s.tapWorks = true) (hi : s.dbg.tapIr = 4) (i : Nat) : s.padState i = hiZ := by
  rw [State.padState_of_test hw (by simp [State.testMode, hi])]
  simp [State.padTested, hi]

/-! ### The DMI (R344) -/

/-- A scan of a read of the debug module, of any register but sbdata0. -/
theorem State.dmiScan_read {s : State} {v : Nat} (hl : s.padsLive = true) (ho : bits v 0 2 = 1) (ha : bits v 34 7 ≠ 0x3C) :
    s.dmiScan v = s.modDbg (fun d => { d with tapOut := d.dmi, dmi := s.dmRead (bits v 34 7) * 2 ^ 2 + bits v 34 7 * 2 ^ 34 }) := by
  have quiet : (bits v 34 7 == 0x3C) = false := beq_false_of_ne ha
  simp only [State.dmiScan, State.shiftOut_eq, hl, ho, State.dmTouched, quiet]
  rfl

/-- A scan of a write to the debug module. -/
theorem State.dmiScan_write {s : State} {v : Nat} (hl : s.padsLive = true) (ho : bits v 0 2 = 2) :
    s.dmiScan v = ((s.modDbg (fun d => { d with tapOut := d.dmi })).dmWrite (bits v 34 7) (bits v 2 32)).modDbg
      (fun d => { d with dmi := bits v 2 32 * 2 ^ 2 + bits v 34 7 * 2 ^ 34 }) := by
  simp only [State.dmiScan, State.shiftOut_eq, hl, ho]
  rfl

theorem State.dmWrite_progbuf {s : State} (h : s.dbg.active = true) (k : Fin 8) (v : Nat) :
    s.dmWrite (0x20 + k) v = s.modDbg (fun d => { d with progbuf := vput d.progbuf k (BitVec.ofNat 32 v) }) := by
  have hk := k.isLt
  rw [State.dmWrite, if_neg (by omega), if_neg (by simp [h]), if_neg (by omega), if_neg (by omega), if_neg (by omega), if_neg (by omega),
    if_pos (by simp; omega), Nat.add_sub_cancel_left]

/-- A scan of a write to the program buffer. -/
theorem State.dmiScan_progbuf {s : State} {v : Nat} (k : Fin 8) (hl : s.padsLive = true) (active : s.dbg.active = true) (ho : bits v 0 2 = 2)
    (ha : bits v 34 7 = 0x20 + k) :
    s.dmiScan v = s.modDbg (fun d => { d with
      tapOut := d.dmi
      progbuf := vput d.progbuf k (BitVec.ofNat 32 (bits v 2 32))
      dmi := bits v 2 32 * 2 ^ 2 + bits v 34 7 * 2 ^ 34 }) := by
  rw [State.dmiScan_write hl ho, ha, State.dmWrite_progbuf]
  · rfl
  · exact active

/-- A scan of a write to sbaddress0, which starts no access where sbreadonaddr is 0. -/
theorem State.dmiScan_sbAddr {s : State} {v : Nat} (hl : s.padsLive = true) (active : s.dbg.active = true) (quiet : s.dbg.sbOnAddr = false)
    (ho : bits v 0 2 = 2) (ha : bits v 34 7 = 0x39) :
    s.dmiScan v = s.modDbg (fun d => { d with
      tapOut := d.dmi
      sbAddr := BitVec.ofNat 32 (bits v 2 32)
      dmi := bits v 2 32 * 2 ^ 2 + bits v 34 7 * 2 ^ 34 }) := by
  rw [State.dmiScan_write hl ho, ha]
  simp [State.dmWrite, active, quiet]

/-! ### Commands through the TAP -/

/-- A command through a TAP that works. -/
theorem State.runs_viaTap {s : State} {c : Instr} {f : State → State} {ps : List Part} {P : State → Prop} (hc : exec c s = .next (s.viaTap f))
    (hw : s.tapWorks = true) (hp : P (f s)) (hf : s.changes (f s) ps []) : s.runs c ps [] P := by
  rw [State.viaTap, hw] at hc
  exact ⟨f s, hc, hp, hf⟩

/-- One that changes the debug module alone. -/
theorem State.runs_modDbg {s : State} {c : Instr} {f : State → State} {g : Debug → Debug} {P : State → Prop} (hc : exec c s = .next (s.viaTap f))
    (hw : s.tapWorks = true) (hf : f s = s.modDbg g) (hp : P (s.modDbg g)) : s.runs c [.dbg] [] P :=
  State.runs_viaTap hc hw (hf ▸ hp) (hf ▸ (State.modDbg_frame (m := 0x4000) rfl Frame.same).changes rfl)

/-- DMI is the current instruction. -/
def Debug.atDmi (d : Debug) : Debug := { d with tapIr := 0x11 }

/-- A scan of the DMI register that changes the debug module alone. -/
theorem State.runs_dmi {s : State} {v : BitVec 41} {g : Debug → Debug} {P : State → Prop} (hw : s.tapWorks = true)
    (hf : (s.modDbg Debug.atDmi).dmiScan v.toNat = (s.modDbg Debug.atDmi).modDbg g) (hp : P (s.modDbg (fun d => g d.atDmi))) :
    s.runs (.dmi (some v)) [.dbg] [] P :=
  State.runs_modDbg (f := fun s => (s.modDbg Debug.atDmi).dmiScan v.toNat) (g := fun d => g d.atDmi) rfl hw hf hp

/-- A boundary scan, which changes the debug module and uses up a free value. -/
theorem State.runs_boundary {s : State} {c : Instr} {ir : Nat} {b : BitVec 153} {P : State → Prop}
    (hc : exec c s = .next (s.viaTap (fun s => s.boundary ir (some b)))) (hw : s.tapWorks = true)
    (hp : P (s.scanned ir b)) : s.runs c [.dbg, .fresh] [] P :=
  State.runs_viaTap hc hw (s.boundary_some ir b ▸ hp) ((State.boundary_frame (m := 0x4002) rfl Frame.same).changes rfl)

/-- Settles O28: every scan changes the debug module alone, a boundary scan also draws free bits for cells whose level State does not hold; the pads
then follow the instruction and the cells, and each captured cell has a place of its own in what is shifted out. -/
theorem testAccessPort : Obligations.TestAccessPort := by
  unfold Obligations.TestAccessPort
  refine ⟨?reset, ?idcode, ?dtmcs, ?dmi, ?dmiRead, ?progbuf, ?sbAddr, ?bypass, ?clamp, ?highz, ?extest, ?extestIr, ?sample⟩
  case reset => exact fun s hw => State.runs_modDbg rfl hw rfl rfl
  case idcode => exact fun s hw hl => State.runs_modDbg rfl hw (State.tapScan_live hl _ _) rfl
  case dtmcs => exact fun s hw hl => State.runs_modDbg rfl hw (State.tapScan_live hl _ _) rfl
  case dmi => exact fun s hw => State.runs_modDbg rfl hw rfl rfl
  case dmiRead => exact fun s v hw hl ho ha => State.runs_dmi hw (State.dmiScan_read hl ho ha) rfl
  case progbuf => exact fun s v k hw hl active ho ha => State.runs_dmi hw (State.dmiScan_progbuf k hl active ho ha) rfl
  case sbAddr =>
    exact fun s v hw hl active _ quiet ho ha => State.runs_dmi hw (State.dmiScan_sbAddr hl active quiet ho ha) ⟨rfl, rfl, rfl⟩
  case bypass => exact fun s hw hl => State.runs_modDbg rfl hw (State.tapScan_live hl _ _) rfl
  case clamp =>
    exact fun s hw hl => State.runs_modDbg rfl hw (State.tapScan_live hl _ _)
      ⟨rfl, fun i => State.padState_cells (State.modDbg_tapWorks.trans hw) (.inr rfl) i⟩
  case highz =>
    exact fun s hw hl => State.runs_modDbg rfl hw (State.tapScan_live hl _ _)
      ⟨rfl, fun i => State.padState_highz (State.modDbg_tapWorks.trans hw) rfl i⟩
  case extest =>
    exact fun s b hw => State.runs_boundary rfl hw ⟨rfl, rfl, fun i => State.padState_cells (State.scanned_tapWorks.trans hw) (.inl rfl) i⟩
  case extestIr => exact fun s hw => State.runs_modDbg rfl hw (State.boundary_none s 0) rfl
  case sample =>
    intro s b hw hl
    have out : (s.scanned 2 b).dbg.tapOut = (s.modDbg (fun d => { d with tapIr := 2 })).captureCells.2 := if_pos hl
    refine State.runs_boundary rfl hw ⟨rfl, rfl, fun i => ?_, ?_⟩
    · exact out ▸ State.captureCells_input _ i
    · exact out ▸ State.captureCells_wake _

end Sys2Proof.Machine
end

section
/-!
PROOFS. The initialisation of the descriptor memory, and what it changes of the queues.
-/

namespace Sys2Proof.Machine

/-- R148, R150: the initialisation of the descriptor memory leaves no descriptor with the word 1 that the queue manager wrote. -/
theorem State.initBlock_desc_q {s : State} (hw : MemBlock.desc ∈ s.power.needInit) (hl : s.on CLK.PLL_PERIPH_LOCK = true) :
    (s.initBlock .desc).q = { s.q with slots := s.q.slots.map (fun e => (e.1, { e.2 with shown := false })) } := by
  have waits : s.power.needInit.contains .desc = true := List.contains_iff_mem.mpr hw
  rw [State.initBlock, waits, hl]
  rfl

/-- An exit from CALM with RET_DESC at 0, once the PLLs have locked: the core island waits for its descriptor memory, and slot 0 is ALLOCATED to T0
with the word 1 of a self-linked completion (R150, R334). -/
def descWaits : State :=
  { State.reset with
    power := { State.reset.power with
      phase := .leaving
      islands := vput State.reset.power.islands (islandNo .core) .powering
      needInit := [.desc]
      fromCalm := true }
    q := { noQueues with slots := [(0, { owner := 0, state := 1, status := 0, queue := 0, cancel := false, shown := true })] } }

theorem descWaits_locked : descWaits.on CLK.PLL_PERIPH_LOCK = true := by decide +kernel

theorem descWaits_initBlock_q_ne : (descWaits.initBlock .desc).q ≠ descWaits.q := by
  rw [State.initBlock_desc_q List.mem_cons_self descWaits_locked]
  decide

/-- Refutes O11 at its clause on MEMORY_INIT, which lets only power, memories and CAN controllers change: the initialisation of the descriptor memory
changes the queues too, where an ALLOCATED descriptor had its word 1 from the queue manager (R148, R150). -/
theorem not_powerOnAndStartUp : ¬ Obligations.PowerOnAndStartUp := by
  unfold Obligations.PowerOnAndStartUp
  rintro ⟨-, -, -, -, -, -, -, -, -, -, -, memoryInit, -⟩
  obtain ⟨t, step, -, parts, -⟩ := memoryInit descWaits .desc List.mem_cons_self descWaits_locked
  obtain rfl : descWaits.initBlock .desc = t := Host.Outcome.next.inj step
  exact descWaits_initBlock_q_ne (parts .q (by decide) (fun _ => Part.noConfusion))

end Sys2Proof.Machine
end

section
/-!
PROOFS. Power entry: one-bit fields, the sources and the selector, and what their commands leave unchanged.
-/

namespace Sys2Proof.Machine

/-! ### One-bit fields -/

theorem State.on_eq_true_iff {s : State} {f : Fld} (hw : f.width = 1) : s.on f = true ↔ s.get f = 1 := by
  have lt : s.get f < 2 := by simpa [hw] using s.get_lt f
  simp only [State.on, bne_iff_ne]
  omega

theorem State.get_raise_same {s : State} {f : Fld} (hw : f.width = 1) : (s.raise f).get f = 1 := by
  have lt : s.get f < 2 := by simpa [hw] using s.get_lt f
  rw [State.raise, State.get_put_same, hw]
  generalize s.get f = v at lt
  revert v
  decide

theorem State.get_raise_ne {s : State} {f g : Fld} {i : Nat} (h : g.key ≠ f.key) : (s.raise f i).get g = s.get g := State.get_put_ne _ _ _ _ h

theorem State.get_putB_same {s : State} {f : Fld} {b : Bool} (hw : f.width = 1) : (s.putB f b).get f = ofBool b := by
  rw [State.putB, State.get_put_same, hw]
  cases b <;> rfl

theorem ofBool_eq_one_iff {b : Bool} : ofBool b = 1 ↔ b = true := by
  cases b <;> decide

/-! ### Components of which a statement lists the change -/

theorem State.changes.supply {s t : State} {ps : List Part} {fs : List Fld} {v : Supply} (h : s.changes t ps fs) (hp : .supply ∈ ps) :
    s.changes { t with supply := v } ps fs :=
  h.parts rfl fun p hn _ => by cases p <;> first | exact absurd hp hn | rfl | exact fun _ _ => rfl

theorem State.changes.modRst {s t : State} {ps : List Part} {fs : List Fld} {f : Reset → Reset} (h : s.changes t ps fs) (hp : .rst ∈ ps) :
    s.changes (t.modRst f) ps fs :=
  h.parts rfl fun p hn _ => by cases p <;> first | exact absurd hp hn | rfl | exact fun _ _ => rfl

theorem State.changes.modPower {s t : State} {ps : List Part} {fs : List Fld} {f : Power → Power} (h : s.changes t ps fs) (hp : .power ∈ ps) :
    s.changes (t.modPower f) ps fs :=
  h.parts rfl fun p hn _ => by cases p <;> first | exact absurd hp hn | rfl | exact fun _ _ => rfl

/-- What a wake can change: the mode's state, the harts it wakes, the fabric, mtime, and fields of the PWR and CLK pages (R158, R160, R171). -/
theorem State.changes.wake {s t : State} {ps : List Part} {fs : List Fld} {k : Nat} (h : s.changes t ps fs)
    (hp : ∀ p ∈ [Part.power, .harts, .fab, .ntu, .page 2, .page 4], p ∈ ps) : s.changes (t.wake k) ps fs :=
  State.changes_trans h (State.changes_mono (fs := [])
    ((State.wake_frame (m := 0x1400028810) (Nat.or_self _) Frame.same).changes (ps := [.power, .harts, .fab, .ntu, .page 2, .page 4]) rfl)
    hp (List.nil_subset _))

/-! ### Sources (R88) -/

theorem srcField_width (src : Source) : (srcField src).width = 1 := by cases src <;> rfl

theorem vbatOk_key_ne_srcField (src : Source) : CANX.VBAT_OK.key ≠ (srcField src).key := by cases src <;> decide

theorem State.bestSource_lt (s : State) : s.bestSource < 4 := by
  unfold State.bestSource
  repeat' split
  all_goals decide

/-- R88: the selector looks at the three validity bits and nothing else. -/
theorem State.bestSource_congr {s t : State} (h : ∀ src, t.get (srcField src) = s.get (srcField src)) : t.bestSource = s.bestSource := by
  have hv : ∀ src, t.on (srcField src) = s.on (srcField src) := fun src => by rw [State.on, h src, State.on]
  have vbat : t.on SUPPLY.VBAT_VALID = s.on SUPPLY.VBAT_VALID := hv .vbat
  have viso : t.on SUPPLY.VISO_VALID = s.on SUPPLY.VISO_VALID := hv .viso
  have vstore : t.on SUPPLY.VSTORE_VALID = s.on SUPPLY.VSTORE_VALID := hv .vstore
  simp only [State.bestSource, vbat, viso, vstore]

theorem State.bestSource_ne_zero {s : State} {src : Source} (h : s.get (srcField src) = 1) : s.bestSource ≠ 0 := by
  have valid : s.on (srcField src) = true := (State.on_eq_true_iff (srcField_width src)).mpr h
  unfold State.bestSource
  split
  · decide
  next vbat =>
    split
    · decide
    next viso =>
      split
      · decide
      next vstore =>
        cases src with
        | vbat => exact absurd valid vbat
        | viso => exact absurd valid viso
        | vstore => exact absurd valid vstore

/-- The validity of a source, 1 or 0; that of VBAT is shown on the CANX page too (R88, R497). -/
def State.setValid (s : State) (src : Source) (v : Nat) : State :=
  (s.put (srcField src) v).when (src == .vbat) (fun s => s.put CANX.VBAT_OK v)

theorem State.setValid_get (s : State) (src : Source) (v : Nat) : (s.setValid src v).get (srcField src) = v % 2 := by
  have put : (s.put (srcField src) v).get (srcField src) = v % 2 := by rw [State.get_put_same, srcField_width, Nat.pow_one]
  cases src
  case vbat => exact (State.get_put_ne _ CANX.VBAT_OK _ _ (vbatOk_key_ne_srcField .vbat).symm).trans put
  all_goals exact put

theorem State.setValid_vbatOk (s : State) (v : Nat) : (s.setValid .vbat v).get CANX.VBAT_OK = v % 2 :=
  State.get_put_same _ CANX.VBAT_OK v

theorem State.setValid_vbatOk_other {s : State} {src : Source} {v : Nat} (h : src ≠ .vbat) :
    (s.setValid src v).get CANX.VBAT_OK = s.get CANX.VBAT_OK := by
  rw [State.setValid, beq_false_of_ne h]
  exact State.get_put_ne s _ _ _ (vbatOk_key_ne_srcField src)

theorem State.setValid_changes (s : State) (src : Source) (v : Nat) {ps : List Part} {fs : List Fld} :
    s.changes (s.setValid src v) ps (srcField src :: CANX.VBAT_OK :: fs) :=
  .when (.put State.changes_rfl (by simp)) (.put (.put State.changes_rfl (by simp)) (by simp))

/-- The state with a source valid, before OFF or a brown-out ends by it (R88, R106). -/
def State.sourceShown (s : State) (src : Source) : State :=
  { s.setValid src 1 with supply := { (s.setValid src 1).supply with coldStart := false } }

theorem State.sourceShown_valid (s : State) (src : Source) : (s.sourceShown src).get (srcField src) = 1 := s.setValid_get src 1

theorem State.sourceShown_changes (s : State) (src : Source) {ps : List Part} {fs : List Fld} (hp : .supply ∈ ps) :
    s.changes (s.sourceShown src) ps (srcField src :: CANX.VBAT_OK :: fs) := (s.setValid_changes src 1).supply hp

@[simp] theorem State.sourceShown_rst (s : State) (src : Source) : (s.sourceShown src).rst = s.rst := by cases src <;> rfl

/-- R88, R93: what SOURCE_VALID comes to where the mains latch does not hold the isolated supply back. -/
theorem exec_sourceValid {s : State} {src : Source} (h : ¬(src = .viso ∧ s.isM = true ∧ s.on SUPPLY.MAINS_FAULT = true)) :
    exec (.sourceValid src) s =
      .next (((s.sourceShown src).when (src == .vbat && s.power.mode == .off && !s.on SUPPLY.VBAT_VALID) State.vbatReturn).powerBack) := by
  have hc : (src == .viso && s.isM && s.on SUPPLY.MAINS_FAULT) = false := by
    cases src <;> simp_all
  show execSourceValid src s = _
  rw [execSourceValid, hc]
  rfl

/-- R93: where it is not VBAT that returns in OFF, a source ends no OFF. -/
theorem exec_sourceValid_on {s : State} {src : Source} (h : ¬(src = .viso ∧ s.isM = true ∧ s.on SUPPLY.MAINS_FAULT = true))
    (ho : ¬(src = .vbat ∧ s.power.mode = .off)) : exec (.sourceValid src) s = .next (s.sourceShown src).powerBack := by
  have hc : (src == .vbat && s.power.mode == .off && !s.on SUPPLY.VBAT_VALID) = false := by
    cases src <;> simp_all
  rw [exec_sourceValid h, hc]
  rfl

@[simp] theorem State.modRst_rst (s : State) (f : Reset → Reset) : (s.modRst f).rst = f s.rst := rfl

theorem State.modRst_get (s : State) (f : Reset → Reset) (g : Fld) : (s.modRst f).get g = s.get g := rfl

theorem State.powerBack_of_not_held {s : State} (h : s.rst.brownHeld = false) : s.powerBack = s := by
  simp [State.powerBack, h]

/-- R93, R514: the return of VBAT in OFF. -/
theorem exec_sourceValid_vbatReturn {s : State} (ho : s.power.mode = .off) (hb : s.rst.brownHeld = false) (hd : s.rst.porDue = false)
    (hv : s.on SUPPLY.VBAT_VALID = false) :
    exec (.sourceValid .vbat) s =
      .next ((s.sourceShown .vbat).modRst (fun r => { r with porDue := true, offExit := s.trx.keptOff })) := by
  rw [exec_sourceValid (by simp), ho, hv, State.when, if_pos (by rfl), State.vbatReturn, if_neg (by simp [hd])]
  exact congrArg _ (State.powerBack_of_not_held hb)

/-! ### The end of a brown-out (R109, R199) -/

theorem State.powerBack_of_lost {s : State} (hb : s.rst.brownHeld = true) (hr : s.rst.retained = false) (hs : s.bestSource ≠ 0) :
    s.powerBack = s.modRst (fun r => { r with brownHeld := false, porDue := true }) := by
  simp [State.powerBack, hb, hr, hs]

/-- R109: the always-on island runs again from the best source, before PGOOD is judged. -/
def State.supplied (s : State) : State :=
  (((s.modRst (fun r => { r with brownHeld := false, retained := false })).put SUPPLY.ACTIVE_SRC s.bestSource).put RSTC.CAUSE_BROWNOUT 1).modPower
    (fun p => { p with islands := vput p.islands 0 .running })

theorem State.powerBack_of_retained {s : State} (hb : s.rst.brownHeld = true) (hr : s.rst.retained = true) (hs : s.bestSource ≠ 0) :
    s.powerBack = s.supplied.suppliedPgood := by
  have ends : (s.rst.brownHeld && s.bestSource != 0) = true := Bool.and_eq_true_iff.mpr ⟨hb, bne_iff_ne.mpr hs⟩
  unfold State.powerBack
  exact (if_pos ends).trans (if_pos hr)

theorem State.supplied_get (s : State) (f : Fld) :
    s.supplied.get f = ((s.put SUPPLY.ACTIVE_SRC s.bestSource).put RSTC.CAUSE_BROWNOUT 1).get f := rfl

theorem State.supplied_get_ne {s : State} {f : Fld} (ha : f.key ≠ SUPPLY.ACTIVE_SRC.key) (hc : f.key ≠ RSTC.CAUSE_BROWNOUT.key) :
    s.supplied.get f = s.get f := by
  rw [State.supplied_get, State.get_put_ne _ _ _ _ hc, State.get_put_ne _ _ _ _ ha]

theorem State.supplied_activeSrc (s : State) : s.supplied.get SUPPLY.ACTIVE_SRC = s.bestSource := by
  rw [State.supplied_get, State.get_put_ne _ _ _ _ (by decide), State.get_put_same]
  exact Nat.mod_eq_of_lt s.bestSource_lt

theorem State.supplied_cause (s : State) : s.supplied.get RSTC.CAUSE_BROWNOUT = 1 :=
  (s.supplied_get _).trans (State.get_put_same _ RSTC.CAUSE_BROWNOUT 1)

theorem State.suppliedPgood_get {s : State} {f : Fld} (h : f.key ≠ SUPPLY.PGOOD.key) : s.suppliedPgood.get f = s.get f :=
  State.get_put_ne _ _ _ _ h

theorem State.supplied_rst (s : State) : s.supplied.suppliedPgood.rst = { s.rst with brownHeld := false, retained := false } := rfl

theorem State.supplied_valid (s : State) (src : Source) : s.supplied.suppliedPgood.get (srcField src) = s.get (srcField src) := by
  cases src <;> rw [State.suppliedPgood_get (by decide), State.supplied_get_ne (by decide) (by decide)]

/-- R109: what the end of a brown-out writes beside the source's own bits. -/
theorem State.supplied_changes {s t : State} {ps : List Part} {fs : List Fld} (h : s.changes t ps fs)
    (hp : .power ∈ ps) (hr : .rst ∈ ps) (hf : [SUPPLY.ACTIVE_SRC, SUPPLY.PGOOD, RSTC.CAUSE_BROWNOUT].map Fld.key ⊆ fs.map Fld.key) :
    s.changes t.supplied.suppliedPgood ps fs :=
  .put (.modPower (.put (.put (h.modRst hr) (hf (by decide))) (hf (by decide))) hp) (hf (by decide))

/-- R88: the validity bits stand, so the selector has the best source. -/
theorem State.suppliedPgood_best (s : State) : s.supplied.suppliedPgood.get SUPPLY.ACTIVE_SRC = s.supplied.suppliedPgood.bestSource := by
  have valid : ∀ src, s.supplied.suppliedPgood.get (srcField src) = s.get (srcField src) := s.supplied_valid
  rw [State.bestSource_congr valid, State.suppliedPgood_get (by decide), State.supplied_activeSrc]

/-! ### PGOOD (R110, R113) -/

theorem State.pgoodNow_congr {s t : State} (ha : t.get SUPPLY.ACTIVE_SRC = s.get SUPPLY.ACTIVE_SRC) (hc : t.supply = s.supply) :
    t.pgoodNow = s.pgoodNow := by
  rw [State.pgoodNow, ha, hc, State.pgoodNow]

theorem State.suppliedPgood_follows (s : State) : s.suppliedPgood.get SUPPLY.PGOOD = 1 ↔ s.suppliedPgood.pgoodNow = true := by
  have now : s.suppliedPgood.pgoodNow = s.pgoodNow := State.pgoodNow_congr (State.suppliedPgood_get (by decide)) rfl
  rw [now, State.suppliedPgood, State.get_putB_same rfl, ofBool_eq_one_iff]

theorem State.judgePgood_changes (s : State) :
    s.changes s.judgePgood [.power, .harts, .fab, .ntu, .page 2, .page 4] [SUPPLY.PGOOD, SUPPLY.PGOOD_RISE, SUPPLY.PGOOD_FALL] := by
  unfold State.judgePgood
  refine .ite (.wake (.raise (.put State.changes_rfl ?_) ?_) ?_) (.ite (.raise (.put State.changes_rfl ?_) ?_) State.changes_rfl)
  all_goals decide

theorem State.judgePgood_get {s : State} {f : Fld} (hp : Part.page (f.page % 64) ∉ [Part.power, .harts, .fab, .ntu, .page 2, .page 4])
    (hf : f.key ∉ [SUPPLY.PGOOD, SUPPLY.PGOOD_RISE, SUPPLY.PGOOD_FALL].map Fld.key) : s.judgePgood.get f = s.get f :=
  s.judgePgood_changes.2 f hp hf

theorem State.judgePgood_supply (s : State) : s.judgePgood.supply = s.supply :=
  s.judgePgood_changes.1 .supply (by decide) (fun _ => Part.noConfusion)

/-- A wake leaves the SUPPLY page alone. -/
theorem State.wake_get_supplyPage {s : State} {k : Nat} {f : Fld} (h : f.page % 64 = 3) : (s.wake k).get f = s.get f :=
  (State.wake_frame (m := 0x1400028810) (Nat.or_self _) Frame.same).1 (.page 3) rfl f h

theorem State.when_wake_get_supplyPage {s : State} {b : Bool} {k : Nat} {f : Fld} (h : f.page % 64 = 3) :
    (s.when b (fun s => s.wake k)).get f = s.get f := by
  cases b
  · rfl
  · exact State.wake_get_supplyPage h

theorem State.judgePgood_follows (s : State) : s.judgePgood.get SUPPLY.PGOOD = 1 ↔ s.judgePgood.pgoodNow = true := by
  have now : s.judgePgood.pgoodNow = s.pgoodNow := State.pgoodNow_congr (State.judgePgood_get (by decide) (by decide)) s.judgePgood_supply
  have shown := State.on_eq_true_iff (s := s) (f := SUPPLY.PGOOD) rfl
  rw [now, State.judgePgood]
  split
  next rise =>
    have risen : (((s.put SUPPLY.PGOOD 1).raise SUPPLY.PGOOD_RISE).wake 5).get SUPPLY.PGOOD = 1 :=
      (State.wake_get_supplyPage rfl).trans ((State.get_raise_ne (by decide)).trans (State.get_put_same _ _ _))
    exact iff_of_true risen (Bool.and_eq_true_iff.mp rise).1
  next noRise =>
    split
    next fall =>
      have fallen : ((s.put SUPPLY.PGOOD 0).raise SUPPLY.PGOOD_FALL).get SUPPLY.PGOOD = 0 :=
        (State.get_raise_ne (by decide)).trans (State.get_put_same _ _ _)
      have low : s.pgoodNow = false := (Bool.not_eq_true' _).mp (Bool.and_eq_true_iff.mp fall).1
      rw [fallen, low]
      decide
    next noFall =>
      rw [← shown]
      revert noRise noFall
      cases s.pgoodNow <;> cases s.on SUPPLY.PGOOD <;> decide

/-! ### The selector (R89, R90) -/

theorem exec_srcChange {s : State} (ha : s.alive = true) (h0 : s.bestSource ≠ 0) (hs : s.bestSource ≠ s.get SUPPLY.ACTIVE_SRC) :
    exec .srcChange s = .next ((s.put SUPPLY.ACTIVE_SRC s.bestSource).raise SUPPLY.SRC_CHANGE).judgePgood := by
  show execSrcChange s = _
  simp [execSrcChange, State.changeSource, ha, h0, hs]

/-! ### Mains (R99 to R101) -/

theorem State.mode_ne_off_of_alive {s : State} (h : s.alive = true) : s.power.mode ≠ .off := by
  intro hm
  simp [State.alive, hm] at h

theorem exec_mainsPresentChange {s : State} {b : Bool} (hM : s.isM = true) (hp : s.on SUPPLY.MAINS_PRESENT ≠ b)
    (hf : b = true → s.on SUPPLY.MAINS_FAULT = false) (ha : s.alive = true) :
    exec (.mainsPresentChange b) s =
      .next (((s.putB SUPPLY.MAINS_PRESENT b).raise SUPPLY.MAINS_CHANGE).when b (fun s => s.wake 6)) := by
  have latched : (b && s.on SUPPLY.MAINS_FAULT) = false := by cases b <;> simp_all
  have off : (s.power.mode == .off) = false := beq_false_of_ne (State.mode_ne_off_of_alive ha)
  have alive : (s.putB SUPPLY.MAINS_PRESENT b).alive = true := ha
  show execMainsPresentChange b s = _
  simp [execMainsPresentChange, hM, hp, latched, off, alive]

/-- R93: the arrival of the mains ends OFF. -/
theorem exec_mainsPresentChange_off {s : State} (hM : s.isM = true) (hp : s.on SUPPLY.MAINS_PRESENT = false)
    (hf : s.on SUPPLY.MAINS_FAULT = false) (ho : s.power.mode = .off) (hd : s.rst.porDue = false) :
    exec (.mainsPresentChange true) s =
      .next ((s.put SUPPLY.MAINS_PRESENT 1).modRst (fun r => { r with porDue := true, offExit := true })) := by
  show execMainsPresentChange true s = _
  have changes : ¬(!s.isM || s.on SUPPLY.MAINS_PRESENT == true || (true && s.on SUPPLY.MAINS_FAULT)) = true := by
    rw [hM, hp, hf]
    decide
  have due : ¬(s.put SUPPLY.MAINS_PRESENT 1).rst.porDue = true := Bool.eq_false_iff.mp hd
  exact congrArg Host.Outcome.next ((if_neg changes).trans ((if_pos (beq_iff_eq.mpr ho)).trans (if_neg due)))

theorem exec_mainsFaultLatch {s : State} (hM : s.isM = true) (hf : s.on SUPPLY.MAINS_FAULT = false) (ha : s.alive = true) :
    exec .mainsFaultLatch s =
      .next (((s.put SUPPLY.MAINS_FAULT 1).put SUPPLY.MAINS_PRESENT 0).raise SUPPLY.MAINS_CHANGE) := by
  show execMainsFaultLatch s = _
  simp [execMainsFaultLatch, hM, hf, ha]

theorem exec_mainsLatchClear {s : State} (hf : s.on SUPPLY.MAINS_FAULT = true) (hp : s.on SUPPLY.MAINS_PRESENT = false)
    (ha : s.alive = true) : exec .mainsLatchClear s = .next ((s.put SUPPLY.MAINS_FAULT 0).raise SUPPLY.MAINS_CHANGE) := by
  show execMainsLatchClear s = _
  simp [execMainsLatchClear, hf, hp, ha]

/-! ### O8 -/

/-- Settles O8: each command comes to a short chain of field writes under the hypotheses of its clause; what the chain leaves unchanged is read off it,
and of a wake and of a judging of PGOOD what their frames say. -/
theorem supplySources : Obligations.SupplySources := by
  unfold Obligations.SupplySources
  refine ⟨?valid, ?latched, ?vbatReturn, ?lost, ?retained, ?invalid, ?selector, ?mains, ?mainsOff, ?latch, ?latchClear, ?coldStart⟩
  case valid =>
    intro s src hb ho hm
    refine ⟨s.sourceShown src, ?_, ⟨s.sourceShown_valid src, rfl, ?_, State.setValid_vbatOk_other⟩, s.sourceShown_changes src (by simp)⟩
    · rw [exec_sourceValid_on hm ho, State.powerBack_of_not_held (by simpa using hb)]
    · rintro rfl
      exact s.setValid_vbatOk 1
  case latched =>
    intro s hM hf
    refine ⟨s, ?_, rfl, State.changes_rfl⟩
    show execSourceValid .viso s = _
    simp [execSourceValid, hM, hf]
  case vbatReturn =>
    intro s ho hb hd hv
    exact ⟨_, exec_sourceValid_vbatReturn ho hb hd hv, ⟨s.sourceShown_valid .vbat, rfl⟩,
      (s.sourceShown_changes .vbat (by simp)).modRst (by simp)⟩
  case lost =>
    intro s src hb hr ho hm
    have best := State.bestSource_ne_zero (s.sourceShown_valid src)
    have back := State.powerBack_of_lost (s := s.sourceShown src) (by simpa) (by simpa) best
    refine ⟨_, exec_sourceValid_on hm (fun h => ho h.2), ?_, ?_⟩ <;> rw [back]
    · exact ⟨s.sourceShown_valid src, by simp⟩
    · exact (s.sourceShown_changes src (by simp)).modRst (by simp)
  case retained =>
    intro s src hb hr ho hm
    have best := State.bestSource_ne_zero (s.sourceShown_valid src)
    have back := State.powerBack_of_retained (s := s.sourceShown src) (by simpa) (by simpa) best
    refine ⟨_, exec_sourceValid_on hm (fun h => ho h.2), ?_, ?_⟩ <;> rw [back]
    · refine ⟨?_, ?_, ?_, ?_, State.suppliedPgood_follows _⟩
      · exact (State.supplied_valid _ src).trans (s.sourceShown_valid src)
      · rw [State.supplied_rst, State.sourceShown_rst]
      · exact (State.suppliedPgood_get (by decide)).trans (State.supplied_cause _)
      · exact State.suppliedPgood_best _
    · exact State.supplied_changes (s.sourceShown_changes src (by simp)) (by simp) (by simp) (by simp)
  case invalid =>
    intro s src
    refine ⟨s.setValid src 0, rfl, ⟨s.setValid_get src 0, ?_, State.setValid_vbatOk_other⟩, s.setValid_changes src 0⟩
    rintro rfl
    exact s.setValid_vbatOk 0
  case selector =>
    intro s ha h0 hs
    refine ⟨_, exec_srcChange ha h0 hs, ⟨?_, ?_, State.judgePgood_follows _⟩, ?_⟩
    · rw [State.judgePgood_get (by decide) (by decide), State.get_raise_ne (by decide), State.get_put_same]
      exact Nat.mod_eq_of_lt s.bestSource_lt
    · rw [State.judgePgood_get (by decide) (by decide), State.get_raise_same rfl]
    · exact State.changes_trans (.raise (.put State.changes_rfl (by decide)) (by decide))
        (State.changes_mono (State.judgePgood_changes _) (by simp) (by decide))
  case mains =>
    intro s b hM hp hf ha
    refine ⟨_, exec_mainsPresentChange hM hp hf ha, ?_, ?_⟩
    · exact ⟨(State.when_wake_get_supplyPage rfl).trans ((State.get_raise_ne (by decide)).trans (State.get_putB_same rfl)),
        (State.when_wake_get_supplyPage rfl).trans (State.get_raise_same rfl)⟩
    · exact .when (.raise (.put State.changes_rfl (by decide)) (by decide))
        (.wake (.raise (.put State.changes_rfl (by decide)) (by decide)) (by simp))
  case mainsOff =>
    intro s hM hp hf ho hd
    exact ⟨_, exec_mainsPresentChange_off hM hp hf ho hd, ⟨(State.modRst_get _ _ _).trans (State.get_put_same s _ 1), rfl, rfl⟩,
      .modRst (.put State.changes_rfl (by decide)) (by simp)⟩
  case latch =>
    intro s hM hf ha
    refine ⟨_, exec_mainsFaultLatch hM hf ha, ⟨?_, ?_, State.get_raise_same rfl⟩,
      .raise (.put (.put State.changes_rfl (by decide)) (by decide)) (by decide)⟩
    · rw [State.get_raise_ne (by decide), State.get_put_ne _ _ _ _ (by decide), State.get_put_same]
      rfl
    · rw [State.get_raise_ne (by decide), State.get_put_same]
      rfl
  case latchClear =>
    intro s hf hp ha
    refine ⟨_, exec_mainsLatchClear hf hp ha, ⟨?_, State.get_raise_same rfl⟩, .raise (.put State.changes_rfl (by decide)) (by decide)⟩
    rw [State.get_raise_ne (by decide), State.get_put_same]
    rfl
  case coldStart =>
    intro s on
    refine ⟨_, rfl, ?_, .ite (.supply State.changes_rfl (by simp)) State.changes_rfl⟩
    by_cases h : s.bestSource = 0 <;> simp [h]

end Sys2Proof.Machine
end

section
/-!
PROOFS. Power entry: the refused pair of PGOOD thresholds, and the reference that the gauge takes while a tenant sequence waits for ADC-B.
-/

namespace Sys2Proof.Machine

/-! ### A refused pair of thresholds (R111) -/

/-- The state after reset with ON_CODE listed in the field file at its own reset value. A write of a field never leaves it so: at its reset value a
field is not listed (`State.put`). -/
def onCodeListed : State := { State.reset with fields := Table.insert State.reset.fields SUPPLY.ON_CODE.key 24 }

theorem onCodeListed_admits : onCodeListed.admits (.hart 0) 3 0x14 true := by decide +kernel

/-- A field record with the key of ON_CODE and another reset value, as no register has one. -/
def onCodeOtherReset : Fld := { SUPPLY.ON_CODE with reset := 0 }

/-- The refused pair 0x23 and 0x20 puts ON_CODE back at its reset value 24, which takes it off the list: the other record, which read 24, now reads its
own reset value. -/
theorem onCodeListed_refused_get :
    (onCodeListed.cmdWrite (.hart 0) (pageAddr 3 0x14) 4 0x2023).get onCodeOtherReset ≠ onCodeListed.get onCodeOtherReset := by
  decide +kernel

/-- Refutes O9 at its clause on a refused pair of thresholds, by the letter of its frame: that speaks of every field record, also one that no register
has, and of every field file, also one that no command leaves. The old pair is written back, which keeps every register field but not how the field
file lists it. -/
theorem not_pgoodAndRails : ¬ Obligations.PgoodAndRails := by
  unfold Obligations.PgoodAndRails
  rintro ⟨-, -, -, refused, -⟩
  obtain ⟨t, step, -, -, fields⟩ := refused onCodeListed (.hart 0) 0x2023 onCodeListed_admits (by decide)
  obtain rfl : onCodeListed.cmdWrite (.hart 0) (pageAddr 3 0x14) 4 0x2023 = t := Host.Outcome.next.inj step
  exact onCodeListed_refused_get (fields onCodeOtherReset (by decide) (by decide))

/-! ### A reference while a tenant sequence holds ADC-B (R105, R116) -/

/-- The rest has lasted and its sample converts; a tenant sequence has started and waits for ADC-B (R37, R658), and then an open-circuit
measurement has fallen due. -/
def sequenceWaits : State :=
  { State.reset.put ADC.B_BUSY 1 with
    supply := { State.reset.supply with
      mpptDue := true
      sampleDue := true
      gaugeConv := true
      age := 1
      inBand := true
      restElapsed := true
      uncOver := true }
    ctl := { State.reset.ctl with adcB := some 0 } }

/-- Four commands lead there from the state after reset. -/
theorem run_reset_eq_sequenceWaits : core.run 4 { State.reset with pending :=
    [.storageCurrentBandChange true ⟨0, 0, 1⟩, .restTimeExpiry, .adcbStart none, .mpptDue] } = .next sequenceWaits := rfl

/-- Refutes O10 at its clause on the reference, which has the measurement that is due open the input as the sample completes. The sample may
complete while a tenant sequence waits for ADC-B (R37), and the measurement waits for that sequence (R105). -/
theorem not_harvesterAndGauge : ¬ Obligations.HarvesterAndGauge := by
  unfold Obligations.HarvesterAndGauge
  rintro ⟨-, -, -, -, reference, -⟩
  obtain ⟨t, step, ⟨-, -, -, -, -, -, -, -, opens, -⟩, -⟩ := reference sequenceWaits 3000 ⟨0, 0, 0⟩
    (by decide +kernel) (by decide +kernel) rfl rfl (by decide +kernel)
  have closed : t.supply.inputOpen = false := by
    obtain rfl := Host.Outcome.next.inj step
    decide +kernel
  exact Bool.noConfusion (closed.symm.trans opens)

end Sys2Proof.Machine
end

section
/-!
PROOFS. Time on an empty queue: what a counting step is made of, and what each part of it leaves unchanged.
-/

namespace Sys2Proof.Machine

/-! ### The parts of a counting step -/

/-- An XO32 period is the counting of network time, then counting of mtime or of periods in CALM, then cycles of the control island, which pass only
with that island up. What holds after the first and is kept by the others holds after the period. -/
theorem State.coarseTick_induct {P : State → Prop} {s : State} (time : P s.countTime) (mtime : ∀ t n, P t → P (t.countMtime n))
    (calm : ∀ t : State, P t → P { t with ntu := { t.ntu with calmPeriods := t.ntu.calmPeriods + 1 } })
    (cycle : s.up .control = true → ∀ t, P t → P t.controlCycle) : P s.coarseTick := by
  unfold State.coarseTick
  extract_lets t ns ntu u
  split
  · exact calm t time
  · have counted : P u := by
      unfold u
      cases t.on CLK.XO40_OK with
      | false => exact time
      | true => exact mtime t ns time
    have up : u.up .control = s.up .control := by
      unfold u
      cases t.on CLK.XO40_OK <;> rfl
    rw [up]
    cases running : s.up .control with
    | false => exact counted
    | true => exact List.foldlRecOn _ _ counted fun v hv _ _ => cycle running v hv

/-- What 10 ns of an entry to CALM add to its counters. -/
def Power.entryStep (p : Power) : Power := { p with entryNs := p.entryNs + 10, edgeNs := p.edgeNs + 10 }

/-- The same where an XO32 edge is taken out of them, after `n` ns. -/
def Power.entryEdge (n : Nat) (p : Power) : Power := { p.entryStep with edgeNs := p.entryStep.edgeNs - n }

theorem State.entryTick_eq (s : State) :
    s.entryTick =
      if (s.power.coarse && decide (s.get CLK.LF_ADDEND / 2 ^ 16 ≤ s.power.edgeNs + 10)) = true then
        (s.modPower (Power.entryEdge (s.get CLK.LF_ADDEND / 2 ^ 16))).coarseTick
      else (s.modPower Power.entryStep).when (!s.power.coarse) (fun t => t.countMtime 10) := rfl

/-- 10 ns of an entry to CALM in coarse mode: an XO32 period passes at its edge. -/
theorem State.entryTick_of_coarse {s : State} (h : s.power.coarse = true) :
    s.entryTick = s.modPower Power.entryStep ∨
      s.entryTick = (s.modPower (Power.entryEdge (s.get CLK.LF_ADDEND / 2 ^ 16))).coarseTick := by
  rw [State.entryTick_eq]
  split
  · exact .inr rfl
  · rw [h]
    exact .inl rfl

/-- 10 ns of an entry to CALM before coarse mode: mtime counts. -/
theorem State.entryTick_of_fine {s : State} (h : s.power.coarse = false) :
    s.entryTick = (s.modPower Power.entryStep).countMtime 10 := by
  rw [State.entryTick_eq, h]
  rfl

theorem State.tick_of_off {s : State} (h : s.power.mode = .off) : s.tick = s := by
  simp [State.tick, h]

theorem State.tick_of_entering {s : State} (ho : s.power.mode ≠ .off) (he : s.power.phase = .entering) : s.tick = s.entryTick := by
  simp [State.tick, ho, he]

theorem State.tick_of_coarse {s : State} (ho : s.power.mode ≠ .off) (he : s.power.phase ≠ .entering) (hc : s.power.coarse = true) :
    s.tick = s.coarseTick := by
  simp [State.tick, ho, he, hc]

/-- What a counting step outside coarse mode adds to mtime, in ns (R137, R146). -/
def State.tickNs (s : State) : Nat := if s.power.mode == .lull then 25 else 10

theorem State.tick_of_up {s : State} (ho : s.power.mode ≠ .off) (he : s.power.phase ≠ .entering) (hc : s.power.coarse = false)
    (ht : s.up .time = true) :
    s.tick = (s.countTime.countMtime s.tickNs).when (s.up .control) (fun t => t.controlCycle.controlCycle) := by
  rw [State.tick, if_neg (by simpa using ho), if_neg (by simpa using he), if_neg (by simp [hc]), if_pos ht]
  rfl

theorem State.tick_of_down {s : State} (he : s.power.phase ≠ .entering) (hc : s.power.coarse = false) (ht : s.up .time = false) :
    s.tick = s := by
  simp [State.tick, he, hc, ht]

/-- A counting step is a chain of changes to the NTU, of changes to the counters of an entry to CALM, and of cycles of the control island, which pass
only with that island up. What all of these keep is kept by the step. -/
theorem State.tick_induct {P : State → Prop} {s : State} (start : P s) (ntu : ∀ (t : State) v, P t → P { t with ntu := v })
    (entry : ∀ t f, P t → P (t.modPower f)) (cycle : s.up .control = true → ∀ t, P t → P t.controlCycle) : P s.tick := by
  have time : ∀ t : State, P t → P t.countTime := fun t => ntu t t.countTime.ntu
  have mtime : ∀ (t : State) n, P t → P (t.countMtime n) := fun t n => ntu t (t.countMtime n).ntu
  have calm := fun t : State => ntu t { t.ntu with calmPeriods := t.ntu.calmPeriods + 1 }
  by_cases ho : s.power.mode = .off
  · rw [State.tick_of_off ho]
    exact start
  by_cases he : s.power.phase = .entering
  · rw [State.tick_of_entering ho he]
    cases hc : s.power.coarse with
    | false =>
      rw [State.entryTick_of_fine hc]
      exact mtime _ _ (entry _ _ start)
    | true =>
      rcases State.entryTick_of_coarse hc with e | e <;> rw [e]
      · exact entry _ _ start
      · exact State.coarseTick_induct (time _ (entry _ _ start)) mtime calm cycle
  cases hc : s.power.coarse with
  | true =>
    rw [State.tick_of_coarse ho he hc]
    exact State.coarseTick_induct (time _ start) mtime calm cycle
  | false =>
    cases ht : s.up .time with
    | false =>
      rw [State.tick_of_down he hc ht]
      exact start
    | true =>
      rw [State.tick_of_up ho he hc ht]
      have counted := mtime _ s.tickNs (time _ start)
      cases hu : s.up .control with
      | false => rwa [State.when_false]
      | true =>
        rw [State.when_true]
        exact cycle hu _ (cycle hu _ counted)

/-! ### A cycle of the control island -/

theorem State.controlCycle_kept {s : State} {p : Part} (h : (0x500000001400000 : Nat).testBit p.bit = false) : s.keeps s.controlCycle p :=
  (State.controlCycle_frame (m := 0x500000001400000) (Nat.or_self _) Frame.same).1 p h

@[simp] theorem State.controlCycle_power (s : State) : s.controlCycle.power = s.power := State.controlCycle_kept (p := .power) rfl

@[simp] theorem State.controlCycle_ntu (s : State) : s.controlCycle.ntu = s.ntu := State.controlCycle_kept (p := .ntu) rfl

theorem State.controlCycle_toothTime (s : State) : s.controlCycle.toothTime = (s.toothTime + 1) % 2 ^ 32 := by
  have written : s.writeOutputs.toothTime = s.toothTime :=
    (State.writeOutputs_frame (m := 0x500000000400000) (Nat.or_self _) Frame.same).1 .toothTime rfl
  have counted : ∀ t : State, ((List.range 6).foldl State.pairCount t).toothTime = t.toothTime := fun t =>
    (Frame.foldl (m := 0x400000000400000) (fun _ _ => State.pairCount_frame (Nat.or_self _)) Frame.same).1 .toothTime rfl
  rw [State.controlCycle, counted, written]

/-! ### Countings with no committed output -/

/-- From `s0` to `t` nothing but time, the counters of an entry to CALM and those of the control island have counted, and no output waits to be
written (R649). -/
def State.counted (s0 t : State) : Prop :=
  t.ctl.out = [] ∧ s0.changes t [.ntu, .toothTime, .ctl, .power] ((List.range 6).map PWM.CNT)

theorem State.changes.ctl {s t : State} {ps : List Part} {fs : List Fld} {v : Control} (h : s.changes t ps fs) (hp : .ctl ∈ ps) :
    s.changes { t with ctl := v } ps fs :=
  h.parts rfl fun p hn _ => by cases p <;> first | exact absurd hp hn | rfl | exact fun _ _ => rfl

theorem State.changes.ntu {s t : State} {ps : List Part} {fs : List Fld} {v : Ntu} (h : s.changes t ps fs) (hp : .ntu ∈ ps) :
    s.changes { t with ntu := v } ps fs :=
  h.parts rfl fun p hn _ => by cases p <;> first | exact absurd hp hn | rfl | exact fun _ _ => rfl

theorem State.changes.toothTime {s t : State} {ps : List Part} {fs : List Fld} {v : Nat} (h : s.changes t ps fs) (hp : .toothTime ∈ ps) :
    s.changes { t with toothTime := v } ps fs :=
  h.parts rfl fun p hn _ => by cases p <;> first | exact absurd hp hn | rfl | exact fun _ _ => rfl

theorem State.counted.pairCount {s0 t : State} {k : Nat} (h : s0.counted t) (hk : k < 6) : s0.counted (t.pairCount k) := by
  have listed : (PWM.CNT k).key ∈ ((List.range 6).map PWM.CNT).map Fld.key :=
    List.mem_map_of_mem (List.mem_map_of_mem (List.mem_range.mpr hk))
  unfold State.pairCount
  split
  · exact h
  · refine ⟨?_, State.changes.ctl (.ite (.put h.2 listed) (.ite (.put h.2 listed) (.put h.2 listed))) (by simp)⟩
    simp only [State.sideCount, apply_ite State.ctl, State.put_ctl, ite_self, h.1]

theorem State.counted.controlCycle {s0 t : State} (h : s0.counted t) : s0.counted t.controlCycle := by
  have written : t.writeOutputs = { t with ctl := { t.ctl with out := [] } } := by rw [State.writeOutputs, h.1, List.foldl_nil]
  unfold State.controlCycle
  rw [written]
  refine List.foldlRecOn _ _ ?_ fun u hu k hk => hu.pairCount (List.mem_range.mp hk)
  exact ⟨rfl, .toothTime (.ctl h.2 (by simp)) (by simp)⟩

theorem State.tick_counted {s : State} (h : s.ctl.out = []) : s.counted s.tick :=
  State.tick_induct (P := s.counted) ⟨h, State.changes_rfl⟩ (fun _ _ ht => ⟨ht.1, .ntu ht.2 (by simp)⟩)
    (fun _ _ ht => ⟨ht.1, .modPower ht.2 (by simp)⟩) (fun _ _ ht => ht.controlCycle)

/-- With the control island down nothing of it counts. -/
theorem State.tick_changes_of_down {s : State} (h : s.up .control = false) : s.changes s.tick [.ntu, .power] [] :=
  State.tick_induct (P := fun t => s.changes t [.ntu, .power] []) State.changes_rfl (fun _ _ ht => .ntu ht (by simp))
    (fun _ _ ht => .modPower ht (by simp)) (fun up => absurd (h.symm.trans up) Bool.false_ne_true)

/-! ### Network time -/

/-- Network time with its fraction, in 2^-32 ns, after one counting step (R398). -/
def State.nextFine (s : State) : Nat := (Int.ofNat (s.now * 2 ^ 32 + s.ntu.frac) + s.addend).toNat

/-- `t` shows the time that follows that of `s`. -/
def State.timeFollows (s t : State) : Prop := t.now = s.nextFine / 2 ^ 32 % timeRange ∧ t.ntu.frac = s.nextFine % 2 ^ 32

theorem State.countTime_follows (s : State) : s.timeFollows s.countTime := ⟨Nat.div_add_mod' _ nsPerSec, rfl⟩

theorem State.controlCycle_now (s : State) : s.controlCycle.now = s.now := by rw [State.now, State.controlCycle_ntu, State.now]

theorem State.timeFollows.controlCycle {s t : State} (h : s.timeFollows t) : s.timeFollows t.controlCycle :=
  ⟨t.controlCycle_now.trans h.1, (congrArg Ntu.frac t.controlCycle_ntu).trans h.2⟩

theorem State.coarseTick_follows (s : State) : s.timeFollows s.coarseTick :=
  State.coarseTick_induct s.countTime_follows (fun _ _ h => h) (fun _ h => h) (fun _ _ h => h.controlCycle)

theorem State.tick_follows {s : State} (ho : s.power.mode ≠ .off) (he : s.power.phase ≠ .entering)
    (hr : s.power.coarse = true ∨ s.up .time = true) : s.timeFollows s.tick := by
  cases hc : s.power.coarse with
  | true => exact (State.tick_of_coarse ho he hc).symm ▸ s.coarseTick_follows
  | false =>
    rw [State.tick_of_up ho he hc (hr.resolve_left (by simp [hc]))]
    have counted : s.timeFollows (s.countTime.countMtime s.tickNs) := s.countTime_follows
    cases s.up .control with
    | false => rwa [State.when_false]
    | true =>
      rw [State.when_true]
      exact counted.controlCycle.controlCycle

/-! ### What counts an entry to CALM -/

theorem State.coarseTick_power (s : State) : s.coarseTick.power = s.power :=
  State.coarseTick_induct (P := fun t => t.power = s.power) rfl (fun _ _ h => h) (fun _ h => h) (fun _ t h => t.controlCycle_power.trans h)

theorem State.tick_power {s : State} (he : s.power.phase ≠ .entering) : s.tick.power = s.power := by
  by_cases ho : s.power.mode = .off
  · rw [State.tick_of_off ho]
  cases hc : s.power.coarse with
  | true => rw [State.tick_of_coarse ho he hc, s.coarseTick_power]
  | false =>
    cases ht : s.up .time with
    | false => rw [State.tick_of_down he hc ht]
    | true =>
      rw [State.tick_of_up ho he hc ht]
      have counted : (s.countTime.countMtime s.tickNs).power = s.power := rfl
      cases s.up .control with
      | false => rwa [State.when_false]
      | true => rwa [State.when_true, State.controlCycle_power, State.controlCycle_power]

theorem State.entryTick_entryNs (s : State) : s.entryTick.power.entryNs = s.power.entryNs + 10 := by
  cases hc : s.power.coarse with
  | false => rw [State.entryTick_of_fine hc]; rfl
  | true =>
    rcases State.entryTick_of_coarse hc with e | e <;> rw [e]
    · rfl
    · rw [State.coarseTick_power]; rfl

/-! ### O2 -/

/-- Settles O2: the step is the chain of `State.tick_induct`; each clause says what its links do to one part, or which links there are. -/
theorem idleStep : Obligations.IdleStep := by
  unfold Obligations.IdleStep
  intro s idle
  refine ⟨s.tick, ?step, ?frame, fun h => (State.tick_counted h).2, State.tick_of_off, State.tick_power, State.tick_of_down, ?entry,
    State.tick_follows, ?tooth, State.tick_changes_of_down⟩
  case step => rw [step, idle]
  case frame => exact (State.tick_frame (m := 0x500000001420010) (Nat.or_self _) Frame.same).changes rfl
  case entry =>
    intro ho he
    rw [State.tick_of_entering ho he]
    exact ⟨s.entryTick_entryNs, fun hc => State.entryTick_of_fine hc ▸ rfl⟩
  case tooth =>
    intro ho he hc ht hu
    rw [State.tick_of_up ho he hc ht, hu]
    rw [State.when_true, State.controlCycle_toothTime, State.controlCycle_toothTime, Nat.mod_add_mod]
    rfl

end Sys2Proof.Machine
end

section
/-!
PROOFS. Clocks, islands and modes: the watchdogs' windows at an exit from CALM that fails, a hart's reservation at the release of the core island, and
the mains arrival of a TD480-B.
-/

namespace Sys2Proof.Machine

/-! ### An exit from CALM that fails (R152, R172) -/

/-- An exit from CALM in which XO40 does not start, with the first half of a service noted for the watchdog of T1. -/
def exitWithHalfService : State :=
  { State.reset.put CLK.XO40_OK 0 with
    power := { State.reset.power with
      mode := .calm
      phase := .leaving
      fromCalm := true }
    wdt := vput State.reset.wdt 1 ⟨some 5⟩ }

/-- The failed exit starts the watchdogs' windows anew: nothing is left of the half service. -/
theorem exitWithHalfService_timeout_wdt : exitWithHalfService.xo40Timeout.wdt ≠ exitWithHalfService.wdt := by decide +kernel

/-- Refutes O15 at its clause on XO40_START_TIMEOUT, whose list of what changes leaves out the watchdogs: the command starts their windows anew where
the exit is one from CALM. From reset a window is never half served there, since R152 stops the watchdogs up to WAKE_DONE; the clause has no such
premise. -/
theorem not_crystalsAndPoints : ¬ Obligations.CrystalsAndPoints := by
  unfold Obligations.CrystalsAndPoints
  rintro ⟨-, startTimeout, -⟩
  obtain ⟨t, step, -, parts, -⟩ := startTimeout exitWithHalfService rfl rfl (by decide +kernel)
  obtain rfl : exitWithHalfService.xo40Timeout = t := Host.Outcome.next.inj step
  exact exitWithHalfService_timeout_wdt (parts .wdt (by decide) (fun _ => Part.noConfusion))

/-! ### The release of the core island (R150, R313, R336) -/

/-- The core island waits for its release, with a descriptor of T1 queued in slot 0. Hart 1 has reserved the first word of T1's completion ring, in
T1's granule 0. The owner ciphers have keys of zeros. -/
def ringReserved : State :=
  { (State.reset.put (QMGR.RING_SIZE 1) 8).put (QMGR.RING_BASE 1) (0x20000000 / 8) with
    owners := [(256 * tblGranule, 1)]
    power := { State.reset.power with islands := vput State.reset.power.islands (islandNo .core) .powering }
    harts := vmod State.reset.harts 1 (fun h => { h with resv := some 0x20000000 })
    mem := { State.reset.mem with keys := Vector.replicate 5 0 }
    q := { noQueues with
      slots := [(0, { owner := 1, state := 2, status := 0, queue := 0, cancel := false, shown := true })]
      queues := [(0, [0])] } }

/-- The same with a deadline in word 5 of the descriptor, 256 ns before the present time. -/
def ringReservedLate : State := ringReserved.setWord 1 (slotAddr 0 + 20) 0xFFFFFF00

/-- The descriptor completes DEADLINE_MISSED, and its ring entry ends the reservation. -/
theorem ringReservedLate_release_harts : (ringReservedLate.release .core).harts ≠ ringReservedLate.harts := by
  intro same
  have ended : ((ringReservedLate.release .core).hart 1).resv = none := by decide +kernel
  have stood : (ringReservedLate.hart 1).resv = some 0x20000000 := by decide +kernel
  rw [State.hart, same, ← State.hart, stood] at ended
  exact Option.some_ne_none _ ended

/-- Refutes O16 at its clause on ISLAND_RELEASE, whose list of what changes leaves out the harts: the release of the core island judges the queued
descriptors against their deadlines (R150), and the ring entry of one that completes (R336) is a write by another master, which ends a hart's
reservation of that word (R313). -/
theorem not_islandSwitches : ¬ Obligations.IslandSwitches := by
  unfold Obligations.IslandSwitches
  rintro ⟨-, -, -, -, islandRelease, -⟩
  obtain ⟨t, step, -, parts, -⟩ := islandRelease ringReservedLate .core (by decide) (by decide +kernel) (by decide +kernel) rfl rfl
    (fun _ waits => absurd waits List.not_mem_nil)
  obtain rfl : ringReservedLate.release .core = t := Host.Outcome.next.inj step
  exact ringReservedLate_release_harts (parts .harts (by decide) (fun _ => Part.noConfusion))

/-! ### Mains arrival on a TD480-B (R2, R19) -/

/-- Mains arrival is no wake source there. -/
theorem exec_wakeDetect_mains {s : State} (h : s.isM = false) : exec (.wakeDetect 6) s = .next s := by
  have noSource : ((6 : Fin 7).val != 6 || s.isM) = false := by
    rw [h]
    rfl
  show execWakeDetect 6 s = _
  rw [execWakeDetect, noSource, State.when_false]

/-- The factory's fuses of a TD480-B: VARIANT is 0b10, and FACTORY_CRC goes with it (R189, R192). -/
def boardNetFuses : Vector Word 64 := vput (vput factoryFuses 0 0x01424202) 7 0x4640

/-- A TD480-B in LULL, with the wake enable of mains arrival set. -/
def boardNetLull : State :=
  { State.reset.put PWR.WAKE_EN 0x40 with
    power := { State.reset.power with mode := .lull }
    rst := { State.reset.rst with
      fuses := boardNetFuses
      shadow := boardNetFuses } }

theorem boardNetLull_isM : boardNetLull.isM = false := by decide +kernel

theorem boardNetLull_wakeEn : bit (boardNetLull.get PWR.WAKE_EN) (6 : Fin 7) = true := by decide +kernel

theorem boardNetLull_wakeCause : bit (boardNetLull.get PWR.WAKE_CAUSE) (6 : Fin 7) = false := by decide +kernel

/-- Refutes O17 at its clause on a wake from LULL, which has each of the seven sources of Table 4.8 set its cause bit where it is enabled. The enable of
mains arrival can be set on a TD480-B too, and has no effect there (R2, R19). -/
theorem not_powerModes : ¬ Obligations.PowerModes := by
  unfold Obligations.PowerModes
  rintro ⟨-, -, -, -, -, -, -, wakeFromLull, -⟩
  obtain ⟨t, step, ⟨cause, -⟩, -⟩ := wakeFromLull boardNetLull 6 rfl rfl boardNetLull_wakeEn
  obtain rfl : boardNetLull = t := Host.Outcome.next.inj ((exec_wakeDetect_mains boardNetLull_isM).symm.trans step)
  exact Bool.noConfusion (boardNetLull_wakeCause.symm.trans cause)

end Sys2Proof.Machine
end

section
/-!
PROOFS. The invariant: the state after reset has it, and the frames of the 305 meanings carry it over every step.
-/

namespace Sys2Proof.Machine

/-- Settles O5: after reset the memories list no byte, and no FIFO and no posting buffer holds anything. -/
theorem resetInv : Obligations.ResetInv := by
  unfold Obligations.ResetInv
  rintro s rfl
  exact ⟨rfl, fifo_none, posts_none, Nat.zero_lt_succ _⟩

/-- Every command answers a next state, within a frame of everything but the queue of commands. -/
theorem exec_frame (c : Instr) (s : State) : ∃ t, exec c s = .next t ∧ Frame (2 ^ 96 - 2) s t :=
  match c with
  | .registerWrite .. => execRegisterWrite_frame rfl .same
  | .sourceValid .. => execSourceValid_frame rfl .same
  | .sourceInvalid .. => execSourceInvalid_frame rfl .same
  | .mainsPresentChange .. => execMainsPresentChange_frame rfl .same
  | .brownOut .. => execBrownOut_frame rfl .same
  | .vioPresent .. => execVioPresent_frame rfl .same
  | .trngStartupTests .. => execTrngStartupTests_frame rfl .same
  | .memoryInit .. => execMemoryInit_frame rfl .same
  | .bootSequencerCheck .. => execBootSequencerCheck_frame rfl .same
  | .bootCopyDone .. => execBootCopyDone_frame rfl .same
  | .swresetSys .. => execSwresetSys_frame rfl .same
  | .swresetTenant .. => execSwresetTenant_frame rfl .same
  | .tenRstDone .. => execTenRstDone_frame rfl .same
  | .fuseProgram .. => execFuseProgram_frame rfl .same
  | .fuseProgramDone .. => execFuseProgramDone_frame rfl .same
  | .fuseVerify .. => execFuseVerify_frame rfl .same
  | .rstcHartRunWrite .. => execRstcHartRunWrite_frame rfl .same
  | .lfCalWindowEnd .. => execLfCalWindowEnd_frame rfl .same
  | .opCmdWrite .. => execOpCmdWrite_frame rfl .same
  | .pwrIslandClear .. => execPwrIslandClear_frame rfl .same
  | .pwrIslandSet .. => execPwrIslandSet_frame rfl .same
  | .islandRelease .. => execIslandRelease_frame rfl .same
  | .modeReqWrite .. => execModeReqWrite_frame rfl .same
  | .wakeDetect .. => execWakeDetect_frame rfl .same
  | .mpptSettleEnd .. => execMpptSettleEnd_frame rfl .same
  | .coldStart .. => execColdStart_frame rfl .same
  | .supplyPgoodWrite .. => execSupplyPgoodWrite_frame rfl .same
  | .gaugeSampleDue .. => execGaugeSampleDue_frame rfl .same
  | .restTaken .. => execRestTaken_frame rfl .same
  | .uncOver .. => execUncOver_frame rfl .same
  | .gaugeChargeRead .. => execGaugeChargeRead_frame rfl .same
  | .railFault .. => execRailFault_frame rfl .same
  | .railRetry .. => execRailRetry_frame rfl .same
  | .tenOwnDataWrite .. => execTenOwnDataWrite_frame rfl .same
  | .ownerChangeIdlePoint .. => execOwnerChangeIdlePoint_frame rfl .same
  | .pageLockWrite .. => execPageLockWrite_frame rfl .same
  | .quotaWrite .. => execQuotaWrite_frame rfl .same
  | .hartLoad .. => execHartLoad_frame rfl .same
  | .hartFetch .. => execHartFetch_frame rfl .same
  | .hartStoreLocal .. => execHartStoreLocal_frame rfl .same
  | .postedStore .. => execPostedStore_frame rfl .same
  | .postedStoreDone .. => execPostedStoreDone_frame rfl .same
  | .faultnFenceRead .. => execFaultnFenceRead_frame rfl .same
  | .fenceReturn .. => execFenceReturn_frame rfl .same
  | .faultnRec3Read .. => execFaultnRec3Read_frame rfl .same
  | .wdtServiceWrite .. => execWdtServiceWrite_frame rfl .same
  | .wdtWarn .. => execWdtWarn_frame rfl .same
  | .watchdogExpiry .. => execWatchdogExpiry_frame rfl .same
  | .wdtLockWrite .. => execWdtLockWrite_frame rfl .same
  | .flashCmdProgram .. => execFlashCmdProgram_frame rfl .same
  | .flashCmdErase .. => execFlashCmdErase_frame rfl .same
  | .flashCmdGenBump .. => execFlashCmdGenBump_frame rfl .same
  | .flashPulseEnd .. => execFlashPulseEnd_frame rfl .same
  | .eraseSegmentEnd .. => execEraseSegmentEnd_frame rfl .same
  | .flashReadDuringErase .. => execFlashReadDuringErase_frame rfl .same
  | .scrubPass .. => execScrubPass_frame rfl .same
  | .crcDataWrite .. => execCrcDataWrite_frame rfl .same
  | .crcRestart .. => execCrcRestart_frame rfl .same
  | .trngDataRead .. => execTrngDataRead_frame rfl .same
  | .wfi .. => execWfi_frame rfl .same
  | .lr .. => execLr_frame rfl .same
  | .sc .. => execSc_frame rfl .same
  | .amo .. => execAmo_frame rfl .same
  | .fenceI .. => execFenceI_frame rfl .same
  | .illegalInstruction .. => execIllegalInstruction_frame rfl .same
  | .sysMtimeLoRead .. => execSysMtimeLoRead_frame rfl .same
  | .mtimecmpReached .. => execMtimecmpReached_frame rfl .same
  | .irqnMsipWrite .. => execIrqnMsipWrite_frame rfl .same
  | .irqnClaimRead .. => execIrqnClaimRead_frame rfl .same
  | .irqnClaimWrite .. => execIrqnClaimWrite_frame rfl .same
  | .qmgrAllocRead .. => execQmgrAllocRead_frame rfl .same
  | .qpushWrite .. => execQpushWrite_frame rfl .same
  | .qmgrFreeWrite .. => execQmgrFreeWrite_frame rfl .same
  | .qmgrCancelWrite .. => execQmgrCancelWrite_frame rfl .same
  | .queueStart .. => execQueueStart_frame rfl .same
  | .consumerTake .. => execConsumerTake_frame rfl .same
  | .descriptorComplete .. => execDescriptorComplete_frame rfl .same
  | .deadlineMissed .. => execDeadlineMissed_frame rfl .same
  | .copy .. => execCopy_frame rfl .same
  | .fill .. => execFill_frame rfl .same
  | .crc .. => execCrc_frame rfl .same
  | .ecbEnc .. => execEcbEnc_frame rfl .same
  | .ecbDec .. => execEcbDec_frame rfl .same
  | .ctr .. => execCtr_frame rfl .same
  | .ccmEnc .. => execCcmEnc_frame rfl .same
  | .ccmDec .. => execCcmDec_frame rfl .same
  | .cmac .. => execCmac_frame rfl .same
  | .accessRegister .. => execAccessRegister_frame rfl .same
  | .accessMemory .. => execAccessMemory_frame rfl .same
  | .programBufferExec .. => execProgramBufferExec_frame rfl .same
  | .systemBusAccess .. => execSystemBusAccess_frame rfl .same
  | .haltreq .. => execHaltreq_frame rfl .same
  | .resumereq .. => execResumereq_frame rfl .same
  | .ndmreset .. => execNdmreset_frame rfl .same
  | .hartreset .. => execHartreset_frame rfl .same
  | .setresethaltreq .. => execSetresethaltreq_frame rfl .same
  | .clrresethaltreq .. => execClrresethaltreq_frame rfl .same
  | .triggerMatch .. => execTriggerMatch_frame rfl .same
  | .extest .. => execExtest_frame rfl .same
  | .samplePreload .. => execSamplePreload_frame rfl .same
  | .dmi .. => execDmi_frame rfl .same
  | .portCfgWrite .. => execPortCfgWrite_frame rfl .same
  | .portSet .. => execPortSet_frame rfl .same
  | .portClr .. => execPortClr_frame rfl .same
  | .padFilterAccept .. => execPadFilterAccept_frame rfl .same
  | .eventSourceFire .. => execEventSourceFire_frame rfl .same
  | .swtrig .. => execSwtrig_frame rfl .same
  | .evfChWrite .. => execEvfChWrite_frame rfl .same
  | .evfChLock .. => execEvfChLock_frame rfl .same
  | .evfSinkWrite .. => execEvfSinkWrite_frame rfl .same
  | .canTxTriggerObjWrite .. => execCanTxTriggerObjWrite_frame rfl .same
  | .sinkPendingAct .. => execSinkPendingAct_frame rfl .same
  | .evoutPulseEnd .. => execEvoutPulseEnd_frame rfl .same
  | .spiDataWrite .. => execSpiDataWrite_frame rfl .same
  | .spiFrameEnd .. => execSpiFrameEnd_frame rfl .same
  | .spiDataRead .. => execSpiDataRead_frame rfl .same
  | .uartDataWrite .. => execUartDataWrite_frame rfl .same
  | .uartCharSent .. => execUartCharSent_frame rfl .same
  | .uartCharReceived .. => execUartCharReceived_frame rfl .same
  | .uartDataRead .. => execUartDataRead_frame rfl .same
  | .send .. => execSend_frame rfl .same
  | .uartBreakSent .. => execUartBreakSent_frame rfl .same
  | .uartBreak .. => execUartBreak_frame rfl .same
  | .startWrite .. => execStartWrite_frame rfl .same
  | .startRead .. => execStartRead_frame rfl .same
  | .i2cWrite .. => execI2cWrite_frame rfl .same
  | .readAck .. => execReadAck_frame rfl .same
  | .readNack .. => execReadNack_frame rfl .same
  | .i2cStop .. => execI2cStop_frame rfl .same
  | .i2cCmdDone .. => execI2cCmdDone_frame rfl .same
  | .tgtAddr .. => execTgtAddr_frame rfl .same
  | .i2cTargetDataAccess .. => execI2cTargetDataAccess_frame rfl .same
  | .stuck .. => execStuck_frame rfl .same
  | .arbLost .. => execArbLost_frame rfl .same
  | .ntuSet .. => execNtuSet_frame rfl .same
  | .acceptNext .. => execAcceptNext_frame rfl .same
  | .servoEnWrite .. => execServoEnWrite_frame rfl .same
  | .servoSample .. => execServoSample_frame rfl .same
  | .ntuTimeSecLoRead .. => execNtuTimeSecLoRead_frame rfl .same
  | .ntuArm .. => execNtuArm_frame rfl .same
  | .ntuCompareTargetWrite .. => execNtuCompareTargetWrite_frame rfl .same
  | .relativeCompareFire .. => execRelativeCompareFire_frame rfl .same
  | .absoluteCompareFire .. => execAbsoluteCompareFire_frame rfl .same
  | .ntuCapture .. => execNtuCapture_frame rfl .same
  | .ntuCaptureCRead .. => execNtuCaptureCRead_frame rfl .same
  | .ntuChModeWrite .. => execNtuChModeWrite_frame rfl .same
  | .syncPaired .. => execSyncPaired_frame rfl .same
  | .syncUnpairedDiscard .. => execSyncUnpairedDiscard_frame rfl .same
  | .canModeWrite .. => execCanModeWrite_frame rfl .same
  | .canStopTakesEffect .. => execCanStopTakesEffect_frame rfl .same
  | .canBusJoin .. => execCanBusJoin_frame rfl .same
  | .canFrameReceived .. => execCanFrameReceived_frame rfl .same
  | .canObjWord0Read .. => execCanObjWord0Read_frame rfl .same
  | .canObjWord19Read .. => execCanObjWord19Read_frame rfl .same
  | .canLockAbandon .. => execCanLockAbandon_frame rfl .same
  | .lockDeadline .. => execLockDeadline_frame rfl .same
  | .canObjWord1Write .. => execCanObjWord1Write_frame rfl .same
  | .canTxreq .. => execCanTxreq_frame rfl .same
  | .canTxPick .. => execCanTxPick_frame rfl .same
  | .canArbitrationLost .. => execCanArbitrationLost_frame rfl .same
  | .canTxError .. => execCanTxError_frame rfl .same
  | .canSent .. => execCanSent_frame rfl .same
  | .txDeadline .. => execTxDeadline_frame rfl .same
  | .canTxcancel .. => execCanTxcancel_frame rfl .same
  | .canCancelSampled .. => execCanCancelSampled_frame rfl .same
  | .errPassive .. => execErrPassive_frame rfl .same
  | .busOff .. => execBusOff_frame rfl .same
  | .recover .. => execRecover_frame rfl .same
  | .boffDelayExpiry .. => execBoffDelayExpiry_frame rfl .same
  | .busOffRecovered .. => execBusOffRecovered_frame rfl .same
  | .canQtxTake .. => execCanQtxTake_frame rfl .same
  | .canTx .. => execCanTx_frame rfl .same
  | .canxModeNormal .. => execCanxModeNormal_frame rfl .same
  | .canxModeListen .. => execCanxModeListen_frame rfl .same
  | .canxModeStandby .. => execCanxModeStandby_frame rfl .same
  | .canxModeSleep .. => execCanxModeSleep_frame rfl .same
  | .wuf .. => execWuf_frame rfl .same
  | .frameErr .. => execFrameErr_frame rfl .same
  | .padWake .. => execPadWake_frame rfl .same
  | .phyTxStart .. => execPhyTxStart_frame rfl .same
  | .phyTxEnd .. => execPhyTxEnd_frame rfl .same
  | .ofdmSyncAccepted .. => execOfdmSyncAccepted_frame rfl .same
  | .ofdmHeaderReceived .. => execOfdmHeaderReceived_frame rfl .same
  | .ofdmPpduDecoded .. => execOfdmPpduDecoded_frame rfl .same
  | .robustSyncAccepted .. => execRobustSyncAccepted_frame rfl .same
  | .robustFrameReceived .. => execRobustFrameReceived_frame rfl .same
  | .calNow .. => execCalNow_frame rfl .same
  | .pllUnlock .. => execPllUnlock_frame rfl .same
  | .slotPreparation .. => execSlotPreparation_frame rfl .same
  | .slotStart .. => execSlotStart_frame rfl .same
  | .beaconRx .. => execBeaconRx_frame rfl .same
  | .scanBeaconAdopt .. => execScanBeaconAdopt_frame rfl .same
  | .linkFrameReceived .. => execLinkFrameReceived_frame rfl .same
  | .ackReceived .. => execAckReceived_frame rfl .same
  | .ackTimeout .. => execAckTimeout_frame rfl .same
  | .linkTx .. => execLinkTx_frame rfl .same
  | .soundReqReceived .. => execSoundReqReceived_frame rfl .same
  | .soundRespReceived .. => execSoundRespReceived_frame rfl .same
  | .slotLate .. => execSlotLate_frame rfl .same
  | .linkDeadlineStop .. => execLinkDeadlineStop_frame rfl .same
  | .lsecLoad .. => execLsecLoad_frame rfl .same
  | .lsecClear .. => execLsecClear_frame rfl .same
  | .lsecTxseqWrite .. => execLsecTxseqWrite_frame rfl .same
  | .linkAsnLoRead .. => execLinkAsnLoRead_frame rfl .same
  | .loopEnWrite .. => execLoopEnWrite_frame rfl .same
  | .loopDisable .. => execLoopDisable_frame rfl .same
  | .loopRangeWrite .. => execLoopRangeWrite_frame rfl .same
  | .loopTrigger .. => execLoopTrigger_frame rfl .same
  | .loopStageEnd .. => execLoopStageEnd_frame rfl .same
  | .loopCommit .. => execLoopCommit_frame rfl .same
  | .loopDeadlineMiss .. => execLoopDeadlineMiss_frame rfl .same
  | .adcaStart .. => execAdcaStart_frame rfl .same
  | .adcaConversionDone .. => execAdcaConversionDone_frame rfl .same
  | .adcbStart .. => execAdcbStart_frame rfl .same
  | .adcbConversionDone .. => execAdcbConversionDone_frame rfl .same
  | .pwmPeriodStart .. => execPwmPeriodStart_frame rfl .same
  | .pwmPeriodCentre .. => execPwmPeriodCentre_frame rfl .same
  | .pwmRunWrite .. => execPwmRunWrite_frame rfl .same
  | .pwmClr .. => execPwmClr_frame rfl .same
  | .pwmForceSafe .. => execPwmForceSafe_frame rfl .same
  | .toothEnWrite .. => execToothEnWrite_frame rfl .same
  | .toothEdge .. => execToothEdge_frame rfl .same
  | .missed .. => execMissed_frame rfl .same
  | .scheduleArm .. => execScheduleArm_frame rfl .same
  | .scheduleFire .. => execScheduleFire_frame rfl .same
  | .storageCurrentBandChange .. => execStorageCurrentBandChange_frame rfl .same
  | .thermHotClear .. => execThermHotClear_frame rfl .same
  | .srcChange => execSrcChange_frame rfl .same
  | .mainsFaultLatch => execMainsFaultLatch_frame rfl .same
  | .mainsLatchClear => execMainsLatchClear_frame rfl .same
  | .por => execPor_frame rfl .same
  | .porRelease => execPorRelease_frame rfl .same
  | .fuseLoad => execFuseLoad_frame rfl .same
  | .supplyTreeUp => execSupplyTreeUp_frame rfl .same
  | .outputRailsUp => execOutputRailsUp_frame rfl .same
  | .vioAbsent => execVioAbsent_frame rfl .same
  | .xo40Stable => execXo40Stable_frame rfl .same
  | .pllLock => execPllLock_frame rfl .same
  | .startUpReadiness => execStartUpReadiness_frame rfl .same
  | .resetNLow => execResetNLow_frame rfl .same
  | .resetStretchExpiry => execResetStretchExpiry_frame rfl .same
  | .resetNHighRelease => execResetNHighRelease_frame rfl .same
  | .systemReset => execSystemReset_frame rfl .same
  | .thermalShutdown => execThermalShutdown_frame rfl .same
  | .thermalShutdownEnd => execThermalShutdownEnd_frame rfl .same
  | .thermWarn => execThermWarn_frame rfl .same
  | .xo40Loss => execXo40Loss_frame rfl .same
  | .xo40StartTimeout => execXo40StartTimeout_frame rfl .same
  | .xo32Loss => execXo32Loss_frame rfl .same
  | .xo32LossInCalm => execXo32LossInCalm_frame rfl .same
  | .xo32Return => execXo32Return_frame rfl .same
  | .slewSettled => execSlewSettled_frame rfl .same
  | .opClockRaise => execOpClockRaise_frame rfl .same
  | .postingDrainDone => execPostingDrainDone_frame rfl .same
  | .calmReached => execCalmReached_frame rfl .same
  | .lullResume => execLullResume_frame rfl .same
  | .hartMWarmStart => execHartMWarmStart_frame rfl .same
  | .wakeDone => execWakeDone_frame rfl .same
  | .mpptDue => execMpptDue_frame rfl .same
  | .chgLimitHit => execChgLimitHit_frame rfl .same
  | .chargeRestart => execChargeRestart_frame rfl .same
  | .pgoodRise => execPgoodRise_frame rfl .same
  | .pgoodFall => execPgoodFall_frame rfl .same
  | .restTimeExpiry => execRestTimeExpiry_frame rfl .same
  | .flashOpStart => execFlashOpStart_frame rfl .same
  | .eraseResume => execEraseResume_frame rfl .same
  | .scrubDue => execScrubDue_frame rfl .same
  | .scrubSteal => execScrubSteal_frame rfl .same
  | .healthFail => execHealthFail_frame rfl .same
  | .trngValidReturn => execTrngValidReturn_frame rfl .same
  | .tapReset => execTapReset_frame rfl .same
  | .idcode => execIdcode_frame rfl .same
  | .clamp => execClamp_frame rfl .same
  | .highz => execHighz_frame rfl .same
  | .dtmcs => execDtmcs_frame rfl .same
  | .bypass => execBypass_frame rfl .same
  | .tgtStop => execTgtStop_frame rfl .same
  | .ppsEdge => execPpsEdge_frame rfl .same
  | .ntuPpsOut => execNtuPpsOut_frame rfl .same
  | .ppsOutEnd => execPpsOutEnd_frame rfl .same
  | .sleepEntry => execSleepEntry_frame rfl .same
  | .fsTimerExpiry => execFsTimerExpiry_frame rfl .same
  | .txdTimeout => execTxdTimeout_frame rfl .same
  | .wup => execWup_frame rfl .same
  | .decoderSilence => execDecoderSilence_frame rfl .same
  | .vbatRetentionLoss => execVbatRetentionLoss_frame rfl .same
  | .rxWindowOpen => execRxWindowOpen_frame rfl .same
  | .rxWindowClose => execRxWindowClose_frame rfl .same
  | .rfCalDue => execRfCalDue_frame rfl .same
  | .rfCalTakeover => execRfCalTakeover_frame rfl .same
  | .calDone => execCalDone_frame rfl .same
  | .beaconMissed => execBeaconMissed_frame rfl .same
  | .ackSend => execAckSend_frame rfl .same
  | .linkRx => execLinkRx_frame rfl .same
  | .soundTx => execSoundTx_frame rfl .same
  | .soundRx => execSoundRx_frame rfl .same
  | .slotTimer => execSlotTimer_frame rfl .same
  | .adcaDone => execAdcaDone_frame rfl .same
  | .adcbDone => execAdcbDone_frame rfl .same
  | .adcbDisplaced => execAdcbDisplaced_frame rfl .same
  | .pwmFault => execPwmFault_frame rfl .same
  | .coarseModeSwitch => execCoarseModeSwitch_frame rfl .same
  | .modeChanged => execModeChanged_frame rfl .same
  | .vbatPartPowerUp => execVbatPartPowerUp_frame rfl .same
  | .pwmFaultNRelease => execPwmFaultNRelease_frame rfl .same

/-- The queue of commands has no part in the invariant. -/
theorem State.Inv.pending {s : State} (i : s.Inv) (l : List Instr) : ({ s with pending := l } : State).Inv := s.inv_of i rfl rfl rfl rfl

/-- Settles O4: a step is a counting step or one of the commands, each of which has a frame; a frame keeps the invariant. -/
theorem stepKeepsInv : Obligations.StepKeepsInv := by
  unfold Obligations.StepKeepsInv
  intro s t inv h
  cases queue : s.pending with
  | nil =>
    rw [step, queue] at h
    obtain rfl : s.tick = t := Host.Outcome.next.inj h
    exact (State.tick_frame (m := 0x500000001420010) (Nat.or_self _) Frame.same).2 inv
  | cons c rest =>
    rw [step, queue] at h
    obtain ⟨u, he, frame⟩ := exec_frame c { s with pending := rest }
    obtain rfl : u = t := Host.Outcome.next.inj (he.symm.trans h)
    exact frame.2 (inv.pending rest)

end Sys2Proof.Machine
end

section
/-!
PROOFS. The AES job engine between two steps of a job: where its output begins within a word, a word boundary is not one access away.
-/

namespace Sys2Proof.Machine

/-- The result of an ECB_ENC over one block, with no tag. -/
def ecbResult : AesRun := ⟨List.range 16, [], 0⟩

/-- The descriptor in slot 0, of T0, at the AES engine: its result has been computed, and nothing of it written. -/
def ecbJob : Active := { slot := 0, queue := 0, owner := 0, done := 0, run := some ecbResult, status := none }

/-- The AES engine serves ECB_ENC over 16 bytes, with a parameter block at 0x2000_0100 and DEST 0x2000_0001, one byte beyond a word boundary.
ECB_ENC with `n` 0 leaves such a state: it reads, and makes none of the writes. The owner ciphers have keys of zeros. -/
def ecbUnaligned : State :=
  State.setWords
    { State.reset with
      mem := { State.reset.mem with keys := Vector.replicate 5 0 }
      q := { noQueues with
        slots := [(0, { owner := 0, state := 3, status := 0, queue := 0, cancel := false, shown := true })]
        active := [(0x11, ecbJob)] } }
    0 (slotAddr 0) [0x1120, 0, 0x20000100, 0x20000001, 16]

/-- The first word boundary from there is 0x2000_0004: the engine makes the three accesses before it. -/
theorem ecbUnaligned_run : ecbUnaligned.jobOf 0x11 0x20 = some ecbJob ∧ ecbUnaligned.descWord ecbJob.slot 3 = 0x20000001 ∧
    (((ecbUnaligned.aesRun 0x20 1 ⟨0, Upset.none⟩).linkSweepBy ⟨0, Upset.none⟩).activeAt 0x11).map Active.done = some 3 := by decide +kernel

theorem ecbUnaligned_plain : ecbUnaligned.plain ecbJob.owner 0x20000001 ecbResult.out.length := by decide +kernel

/-- Refutes O26 at its clause on a job that is resumed, which has ECB_ENC with `n` make `n` accesses. The command goes on to the `n`-th word boundary
(R337, R338), which is further where DEST is not at a word boundary: before it the output goes out byte by byte. -/
theorem not_engineDescriptors : ¬ Obligations.EngineDescriptors := by
  unfold Obligations.EngineDescriptors
  rintro ⟨-, -, -, -, -, -, -, -, -, -, -, -, resumed⟩
  obtain ⟨job, dest, done⟩ := ecbUnaligned_run
  obtain ⟨t, step, active, -⟩ := resumed ecbUnaligned 1 ⟨0, Upset.none⟩ ecbJob ecbResult job rfl rfl (by decide +kernel) (by decide +kernel)
    (by rw [dest]; exact ecbUnaligned_plain) (by rw [dest]; decide)
  obtain rfl : (ecbUnaligned.aesRun 0x20 1 ⟨0, Upset.none⟩).linkSweepBy ⟨0, Upset.none⟩ = t := Host.Outcome.next.inj step
  have one : some 3 = some 1 := done.symm.trans (congrArg (Option.map Active.done) (active 0x11))
  exact absurd one (by decide)

end Sys2Proof.Machine
end

section
/-!
PROOFS. Harts and fault FIFOs after an update, writes of main SRAM, the FAULTn pages, and the posted stores that use them.
-/

namespace Sys2Proof.Machine

/-! ### Harts and fault FIFOs after an update -/

theorem State.hart_modHart (s : State) (n : Fin 4) (f : Hart → Hart) : (s.modHart n f).hart n = f (s.hart n) := by
  rw [State.hart, State.modHart, vmod_eq_vput _ _ _ noHart, vget_vput, if_pos ⟨rfl, n.isLt⟩]
  rfl

theorem State.hart_modHart_ne {s : State} {n j : Fin 4} {f : Hart → Hart} (h : j ≠ n) : (s.modHart n f).hart j = s.hart j := by
  rw [State.hart, State.modHart, vmod_eq_vput _ _ _ noHart, vget_vput, if_neg fun e => h (Fin.ext e.1)]
  rfl

theorem State.postOf_modPost (s : State) (n : Fin 4) (f : Post → Post) : (s.modPost n f).postOf n = f (s.postOf n) := by
  rw [State.postOf, State.modPost, vmod_eq_vput _ _ _ noPost, vget_vput, if_pos ⟨rfl, n.isLt⟩]
  rfl

theorem State.postOf_modPost_ne {s : State} {n j : Fin 4} {f : Post → Post} (h : j ≠ n) : (s.modPost n f).postOf j = s.postOf j := by
  rw [State.postOf, State.modPost, vmod_eq_vput _ _ _ noPost, vget_vput, if_neg fun e => h (Fin.ext e.1)]
  rfl

theorem State.changes.modHart {s t : State} {ps : List Part} {fs : List Fld} {n : Nat} {f : Hart → Hart} (h : s.changes t ps fs)
    (hp : .harts ∈ ps) : s.changes (t.modHart n f) ps fs :=
  h.parts rfl fun p hn _ => by cases p <;> first | exact absurd hp hn | rfl | exact fun _ _ => rfl

theorem State.changes.modPost {s t : State} {ps : List Part} {fs : List Fld} {n : Nat} {f : Post → Post} (h : s.changes t ps fs)
    (hp : .post ∈ ps) : s.changes (t.modPost n f) ps fs :=
  h.parts rfl fun p hn _ => by cases p <;> first | exact absurd hp hn | rfl | exact fun _ _ => rfl

theorem State.changes.reply {s t : State} {ps : List Part} {fs : List Fld} {v : Nat} (h : s.changes t ps fs) (hp : .answer ∈ ps) :
    s.changes (t.reply v) ps fs :=
  h.parts rfl fun p hn _ => by cases p <;> first | exact absurd hp hn | rfl | exact fun _ _ => rfl

theorem State.execute_of_issues {s : State} {n : Nat} {f : State → State} (h : s.issues n = true) :
    s.execute n f = f (s.modHart n fun h => { h with wfi := false }) := by
  rw [State.execute, h]
  rfl

/-! ### Fault records (R246, R248) -/

theorem State.record_of_room {s : State} {n : Nat} {r : Rec} (h : (s.postOf n).fifo.length < 16) :
    s.record n r = s.modPost n fun p => { p with fifo := p.fifo ++ [r] } := if_pos h

theorem State.record_of_full {s : State} {n : Nat} {r : Rec} (h : (s.postOf n).fifo.length = 16) :
    s.record n r = (s.modPost n fun p => { p with lostHeld := p.lostHeld || r.held }).raise (FAULT.OVERFLOW n) :=
  if_neg (Nat.not_lt.mpr (Nat.le_of_eq h.symm))

/-! ### Writes of main SRAM -/

/-- An undisturbed access to main SRAM below the shared region by the granule's owner reaches the byte (R233). -/
theorem State.judge_sram {s : State} {m : Master} {t a : Nat} {k : Reach} (lo : 0x20000000 ≤ a) (hi : a < 0x200F0000) (up : s.up .core = true)
    (own : s.owner tblGranule ((a - 0x20000000) / 4096) = t) : s.judge m t a k Upset.none = .go (.mem a) := by
  have island : islandAt a = .core := by
    rw [islandAt, if_neg (by omega), if_neg (by omega), if_pos (by omega)]
  have answers : s.answers .core = some true := by
    rw [State.answers, eq_of_beq (show (s.island .core == .running) = true from up)]
  have place : placeOf m a = some (.mem a) := by
    have tcm : within 0x28000000 0x8000 a = false := by simp [within]; omega
    have sram : within 0x20000000 0x100000 a = true := by simp [within]; omega
    simp [placeOf, tcm, sram]
  have admitted : s.placeAdmits m t k (.mem a) = true := by
    rw [State.placeAdmits, State.memAdmits, if_neg (by omega), if_neg (by omega), if_neg (by omega), if_pos (by omega)]
    exact beq_iff_eq.mpr own
  have parity : (if masterIsland m == islandAt a then none else parityFail Upset.none t a) = none := ite_self _
  simp only [State.judge, parity]
  rw [island, answers]
  simp only [place, admitted, if_true]

/-- What a write of `n` bytes at byte `p` of main SRAM leaves: the bytes, no reservation of the word by others, fresh check bits (R264, R313). -/
def State.sramWritten (s : State) (m : Master) (t p n v : Nat) : State :=
  let s := (s.ramWrite t p n v).loseReservations m p
  { s with mem := { s.mem with ecc := Table.erase s.mem.ecc (p / 4 * 4), single := Table.erase s.mem.single (p / 4 * 4) } }

theorem State.memWrite_sram {s : State} {m : Master} {t p n v : Nat} (lo : 0x20000000 ≤ p) (hi : p < 0x200F0000)
    (sound : s.eccBad (p / 4 * 4) = false) : s.memWrite m t p n v Upset.none = (s.sramWritten m t p n v, none) := by
  have locked : s.stageLocked p = false := by
    have : within 0x33000000 0x2000 p = false := by simp [within]; omega
    simp [State.stageLocked, this]
  have object : canPlace p = none := by
    have a : within 0x31000000 10240 p = false := by simp [within]; omega
    have b : within 0x31010000 10240 p = false := by simp [within]; omega
    simp [canPlace, a, b]
  have kept : s.lineKept t p n v = v := by
    have : within 0x32100000 2048 p = false := by simp [within]; omega
    simp [State.lineKept, this]
  have unit : eccUnit p = p / 4 * 4 := if_neg (by omega)
  have struck : s.struck p Upset.none = s := by
    rw [State.struck]
    split <;> rfl
  have undisturbed : (s.when (n != 4) fun s => s.struck p Upset.none) = s := by
    cases h : (n != 4)
    · rfl
    · exact struck
  simp [State.memWrite, locked, object, undisturbed, unit, sound, kept, State.sramWritten]

/-- An undisturbed store to main SRAM by the granule's owner. -/
theorem State.writeAt_sram {s : State} {m : Master} {t a n v : Nat} {us : Option Nat} (lo : 0x20000000 ≤ a) (hi : a < 0x200F0000)
    (quiet : s.rst.quiescing.contains t = false) (up : s.up .core = true) (own : s.owner tblGranule ((a - 0x20000000) / 4096) = t)
    (sound : s.eccBad (a / 4 * 4) = false) :
    s.writeAt m t a n v Upset.none us = (s.sramWritten m t a n (v % 2 ^ (8 * n)), .ok 0) := by
  rw [State.writeAt, quiet, State.judge_sram lo hi up own]
  simp [State.memWrite_sram lo hi sound]

theorem State.sramWritten_frame (s : State) (m : Master) (t p n v : Nat) : Frame 0x1800 s (s.sramWritten m t p n v) :=
  Frame.mem rfl (fun w => w) (State.loseReservations_frame rfl (State.ramWrite_frame rfl Frame.same))

theorem State.posts_sramWritten (s : State) (m : Master) (t p n v j : Nat) : ((s.sramWritten m t p n v).hart j).posts = (s.hart j).posts := by
  have harts : (s.ramWrite t p n v).harts = s.harts := (State.ramWrite_frame (m := 0x1000) rfl Frame.same).1 .harts rfl
  show (vget (Vector.ofFn _) j noHart).posts = _
  by_cases h : j < 4
  · simp only [vget, State.hart, h, getElem?_pos, Option.getD_some, Vector.getElem_ofFn, harts]
    split <;> rfl
  · simp [State.hart, vget, h]

theorem State.ramByte_setRam (s : State) (p v b : Nat) : (s.setRam p v).ramByte b = if b = p then v % 256 else s.ramByte b := by
  have := Table.get_set (0 : BitVec 8) s.mem.ram p b (BitVec.ofNat 8 v)
  unfold Table.get at this
  simp only [State.ramByte, State.setRam, this]
  split
  · exact BitVec.toNat_ofNat v 8
  · rfl

/-- Bytes stored one after another: each address from `p` on holds its own, every other what it held. -/
theorem State.ramByte_setRams (s : State) (p n b : Nat) (f : Nat → Nat) :
    ((List.range n).foldl (fun st i => st.setRam (p + i) (f i)) s).ramByte b = if p ≤ b ∧ b < p + n then f (b - p) % 256 else s.ramByte b := by
  induction n with
  | zero => exact (if_neg (by omega)).symm
  | succ n ih =>
    rw [List.range_succ, List.foldl_append, List.foldl_cons, List.foldl_nil, State.ramByte_setRam, ih]
    by_cases last : b = p + n
    · rw [if_pos last, if_pos (by omega), last, Nat.add_sub_cancel_left]
    · rw [if_neg last]
      exact ite_congr (propext (by omega)) (fun _ => rfl) (fun _ => rfl)

theorem State.outside_sramWritten (s : State) (m : Master) (t p n v : Nat) : s.outside (s.sramWritten m t p n v) p n := by
  intro b hb
  exact (s.ramByte_setRams p n b _).trans (if_neg (by omega))

theorem ofBytesLE_bits (n v : Nat) : ofBytesLE ((List.range n).map fun i => bits v (8 * i) 8) = v % 2 ^ (8 * n) := by
  induction n generalizing v with
  | zero => simp [ofBytesLE, Nat.mod_one]
  | succ n ih =>
    have shift : ∀ i, bits v (8 * (i + 1)) 8 = bits (v / 256) (8 * i) 8 := fun i => by
      rw [bits, bits, Nat.div_div_eq_div_mul, Nat.mul_add, Nat.pow_add, Nat.mul_comm]
    rw [List.range_succ_eq_map, List.map_cons, List.map_map, ofBytesLE]
    rw [show (fun i => bits v (8 * i) 8) ∘ Nat.succ = fun i => bits (v / 256) (8 * i) 8 from funext shift, ih]
    have pow : 2 ^ (8 * (n + 1)) = 256 * 2 ^ (8 * n) := by rw [Nat.mul_add, Nat.pow_add, Nat.mul_comm]
    rw [pow, Nat.mod_mul, bits, Nat.mul_zero, Nat.pow_zero, Nat.div_one, show 2 ^ 8 = 256 from rfl, Nat.mod_mod]

theorem ofBytesLE_map_mod (l : List Nat) : ofBytesLE (l.map (· % 256)) = ofBytesLE l := by
  induction l with
  | nil => rfl
  | cons b l ih => rw [List.map_cons, ofBytesLE, ofBytesLE, ih, Nat.mod_mod]

theorem xor_xor_mod (x k : Nat) : ((x ^^^ k) % 256 ^^^ k) % 256 = x % 256 := by
  have split : ∀ a b : Nat, (a ^^^ b) % 256 = a % 256 ^^^ b % 256 := fun a b => Nat.xor_mod_two_pow (n := 8)
  rw [split, Nat.mod_mod, split, Nat.xor_assoc, Nat.xor_self, Nat.xor_zero]

/-- The owner cipher gives back what it was given. -/
theorem State.ramRead_ramWrite (s : State) (t p n v : Nat) : (s.ramWrite t p n v).ramRead t p n = v % 2 ^ (8 * n) := by
  have key : (s.ramWrite t p n v).keystream t p = s.keystream t p :=
    List.foldlRecOn (motive := fun u : State => u.keystream t p = s.keystream t p) _ _ rfl fun _ hu _ _ => hu
  rw [State.ramRead, key, ← ofBytesLE_bits n v, ← ofBytesLE_map_mod, List.map_map]
  refine congrArg ofBytesLE (List.map_congr_left fun i hi => ?_)
  have stored : (s.ramWrite t p n v).ramByte (p + i) = (bits v (8 * i) 8 ^^^ nth (s.keystream t p) ((p + i) % 16)) % 256 := by
    have := s.ramByte_setRams p n (p + i) fun i => bits v (8 * i) 8 ^^^ nth (s.keystream t p) ((p + i) % 16)
    rwa [if_pos ⟨by omega, by have := List.mem_range.mp hi; omega⟩, Nat.add_sub_cancel_left] at this
  show ((s.ramWrite t p n v).ramByte (p + i) ^^^ nth (s.keystream t p) ((p + i) % 16)) % 256 = bits v (8 * i) 8
  rw [stored, xor_xor_mod]
  exact Nat.mod_eq_of_lt (bits_lt v (8 * i) 8)

theorem State.ramRead_sramWritten (s : State) (m : Master) (t p n v : Nat) :
    (s.sramWritten m t p n v).ramRead t p n = v % 2 ^ (8 * n) := s.ramRead_ramWrite t p n v

/-! ### The FAULTn pages -/

/-- A read of a FAULTn register beyond the common header. -/
theorem State.regRead_fault {s : State} {m : Master} {t off : Nat} (n : Fin 4) (h : 0x10 ≤ off) :
    s.regRead m t (6 + n) off = s.faultRead m t n off (s.fieldWord (pageAddr (6 + n) off)) := by
  unfold State.regRead
  extract_lets w
  rw [if_neg (by omega), if_neg (by omega), if_neg (by simp; omega)]
  obtain ⟨_ | _ | _ | _ | k, hk⟩ := n
  iterate 4 rfl
  exact absurd hk (by omega)

theorem ofNat_bits (v : Nat) : BitVec.ofNat 32 (bits v 0 32) = BitVec.ofNat 32 v := by
  apply BitVec.eq_of_toNat_eq
  simp [bits]

/-- An admitted read of a FAULTn register beyond the common header. -/
theorem State.cmdRead_fault {s : State} {m : Master} {off : Nat} (n : Fin 4) (h : s.admits m (6 + n) off false) (lo : 0x10 ≤ off)
    (ha : off % 4 = 0) :
    s.cmdRead m (pageAddr (6 + n) off) 4 Upset.none =
      (s.faultRead m (s.tidOf m) n off (s.fieldWord (pageAddr (6 + n) off))).1.reply
        (bits (s.faultRead m (s.tidOf m) n off (s.fieldWord (pageAddr (6 + n) off))).2 0 32) := by
  rw [State.cmdRead_admitted h (by unfold pageAddr; omega), State.regRead_fault n lo]

theorem State.get_held (s : State) (n : Nat) : s.get (FAULT.HELD n) = ofBool (s.on (FAULT.HELD n)) := by
  have := s.get_lt (FAULT.HELD n)
  rw [show (FAULT.HELD n).width = 1 from rfl] at this
  unfold State.on
  generalize s.get (FAULT.HELD n) = v at *
  obtain rfl | rfl : v = 0 ∨ v = 1 := by omega
  · rfl
  · rfl

/-! ### A store enters the posting buffer (R238 to R240) -/

/-- The hart with one more posted store. -/
def Hart.posted (h : Hart) (p : Posted) : Hart := { h with posts := h.posts ++ [p] }

/-- The store of `v` at `a` that hart `h` posts next. -/
def State.nextPost (s : State) (h : Nat) (a : Word) (w : Width) (v : Word) : Posted :=
  ⟨a.toNat, w, v, (s.get (FAULT.LAST_TAG h) + 1) % 4096, islandAt a.toNat, false, false⟩

theorem State.postStore_posts {s : State} {h : Fin 4} {a : Word} {w : Width} {v : Word} (outside : islandAt a.toNat ≠ hartIsland h)
    (issues : s.issues h = true) (aligned : a.toNat % widthBytes w = 0)
    (admitted : (s.hart h).pmpAdmits h ((s.hart h).dataUser h) a.toNat (widthBytes w) 1 = true) (free : s.on (FAULT.HELD h) = false)
    (room : (s.hart h).posts.length < 64) :
    s.postStore h a.toNat w v = (((s.modHart h fun x => { x with wfi := false }).put (FAULT.LAST_TAG h)
      ((s.get (FAULT.LAST_TAG h) + 1) % 4096)).modHart h fun x => x.posted (s.nextPost h a w v)).retire h := by
  have island : (islandAt a.toNat == hartIsland h) = false := beq_false_of_ne outside
  have hart := s.hart_modHart h fun x => { x with wfi := false }
  have held : (s.modHart h fun x => { x with wfi := false }).on (FAULT.HELD h) = false := free
  have pmp : Hart.pmpAdmits { s.hart h with wfi := false } h (Hart.dataUser { s.hart h with wfi := false } h) a.toNat (widthBytes w) 1 = true :=
    admitted
  rw [State.postStore, island, if_neg Bool.false_ne_true, State.execute_of_issues issues, State.storeChecked, hart, pmp, aligned, held]
  simp only [bne_self_eq_false, Bool.not_true, Bool.false_eq_true, if_false, Bool.false_or, decide_eq_true_eq]
  rw [if_neg (Nat.not_le.mpr room)]
  rfl

theorem State.runs_postedStore {s : State} {h : Fin 4} {a : Word} {w : Width} {v : Word} (outside : islandAt a.toNat ≠ hartIsland h)
    (issues : s.issues h = true) (aligned : a.toNat % widthBytes w = 0)
    (admitted : (s.hart h).pmpAdmits h ((s.hart h).dataUser h) a.toNat (widthBytes w) 1 = true) (free : s.on (FAULT.HELD h) = false)
    (room : (s.hart h).posts.length < 64) :
    s.runs (.postedStore h a w v) [.harts] [FAULT.LAST_TAG h] fun t =>
      t.get (FAULT.LAST_TAG h) = (s.get (FAULT.LAST_TAG h) + 1) % 4096 ∧
      t.hart h = (({ s.hart h with wfi := false } : Hart).posted (s.nextPost h a w v)).retired ∧
      ∀ j : Fin 4, j ≠ h → t.hart j = s.hart j := by
  refine ⟨_, rfl, ?_⟩
  rw [State.postStore_posts outside issues aligned admitted free room]
  refine ⟨⟨?_, ?_, fun j hj => ?_⟩, ?_⟩
  · exact (State.get_put_same _ _ _).trans (Nat.mod_mod _ _)
  · rw [State.retire, State.hart_modHart, State.hart_modHart]
    exact congrArg (fun x => (Hart.posted x _).retired) (s.hart_modHart h _)
  · rw [State.retire, State.hart_modHart_ne hj, State.hart_modHart_ne hj]
    exact State.hart_modHart_ne hj
  · exact .modHart (.modHart (.put (.modHart State.changes_rfl (by simp)) (by simp)) (by simp)) (by simp)

/-! ### A posted store reaches its target (R241 to R243) -/

theorem State.postDone_sram {s : State} {h : Fin 4} {i : Island} {left : Nat} {p : Posted}
    (oldest : (s.hart h).posts.find? (fun p => p.island == i && !p.held) = some p) (quiet : s.rst.quiescing.contains h.val = false)
    (lo : 0x20000000 ≤ p.addr) (hi : p.addr < 0x200F0000) (up : s.up .core = true)
    (own : s.owner tblGranule ((p.addr - 0x20000000) / 4096) = h) (sound : s.eccBad (p.addr / 4 * 4) = false) :
    s.postDone h i left Upset.none =
      (s.sramWritten (.hart h) h p.addr (widthBytes p.width) (p.data.toNat % 2 ^ (8 * widthBytes p.width))).modHart h
        fun x => { x with posts := dropPost i x.posts } := by
  have elsewhere : (p.addr / 4 * 4 == pageAddr 0xE 0x24) = false := beq_false_of_ne (by simp only [pageAddr]; omega)
  simp only [State.postDone, oldest, State.writeAt_sram lo hi quiet up own sound]
  exact State.cancelSwept_ne elsewhere

theorem State.runs_postedStoreDone {s : State} {h : Fin 4} {i : Island} {left : Nat} {p : Posted}
    (oldest : (s.hart h).posts.find? (fun p => p.island == i && !p.held) = some p) (quiet : s.rst.quiescing.contains h.val = false)
    (lo : 0x20000000 ≤ p.addr) (hi : p.addr < 0x200F0000) (up : s.up .core = true)
    (own : s.owner tblGranule ((p.addr - 0x20000000) / 4096) = h) (sound : s.eccBad (p.addr / 4 * 4) = false) :
    s.runs (.postedStoreDone h i left Upset.none) [.harts, .mem] [] fun t =>
      (t.hart h).posts = dropPost i (s.hart h).posts ∧
      t.ramRead h p.addr (widthBytes p.width) = p.data.toNat % 2 ^ (8 * widthBytes p.width) ∧ s.outside t p.addr (widthBytes p.width) := by
  refine ⟨_, rfl, ?_⟩
  rw [State.postDone_sram oldest quiet lo hi up own sound]
  refine ⟨⟨?_, ?_, State.outside_sramWritten _ _ _ _ _ _⟩, .modHart ((State.sramWritten_frame _ _ _ _ _ _).changes rfl) (by simp)⟩
  · rw [State.hart_modHart, State.posts_sramWritten]
  · exact (State.ramRead_sramWritten _ _ _ _ _ _).trans (Nat.mod_mod _ _)

/-- A failure other than of parity goes by the TID of the access. -/
theorem State.judge_bad_tid {s : State} {m : Master} {t a : Nat} {k : Reach} {u : Upset} {f : Fail} (h : s.judge m t a k u = .bad f)
    (hc : f.cause ≠ causeParity) : f.tid = t := by
  have parity : ∀ g, parityFail u t a = some g → g.cause = causeParity := fun g hg => by
    unfold parityFail at hg
    split at hg
    · cases hg
    · cases hg; rfl
  unfold State.judge at h
  extract_lets island at h
  split at h
  · rename_i g hg
    obtain rfl := Verdict.bad.inj h
    split at hg
    · cases hg
    · exact absurd (parity _ hg) hc
  · split at h
    · cases h
    · cases h; rfl
    · split at h
      · cases h; rfl
      · split at h
        · cases h
        · cases h; rfl

/-- The record of posted store `p` of hart `n`, which failed with `f`; `held` where HELD waits for it. -/
def State.postRecord (s : State) (n : Nat) (p : Posted) (f : Fail) (held : Bool) : Rec :=
  ⟨recWord0 f.cause f.detail f.tid true, f.addr % 2 ^ 32, recWord2 n f.ext p.tag, s.tick32, held⟩

theorem faultHeld_ne_postedErr (n : Fin 4) : (FAULT.HELD n).key ≠ (FAULT.POSTED_ERR n).key := by
  revert n
  decide

/-- What the failure `f` of posted store `p` of hart `n` leaves before any store is held: a record, POSTED_ERR,
and FAILED for a store of this window. -/
def State.postNoted (s : State) (n : Nat) (p : Posted) (f : Fail) (held : Bool) : State :=
  ((s.modPost n fun q => { q with fifo := q.fifo ++ [s.postRecord n p f held] }).raise (FAULT.POSTED_ERR n)).modPost n
    fun q => { q with failed := q.failed || !p.fenced }

theorem State.postOf_postNoted (s : State) (n : Fin 4) (p : Posted) (f : Fail) (held : Bool) : (s.postNoted n p f held).postOf n =
    { s.postOf n with fifo := (s.postOf n).fifo ++ [s.postRecord n p f held], failed := (s.postOf n).failed || !p.fenced } :=
  (State.postOf_modPost _ _ _).trans (congrArg (fun q : Post => { q with failed := q.failed || !p.fenced }) (State.postOf_modPost s n _))

theorem State.get_posted_err_postNoted (s : State) (n : Fin 4) (p : Posted) (f : Fail) (held : Bool) :
    (s.postNoted n p f held).get (FAULT.POSTED_ERR n) = 1 := State.get_raise_same rfl

theorem State.on_held_postNoted (s : State) (n : Fin 4) (p : Posted) (f : Fail) (held : Bool) :
    (s.postNoted n p f held).on (FAULT.HELD n) = s.on (FAULT.HELD n) :=
  congrArg (· != 0) (State.get_raise_ne (faultHeld_ne_postedErr n))

theorem State.changes.postNoted {s t : State} {ps : List Part} {fs : List Fld} {n : Fin 4} {p : Posted} {f : Fail} {held : Bool}
    (h : s.changes t ps fs) (hp : .post ∈ ps) (hf : (FAULT.POSTED_ERR n).key ∈ fs.map Fld.key) : s.changes (t.postNoted n p f held) ps fs :=
  .modPost (.raise (.modPost h hp) hf) hp

/-- What HELD adds where STOP_ON_POST is 1: all but the first `left` of the later posted stores stay in the buffer (R243). -/
def State.postsHeld (s : State) (n left : Nat) : State := (s.put (FAULT.HELD n) 1).modHart n fun h => { h with posts := holdPosts left h.posts }

theorem State.get_posted_err_postsHeld (s : State) (n : Fin 4) (left : Nat) :
    (s.postsHeld n left).get (FAULT.POSTED_ERR n) = s.get (FAULT.POSTED_ERR n) :=
  State.get_put_ne s (FAULT.HELD n) _ 1 (faultHeld_ne_postedErr n).symm

theorem State.on_held_postsHeld (s : State) (n : Fin 4) (left : Nat) : (s.postsHeld n left).on (FAULT.HELD n) = true :=
  congrArg (· != 0) (State.get_put_same s (FAULT.HELD n) 1)

theorem State.posts_postsHeld (s : State) (n : Fin 4) (left : Nat) :
    ((s.postsHeld n left).hart n).posts = holdPosts left (s.hart n).posts := congrArg Hart.posts (State.hart_modHart _ _ _)

/-- A posted store fails while nothing is held and no entry to LULL or CALM drains. -/
theorem State.postFailed_steady {s : State} {n : Fin 4} {p : Posted} {f : Fail} {left : Nat} (hc : f.cause ≠ causeParity) (ht : f.tid = n)
    (free : s.on (FAULT.HELD n) = false) (steady : s.power.phase = .steady) (room : (s.postOf n).fifo.length < 16) :
    s.postFailed n p f left =
      (s.postNoted n p f (s.on (FAULT.STOP_ON_POST n))).when (s.on (FAULT.STOP_ON_POST n)) fun s => s.postsHeld n left := by
  have byTid : (decide (f.cause = causeParity) && bit f.ext 0) = false := by simp [hc]
  unfold State.postFailed
  extract_lets own stops first s1 s2 s3 s4
  have stopsEq : stops = s.on (FAULT.STOP_ON_POST n) := by simp only [stops, own, byTid, free, Bool.not_false, Bool.true_and, Bool.or_false]
  have firstEq : first = s.on (FAULT.STOP_ON_POST n) := by simp only [first, stopsEq, free, Bool.not_false, Bool.and_true]
  have noted : s2 = s.postNoted n p f (s.on (FAULT.STOP_ON_POST n)) := by
    simp only [s2, s1, own, byTid, Bool.false_eq_true, if_false, stopsEq, ht]
    rw [State.record_of_room room, State.postNoted, State.postRecord, ht]
  have held : s4 = s2.when (s.on (FAULT.STOP_ON_POST n)) fun s => s.postsHeld n left := by
    simp only [s4, s3, stopsEq, firstEq]
    cases s.on (FAULT.STOP_ON_POST n) <;> rfl
  have entry : (s4.power.phase == Phase.draining) = false := by
    have power : s4.power = s.power := by
      rw [held, noted]
      cases s.on (FAULT.STOP_ON_POST n) <;> rfl
    rw [power, steady]
    rfl
  rw [entry, Bool.and_false, State.when_false, held, noted]

theorem State.runs_postedStoreFailed {s : State} {h : Fin 4} {i : Island} {left : Nat} {u : Upset} {p : Posted} {f : Fail}
    (oldest : (s.hart h).posts.find? (fun p => p.island == i && !p.held) = some p) (quiet : s.rst.quiescing.contains h.val = false)
    (bad : s.judge (.hart h) h p.addr .write u = .bad f) (hc : f.cause ≠ causeParity) (free : s.on (FAULT.HELD h) = false)
    (steady : s.power.phase = .steady) (room : (s.postOf h).fifo.length < 16) :
    s.runs (.postedStoreDone h i left u) [.harts, .post] [FAULT.POSTED_ERR h, FAULT.HELD h] fun t =>
      t.get (FAULT.POSTED_ERR h) = 1 ∧ (t.postOf h).failed = ((s.postOf h).failed || !p.fenced) ∧
      (t.postOf h).fifo = (s.postOf h).fifo ++ [s.postRecord h p f (s.on (FAULT.STOP_ON_POST h))] ∧
      t.on (FAULT.HELD h) = s.on (FAULT.STOP_ON_POST h) ∧
      (t.hart h).posts = if s.on (FAULT.STOP_ON_POST h) then holdPosts left (dropPost i (s.hart h).posts) else dropPost i (s.hart h).posts := by
  generalize stop : s.on (FAULT.STOP_ON_POST h) = c
  let r := s.modHart h fun x => { x with posts := dropPost i x.posts }
  have done : s.postDone h i left u = (r.postNoted h p f c).when c fun s => s.postsHeld h left := by
    have failed : s.postDone h i left u = r.postFailed h p f left := by
      simp only [State.postDone, oldest, State.writeAt, quiet, bad]
      rfl
    have := State.postFailed_steady (s := r) (left := left) (p := p) hc (State.judge_bad_tid bad hc) free steady room
    rwa [show r.on (FAULT.STOP_ON_POST h) = c from stop, ← failed] at this
  have err := r.get_posted_err_postNoted h p f c
  have post := r.postOf_postNoted h p f c
  have posts : ((r.postNoted h p f c).hart h).posts = dropPost i (s.hart h).posts := congrArg Hart.posts (s.hart_modHart h _)
  have changed : s.changes (r.postNoted h p f c) [.harts, .post] [FAULT.POSTED_ERR h, FAULT.HELD h] :=
    .postNoted (.modHart State.changes_rfl (by simp)) (by simp) (by simp)
  refine ⟨_, congrArg Host.Outcome.next done, ?_⟩
  cases c with
  | false =>
    exact ⟨⟨err, congrArg Post.failed post, congrArg Post.fifo post, (r.on_held_postNoted h p f _).trans free, posts⟩, changed⟩
  | true =>
    refine ⟨⟨?_, congrArg Post.failed post, congrArg Post.fifo post, State.on_held_postsHeld _ h left, ?_⟩,
      .modHart (.put changed (by simp)) (by simp)⟩
    · exact (State.get_posted_err_postsHeld _ h left).trans err
    · exact (State.posts_postsHeld _ h left).trans (congrArg (holdPosts left) posts)

/-! ### The fence (R244) -/

theorem State.faultRead_fence {s : State} {m : Master} {n : Fin 4} {w : Nat} (hm : m ≠ .hart n) :
    s.faultRead m n n 0x2C w = (s, s.get (FAULT.LAST_TAG n) + s.get (FAULT.HELD n) * 2 ^ 30) := by
  have word : s.fenceWord n false = (s, s.get (FAULT.LAST_TAG n) + s.get (FAULT.HELD n) * 2 ^ 30) := by
    rw [State.get_held]
    rfl
  rw [← word]
  cases m with
  | hart h =>
    have other : (h.val == n.val) = false := beq_false_of_ne fun e => hm (congrArg Master.hart (Fin.ext e))
    simp [State.faultRead, other]
  | _ => simp [State.faultRead]

theorem State.runs_fenceRead_other {s : State} {m : Master} {n : Tid} (ha : s.admits m (6 + n) 0x2C false) (hm : m ≠ .hart n) (ht : s.tidOf m = n) :
    s.runs (.faultnFenceRead m n) [.answer] [] fun t =>
      t.answer = BitVec.ofNat 32 (s.get (FAULT.LAST_TAG n) + s.get (FAULT.HELD n) * 2 ^ 30) := by
  have answered : s.fenceRead m n = s.reply (bits (s.get (FAULT.LAST_TAG n) + s.get (FAULT.HELD n) * 2 ^ 30) 0 32) := by
    rw [State.fenceRead, show (m == .hart n) = false from beq_false_of_ne hm, Bool.false_and, if_neg Bool.false_ne_true,
      State.cmdRead_fault n ha (by decide) rfl, ht, State.faultRead_fence hm]
  exact ⟨_, congrArg Host.Outcome.next answered, ofNat_bits _, .reply State.changes_rfl (by simp)⟩

theorem State.runs_fenceRead_waits {s : State} {n : Tid} (waits : s.postsWait n = true) (issues : s.issues n = true) :
    s.runs (.faultnFenceRead (.hart n) n) [.harts] [] fun t =>
      t.hart n = { s.hart n with wfi := false, fencing := true, fenceTo := none } := by
  have held : s.fenceRead (.hart n) n =
      (s.modHart n fun h => { h with wfi := false }).modHart n fun h => { h with fencing := true, fenceTo := none } := by
    rw [State.fenceRead, waits, beq_self_eq_true, Bool.and_self, if_pos rfl, State.execute_of_issues issues]
  refine ⟨_, congrArg Host.Outcome.next held, ?_, .modHart (.modHart State.changes_rfl (by simp)) (by simp)⟩
  exact (State.hart_modHart _ n _).trans (congrArg (fun h : Hart => { h with fencing := true, fenceTo := none }) (s.hart_modHart n _))

theorem State.postOf_modHart (s : State) (n j : Nat) (f : Hart → Hart) : (s.modHart n f).postOf j = s.postOf j := rfl

theorem State.postOf_retire_reply (s : State) (v n j : Nat) : ((s.reply v).retire n).postOf j = s.postOf j := rfl

theorem State.hart_reply (s : State) (v j : Nat) : (s.reply v).hart j = s.hart j := rfl

theorem State.hart_modPost (s : State) (n j : Nat) (f : Post → Post) : (s.modPost n f).hart j = s.hart j := rfl

theorem State.answer_retire_reply (s : State) (v n : Nat) : ((s.reply v).retire n).answer = BitVec.ofNat 32 v := rfl

theorem State.runs_fenceReturn {s : State} {n : Tid} (fencing : (s.hart n).fencing = true) (done : s.postsWait n = false)
    (bare : (s.hart n).fenceTo = none) :
    s.runs (.fenceReturn n) [.answer, .harts, .post] [] fun t =>
      t.answer = BitVec.ofNat 32 (s.get (FAULT.LAST_TAG n) + s.get (FAULT.HELD n) * 2 ^ 30 + ofBool (s.postOf n).failed * 2 ^ 31) ∧
      t.hart n = ({ s.hart n with fencing := false, fenceTo := none, posts := (s.hart n).posts.map fun p => { p with fenced := true } } :
        Hart).retired ∧ t.postOf n = { s.postOf n with failed := false } := by
  have returned : s.fenceReturn n = ((((s.modPost n fun p => { p with failed := false }).modHart n
      fun h => { h with posts := h.posts.map fun p => { p with fenced := true } }).modHart n
      fun h => { h with fencing := false, fenceTo := none }).reply
        (s.get (FAULT.LAST_TAG n) + s.get (FAULT.HELD n) * 2 ^ 30 + ofBool (s.postOf n).failed * 2 ^ 31)).retire n := by
    simp only [State.fenceReturn, fencing, done, bare, State.fenceWord, State.get_held]
    rw [Bool.not_true, Bool.or_false, if_neg Bool.false_ne_true, if_pos trivial]
  refine ⟨_, congrArg Host.Outcome.next returned, ⟨State.answer_retire_reply _ _ _, ?_, ?_⟩,
    .modHart (.reply (.modHart (.modHart (.modPost State.changes_rfl (by simp)) (by simp)) (by simp)) (by simp)) (by simp)⟩
  · rw [State.retire, State.hart_modHart, State.hart_reply, State.hart_modHart, State.hart_modHart, State.hart_modPost]
  · rw [State.postOf_retire_reply, State.postOf_modHart, State.postOf_modHart, State.postOf_modPost]

/-! ### The fault FIFO is read (R243, R247) -/

theorem State.faultRead_rec3 (s : State) (m : Master) (t n w : Nat) :
    s.faultRead m t n 0x1C w = (s.when (t == n) fun s => s.popRecord n, ((s.postOf n).fifo.head?.map (·.w3)).getD 0) := by
  have oldest : (((s.postOf n).fifo.head?).getD ⟨0, 0, 0, 0, false⟩).w3 = ((s.postOf n).fifo.head?.map (·.w3)).getD 0 := by
    cases (s.postOf n).fifo.head? <;> rfl
  simp [State.faultRead, oldest]

theorem State.postOf_judgeHeld (s : State) (n j : Nat) : (s.judgeHeld n).postOf j = s.postOf j := by
  simp only [State.judgeHeld, State.when]
  split <;> rfl

theorem State.get_held_judgeHeld (s : State) (n : Nat) :
    (s.judgeHeld n).get (FAULT.HELD n) = s.get (FAULT.HELD n) ∨ (s.judgeHeld n).get (FAULT.HELD n) = 0 := by
  simp only [State.judgeHeld, State.when]
  split
  · exact .inr (State.get_put_same s (FAULT.HELD n) 0)
  · exact .inl rfl

theorem State.changes.judgeHeld {s t : State} {ps : List Part} {fs : List Fld} {n : Nat} (h : s.changes t ps fs) (hp : .harts ∈ ps)
    (hf : (FAULT.HELD n).key ∈ fs.map Fld.key) : s.changes (t.judgeHeld n) ps fs :=
  .when h (.modHart (.put h hf) hp)

/-- A read of FAULTn_REC3 answers word 3 of the oldest record; one with the tenant's TID removes it. -/
theorem State.exec_rec3Read {s : State} {m : Master} {n : Tid} (ha : s.admits m (6 + n) 0x1C false) :
    exec (.faultnRec3Read m n) s = .next ((s.when (s.tidOf m == n) fun s => s.popRecord n).reply
      (bits (((s.postOf n).fifo.head?.map (·.w3)).getD 0) 0 32)) := by
  have := State.cmdRead_fault (s := s) (m := m) n ha (by decide) rfl
  rw [State.faultRead_rec3] at this
  exact congrArg Host.Outcome.next this

theorem State.runs_rec3Read_own {s : State} {m : Master} {n : Tid} (ha : s.admits m (6 + n) 0x1C false) (ht : s.tidOf m = n) :
    s.runs (.faultnRec3Read m n) [.answer, .post, .harts] [FAULT.HELD n] fun t =>
      t.answer = BitVec.ofNat 32 (((s.postOf n).fifo.head?.map (·.w3)).getD 0) ∧ (t.postOf n).fifo = (s.postOf n).fifo.drop 1 ∧
      (t.get (FAULT.HELD n) = s.get (FAULT.HELD n) ∨ t.get (FAULT.HELD n) = 0) ∧ ∀ j : Fin 4, j ≠ n → t.postOf j = s.postOf j := by
  have read := State.exec_rec3Read ha
  rw [beq_iff_eq.mpr ht, State.when_true, State.popRecord] at read
  refine ⟨_, read, ⟨ofNat_bits _, ?_, State.get_held_judgeHeld _ _, fun j hj => ?_⟩,
    .reply (.judgeHeld (.modPost State.changes_rfl (by simp)) (by simp) (by simp)) (by simp)⟩
  · exact congrArg Post.fifo ((State.postOf_judgeHeld _ _ _).trans (s.postOf_modPost n _))
  · exact (State.postOf_judgeHeld _ _ _).trans (State.postOf_modPost_ne hj)

theorem State.runs_rec3Read_other {s : State} {m : Master} {n : Tid} (ha : s.admits m (6 + n) 0x1C false) (ht : s.tidOf m ≠ n) :
    s.runs (.faultnRec3Read m n) [.answer] [] fun t => t.answer = BitVec.ofNat 32 (((s.postOf n).fifo.head?.map (·.w3)).getD 0) := by
  have read := State.exec_rec3Read ha
  rw [show (s.tidOf m == n) = false from beq_false_of_ne ht, State.when_false] at read
  exact ⟨_, read, ofNat_bits _, .reply State.changes_rfl (by simp)⟩

/-! ### The obligation -/

/-- Settles O21, clause by clause: the store that enters the buffer, the one that is performed, the one that fails, the fence, and the FIFO. -/
theorem postedStores : Obligations.PostedStores := by
  refine ⟨?post, ?done, ?failed, ?fenceOther, ?fenceWaits, ?fenceReturns, ?recOwn, ?recOther, ?full⟩
  case post =>
    intro s h a w v outside issues aligned admitted free room
    exact State.runs_postedStore outside issues aligned admitted free room
  case done =>
    intro s i left p oldest quiet lo hi _ up own sound
    exact State.runs_postedStoreDone oldest quiet lo hi up own sound
  case failed =>
    intro s h i left u p f oldest quiet bad hc free steady room
    exact State.runs_postedStoreFailed oldest quiet bad hc free steady room
  case fenceOther => exact fun s m n ha hm ht => State.runs_fenceRead_other ha hm ht
  case fenceWaits => exact fun s n waits issues => State.runs_fenceRead_waits waits issues
  case fenceReturns => exact fun s n fencing done bare => State.runs_fenceReturn fencing done bare
  case recOwn => exact fun s m n ha ht => State.runs_rec3Read_own ha ht
  case recOther => exact fun s m n ha ht => State.runs_rec3Read_other ha ht
  case full =>
    intro s n r full
    rw [State.record_of_full full]
    exact ⟨State.postOf_modPost s n _, State.get_raise_same rfl⟩

end Sys2Proof.Machine
end

section
/-!
PROOFS. The memories' scrubber, the CRC engine's direct mode and the TRNG: fault records of a tenant, the pass over main SRAM, and a register
write of the CRC page.
-/

namespace Sys2Proof.Machine

/-! ### The memories as a part of the state -/

theorem State.changes.modMem {s t : State} {ps : List Part} {fs : List Fld} {f : Mem → Mem} (h : s.changes t ps fs) (hp : .mem ∈ ps) :
    s.changes (t.modMem f) ps fs :=
  h.parts rfl fun p hn _ => by cases p <;> first | exact absurd hp hn | rfl | exact fun _ _ => rfl

@[simp] theorem State.modMem_get (s : State) (f : Mem → Mem) (g : Fld) : (s.modMem f).get g = s.get g := rfl

/-! ### One record, with room for it or without (R246, R248) -/

theorem State.record_of_no_room {s : State} {n : Nat} {r : Rec} (h : ¬(s.postOf n).fifo.length < 16) :
    s.record n r = (s.modPost n fun p => { p with lostHeld := p.lostHeld || r.held }).raise (FAULT.OVERFLOW n) := if_neg h

/-- What is shown of `record` for either case. -/
theorem State.record_cases {P : State → Prop} {s : State} {n : Nat} {r : Rec}
    (room : (s.postOf n).fifo.length < 16 → P (s.modPost n fun p => { p with fifo := p.fifo ++ [r] }))
    (full : ¬(s.postOf n).fifo.length < 16 → P ((s.modPost n fun p => { p with lostHeld := p.lostHeld || r.held }).raise (FAULT.OVERFLOW n))) :
    P (s.record n r) := by
  by_cases h : (s.postOf n).fifo.length < 16
  · exact State.record_of_room h ▸ room h
  · exact State.record_of_no_room h ▸ full h

@[simp] theorem State.record_mem (s : State) (n : Nat) (r : Rec) : (s.record n r).mem = s.mem :=
  State.record_cases (P := fun t => t.mem = s.mem) (fun _ => rfl) fun _ => rfl

@[simp] theorem State.record_tick32 (s : State) (n : Nat) (r : Rec) : (s.record n r).tick32 = s.tick32 :=
  State.record_cases (P := fun t => t.tick32 = s.tick32) (fun _ => rfl) fun _ => rfl

theorem State.postOf_record_ne {s : State} {n j : Fin 4} {r : Rec} (h : j ≠ n) : (s.record n r).postOf j = s.postOf j :=
  State.record_cases (P := fun t => t.postOf j = s.postOf j) (fun _ => State.postOf_modPost_ne h) fun _ => State.postOf_modPost_ne h

theorem State.fifo_record (s : State) (n : Fin 4) (r : Rec) :
    ((s.record n r).postOf n).fifo = (s.postOf n).fifo ++ [r].take (16 - (s.postOf n).fifo.length) := by
  refine State.record_cases (P := fun t => (t.postOf n).fifo = _) (fun room => ?_) fun full => ?_
  · rw [State.postOf_modPost, List.take_of_length_le (by rw [List.length_singleton]; omega)]
  · rw [Nat.sub_eq_zero_of_le (Nat.not_lt.mp full), List.take_zero, List.append_nil]
    have kept := s.postOf_modPost n fun p => { p with lostHeld := p.lostHeld || r.held }
    exact (congrArg Post.fifo kept :)

theorem State.changes.record {s t : State} {ps : List Part} {fs : List Fld} {n : Nat} {r : Rec} (h : s.changes t ps fs) (hp : .post ∈ ps)
    (hf : (FAULT.OVERFLOW n).key ∈ fs.map Fld.key) : s.changes (t.record n r) ps fs :=
  State.record_cases (P := fun u => s.changes u ps fs) (fun _ => h.modPost hp) fun _ => (h.modPost hp).raise hf

/-! ### The reports of a scrubber pass (R234, R274) -/

/-- The record of an uncorrectable error that the scrubber meets in main SRAM. -/
def State.scrubRec (s : State) (a : Nat) : Rec := ⟨recWord0 causeEcc 1 0 false, a % 2 ^ 32, recWord2 0x81 0 0, s.tick32, false⟩

theorem State.eccRecord_sram {s : State} {a : Nat} (lo : 0x20000000 ≤ a) (hi : a < 0x20100000) :
    s.eccRecord 0 a 0x81 = s.record 0 (s.scrubRec a) := by
  have code : memCode a = 1 := by
    unfold memCode
    rw [if_neg (by omega), if_neg (by omega), if_neg (by omega), if_pos (by omega)]
  have bus : busAddr a = a := if_neg (by simp only [Bool.and_eq_true, decide_eq_true_eq]; omega)
  rw [State.eccRecord, State.fault, code, bus, State.scrubRec]

/-- The errors at the addresses of `l` are reported in turn. -/
def State.scrubReports (s : State) (l : Table Unit) : State := l.foldl (fun st e => st.eccRecord 0 e.1 0x81) s

@[simp] theorem State.scrubReports_mem (s : State) (l : Table Unit) : (s.scrubReports l).mem = s.mem := by
  induction l generalizing s with
  | nil => rfl
  | cons e l ih => exact (ih _).trans (s.record_mem 0 _)

theorem State.changes.scrubReports {s t : State} {ps : List Part} {fs : List Fld} (h : s.changes t ps fs) (hp : .post ∈ ps)
    (hf : (FAULT.OVERFLOW 0).key ∈ fs.map Fld.key) (l : Table Unit) : s.changes (t.scrubReports l) ps fs := by
  induction l generalizing t with
  | nil => exact h
  | cons e l ih => exact ih (h.record hp hf)

theorem State.postOf_scrubReports_ne (s : State) {j : Fin 4} (h : j ≠ 0) (l : Table Unit) : (s.scrubReports l).postOf j = s.postOf j := by
  induction l generalizing s with
  | nil => rfl
  | cons e l ih => exact (ih _).trans (State.postOf_record_ne (n := 0) h)

/-- The reports fill the FIFO of T0 in order, as far as it has room. -/
theorem State.fifo_scrubReports (s : State) {l : Table Unit} (sram : ∀ e ∈ l, 0x20000000 ≤ e.1 ∧ e.1 < 0x20100000) :
    ((s.scrubReports l).postOf 0).fifo =
      (s.postOf 0).fifo ++ (l.map fun e => s.scrubRec e.1).take (16 - (s.postOf 0).fifo.length) := by
  induction l generalizing s with
  | nil => simp [State.scrubReports]
  | cons e l ih =>
    obtain ⟨lo, hi⟩ := sram e List.mem_cons_self
    have first : s.scrubReports (e :: l) = (s.record 0 (s.scrubRec e.1)).scrubReports l :=
      congrArg (State.scrubReports · l) (State.eccRecord_sram lo hi)
    have stamp : ∀ a, (s.record 0 (s.scrubRec e.1)).scrubRec a = s.scrubRec a := fun a => by simp only [State.scrubRec, State.record_tick32]
    have head : ((s.record 0 (s.scrubRec e.1)).postOf 0).fifo =
        (s.postOf 0).fifo ++ [s.scrubRec e.1].take (16 - (s.postOf 0).fifo.length) := s.fifo_record 0 (s.scrubRec e.1)
    rw [first, ih _ fun e he => sram e (List.mem_cons_of_mem _ he), head]
    simp only [stamp, List.length_append, List.length_take, List.length_singleton, List.append_assoc, List.map_cons]
    have left : 16 - ((s.postOf 0).fifo.length + min (16 - (s.postOf 0).fifo.length) 1) =
        16 - (s.postOf 0).fifo.length - [s.scrubRec e.1].length := by
      rw [List.length_singleton]
      omega
    rw [left, ← List.take_append, List.singleton_append]

/-! ### A scrubber pass (R274, R275) -/

/-- Does the address lie in main SRAM, at word `p` or after it? -/
def sramFrom (p a : Nat) : Bool := decide (0x20000000 + 4 * p ≤ a) && decide (a < 0x20100000)

theorem sramFrom_iff {p a : Nat} : sramFrom p a = true ↔ 0x20000000 + 4 * p ≤ a ∧ a < 0x20100000 := by
  rw [sramFrom, Bool.and_eq_true, decide_eq_true_eq, decide_eq_true_eq]

theorem sramFrom_word {p : Nat} {w : Fin 262144} (h : p ≤ w) : sramFrom p (0x20000000 + 4 * w.val) = true := by
  have := w.isLt
  exact sramFrom_iff.mpr ⟨by omega, by omega⟩

theorem Table.find_filter_none {β : Type} {t : Table β} {keep : Nat → Bool} {a : Nat} (h : keep a = false) :
    Table.find (t.filter fun e => keep e.1) a = none := by
  refine Table.find_eq_none fun hm => ?_
  obtain ⟨e, he, rfl⟩ := List.mem_map.mp hm
  exact absurd (List.mem_filter.mp he).2 (by simp [h])

/-- The rest of a pass is carried out, and the pass ends. -/
def State.scrubEnd (s : State) : State := ((s.scrubTo 262144).scrubOver).raise MEMC.SCRUB_PASS

/-- The errors that the rest of a pass reports. -/
def State.scrubErrors (s : State) : Table Unit := s.mem.ecc.filter fun e => sramFrom s.mem.scrubPos e.1

theorem State.scrubTo_last (s : State) : s.scrubTo 262144 = (s.scrubReports s.scrubErrors).modMem fun m =>
    { m with single := m.single.filter fun e => !sramFrom s.mem.scrubPos e.1, scrubPos := 262144 } := rfl

theorem State.scrubEnd_mem (s : State) : s.scrubEnd.mem =
    { s.mem with scrubDue := false, scrubPos := 0, single := s.mem.single.filter fun e => !sramFrom s.mem.scrubPos e.1 } := by
  rw [State.scrubEnd, State.scrubTo_last, State.raise_mem]
  simp only [State.scrubOver, State.modMem, State.put_mem, State.scrubReports_mem]

theorem State.scrubOver_running (s : State) : s.scrubOver.get MEMC.RUNNING = 0 :=
  ((s.put MEMC.RUNNING 0).get_put_ne MEMC.STEALING MEMC.RUNNING 0 (by decide)).trans (s.get_put_same MEMC.RUNNING 0)

theorem State.scrubOver_stealing (s : State) : s.scrubOver.get MEMC.STEALING = 0 := State.get_put_same (s.put MEMC.RUNNING 0) MEMC.STEALING 0

theorem State.scrubEnd_running (s : State) : s.scrubEnd.get MEMC.RUNNING = 0 :=
  (State.get_raise_ne (by decide)).trans (State.scrubOver_running _)

theorem State.scrubEnd_stealing (s : State) : s.scrubEnd.get MEMC.STEALING = 0 :=
  (State.get_raise_ne (by decide)).trans (State.scrubOver_stealing _)

theorem State.scrubEnd_pass (s : State) : s.scrubEnd.get MEMC.SCRUB_PASS = 1 := State.get_raise_same rfl

theorem State.postOf_scrubEnd (s : State) (j : Nat) : s.scrubEnd.postOf j = (s.scrubReports s.scrubErrors).postOf j := rfl

theorem State.fifo_scrubEnd (s : State) : (s.scrubEnd.postOf 0).fifo =
    (s.postOf 0).fifo ++ (s.scrubErrors.map fun e => s.scrubRec e.1).take (16 - (s.postOf 0).fifo.length) := by
  rw [State.postOf_scrubEnd]
  refine s.fifo_scrubReports fun e he => ?_
  obtain ⟨lo, hi⟩ := sramFrom_iff.mp (List.mem_filter.mp he).2
  exact ⟨by omega, hi⟩

/-- The register fields that a pass writes as it ends. -/
abbrev scrubFields : List Fld := [MEMC.RUNNING, MEMC.STEALING, MEMC.SCRUB_PASS, FAULT.OVERFLOW 0]

theorem State.changes.scrubEnd {s t : State} (h : s.changes t [.mem, .post] scrubFields) : s.changes t.scrubEnd [.mem, .post] scrubFields := by
  rw [State.scrubEnd, State.scrubTo_last]
  exact (((((h.scrubReports (by simp) (by simp) _).modMem (by simp)).put (by simp)).put (by simp)).modMem (by simp)).raise (by simp)

/-- Errors of the words of `single` and `double` are there. -/
def Mem.upset (m : Mem) (single double : List (Fin 262144)) : Mem :=
  { m with
    single := single.foldl (fun t w => Table.insert t (0x20000000 + 4 * w.val) ()) m.single
    ecc := double.foldl (fun t w => Table.insert t (0x20000000 + 4 * w.val) ()) m.ecc }

theorem State.foldl_setSingle (s : State) (l : List (Fin 262144)) :
    l.foldl (fun st w => st.setSingle (0x20000000 + 4 * w.val)) s = s.modMem (·.upset l []) := by
  induction l generalizing s with
  | nil => rfl
  | cons w l ih => exact ih _

theorem State.foldl_setEcc (s : State) (l : List (Fin 262144)) :
    l.foldl (fun st w => st.setEcc (0x20000000 + 4 * w.val)) s = s.modMem (·.upset [] l) := by
  induction l generalizing s with
  | nil => rfl
  | cons w l ih => exact ih _

/-- A pass that is due completes: the errors it is the first to find are there, and it reads on to the last word. -/
theorem State.scrubDone_of_due {s : State} (due : s.mem.scrubDue = true) (up : s.up .core = true) (single double : List (Fin 262144)) :
    s.scrubDone single double = (s.modMem (·.upset single double)).scrubEnd := by
  rw [State.scrubDone, due, up, Bool.and_self, if_pos rfl]
  dsimp only
  rw [State.foldl_setSingle, State.foldl_setEcc]
  rfl

theorem State.runs_scrubPass {s : State} {single double : List (Fin 262144)} {P : State → Prop} (due : s.mem.scrubDue = true)
    (up : s.up .core = true) (holds : P (s.modMem (·.upset single double)).scrubEnd) :
    s.runs (.scrubPass single double) [.mem, .post] scrubFields P :=
  ⟨_, congrArg Host.Outcome.next (State.scrubDone_of_due due up single double), holds, (State.changes_rfl.modMem (by simp)).scrubEnd⟩

theorem State.runs_scrubPass_nothing_new {s : State} (due : s.mem.scrubDue = true) (up : s.up .core = true) :
    s.runs (.scrubPass [] []) [.mem, .post] scrubFields fun t =>
      t.get MEMC.RUNNING = 0 ∧ t.get MEMC.STEALING = 0 ∧ t.get MEMC.SCRUB_PASS = 1 ∧
      t.mem = { s.mem with scrubDue := false, scrubPos := 0, single := s.mem.single.filter fun e => !sramFrom s.mem.scrubPos e.1 } ∧
      (∀ n : Fin 3, t.postOf (n + 1) = s.postOf (n + 1)) ∧
      (t.postOf 0).fifo = (s.postOf 0).fifo ++ (s.scrubErrors.map fun e => s.scrubRec e.1).take (16 - (s.postOf 0).fifo.length) := by
  refine State.runs_scrubPass due up ⟨State.scrubEnd_running _, State.scrubEnd_stealing _, State.scrubEnd_pass _, s.scrubEnd_mem, fun n => ?_,
    s.fifo_scrubEnd⟩
  rw [State.postOf_scrubEnd]
  exact State.postOf_scrubReports_ne s (j := n.succ) (Fin.succ_ne_zero n) _

theorem State.runs_scrubPass_found {s : State} {l : List (Fin 262144)} {w : Fin 262144} (due : s.mem.scrubDue = true) (up : s.up .core = true)
    (ahead : s.mem.scrubPos ≤ w) (sound : s.mem.ecc = []) (empty : (s.postOf 0).fifo = []) :
    s.runs (.scrubPass l [w]) [.mem, .post] scrubFields fun t =>
      t.get MEMC.SCRUB_PASS = 1 ∧ (t.postOf 0).fifo = [s.scrubRec (0x20000000 + 4 * w.val)] ∧ t.eccBad (0x20000000 + 4 * w) = true ∧
      ∀ k ∈ l, s.mem.scrubPos ≤ k → Table.find t.mem.single (0x20000000 + 4 * k.val) = none := by
  have listed : (s.modMem (·.upset l [w])).mem.ecc = [(0x20000000 + 4 * w.val, ())] := by simp [State.modMem, Mem.upset, sound, Table.insert]
  have errors : (s.modMem (·.upset l [w])).scrubErrors = [(0x20000000 + 4 * w.val, ())] := by
    rw [State.scrubErrors, listed]
    exact List.filter_cons_of_pos (sramFrom_word ahead)
  refine State.runs_scrubPass due up ⟨State.scrubEnd_pass _, ?fifo, ?bad, fun k _ read => ?single⟩
  case fifo =>
    rw [State.fifo_scrubEnd, errors]
    have empty' : ((s.modMem (·.upset l [w])).postOf 0).fifo = [] := empty
    rw [empty']
    rfl
  case bad =>
    rw [State.eccBad, State.scrubEnd_mem, listed]
    simp [Table.find]
  case single =>
    rw [State.scrubEnd_mem]
    exact Table.find_filter_none (keep := fun a => !sramFrom _ a) (congrArg Bool.not (sramFrom_word read))

theorem State.runs_scrubPass_idle {s : State} {l : List (Fin 262144)} (h : s.mem.scrubDue = false ∨ s.up .core = false) :
    s.runs (.scrubPass l l) [] [] fun t => t = s := by
  refine ⟨_, congrArg Host.Outcome.next (if_neg ?_), rfl, State.changes_rfl⟩
  obtain h | h := h <;> simp [h]

theorem State.runs_scrubDue {s : State} (enabled : s.on MEMC.SCRUB_EN = true) (up : s.up .core = true) (steady : s.power.phase = .steady) :
    s.runs .scrubDue [.mem] [MEMC.RUNNING] fun t => t.get MEMC.RUNNING = 1 ∧ t.mem = { s.mem with scrubDue := true } :=
  ⟨_, congrArg Host.Outcome.next (if_pos (by simp [enabled, up, steady])), ⟨s.get_put_same MEMC.RUNNING 1, rfl⟩,
    (State.changes_rfl.put (by simp)).modMem (by simp)⟩

theorem State.runs_scrubSteal {s : State} (due : s.mem.scrubDue = true) (up : s.up .core = true) (deferring : s.on MEMC.STEALING = false) :
    s.runs .scrubSteal [] [MEMC.STEALING, MEMC.SCRUB_STEAL] fun t => t.get MEMC.STEALING = 1 ∧ t.get MEMC.SCRUB_STEAL = 1 :=
  ⟨_, congrArg Host.Outcome.next (if_pos (by simp [due, up, deferring])),
    ⟨(State.get_raise_ne (by decide)).trans (s.get_put_same MEMC.STEALING 1), State.get_raise_same rfl⟩,
    (State.changes_rfl.put (by simp)).raise (by simp)⟩

/-! ### A register write that is not refused -/

/-- What an admitted write of `n` bytes from the first byte of a register comes to. -/
theorem State.cmdWrite_unrefused {s : State} {m : Master} {p off n v : Nat} (h : s.admits m p off true) (word : pageAddr p off % 4 = 0)
    (noCancel : (pageAddr p off / 4 * 4 == pageAddr 0xE 0x24) = false) (unrefused : (s.regWrite (s.tidOf m) p off 0 n v none).2 = none) :
    s.cmdWrite m (pageAddr p off) n v = (s.regWrite (s.tidOf m) p off 0 n v none).1 := by
  obtain ⟨running, judged, admitted⟩ := h
  rw [if_pos rfl] at judged
  simp only [State.cmdWrite, State.busWrite, State.busPut, State.writeAt, running, judged, admitted, word, unrefused, Bool.false_eq_true, if_false]
  exact State.cancelSwept_ne noCancel

theorem State.get_putLegal_same {s : State} {f : Fld} {v : Nat} (h : v < 2 ^ f.width) :
    (s.putLegal f v).get f = if f.legalValue v then v else s.get f := by
  unfold State.putLegal
  split
  · exact (s.get_put_same f v).trans (Nat.mod_eq_of_lt h)
  · rfl

theorem State.get_putLegal_ne {s : State} {f g : Fld} {v : Nat} (h : g.key ≠ f.key) : (s.putLegal f v).get g = s.get g := by
  unfold State.putLegal
  split
  · exact s.get_put_ne f g v h
  · rfl

@[simp] theorem State.putLegal_mem (s : State) (f : Fld) (v : Nat) : (s.putLegal f v).mem = s.mem := by
  unfold State.putLegal
  split <;> rfl

theorem State.changes.putLegal {s t : State} {ps : List Part} {fs : List Fld} {f : Fld} {v : Nat} (h : s.changes t ps fs)
    (hf : f.key ∈ fs.map Fld.key) : s.changes (t.putLegal f v) ps fs := State.changes.ite (h.put hf) h

/-! ### The CRC engine (R292, R293) -/

theorem State.crcAlg_put {s : State} {f : Fld} {v : Nat}
    (h : ∀ g ∈ [CRC.MODE, CRC.POLY, CRC.INIT, CRC.XOROUT, CRC.REFIN, CRC.REFOUT], g.key ≠ f.key) : (s.put f v).crcAlg = s.crcAlg := by
  have same : ∀ g ∈ [CRC.MODE, CRC.POLY, CRC.INIT, CRC.XOROUT, CRC.REFIN, CRC.REFOUT], (s.put f v).get g = s.get g :=
    fun g hg => s.get_put_ne f g v (h g hg)
  simp only [State.crcAlg, State.on]
  simp only [List.forall_mem_cons] at same
  obtain ⟨mode, poly, init, xorOut, refIn, refOut, -⟩ := same
  rw [mode, poly, init, xorOut, refIn, refOut]

@[simp] theorem State.crcSet_crcAlg (s : State) (r : Nat) : (s.crcSet r).crcAlg = s.crcAlg := State.crcAlg_put (s := s.modMem _) (by decide)

theorem State.crcSet_mem (s : State) (r : Nat) : (s.crcSet r).mem = { s.mem with crcReg := r } := rfl

theorem State.crcSet_result (s : State) (r : Nat) : (s.crcSet r).get CRC.RESULT = crcFinish s.crcAlg r % 2 ^ 32 := State.get_put_same _ _ _

theorem State.get_crcSet_ne {s : State} {f : Fld} {r : Nat} (h : f.key ≠ CRC.RESULT.key) : (s.crcSet r).get f = s.get f :=
  State.get_put_ne _ _ _ _ h

theorem State.changes.crcSet {s t : State} {ps : List Part} {fs : List Fld} {r : Nat} (h : s.changes t ps fs) (hp : .mem ∈ ps)
    (hf : CRC.RESULT.key ∈ fs.map Fld.key) : s.changes (t.crcSet r) ps fs := (h.modMem hp).put hf

theorem bytesLE_mod (n v : Nat) : bytesLE n (v % 2 ^ (8 * n)) = bytesLE n v := by
  induction n generalizing v with
  | zero => rfl
  | succ n ih =>
    have low : v % 2 ^ (8 * (n + 1)) % 256 = v % 256 := Nat.mod_mod_of_dvd _ (Nat.pow_dvd_pow 2 (by omega : 8 ≤ 8 * (n + 1)))
    have high : v % 2 ^ (8 * (n + 1)) / 256 = v / 256 % 2 ^ (8 * n) := by
      rw [Nat.mul_succ, Nat.add_comm, Nat.pow_add]
      exact Nat.mod_mul_right_div_self v 256 (2 ^ (8 * n))
    rw [bytesLE, bytesLE, low, high, ih]

theorem State.writeField_wo {s : State} {lock : Option Nat} {v mask : Nat} {f : Fld} (h : f.acc = .wo) :
    s.writeField lock v mask f = (s, none) := by
  simp only [State.writeField, h, ite_self]

theorem State.writeField_rw {s : State} {lock : Option Nat} {v : Nat} {f : Fld} (h : f.acc = .rw) (fits : f.lsb + f.width ≤ 32)
    (wide : 0 < f.width) : s.writeField lock v 0xFFFFFFFF f = (s.putLegal f (bits v f.lsb f.width), none) := by
  rw [State.writeField_full fits wide, h]

theorem State.writeFields_crcData (s : State) (v mask : Nat) : s.writeFields 0x1E 0x20 v mask = (s, none) := by
  have fields : pageFieldsAt 0x1E 0x20 = [CRC.DATA] := by decide
  simp only [State.writeFields, fields, List.foldl_cons, List.foldl_nil, State.writeField_wo (f := CRC.DATA) rfl, Option.or_none]

theorem State.writeFields_crcInit (s : State) (v : Nat) : s.writeFields 0x1E 0x18 v 0xFFFFFFFF = (s.put CRC.INIT v, none) := by
  have fields : pageFieldsAt 0x1E 0x18 = [CRC.INIT] := by decide
  have field (lock : Option Nat) : s.writeField lock v 0xFFFFFFFF CRC.INIT = (s.put CRC.INIT v, none) := by
    rw [State.writeField_rw rfl (by decide) (by decide)]
    simp [State.putLegal, Fld.legalValue, CRC.INIT, bits, State.put]
  simp only [State.writeFields, fields, List.foldl_cons, List.foldl_nil, field, Option.or_none]

/-- The state with the fields of CRC_CFG written. -/
def State.crcConfigured (s : State) (v : Nat) : State :=
  ((s.putLegal CRC.MODE (bits v 0 3)).putLegal CRC.REFIN (bits v 4 1)).putLegal CRC.REFOUT (bits v 5 1)

theorem crcCfg_fields : pageFieldsAt 0x1E 0x10 = [CRC.MODE, CRC.REFIN, CRC.REFOUT] := by decide

theorem State.writeFields_crcCfg (s : State) (v : Nat) : s.writeFields 0x1E 0x10 v 0xFFFFFFFF = (s.crcConfigured v, none) := by
  have mode (t : State) (lock : Option Nat) : t.writeField lock v 0xFFFFFFFF CRC.MODE = (t.putLegal CRC.MODE (bits v 0 3), none) :=
    State.writeField_rw rfl (by decide) (by decide)
  have refIn (t : State) (lock : Option Nat) : t.writeField lock v 0xFFFFFFFF CRC.REFIN = (t.putLegal CRC.REFIN (bits v 4 1), none) :=
    State.writeField_rw rfl (by decide) (by decide)
  have refOut (t : State) (lock : Option Nat) : t.writeField lock v 0xFFFFFFFF CRC.REFOUT = (t.putLegal CRC.REFOUT (bits v 5 1), none) :=
    State.writeField_rw rfl (by decide) (by decide)
  simp only [State.writeFields, crcCfg_fields, List.foldl_cons, List.foldl_nil, mode, refIn, refOut, Option.or_none, State.crcConfigured]

theorem State.crcConfigured_get (s : State) (v : Nat) {f : Fld} (h : f ∈ pageFieldsAt 0x1E 0x10) :
    (s.crcConfigured v).get f = if f.legalValue (bits v f.lsb f.width) then bits v f.lsb f.width else s.get f := by
  simp only [crcCfg_fields, List.mem_cons, List.not_mem_nil, or_false] at h
  unfold State.crcConfigured
  obtain rfl | rfl | rfl := h
  · rw [State.get_putLegal_ne (by decide), State.get_putLegal_ne (by decide)]
    exact State.get_putLegal_same (f := CRC.MODE) (bits_lt v 0 3)
  · rw [State.get_putLegal_ne (by decide), State.get_putLegal_same (f := CRC.REFIN) (bits_lt v 4 1), State.get_putLegal_ne (by decide)]
    rfl
  · rw [State.get_putLegal_same (f := CRC.REFOUT) (bits_lt v 5 1), State.get_putLegal_ne (by decide), State.get_putLegal_ne (by decide)]
    rfl

/-- A write of `n` bytes of a register of the CRC engine beyond the common header. -/
theorem State.regWrite_crc {s t : State} {tid off n v : Nat} {us : Option Nat} (hoff : 0xC < off)
    (fields : s.writeFields 0x1E off (v % 2 ^ (8 * n)) (laneMask 0 n) = (t, none)) :
    s.regWrite tid 0x1E off 0 n v us = (t.crcWrote off (v % 2 ^ (8 * n)) n, none) := by
  have h0 : off ≠ 0 := by omega
  have h4 : off ≠ 4 := by omega
  have h8 : off ≠ 8 := by omega
  have hC : off ≠ 0xC := by omega
  simp [State.regWrite, h0, h4, h8, hC, fields]

theorem State.cmdWrite_crc {s t : State} {m : Master} {off n v : Nat} (h : s.admits m 0x1E off true) (hoff : 0xC < off)
    (word : pageAddr 0x1E off % 4 = 0) (noCancel : (pageAddr 0x1E off / 4 * 4 == pageAddr 0xE 0x24) = false)
    (fields : s.writeFields 0x1E off (v % 2 ^ (8 * n)) (laneMask 0 n) = (t, none)) :
    s.cmdWrite m (pageAddr 0x1E off) n v = t.crcWrote off (v % 2 ^ (8 * n)) n := by
  have written := State.regWrite_crc (tid := s.tidOf m) (us := none) hoff fields
  rw [State.cmdWrite_unrefused h word noCancel (congrArg Prod.snd written), written]

theorem State.runs_crcData {s : State} {m : Master} {w : Width} {v : Word} (h : s.admits m 0x1E 0x20 true) :
    s.runs (.crcDataWrite m w v) [.mem] [CRC.RESULT] fun t =>
      t.mem = { s.mem with crcReg := crcBytes s.crcAlg s.mem.crcReg (bytesLE (widthBytes w) v.toNat) } ∧
      t.get CRC.RESULT = crcFinish s.crcAlg t.mem.crcReg % 2 ^ 32 := by
  have write : s.cmdWrite m (pageAddr 0x1E 0x20) (widthBytes w) v.toNat = s.crcTake (bytesLE (widthBytes w) v.toNat) := by
    rw [State.cmdWrite_crc h (by decide) rfl rfl (s.writeFields_crcData _ _), ← bytesLE_mod]
    rfl
  exact ⟨_, congrArg Host.Outcome.next write, ⟨rfl, State.crcSet_result _ _⟩, State.changes_rfl.crcSet (by simp) (by simp)⟩

/-- A write that starts the calculation anew leaves the running value and RESULT at the initial value of the algorithm then selected. -/
theorem State.crcRestart_starts (s : State) : s.crcRestart.mem = { s.mem with crcReg := s.crcRestart.crcAlg.init } ∧
    s.crcRestart.get CRC.RESULT = crcFinish s.crcRestart.crcAlg s.crcRestart.crcAlg.init % 2 ^ 32 := by
  rw [State.crcRestart, State.crcSet_crcAlg]
  exact ⟨rfl, State.crcSet_result _ _⟩

theorem State.runs_crcInit {s : State} {m : Master} {v : Word} (h : s.admits m 0x1E 0x18 true) :
    s.runs (.crcRestart m true v) [.mem] [CRC.INIT, CRC.RESULT] fun t => t.get CRC.INIT = v.toNat ∧
      t.mem = { s.mem with crcReg := t.crcAlg.init } ∧ t.get CRC.RESULT = crcFinish t.crcAlg t.crcAlg.init % 2 ^ 32 := by
  have init : (s.put CRC.INIT v.toNat).crcRestart.get CRC.INIT = v.toNat :=
    (State.get_crcSet_ne (by decide)).trans ((s.get_put_same CRC.INIT v.toNat).trans (Nat.mod_eq_of_lt v.isLt))
  have write : s.cmdWrite m (pageAddr 0x1E 0x18) 4 v.toNat = (s.put CRC.INIT v.toNat).crcRestart := by
    rw [State.cmdWrite_crc h (by decide) rfl rfl (s.writeFields_crcInit _), Nat.mod_eq_of_lt v.isLt]
    rfl
  exact ⟨_, congrArg Host.Outcome.next write, ⟨init, State.crcRestart_starts _⟩,
    (State.changes_rfl.put (by simp)).crcSet (by simp) (by simp)⟩

theorem State.runs_crcCfg {s : State} {m : Master} {v : Word} (h : s.admits m 0x1E 0x10 true) :
    s.runs (.crcRestart m false v) [.mem] (CRC.RESULT :: pageFieldsAt 0x1E 0x10) fun t =>
      t.mem = { s.mem with crcReg := t.crcAlg.init } ∧ t.get CRC.RESULT = crcFinish t.crcAlg t.crcAlg.init % 2 ^ 32 ∧
      ∀ f ∈ pageFieldsAt 0x1E 0x10, t.get f = if f.legalValue (bits v.toNat f.lsb f.width) then bits v.toNat f.lsb f.width else s.get f := by
  have write : s.cmdWrite m (pageAddr 0x1E 0x10) 4 v.toNat = (s.crcConfigured v.toNat).crcRestart := by
    rw [State.cmdWrite_crc h (by decide) rfl rfl (s.writeFields_crcCfg _), Nat.mod_eq_of_lt v.isLt]
    rfl
  have kept : (s.crcConfigured v.toNat).mem = s.mem := by simp only [State.crcConfigured, State.putLegal_mem]
  obtain ⟨starts, result⟩ := (s.crcConfigured v.toNat).crcRestart_starts
  have notResult : ∀ f ∈ pageFieldsAt 0x1E 0x10, f.key ≠ CRC.RESULT.key := by decide
  refine ⟨_, congrArg Host.Outcome.next write, ⟨kept ▸ starts, result, fun f hf => ?_⟩, ?_⟩
  · exact (State.get_crcSet_ne (notResult f hf)).trans (s.crcConfigured_get v.toNat hf)
  · rw [crcCfg_fields]
    exact (((State.changes_rfl.putLegal (by simp)).putLegal (by simp)).putLegal (by simp)).crcSet (by simp) (by simp)

/-! ### The TRNG (R296, R297) -/

theorem State.changes.free {s t : State} {ps : List Part} {fs : List Fld} {w : Nat} (h : s.changes t ps fs) (hp : .fresh ∈ ps) :
    s.changes (t.free w).2 ps fs :=
  h.parts rfl fun p hn _ => by cases p <;> first | exact absurd hp hn | rfl | exact fun _ _ => rfl

theorem State.exec_trngDataRead {s : State} {m : Master} (h : s.admits m 0x20 0x14 false) :
    exec (.trngDataRead m) s = .next (s.trngRead.1.reply (bits s.trngRead.2 0 32)) :=
  congrArg Host.Outcome.next (State.cmdRead_admitted h rfl)

theorem State.runs_trngData_valid {s : State} {m : Master} (h : s.admits m 0x20 0x14 false) (valid : s.on TRNG.VALID = true) :
    s.runs (.trngDataRead m) [.answer, .fresh] [TRNG.VALID] fun t =>
      t.get TRNG.VALID = 0 ∧ t.fresh = s.fresh + 1 ∧ t.answer = BitVec.ofNat 32 (Config.unstated s.fresh) := by
  have draw : s.trngRead = ((s.free 32).2.put TRNG.VALID 0, (s.free 32).1) := if_pos valid
  have read := State.exec_trngDataRead h
  rw [draw] at read
  have bitsDrawn : BitVec.ofNat 32 (s.free 32).1 = BitVec.ofNat 32 (Config.unstated s.fresh) := by
    apply BitVec.eq_of_toNat_eq
    simp [State.free]
  exact ⟨_, read, ⟨(s.free 32).2.get_put_same TRNG.VALID 0, rfl, (ofNat_bits _).trans bitsDrawn⟩,
    ((State.changes_rfl.free (by simp)).put (by simp)).reply (by simp)⟩

theorem State.runs_trngData_invalid {s : State} {m : Master} (h : s.admits m 0x20 0x14 false) (invalid : s.on TRNG.VALID = false) :
    s.runs (.trngDataRead m) [.answer] [] fun t => t.answer = 0 := by
  have none : s.trngRead = (s, 0) := if_neg (Bool.not_eq_true _ ▸ invalid)
  have read := State.exec_trngDataRead h
  rw [none] at read
  exact ⟨_, read, ofNat_bits 0, State.changes_rfl.reply (by simp)⟩

theorem State.runs_healthFail {s : State} (up : s.up .core = true) :
    s.runs .healthFail [.mem] [TRNG.HEALTH_FAIL, TRNG.VALID, TRNG.HEALTH_OK] fun t => t.get TRNG.HEALTH_FAIL = 1 ∧ t.get TRNG.VALID = 0 ∧
      t.get TRNG.HEALTH_OK = 0 ∧ t.mem = { s.mem with trngFail := true } := by
  refine ⟨_, congrArg Host.Outcome.next (if_pos up), ⟨?fail, ?valid, ?ok, rfl⟩,
    (((State.changes_rfl.raise (by simp)).put (by simp)).put (by simp)).modMem (by simp)⟩
  case fail => rw [State.modMem_get, State.get_put_ne _ _ _ _ (by decide), State.get_put_ne _ _ _ _ (by decide), State.get_raise_same rfl]
  case valid => rw [State.modMem_get, State.get_put_ne _ _ _ _ (by decide), State.get_put_same, Nat.zero_mod]
  case ok => rw [State.modMem_get, State.get_put_same, Nat.zero_mod]

theorem State.runs_trngValidReturn {s : State} (up : s.up .core = true) :
    s.runs .trngValidReturn [.mem] [TRNG.VALID, TRNG.HEALTH_OK] fun t => t.get TRNG.VALID = 1 ∧ t.get TRNG.HEALTH_OK = 1 ∧
      t.mem = { s.mem with trngFail := false } := by
  refine ⟨_, congrArg Host.Outcome.next (if_pos up), ⟨?valid, ?ok, rfl⟩, ((State.changes_rfl.put (by simp)).put (by simp)).modMem (by simp)⟩
  case valid =>
    rw [State.modMem_get, State.get_put_ne _ _ _ _ (by decide), State.get_put_same]
    rfl
  case ok =>
    rw [State.modMem_get, State.get_put_same]
    rfl

/-! ### The obligation -/

/-- Settles O24, clause by clause: the scrubber's pass as it falls due, steals cycles and completes, the direct mode of the CRC engine, and the
TRNG. -/
theorem scrubCrcAndTrng : Obligations.ScrubCrcAndTrng := by
  refine ⟨?due, ?steal, ?nothingNew, ?found, ?idle, ?data, ?init, ?cfg, ?valid, ?invalid, ?fails, ?returns⟩
  case due => exact fun s enabled up steady => State.runs_scrubDue enabled up steady
  case steal => exact fun s due up deferring => State.runs_scrubSteal due up deferring
  case nothingNew => exact fun s due up => State.runs_scrubPass_nothing_new due up
  case found => exact fun s l w due up ahead sound empty => State.runs_scrubPass_found due up ahead sound empty
  case idle => exact fun s l idle => State.runs_scrubPass_idle idle
  case data => exact fun s m w v h => State.runs_crcData h
  case init => exact fun s m v h => State.runs_crcInit h
  case cfg => exact fun s m v h => State.runs_crcCfg h
  case valid => exact fun s m h valid => State.runs_trngData_valid h valid
  case invalid => exact fun s m h invalid => State.runs_trngData_invalid h invalid
  case fails => exact fun s up => State.runs_healthFail up
  case returns => exact fun s up => State.runs_trngValidReturn up

end Sys2Proof.Machine
end

section
/-!
PROOFS. A flash PROGRAM whose slot has latched more words than a flash word holds.
-/

namespace Sys2Proof.Machine

/-! ### A flash word holds 16 bytes (R266) -/

theorem State.flashWord_length {s : State} {p : Nat} (code : p < 0x800000) : (s.flashWord p).length = 16 := by
  have base : p / 16 * 16 < 0x800000 := by omega
  simp only [State.flashWord, base, if_true]
  split
  · exact List.length_replicate
  · rw [List.length_map, List.length_range]

/-! ### More than four words latched -/

/-- The state after reset with a PROGRAM of T0 for the code flash waiting and five words latched for it. Writes of FLASH_DATAn stage no more than
four (R306), but the statement speaks of every state and its clause has no premise on how many are latched. -/
def fiveLatched : State :=
  { (State.reset.put (FLASHC.OP 0) 1).put (FLASHC.ADDR 0) 0x10 with
    mem := { State.reset.mem with flashQueue := [0], latched := vput State.reset.mem.latched 0 [1, 2, 3, 4, 5] } }

theorem fiveLatched_accepted : fiveLatched.flashCheck 0 = none := by decide +kernel

theorem fiveLatched_addr : fiveLatched.get (FLASHC.ADDR 0) = 0x10 := by decide +kernel

theorem fiveLatched_bytes : (fiveLatched.programBytes 0).length = 20 := by decide +kernel

/-- Refutes O23 at its clause on a PROGRAM that begins, which has the flash word read as all the bytes of the words latched. Five latched words are
20 bytes, and a flash word reads as 16. -/
theorem not_flashCommands : ¬ Obligations.FlashCommands := by
  unfold Obligations.FlashCommands
  rintro ⟨-, -, -, -, -, program, -⟩
  obtain ⟨t, -, ⟨-, -, -, written, -⟩, -⟩ := program fiveLatched 0 [] (by decide +kernel) rfl rfl fiveLatched_accepted (by decide +kernel)
  have word : (t.flashWord (fiveLatched.get (FLASHC.ADDR 0))).length = 16 := State.flashWord_length (by rw [fiveLatched_addr]; decide)
  have bytes : (t.flashWord (fiveLatched.get (FLASHC.ADDR 0))).length = 20 := (congrArg List.length written).trans fiveLatched_bytes
  exact absurd (word.symm.trans bytes) (by decide)

end Sys2Proof.Machine
end

section
/-!
PROOFS. Network time: a SET that stands at 1 already, and a channel that leaves the absolute mode with the target of an arming with AHEAD.
-/

namespace Sys2Proof.Machine

/-! ### SET as it stands at 1 (R401) -/

/-- The state after reset with SET at 1. A write that sets SET also clears it, so no run from reset shows it; the statement speaks of every
state, and its clause has no premise on SET. -/
def setStands : State := State.reset.put NTU.SET 1

theorem setStands_set : setStands.get NTU.SET = 1 := State.get_put_same State.reset NTU.SET 1

theorem setStands_admits : setStands.admits (.hart 0) 0x11 0x18 true := ⟨rfl, rfl, rfl⟩

theorem setStands_setNs_lt : setStands.get NTU.SET_NS < nsPerSec := by decide

/-- Refutes O33 at its clause on SET, which has SET read 0 after the command and yet leaves SET out of the fields that the command changes. Where SET
stood at 1 before, it cannot be both. -/
theorem not_timeSteering : ¬ Obligations.TimeSteering := by
  unfold Obligations.TimeSteering
  rintro ⟨set, -⟩
  obtain ⟨t, -, ⟨-, -, -, -, cleared, -⟩, -, fields⟩ := set setStands (.hart 0) setStands_admits setStands_setNs_lt
  have stands : t.get NTU.SET = 1 := (fields NTU.SET (by decide) (by decide)).trans setStands_set
  exact absurd (stands.symm.trans cleared) (by decide)

/-! ### A channel that leaves the absolute mode (R405, R428) -/

/-- The state after reset, with 100 written to A of channel 0. -/
def targetGiven : State := State.reset.put (NTU.CH_A 0) 100

/-- Then channel 0 has been armed as an absolute compare with AHEAD: at time 0, for 100 ns later. -/
def aheadArmed : State := targetGiven.cmdWrite (.hart 0) (pageAddr 0x11 0x100) 4 0xE

/-- Two commands lead there from the state after reset. -/
theorem exec_reset_eq_targetGiven : exec (.ntuCompareTargetWrite (.hart 0) 0 0 100) State.reset = .next targetGiven := rfl

theorem exec_targetGiven_eq_aheadArmed : exec (.ntuArm (.hart 0) 0 0xA) targetGiven = .next aheadArmed := rfl

theorem aheadArmed_ahead : aheadArmed.ntu.ahead = [(0, ())] := rfl

theorem aheadArmed_admits : aheadArmed.admits (.hart 0) 0x11 (0x100 + 0x10 * (0 : Fin 16)) true := ⟨rfl, rfl, rfl⟩

theorem aheadArmed_captured : aheadArmed.on (NTU.CH_CAPTURED (0 : Fin 16)) = false := rfl

/-- TICK32 is 100 ns short of A. -/
theorem aheadArmed_unreached :
    toSigned 32 ((aheadArmed.tick32 + 2 ^ 32 - aheadArmed.get (NTU.CH_A (0 : Fin 16))) % 2 ^ 32) < 0 := by decide

/-- A write that changes MODE of the channel to 1 ends the target that the arming with AHEAD gave. -/
theorem aheadArmed_armRelative_ahead : (aheadArmed.cmdWrite (.hart 0) (pageAddr 0x11 0x100) 4 5).ntu.ahead = [] := rfl

/-- Refutes O34 at its clause on arming a relative compare whose target lies ahead, which has nothing change but fields of the channel's register: where
the write changes MODE, it also ends the target that an arming with AHEAD gave (R405, R428). -/
theorem not_timeChannels : ¬ Obligations.TimeChannels := by
  unfold Obligations.TimeChannels
  rintro ⟨-, armRelative, -⟩
  obtain ⟨t, step, -, parts, -⟩ := armRelative aheadArmed (.hart 0) 0 1 aheadArmed_admits aheadArmed_captured (by decide) aheadArmed_unreached
  obtain rfl : aheadArmed.cmdWrite (.hart 0) (pageAddr 0x11 0x100) 4 5 = t := Host.Outcome.next.inj step
  have kept := congrArg Ntu.ahead (parts .ntu (by decide) (fun _ => Part.noConfusion))
  rw [aheadArmed_armRelative_ahead, aheadArmed_ahead] at kept
  exact List.cons_ne_nil _ _ kept.symm

end Sys2Proof.Machine
end
